-- ==== Sys2Proof/Word.lean ====
section
/-! DEFINITION. The word types of the FZ9640: bytes, 32-bit registers and indices, 64-bit counters,
and the two scales in which the model counts time. -/

namespace Sys2Proof

/-- One byte of a frame, a structure or a flash page. -/
abbrev Byte := BitVec 8

/-- A PF BAR0 register or a free-running ring index (R8, R630). -/
abbrev Word := BitVec 32

/-- A 64-bit counter (R52). -/
abbrev DWord := BitVec 64

/-- A byte string in frame order or wire order. -/
abbrev Bytes := List Byte

/-- A full stamp as one number, in units of 2^-16 ns since 1970-01-01 TAI (R69, R74). -/
abbrev Stamp := Nat

/-- One nanosecond as a `Stamp` (R74: the fraction counts 2^-16 ns). -/
def nsStamp : Nat := 65536

/-- One microsecond as a `Stamp`. -/
def usStamp : Nat := 1000 * nsStamp

/-- One millisecond as a `Stamp`. -/
def msStamp : Nat := 1000 * usStamp

/-- One second as a `Stamp`. -/
def secStamp : Nat := 1000 * msStamp

end Sys2Proof
end

