-- ==== Sys2Proof/Rules.lean ====
section
/-! DEFINITION. What a rule bank and a base image hold: stage programs, actions, templates, matchers, the
exception policy, and the sections of the configuration store that the spec names. The spec gives a bank's
contents but leaves the byte encoding of its sections to Caken (R442), so they are data here. -/

namespace Sys2Proof

/-- The headers the parser recognises (R388). -/
inductive HdrKind where
  | eth | vlan | mpls | macControl | arp | secTag | ptp | ipv4 | ipv6 | ext | ah | esp | gre
  | udp | tcp | icmp | vxlan | geneve
  deriving DecidableEq, Repr

/-- The fields the parser extracts (R388). -/
inductive Fld where
  | da | sa | etherType | tpidIndex | pcp | dei | vid | label | tc | sBit | ttl | opcode | operation
  | sha | spa | tha | tpa | tci | an | sl | pn | sci | messageType | versionPtp | domain | flagField
  | sequenceId | ihl | dscp | ecn | totalLen | ident | df | mf | fragOffset | protocol | options
  | trafficClass | flowLabel | payloadLen | nextHeader | hopLimit | extType | extLen | routingType
  | segmentsLeft | spi | seqNo | cFlag | kFlag | sFlag | key | vsid | flowId | srcPort | dstPort | length
  | ackNo | dataOffset | tcpFlags | window | icmpType | icmpCode | vxFlags | vni | version | optLen
  | oFlag | protoType
  deriving DecidableEq, Repr

/-- One parsed header: kind, level (R390), first byte, length and its extracted fields. -/
structure Hdr where
  kind : HdrKind
  level : Nat
  start : Nat
  len : Nat
  fields : List (Fld × Nat)
  deriving DecidableEq, Repr

/-- The anchors of matchers and extractors (*Payload matching and extraction*). -/
inductive Anchor where
  | frame | outerL3 | innerL3 | innerL4 | payload
  deriving DecidableEq, Repr

/-- A matcher entry (R401, R402); width 0 is an unused entry. -/
structure Matcher where
  anchor : Anchor
  width : Nat
  offset : Nat
  value : Bytes
  mask : Bytes
  deriving DecidableEq, Repr

/-- An extractor entry (R401, R403); width 0 is an unused entry. -/
structure Extractor where
  anchor : Anchor
  width : Nat
  offset : Nat
  deriving DecidableEq, Repr

/-- The metadata a key or a predicate can take (*Passes and metadata*, R420 to R421). -/
inductive MetaField where
  | hdr (level : Nat) (kind : HdrKind) (nth : Nat) (f : Fld)
  | hdrValid (level : Nat) (kind : HdrKind) (nth : Nat)
  | pattern (k : Nat)
  | pk (j : Nat)
  | pkValid (j : Nat)
  | firstCode | malformed | parseTrunc | follower
  | ingressPort | injection | sendFn | sendWq | sendPort | admClass | stampNs | stampFrac | passNo
  | hit (stage : Nat)
  | actionIndex (stage : Nat)
  | hitDest (stage : Nat)
  | destKind | destNum | puntSet | puntReason
  | mirrorSet (m : Nat)
  | queueClass | mergeGroup | ledgerClass | relGroup | relSet | relTime | dropFlag | recircFlag
  | encryptSet | encryptCtx | decryptSet | decryptCtx | encapSet | encapTmpl | decapLevel
  | vrf | colour
  | scratch (i : Nat)
  | const (v : Nat)
  deriving DecidableEq, Repr

/-- A stage predicate over metadata bits. -/
inductive Pred where
  | always
  | test (f : MetaField) (mask value : Nat)
  | both (a b : Pred)
  | either (a b : Pred)
  | neither (a : Pred)
  deriving DecidableEq, Repr

/-- The lookup kinds of R422. -/
inductive LookupKind where
  | none | fdbDst | fdbSrc | exact | lpm4 | lpm6 | ternary | index
  deriving DecidableEq, Repr

/-- A primary destination (R425); `storage` is the connection that a hit of profile 15 names (R561). -/
inductive Dest where
  | port (n : Nat)
  | mcast (g : Nat)
  | host (wq : Nat)
  | merge (g : Nat)
  | storage (conn : Nat)
  deriving DecidableEq, Repr

/-- One edit of a REWRITE template (R425, value 0x11). -/
inductive EditOp where
  | setDa (b : Bytes)
  | setSa (b : Bytes)
  | pushVlan (tpid tci : Nat)
  | popVlan
  | decTtl
  | setDscp (v : Nat)
  | setPcp (v : Nat)
  deriving DecidableEq, Repr

/-- The requested time of a RELEASE_TIME action (R425, value 0x0E). -/
inductive RelSource where
  | offsetNs (n : Nat)
  | pk (j : Nat)
  deriving DecidableEq, Repr

/-- Where SET_META writes (R425, value 0x12). -/
inductive MetaDst where
  | vrf
  | scratch (i : Nat)
  deriving DecidableEq, Repr

/-- The actions of R425. `forwardHit` is FORWARD naming the DEST that an FDB hit of the stage delivered
(R460's following text). -/
inductive Action where
  | forward (d : Dest)
  | forwardHit
  | toHost (wq : Nat)
  | drop
  | punt (reason : Nat)
  | mirror (m : Nat)
  | recirculate
  | encapsulate (tmpl : Nat)
  | decapsulate (level : Nat) (ethTmpl : Bytes)
  | encrypt (handle : Nat)
  | decrypt (handle : Nat)
  | setQueue (c : Nat)
  | mergeGroup (g : Nat)
  | ledgerClass (c : Nat)
  | releaseTime (g : Nat) (t : RelSource)
  | count (i : Nat)
  | police (i : Nat) (aware redDrop : Bool)
  | rewrite (edit : Nat)
  | setMeta (dst : MetaDst) (src : MetaField)
  deriving DecidableEq, Repr

/-- A stage program (*Stages and lookups*). `table` is the region of a TERNARY stage, the profile of an EXACT
stage, the table number of an INDEX stage. -/
structure Stage where
  pred : Pred
  kind : LookupKind
  key : List (MetaField × Nat)
  table : Nat
  hitList : List Action
  missList : List Action
  deriving DecidableEq, Repr

/-- The tunnel formats of *Tunnels*. -/
inductive TunnelFmt where
  | vxlan | geneve | nvgre | gre | ipInIp | mpls
  deriving DecidableEq, Repr

/-- A tunnel template of up to 128 bytes. `ipPayload` says that an MPLS template carries the frame's IP packet and not
the frame. -/
structure Template where
  fmt : TunnelFmt
  bytes : Bytes
  zeroUdp6 : Bool
  ipPayload : Bool
  deriving DecidableEq, Repr

/-- A ternary row a bank image brings to an IMAGE region (R487). -/
structure ImageRow where
  region : Nat
  value : Nat
  mask : Nat
  action : Nat
  deriving DecidableEq, Repr

/-- A rule bank (R441). `drops` lists the exception codes whose policy is DROP (R397); `sFields` is the bank's
copy of the S-class fields of HBX and PIPE, as pairs of offset in the slice window and value. -/
structure Bank where
  bankId : Nat
  stages : List Stage
  actions : List (List Action)
  indexTables : List (List Nat)
  templates : List Template
  edits : List (List EditOp)
  drops : List Nat
  matchers : List Matcher
  extractors : List Extractor
  sFields : List (Nat × Word)
  rows : List ImageRow
  deriving DecidableEq, Repr

/-- A bank image as CONFIG_STAGE reads it: its first 64 bytes, which are the header of R442, and its signature; the verdict of
the signature check and of the range check of the sections that only Caken and the device know, the matchers and extractors as R401
lays them out, and the rest of the bank. -/
structure BankImage where
  head : Bytes
  signature : Bytes
  sigOk : Bool
  badOffset : Option Nat
  loadUs : Nat
  matching : Bytes
  bank : Bank
  deriving DecidableEq, Repr

/-- A firmware image as the boot ROM reads it (R688, R690). -/
structure FirmwareInfo where
  deviceOk : Bool
  sigOk : Bool
  svn : Nat
  version : Word
  raiseMin : Bool
  hash : Bytes
  deriving DecidableEq, Repr

/-- The capabilities of *Configuration space*. -/
inductive CapKind where
  | pm | msix | pcie | aer | serial | ari | ats | sriov | tph | dataLink | phys16 | margining | phys32 | doe | phys64 | phys128
  deriving DecidableEq, Repr

/-- The capability table (CAPABILITY section; *Configuration space*). `layout` gives the place of each capability in the
configuration space of a PF (`false`) or VF (`true`), in the order of its chain. -/
structure CapTable where
  layout : List (CapKind × Bool × Nat)
  pfVectors : Nat
  vfTable : Nat
  vfOffset : Nat
  vfStride : Nat
  subsystem : Nat
  sriov : Bool
  ats : Bool
  tph : Bool
  doe : Bool
  deriving DecidableEq, Repr

/-- One island's row of the clock table (*The clock table*). -/
structure ClockRow where
  island : Nat
  mhz : Nat
  cfgDiv : Nat
  gateDis : Bool
  deriving DecidableEq, Repr

/-- One binding of the MAILBOX section (R717). -/
structure MbxBind where
  channel : Nat
  sender : Nat
  receiver : Nat
  vector : Nat
  deriving DecidableEq, Repr

/-- One code of the EVENTS section: token bucket (R759) and the register pairs added to its snapshot (R836). -/
structure EventCfg where
  code : Nat
  burst : Nat
  refillMs : Nat
  regs : List Nat
  deriving DecidableEq, Repr

/-- The TIME section: holdover model of R837 in units of 2^-16 ns/s and 2^-16 ns/s^2, and the advertised
clockClass and clockAccuracy by servo state; per port whether it runs two-step, its delayAsymmetry, and its transport: 0
Ethernet, 1 UDP over IPv4, 2 UDP over IPv6. -/
structure TimeSection where
  y : Nat
  d : Nat
  clockClass : List Nat
  clockAccuracy : List Nat
  twoStep : List Nat
  asymmetry : List (Nat × Int)
  transport : List (Nat × Nat)
  deriving DecidableEq, Repr

/-- A ledger key slot (R215 to R217); the private key is held wrapped. -/
structure KeySlot where
  keyId : Nat
  pub : Bytes
  wrapped : Bytes
  cert : Bytes
  deriving DecidableEq, Repr

/-- What a slot of each flash device is found to hold; nothing where it can't be read (R695). -/
structure SlotRead (α : Type) where
  flash0 : Option α
  flash1 : Option α
  deriving DecidableEq, Repr

/-- Whether an operation ended well on each flash device (R695, R696). -/
structure FlashOk where
  flash0 : Bool
  flash1 : Bool
  deriving DecidableEq, Repr

/-- A base image as the device reads it from a base slot: its header and sections (*Base image contents*), and the device section
behind it, which holds the ledger keys by slot and the key selection (R691). -/
structure BaseImage where
  head : Bytes
  keys : List (Nat × KeySlot)
  keySel : Option Nat
  ownerOk : Bool
  macOk : Bool
  deviceSectionOk : Bool
  sectionsOk : Bool
  len : Nat
  hash : Bytes
  caps : CapTable
  clocks : List ClockRow
  regs : List (Nat × Word)
  bank : BankImage
  counterMap : List (Nat × Nat)
  mailbox : List MbxBind
  time : TimeSection
  signers : List Nat
  clearKeys : List Nat
  events : List EventCfg
  pldm : List (Nat × Nat)
  macsec : List Nat
  serdes : List (Nat × Nat)
  epoch : Nat
  ports : List Nat
  deriving DecidableEq, Repr

/-- The host-given part of a table record (R459). -/
inductive TableRec where
  | fdb (bd mac : Nat) (static : Bool) (dest action : Nat)
  | flow (profile : Nat) (key : Bytes) (action : Nat)
  | lpm (v6 : Bool) (vrf prefixLen : Nat) (pfx action : Nat)
  | tern (row banks action value mask : Nat)
  deriving DecidableEq, Repr

end Sys2Proof
end

