-- ==== Sys2Proof/Syntax.lean ====
section
/-! DEFINITION. The commands of the block: one constructor of `Instr` for each row of opcode_table.json, with
the operands the spec gives its step. The spec's table gives no encoding for any row, so a command is its
constructor. Verdicts of checks against keys outside the block (signatures, authentication tags, frame check
sequences) and contents read from host memory or flash are operands. -/

namespace Sys2Proof

/-- What a request of the host is to (R593): PF BAR0, or the doorbell BAR of a function. -/
inductive Bar where
  | bar0
  | doorbell (fn : Nat)
  deriving DecidableEq, Repr

/-- Where an access of the host goes: its BAR and the address in it. -/
structure BarAddr where
  bar : Bar
  addr : Nat
  deriving DecidableEq, Repr

/-- A read of BAR0: its address, and whether it is the aligned read of 8 bytes (R9). -/
structure BarRead where
  addr : Nat
  wide : Bool
  deriving DecidableEq, Repr

/-- A read of a slice's PIPE_CNT_PKT_LO, and whether it is the aligned read of 8 bytes (R9). -/
structure PipeRead where
  slice : Nat
  wide : Bool
  deriving DecidableEq, Repr

/-- What the lanes of a port show as its link goes down (R370): the lanes aligned, with signal and with clock recovery, one bit
each, and whether the port has local fault (R329). -/
structure LineLoss where
  locks : Nat
  signal : Nat
  cdr : Nat
  localFault : Bool
  deriving DecidableEq, Repr

/-- The opcode of an admin entry and the operation that its OP field names. -/
structure OpcodeOp where
  opcode : Nat
  op : Nat
  deriving DecidableEq, Repr

/-- An admin entry being worked: its function, its index in the admin ring, its buffer address (bytes 8 to 15,
R641) and whether every reserved byte of it is 0. `len` is how many bytes of the buffer the command reads from host memory.
`reading`: so far the entry only starts and its reads are issued (R587); the entry again without it runs on what they brought. -/
structure AdminRef where
  fn : Nat
  idx : Word
  buf : Nat
  rsvOk : Bool
  len : Nat := 0
  reading : Bool := false
  deriving DecidableEq, Repr

/-- A work entry being worked: the global WQ number, its index and whether FLAGS and every reserved byte are 0 (R641 to R643).
`reads` are the stretches of host memory, as address and length, that the entry's item reads; `reading` as for an admin entry. -/
structure WorkRef where
  wq : Nat
  idx : Word
  rsvOk : Bool
  reads : List (Nat × Nat) := []
  reading : Bool := false
  deriving DecidableEq, Repr

/-- An entry that no other command carries: of opcode NOP, or of one that R642's table does not have (R643). -/
structure PlainEntry where
  ref : WorkRef
  opcode : Nat
  deriving DecidableEq, Repr

/-- An access of the host to BAR4 of a function: the MSI-X table and the Pending Bits (R593, R676), by dword. -/
inductive MsixAccess where
  | write (offset : Nat) (value : Word)
  | read (offset : Nat)
  deriving DecidableEq, Repr

/-- The kinds of PTP message that reach the PTP instance (*IEEE 1588-2019 operation*). -/
inductive PtpMsgKind where
  | sync | followUp | delayReq | delayResp | pdelayReq | pdelayResp | pdelayRespFollowUp | announce
  | management
  deriving DecidableEq, Repr

/-- A received PTP message: its ingress stamp, the times it carries, its corrections, and what Announce brings.
`slave` is the BMCA's verdict that the port is in SLAVE state; `seq` and `source` are its sequenceId and its
sourcePortIdentity, which a response returns; `dataSet` is the managementId that a management GET asks for. -/
structure PtpMsg where
  kind : PtpMsgKind
  seq : Nat
  source : Bytes
  rxStamp : Stamp
  twoStep : Bool
  origin : Stamp
  response : Stamp
  correction : Int
  slave : Bool
  utcOffset : Int
  leap61 : Bool
  leap59 : Bool
  dataSet : Nat
  deriving DecidableEq, Repr

/-- The messages a PTP port sends at its intervals (R109; row PTP_MESSAGE_INTERVAL). -/
inductive PtpKind where
  | sync | announce | delayReq | pdelayReq
  deriving DecidableEq, Repr

/-- What a Calender pass measured (R148): lock per rate, RX_DELTA and TX_DELTA per rate in units of 2^-10 ns,
time-copy offset in units of 2^-16 ns. -/
structure CalResult where
  locks : List Bool
  rx : List Int
  tx : List Int
  ofs : Int
  deriving DecidableEq, Repr

/-- LEDGER_CONFIGURE with OP ENABLE_SET (R251). -/
structure RingSetArgs where
  set : Nat
  dest : Nat
  recLog2 : Nat
  hdrLog2 : Nat
  vector : Nat
  recBase : Nat
  hdrBase : Nat
  tailBase : Nat
  deriving DecidableEq, Repr

/-- LEDGER_CONFIGURE with OP ARCHIVE (R252). -/
structure ArchiveArgs where
  set : Nat
  conn : Nat
  nsid : Nat
  recLba : Nat
  recLbas : Nat
  hdrLba : Nat
  hdrLbas : Nat
  deriving DecidableEq, Repr

/-- MERGE_CONFIGURE CREATE and STAGE (R304). -/
structure MergeArgs where
  group : Nat
  destKind : Nat
  dest : Nat
  windowNs : Nat
  maxHeld : Nat
  members : List Nat
  deriving DecidableEq, Repr

/-- RELEASE_CONFIGURE CREATE and STAGE (R309). -/
structure ReleaseArgs where
  group : Nat
  speed : Nat
  fec : Nat
  latePolicy : Nat
  horizonUs : Nat
  members : List Nat
  deriving DecidableEq, Repr

/-- A frame as it arrives at a port: the lane and stream bit of the SFD's first bit and the latch time of its
word (R139, R140), how many steps of the time base have come since that latch (R199), its bytes on the wire with the FCS, the FCS verdict, whether link was lost during it (R336),
and the ICV verdict of MACsec. -/
structure RxFrame where
  lane : Nat
  tLatch : Stamp
  steps : Nat
  bit : Nat
  wire : Bytes
  fcsOk : Bool
  linkLost : Bool
  icvOk : Bool
  deriving DecidableEq, Repr

/-- An SA that the firmware installs as MKA has agreed it (R350): key, salt, SSCI and PN. -/
structure MkaSa where
  key : Bytes
  salt : Bytes
  ssci : Word
  pn : Nat
  deriving DecidableEq, Repr

/-- The channel that an SA is installed on, and the SA where it is the firmware that installs it. -/
structure SaPlace where
  sc : Nat
  mka : Option MkaSa
  deriving DecidableEq, Repr

/-- The key of a fragment table entry (R405). -/
structure FragKey where
  version : Nat
  sa : Nat
  da : Nat
  ident : Nat
  proto : Nat
  tunnel : Nat
  deriving DecidableEq, Repr

/-- The common fields of a table command (R490). -/
structure TableArgs where
  table : Nat
  slice : Nat
  flags : Nat
  bufLen : Nat
  pos : Nat
  walkSeq : Word
  maxRecords : Nat
  port : Nat
  bd : Nat
  deriving DecidableEq, Repr

/-- A PDU a storage connection receives (*NVMe/TCP initiator*). An ICResp says with `ok` whether it supports the options asked
for. -/
inductive Pdu where
  | icResp (ok : Bool) (maxH2c : Nat)
  | icRespMalformed
  | connectResp (status cntlid : Nat)
  | capsuleResp (cid dw0 status : Nat)
  | c2hData (cid offset : Nat) (data : Bytes) (digestOk last success : Bool)
  | r2t (cid ttag offset length : Nat)
  | c2hTermReq
  | headerDigestError
  | malformed
  deriving DecidableEq, Repr

/-- A TCP segment of a storage connection: flags, acknowledged sequence number, length, window as its scale factor gives it,
whether a SYN agrees to window scaling, the sequence number up to which the stream is whole once the segment is in, and the PDUs that
this completes. -/
structure TcpSeg where
  syn : Bool
  ack : Option Word
  rst : Bool
  fin : Bool
  len : Nat
  window : Nat
  scaled : Bool
  upTo : Word
  pdus : List Pdu
  deriving DecidableEq, Repr

/-- A crypto context record (R547), and whether its reserved bytes are 0. -/
structure CtxRec where
  type : Nat
  alg : Nat
  flags : Nat
  icvLen : Nat
  spi : Nat
  replayWin : Nat
  hdrLen : Nat
  salt : Bytes
  key : Bytes
  seq : Nat
  softBytes : Nat
  hardBytes : Nat
  hdr : Bytes
  tcpSeq : Nat
  recordNo : Nat
  iv : Bytes
  rsvOk : Bool
  deriving DecidableEq, Repr

/-- A connection record (R580), with the 1,024 bytes of Fabrics Connect data behind it. -/
structure ConnRec where
  queueKind : Nat
  flags : Nat
  port : Nat
  cls : Nat
  mss : Nat
  vlan : Nat
  localIp : Nat
  remoteIp : Nat
  localPort : Nat
  remotePort : Nat
  qid : Nat
  sqsize : Nat
  wq : Nat
  rcvBufKib : Nat
  peerMac : Nat
  localMac : Nat
  rsvOk : Bool
  connectData : Bytes
  deriving DecidableEq, Repr

/-- An element of a scatter list (R566), with whether its reserved bytes are 0. -/
structure SglElem where
  addr : Nat
  len : Nat
  rsvOk : Bool
  deriving DecidableEq, Repr

/-- A STO_CMD entry (R566). `sgl` is the list of addresses and lengths that it names, read from host memory; empty when
SGL_COUNT is 0. `data` is what the host's buffer holds, for a command with DIR 1. -/
structure StoArgs where
  nvmeOpc : Nat
  dir : Nat
  sglCount : Nat
  sgl : List SglElem
  conn : Nat
  nsid : Nat
  dataLen : Nat
  addr : Nat
  cdw : Bytes
  data : Bytes
  deriving DecidableEq, Repr

/-- What a non-posted request of the device is for (R587, R603, R613): the fetch of a work entry, an item's own read, or the
translation of a page. -/
inductive ReadItem where
  | translation (fn page : Nat)
  | fetch (wq : Nat)
  | adminFetch (fn : Nat)
  | work (w : WorkRef)
  | admin (r : AdminRef)
  deriving DecidableEq, Repr

/-- The correctable link errors of R610. -/
inductive CorrErr where
  | receiver | badTlp | badDllp | replayTimeout | replayRollover
  deriving DecidableEq, Repr

/-- The errors of R610. `asCompleter` is a request that the device answers with Completer Abort, or with Unsupported Request. -/
inductive LinkErr where
  | correctable (e : CorrErr)
  | poisonedData (tag : Nat)
  | poisonedFetch (tag : Nat)
  | poisonedWrite
  | unexpectedCompletion
  | asCompleter (abort : Bool)
  | ecrc | malformedTlp | receiverOverflow | flowControl
  | dataLinkProtocol
  | internalError
  deriving DecidableEq, Repr

/-- CREATE_WQ (R654). -/
structure WqArgs where
  type : Nat
  log2Size : Nat
  nr : Nat
  base : Nat
  headBlock : Nat
  bufSize : Nat
  deriving DecidableEq, Repr

/-- CREATE_NR (R667). -/
structure NrArgs where
  log2Size : Nat
  report : Bool
  vector : Nat
  modCount : Nat
  modTimerUs : Nat
  base : Nat
  deriving DecidableEq, Repr

/-- A SEND entry and the frame read from its buffer (R664). -/
structure SendArgs where
  port : Nat
  cls : Nat
  relGroup : Nat
  reqTime : Nat
  length : Nat
  frame : Bytes
  deriving DecidableEq, Repr

/-- The unit kinds of R748. -/
inductive UnitKind where
  | port | slice | cryEngine | stoEngine | signer | parseLane | sm3Engine | builderSide | deckleSide | flash
  deriving DecidableEq, Repr

/-- A unit as SERVICE_STATE names it (R750); `none` is a KIND value that names no kind. -/
structure UnitArgs where
  kind : Option UnitKind
  slice : Nat
  unit : Nat
  deriving DecidableEq, Repr

/-- The item an error strikes (R739). -/
inductive ErrItem where
  | none
  | frame (slice id : Nat)
  | copy (id : Nat)
  | work (w : WorkRef)
  | admin (r : AdminRef)
  | record (set : Nat)
  | slot (n : Nat)
  deriving DecidableEq, Repr

/-- A crypto engine that takes its next item, and whether a buffer cell of it returns an uncorrectable error (R511). -/
structure EngineTurn where
  engine : Nat
  cellError : Bool
  deriving DecidableEq, Repr

/-- An error as its unit detects it: class (0 CE, 1 UCI, 2 UCU, 3 FATAL; R731), source number of the subsystem,
the unit when it has a service state, the item, and for a CE whether it lay in HBM. -/
structure ErrArgs where
  cls : Nat
  source : Nat
  unit : Option UnitArgs
  item : ErrItem
  hbm : Bool
  deriving DecidableEq, Repr

/-- A word that a lookup reads (R755): of a stage's program or an INDEX table in a bank, of an LPM route (by VRF, prefix and length),
or a ternary row. -/
inductive RuleWord where
  | stage (bank : Bool) (stage : Nat)
  | index (bank : Bool) (table row : Nat)
  | route (v6 : Bool) (vrf pfx len : Nat)
  | ternary (row : Nat)
  deriving DecidableEq, Repr

/-- What a patrol read found to be bad (R755). -/
inductive PatrolTarget where
  | fdb (slice slot : Nat)
  | flow (slot : Nat)
  | ruleWord (slice : Nat) (word : RuleWord)
  | context (index : Nat)
  | bufferCell (copy : Nat)
  | staging (set : Nat)
  deriving DecidableEq, Repr

/-- A clear token (R765) with the verdict of its signature check. -/
structure ClearToken where
  magic : Nat
  version : Nat
  scope : Nat
  serial : Nat
  nonce : DWord
  clearThrough : Nat
  keyId : Nat
  sigOk : Bool
  deriving DecidableEq, Repr

/-- What the board sensors read for a telemetry record (R770). -/
structure Sensors where
  temps : List Int
  railMv : List Nat
  railCurrent : List Nat
  powerDeciW : Nat
  deriving DecidableEq, Repr

/-- A shaper (R521, R523). -/
inductive ShaperId where
  | cls (port c : Nat)
  | port (port : Nat)
  | vfRx (vf : Nat)
  | vfTx (vf : Nat)
  deriving DecidableEq, Repr

/-- The commands (opcode_table.json, one constructor per row). -/
inductive Instr where
  /-- REGISTER_WRITE (R14): A host write to a PF BAR0 register field that has no row of its own takes effect as its access code and change class state. -/
  | registerWrite (addr len data : Nat)
  /-- UNDECODED_ACCESS (R46): A read or write of a BAR0 address that no block decodes returns 0 or is discarded and records a NOTICE. -/
  | undecodedAccess (at_ : BarAddr) (write : Bool)
  /-- BAR0_BAD_LENGTH_READ (R594): A PF BAR0 read of a length other than 4 bytes or aligned 8 bytes receives Completer Abort and is counted. -/
  | bar0BadLengthRead (addr len : Nat)
  /-- BROADCAST_WRITE (R47): A write to a broadcast or group window is applied to every member at the same offset. -/
  | broadcastWrite (addr : Nat) (data : Word)
  /-- BROADCAST_READ (R48): A read of a broadcast or group window returns the lowest member's value and sets MISMATCH when members differ. -/
  | broadcastRead (addr : Nat)
  /-- COUNTER_LO_READ (R53): A read of a _LO counter word returns the low half, clears the counter and latches the high half. -/
  | counterLoRead (rd : BarRead)
  /-- RC_REGISTER_READ (R11): A read of an RC field returns its value and clears it in the same access. -/
  | rcRegisterRead (rd : BarRead)
  /-- PIPE_COUNTER_READ (R457): A read of PIPE_CNT_PKT_LO returns and clears the selected counter pair and latches its other words. -/
  | pipeCounterRead (rd : PipeRead)
  /-- CONFIG_COMMIT (R26): A CONFIG_COMMIT command is checked against pending commits and drains and starts arming the units. -/
  | configCommit (r : AdminRef) (flags : Nat)
  /-- COMMIT_UNITS_ARMED (R29): Once every armed unit reports its shadow loaded, the device assigns T_c, broadcasts it and assigns the next epoch. -/
  | commitUnitsArmed
  /-- COMMIT_TIME_REACHED (R25): When the time base reaches T_c the new epoch takes effect for frames stamped from then on. -/
  | commitTimeReached
  /-- BANK_DRAIN_COMPLETE (R31): Once every port front of a slice has passed T_c and no frame with the old bank tag remains, the slice releases its old bank. -/
  | bankDrainComplete (slice : Nat)
  /-- JOURNAL_WRITE_COMPLETE (R701): A persistent journal record finishes programming, with its commit marker written once every device holds header and payload. -/
  | journalWriteComplete (ok0 ok1 : Bool)
  /-- CONFIG_STAGE (R445): CONFIG_STAGE checks a signed bank image and loads it into the inactive bank of all eight slices. -/
  | configStage (r : AdminRef) (kind bufLen : Nat) (image : BankImage)
  /-- CONFIG_ABORT (R17): CONFIG_ABORT discards every staged shadow written since the last commit. -/
  | configAbort (r : AdminRef)
  /-- CONFIG_READ_STAGED (R454): CONFIG_READ with WHAT STAGED returns the staged shadow of an S-class or S/Ream-class field. -/
  | configReadStaged (r : AdminRef) (addr : Nat)
  /-- CONFIG_READ_IN_EFFECT (R454): CONFIG_READ with WHAT IN_EFFECT returns the value in effect of an S-class or S/Ream-class field. -/
  | configReadInEffect (r : AdminRef) (addr : Nat)
  /-- CONFIG_READ_BANKS (R454): CONFIG_READ with WHAT BANKS returns only the bank identifiers, staged state and epoch. -/
  | configReadBanks (r : AdminRef)
  /-- SNAPSHOT_COUNTERS (R35): SNAPSHOT_COUNTERS sets T_s two microseconds ahead and starts diverting later increments to side accumulators. -/
  | snapshotCounters (r : AdminRef) (flags bufLen : Nat)
  /-- COUNTER_LATCH (R38): Once every port front has passed T_s and every unit has counted frames stamped before it, counters are latched and cleared or merged. -/
  | counterLatch
  /-- SNAPSHOT_BUFFER_WRITTEN (R43): The latched counters have been written to the host buffer and the snapshot entry completes. -/
  | snapshotBufferWritten
  /-- PORT_IDLE_MARKER (R23): After 100 ns without a frame, and every 100 ns after, a port island sends an idle marker that advances the port's progress front. -/
  | portIdleMarker (port : Nat)
  /-- PPS_IN_EDGE (R81): A qualifying PPS_IN edge is stamped, counted toward qualification and yields a servo offset measurement. -/
  | ppsInEdge (input : Nat) (stamp : Stamp) (highNs : Nat)
  /-- PPS_EDGE_TIMEOUT (R81): No PPS edge arrives within 1.1 s of the previous one and the source is disqualified with REASON 1. -/
  | ppsEdgeTimeout (source : Nat)
  /-- TOD_RX_MESSAGE (R101): A time-of-day message received on TOD_RXD is checked and, if accepted, names the preceding PPS_IN0 edge. -/
  | todRxMessage (msg : Bytes) (stopEnd : Stamp)
  /-- PTP_MESSAGE (R108): A PTP event or general message is handled by the PTP instance and may yield an offset or path-delay measurement. -/
  | ptpMessage (port : Nat) (m : PtpMsg)
  /-- PTP_SLAVE_LOST (R83): The PTP slave port leaves SLAVE state or misses 3 Sync intervals and the PTP source is disqualified. -/
  | ptpSlaveLost (leftSlave : Bool)
  /-- HOST_SOURCE_TIMEOUT (R84): Two seconds pass without TIME_ADJUST and the HOST source is disqualified. -/
  | hostSourceTimeout
  /-- REVERTIVE_SWITCH (R85): A higher-ranked source has been qualified for 10 s in revertive mode and becomes the active source. -/
  | revertiveSwitch (source : Nat)
  /-- HOLDOVER_EXPIRED (R86): Time in HOLDOVER reaches the holdover limit and the servo enters FREE_RUN. -/
  | holdoverExpired
  /-- FREF_DISQUALIFIED (R78): A frequency reference leaves its ppm range or misses edges for 1 µs and the island fails over to the partner PLL. -/
  | frefDisqualified (n : Nat)
  /-- FREF_QUALIFIED (R77): A frequency reference becomes qualified and takes part in PLL reference selection. -/
  | frefQualified (n : Nat)
  /-- TIME_STEP_AUTO (R90): An automatic step of the time base in ACQUIRING takes place once no commit or snapshot holds it back. -/
  | timeStepAuto
  /-- TIME_SET_ABSOLUTE (R114): TIME_SET with MODE ABSOLUTE steps the time base to the given full stamp. -/
  | timeSetAbsolute (r : AdminRef) (seconds nanoseconds fraction : Nat)
  /-- TIME_SET_RELATIVE (R115): TIME_SET with MODE RELATIVE steps the time base by the signed STEP. -/
  | timeSetRelative (r : AdminRef) (delta : Int)
  /-- TIME_ADJUST (R117): TIME_ADJUST applies a frequency and phase correction from the host, or only keeps the HOST source qualified. -/
  | timeAdjust (r : AdminRef) (mode hint : Nat) (freq phase offset : Int)
  /-- TIME_STATUS (R120): TIME_STATUS writes back the servo state, source, offsets and estimated error. -/
  | timeStatus (r : AdminRef)
  /-- PPS_OUT_RISE (R96): PPS_OUTn rises at each TAI second boundary minus its advance. -/
  | ppsOutRise (n : Nat)
  /-- PPS_OUT_FALL (R96): PPS_OUTn falls after its configured high time. -/
  | ppsOutFall (n : Nat)
  /-- TOD_TX_MESSAGE (R99): 100 ms after the selected PPS_OUT edge the device sends the time-of-day message naming that edge. -/
  | todTxMessage
  /-- EVT_IN_EDGE (R104): An edge on an enabled EVT_INn input is stamped into its FIFO or counted as overflow. -/
  | evtInEdge (n : Nat) (stamp : Stamp) (widthNs : Nat) (falling : Bool)
  /-- EVT_POP (R107): A write of 1 to TB_EVT_POP moves the oldest event stamp into the stamp registers. -/
  | evtPop (n : Nat)
  /-- TIME_LATCH (R123): A write of 1 to TB_TIME_LATCH copies the time base into the time registers at one edge. -/
  | timeLatch
  /-- CALENDER_PASS (R146): Every 100 ms each port die starts a Calender pass on its pilot loop. -/
  | calenderPass (die : Nat)
  /-- CALENDER_PASS_COMPLETE (R148): A Calender pass completes and its result is accepted or rejected. -/
  | calenderPassComplete (die : Nat) (result : CalResult)
  /-- CAL_STALE (R154): The newest accepted pass of a die becomes older than STALE_MS and STP_CAL_SET.STALE sets. -/
  | calStale
  /-- CABLE_MEAS_TIMEOUT (R162): Ten seconds pass without an accepted meanLinkDelay measurement and the measured cable delay becomes invalid. -/
  | cableMeasTimeout (port : Nat)
  /-- REAM_BOUNDARY (R197): A Ream ends and the next begins, and S/Ream-class values, calibration results and rejoins due at the boundary apply. -/
  | reamBoundary
  /-- REAM_SEAL (R200): Twenty microseconds after a Ream ends it is sealed, IN_FLIGHT leaves are formed, trees reduced and the Ream root formed. -/
  | reamSeal
  /-- SIGNATURE_COMPLETE (R219): A signer finishes and checks a Ream header signature, releasing it or leaving service for another signer to retry. -/
  | signatureComplete (signer : Nat) (ok : Bool)
  /-- RECORD_RING_WRITE (R225): Staged ledger records are written to their ring set's record ring once it has room, followed by the tail block. -/
  | recordRingWrite (set : Nat)
  /-- HEADER_RING_WRITE (R226): A signed Ream header and root sheet are written to every enabled ring set once it has room, followed by the tail block. -/
  | headerRingWrite (set : Nat)
  /-- LEDGER_CONSUMER_WRITE (R267): A host write of a ledger record or header ring consumer index frees entries, or is ignored if it passes the producer. -/
  | ledgerConsumerWrite (set : Nat) (header : Bool) (cons : Word)
  /-- LEDGER_RING_MODERATION (R266): The ledger ring set's moderation timer or count expires and its MSI-X vector is raised. -/
  | ledgerRingModeration (set : Nat)
  /-- CHECKPOINT_WRITE (R208): After a Ream ending on a second boundary is signed, or near the reservation end, a checkpoint is programmed into both flash devices. -/
  | checkpointWrite
  /-- CHECKPOINT_PROGRAM_COMPLETE (R209): A checkpoint finishes programming in the flash devices, or fails in one or both. -/
  | checkpointProgramComplete (ok0 ok1 : Bool)
  /-- ARCHIVE_WRITE_COMPLETE (R569): An NVMe archive Write completes, releasing its records or headers from staging or keeping them on failure. -/
  | archiveWriteComplete (set : Nat) (lba : Nat) (ok : Bool)
  /-- ARCHIVE_INDEX_WRITE (R243): Once per second the device rewrites the archive index block. -/
  | archiveIndexWrite (set : Nat)
  /-- ARCHIVE_RECONNECT (R570): The backoff wait of a failed archive connection expires and the device tries to reconnect. -/
  | archiveReconnect (set : Nat)
  /-- LEDGER_ENABLE_SET (R251): LEDGER_CONFIGURE with OP ENABLE_SET enables a ring set with its rings, tail block and vector. -/
  | ledgerEnableSet (r : AdminRef) (a : RingSetArgs)
  /-- LEDGER_ARCHIVE (R252): LEDGER_CONFIGURE with OP ARCHIVE binds a storage connection and namespace regions to a ring set. -/
  | ledgerArchive (r : AdminRef) (a : ArchiveArgs)
  /-- LEDGER_DISABLE_SET (R254): LEDGER_CONFIGURE with OP DISABLE_SET stops a ring set from taking records and headers. -/
  | ledgerDisableSet (r : AdminRef) (set : Nat)
  /-- LEDGER_ROTATE_KEY (R255): LEDGER_ROTATE_KEY generates a ledger key into a slot and writes its certificate. -/
  | ledgerRotateKey (r : AdminRef) (slot bufLen : Nat)
  /-- LEDGER_EXPORT_KEY (R257): LEDGER_EXPORT_KEY writes the certificate of a ledger key to a host buffer. -/
  | ledgerExportKey (r : AdminRef) (slot keyId bufLen : Nat)
  /-- SM3_ENGINE_FAULT (R246): An SM3 engine fails its residue check, leaves service, and the spare takes its role and restarts its work. -/
  | sm3EngineFault (slice engine : Nat)
  /-- BUILDER_SIDE_FAULT (R248): A Ream builder side detects its own fault and leaves service, the other side continuing. -/
  | builderSideFault (side : Nat)
  /-- DECKLE_DESCRIPTOR_ARRIVAL (R280): A merge descriptor reaches the Deckle and is held in key order or emitted at once. -/
  | deckleDescriptorArrival (group : Nat)
  /-- MERGE_FRONT_UPDATE (R273): A slice delivers updated merge fronts and held head descriptors whose gating fronts have passed are emitted. -/
  | mergeFrontUpdate (slice : Nat)
  /-- DECKLE_WINDOW_EXPIRY (R282): The time base reaches the head descriptor's stamp plus its window and it is emitted WINDOWED. -/
  | deckleWindowExpiry (group : Nat)
  /-- DECKLE_SIDE_FAULT (R287): A Deckle side detects its own fault and leaves service, the other side continuing. -/
  | deckleSideFault (side : Nat)
  /-- MERGE_CREATE (R305): MERGE_CONFIGURE CREATE creates a merge group at the first Ream boundary at least 2 µs ahead. -/
  | mergeCreate (r : AdminRef) (a : MergeArgs)
  /-- MERGE_DESTROY (R305): MERGE_CONFIGURE DESTROY removes a merge group at a Ream boundary, emitting its held descriptors WINDOWED. -/
  | mergeDestroy (r : AdminRef) (group : Nat)
  /-- MERGE_STAGE (R306): MERGE_CONFIGURE STAGE writes window, members and held limit to the shadows. -/
  | mergeStage (r : AdminRef) (a : MergeArgs)
  /-- MERGE_REDIRECT (R307): MERGE_CONFIGURE REDIRECT gives a merge group a new destination from a Ream boundary. -/
  | mergeRedirect (r : AdminRef) (group destKind dest : Nat)
  /-- RELEASE_CREATE (R309): RELEASE_CONFIGURE CREATE creates a release group at a Ream boundary. -/
  | releaseCreate (r : AdminRef) (a : ReleaseArgs)
  /-- RELEASE_DESTROY (R309): RELEASE_CONFIGURE DESTROY removes a release group at a Ream boundary, held copies launching as planned. -/
  | releaseDestroy (r : AdminRef) (group : Nat)
  /-- RELEASE_STAGE (R309): RELEASE_CONFIGURE STAGE writes late policy, horizon and members to the shadows. -/
  | releaseStage (r : AdminRef) (a : ReleaseArgs)
  /-- RELEASE_HANDOFF (R298): At a release copy's hand-off time release holding hands it to its port, or the copy is judged late. -/
  | releaseHandoff (port : Nat)
  /-- FRAME_RECEIVED (R137): A frame arrives at a port with link up; it is stamped at the ball, checked by the MAC and MACsec, and enters the ingress FIFO. -/
  | frameReceived (port : Nat) (rx : RxFrame)
  /-- UNDECODABLE_START (R138): A start of frame that the PCS cannot decode is not stamped and is counted as a receive error. -/
  | undecodableStart (port : Nat)
  /-- PAUSE_EXPIRY (R353): A received pause time runs out and the paused classes may start frames again. -/
  | pauseExpiry (port prio : Nat)
  /-- PAUSE_REFRESH (R357): While XOFF holds the MAC repeats its pause frame every QUANTA ÷ 2 × 512 bit times. -/
  | pauseRefresh (port prio : Nat)
  /-- PFC_WATCHDOG_FIRE (R359): A priority paused without interruption for WD_MS is released and pause is ignored for the hold-off. -/
  | pfcWatchdogFire (port prio : Nat)
  /-- PFC_HOLDOFF_END (R360): The pause hold-off of a priority ends and pause frames act again. -/
  | pfcHoldoffEnd (port prio : Nat)
  /-- LINK_UP (R329): A port's PCS gains lock and deskew on every lane with no local fault, and its link comes up. -/
  | linkUp (port : Nat) (anDone ltDone : Bool)
  /-- LINK_DOWN (R331): A port's link goes down and every frame queued for it is discarded with DELIVERY_FAILED leaves. -/
  | linkDown (port : Nat) (loss : LineLoss)
  /-- FLUSH_ON_DOWN_COMPLETE (R478): The flush on link down completes in every slice and event 0x6004 is recorded. -/
  | flushOnDownComplete (port : Nat)
  /-- REMOTE_FAULT (R330): The Reconciliation Sublayer starts receiving remote fault and the port transmits only idles. -/
  | remoteFault (port : Nat)
  /-- AN_NO_COMMON_ABILITY (R325): Auto-negotiation finds no common ability, the link stays down and negotiation restarts. -/
  | anNoCommonAbility (port : Nat)
  /-- PORT_RETRAIN (R328): A write of 1 to PORT_CTRL.RETRAIN takes the link down and repeats negotiation and training. -/
  | portRetrain (port : Nat)
  /-- MSEC_SA_INSTALL (R345): PORT_MSEC_SA_CMD with OP INSTALL loads key, salt, SSCI and PN into an SA at one frame boundary. -/
  | msecSaInstall (port an : Nat) (rx : Bool) (place : SaPlace)
  /-- MSEC_SA_REMOVE (R346): PORT_MSEC_SA_CMD with OP REMOVE removes an SA from the next frame boundary. -/
  | msecSaRemove (port an : Nat) (rx : Bool) (sc : Nat)
  /-- EQ_ADAPT_STEP (R364): Each microsecond a lane's receive equaliser may change one coefficient by one step. -/
  | eqAdaptStep (lane coef : Nat) (up : Bool)
  /-- PORT_TRANSMIT_START (R518): At a frame boundary a port chooses a pause frame, release copy or eligible class copy and commits its start, fixing its egress stamp. -/
  | portTransmitStart (port : Nat) (tLaunch : Stamp) (lane symbol : Nat) (cellError : Bool)
  /-- GATE_ENTRY_ADVANCE (R528): A gate control list entry's interval ends and the next entry's gates take over. -/
  | gateEntryAdvance (port : Nat)
  /-- GATE_LIST_TAKEOVER (R532): A pending gate list takes over at the cycle boundary and its new cycles begin. -/
  | gateListTakeover (port : Nat)
  /-- HEADBOX_ADMISSION (R375): Once a port frame has passed the digest engines the Headbox admits it to the slice buffer or drops it. -/
  | headboxAdmission (port : Nat)
  /-- INJECTED_FRAME_ADMISSION (R378): An injected frame waiting in the host island is admitted to the slice buffer under the injection reserve. -/
  | injectedFrameAdmission (slice : Nat)
  /-- HEADBOX_DEAL (R380): The Headbox deals a frame to a parse lane with the next slice sequence and its bank tag. -/
  | headboxDeal (slice : Nat)
  /-- PARSE_COMPLETE (R388): A parse lane finishes parsing a frame and hands its result to the Couch. -/
  | parseComplete (slice q : Nat)
  /-- COUCH_RELEASE (R381): The Couch releases a frame in stream order, applying the fragment table and exception policy. -/
  | couchRelease (slice q : Nat)
  /-- FRAG_ENTRY_TIMEOUT (R408): A fragment table entry is deleted when the time base passes its latest fragment stamp by TIMEOUT_US. -/
  | fragEntryTimeout (slice : Nat) (key : FragKey)
  /-- ORPHAN_HOLD_EXPIRY (R414): A held orphan reaches its stamp plus HOLD_US and is dropped with DROP_FRAG_ORPHAN. -/
  | orphanHoldExpiry (slice q : Nat)
  /-- PARSE_LANE_FAULT (R384): A parse lane fails its result check, leaves service, and its frames are dealt again to the spare or remaining lanes. -/
  | parseLaneFault (slice lane : Nat)
  /-- PIPELINE_PASS (R419): A frame runs one pass of the 24 stages and at its end its requests are applied and it recirculates, goes to crypto or to the traffic manager. -/
  | pipelinePass (slice : Nat)
  /-- LEARN_REQUEST_SERVE (R470): The learn engine serves a queued request by inserting a DYNAMIC FDB entry. -/
  | learnRequestServe (slice : Nat)
  /-- AGING_VISIT (R476): An aging pass visits an FDB slot, marking a DYNAMIC entry stale or deleting it. -/
  | agingVisit (slice slot : Nat)
  /-- TABLE_SEARCH (R491): TABLE_SEARCH writes the full record of the entry holding a key or the given row. -/
  | tableSearch (r : AdminRef) (a : TableArgs) (rec : Bytes)
  /-- TABLE_NEXT (R497): TABLE_NEXT writes the next records of a table walk. -/
  | tableNext (r : AdminRef) (a : TableArgs) (after : Option Bytes)
  /-- TABLE_INSERT (R491): TABLE_INSERT inserts or replaces an entry, relocating cuckoo entries as needed. -/
  | tableInsert (r : AdminRef) (a : TableArgs) (rec : Bytes)
  /-- TABLE_DELETE (R491): TABLE_DELETE deletes the entry holding a key or the given row. -/
  | tableDelete (r : AdminRef) (a : TableArgs) (rec : Bytes)
  /-- TABLE_FLUSH_PORT (R494): TABLE_FLUSH_PORT deletes the FDB entries of a kind whose DEST is a given port. -/
  | tableFlushPort (r : AdminRef) (a : TableArgs)
  /-- TM_ADMISSION (R507): The traffic manager makes a copy for each destination of a frame, admits or refuses each, and settles the disposition. -/
  | tmAdmission
  /-- HOST_DELIVERY (R659): A host-bound copy is dequeued to the host island and its frame data written to posted RECV buffers. -/
  | hostDelivery (wq : Nat) (cellError : Bool)
  /-- RECV_WRITEBACK (R663): Once the frame's leaf index is fixed the device writes the RECV write-back. -/
  | recvWriteback (wq idx : Nat)
  /-- HEAD_BLOCK_WRITE (R650): The device writes a queue's head block after the data and write-backs it covers. -/
  | headBlockWrite (wq : Nat)
  /-- NR_MODERATION_TIMER (R675): An armed NR's moderation timer expires and its MSI-X vector is raised. -/
  | nrModerationTimer (nr : Nat)
  /-- IPSEC_OUTBOUND (R549): A crypto engine applies an outbound ESP transform to a frame. -/
  | ipsecOutbound (engine : EngineTurn)
  /-- IPSEC_INBOUND (R551): A crypto engine checks, verifies and decrypts an inbound ESP frame and returns it for another pass. -/
  | ipsecInbound (engine : EngineTurn) (icvOk : Bool)
  /-- TLS_TX (R554): A crypto engine encrypts the whole TLS records of a transmit frame. -/
  | tlsTx (engine : EngineTurn)
  /-- TLS_RX (R557): A crypto engine decrypts and authenticates TLS records of a receive frame or passes it through. -/
  | tlsRx (engine : EngineTurn) (tagsOk : List Bool) (innerTypes : List Nat)
  /-- STORAGE_SEGMENT_RECEIVED (R561): A TCP segment of a storage connection reaches its engine and its PDUs are processed. -/
  | storageSegmentReceived (conn : Nat) (seg : TcpSeg)
  /-- TCP_RTO_EXPIRY (R564): A storage connection's retransmission timer expires and the segment is resent or the connection fails. -/
  | tcpRtoExpiry (conn : Nat)
  /-- ENGINE_FAULT (R571): A crypto or storage engine fails its self-check, leaves service and its role passes to a spare or survivors. -/
  | engineFault (storage : Bool) (engine : Nat)
  /-- CONTEXT_CREATE (R576): CONTEXT_CREATE creates a crypto context from a host record. -/
  | contextCreate (r : AdminRef) (bufLen : Nat) (rec : CtxRec)
  /-- CONTEXT_DESTROY (R577): CONTEXT_DESTROY destroys a context once no item holds it and writes back its counts. -/
  | contextDestroy (r : AdminRef) (handle : Nat)
  /-- UPDATE_KEY_NEW_KEY (R579): CONTEXT_UPDATE_KEY NEW_KEY gives a TLS context a new key and IV. -/
  | updateKeyNewKey (r : AdminRef) (handle bufLen tcpSeq : Nat) (key iv : Bytes)
  /-- UPDATE_KEY_RESYNC (R579): CONTEXT_UPDATE_KEY RESYNC sets a TLS context's TCP sequence and record number. -/
  | updateKeyResync (r : AdminRef) (handle tcpSeq recordNo : Nat)
  /-- UPDATE_KEY_RESUME (R579): CONTEXT_UPDATE_KEY RESUME returns a TLS receive context from KEY_WAIT to ACTIVE. -/
  | updateKeyResume (r : AdminRef) (handle : Nat)
  /-- STORAGE_CONNECT (R580): STORAGE_CONNECT opens an NVMe/TCP connection and completes on the Connect response. -/
  | storageConnect (r : AdminRef) (bufLen : Nat) (rec : ConnRec)
  /-- CONNECT_TIMEOUT (R580): Three seconds pass without a Connect response and STORAGE_CONNECT completes with STORAGE_ERROR. -/
  | connectTimeout (conn : Nat)
  /-- STORAGE_DISCONNECT (R581): STORAGE_DISCONNECT without ABORT stops new entries, waits for outstanding commands and closes with FIN. -/
  | storageDisconnect (r : AdminRef) (handle : Nat)
  /-- STORAGE_DISCONNECT_ABORT (R581): STORAGE_DISCONNECT with ABORT completes every outstanding entry ABORTED and sends a TCP reset. -/
  | storageDisconnectAbort (r : AdminRef) (handle : Nat)
  /-- DISCONNECT_TIMEOUT (R582): Ten seconds of a graceful disconnect pass with commands outstanding and the connection is reset. -/
  | disconnectTimeout (conn : Nat)
  /-- STO_CMD (R566): A STO_CMD work entry is issued as an NVMe command on its connection. -/
  | stoCmd (w : WorkRef) (a : StoArgs)
  /-- HOST_LINK_UP (R588): The PCIe link reaches DL_Active, noting a degraded rate or width. -/
  | hostLinkUp (rate width : Nat) (flit : Bool)
  /-- HOST_LINK_DOWN (R620): The PCIe link leaves DL_Active and the device performs the PF FLR actions and retrains. -/
  | hostLinkDown
  /-- PERST (R796): PERST_N resets the host island with the actions of R620. -/
  | perst
  /-- HOST_LINK_ERROR (R610): A link or transaction error is reported under AER and handled by its class. -/
  | hostLinkError (e : LinkErr)
  /-- CONFIG_REQUEST (R591): A configuration request is served, or answered with Request Retry Status before the capability table is applied. -/
  | configRequest (fn offset : Nat) (write : Option Word)
  /-- CAPABILITY_TABLE_APPLY (R589): The capability table from the store is applied once per boot. -/
  | capabilityTableApply
  /-- FALLBACK_TABLE_APPLY (R592): 900 ms pass without a valid capability table and the built-in fallback table is applied. -/
  | fallbackTableApply
  /-- VF_ENABLE (R599): A write setting VF Enable enables VFs 1 to NumVFs, limited without ARI. -/
  | vfEnable (ari mse : Bool)
  /-- READ_COMPLETION (R612): A completion for a device read arrives and is applied, or discarded as late or poisoned. -/
  | readCompletion (tag bytes : Nat) (poisoned : Bool)
  /-- COMPLETION_TIMEOUT (R613): A device read times out and its item completes with HOST_READ_TIMEOUT or its queue enters ERROR. -/
  | completionTimeout (fn tag : Nat)
  /-- TAG_QUARANTINE_EXPIRY (R615): Twice the timeout passes for a timed-out read and its tag may be reissued. -/
  | tagQuarantineExpiry (tag : Nat)
  /-- ATS_INVALIDATE (R602): An ATS invalidation request is answered once every request using the translation has gone. -/
  | atsInvalidate (fn page : Nat)
  /-- ATS_TRANSLATION_COMPLETION (R603): A Translation Completion arrives; a refusal fails the item or puts the queue in ERROR. -/
  | atsTranslationCompletion (fn page : Nat) (granted : Bool) (item : ReadItem)
  /-- VF_FLR (R616): A VF receives a Function Level Reset and the device performs a VF reset. -/
  | vfFlr (vf : Nat)
  /-- PF_FLR (R617): The PF receives a Function Level Reset, clearing VF Enable and resetting PF and VF state. -/
  | pfFlr
  /-- L1_ENTRY (R608): The link has been idle for L1_IDLE_US with nothing waiting and the device requests L1. -/
  | l1Entry
  /-- L0P_WIDTH_CHANGE (R609): Link utilisation stays low for 100 µs and the width is halved, or a waiting queue restores it. -/
  | l0pWidthChange (utilisation : Nat)
  /-- WQ_DOORBELL (R632): A WQ doorbell posts entries up to the new producer or puts the queue in ERROR with OVERPOST. -/
  | wqDoorbell (fn off : Nat) (value : DWord) (covered : Nat)
  /-- WQ_INVALIDATE (R645): A WQ or admin doorbell with INVALIDATE discards fetched entries not yet started. -/
  | wqInvalidate (fn off : Nat) (value : DWord)
  /-- NR_DOORBELL (R674): An NR doorbell advances the consumer index and writes entries for pending WQs as room frees. -/
  | nrDoorbell (fn off : Nat) (value : DWord) (covered : Nat)
  /-- NR_ARM (R675): An NR doorbell with ARM arms the ring's interrupt under its moderation. -/
  | nrArm (fn off : Nat) (value : DWord)
  /-- ADMIN_DOORBELL (R632): An admin doorbell with SETUP 0 posts admin entries up to the new producer. -/
  | adminDoorbell (fn off : Nat) (value : DWord) (covered : Nat)
  /-- ADMIN_SETUP (R635): An admin doorbell with SETUP 1 and non-zero BASE configures the function's admin queue. -/
  | adminSetup (fn : Nat) (value : DWord)
  /-- ADMIN_TEARDOWN (R636): An admin doorbell with SETUP 1 and BASE 0 tears down the admin queue. -/
  | adminTeardown (fn : Nat) (value : DWord)
  /-- UNKNOWN_ADMIN_OPCODE (R639): An admin entry with an opcode not in the table completes with INVALID_OPCODE. -/
  | unknownAdminOpcode (r : AdminRef) (what : OpcodeOp)
  /-- NOP (R639): The admin NOP command completes with SUCCESS. -/
  | nop (r : AdminRef)
  /-- IDENTIFY (R627): IDENTIFY writes back the issuing function's identity, quotas and epoch. -/
  | identify (r : AdminRef)
  /-- CREATE_WQ (R655): CREATE_WQ creates a work queue and writes its head block once. -/
  | createWq (r : AdminRef) (a : WqArgs)
  /-- DESTROY_WQ (R658): DESTROY_WQ aborts a work queue's items and entries and frees it. -/
  | destroyWq (r : AdminRef) (index : Nat)
  /-- CREATE_NR (R668): CREATE_NR creates a notification ring or the PF report ring. -/
  | createNr (r : AdminRef) (a : NrArgs)
  /-- DESTROY_NR (R668): DESTROY_NR destroys a notification ring with no WQ bound. -/
  | destroyNr (r : AdminRef) (index : Nat)
  /-- MODIFY_WQ_SET_NR (R657): MODIFY_WQ SET_NR binds or unbinds a WQ's notification ring. -/
  | modifyWqSetNr (r : AdminRef) (index nr : Nat)
  /-- MODIFY_WQ_SUSPEND (R656): MODIFY_WQ SUSPEND stops new entries of a WQ from starting. -/
  | modifyWqSuspend (r : AdminRef) (index : Nat)
  /-- MODIFY_WQ_RESUME (R656): MODIFY_WQ RESUME lets a suspended WQ's entries start again. -/
  | modifyWqResume (r : AdminRef) (index : Nat)
  /-- VF_SET_RESOURCES (R626): VF_SET_RESOURCES sets a VF's queue, vector and context quotas. -/
  | vfSetResources (r : AdminRef) (vf vectors maxWq maxNr contexts : Nat)
  /-- VF_RESET (R678): VF_RESET increments the VF's generation, frees its queues and discards its queued copies. -/
  | vfReset (r : AdminRef) (vf : Nat)
  /-- VF_RESET_COMPLETE (R678): Once no item of the old generation remains the VF reset completes. -/
  | vfResetComplete (vf : Nat)
  /-- WORK_NOP (R642): A NOP work entry completes with SUCCESS. -/
  | workNop (e : PlainEntry)
  /-- SEND (R665): A SEND work entry injects its frame into the slice that owns its port. -/
  | send (w : WorkRef) (a : SendArgs)
  /-- SEND_COMPLETE (R666): Every port copy of a SEND frame has been launched or discarded and the entry's write-back is written. -/
  | sendComplete (w : WorkRef)
  /-- RECV (R659): A RECV work entry posts one receive buffer to its WQ. -/
  | recv (w : WorkRef) (addr : Nat)
  /-- SERVICE_STATE_QUERY (R751): SERVICE_STATE QUERY reports a unit's service state and reason. -/
  | serviceStateQuery (r : AdminRef) (u : UnitArgs)
  /-- SERVICE_STATE_TAKE_OUT (R751): SERVICE_STATE TAKE_OUT puts a unit into DRAINING and completes once it is OUT_OF_SERVICE. -/
  | serviceStateTakeOut (r : AdminRef) (u : UnitArgs)
  /-- SERVICE_STATE_RETURN (R751): SERVICE_STATE RETURN starts a unit's self-test and completes when it rejoins, becomes spare or fails. -/
  | serviceStateReturn (r : AdminRef) (u : UnitArgs)
  /-- UNIT_DRAIN_COMPLETE (R746): A DRAINING unit holds no work and its role is held elsewhere, and it becomes OUT_OF_SERVICE. -/
  | unitDrainComplete (u : UnitArgs)
  /-- SELF_TEST_COMPLETE (R746): A unit's self-test finishes and it moves to REJOINING or back to OUT_OF_SERVICE. -/
  | selfTestComplete (u : UnitArgs) (pass : Bool)
  /-- UNIT_FENCE_REACHED (R748): A REJOINING unit reaches the fence of its kind and goes IN_SERVICE or becomes the spare. -/
  | unitFenceReached (u : UnitArgs)
  /-- FLASH_RESYNC_COMPLETE (R749): The store copy onto a flash device that was behind at boot completes. -/
  | flashResyncComplete (dev : Nat)
  /-- ERROR_DETECTED (R731): The device detects an error, classes it and counts it or opens an error record. -/
  | errorDetected (e : ErrArgs)
  /-- ERROR_RECORD_CLOSE (R734): The error record at the head of the queue closes once its containment is complete. -/
  | errorRecordClose
  /-- PATROL_READ (R755): A patrol scrub read corrects a word or handles an uncorrectable word as a UCI of its structure. -/
  | patrolRead (t : PatrolTarget) (correctable : Bool)
  /-- EVENT_PERSIST (R760): An event entry of WARNING or above has been written to the event region and carries PERSISTED. -/
  | eventPersist (seq : Nat)
  /-- EVENT_BUCKET_REFILL (R759): An event code's token bucket refill interval expires and a token is added. -/
  | eventBucketRefill (code : Nat)
  /-- EVR_SELECT_ON_DIE (R763): Writing EVR_SEL with SRC 0 selects an on-die event entry. -/
  | evrSelectOnDie (lo : Word)
  /-- EVR_SELECT_REGION (R764): Writing EVR_SEL with SRC 1 starts copying an entry from the event region. -/
  | evrSelectRegion (lo : Word)
  /-- EVR_COPY_COMPLETE (R764): The copy of an entry from the event region into EVR_ENTRY completes. -/
  | evrCopyComplete
  /-- ALERT_ACK (R762): A write of 1 to EVR_ALERT.ACK releases DEV_ALERT_N unless the device is FATAL. -/
  | alertAck
  /-- EVENT_CLEAR (R768): EVENT_CLEAR checks a signed clear token and removes event entries through CLEAR_THROUGH. -/
  | eventClear (r : AdminRef) (bufLen : Nat) (token : ClearToken)
  /-- TELEMETRY_RECORD (R770): Every 10 ms the device writes a telemetry record to its on-die ring. -/
  | telemetryRecord (sensors : Sensors)
  /-- PLDM_EVENT_REPEAT (R724): An unacknowledged sensor event is sent again after 1 s. -/
  | pldmEventRepeat (sensor : Nat)
  /-- PLDM_EVENT_ACK (R724): The event receiver acknowledges a PlatformEventMessage and repetition stops. -/
  | pldmEventAck (sensor : Nat)
  /-- TEL_SELECT (R771): A write to TEL_SEL copies the selected telemetry record into TEL_REC. -/
  | telSelect (lo : Word)
  /-- MBX_RING (R720): A write to a mailbox channel's RING sets FULL and raises a wake event for the receiver. -/
  | mbxRing (agent channel : Nat)
  /-- MBX_DATA15_READ (R722): The receiver's read of data word 15 clears FULL. -/
  | mbxData15Read (agent channel : Nat)
  /-- MBX_SEND (R723): An MCTP vendor MBX_SEND message from the BMC is applied as the data writes and RING of a channel. -/
  | mbxSend (channel : Nat) (data : List Word)
  /-- MBX_DELIVER_SENT (R723): The last byte of an MBX_DELIVER message to the BMC is sent and FULL clears. -/
  | mbxDeliverSent (channel : Nat)
  /-- SET_ENDPOINT_ID (R724): The MCTP Set Endpoint ID command assigns the device's endpoint ID. -/
  | setEndpointId (op eid : Nat)
  /-- GET_ENDPOINT_ID (R724): The MCTP Get Endpoint ID command returns the endpoint ID. -/
  | getEndpointId
  /-- GET_ENDPOINT_UUID (R724): The MCTP Get Endpoint UUID command returns the endpoint UUID. -/
  | getEndpointUuid
  /-- GET_MCTP_VERSION_SUPPORT (R724): The MCTP Get MCTP Version Support command returns supported versions. -/
  | getMctpVersionSupport (msgType : Nat)
  /-- GET_MESSAGE_TYPE_SUPPORT (R724): The MCTP Get Message Type Support command returns supported message types. -/
  | getMessageTypeSupport
  /-- GET_VENDOR_DEFINED_MSG_SUPPORT (R724): The MCTP Get Vendor Defined Message Support command returns vendor support. -/
  | getVendorDefinedMsgSupport (selector : Nat)
  /-- GET_TID (R724): The PLDM GetTID command returns the terminus ID. -/
  | getTid
  /-- GET_PLDM_VERSION (R724): The PLDM GetPLDMVersion command returns a type's version. -/
  | getPldmVersion (pldmType : Nat)
  /-- GET_PLDM_TYPES (R724): The PLDM GetPLDMTypes command returns supported PLDM types. -/
  | getPldmTypes
  /-- GET_PLDM_COMMANDS (R724): The PLDM GetPLDMCommands command returns supported commands. -/
  | getPldmCommands (pldmType : Nat)
  /-- GET_SENSOR_READING (R724): The PLDM GetSensorReading command returns a numeric sensor reading. -/
  | getSensorReading (sensor : Nat)
  /-- GET_STATE_SENSOR_READINGS (R724): The PLDM GetStateSensorReadings command returns the thermal state sensor. -/
  | getStateSensorReadings (sensor : Nat)
  /-- GET_PDR_REPOSITORY_INFO (R724): The PLDM GetPDRRepositoryInfo command returns repository information. -/
  | getPdrRepositoryInfo
  /-- GET_PDR (R724): The PLDM GetPDR command returns a platform descriptor record. -/
  | getPdr (record : Nat)
  /-- SET_EVENT_RECEIVER (R724): The PLDM SetEventReceiver command sets the receiver of sensor events. -/
  | setEventReceiver (enable : Bool) (eid : Nat)
  /-- GET_VERSION (R725): The SPDM GET_VERSION request returns supported SPDM versions. -/
  | getVersion (doe : Bool)
  /-- GET_CAPABILITIES (R725): The SPDM GET_CAPABILITIES request returns responder capabilities. -/
  | getCapabilities (doe : Bool)
  /-- NEGOTIATE_ALGORITHMS (R725): The SPDM NEGOTIATE_ALGORITHMS request selects SM2 and SM3. -/
  | negotiateAlgorithms (doe : Bool) (sm2 sm3 : Bool)
  /-- GET_DIGESTS (R725): The SPDM GET_DIGESTS request returns the certificate chain digest of slot 0. -/
  | getDigests (doe : Bool)
  /-- GET_CERTIFICATE (R725): The SPDM GET_CERTIFICATE request returns the device identity chain. -/
  | getCertificate (doe : Bool) (slot offset length : Nat)
  /-- CHALLENGE (R725): The SPDM CHALLENGE request is answered signed by the identity key. -/
  | challenge (doe : Bool) (slot : Nat) (nonce : Bytes)
  /-- GET_MEASUREMENTS (R725): The SPDM GET_MEASUREMENTS request returns the measurement blocks, signed or unsigned. -/
  | getMeasurements (doe signed : Bool) (index : Nat) (nonce : Bytes)
  /-- NVM_COMPACT (R726): NVM_COMPACT requests a journal compaction. -/
  | nvmCompact (r : AdminRef) (flags : Nat)
  /-- NVM_STATUS (R727): NVM_STATUS writes back the state of the flash store. -/
  | nvmStatus (r : AdminRef)
  /-- COMPACTION_START (R708): The journal passes its threshold or is asked and compaction starts merging records into the inactive base slot. -/
  | compactionStart
  /-- COMPACTION_COMPLETE (R708): Compaction verifies the new base slot and writes a superblock naming it, or stops on failure. -/
  | compactionComplete (mergedLen : Nat) (hashOk : Bool)
  /-- FLASH_OPERATION_FAILED (R696): A flash device fails three consecutive operations and leaves service. -/
  | flashOperationFailed (dev : Nat)
  /-- FLASH_REFRESH (R712): Every 24 h the device reads the store and rewrites failing structures from the mirror. -/
  | flashRefresh (failing : List Nat)
  /-- UPDATE_OPEN (R713): NVM_UPD_CTRL OP OPEN erases the inactive slot of the target and opens the update window. -/
  | updateOpen (data : Word)
  /-- UPDATE_WINDOW_PROGRAM (R714): A write to NVM_UPD_DATA(1023) programs the 4 KiB window into the slot. -/
  | updateWindowProgram (last : Word)
  /-- UPDATE_PROGRAM_COMPLETE (R714): The window program completes, BUSY clears and the offset advances. -/
  | updateProgramComplete (ok : FlashOk)
  /-- UPDATE_CLOSE (R715): NVM_UPD_CTRL OP CLOSE verifies the new image and, with ACTIVATE, writes a superblock naming it. -/
  | updateClose (data : Word) (fw : Option FirmwareInfo) (base : Option BaseImage)
  /-- UPDATE_ABORT (R716): NVM_UPD_CTRL OP ABORT ends an open update without activating the slot. -/
  | updateAbort
  /-- POWER_ON_RESET (R794): PWRON_RST_N is asserted or PWR_OK goes low and every island but AON is held in reset. -/
  | powerOnReset (pwrOk : Bool)
  /-- PWRON_RESET_RELEASE (R815): The power-on reset ends, the straps are sampled and the crystal wait starts. -/
  | pwronResetRelease (straps : Word)
  /-- OSC_WAIT_ELAPSED (R774): The strapped crystal wait elapses and the boot ROM starts on the safe clock. -/
  | oscWaitElapsed
  /-- FIRMWARE_START (R688): The boot ROM verifies a firmware slot and starts Traora firmware, or enters RECOVERY. -/
  | firmwareStart (slotA slotB : SlotRead FirmwareInfo) (baseA baseB : SlotRead BaseImage)
  /-- STORE_REPLAY (R703): The base image is verified and the journal replayed, configuring the units. -/
  | storeReplay (readable0 readable1 ckptOk0 ckptOk1 keyOk : Bool)
  /-- BOOT_SERVICE_REACHED (R687): Every configured port has linked up or been IN_SERVICE 1 s without link and the device reaches STAGE SERVICE. -/
  | bootServiceReached
  /-- WARM_RESET_REQUEST (R795): A write to RST_CTRL with the key and WARM arms a warm reset 10 µs later. -/
  | warmResetRequest (data : Word)
  /-- WARM_RESET (R793): The warm reset starts and resets everything but AON. -/
  | warmReset
  /-- CRYSTAL_LOST (R777): The crystal has no edge for 200 ns and AON runs from the ring PLL. -/
  | crystalLost
  /-- CRYSTAL_RESTORED (R777): After 10 ms of uninterrupted crystal edges AON returns to the crystal. -/
  | crystalRestored
  /-- PLL_LOSS_OF_LOCK (R785): An island's selected PLL reports loss of lock and a switch to the partner starts. -/
  | pllLossOfLock (island : Nat) (pllB : Bool)
  /-- CLOCK_ACTIVITY_LOST (R785): The activity monitor sees no edge of an island's clock for 10 ns and a switch starts. -/
  | clockActivityLost (island : Nat)
  /-- CLOCK_SEL_REQUEST (R789): A write to CLK_ISL_CTRL.SEL_REQ requests a switch to the other, locked PLL. -/
  | clockSelRequest (island : Nat) (pllB : Bool)
  /-- CLOCK_SWITCH_COMPLETE (R786): The glitch-free multiplexer sees both low phases and the switch completes hitlessly. -/
  | clockSwitchComplete (island : Nat)
  /-- SWITCH_WATCHDOG (R787): A switch not complete after 480 ns is forced by the AON watchdog. -/
  | switchWatchdog (island : Nat)
  /-- PLL_RELOCKED (R790): A PLL relocked and stable for 1 ms becomes the standby, or takes over an island on the safe clock. -/
  | pllRelocked (island : Nat) (pllB : Bool)
  /-- AVS_ADJUST (R800): Every 1 ms the device reads its margin monitors and steps VDD_CORE by 5 mV. -/
  | avsAdjust (below above ack : Bool)
  /-- AVS_MARGIN_ALARM (R800): A margin monitor falls below margin and a step up is commanded at once. -/
  | avsMarginAlarm (ack : Bool)
  /-- AVS_RETRY (R802): Every 1 s after an AVSBus failure the device retries the regulator. -/
  | avsRetry (ack : Bool)
  /-- THERMAL_THROTTLE (R803): A sensor reaches Tj 118 °C and the crypto and storage clocks are halved. -/
  | thermalThrottle (sensor : Nat) (tj : Int)
  /-- THROTTLE_END (R803): Every sensor stays at or below 113 °C for 100 ms and the throttled clocks are restored. -/
  | throttleEnd
  /-- THERMAL_TRIP (R804): A sensor reaches Tj 130 °C and AON asserts THERMTRIP_N and gates every island. -/
  | thermalTrip (sensor : Nat) (tj : Int)
  /-- TAP_RESET (R821): TRST_N low holds the test access port in Test-Logic-Reset. -/
  | tapReset
  /-- EXTEST (R820): The IEEE 1149.1 EXTEST instruction takes effect. -/
  | extest
  /-- IDCODE (R820): The IDCODE instruction selects the 32-bit IDCODE register. -/
  | idcode
  /-- SAMPLE_PRELOAD (R820): The SAMPLE/PRELOAD instruction takes effect. -/
  | samplePreload
  /-- EXTEST_PULSE (R820): The IEEE 1149.6 EXTEST_PULSE instruction takes effect. -/
  | extestPulse
  /-- EXTEST_TRAIN (R820): The IEEE 1149.6 EXTEST_TRAIN instruction takes effect. -/
  | extestTrain
  /-- CLAMP (R820): The CLAMP instruction takes effect. -/
  | clamp
  /-- HIGHZ (R820): The HIGHZ instruction takes effect. -/
  | highz
  /-- BYPASS (R820): The BYPASS instruction, or any unlisted value, selects the bypass register. -/
  | bypass (ir : Byte)
  /-- REMOTE_FAULT_CLEARED (R330): The Reconciliation Sublayer stops receiving remote fault, REMOTE_FAULT clears and the port resumes transmitting its waiting frames. -/
  | remoteFaultCleared (port : Nat)
  /-- SHAPER_CREDIT_RESTORED (R521): A class, port or VF shaper's credit grows back to 0 or more, and the waiting copies become eligible so that an idle port or the host direction can start one. -/
  | shaperCreditRestored (k : ShaperId)
  /-- PTP_MESSAGE_INTERVAL (R109): A PTP port's Sync, Announce, Delay_Req or Pdelay_Req interval expires and the PTP instance sends that message, one-step or two-step. -/
  | ptpMessageInterval (port : Nat) (kind : PtpKind) (logInterval : Nat)
  /-- MSIX_VECTOR_UNMASK (R676): A host write clears an MSI-X vector's mask while its Pending Bit is set, and the device sends the pending message. -/
  | msixVectorUnmask (fn : Nat) (a : MsixAccess)
  deriving DecidableEq, Repr

end Sys2Proof
end

