-- ==== Sys2Proof/Decode.lean ====
section
/-! DEFINITION. The command that a word spells. The spec's opcode table gives no row any bits and no field (the block takes
its commands as register accesses, queue entries, messages and events), so no word spells a command. -/

namespace Sys2Proof

/-- The command that a word of so many bits spells by the opcode table: none, since the table gives bits to no row. -/
def decodeTableWord (_nbits _w : Nat) : Option Instr := none

end Sys2Proof
end

