-- ==== Sys2Proof/Config.lean ====
section
/-! DEFINITION. What an implementation fixes and the spec leaves open: every value here is opaque, so that nothing
can be proved of it beyond its type. Each is named in the assumption log. -/

namespace Sys2Proof

/-- Free values the device draws one after another: the n-th draw (assumption 3). -/
opaque Config.freeNat : Nat → Nat

/-- Free byte strings of a given length, by draw (assumption 3). -/
opaque Config.freeBytes : Nat → Nat → Bytes

/-- The values of counters of what no command carries, by draw and counter (assumption 49). -/
opaque Config.lineCount : (draw addr : Nat) → Nat

/-- The candidate slot of a key within a way of a cuckoo table (*Forwarding and flow tables*: the hash functions are
not architectural). `table` 0 to 7 is a slice's FDB and 8 the flow table. -/
opaque Config.cuckooSlot : (table way : Nat) → (key : Nat × Nat) → Nat

/-- The set of the flow cache that a key takes; its hash is not architectural. -/
opaque Config.cacheSet : (slice : Nat) → (key : Nat × Nat) → Nat

/-- The 32-bit flow hash of the innermost level's addresses, protocol and ports (R434). -/
opaque Config.flowHash : List Nat → Nat

/-- Ciphertext and integrity value of an authenticated cipher: suite, key, nonce, associated data, text. The ciphers
are named by the spec through their standards and not defined by it (assumption 4). -/
opaque Config.seal : (suite : Nat) → (key nonce aad text : Bytes) → Bytes

/-- The text that deciphering gives. -/
opaque Config.unseal : (suite : Nat) → (key nonce aad text : Bytes) → Bytes

/-- The estimate of true frequency of the servo, whose control law the spec does not give: frequency before, offset,
draw (assumption 5). In 2^-32 ns per edge. -/
opaque Config.servoFreq : (freq offset : Int) → (draw : Nat) → Int

/-- The phase correction per edge that the servo applies, before the limit of R87. -/
opaque Config.servoSlew : (phase : Int) → (draw : Nat) → Int

/-- The length of the transmit path from the commit point to the ball in words, by lane rate (R142: constant, and not
given). -/
opaque Config.commitWords : Nat → Nat

/-- How many block periods a launch slot lies behind the first block boundary at or after a time, where alignment markers
and FEC parity take block boundaries: group speed, FEC mode, number of that boundary (assumption 21). -/
opaque Config.slotSkip : (speed fec boundary : Nat) → Nat

/-- The public key of the fused device identity key (R217): 64 bytes, and not given. -/
opaque Config.identityKey : Bytes

/-- The secret of the device identity key; the public key of an SM2 private key; a private key wrapped under the SM4 key that the
fused device secret gives, and unwrapped (R215, R217): SM2 and SM4 are their standards' (assumption 4). -/
opaque Config.identitySecret : Bytes
opaque Config.publicOf : (secret : Bytes) → Bytes
opaque Config.wrap : (secret : Bytes) → Bytes
opaque Config.unwrap : (wrapped : Bytes) → Bytes

/-- The SM2 signature of a message: private key, distinguishing identifier, message, random number (R7, R218). -/
opaque Config.sign : (secret id message random : Bytes) → Bytes

/-- The store key, which the spec names and does not give (R697). -/
opaque Config.storeKey : Bytes

/-- The bytes of a bank image, whose layout only Caken and the device know (R442). -/
opaque Config.imageBytes : BankImage → Bytes

/-- What a slot holds once the windows of an update are programmed, for a draw, where a register write closes the update. -/
opaque Config.programmedFw : (draw : Nat) → Option FirmwareInfo
opaque Config.programmedBase : (draw : Nat) → Option BaseImage

/-- The places of the capabilities of the built-in fallback table of R592, which are not given. -/
opaque Config.fallbackLayout : List (CapKind × Bool × Nat)

/-- The capability ID of Physical Layer 128.0 GT/s, which the spec does not give. -/
opaque Config.phys128Id : Nat

/-- The usable rate of the host link in kb/s, by link speed and width (R66: about 1.7 Tb/s at full speed and width). -/
opaque Config.linkKbps : (rate width : Nat) → Nat

/-- Read-only contents of the configuration space, by function and offset, as far as the spec does not give them. -/
opaque Config.configWord : (fn offset : Nat) → Nat

/-- The bits of the configuration space that the base specification makes RW, by function and offset. -/
opaque Config.configRw : (fn offset : Nat) → Nat

/-- The device's MCTP endpoint UUID: 16 bytes, not given. -/
opaque Config.uuid : Bytes

/-- The version entries of Get MCTP Version Support by message type, and of GetPLDMVersion by PLDM type. -/
opaque Config.mctpVersions : Nat → Bytes
opaque Config.pldmVersions : Nat → Bytes

/-- The PLDM terminus ID. -/
opaque Config.tid : Nat

/-- The platform data records of the PLDM section. -/
opaque Config.pdr : Nat → Bytes

/-- The device identity certificate chain of slot 0, held in one-time-programmable memory. -/
opaque Config.certChain : Bytes

/-- The SM3 of the boot ROM (R725, measurement 1). -/
opaque Config.romHash : Bytes

end Sys2Proof
end

