-- ==== Sys2Proof/Machine/RegTypes.lean ====
section
/-! DEFINITION. The shape of a register map: access codes (R11), change classes (R14), reserved values (R19),
register arrays and counter pairs. -/

namespace Sys2Proof.Machine

/-- Access codes of R11. RS fields (none in PF BAR0's tables) and RSV bits need no code: RSV bits belong to no
field, read 0 and ignore writes. -/
inductive Acc where
  | ro | rw | rc | w1c | wo
  deriving DecidableEq, Repr

/-- Change classes of R14; `none` for a field that is not configurable. -/
inductive Cls where
  | none | live | staged | ream | halt
  deriving DecidableEq, Repr

/-- The values that are not reserved (R19): any, a stated range, weights of which no byte is 0 (R539), the
two's-complement overheads of at least -32 (*TM registers*), and the SLICE values of R542. -/
inductive Legal where
  | any
  | range (lo hi : Nat)
  | bytesNonZero
  | overhead
  | polSlice
  deriving DecidableEq, Repr

/-- One field of a register table: lowest bit, width, access, class, reset value, whether the Reset column reads
"store" (R13), and its values that are not reserved. -/
structure RegField where
  lo : Nat
  width : Nat
  acc : Acc
  cls : Cls
  reset : Nat
  store : Bool
  legal : Legal
  deriving DecidableEq, Repr

/-- A register, or an array of registers with `(stride, count)` for each index, at a BAR0 offset. `perPort` marks
the registers that R839 governs. -/
structure RegRow where
  base : Nat
  dims : List (Nat × Nat)
  perPort : Bool
  fields : List RegField
  deriving DecidableEq, Repr

/-- A clear-on-read counter, or an array of them, by its `_LO` offset (R52). -/
structure CtrRow where
  base : Nat
  dims : List (Nat × Nat)
  perPort : Bool
  deriving DecidableEq, Repr

/-- A field by its register's offset, lowest bit and width. -/
structure FieldRef where
  addr : Nat
  lo : Nat
  width : Nat
  deriving DecidableEq, Repr

/-- The indices that an offset within an array selects, largest stride first; `none` between elements. -/
def dimIndex : List (Nat × Nat) → Nat → Option (List Nat)
  | [], off => if off = 0 then some [] else none
  | (stride, count) :: ds, off =>
    if off / stride < count then (dimIndex ds (off % stride)).map (off / stride :: ·) else none

/-- The indices with which `addr` names an element of an array at `base`. -/
def rowIndex (base : Nat) (dims : List (Nat × Nat)) (addr : Nat) : Option (List Nat) :=
  if base ≤ addr then dimIndex dims (addr - base) else none

/-- The row of a table that holds an offset, with its indices. -/
def findRow : List RegRow → Nat → Option (RegRow × List Nat)
  | [], _ => none
  | r :: rs, addr =>
    match rowIndex r.base r.dims addr with
    | some is => some (r, is)
    | none => findRow rs addr

/-- The counter whose `_LO` word is at an offset. -/
def findCtr : List CtrRow → Nat → Option CtrRow
  | [], _ => none
  | r :: rs, addr =>
    match rowIndex r.base r.dims addr with
    | some _ => some r
    | none => findCtr rs addr

/-- The bits of a value that a field holds. -/
def getBits (v lo width : Nat) : Nat := v / 2 ^ lo % 2 ^ width

/-- A value with one field replaced. -/
def putBits (v lo width x : Nat) : Nat :=
  v - getBits v lo width * 2 ^ lo + x % 2 ^ width * 2 ^ lo

/-- Whether a value of a field is not reserved (R19). -/
def RegField.ok (f : RegField) (v : Nat) : Bool :=
  match f.legal with
  | .any => true
  | .range lo hi => decide (lo ≤ v ∧ v ≤ hi)
  | .bytesNonZero => decide (v % 256 ≠ 0 ∧ v / 256 % 256 ≠ 0 ∧ v / 65536 % 256 ≠ 0 ∧ v / 16777216 ≠ 0)
  | .overhead => decide (v < 64 ∨ 96 ≤ v)
  | .polSlice => decide (v ≤ 7 ∨ v = 15)

/-- The register word that a row's Reset column gives before the store is loaded (R13). -/
def RegRow.resetWord (r : RegRow) : Nat :=
  r.fields.foldl (fun w f => w + f.reset * 2 ^ f.lo) 0

end Sys2Proof.Machine
end

