-- ==== Sys2Proof/Machine/RegMap.lean ====
section
/-! DEFINITION. The register map of PF BAR0 (R45): one row for each register or register array, with the fields of
the spec's register tables (access code, change class, reset value, reserved values). RO fields that State holds
elsewhere are computed by the view of Machine/View.lean. -/

namespace Sys2Proof.Machine

/-- Rows of the Glb block. -/
def regsGlb0 : List RegRow := [
  -- GLB_ID (R56)
  ⟨0x0, [], false, [⟨16, 16, .ro, .none, 38464, false, .any⟩, ⟨8, 8, .ro, .none, 0, false, .any⟩, ⟨0, 8, .ro, .none, 0, false, .any⟩]⟩,
  -- GLB_EPOCH (R57)
  ⟨0x10, [], false, [⟨0, 32, .ro, .none, 0, true, .any⟩]⟩,
  -- GLB_COMMIT_STATE (R58)
  ⟨0x14, [], false, [⟨0, 1, .ro, .none, 0, false, .any⟩, ⟨1, 1, .ro, .none, 0, false, .any⟩, ⟨2, 1, .ro, .none, 0, false, .any⟩, ⟨3, 1, .ro, .none, 0, false, .any⟩]⟩,
  -- GLB_COMMIT_TC_L32 (R59)
  ⟨0x18, [], false, [⟨0, 32, .ro, .none, 0, false, .any⟩]⟩,
  -- GLB_COMMIT_TC_H32 (R59)
  ⟨0x1C, [], false, [⟨0, 32, .ro, .none, 0, false, .any⟩]⟩,
  -- GLB_SNAP_STATE (R60)
  ⟨0x20, [], false, [⟨0, 1, .ro, .none, 0, false, .any⟩, ⟨1, 1, .ro, .none, 0, false, .any⟩, ⟨2, 1, .ro, .none, 0, false, .any⟩]⟩,
  -- GLB_SNAP_SEQ (R61)
  ⟨0x24, [], false, [⟨0, 32, .ro, .none, 0, false, .any⟩]⟩,
  -- GLB_SNAP_TS_L32 (R61)
  ⟨0x28, [], false, [⟨0, 32, .ro, .none, 0, false, .any⟩]⟩,
  -- GLB_SNAP_TS_H32 (R61)
  ⟨0x2C, [], false, [⟨0, 32, .ro, .none, 0, false, .any⟩]⟩,
  -- GLB_BCAST_STATUS (R62)
  ⟨0x100, [], false, [⟨0, 1, .w1c, .live, 0, false, .any⟩, ⟨4, 4, .ro, .none, 0, false, .any⟩, ⟨16, 16, .rc, .none, 0, false, .any⟩]⟩,
  -- GLB_BCAST_MISMATCH_ADDR (R63)
  ⟨0x104, [], false, [⟨0, 32, .ro, .none, 0, false, .any⟩]⟩,
  -- GLB_GRP_MASK (R64)
  ⟨0x1000, [(0x100, 5), (0x10, 8), (0x4, 4)], false, [⟨0, 32, .rw, .live, 0, false, .any⟩]⟩
]

def regsGlb : List RegRow := regsGlb0

/-- Rows of the Port block. -/
def regsPort0 : List RegRow := [
  -- PORT_MODE (R366)
  ⟨0x100_0000, [(0x1_0000, 96)], false, [⟨0, 3, .rw, .halt, 0, true, (.range 0 4)⟩, ⟨4, 3, .rw, .halt, 0, true, (.range 0 4)⟩, ⟨8, 2, .rw, .halt, 0, true, (.range 0 2)⟩, ⟨10, 1, .rw, .halt, 0, true, .any⟩, ⟨11, 1, .rw, .halt, 0, true, .any⟩, ⟨12, 1, .rw, .halt, 0, true, .any⟩]⟩,
  -- PORT_CTRL (R367)
  ⟨0x100_0004, [(0x1_0000, 96)], true, [⟨0, 2, .rw, .halt, 0, false, (.range 0 2)⟩, ⟨2, 1, .wo, .live, 0, false, .any⟩]⟩,
  -- PORT_STATUS (R367)
  ⟨0x100_0008, [(0x1_0000, 96)], true, [⟨0, 3, .ro, .none, 2, false, .any⟩, ⟨3, 1, .ro, .none, 0, false, .any⟩, ⟨4, 1, .ro, .none, 0, false, .any⟩, ⟨5, 1, .ro, .none, 0, false, .any⟩, ⟨6, 1, .ro, .none, 0, false, .any⟩, ⟨7, 1, .ro, .none, 0, false, .any⟩, ⟨8, 1, .ro, .none, 0, false, .any⟩, ⟨9, 1, .ro, .none, 0, false, .any⟩]⟩,
  -- PORT_MAC_CFG (R367)
  ⟨0x100_000C, [(0x1_0000, 96)], true, [⟨0, 14, .rw, .live, 0, true, (.range 64 16383)⟩]⟩,
  -- PORT_FC_CFG (R368)
  ⟨0x100_0010, [(0x1_0000, 96)], true, [⟨0, 2, .rw, .live, 0, true, (.range 0 2)⟩, ⟨2, 1, .rw, .live, 0, true, .any⟩, ⟨3, 1, .rw, .live, 0, true, .any⟩, ⟨8, 8, .rw, .live, 0, true, .any⟩, ⟨16, 16, .rw, .live, 0, true, .any⟩]⟩,
  -- PORT_FC_WD (R368)
  ⟨0x100_0014, [(0x1_0000, 96)], true, [⟨0, 16, .rw, .live, 0, true, (.range 0 10000)⟩, ⟨16, 16, .rw, .live, 0, true, (.range 1 60000)⟩]⟩,
  -- PORT_PFC_MAP (R368)
  ⟨0x100_0020, [(0x1_0000, 96), (0x4, 8)], true, [⟨0, 16, .rw, .live, 0, true, .any⟩]⟩,
  -- PORT_FC_STATUS (R368)
  ⟨0x100_0040, [(0x1_0000, 96)], true, [⟨0, 8, .ro, .none, 0, false, .any⟩, ⟨8, 8, .ro, .none, 0, false, .any⟩, ⟨16, 8, .ro, .none, 0, false, .any⟩]⟩,
  -- PORT_MSEC_CFG (R369)
  ⟨0x100_0100, [(0x1_0000, 96)], true, [⟨0, 1, .rw, .live, 0, true, .any⟩, ⟨1, 1, .rw, .live, 0, true, .any⟩, ⟨2, 2, .rw, .live, 0, true, (.range 0 2)⟩, ⟨4, 2, .rw, .halt, 0, true, .any⟩, ⟨6, 1, .rw, .live, 0, true, .any⟩, ⟨7, 1, .rw, .live, 0, true, .any⟩, ⟨8, 2, .rw, .live, 0, true, .any⟩]⟩,
  -- PORT_MSEC_SCI_L (R369)
  ⟨0x100_0104, [(0x1_0000, 96)], true, [⟨0, 32, .rw, .live, 0, true, .any⟩]⟩,
  -- PORT_MSEC_SCI_H (R369)
  ⟨0x100_0108, [(0x1_0000, 96)], true, [⟨0, 32, .rw, .live, 0, true, .any⟩]⟩,
  -- PORT_MSEC_REPLAY (R369)
  ⟨0x100_010C, [(0x1_0000, 96)], true, [⟨0, 32, .rw, .live, 0, true, .any⟩]⟩,
  -- PORT_MSEC_BYPASS (R369)
  ⟨0x100_0110, [(0x1_0000, 96), (0x4, 4)], true, [⟨0, 16, .rw, .live, 0, true, .any⟩, ⟨16, 1, .rw, .live, 0, true, .any⟩]⟩,
  -- PORT_MSEC_KEY (R369)
  ⟨0x100_0140, [(0x1_0000, 96), (0x4, 8)], true, [⟨0, 32, .wo, .live, 0, false, .any⟩]⟩,
  -- PORT_MSEC_SALT (R369)
  ⟨0x100_0160, [(0x1_0000, 96), (0x4, 3)], true, [⟨0, 32, .wo, .live, 0, false, .any⟩]⟩,
  -- PORT_MSEC_SSCI (R369)
  ⟨0x100_016C, [(0x1_0000, 96)], true, [⟨0, 32, .wo, .live, 0, false, .any⟩]⟩,
  -- PORT_MSEC_PN_L (R369)
  ⟨0x100_0170, [(0x1_0000, 96)], true, [⟨0, 32, .wo, .live, 0, false, .any⟩]⟩,
  -- PORT_MSEC_PN_H (R369)
  ⟨0x100_0174, [(0x1_0000, 96)], true, [⟨0, 32, .wo, .live, 0, false, .any⟩]⟩,
  -- PORT_MSEC_SA_CMD (R369)
  ⟨0x100_0178, [(0x1_0000, 96)], true, [⟨0, 2, .wo, .live, 0, false, .any⟩, ⟨2, 1, .wo, .live, 0, false, .any⟩, ⟨3, 3, .wo, .live, 0, false, .any⟩, ⟨6, 2, .wo, .live, 0, false, (.range 1 2)⟩]⟩,
  -- PORT_MSEC_SA_STATUS (R369)
  ⟨0x100_017C, [(0x1_0000, 96)], true, [⟨0, 1, .ro, .none, 0, false, .any⟩, ⟨1, 1, .w1c, .live, 0, false, .any⟩, ⟨2, 1, .ro, .none, 0, false, .any⟩]⟩,
  -- PORT_MSEC_TX_PN_L (R369)
  ⟨0x100_0180, [(0x1_0000, 96), (0x8, 4)], true, [⟨0, 32, .ro, .none, 0, false, .any⟩]⟩,
  -- PORT_MSEC_TX_PN_H (R369)
  ⟨0x100_0184, [(0x1_0000, 96), (0x8, 4)], true, [⟨0, 32, .ro, .none, 0, false, .any⟩]⟩,
  -- PORT_MSEC_RX_SCI_L (R369)
  ⟨0x100_0200, [(0x1_0000, 96), (0x10, 8)], true, [⟨0, 32, .rw, .live, 0, true, .any⟩]⟩,
  -- PORT_MSEC_RX_SCI_H (R369)
  ⟨0x100_0204, [(0x1_0000, 96), (0x10, 8)], true, [⟨0, 32, .rw, .live, 0, true, .any⟩]⟩,
  -- PORT_MSEC_RX_SC (R369)
  ⟨0x100_0208, [(0x1_0000, 96), (0x10, 8)], true, [⟨0, 1, .rw, .live, 0, true, .any⟩, ⟨4, 4, .ro, .none, 0, false, .any⟩]⟩
]

/-- Rows of the Port block. -/
def regsPort1 : List RegRow := [
  -- PORT_LANE_STATUS (R370)
  ⟨0x100_0800, [(0x1_0000, 96)], false, [⟨0, 1, .ro, .none, 0, false, .any⟩, ⟨1, 1, .ro, .none, 0, false, .any⟩, ⟨2, 1, .ro, .none, 0, false, .any⟩, ⟨8, 8, .ro, .none, 0, false, .any⟩]⟩,
  -- PORT_LANE_ADAPT (R370)
  ⟨0x100_0804, [(0x1_0000, 96)], false, [⟨0, 1, .rw, .live, 0, false, .any⟩]⟩
]

def regsPort : List RegRow := regsPort0 ++ regsPort1

/-- Rows of the Slice block. -/
def regsSlice0 : List RegRow := [
  -- HBX_CTRL (R415)
  ⟨0x200_0000, [(0x10_0000, 8)], false, [⟨0, 8, .rw, .live, 0, true, .any⟩, ⟨8, 8, .rw, .live, 0, true, .any⟩, ⟨16, 12, .rw, .live, 0, true, .any⟩]⟩,
  -- HBX_BUF_FREE (R415)
  ⟨0x200_0004, [(0x10_0000, 8)], false, [⟨0, 14, .ro, .none, 8192, false, .any⟩]⟩,
  -- HBX_BUF_MIN_FREE (R415)
  ⟨0x200_0008, [(0x10_0000, 8)], false, [⟨0, 14, .rc, .none, 8192, false, .any⟩]⟩,
  -- HBX_SEQ (R415)
  ⟨0x200_000C, [(0x10_0000, 8)], false, [⟨0, 32, .ro, .none, 0, false, .any⟩]⟩,
  -- HBX_LANES (R415)
  ⟨0x200_0010, [(0x10_0000, 8)], false, [⟨0, 12, .ro, .none, 1672, false, .any⟩, ⟨12, 3, .ro, .none, 4, false, .any⟩]⟩,
  -- HBX_LANE_SVC (R415)
  ⟨0x200_0014, [(0x10_0000, 8)], false, [⟨0, 15, .ro, .none, 8192, false, .any⟩]⟩,
  -- HBX_FENCE (R415)
  ⟨0x200_0018, [(0x10_0000, 8)], false, [⟨0, 32, .ro, .none, 0, false, .any⟩]⟩,
  -- HBX_COUCH (R415)
  ⟨0x200_001C, [(0x10_0000, 8)], false, [⟨0, 10, .ro, .none, 0, false, .any⟩, ⟨16, 10, .rc, .none, 0, false, .any⟩]⟩,
  -- HBX_PORT_CFG (R416)
  ⟨0x200_0100, [(0x10_0000, 8), (0x4, 12)], false, [⟨0, 2, .rw, .live, 0, true, (.range 0 2)⟩, ⟨2, 2, .rw, .live, 0, true, .any⟩, ⟨4, 4, .rw, .live, 0, true, .any⟩, ⟨16, 12, .rw, .live, 0, true, .any⟩]⟩,
  -- HBX_CLASS_CFG (R416)
  ⟨0x200_0200, [(0x10_0000, 8), (0x4, 16)], false, [⟨0, 4, .rw, .live, 0, true, (.range 0 10)⟩, ⟨16, 14, .rw, .live, 0, true, .any⟩]⟩,
  -- HBX_PCP_MAP (R416)
  ⟨0x200_0300, [(0x10_0000, 8), (0x4, 4)], false, [⟨0, 32, .rw, .live, 0, true, .any⟩]⟩,
  -- HBX_DSCP_MAP (R416)
  ⟨0x200_0400, [(0x10_0000, 8), (0x20, 4), (0x4, 8)], false, [⟨0, 32, .rw, .live, 0, true, .any⟩]⟩,
  -- HBX_TPID (R417)
  ⟨0x200_0500, [(0x10_0000, 8), (0x4, 4)], false, [⟨0, 16, .rw, .staged, 0, true, .any⟩, ⟨16, 1, .rw, .staged, 0, true, .any⟩, ⟨17, 1, .rw, .staged, 0, true, .any⟩]⟩,
  -- HBX_TUNNEL_PORTS (R417)
  ⟨0x200_0510, [(0x10_0000, 8)], false, [⟨0, 16, .rw, .staged, 0, true, .any⟩, ⟨16, 16, .rw, .staged, 0, true, .any⟩]⟩,
  -- HBX_FRAG_CFG (R417)
  ⟨0x200_0520, [(0x10_0000, 8)], false, [⟨0, 1, .rw, .staged, 0, true, .any⟩, ⟨1, 7, .rw, .staged, 0, true, (.range 1 100)⟩, ⟨12, 20, .rw, .live, 0, true, (.range 100 1000000)⟩]⟩,
  -- HBX_FRAG_STATUS (R417)
  ⟨0x200_0524, [(0x10_0000, 8)], false, [⟨0, 15, .ro, .none, 0, false, .any⟩, ⟨16, 6, .ro, .none, 0, false, .any⟩]⟩,
  -- PIPE_CTRL (R456)
  ⟨0x201_0000, [(0x10_0000, 8)], false, [⟨0, 3, .rw, .staged, 0, true, (.range 1 4)⟩]⟩,
  -- PIPE_BANK_STATUS (R456)
  ⟨0x201_0004, [(0x10_0000, 8)], false, [⟨0, 1, .ro, .none, 0, false, .any⟩, ⟨1, 1, .ro, .none, 0, false, .any⟩, ⟨2, 2, .ro, .none, 0, false, .any⟩, ⟨4, 1, .ro, .none, 0, false, .any⟩, ⟨16, 16, .ro, .none, 0, false, .any⟩]⟩,
  -- PIPE_BANK_ID_L32 (R456)
  ⟨0x201_0010, [(0x10_0000, 8), (0x8, 2)], false, [⟨0, 32, .ro, .none, 0, false, .any⟩]⟩,
  -- PIPE_BANK_ID_H32 (R456)
  ⟨0x201_0014, [(0x10_0000, 8), (0x8, 2)], false, [⟨0, 32, .ro, .none, 0, false, .any⟩]⟩,
  -- PIPE_CNT_INDEX (R457)
  ⟨0x201_2000, [(0x10_0000, 8)], false, [⟨0, 20, .rw, .live, 0, false, .any⟩]⟩,
  -- PIPE_CNT_PKT_HI (R457)
  ⟨0x201_200C, [(0x10_0000, 8)], false, [⟨0, 32, .ro, .none, 0, false, .any⟩]⟩,
  -- PIPE_CNT_BYTE_LO (R457)
  ⟨0x201_2010, [(0x10_0000, 8)], false, [⟨0, 32, .ro, .none, 0, false, .any⟩]⟩,
  -- PIPE_CNT_BYTE_HI (R457)
  ⟨0x201_2014, [(0x10_0000, 8)], false, [⟨0, 32, .ro, .none, 0, false, .any⟩]⟩,
  -- FDB_CTRL (R501)
  ⟨0x202_0000, [(0x10_0000, 8)], false, [⟨0, 1, .rw, .live, 0, true, .any⟩, ⟨1, 1, .rw, .live, 0, true, .any⟩, ⟨2, 1, .rw, .live, 0, true, .any⟩]⟩
]

/-- Rows of the Slice block. -/
def regsSlice1 : List RegRow := [
  -- FDB_AGE_CFG (R501)
  ⟨0x202_0004, [(0x10_0000, 8)], false, [⟨0, 16, .rw, .live, 0, true, .any⟩, ⟨16, 8, .ro, .none, 0, false, .any⟩]⟩,
  -- FDB_LEARN_ACTION (R501)
  ⟨0x202_0008, [(0x10_0000, 8)], false, [⟨0, 32, .rw, .live, 0, true, .any⟩]⟩,
  -- FDB_ENTRIES (R501)
  ⟨0x202_000C, [(0x10_0000, 8)], false, [⟨0, 19, .ro, .none, 0, false, .any⟩]⟩,
  -- FDB_STATIC (R501)
  ⟨0x202_0010, [(0x10_0000, 8)], false, [⟨0, 19, .ro, .none, 0, false, .any⟩]⟩,
  -- FDB_RSEQ (R501)
  ⟨0x202_0014, [(0x10_0000, 8)], false, [⟨0, 32, .ro, .none, 0, false, .any⟩]⟩,
  -- FDB_LOG_OLDEST (R501)
  ⟨0x202_0018, [(0x10_0000, 8)], false, [⟨0, 32, .ro, .none, 0, false, .any⟩]⟩,
  -- FDB_LEARN_Q (R501)
  ⟨0x202_001C, [(0x10_0000, 8)], false, [⟨0, 11, .ro, .none, 0, false, .any⟩, ⟨16, 11, .rc, .none, 0, false, .any⟩]⟩,
  -- FDB_LPM4_ROUTES (R502)
  ⟨0x202_0040, [(0x10_0000, 8)], false, [⟨0, 20, .ro, .none, 0, false, .any⟩]⟩,
  -- FDB_LPM6_ROUTES (R502)
  ⟨0x202_0044, [(0x10_0000, 8)], false, [⟨0, 18, .ro, .none, 0, false, .any⟩]⟩,
  -- FDB_TCAM_REGION (R502)
  ⟨0x202_0100, [(0x10_0000, 8), (0x4, 8)], false, [⟨0, 15, .rw, .halt, 0, true, .any⟩, ⟨15, 1, .rw, .halt, 0, true, .any⟩, ⟨16, 16, .rw, .halt, 0, true, (.range 0 32768)⟩]⟩,
  -- FDB_TCAM_USED (R502)
  ⟨0x202_0120, [(0x10_0000, 8), (0x4, 8)], false, [⟨0, 16, .ro, .none, 0, false, .any⟩]⟩,
  -- FDB_FLOW_ENTRIES (R502)
  ⟨0x202_0140, [(0x10_0000, 8)], false, [⟨0, 25, .ro, .none, 0, false, .any⟩]⟩,
  -- FDB_FLOW_RSEQ (R502)
  ⟨0x202_0144, [(0x10_0000, 8)], false, [⟨0, 32, .ro, .none, 0, false, .any⟩]⟩,
  -- FDB_FLOW_LOG_OLDEST (R502)
  ⟨0x202_0148, [(0x10_0000, 8)], false, [⟨0, 32, .ro, .none, 0, false, .any⟩]⟩
]

def regsSlice : List RegRow := regsSlice0 ++ regsSlice1

/-- Rows of the Tb block. -/
def regsTb0 : List RegRow := [
  -- TB_CTRL (R121)
  ⟨0x300_0000, [], false, [⟨0, 2, .rw, .live, 0, true, (.range 0 2)⟩, ⟨2, 1, .rw, .live, 0, true, .any⟩, ⟨3, 1, .rw, .live, 0, false, .any⟩, ⟨4, 4, .rw, .live, 0, false, .any⟩]⟩,
  -- TB_STATE (R122)
  ⟨0x300_0004, [], false, [⟨0, 2, .ro, .none, 0, false, .any⟩, ⟨4, 4, .ro, .none, 0, false, .any⟩, ⟨8, 1, .ro, .none, 0, false, .any⟩, ⟨9, 1, .ro, .none, 0, false, .any⟩]⟩,
  -- TB_TIME_LATCH (R123)
  ⟨0x300_0008, [], false, [⟨0, 1, .wo, .live, 0, false, .any⟩]⟩,
  -- TB_TIME_SEC_H (R123)
  ⟨0x300_000C, [], false, [⟨0, 16, .ro, .none, 0, false, .any⟩]⟩,
  -- TB_TIME_SEC_L (R123)
  ⟨0x300_0010, [], false, [⟨0, 32, .ro, .none, 0, false, .any⟩]⟩,
  -- TB_TIME_NS (R123)
  ⟨0x300_0014, [], false, [⟨0, 32, .ro, .none, 0, false, .any⟩]⟩,
  -- TB_TIME_FRAC (R123)
  ⟨0x300_0018, [], false, [⟨0, 16, .ro, .none, 0, false, .any⟩]⟩,
  -- TB_INCR_FRAC (R124)
  ⟨0x300_0020, [], false, [⟨0, 32, .ro, .none, 2684354560, false, .any⟩]⟩,
  -- TB_INCR_NS (R124)
  ⟨0x300_0024, [], false, [⟨0, 8, .ro, .none, 0, false, .any⟩]⟩,
  -- TB_FREQ_OFFSET (R125)
  ⟨0x300_0028, [], false, [⟨0, 32, .ro, .none, 0, false, .any⟩]⟩,
  -- TB_PHASE_OFFSET (R125)
  ⟨0x300_002C, [], false, [⟨0, 32, .ro, .none, 0, false, .any⟩]⟩,
  -- TB_SLEW_LIMIT (R126)
  ⟨0x300_0030, [], false, [⟨0, 17, .rw, .live, 0, true, (.range 100 100000)⟩]⟩,
  -- TB_LOCK_CFG (R126)
  ⟨0x300_0034, [], false, [⟨0, 16, .rw, .live, 0, true, .any⟩, ⟨16, 8, .rw, .live, 0, true, (.range 1 255)⟩, ⟨24, 8, .rw, .live, 0, true, (.range 1 255)⟩]⟩,
  -- TB_UNLOCK_THRESH (R126)
  ⟨0x300_0038, [], false, [⟨0, 32, .rw, .live, 0, true, .any⟩]⟩,
  -- TB_STEP_THRESH (R126)
  ⟨0x300_003C, [], false, [⟨0, 32, .rw, .live, 0, true, .any⟩]⟩,
  -- TB_HOLDOVER_LIMIT (R126)
  ⟨0x300_0040, [], false, [⟨0, 32, .rw, .live, 0, true, .any⟩]⟩,
  -- TB_UTC (R127)
  ⟨0x300_0044, [], false, [⟨0, 16, .rw, .live, 0, true, .any⟩, ⟨16, 1, .rw, .live, 0, false, .any⟩, ⟨17, 1, .rw, .live, 0, false, .any⟩, ⟨18, 1, .rw, .live, 0, true, .any⟩]⟩,
  -- TB_STEP_COUNT (R128)
  ⟨0x300_0048, [], false, [⟨0, 32, .ro, .none, 0, false, .any⟩]⟩,
  -- TB_SRC_CFG (R129)
  ⟨0x300_0100, [(0x10, 16)], false, [⟨0, 4, .rw, .live, 0, true, (.range 0 5)⟩, ⟨4, 1, .rw, .live, 0, true, .any⟩, ⟨8, 4, .rw, .live, 0, true, .any⟩]⟩,
  -- TB_SRC_DELAY (R129)
  ⟨0x300_0104, [(0x10, 16)], false, [⟨0, 32, .rw, .live, 0, true, .any⟩]⟩,
  -- TB_SRC_STATUS (R129)
  ⟨0x300_0108, [(0x10, 16)], false, [⟨0, 1, .ro, .none, 0, false, .any⟩, ⟨1, 3, .ro, .none, 0, false, .any⟩]⟩,
  -- TB_FREF_CTRL (R130)
  ⟨0x300_0200, [], false, [⟨0, 1, .ro, .none, 0, true, .any⟩]⟩,
  -- TB_FREF_CFG (R130)
  ⟨0x300_0210, [(0x4, 8)], false, [⟨0, 3, .rw, .live, 0, true, (.range 0 5)⟩, ⟨3, 1, .rw, .live, 0, true, .any⟩, ⟨4, 7, .rw, .live, 0, true, .any⟩, ⟨11, 1, .ro, .none, 0, false, .any⟩, ⟨12, 4, .rw, .live, 0, true, .any⟩]⟩,
  -- TB_PPS_OUT_CTRL (R131)
  ⟨0x300_0300, [(0x10, 2)], false, [⟨0, 2, .rw, .live, 0, true, (.range 0 2)⟩, ⟨2, 19, .rw, .live, 0, true, (.range 1 500000)⟩]⟩,
  -- TB_PPS_OUT_ADV (R131)
  ⟨0x300_0304, [(0x10, 2)], false, [⟨0, 24, .rw, .live, 0, true, .any⟩]⟩
]

/-- Rows of the Tb block. -/
def regsTb1 : List RegRow := [
  -- TB_SYNCE_OUT (R132)
  ⟨0x300_0340, [(0x4, 2)], false, [⟨0, 7, .rw, .live, 0, true, .any⟩, ⟨7, 1, .rw, .live, 0, true, .any⟩, ⟨8, 1, .rw, .live, 0, true, .any⟩, ⟨9, 1, .rw, .live, 0, true, .any⟩]⟩,
  -- TB_TOD_CTRL (R133)
  ⟨0x300_0380, [], false, [⟨0, 1, .rw, .live, 0, true, .any⟩, ⟨1, 1, .rw, .live, 0, true, .any⟩, ⟨2, 1, .rw, .live, 0, true, .any⟩]⟩,
  -- TB_TOD_RX_OK (R133)
  ⟨0x300_0384, [], false, [⟨0, 32, .rc, .none, 0, false, .any⟩]⟩,
  -- TB_TOD_RX_ERR (R133)
  ⟨0x300_0388, [], false, [⟨0, 32, .rc, .none, 0, false, .any⟩]⟩,
  -- TB_EVT_CTRL (R134)
  ⟨0x300_0400, [], false, [⟨0, 4, .rw, .live, 0, true, .any⟩, ⟨4, 4, .rw, .live, 0, true, .any⟩]⟩,
  -- TB_EVT_STATUS (R134)
  ⟨0x300_0410, [(0x20, 4)], false, [⟨0, 7, .ro, .none, 0, false, .any⟩, ⟨7, 1, .w1c, .live, 0, false, .any⟩]⟩,
  -- TB_EVT_POP (R134)
  ⟨0x300_0414, [(0x20, 4)], false, [⟨0, 1, .wo, .live, 0, false, .any⟩]⟩,
  -- TB_EVT_SEC_H (R134)
  ⟨0x300_0418, [(0x20, 4)], false, [⟨0, 16, .ro, .none, 0, false, .any⟩]⟩,
  -- TB_EVT_SEC_L (R134)
  ⟨0x300_041C, [(0x20, 4)], false, [⟨0, 32, .ro, .none, 0, false, .any⟩]⟩,
  -- TB_EVT_NS (R134)
  ⟨0x300_0420, [(0x20, 4)], false, [⟨0, 32, .ro, .none, 0, false, .any⟩]⟩,
  -- TB_EVT_FRAC (R134)
  ⟨0x300_0424, [(0x20, 4)], false, [⟨0, 16, .ro, .none, 0, false, .any⟩]⟩,
  -- TB_EVT_OVF (R134)
  ⟨0x300_0428, [(0x20, 4)], false, [⟨0, 32, .rc, .none, 0, false, .any⟩]⟩
]

def regsTb : List RegRow := regsTb0 ++ regsTb1

/-- Rows of the Stp block. -/
def regsStp0 : List RegRow := [
  -- STP_CTRL (R169)
  ⟨0x310_0000, [], false, [⟨0, 8, .rw, .live, 0, true, (.range 1 255)⟩, ⟨8, 16, .rw, .live, 0, true, (.range 100 10000)⟩]⟩,
  -- STP_CAL_SET (R170)
  ⟨0x310_0004, [], false, [⟨0, 31, .ro, .none, 0, false, .any⟩, ⟨31, 1, .ro, .none, 1, false, .any⟩]⟩,
  -- STP_CAL_STATUS (R171)
  ⟨0x310_0010, [(0x4, 4)], false, [⟨0, 16, .ro, .none, 65535, false, .any⟩, ⟨16, 8, .ro, .none, 0, false, .any⟩, ⟨24, 1, .ro, .none, 0, false, .any⟩]⟩,
  -- STP_CAL_DIE_OFS (R171)
  ⟨0x310_0020, [(0x4, 4)], false, [⟨0, 32, .ro, .none, 0, false, .any⟩]⟩,
  -- STP_CAL_DELTA (R172)
  ⟨0x310_0040, [(0x20, 4), (0x4, 5)], false, [⟨0, 16, .ro, .none, 0, false, .any⟩, ⟨16, 16, .ro, .none, 0, false, .any⟩]⟩,
  -- STP_PORT_CFG (R173)
  ⟨0x320_0000, [(0x40, 96)], true, [⟨0, 1, .rw, .ream, 0, true, .any⟩]⟩,
  -- STP_CABLE_RX (R173)
  ⟨0x320_0004, [(0x40, 96)], true, [⟨0, 24, .rw, .ream, 0, true, (.range 0 5120000)⟩]⟩,
  -- STP_CABLE_TX (R173)
  ⟨0x320_0008, [(0x40, 96)], true, [⟨0, 24, .rw, .ream, 0, true, (.range 0 5120000)⟩]⟩,
  -- STP_CABLE_ADJ (R173)
  ⟨0x320_000C, [(0x40, 96)], true, [⟨0, 16, .rw, .ream, 0, true, .any⟩]⟩,
  -- STP_CABLE_MEAS (R173)
  ⟨0x320_0010, [(0x40, 96)], true, [⟨0, 24, .ro, .none, 0, false, .any⟩, ⟨31, 1, .ro, .none, 0, false, .any⟩]⟩,
  -- STP_PORT_STATUS (R173)
  ⟨0x320_0014, [(0x40, 96)], true, [⟨0, 4, .ro, .none, 15, false, .any⟩, ⟨4, 1, .ro, .none, 0, false, .any⟩]⟩,
  -- STP_RX_LAT (R173)
  ⟨0x320_0018, [(0x40, 96)], true, [⟨0, 32, .ro, .none, 0, false, .any⟩]⟩,
  -- STP_TX_LAT (R173)
  ⟨0x320_001C, [(0x40, 96)], true, [⟨0, 32, .ro, .none, 0, false, .any⟩]⟩,
  -- STP_LANE_RX_LAT (R174)
  ⟨0x321_0000, [(0x8, 96)], false, [⟨0, 32, .ro, .none, 0, false, .any⟩]⟩,
  -- STP_LANE_TX_LAT (R174)
  ⟨0x321_0004, [(0x8, 96)], false, [⟨0, 32, .ro, .none, 0, false, .any⟩]⟩
]

def regsStp : List RegRow := regsStp0

/-- Rows of the Ldg block. -/
def regsLdg0 : List RegRow := [
  -- LDG_CTRL (R258)
  ⟨0x340_0000, [], false, [⟨0, 1, .rw, .ream, 0, true, .any⟩, ⟨4, 4, .rw, .ream, 0, true, (.range 0 13)⟩, ⟨8, 2, .rw, .ream, 0, true, .any⟩]⟩,
  -- LDG_REC_CLASS (R260)
  ⟨0x340_0004, [], false, [⟨0, 16, .rw, .ream, 0, true, .any⟩]⟩,
  -- LDG_INJ_CLASS (R260)
  ⟨0x340_0008, [], false, [⟨0, 4, .rw, .ream, 0, true, .any⟩, ⟨4, 2, .rw, .ream, 0, true, .any⟩]⟩,
  -- LDG_REAM_L32 (R261)
  ⟨0x340_0010, [], false, [⟨0, 32, .ro, .none, 0, false, .any⟩]⟩,
  -- LDG_REAM_H32 (R261)
  ⟨0x340_0014, [], false, [⟨0, 32, .ro, .none, 0, false, .any⟩]⟩,
  -- LDG_SEALED_L32 (R261)
  ⟨0x340_0018, [], false, [⟨0, 32, .ro, .none, 0, false, .any⟩]⟩,
  -- LDG_SEALED_H32 (R261)
  ⟨0x340_001C, [], false, [⟨0, 32, .ro, .none, 0, false, .any⟩]⟩,
  -- LDG_SEALED_ROOT (R261)
  ⟨0x340_0020, [(0x4, 8)], false, [⟨0, 32, .ro, .none, 0, false, .any⟩]⟩,
  -- LDG_STATUS (R263)
  ⟨0x340_0040, [], false, [⟨0, 1, .ro, .none, 0, false, .any⟩, ⟨1, 1, .ro, .none, 0, false, .any⟩, ⟨2, 1, .ro, .none, 0, false, .any⟩, ⟨8, 8, .ro, .none, 0, false, .any⟩]⟩,
  -- LDG_STAGING_USED (R263)
  ⟨0x340_0044, [], false, [⟨0, 32, .ro, .none, 0, false, .any⟩]⟩,
  -- LDG_STAGING_HWM (R263)
  ⟨0x340_0048, [], false, [⟨0, 32, .rc, .none, 0, false, .any⟩]⟩,
  -- LDG_MISSING (R263)
  ⟨0x340_004C, [], false, [⟨0, 32, .rc, .none, 0, false, .any⟩]⟩,
  -- LDG_HDR_LOST (R263)
  ⟨0x340_0050, [], false, [⟨0, 32, .rc, .none, 0, false, .any⟩]⟩,
  -- LDG_INFLIGHT (R263)
  ⟨0x340_0054, [], false, [⟨0, 32, .rc, .none, 0, false, .any⟩]⟩,
  -- LDG_CARRIED (R263)
  ⟨0x340_0058, [], false, [⟨0, 32, .rc, .none, 0, false, .any⟩]⟩,
  -- LDG_REFUSED (R263)
  ⟨0x340_005C, [], false, [⟨0, 32, .rc, .none, 0, false, .any⟩]⟩,
  -- LDG_CKPT_STATUS (R264)
  ⟨0x340_0060, [], false, [⟨0, 16, .ro, .none, 65535, false, .any⟩, ⟨16, 1, .ro, .none, 0, false, .any⟩, ⟨17, 1, .ro, .none, 0, false, .any⟩]⟩,
  -- LDG_CKPT_REAM_L32 (R264)
  ⟨0x340_0064, [], false, [⟨0, 32, .ro, .none, 0, false, .any⟩]⟩,
  -- LDG_CKPT_REAM_H32 (R264)
  ⟨0x340_0068, [], false, [⟨0, 32, .ro, .none, 0, false, .any⟩]⟩,
  -- LDG_SVC_BUILDER (R265)
  ⟨0x340_0070, [], false, [⟨0, 3, .ro, .none, 0, false, .any⟩, ⟨4, 3, .ro, .none, 0, false, .any⟩, ⟨7, 1, .ro, .none, 0, false, .any⟩]⟩,
  -- LDG_SVC_SIGNER (R265)
  ⟨0x340_0074, [], false, [⟨0, 9, .ro, .none, 128, false, .any⟩]⟩,
  -- LDG_SVC_ENG_A (R265)
  ⟨0x340_0100, [(0x8, 8)], false, [⟨0, 24, .ro, .none, 0, false, .any⟩]⟩,
  -- LDG_SVC_ENG_B (R265)
  ⟨0x340_0104, [(0x8, 8)], false, [⟨0, 9, .ro, .none, 128, false, .any⟩, ⟨12, 4, .ro, .none, 15, false, .any⟩]⟩,
  -- LDG_RING_CTRL (R266)
  ⟨0x340_0200, [(0x40, 4)], false, [⟨0, 1, .ro, .none, 0, false, .any⟩, ⟨1, 2, .ro, .none, 0, false, .any⟩, ⟨8, 5, .ro, .none, 0, false, .any⟩, ⟨16, 4, .ro, .none, 0, false, .any⟩, ⟨21, 11, .ro, .none, 0, false, .any⟩]⟩,
  -- LDG_RING_REC_CONS (R266)
  ⟨0x340_0204, [(0x40, 4)], false, [⟨0, 32, .rw, .live, 0, false, .any⟩]⟩
]

/-- Rows of the Ldg block. -/
def regsLdg1 : List RegRow := [
  -- LDG_RING_HDR_CONS (R266)
  ⟨0x340_0208, [(0x40, 4)], false, [⟨0, 32, .rw, .live, 0, false, .any⟩]⟩,
  -- LDG_RING_REC_PROD (R266)
  ⟨0x340_020C, [(0x40, 4)], false, [⟨0, 32, .ro, .none, 0, false, .any⟩]⟩,
  -- LDG_RING_HDR_PROD (R266)
  ⟨0x340_0210, [(0x40, 4)], false, [⟨0, 32, .ro, .none, 0, false, .any⟩]⟩,
  -- LDG_RING_MOD (R266)
  ⟨0x340_0214, [(0x40, 4)], false, [⟨0, 10, .rw, .live, 0, true, (.range 0 1000)⟩, ⟨16, 9, .rw, .live, 0, true, (.range 1 256)⟩]⟩,
  -- LDG_RING_STATUS (R266)
  ⟨0x340_0218, [(0x40, 4)], false, [⟨0, 1, .ro, .none, 0, false, .any⟩, ⟨1, 1, .w1c, .live, 0, false, .any⟩]⟩,
  -- LDG_PORT_CFG (R260)
  ⟨0x341_0000, [(0x4, 96)], false, [⟨0, 4, .rw, .ream, 0, true, .any⟩, ⟨4, 2, .rw, .ream, 0, true, .any⟩]⟩
]

def regsLdg : List RegRow := regsLdg0 ++ regsLdg1

/-- Rows of the MrgRel block. -/
def regsMrgRel0 : List RegRow := [
  -- MRG_STATUS (R311)
  ⟨0x380_0000, [], false, [⟨0, 3, .ro, .none, 0, false, .any⟩, ⟨4, 3, .ro, .none, 0, false, .any⟩, ⟨7, 1, .ro, .none, 0, false, .any⟩, ⟨8, 1, .ro, .none, 0, false, .any⟩]⟩,
  -- MRG_HELD (R312)
  ⟨0x380_0004, [], false, [⟨0, 17, .ro, .none, 0, false, .any⟩]⟩,
  -- MRG_HELD_HWM (R312)
  ⟨0x380_0008, [], false, [⟨0, 17, .rc, .none, 0, false, .any⟩]⟩,
  -- MRG_GROUP_CFG (R313)
  ⟨0x381_0000, [(0x100, 16)], false, [⟨0, 1, .ro, .none, 0, true, .any⟩, ⟨1, 1, .ro, .none, 0, true, .any⟩, ⟨8, 17, .ro, .none, 0, true, .any⟩]⟩,
  -- MRG_WINDOW (R313)
  ⟨0x381_0004, [(0x100, 16)], false, [⟨0, 15, .rw, .ream, 0, true, (.range 100 20000)⟩]⟩,
  -- MRG_MEMBERS (R313)
  ⟨0x381_0008, [(0x100, 16), (0x4, 3)], false, [⟨0, 32, .rw, .ream, 0, true, .any⟩]⟩,
  -- MRG_MAX_HELD (R313)
  ⟨0x381_0014, [(0x100, 16)], false, [⟨0, 17, .rw, .staged, 0, true, (.range 1 65536)⟩]⟩,
  -- MRG_SEQ_L32 (R313)
  ⟨0x381_0018, [(0x100, 16)], false, [⟨0, 32, .ro, .none, 0, false, .any⟩]⟩,
  -- MRG_SEQ_H32 (R313)
  ⟨0x381_001C, [(0x100, 16)], false, [⟨0, 32, .ro, .none, 0, false, .any⟩]⟩,
  -- MRG_LAG_PORT (R313)
  ⟨0x381_0048, [(0x100, 16)], false, [⟨0, 7, .ro, .none, 0, false, .any⟩, ⟨7, 1, .ro, .none, 0, false, .any⟩]⟩,
  -- MRG_RANK0 (R313)
  ⟨0x381_004C, [(0x100, 16)], false, [⟨0, 7, .ro, .none, 0, false, .any⟩]⟩,
  -- MRG_FRONT_L32 (R314)
  ⟨0x382_0000, [(0x8, 96)], false, [⟨0, 32, .ro, .none, 0, false, .any⟩]⟩,
  -- MRG_FRONT_H32 (R314)
  ⟨0x382_0004, [(0x8, 96)], false, [⟨0, 32, .ro, .none, 0, false, .any⟩]⟩,
  -- REL_GROUP_CFG (R315)
  ⟨0x3C1_0000, [(0x100, 16)], false, [⟨0, 1, .ro, .none, 0, true, .any⟩, ⟨1, 1, .rw, .staged, 0, true, .any⟩, ⟨2, 2, .ro, .none, 0, true, .any⟩, ⟨4, 3, .ro, .none, 0, true, .any⟩]⟩,
  -- REL_HORIZON (R315)
  ⟨0x3C1_0004, [(0x100, 16)], false, [⟨0, 17, .rw, .staged, 0, true, (.range 1 100000)⟩]⟩,
  -- REL_MEMBERS (R315)
  ⟨0x3C1_0008, [(0x100, 16), (0x4, 3)], false, [⟨0, 32, .rw, .ream, 0, true, .any⟩]⟩,
  -- REL_PORT_STATUS (R316)
  ⟨0x3C2_0000, [(0x4, 96)], false, [⟨0, 4, .ro, .none, 0, false, .any⟩, ⟨4, 2, .ro, .none, 0, false, .any⟩, ⟨6, 1, .ro, .none, 0, false, .any⟩, ⟨16, 12, .ro, .none, 0, false, .any⟩]⟩
]

def regsMrgRel : List RegRow := regsMrgRel0

/-- Rows of the Tm block. -/
def regsTm0 : List RegRow := [
  -- TM_CTRL (R537)
  ⟨0x400_0000, [], false, [⟨0, 1, .rw, .live, 0, true, .any⟩]⟩,
  -- TM_BUF_FREE (R537)
  ⟨0x400_0004, [], false, [⟨0, 20, .ro, .none, 524288, false, .any⟩]⟩,
  -- TM_BUF_MIN_FREE (R537)
  ⟨0x400_0008, [], false, [⟨0, 20, .rc, .none, 524288, false, .any⟩]⟩,
  -- TM_HBM_FREE (R537)
  ⟨0x400_000C, [], false, [⟨0, 26, .ro, .none, 33554432, false, .any⟩]⟩,
  -- TM_HOST_CFG (R537)
  ⟨0x400_0010, [], false, [⟨0, 16, .rw, .live, 0, true, .any⟩, ⟨16, 4, .rw, .live, 0, true, (.range 0 10)⟩, ⟨20, 4, .rw, .live, 0, true, (.range 0 10)⟩, ⟨24, 7, .rw, .live, 0, true, .overhead⟩]⟩,
  -- TM_STO_RSV (R537)
  ⟨0x400_0014, [], false, [⟨0, 26, .rw, .live, 0, true, .any⟩]⟩,
  -- TM_CLASS_CFG (R537)
  ⟨0x400_0100, [(0x4, 16)], false, [⟨0, 4, .rw, .live, 0, true, (.range 0 10)⟩, ⟨16, 16, .rw, .live, 0, true, .any⟩]⟩,
  -- TM_REL_HELD (R537)
  ⟨0x400_0200, [], false, [⟨0, 19, .ro, .none, 0, false, .any⟩]⟩,
  -- TM_PORT_CFG (R539)
  ⟨0x410_0000, [(0x4000, 96)], true, [⟨0, 16, .rw, .live, 0, true, .any⟩, ⟨16, 4, .rw, .live, 0, true, (.range 0 10)⟩, ⟨20, 1, .rw, .live, 0, true, .any⟩]⟩,
  -- TM_PORT_SCHED (R539)
  ⟨0x410_0004, [(0x4000, 96)], true, [⟨0, 7, .rw, .staged, 0, true, .overhead⟩, ⟨7, 1, .rw, .staged, 0, true, .any⟩]⟩,
  -- TM_PORT_SHAPE_RATE (R539)
  ⟨0x410_0008, [(0x4000, 96)], true, [⟨0, 32, .rw, .staged, 0, true, .any⟩]⟩,
  -- TM_PORT_SHAPE_BURST (R539)
  ⟨0x410_000C, [(0x4000, 96)], true, [⟨0, 24, .rw, .staged, 0, true, .any⟩]⟩,
  -- TM_CLASS_WEIGHT (R539)
  ⟨0x410_0010, [(0x4000, 96), (0x4, 3)], true, [⟨0, 32, .rw, .staged, 0, true, .bytesNonZero⟩]⟩,
  -- TM_CLASS_SHAPE_RATE (R539)
  ⟨0x410_0100, [(0x4000, 96), (0x8, 16)], true, [⟨0, 32, .rw, .staged, 0, true, .any⟩]⟩,
  -- TM_CLASS_SHAPE_BURST (R539)
  ⟨0x410_0104, [(0x4000, 96), (0x8, 16)], true, [⟨0, 24, .rw, .staged, 0, true, .any⟩]⟩,
  -- TM_PORT_PFC (R539)
  ⟨0x410_0200, [(0x4000, 96)], true, [⟨0, 3, .rw, .live, 0, true, .any⟩, ⟨16, 16, .rw, .live, 0, true, .any⟩]⟩,
  -- TM_PFC_XOFF (R539)
  ⟨0x410_0210, [(0x4000, 96), (0x8, 8)], true, [⟨0, 20, .rw, .live, 0, true, .any⟩]⟩,
  -- TM_PFC_XON (R539)
  ⟨0x410_0214, [(0x4000, 96), (0x8, 8)], true, [⟨0, 20, .rw, .live, 0, true, .any⟩]⟩,
  -- TM_Q_DEPTH (R539)
  ⟨0x410_0300, [(0x4000, 96), (0x4, 16)], true, [⟨0, 20, .ro, .none, 0, false, .any⟩]⟩,
  -- TM_GATE_CTRL (R539)
  ⟨0x410_0400, [(0x4000, 96)], true, [⟨0, 11, .rw, .ream, 0, true, (.range 1 1024)⟩, ⟨16, 1, .rw, .ream, 0, true, .any⟩]⟩,
  -- TM_GATE_BASE_SEC_H (R539)
  ⟨0x410_0404, [(0x4000, 96)], true, [⟨0, 16, .rw, .ream, 0, true, .any⟩]⟩,
  -- TM_GATE_BASE_SEC_L (R539)
  ⟨0x410_0408, [(0x4000, 96)], true, [⟨0, 32, .rw, .ream, 0, true, .any⟩]⟩,
  -- TM_GATE_BASE_NS (R539)
  ⟨0x410_040C, [(0x4000, 96)], true, [⟨0, 30, .rw, .ream, 0, true, .any⟩]⟩,
  -- TM_GATE_CYCLE (R539)
  ⟨0x410_0410, [(0x4000, 96)], true, [⟨0, 30, .rw, .ream, 0, true, (.range 1000 1000000000)⟩]⟩,
  -- TM_GATE_STATUS (R539)
  ⟨0x410_0414, [(0x4000, 96)], true, [⟨0, 10, .ro, .none, 0, false, .any⟩, ⟨16, 1, .ro, .none, 0, false, .any⟩, ⟨17, 1, .ro, .none, 0, false, .any⟩]⟩
]

/-- Rows of the Tm block. -/
def regsTm1 : List RegRow := [
  -- TM_GATE_GATES (R539)
  ⟨0x410_2000, [(0x4000, 96), (0x8, 1024)], true, [⟨0, 16, .rw, .ream, 0, true, .any⟩]⟩,
  -- TM_GATE_INTERVAL (R539)
  ⟨0x410_2004, [(0x4000, 96), (0x8, 1024)], true, [⟨0, 30, .rw, .ream, 0, true, (.range 1 999999999)⟩]⟩,
  -- TM_VF_RX_RATE (R541)
  ⟨0x440_0000, [(0x10, 4096)], false, [⟨0, 32, .rw, .live, 0, true, .any⟩]⟩,
  -- TM_VF_RX_BURST (R541)
  ⟨0x440_0004, [(0x10, 4096)], false, [⟨0, 24, .rw, .live, 0, true, .any⟩]⟩,
  -- TM_VF_TX_RATE (R541)
  ⟨0x440_0008, [(0x10, 4096)], false, [⟨0, 32, .rw, .live, 0, true, .any⟩]⟩,
  -- TM_VF_TX_BURST (R541)
  ⟨0x440_000C, [(0x10, 4096)], false, [⟨0, 24, .rw, .live, 0, true, .any⟩]⟩,
  -- TM_POL_SEL (R542)
  ⟨0x460_0000, [], false, [⟨0, 14, .rw, .live, 0, false, .any⟩, ⟨16, 4, .rw, .live, 0, false, .polSlice⟩]⟩,
  -- TM_POL_CIR (R542)
  ⟨0x460_0004, [], false, [⟨0, 32, .rw, .staged, 0, true, .any⟩]⟩,
  -- TM_POL_PIR (R542)
  ⟨0x460_0008, [], false, [⟨0, 32, .rw, .staged, 0, true, .any⟩]⟩,
  -- TM_POL_CBS (R542)
  ⟨0x460_000C, [], false, [⟨0, 24, .rw, .staged, 0, true, .any⟩]⟩,
  -- TM_POL_PBS (R542)
  ⟨0x460_0010, [], false, [⟨0, 24, .rw, .staged, 0, true, .any⟩]⟩,
  -- TM_POL_CFG (R542)
  ⟨0x460_0014, [], false, [⟨0, 7, .rw, .staged, 0, true, .overhead⟩]⟩,
  -- TM_MCAST_PORTS (R541)
  ⟨0x470_0000, [(0x10, 4096), (0x4, 3)], false, [⟨0, 32, .rw, .staged, 0, true, .any⟩]⟩,
  -- TM_MCAST_CFG (R541)
  ⟨0x470_000C, [(0x10, 4096)], false, [⟨0, 1, .rw, .staged, 0, true, .any⟩]⟩,
  -- TM_MIRROR_DEST (R541)
  ⟨0x478_0000, [(0x10, 16)], false, [⟨0, 17, .rw, .staged, 0, true, .any⟩, ⟨17, 1, .rw, .staged, 0, true, .any⟩, ⟨18, 1, .rw, .staged, 0, true, .any⟩]⟩,
  -- TM_MIRROR_CFG (R541)
  ⟨0x478_0004, [(0x10, 16)], false, [⟨0, 14, .rw, .staged, 0, true, .any⟩, ⟨16, 4, .rw, .staged, 0, true, .any⟩]⟩
]

def regsTm : List RegRow := regsTm0 ++ regsTm1

/-- Rows of the CrySto block. -/
def regsCrySto0 : List RegRow := [
  -- CRY_STATUS (R583)
  ⟨0x500_0000, [], false, [⟨0, 6, .ro, .none, 32, false, .any⟩, ⟨6, 1, .ro, .none, 0, false, .any⟩]⟩,
  -- CRY_SVC (R583)
  ⟨0x500_0010, [(0x4, 4)], false, [⟨0, 30, .ro, .none, 0, false, .any⟩]⟩,
  -- CRY_SPARE_ROLE (R583)
  ⟨0x500_0020, [], false, [⟨0, 6, .ro, .none, 63, false, .any⟩, ⟨8, 6, .ro, .none, 63, false, .any⟩]⟩,
  -- CRY_CONTEXTS (R583)
  ⟨0x500_0024, [], false, [⟨0, 20, .ro, .none, 0, false, .any⟩]⟩,
  -- STO_STATUS (R584)
  ⟨0x580_0000, [], false, [⟨0, 5, .ro, .none, 16, false, .any⟩, ⟨5, 1, .ro, .none, 0, false, .any⟩]⟩,
  -- STO_SVC (R584)
  ⟨0x580_0010, [(0x4, 2)], false, [⟨0, 30, .ro, .none, 0, false, .any⟩]⟩,
  -- STO_CONNS (R584)
  ⟨0x580_0020, [], false, [⟨0, 17, .ro, .none, 0, false, .any⟩]⟩,
  -- STO_RSV_USED (R584)
  ⟨0x580_0024, [], false, [⟨0, 32, .ro, .none, 0, false, .any⟩]⟩,
  -- STO_CONN_SEL (R584)
  ⟨0x580_0100, [], false, [⟨0, 32, .rw, .live, 0, false, .any⟩]⟩,
  -- STO_CONN_STATE (R584)
  ⟨0x580_0104, [], false, [⟨0, 4, .ro, .none, 0, false, .any⟩, ⟨8, 8, .ro, .none, 0, false, .any⟩, ⟨16, 11, .ro, .none, 0, false, .any⟩]⟩,
  -- STO_CONN_SRTT (R584)
  ⟨0x580_0108, [], false, [⟨0, 32, .ro, .none, 0, false, .any⟩]⟩,
  -- STO_CONN_WIN (R584)
  ⟨0x580_010C, [], false, [⟨0, 32, .ro, .none, 0, false, .any⟩]⟩
]

def regsCrySto : List RegRow := regsCrySto0

/-- Rows of the HifQm block. -/
def regsHifQm0 : List RegRow := [
  -- HIF_STATUS (R621)
  ⟨0x600_0000, [], false, [⟨0, 1, .ro, .none, 0, false, .any⟩, ⟨1, 1, .ro, .none, 0, false, .any⟩, ⟨2, 1, .ro, .none, 0, false, .any⟩, ⟨3, 1, .ro, .none, 0, false, .any⟩, ⟨4, 4, .ro, .none, 0, false, .any⟩, ⟨8, 5, .ro, .none, 0, false, .any⟩, ⟨13, 1, .ro, .none, 0, false, .any⟩, ⟨16, 5, .ro, .none, 0, false, .any⟩]⟩,
  -- HIF_ARB (R621)
  ⟨0x600_0004, [], false, [⟨0, 8, .rw, .live, 0, true, (.range 1 255)⟩, ⟨8, 8, .rw, .live, 0, true, (.range 1 255)⟩]⟩,
  -- HIF_PM_CFG (R621)
  ⟨0x600_0008, [], false, [⟨0, 16, .rw, .live, 0, true, (.range 1 65535)⟩, ⟨16, 1, .rw, .live, 0, true, .any⟩, ⟨17, 7, .rw, .live, 0, true, (.range 1 50)⟩]⟩,
  -- HIF_TAG_STATUS (R621)
  ⟨0x600_000C, [], false, [⟨0, 13, .ro, .none, 0, false, .any⟩, ⟨16, 13, .ro, .none, 0, false, .any⟩]⟩,
  -- HIF_ATC_ENTRIES (R621)
  ⟨0x600_0010, [], false, [⟨0, 15, .ro, .none, 0, false, .any⟩]⟩,
  -- HIF_LAST_TIMEOUT (R621)
  ⟨0x600_0014, [], false, [⟨0, 13, .ro, .none, 0, false, .any⟩, ⟨16, 14, .ro, .none, 0, false, .any⟩, ⟨30, 1, .ro, .none, 0, false, .any⟩, ⟨31, 1, .ro, .none, 0, false, .any⟩]⟩,
  -- QM_STATUS (R683)
  ⟨0x610_0000, [], false, [⟨0, 18, .ro, .none, 0, false, .any⟩]⟩,
  -- QM_NR_USED (R683)
  ⟨0x610_0004, [], false, [⟨0, 17, .ro, .none, 0, false, .any⟩]⟩,
  -- QM_VEC_USED (R683)
  ⟨0x610_0008, [], false, [⟨0, 17, .ro, .none, 0, false, .any⟩]⟩,
  -- QM_REPORT (R683)
  ⟨0x610_000C, [], false, [⟨0, 16, .ro, .none, 0, false, .any⟩, ⟨16, 1, .ro, .none, 0, false, .any⟩]⟩,
  -- QM_FN_SEL (R683)
  ⟨0x610_0100, [], false, [⟨0, 13, .rw, .live, 0, false, (.range 0 4096)⟩]⟩,
  -- QM_FN_STATE (R683)
  ⟨0x610_0104, [], false, [⟨0, 16, .ro, .none, 0, false, .any⟩, ⟨16, 2, .ro, .none, 0, false, .any⟩, ⟨18, 1, .ro, .none, 0, false, .any⟩]⟩,
  -- QM_FN_WQ_QUOTA (R683)
  ⟨0x610_0108, [], false, [⟨0, 17, .ro, .none, 0, false, .any⟩]⟩,
  -- QM_FN_WQ_USED (R683)
  ⟨0x610_010C, [], false, [⟨0, 17, .ro, .none, 0, false, .any⟩]⟩,
  -- QM_FN_NR_QUOTA (R683)
  ⟨0x610_0110, [], false, [⟨0, 17, .ro, .none, 0, false, .any⟩]⟩,
  -- QM_FN_NR_USED (R683)
  ⟨0x610_0114, [], false, [⟨0, 17, .ro, .none, 0, false, .any⟩]⟩,
  -- QM_FN_VECTORS (R683)
  ⟨0x610_0118, [], false, [⟨0, 12, .ro, .none, 0, false, .any⟩]⟩,
  -- QM_FN_CTX_QUOTA (R683)
  ⟨0x610_011C, [], false, [⟨0, 20, .ro, .none, 0, false, .any⟩]⟩,
  -- QM_WQ_SEL (R683)
  ⟨0x610_0200, [], false, [⟨0, 17, .rw, .live, 0, false, .any⟩]⟩,
  -- QM_WQ_STATE (R683)
  ⟨0x610_0204, [], false, [⟨0, 2, .ro, .none, 0, false, .any⟩, ⟨2, 2, .ro, .none, 0, false, .any⟩, ⟨4, 1, .ro, .none, 0, false, .any⟩, ⟨8, 8, .ro, .none, 0, false, .any⟩, ⟨16, 13, .ro, .none, 0, false, .any⟩]⟩,
  -- QM_WQ_PROD (R683)
  ⟨0x610_0208, [], false, [⟨0, 32, .ro, .none, 0, false, .any⟩]⟩,
  -- QM_WQ_HEAD (R683)
  ⟨0x610_020C, [], false, [⟨0, 32, .ro, .none, 0, false, .any⟩]⟩,
  -- QM_WQ_LOCAL (R683)
  ⟨0x610_0210, [], false, [⟨0, 16, .ro, .none, 0, false, .any⟩, ⟨16, 5, .ro, .none, 0, false, .any⟩]⟩,
  -- QM_WQ_NR (R683)
  ⟨0x610_0214, [], false, [⟨0, 16, .ro, .none, 0, false, .any⟩, ⟨16, 1, .ro, .none, 0, false, .any⟩, ⟨17, 1, .ro, .none, 0, false, .any⟩]⟩,
  -- QM_WQ_PREFETCH (R683)
  ⟨0x610_0218, [], false, [⟨0, 6, .ro, .none, 0, false, .any⟩]⟩
]

/-- Rows of the HifQm block. -/
def regsHifQm1 : List RegRow := [
  -- QM_NR_SEL (R683)
  ⟨0x610_0300, [], false, [⟨0, 16, .rw, .live, 0, false, .any⟩]⟩,
  -- QM_NR_STATE (R683)
  ⟨0x610_0304, [], false, [⟨0, 1, .ro, .none, 0, false, .any⟩, ⟨1, 1, .ro, .none, 0, false, .any⟩, ⟨2, 1, .w1c, .live, 0, false, .any⟩, ⟨3, 1, .ro, .none, 0, false, .any⟩, ⟨16, 13, .ro, .none, 0, false, .any⟩]⟩,
  -- QM_NR_PROD (R683)
  ⟨0x610_0308, [], false, [⟨0, 32, .ro, .none, 0, false, .any⟩]⟩,
  -- QM_NR_CONS (R683)
  ⟨0x610_030C, [], false, [⟨0, 32, .ro, .none, 0, false, .any⟩]⟩,
  -- QM_NR_CFG (R683)
  ⟨0x610_0310, [], false, [⟨0, 11, .ro, .none, 0, false, .any⟩, ⟨11, 5, .ro, .none, 0, false, .any⟩]⟩,
  -- QM_NR_MOD (R683)
  ⟨0x610_0314, [], false, [⟨0, 10, .rw, .live, 0, false, (.range 0 1000)⟩, ⟨16, 9, .rw, .live, 0, false, (.range 1 256)⟩]⟩
]

def regsHifQm : List RegRow := regsHifQm0 ++ regsHifQm1

/-- Rows of the Mgt block. -/
def regsMgt0 : List RegRow := [
  -- MGT_STATUS (R728)
  ⟨0x700_0000, [], false, [⟨0, 4, .ro, .none, 0, false, .any⟩, ⟨4, 2, .ro, .none, 0, false, .any⟩, ⟨6, 1, .ro, .none, 0, false, .any⟩, ⟨7, 1, .ro, .none, 0, false, .any⟩, ⟨8, 1, .ro, .none, 0, false, .any⟩, ⟨9, 1, .ro, .none, 0, false, .any⟩]⟩,
  -- MGT_FW_VERSION (R728)
  ⟨0x700_0004, [], false, [⟨0, 32, .ro, .none, 0, false, .any⟩]⟩,
  -- MGT_FW_SVN (R728)
  ⟨0x700_0008, [], false, [⟨0, 16, .ro, .none, 0, false, .any⟩, ⟨16, 16, .ro, .none, 0, false, .any⟩]⟩,
  -- MGT_BOOT_MS (R728)
  ⟨0x700_000C, [], false, [⟨0, 16, .ro, .none, 0, false, .any⟩]⟩,
  -- MGT_MCTP (R728)
  ⟨0x700_0010, [], false, [⟨0, 7, .ro, .none, 0, true, .any⟩, ⟨8, 8, .ro, .none, 0, false, .any⟩, ⟨16, 1, .ro, .none, 0, false, .any⟩]⟩,
  -- MBX_DATA (R729)
  ⟨0x710_0000, [(0x80, 64), (0x4, 16)], false, [⟨0, 32, .rw, .live, 0, false, .any⟩]⟩,
  -- MBX_CTRL (R729)
  ⟨0x710_0040, [(0x80, 64)], false, [⟨0, 1, .wo, .live, 0, false, .any⟩]⟩,
  -- MBX_STATUS (R729)
  ⟨0x710_0044, [(0x80, 64)], false, [⟨0, 1, .ro, .none, 0, false, .any⟩, ⟨1, 1, .w1c, .live, 0, false, .any⟩, ⟨2, 1, .ro, .none, 0, false, .any⟩]⟩,
  -- MBX_BIND (R729)
  ⟨0x710_0048, [(0x80, 64)], false, [⟨0, 8, .ro, .none, 0, true, .any⟩, ⟨8, 8, .ro, .none, 0, true, .any⟩, ⟨16, 11, .ro, .none, 0, true, .any⟩]⟩,
  -- NVM_STATE (R730)
  ⟨0x720_0000, [], false, [⟨0, 3, .ro, .none, 0, false, .any⟩, ⟨3, 3, .ro, .none, 0, false, .any⟩, ⟨6, 1, .ro, .none, 0, false, .any⟩, ⟨7, 7, .ro, .none, 0, false, .any⟩, ⟨16, 8, .ro, .none, 0, false, .any⟩]⟩,
  -- NVM_JSEQ_L32 (R730)
  ⟨0x720_0004, [], false, [⟨0, 32, .ro, .none, 0, false, .any⟩]⟩,
  -- NVM_JSEQ_H32 (R730)
  ⟨0x720_0008, [], false, [⟨0, 32, .ro, .none, 0, false, .any⟩]⟩,
  -- NVM_SB_SEQ_L32 (R730)
  ⟨0x720_000C, [], false, [⟨0, 32, .ro, .none, 0, false, .any⟩]⟩,
  -- NVM_SB_SEQ_H32 (R730)
  ⟨0x720_0010, [], false, [⟨0, 32, .ro, .none, 0, false, .any⟩]⟩,
  -- NVM_EPOCH_HWM (R730)
  ⟨0x720_0014, [], false, [⟨0, 32, .ro, .none, 0, false, .any⟩]⟩,
  -- NVM_UPD_CTRL (R730)
  ⟨0x720_0100, [], false, [⟨0, 2, .wo, .live, 0, false, (.range 1 3)⟩, ⟨2, 1, .rw, .live, 0, false, .any⟩, ⟨3, 1, .rw, .live, 0, false, .any⟩]⟩,
  -- NVM_UPD_LEN (R730)
  ⟨0x720_0104, [], false, [⟨0, 25, .rw, .live, 0, false, .any⟩]⟩,
  -- NVM_UPD_OFFSET (R730)
  ⟨0x720_0108, [], false, [⟨0, 25, .ro, .none, 0, false, .any⟩]⟩,
  -- NVM_UPD_STATUS (R730)
  ⟨0x720_010C, [], false, [⟨0, 2, .ro, .none, 0, false, .any⟩, ⟨2, 1, .ro, .none, 0, false, .any⟩, ⟨3, 3, .ro, .none, 0, false, .any⟩]⟩,
  -- NVM_UPD_DATA (R730)
  ⟨0x721_0000, [(0x4, 1024)], false, [⟨0, 32, .wo, .live, 0, false, .any⟩]⟩
]

def regsMgt : List RegRow := regsMgt0

/-- Rows of the EvrTel block. -/
def regsEvrTel0 : List RegRow := [
  -- EVR_STATUS (R772)
  ⟨0x730_0000, [], false, [⟨0, 1, .ro, .none, 0, false, .any⟩, ⟨1, 1, .ro, .none, 0, false, .any⟩, ⟨2, 1, .ro, .none, 0, false, .any⟩, ⟨8, 7, .ro, .none, 0, false, .any⟩, ⟨16, 7, .rc, .none, 0, false, .any⟩]⟩,
  -- EVR_HEAD_L32 (R772)
  ⟨0x730_0004, [], false, [⟨0, 32, .ro, .none, 0, false, .any⟩]⟩,
  -- EVR_HEAD_H32 (R772)
  ⟨0x730_0008, [], false, [⟨0, 32, .ro, .none, 0, false, .any⟩]⟩,
  -- EVR_OLDEST_L32 (R772)
  ⟨0x730_000C, [], false, [⟨0, 32, .ro, .none, 0, false, .any⟩]⟩,
  -- EVR_OLDEST_H32 (R772)
  ⟨0x730_0010, [], false, [⟨0, 32, .ro, .none, 0, false, .any⟩]⟩,
  -- EVR_SEL_L32 (R772)
  ⟨0x730_0014, [], false, [⟨0, 32, .rw, .live, 0, false, .any⟩]⟩,
  -- EVR_SEL_H32 (R772)
  ⟨0x730_0018, [], false, [⟨0, 32, .rw, .live, 0, false, .any⟩]⟩,
  -- EVR_CTRL (R772)
  ⟨0x730_001C, [], false, [⟨0, 1, .rw, .live, 0, false, .any⟩]⟩,
  -- EVR_ENTRY_STATUS (R772)
  ⟨0x730_0020, [], false, [⟨0, 1, .ro, .none, 0, false, .any⟩, ⟨1, 1, .ro, .none, 0, false, .any⟩]⟩,
  -- EVR_FLASH_OLDEST_L32 (R772)
  ⟨0x730_0024, [], false, [⟨0, 32, .ro, .none, 0, false, .any⟩]⟩,
  -- EVR_FLASH_OLDEST_H32 (R772)
  ⟨0x730_0028, [], false, [⟨0, 32, .ro, .none, 0, false, .any⟩]⟩,
  -- EVR_NONCE_L32 (R772)
  ⟨0x730_0030, [], false, [⟨0, 32, .ro, .none, 0, false, .any⟩]⟩,
  -- EVR_NONCE_H32 (R772)
  ⟨0x730_0034, [], false, [⟨0, 32, .ro, .none, 0, false, .any⟩]⟩,
  -- EVR_ALERT (R772)
  ⟨0x730_0038, [], false, [⟨0, 3, .rw, .live, 0, true, (.range 0 4)⟩, ⟨3, 1, .wo, .live, 0, false, .any⟩, ⟨4, 1, .ro, .none, 0, false, .any⟩]⟩,
  -- EVR_ENTRY (R772)
  ⟨0x730_0100, [(0x4, 32)], false, [⟨0, 32, .ro, .none, 0, false, .any⟩]⟩,
  -- TEL_HEAD_L32 (R773)
  ⟨0x740_0000, [], false, [⟨0, 32, .ro, .none, 0, false, .any⟩]⟩,
  -- TEL_HEAD_H32 (R773)
  ⟨0x740_0004, [], false, [⟨0, 32, .ro, .none, 0, false, .any⟩]⟩,
  -- TEL_SEL_L32 (R773)
  ⟨0x740_0008, [], false, [⟨0, 32, .rw, .live, 0, false, .any⟩]⟩,
  -- TEL_SEL_H32 (R773)
  ⟨0x740_000C, [], false, [⟨0, 32, .rw, .live, 0, false, .any⟩]⟩,
  -- TEL_STATUS (R773)
  ⟨0x740_0010, [], false, [⟨0, 1, .ro, .none, 0, false, .any⟩]⟩,
  -- TEL_REC (R773)
  ⟨0x740_0100, [(0x4, 128)], false, [⟨0, 32, .ro, .none, 0, false, .any⟩]⟩
]

def regsEvrTel : List RegRow := regsEvrTel0

/-- Rows of the ClkRstPwr block. -/
def regsClkRstPwr0 : List RegRow := [
  -- CLK_XTAL_STATUS (R807)
  ⟨0x750_0000, [], false, [⟨0, 1, .ro, .none, 0, false, .any⟩, ⟨1, 1, .ro, .none, 0, false, .any⟩, ⟨2, 1, .ro, .none, 0, false, .any⟩, ⟨3, 1, .ro, .none, 0, false, .any⟩]⟩,
  -- CLK_CFG (R807)
  ⟨0x750_0004, [], false, [⟨0, 12, .ro, .none, 0, true, .any⟩]⟩,
  -- CLK_ISL_STATUS (R807)
  ⟨0x750_0100, [(0x10, 20)], false, [⟨0, 1, .ro, .none, 0, false, .any⟩, ⟨1, 1, .ro, .none, 0, false, .any⟩, ⟨2, 1, .ro, .none, 0, false, .any⟩, ⟨3, 1, .ro, .none, 0, false, .any⟩, ⟨4, 1, .w1c, .live, 0, false, .any⟩, ⟨5, 1, .ro, .none, 0, false, .any⟩]⟩,
  -- CLK_ISL_CTRL (R807)
  ⟨0x750_0104, [(0x10, 20)], false, [⟨0, 1, .rw, .live, 0, false, .any⟩, ⟨1, 1, .rw, .live, 0, true, .any⟩]⟩,
  -- CLK_ISL_FREQ (R807)
  ⟨0x750_0108, [(0x10, 20)], false, [⟨0, 13, .ro, .none, 0, true, .any⟩, ⟨16, 2, .ro, .none, 0, true, .any⟩]⟩,
  -- CLK_ISL_EVENTS (R807)
  ⟨0x750_010C, [(0x10, 20)], false, [⟨0, 8, .rc, .none, 0, false, .any⟩, ⟨8, 8, .rc, .none, 0, false, .any⟩, ⟨16, 8, .rc, .none, 0, false, .any⟩]⟩,
  -- RST_CTRL (R808)
  ⟨0x760_0000, [], false, [⟨0, 16, .wo, .live, 0, false, .any⟩, ⟨16, 1, .wo, .live, 0, false, .any⟩]⟩,
  -- RST_CAUSE (R808)
  ⟨0x760_0004, [], false, [⟨0, 2, .ro, .none, 0, false, .any⟩, ⟨2, 1, .ro, .none, 0, false, .any⟩, ⟨16, 16, .ro, .none, 0, false, .any⟩]⟩,
  -- RST_STRAPS (R808)
  ⟨0x760_0008, [], false, [⟨0, 3, .ro, .none, 0, false, .any⟩, ⟨3, 2, .ro, .none, 0, false, .any⟩, ⟨5, 1, .ro, .none, 0, false, .any⟩, ⟨6, 1, .ro, .none, 0, false, .any⟩]⟩,
  -- PWR_STATUS (R809)
  ⟨0x770_0000, [], false, [⟨0, 1, .ro, .none, 1, false, .any⟩, ⟨1, 1, .ro, .none, 0, false, .any⟩, ⟨2, 2, .ro, .none, 0, false, .any⟩]⟩,
  -- PWR_AVS (R809)
  ⟨0x770_0004, [], false, [⟨0, 10, .ro, .none, 800, false, .any⟩, ⟨16, 10, .ro, .none, 0, false, .any⟩]⟩,
  -- PWR_THERM (R809)
  ⟨0x770_0008, [], false, [⟨0, 1, .w1c, .live, 0, false, .any⟩, ⟨1, 1, .w1c, .live, 0, false, .any⟩]⟩,
  -- PWR_TJ_MAX (R809)
  ⟨0x770_000C, [], false, [⟨0, 16, .ro, .none, 0, false, .any⟩, ⟨16, 4, .ro, .none, 0, false, .any⟩]⟩,
  -- PWR_TJ_HWM (R809)
  ⟨0x770_0010, [], false, [⟨0, 16, .rc, .none, 0, false, .any⟩]⟩,
  -- PWR_POWER (R809)
  ⟨0x770_0014, [], false, [⟨0, 16, .ro, .none, 0, false, .any⟩]⟩
]

def regsClkRstPwr : List RegRow := regsClkRstPwr0

/-- The whole map, block by block. -/
def regTable : List RegRow :=
  regsGlb ++ regsPort ++ regsSlice ++ regsTb ++ regsStp ++ regsLdg ++ regsMrgRel ++ regsTm ++ regsCrySto ++ regsHifQm ++ regsMgt ++ regsEvrTel ++ regsClkRstPwr

/-- Clear-on-read 64-bit counters: the `_LO` offsets (R52). -/
def ctrTable : List CtrRow := [
  ⟨0x100_1000, [(0x1_0000, 96)], true⟩,
  ⟨0x100_1008, [(0x1_0000, 96)], true⟩,
  ⟨0x100_1010, [(0x1_0000, 96)], true⟩,
  ⟨0x100_1018, [(0x1_0000, 96)], true⟩,
  ⟨0x100_1020, [(0x1_0000, 96)], true⟩,
  ⟨0x100_1028, [(0x1_0000, 96)], true⟩,
  ⟨0x100_1030, [(0x1_0000, 96)], true⟩,
  ⟨0x100_1038, [(0x1_0000, 96)], true⟩,
  ⟨0x100_1040, [(0x1_0000, 96)], true⟩,
  ⟨0x100_1048, [(0x1_0000, 96)], true⟩,
  ⟨0x100_1050, [(0x1_0000, 96)], true⟩,
  ⟨0x100_1058, [(0x1_0000, 96)], true⟩,
  ⟨0x100_1060, [(0x1_0000, 96)], true⟩,
  ⟨0x100_1068, [(0x1_0000, 96)], true⟩,
  ⟨0x100_1070, [(0x1_0000, 96)], true⟩,
  ⟨0x100_1078, [(0x1_0000, 96)], true⟩,
  ⟨0x100_1080, [(0x1_0000, 96)], true⟩,
  ⟨0x100_1088, [(0x1_0000, 96)], true⟩,
  ⟨0x100_1090, [(0x1_0000, 96)], true⟩,
  ⟨0x100_1098, [(0x1_0000, 96)], true⟩,
  ⟨0x100_10A0, [(0x1_0000, 96)], true⟩,
  ⟨0x100_10A8, [(0x1_0000, 96)], true⟩,
  ⟨0x100_10B0, [(0x1_0000, 96)], true⟩,
  ⟨0x100_1100, [(0x1_0000, 96), (0x8, 8)], true⟩,
  ⟨0x100_1140, [(0x1_0000, 96), (0x8, 8)], true⟩,
  ⟨0x100_1200, [(0x1_0000, 96), (0x8, 8)], true⟩,
  ⟨0x200_1000, [(0x10_0000, 8), (0x8, 16)], false⟩,
  ⟨0x200_1080, [(0x10_0000, 8)], false⟩,
  ⟨0x200_1100, [(0x10_0000, 8), (0x8, 64)], false⟩,
  ⟨0x200_1300, [(0x10_0000, 8)], false⟩,
  ⟨0x200_1308, [(0x10_0000, 8)], false⟩,
  ⟨0x200_1310, [(0x10_0000, 8)], false⟩,
  ⟨0x200_1318, [(0x10_0000, 8)], false⟩,
  ⟨0x200_1320, [(0x10_0000, 8)], false⟩,
  ⟨0x200_1328, [(0x10_0000, 8)], false⟩,
  ⟨0x200_1330, [(0x10_0000, 8)], false⟩,
  ⟨0x200_1400, [(0x10_0000, 8), (0x8, 12)], false⟩,
  ⟨0x201_1000, [(0x10_0000, 8), (0x8, 4)], false⟩,
  ⟨0x201_1020, [(0x10_0000, 8)], false⟩,
  ⟨0x201_1028, [(0x10_0000, 8)], false⟩,
  ⟨0x201_1030, [(0x10_0000, 8)], false⟩,
  ⟨0x201_1038, [(0x10_0000, 8)], false⟩,
  ⟨0x201_1040, [(0x10_0000, 8)], false⟩,
  ⟨0x201_1048, [(0x10_0000, 8)], false⟩,
  ⟨0x201_1050, [(0x10_0000, 8)], false⟩,
  ⟨0x202_1000, [(0x10_0000, 8)], false⟩,
  ⟨0x202_1008, [(0x10_0000, 8)], false⟩,
  ⟨0x202_1010, [(0x10_0000, 8)], false⟩,
  ⟨0x202_1018, [(0x10_0000, 8)], false⟩,
  ⟨0x202_1020, [(0x10_0000, 8)], false⟩,
  ⟨0x202_1028, [(0x10_0000, 8)], false⟩,
  ⟨0x202_1030, [(0x10_0000, 8)], false⟩,
  ⟨0x202_1038, [(0x10_0000, 8)], false⟩,
  ⟨0x202_1040, [(0x10_0000, 8)], false⟩,
  ⟨0x202_1048, [(0x10_0000, 8)], false⟩,
  ⟨0x381_0020, [(0x100, 16)], false⟩,
  ⟨0x381_0028, [(0x100, 16)], false⟩,
  ⟨0x381_0030, [(0x100, 16)], false⟩,
  ⟨0x381_0038, [(0x100, 16)], false⟩,
  ⟨0x381_0040, [(0x100, 16)], false⟩,
  ⟨0x3C1_0020, [(0x100, 16)], false⟩,
  ⟨0x3C1_0028, [(0x100, 16)], false⟩,
  ⟨0x3C1_0030, [(0x100, 16)], false⟩,
  ⟨0x3C1_0038, [(0x100, 16)], false⟩,
  ⟨0x400_1000, [], false⟩,
  ⟨0x400_1008, [], false⟩,
  ⟨0x400_1010, [], false⟩,
  ⟨0x400_1018, [], false⟩,
  ⟨0x400_1020, [], false⟩,
  ⟨0x410_1000, [(0x4000, 96), (0x8, 16)], true⟩,
  ⟨0x410_1080, [(0x4000, 96)], true⟩,
  ⟨0x410_1088, [(0x4000, 96)], true⟩,
  ⟨0x410_1090, [(0x4000, 96)], true⟩,
  ⟨0x500_1000, [], false⟩,
  ⟨0x500_1008, [], false⟩,
  ⟨0x500_1010, [], false⟩,
  ⟨0x500_1018, [], false⟩,
  ⟨0x500_1020, [], false⟩,
  ⟨0x500_1028, [], false⟩,
  ⟨0x500_1030, [], false⟩,
  ⟨0x500_1038, [], false⟩,
  ⟨0x580_1000, [], false⟩,
  ⟨0x580_1008, [], false⟩,
  ⟨0x580_1010, [], false⟩,
  ⟨0x580_1018, [], false⟩,
  ⟨0x580_1020, [], false⟩,
  ⟨0x580_1028, [], false⟩,
  ⟨0x580_1030, [], false⟩,
  ⟨0x600_1000, [], false⟩,
  ⟨0x600_1008, [], false⟩,
  ⟨0x600_1010, [], false⟩,
  ⟨0x600_1018, [], false⟩,
  ⟨0x600_1020, [], false⟩,
  ⟨0x600_1028, [], false⟩,
  ⟨0x600_1030, [], false⟩,
  ⟨0x600_1038, [], false⟩,
  ⟨0x600_1040, [], false⟩,
  ⟨0x600_1048, [], false⟩,
  ⟨0x600_1050, [], false⟩,
  ⟨0x610_1000, [], false⟩,
  ⟨0x610_1008, [], false⟩,
  ⟨0x610_1010, [], false⟩,
  ⟨0x610_1018, [], false⟩,
  ⟨0x610_1020, [], false⟩,
  ⟨0x610_1028, [], false⟩,
  ⟨0x610_1030, [], false⟩,
  ⟨0x610_1038, [], false⟩,
  ⟨0x610_1040, [], false⟩,
  ⟨0x720_1000, [], false⟩,
  ⟨0x720_1008, [], false⟩,
  ⟨0x720_1010, [], false⟩,
  ⟨0x720_1018, [], false⟩,
  ⟨0x720_1020, [], false⟩,
  ⟨0x730_1000, [], false⟩,
  ⟨0x730_1008, [], false⟩,
  ⟨0x730_1010, [], false⟩,
  ⟨0x730_1018, [], false⟩,
  ⟨0x730_1020, [], false⟩,
  ⟨0x730_1028, [], false⟩,
  ⟨0x770_1000, [], false⟩]

end Sys2Proof.Machine
end

