-- ==== Sys2Proof/Machine/RegNames.lean ====
section
/-! DEFINITION. Names of registers, fields and counters of PF BAR0 as offsets (R45), each as its register table
gives it: `Reg` a register's offset, `F` a field, `C` a counter's `_LO` offset. -/

namespace Sys2Proof.Machine

/-- GLB_BCAST_STATUS.MISMATCH (R62). -/
def F.glbBcastStatus_mismatch : FieldRef := ⟨0x100, 0, 1⟩
/-- GLB_BCAST_STATUS.MISMATCH_KIND (R62). -/
def F.glbBcastStatus_mismatchKind : FieldRef := ⟨0x100, 4, 4⟩
/-- GLB_BCAST_STATUS.REJECTED (R62). -/
def F.glbBcastStatus_rejected : FieldRef := ⟨0x100, 16, 16⟩
/-- GLB_BCAST_MISMATCH_ADDR (R63). -/
def Reg.glbBcastMismatchAddr : Nat := 0x104
/-- GLB_GRP_MASK (R64). -/
def Reg.glbGrpMask (i j k : Nat) : Nat := 0x1000 + i * 0x100 + j * 0x10 + k * 0x4
/-- PORT_MODE (R366). -/
def Reg.portMode (i : Nat) : Nat := 0x100_0000 + i * 0x1_0000
/-- PORT_MODE.WIDTH (R366). -/
def F.portMode_width (i : Nat) : FieldRef := ⟨0x100_0000 + i * 0x1_0000, 0, 3⟩
/-- PORT_MODE.LANE_RATE (R366). -/
def F.portMode_laneRate (i : Nat) : FieldRef := ⟨0x100_0000 + i * 0x1_0000, 4, 3⟩
/-- PORT_MODE.FEC (R366). -/
def F.portMode_fec (i : Nat) : FieldRef := ⟨0x100_0000 + i * 0x1_0000, 8, 2⟩
/-- PORT_MODE.AN (R366). -/
def F.portMode_an (i : Nat) : FieldRef := ⟨0x100_0000 + i * 0x1_0000, 10, 1⟩
/-- PORT_MODE.LT (R366). -/
def F.portMode_lt (i : Nat) : FieldRef := ⟨0x100_0000 + i * 0x1_0000, 11, 1⟩
/-- PORT_MODE.MODULE (R366). -/
def F.portMode_module (i : Nat) : FieldRef := ⟨0x100_0000 + i * 0x1_0000, 12, 1⟩
/-- PORT_CTRL (R367). -/
def Reg.portCtrl (i : Nat) : Nat := 0x100_0004 + i * 0x1_0000
/-- PORT_CTRL.TEST (R367). -/
def F.portCtrl_test (i : Nat) : FieldRef := ⟨0x100_0004 + i * 0x1_0000, 0, 2⟩
/-- PORT_STATUS (R367). -/
def Reg.portStatus (i : Nat) : Nat := 0x100_0008 + i * 0x1_0000
/-- PORT_MAC_CFG.MAX_FRAME (R367). -/
def F.portMacCfg_maxFrame (i : Nat) : FieldRef := ⟨0x100_000C + i * 0x1_0000, 0, 14⟩
/-- PORT_FC_CFG.MODE (R368). -/
def F.portFcCfg_mode (i : Nat) : FieldRef := ⟨0x100_0010 + i * 0x1_0000, 0, 2⟩
/-- PORT_FC_CFG.RX_HONOUR (R368). -/
def F.portFcCfg_rxHonour (i : Nat) : FieldRef := ⟨0x100_0010 + i * 0x1_0000, 2, 1⟩
/-- PORT_FC_CFG.TX_GEN (R368). -/
def F.portFcCfg_txGen (i : Nat) : FieldRef := ⟨0x100_0010 + i * 0x1_0000, 3, 1⟩
/-- PORT_FC_CFG.PFC_EN (R368). -/
def F.portFcCfg_pfcEn (i : Nat) : FieldRef := ⟨0x100_0010 + i * 0x1_0000, 8, 8⟩
/-- PORT_FC_CFG.QUANTA (R368). -/
def F.portFcCfg_quanta (i : Nat) : FieldRef := ⟨0x100_0010 + i * 0x1_0000, 16, 16⟩
/-- PORT_FC_WD.WD_MS (R368). -/
def F.portFcWd_wdMs (i : Nat) : FieldRef := ⟨0x100_0014 + i * 0x1_0000, 0, 16⟩
/-- PORT_FC_WD.HOLDOFF_MS (R368). -/
def F.portFcWd_holdoffMs (i : Nat) : FieldRef := ⟨0x100_0014 + i * 0x1_0000, 16, 16⟩
/-- PORT_PFC_MAP.CLASSES (R368). -/
def F.portPfcMap_classes (i j : Nat) : FieldRef := ⟨0x100_0020 + i * 0x1_0000 + j * 0x4, 0, 16⟩
/-- PORT_MSEC_CFG.TX_EN (R369). -/
def F.portMsecCfg_txEn (i : Nat) : FieldRef := ⟨0x100_0100 + i * 0x1_0000, 0, 1⟩
/-- PORT_MSEC_CFG.RX_EN (R369). -/
def F.portMsecCfg_rxEn (i : Nat) : FieldRef := ⟨0x100_0100 + i * 0x1_0000, 1, 1⟩
/-- PORT_MSEC_CFG.VALIDATE (R369). -/
def F.portMsecCfg_validate (i : Nat) : FieldRef := ⟨0x100_0100 + i * 0x1_0000, 2, 2⟩
/-- PORT_MSEC_CFG.SUITE (R369). -/
def F.portMsecCfg_suite (i : Nat) : FieldRef := ⟨0x100_0100 + i * 0x1_0000, 4, 2⟩
/-- PORT_MSEC_CFG.INCLUDE_SCI (R369). -/
def F.portMsecCfg_includeSci (i : Nat) : FieldRef := ⟨0x100_0100 + i * 0x1_0000, 6, 1⟩
/-- PORT_MSEC_CFG.PROTECT_ONLY (R369). -/
def F.portMsecCfg_protectOnly (i : Nat) : FieldRef := ⟨0x100_0100 + i * 0x1_0000, 7, 1⟩
/-- PORT_MSEC_CFG.ENC_AN (R369). -/
def F.portMsecCfg_encAn (i : Nat) : FieldRef := ⟨0x100_0100 + i * 0x1_0000, 8, 2⟩
/-- PORT_MSEC_SCI_L.SCI (R369). -/
def F.portMsecSciL_sci (i : Nat) : FieldRef := ⟨0x100_0104 + i * 0x1_0000, 0, 32⟩
/-- PORT_MSEC_SCI_H.SCI (R369). -/
def F.portMsecSciH_sci (i : Nat) : FieldRef := ⟨0x100_0108 + i * 0x1_0000, 0, 32⟩
/-- PORT_MSEC_REPLAY.WINDOW (R369). -/
def F.portMsecReplay_window (i : Nat) : FieldRef := ⟨0x100_010C + i * 0x1_0000, 0, 32⟩
/-- PORT_MSEC_BYPASS.ETHERTYPE (R369). -/
def F.portMsecBypass_ethertype (i j : Nat) : FieldRef := ⟨0x100_0110 + i * 0x1_0000 + j * 0x4, 0, 16⟩
/-- PORT_MSEC_BYPASS.VALID (R369). -/
def F.portMsecBypass_valid (i j : Nat) : FieldRef := ⟨0x100_0110 + i * 0x1_0000 + j * 0x4, 16, 1⟩
/-- PORT_MSEC_KEY (R369). -/
def Reg.portMsecKey (i j : Nat) : Nat := 0x100_0140 + i * 0x1_0000 + j * 0x4
/-- PORT_MSEC_SALT (R369). -/
def Reg.portMsecSalt (i j : Nat) : Nat := 0x100_0160 + i * 0x1_0000 + j * 0x4
/-- PORT_MSEC_SSCI.SSCI (R369). -/
def F.portMsecSsci_ssci (i : Nat) : FieldRef := ⟨0x100_016C + i * 0x1_0000, 0, 32⟩
/-- PORT_MSEC_PN_L.PN (R369). -/
def F.portMsecPnL_pn (i : Nat) : FieldRef := ⟨0x100_0170 + i * 0x1_0000, 0, 32⟩
/-- PORT_MSEC_PN_H.PN (R369). -/
def F.portMsecPnH_pn (i : Nat) : FieldRef := ⟨0x100_0174 + i * 0x1_0000, 0, 32⟩
/-- PORT_MSEC_SA_CMD (R369). -/
def Reg.portMsecSaCmd (i : Nat) : Nat := 0x100_0178 + i * 0x1_0000
/-- PORT_MSEC_SA_STATUS (R369). -/
def Reg.portMsecSaStatus (i : Nat) : Nat := 0x100_017C + i * 0x1_0000
/-- PORT_MSEC_RX_SCI_L.SCI (R369). -/
def F.portMsecRxSciL_sci (i j : Nat) : FieldRef := ⟨0x100_0200 + i * 0x1_0000 + j * 0x10, 0, 32⟩
/-- PORT_MSEC_RX_SCI_H.SCI (R369). -/
def F.portMsecRxSciH_sci (i j : Nat) : FieldRef := ⟨0x100_0204 + i * 0x1_0000 + j * 0x10, 0, 32⟩
/-- PORT_MSEC_RX_SC.VALID (R369). -/
def F.portMsecRxSc_valid (i j : Nat) : FieldRef := ⟨0x100_0208 + i * 0x1_0000 + j * 0x10, 0, 1⟩
/-- PORT_LANE_ADAPT.FREEZE (R370). -/
def F.portLaneAdapt_freeze (i : Nat) : FieldRef := ⟨0x100_0804 + i * 0x1_0000, 0, 1⟩
/-- HBX_CTRL.INJ_MIN (R415). -/
def F.hbxCtrl_injMin (i : Nat) : FieldRef := ⟨0x200_0000 + i * 0x10_0000, 0, 8⟩
/-- HBX_CTRL.INJ_MAX (R415). -/
def F.hbxCtrl_injMax (i : Nat) : FieldRef := ⟨0x200_0000 + i * 0x10_0000, 8, 8⟩
/-- HBX_CTRL.INJ_RSV (R415). -/
def F.hbxCtrl_injRsv (i : Nat) : FieldRef := ⟨0x200_0000 + i * 0x10_0000, 16, 12⟩
/-- HBX_BUF_MIN_FREE (R415). -/
def Reg.hbxBufMinFree (i : Nat) : Nat := 0x200_0008 + i * 0x10_0000
/-- HBX_COUCH (R415). -/
def Reg.hbxCouch (i : Nat) : Nat := 0x200_001C + i * 0x10_0000
/-- HBX_PORT_CFG.TRUST (R416). -/
def F.hbxPortCfg_trust (i j : Nat) : FieldRef := ⟨0x200_0100 + i * 0x10_0000 + j * 0x4, 0, 2⟩
/-- HBX_PORT_CFG.MAP (R416). -/
def F.hbxPortCfg_map (i j : Nat) : FieldRef := ⟨0x200_0100 + i * 0x10_0000 + j * 0x4, 2, 2⟩
/-- HBX_PORT_CFG.CLASS (R416). -/
def F.hbxPortCfg_class (i j : Nat) : FieldRef := ⟨0x200_0100 + i * 0x10_0000 + j * 0x4, 4, 4⟩
/-- HBX_PORT_CFG.RSV_CELLS (R416). -/
def F.hbxPortCfg_rsvCells (i j : Nat) : FieldRef := ⟨0x200_0100 + i * 0x10_0000 + j * 0x4, 16, 12⟩
/-- HBX_CLASS_CFG.ALPHA (R416). -/
def F.hbxClassCfg_alpha (i j : Nat) : FieldRef := ⟨0x200_0200 + i * 0x10_0000 + j * 0x4, 0, 4⟩
/-- HBX_CLASS_CFG.FLOOR (R416). -/
def F.hbxClassCfg_floor (i j : Nat) : FieldRef := ⟨0x200_0200 + i * 0x10_0000 + j * 0x4, 16, 14⟩
/-- HBX_PCP_MAP (R416). -/
def Reg.hbxPcpMap (i j : Nat) : Nat := 0x200_0300 + i * 0x10_0000 + j * 0x4
/-- HBX_DSCP_MAP (R416). -/
def Reg.hbxDscpMap (i j k : Nat) : Nat := 0x200_0400 + i * 0x10_0000 + j * 0x20 + k * 0x4
/-- HBX_TPID.TPID (R417). -/
def F.hbxTpid_tpid (i j : Nat) : FieldRef := ⟨0x200_0500 + i * 0x10_0000 + j * 0x4, 0, 16⟩
/-- HBX_TPID.VALID (R417). -/
def F.hbxTpid_valid (i j : Nat) : FieldRef := ⟨0x200_0500 + i * 0x10_0000 + j * 0x4, 16, 1⟩
/-- HBX_TUNNEL_PORTS.VXLAN (R417). -/
def F.hbxTunnelPorts_vxlan (i : Nat) : FieldRef := ⟨0x200_0510 + i * 0x10_0000, 0, 16⟩
/-- HBX_TUNNEL_PORTS.GENEVE (R417). -/
def F.hbxTunnelPorts_geneve (i : Nat) : FieldRef := ⟨0x200_0510 + i * 0x10_0000, 16, 16⟩
/-- HBX_FRAG_CFG.MODE (R417). -/
def F.hbxFragCfg_mode (i : Nat) : FieldRef := ⟨0x200_0520 + i * 0x10_0000, 0, 1⟩
/-- HBX_FRAG_CFG.HOLD_US (R417). -/
def F.hbxFragCfg_holdUs (i : Nat) : FieldRef := ⟨0x200_0520 + i * 0x10_0000, 1, 7⟩
/-- HBX_FRAG_CFG.TIMEOUT_US (R417). -/
def F.hbxFragCfg_timeoutUs (i : Nat) : FieldRef := ⟨0x200_0520 + i * 0x10_0000, 12, 20⟩
/-- PIPE_CTRL.MAX_PASSES (R456). -/
def F.pipeCtrl_maxPasses (i : Nat) : FieldRef := ⟨0x201_0000 + i * 0x10_0000, 0, 3⟩
/-- PIPE_CNT_INDEX (R457). -/
def Reg.pipeCntIndex (i : Nat) : Nat := 0x201_2000 + i * 0x10_0000
/-- PIPE_CNT_INDEX.INDEX (R457). -/
def F.pipeCntIndex_index (i : Nat) : FieldRef := ⟨0x201_2000 + i * 0x10_0000, 0, 20⟩
/-- FDB_CTRL.LEARN_EN (R501). -/
def F.fdbCtrl_learnEn (i : Nat) : FieldRef := ⟨0x202_0000 + i * 0x10_0000, 0, 1⟩
/-- FDB_CTRL.FLUSH_ON_DOWN (R501). -/
def F.fdbCtrl_flushOnDown (i : Nat) : FieldRef := ⟨0x202_0000 + i * 0x10_0000, 1, 1⟩
/-- FDB_CTRL.MOVE_EN (R501). -/
def F.fdbCtrl_moveEn (i : Nat) : FieldRef := ⟨0x202_0000 + i * 0x10_0000, 2, 1⟩
/-- FDB_AGE_CFG.SCAN_S (R501). -/
def F.fdbAgeCfg_scanS (i : Nat) : FieldRef := ⟨0x202_0004 + i * 0x10_0000, 0, 16⟩
/-- FDB_LEARN_ACTION.INDEX (R501). -/
def F.fdbLearnAction_index (i : Nat) : FieldRef := ⟨0x202_0008 + i * 0x10_0000, 0, 32⟩
/-- FDB_LEARN_Q (R501). -/
def Reg.fdbLearnQ (i : Nat) : Nat := 0x202_001C + i * 0x10_0000
/-- FDB_TCAM_REGION.BASE (R502). -/
def F.fdbTcamRegion_base (i j : Nat) : FieldRef := ⟨0x202_0100 + i * 0x10_0000 + j * 0x4, 0, 15⟩
/-- FDB_TCAM_REGION.KIND (R502). -/
def F.fdbTcamRegion_kind (i j : Nat) : FieldRef := ⟨0x202_0100 + i * 0x10_0000 + j * 0x4, 15, 1⟩
/-- FDB_TCAM_REGION.SIZE (R502). -/
def F.fdbTcamRegion_size (i j : Nat) : FieldRef := ⟨0x202_0100 + i * 0x10_0000 + j * 0x4, 16, 16⟩
/-- TB_CTRL (R121). -/
def Reg.tbCtrl : Nat := 0x300_0000
/-- TB_CTRL.AUTO_STEP (R121). -/
def F.tbCtrl_autoStep : FieldRef := ⟨0x300_0000, 0, 2⟩
/-- TB_CTRL.REVERTIVE (R121). -/
def F.tbCtrl_revertive : FieldRef := ⟨0x300_0000, 2, 1⟩
/-- TB_CTRL.FORCE_SRC (R121). -/
def F.tbCtrl_forceSrc : FieldRef := ⟨0x300_0000, 3, 1⟩
/-- TB_CTRL.FORCE_IDX (R121). -/
def F.tbCtrl_forceIdx : FieldRef := ⟨0x300_0000, 4, 4⟩
/-- TB_TIME_LATCH (R123). -/
def Reg.tbTimeLatch : Nat := 0x300_0008
/-- TB_TIME_SEC_H (R123). -/
def Reg.tbTimeSecH : Nat := 0x300_000C
/-- TB_TIME_SEC_L (R123). -/
def Reg.tbTimeSecL : Nat := 0x300_0010
/-- TB_TIME_NS (R123). -/
def Reg.tbTimeNs : Nat := 0x300_0014
/-- TB_TIME_FRAC (R123). -/
def Reg.tbTimeFrac : Nat := 0x300_0018
/-- TB_FREQ_OFFSET (R125). -/
def Reg.tbFreqOffset : Nat := 0x300_0028
/-- TB_PHASE_OFFSET (R125). -/
def Reg.tbPhaseOffset : Nat := 0x300_002C
/-- TB_SLEW_LIMIT.PPB (R126). -/
def F.tbSlewLimit_ppb : FieldRef := ⟨0x300_0030, 0, 17⟩
/-- TB_LOCK_CFG.LOCK_THRESH (R126). -/
def F.tbLockCfg_lockThresh : FieldRef := ⟨0x300_0034, 0, 16⟩
/-- TB_LOCK_CFG.LOCK_COUNT (R126). -/
def F.tbLockCfg_lockCount : FieldRef := ⟨0x300_0034, 16, 8⟩
/-- TB_LOCK_CFG.UNLOCK_COUNT (R126). -/
def F.tbLockCfg_unlockCount : FieldRef := ⟨0x300_0034, 24, 8⟩
/-- TB_UNLOCK_THRESH.THRESH (R126). -/
def F.tbUnlockThresh_thresh : FieldRef := ⟨0x300_0038, 0, 32⟩
/-- TB_STEP_THRESH.NS (R126). -/
def F.tbStepThresh_ns : FieldRef := ⟨0x300_003C, 0, 32⟩
/-- TB_HOLDOVER_LIMIT.SECONDS (R126). -/
def F.tbHoldoverLimit_seconds : FieldRef := ⟨0x300_0040, 0, 32⟩
/-- TB_UTC (R127). -/
def Reg.tbUtc : Nat := 0x300_0044
/-- TB_UTC.OFFSET (R127). -/
def F.tbUtc_offset : FieldRef := ⟨0x300_0044, 0, 16⟩
/-- TB_UTC.LEAP61 (R127). -/
def F.tbUtc_leap61 : FieldRef := ⟨0x300_0044, 16, 1⟩
/-- TB_UTC.LEAP59 (R127). -/
def F.tbUtc_leap59 : FieldRef := ⟨0x300_0044, 17, 1⟩
/-- TB_UTC.VALID (R127). -/
def F.tbUtc_valid : FieldRef := ⟨0x300_0044, 18, 1⟩
/-- TB_SRC_CFG (R129). -/
def Reg.tbSrcCfg (i : Nat) : Nat := 0x300_0100 + i * 0x10
/-- TB_SRC_CFG.TYPE (R129). -/
def F.tbSrcCfg_type (i : Nat) : FieldRef := ⟨0x300_0100 + i * 0x10, 0, 4⟩
/-- TB_SRC_CFG.ENABLE (R129). -/
def F.tbSrcCfg_enable (i : Nat) : FieldRef := ⟨0x300_0100 + i * 0x10, 4, 1⟩
/-- TB_SRC_CFG.PRIORITY (R129). -/
def F.tbSrcCfg_priority (i : Nat) : FieldRef := ⟨0x300_0100 + i * 0x10, 8, 4⟩
/-- TB_SRC_DELAY.DELAY (R129). -/
def F.tbSrcDelay_delay (i : Nat) : FieldRef := ⟨0x300_0104 + i * 0x10, 0, 32⟩
/-- TB_FREF_CTRL (R130). -/
def Reg.tbFrefCtrl : Nat := 0x300_0200
/-- TB_FREF_CFG (R130). -/
def Reg.tbFrefCfg (i : Nat) : Nat := 0x300_0210 + i * 0x4
/-- TB_FREF_CFG.TYPE (R130). -/
def F.tbFrefCfg_type (i : Nat) : FieldRef := ⟨0x300_0210 + i * 0x4, 0, 3⟩
/-- TB_FREF_CFG.ENABLE (R130). -/
def F.tbFrefCfg_enable (i : Nat) : FieldRef := ⟨0x300_0210 + i * 0x4, 3, 1⟩
/-- TB_FREF_CFG.PRIORITY (R130). -/
def F.tbFrefCfg_priority (i : Nat) : FieldRef := ⟨0x300_0210 + i * 0x4, 12, 4⟩
/-- TB_PPS_OUT_CTRL (R131). -/
def Reg.tbPpsOutCtrl (i : Nat) : Nat := 0x300_0300 + i * 0x10
/-- TB_PPS_OUT_CTRL.MODE (R131). -/
def F.tbPpsOutCtrl_mode (i : Nat) : FieldRef := ⟨0x300_0300 + i * 0x10, 0, 2⟩
/-- TB_PPS_OUT_CTRL.WIDTH_US (R131). -/
def F.tbPpsOutCtrl_widthUs (i : Nat) : FieldRef := ⟨0x300_0300 + i * 0x10, 2, 19⟩
/-- TB_PPS_OUT_ADV.ADV (R131). -/
def F.tbPpsOutAdv_adv (i : Nat) : FieldRef := ⟨0x300_0304 + i * 0x10, 0, 24⟩
/-- TB_SYNCE_OUT.PORT (R132). -/
def F.tbSynceOut_port (i : Nat) : FieldRef := ⟨0x300_0340 + i * 0x4, 0, 7⟩
/-- TB_SYNCE_OUT.ENABLE (R132). -/
def F.tbSynceOut_enable (i : Nat) : FieldRef := ⟨0x300_0340 + i * 0x4, 7, 1⟩
/-- TB_SYNCE_OUT.FREQ (R132). -/
def F.tbSynceOut_freq (i : Nat) : FieldRef := ⟨0x300_0340 + i * 0x4, 8, 1⟩
/-- TB_SYNCE_OUT.SQUELCH (R132). -/
def F.tbSynceOut_squelch (i : Nat) : FieldRef := ⟨0x300_0340 + i * 0x4, 9, 1⟩
/-- TB_TOD_CTRL.TX_EN (R133). -/
def F.tbTodCtrl_txEn : FieldRef := ⟨0x300_0380, 0, 1⟩
/-- TB_TOD_CTRL.RX_EN (R133). -/
def F.tbTodCtrl_rxEn : FieldRef := ⟨0x300_0380, 1, 1⟩
/-- TB_TOD_CTRL.TX_SEL (R133). -/
def F.tbTodCtrl_txSel : FieldRef := ⟨0x300_0380, 2, 1⟩
/-- TB_TOD_RX_OK.COUNT (R133). -/
def F.tbTodRxOk_count : FieldRef := ⟨0x300_0384, 0, 32⟩
/-- TB_TOD_RX_ERR.COUNT (R133). -/
def F.tbTodRxErr_count : FieldRef := ⟨0x300_0388, 0, 32⟩
/-- TB_EVT_CTRL.ENABLE (R134). -/
def F.tbEvtCtrl_enable : FieldRef := ⟨0x300_0400, 0, 4⟩
/-- TB_EVT_CTRL.EDGE (R134). -/
def F.tbEvtCtrl_edge : FieldRef := ⟨0x300_0400, 4, 4⟩
/-- TB_EVT_STATUS.EMPTY_POP (R134). -/
def F.tbEvtStatus_emptyPop (i : Nat) : FieldRef := ⟨0x300_0410 + i * 0x20, 7, 1⟩
/-- TB_EVT_POP (R134). -/
def Reg.tbEvtPop (i : Nat) : Nat := 0x300_0414 + i * 0x20
/-- TB_EVT_SEC_H.SEC_H (R134). -/
def F.tbEvtSecH_secH (i : Nat) : FieldRef := ⟨0x300_0418 + i * 0x20, 0, 16⟩
/-- TB_EVT_SEC_L.SEC_L (R134). -/
def F.tbEvtSecL_secL (i : Nat) : FieldRef := ⟨0x300_041C + i * 0x20, 0, 32⟩
/-- TB_EVT_NS.NS (R134). -/
def F.tbEvtNs_ns (i : Nat) : FieldRef := ⟨0x300_0420 + i * 0x20, 0, 32⟩
/-- TB_EVT_FRAC.FRAC (R134). -/
def F.tbEvtFrac_frac (i : Nat) : FieldRef := ⟨0x300_0424 + i * 0x20, 0, 16⟩
/-- TB_EVT_OVF.OVF (R134). -/
def F.tbEvtOvf_ovf (i : Nat) : FieldRef := ⟨0x300_0428 + i * 0x20, 0, 32⟩
/-- STP_CTRL.MAX_STEP (R169). -/
def F.stpCtrl_maxStep : FieldRef := ⟨0x310_0000, 0, 8⟩
/-- STP_CTRL.STALE_MS (R169). -/
def F.stpCtrl_staleMs : FieldRef := ⟨0x310_0000, 8, 16⟩
/-- STP_PORT_CFG.CABLE_SRC (R173). -/
def F.stpPortCfg_cableSrc (i : Nat) : FieldRef := ⟨0x320_0000 + i * 0x40, 0, 1⟩
/-- STP_CABLE_RX (R173). -/
def Reg.stpCableRx (i : Nat) : Nat := 0x320_0004 + i * 0x40
/-- STP_CABLE_RX.DELAY (R173). -/
def F.stpCableRx_delay (i : Nat) : FieldRef := ⟨0x320_0004 + i * 0x40, 0, 24⟩
/-- STP_CABLE_TX (R173). -/
def Reg.stpCableTx (i : Nat) : Nat := 0x320_0008 + i * 0x40
/-- STP_CABLE_TX.DELAY (R173). -/
def F.stpCableTx_delay (i : Nat) : FieldRef := ⟨0x320_0008 + i * 0x40, 0, 24⟩
/-- STP_CABLE_ADJ (R173). -/
def Reg.stpCableAdj (i : Nat) : Nat := 0x320_000C + i * 0x40
/-- STP_CABLE_ADJ.ADJ (R173). -/
def F.stpCableAdj_adj (i : Nat) : FieldRef := ⟨0x320_000C + i * 0x40, 0, 16⟩
/-- LDG_CTRL.MODE (R258). -/
def F.ldgCtrl_mode : FieldRef := ⟨0x340_0000, 0, 1⟩
/-- LDG_CTRL.REAM_LEN (R258). -/
def F.ldgCtrl_reamLen : FieldRef := ⟨0x340_0000, 4, 4⟩
/-- LDG_CTRL.KEY_SEL (R258). -/
def F.ldgCtrl_keySel : FieldRef := ⟨0x340_0000, 8, 2⟩
/-- LDG_REC_CLASS.RECORD (R260). -/
def F.ldgRecClass_record : FieldRef := ⟨0x340_0004, 0, 16⟩
/-- LDG_INJ_CLASS.CLASS (R260). -/
def F.ldgInjClass_class : FieldRef := ⟨0x340_0008, 0, 4⟩
/-- LDG_INJ_CLASS.RING_SET (R260). -/
def F.ldgInjClass_ringSet : FieldRef := ⟨0x340_0008, 4, 2⟩
/-- LDG_STAGING_HWM (R263). -/
def Reg.ldgStagingHwm : Nat := 0x340_0048
/-- LDG_MISSING.COUNT (R263). -/
def F.ldgMissing_count : FieldRef := ⟨0x340_004C, 0, 32⟩
/-- LDG_HDR_LOST.COUNT (R263). -/
def F.ldgHdrLost_count : FieldRef := ⟨0x340_0050, 0, 32⟩
/-- LDG_INFLIGHT.COUNT (R263). -/
def F.ldgInflight_count : FieldRef := ⟨0x340_0054, 0, 32⟩
/-- LDG_CARRIED.COUNT (R263). -/
def F.ldgCarried_count : FieldRef := ⟨0x340_0058, 0, 32⟩
/-- LDG_REFUSED.COUNT (R263). -/
def F.ldgRefused_count : FieldRef := ⟨0x340_005C, 0, 32⟩
/-- LDG_RING_REC_CONS (R266). -/
def Reg.ldgRingRecCons (i : Nat) : Nat := 0x340_0204 + i * 0x40
/-- LDG_RING_REC_CONS.CONS (R266). -/
def F.ldgRingRecCons_cons (i : Nat) : FieldRef := ⟨0x340_0204 + i * 0x40, 0, 32⟩
/-- LDG_RING_HDR_CONS (R266). -/
def Reg.ldgRingHdrCons (i : Nat) : Nat := 0x340_0208 + i * 0x40
/-- LDG_RING_HDR_CONS.CONS (R266). -/
def F.ldgRingHdrCons_cons (i : Nat) : FieldRef := ⟨0x340_0208 + i * 0x40, 0, 32⟩
/-- LDG_RING_MOD.TIMER_US (R266). -/
def F.ldgRingMod_timerUs (i : Nat) : FieldRef := ⟨0x340_0214 + i * 0x40, 0, 10⟩
/-- LDG_RING_MOD.COUNT (R266). -/
def F.ldgRingMod_count (i : Nat) : FieldRef := ⟨0x340_0214 + i * 0x40, 16, 9⟩
/-- LDG_RING_STATUS (R266). -/
def Reg.ldgRingStatus (i : Nat) : Nat := 0x340_0218 + i * 0x40
/-- LDG_PORT_CFG.CLASS (R260). -/
def F.ldgPortCfg_class (i : Nat) : FieldRef := ⟨0x341_0000 + i * 0x4, 0, 4⟩
/-- LDG_PORT_CFG.RING_SET (R260). -/
def F.ldgPortCfg_ringSet (i : Nat) : FieldRef := ⟨0x341_0000 + i * 0x4, 4, 2⟩
/-- MRG_HELD_HWM (R312). -/
def Reg.mrgHeldHwm : Nat := 0x380_0008
/-- MRG_GROUP_CFG (R313). -/
def Reg.mrgGroupCfg (i : Nat) : Nat := 0x381_0000 + i * 0x100
/-- MRG_WINDOW (R313). -/
def Reg.mrgWindow (i : Nat) : Nat := 0x381_0004 + i * 0x100
/-- MRG_WINDOW.NS (R313). -/
def F.mrgWindow_ns (i : Nat) : FieldRef := ⟨0x381_0004 + i * 0x100, 0, 15⟩
/-- MRG_MEMBERS (R313). -/
def Reg.mrgMembers (i j : Nat) : Nat := 0x381_0008 + i * 0x100 + j * 0x4
/-- MRG_MEMBERS.PORTS (R313). -/
def F.mrgMembers_ports (i j : Nat) : FieldRef := ⟨0x381_0008 + i * 0x100 + j * 0x4, 0, 32⟩
/-- MRG_MAX_HELD (R313). -/
def Reg.mrgMaxHeld (i : Nat) : Nat := 0x381_0014 + i * 0x100
/-- MRG_MAX_HELD.COUNT (R313). -/
def F.mrgMaxHeld_count (i : Nat) : FieldRef := ⟨0x381_0014 + i * 0x100, 0, 17⟩
/-- REL_GROUP_CFG (R315). -/
def Reg.relGroupCfg (i : Nat) : Nat := 0x3C1_0000 + i * 0x100
/-- REL_GROUP_CFG.LATE_POLICY (R315). -/
def F.relGroupCfg_latePolicy (i : Nat) : FieldRef := ⟨0x3C1_0000 + i * 0x100, 1, 1⟩
/-- REL_HORIZON (R315). -/
def Reg.relHorizon (i : Nat) : Nat := 0x3C1_0004 + i * 0x100
/-- REL_HORIZON.US (R315). -/
def F.relHorizon_us (i : Nat) : FieldRef := ⟨0x3C1_0004 + i * 0x100, 0, 17⟩
/-- REL_MEMBERS (R315). -/
def Reg.relMembers (i j : Nat) : Nat := 0x3C1_0008 + i * 0x100 + j * 0x4
/-- REL_MEMBERS.PORTS (R315). -/
def F.relMembers_ports (i j : Nat) : FieldRef := ⟨0x3C1_0008 + i * 0x100 + j * 0x4, 0, 32⟩
/-- TM_CTRL.CUT_THROUGH_EN (R537). -/
def F.tmCtrl_cutThroughEn : FieldRef := ⟨0x400_0000, 0, 1⟩
/-- TM_BUF_MIN_FREE (R537). -/
def Reg.tmBufMinFree : Nat := 0x400_0008
/-- TM_HOST_CFG.SPILL_CELLS (R537). -/
def F.tmHostCfg_spillCells : FieldRef := ⟨0x400_0010, 0, 16⟩
/-- TM_HOST_CFG.FN_ALPHA (R537). -/
def F.tmHostCfg_fnAlpha : FieldRef := ⟨0x400_0010, 16, 4⟩
/-- TM_HOST_CFG.HBM_ALPHA (R537). -/
def F.tmHostCfg_hbmAlpha : FieldRef := ⟨0x400_0010, 20, 4⟩
/-- TM_HOST_CFG.VF_OVERHEAD (R537). -/
def F.tmHostCfg_vfOverhead : FieldRef := ⟨0x400_0010, 24, 7⟩
/-- TM_STO_RSV.CELLS (R537). -/
def F.tmStoRsv_cells : FieldRef := ⟨0x400_0014, 0, 26⟩
/-- TM_CLASS_CFG.ALPHA (R537). -/
def F.tmClassCfg_alpha (i : Nat) : FieldRef := ⟨0x400_0100 + i * 0x4, 0, 4⟩
/-- TM_CLASS_CFG.FLOOR (R537). -/
def F.tmClassCfg_floor (i : Nat) : FieldRef := ⟨0x400_0100 + i * 0x4, 16, 16⟩
/-- TM_PORT_CFG.RSV_CELLS (R539). -/
def F.tmPortCfg_rsvCells (i : Nat) : FieldRef := ⟨0x410_0000 + i * 0x4000, 0, 16⟩
/-- TM_PORT_CFG.OALPHA (R539). -/
def F.tmPortCfg_oalpha (i : Nat) : FieldRef := ⟨0x410_0000 + i * 0x4000, 16, 4⟩
/-- TM_PORT_CFG.CUT_THROUGH (R539). -/
def F.tmPortCfg_cutThrough (i : Nat) : FieldRef := ⟨0x410_0000 + i * 0x4000, 20, 1⟩
/-- TM_PORT_SCHED.OVERHEAD (R539). -/
def F.tmPortSched_overhead (i : Nat) : FieldRef := ⟨0x410_0004 + i * 0x4000, 0, 7⟩
/-- TM_PORT_SCHED.PAD_MIN (R539). -/
def F.tmPortSched_padMin (i : Nat) : FieldRef := ⟨0x410_0004 + i * 0x4000, 7, 1⟩
/-- TM_PORT_SHAPE_RATE.KBPS (R539). -/
def F.tmPortShapeRate_kbps (i : Nat) : FieldRef := ⟨0x410_0008 + i * 0x4000, 0, 32⟩
/-- TM_PORT_SHAPE_BURST.BYTES (R539). -/
def F.tmPortShapeBurst_bytes (i : Nat) : FieldRef := ⟨0x410_000C + i * 0x4000, 0, 24⟩
/-- TM_CLASS_WEIGHT.WEIGHT (R539). -/
def F.tmClassWeight_weight (i j : Nat) : FieldRef := ⟨0x410_0010 + i * 0x4000 + j * 0x4, 0, 32⟩
/-- TM_CLASS_SHAPE_RATE.KBPS (R539). -/
def F.tmClassShapeRate_kbps (i j : Nat) : FieldRef := ⟨0x410_0100 + i * 0x4000 + j * 0x8, 0, 32⟩
/-- TM_CLASS_SHAPE_BURST.BYTES (R539). -/
def F.tmClassShapeBurst_bytes (i j : Nat) : FieldRef := ⟨0x410_0104 + i * 0x4000 + j * 0x8, 0, 24⟩
/-- TM_PORT_PFC.DEFAULT_PRI (R539). -/
def F.tmPortPfc_defaultPri (i : Nat) : FieldRef := ⟨0x410_0200 + i * 0x4000, 0, 3⟩
/-- TM_PORT_PFC.HEADROOM (R539). -/
def F.tmPortPfc_headroom (i : Nat) : FieldRef := ⟨0x410_0200 + i * 0x4000, 16, 16⟩
/-- TM_PFC_XOFF.CELLS (R539). -/
def F.tmPfcXoff_cells (i j : Nat) : FieldRef := ⟨0x410_0210 + i * 0x4000 + j * 0x8, 0, 20⟩
/-- TM_PFC_XON.CELLS (R539). -/
def F.tmPfcXon_cells (i j : Nat) : FieldRef := ⟨0x410_0214 + i * 0x4000 + j * 0x8, 0, 20⟩
/-- TM_GATE_CTRL (R539). -/
def Reg.tmGateCtrl (i : Nat) : Nat := 0x410_0400 + i * 0x4000
/-- TM_GATE_CTRL.LEN (R539). -/
def F.tmGateCtrl_len (i : Nat) : FieldRef := ⟨0x410_0400 + i * 0x4000, 0, 11⟩
/-- TM_GATE_CTRL.ENABLE (R539). -/
def F.tmGateCtrl_enable (i : Nat) : FieldRef := ⟨0x410_0400 + i * 0x4000, 16, 1⟩
/-- TM_GATE_BASE_SEC_H.SEC_H (R539). -/
def F.tmGateBaseSecH_secH (i : Nat) : FieldRef := ⟨0x410_0404 + i * 0x4000, 0, 16⟩
/-- TM_GATE_BASE_SEC_L.SEC_L (R539). -/
def F.tmGateBaseSecL_secL (i : Nat) : FieldRef := ⟨0x410_0408 + i * 0x4000, 0, 32⟩
/-- TM_GATE_BASE_NS.NS (R539). -/
def F.tmGateBaseNs_ns (i : Nat) : FieldRef := ⟨0x410_040C + i * 0x4000, 0, 30⟩
/-- TM_GATE_CYCLE.NS (R539). -/
def F.tmGateCycle_ns (i : Nat) : FieldRef := ⟨0x410_0410 + i * 0x4000, 0, 30⟩
/-- TM_GATE_GATES.OPEN (R539). -/
def F.tmGateGates_open (i j : Nat) : FieldRef := ⟨0x410_2000 + i * 0x4000 + j * 0x8, 0, 16⟩
/-- TM_GATE_INTERVAL.NS (R539). -/
def F.tmGateInterval_ns (i j : Nat) : FieldRef := ⟨0x410_2004 + i * 0x4000 + j * 0x8, 0, 30⟩
/-- TM_VF_RX_RATE.KBPS (R541). -/
def F.tmVfRxRate_kbps (i : Nat) : FieldRef := ⟨0x440_0000 + i * 0x10, 0, 32⟩
/-- TM_VF_RX_BURST.BYTES (R541). -/
def F.tmVfRxBurst_bytes (i : Nat) : FieldRef := ⟨0x440_0004 + i * 0x10, 0, 24⟩
/-- TM_VF_TX_RATE.KBPS (R541). -/
def F.tmVfTxRate_kbps (i : Nat) : FieldRef := ⟨0x440_0008 + i * 0x10, 0, 32⟩
/-- TM_VF_TX_BURST.BYTES (R541). -/
def F.tmVfTxBurst_bytes (i : Nat) : FieldRef := ⟨0x440_000C + i * 0x10, 0, 24⟩
/-- TM_POL_SEL (R542). -/
def Reg.tmPolSel : Nat := 0x460_0000
/-- TM_POL_SEL.INDEX (R542). -/
def F.tmPolSel_index : FieldRef := ⟨0x460_0000, 0, 14⟩
/-- TM_POL_SEL.SLICE (R542). -/
def F.tmPolSel_slice : FieldRef := ⟨0x460_0000, 16, 4⟩
/-- TM_POL_CIR (R542). -/
def Reg.tmPolCir : Nat := 0x460_0004
/-- TM_POL_PIR (R542). -/
def Reg.tmPolPir : Nat := 0x460_0008
/-- TM_POL_CBS (R542). -/
def Reg.tmPolCbs : Nat := 0x460_000C
/-- TM_POL_PBS (R542). -/
def Reg.tmPolPbs : Nat := 0x460_0010
/-- TM_POL_CFG (R542). -/
def Reg.tmPolCfg : Nat := 0x460_0014
/-- TM_MCAST_PORTS.PORTS (R541). -/
def F.tmMcastPorts_ports (i j : Nat) : FieldRef := ⟨0x470_0000 + i * 0x10 + j * 0x4, 0, 32⟩
/-- TM_MCAST_CFG.VALID (R541). -/
def F.tmMcastCfg_valid (i : Nat) : FieldRef := ⟨0x470_000C + i * 0x10, 0, 1⟩
/-- TM_MIRROR_DEST.DEST (R541). -/
def F.tmMirrorDest_dest (i : Nat) : FieldRef := ⟨0x478_0000 + i * 0x10, 0, 17⟩
/-- TM_MIRROR_DEST.KIND (R541). -/
def F.tmMirrorDest_kind (i : Nat) : FieldRef := ⟨0x478_0000 + i * 0x10, 17, 1⟩
/-- TM_MIRROR_DEST.VALID (R541). -/
def F.tmMirrorDest_valid (i : Nat) : FieldRef := ⟨0x478_0000 + i * 0x10, 18, 1⟩
/-- TM_MIRROR_CFG.TRUNC (R541). -/
def F.tmMirrorCfg_trunc (i : Nat) : FieldRef := ⟨0x478_0004 + i * 0x10, 0, 14⟩
/-- TM_MIRROR_CFG.CLASS (R541). -/
def F.tmMirrorCfg_class (i : Nat) : FieldRef := ⟨0x478_0004 + i * 0x10, 16, 4⟩
/-- STO_CONN_SEL.HANDLE (R584). -/
def F.stoConnSel_handle : FieldRef := ⟨0x580_0100, 0, 32⟩
/-- HIF_ARB.FRAME_WEIGHT (R621). -/
def F.hifArb_frameWeight : FieldRef := ⟨0x600_0004, 0, 8⟩
/-- HIF_ARB.STORAGE_WEIGHT (R621). -/
def F.hifArb_storageWeight : FieldRef := ⟨0x600_0004, 8, 8⟩
/-- HIF_PM_CFG.L1_IDLE_US (R621). -/
def F.hifPmCfg_l1IdleUs : FieldRef := ⟨0x600_0008, 0, 16⟩
/-- HIF_PM_CFG.L0P_EN (R621). -/
def F.hifPmCfg_l0pEn : FieldRef := ⟨0x600_0008, 16, 1⟩
/-- HIF_PM_CFG.L0P_LOW_PCT (R621). -/
def F.hifPmCfg_l0pLowPct : FieldRef := ⟨0x600_0008, 17, 7⟩
/-- QM_FN_SEL.FUNCTION (R683). -/
def F.qmFnSel_function : FieldRef := ⟨0x610_0100, 0, 13⟩
/-- QM_WQ_SEL.WQ (R683). -/
def F.qmWqSel_wq : FieldRef := ⟨0x610_0200, 0, 17⟩
/-- QM_NR_SEL.NR (R683). -/
def F.qmNrSel_nr : FieldRef := ⟨0x610_0300, 0, 16⟩
/-- QM_NR_STATE (R683). -/
def Reg.qmNrState : Nat := 0x610_0304
/-- QM_NR_MOD (R683). -/
def Reg.qmNrMod : Nat := 0x610_0314
/-- MGT_BOOT_MS (R728). -/
def Reg.mgtBootMs : Nat := 0x700_000C
/-- MGT_MCTP (R728). -/
def Reg.mgtMctp : Nat := 0x700_0010
/-- MBX_DATA (R729). -/
def Reg.mbxData (i j : Nat) : Nat := 0x710_0000 + i * 0x80 + j * 0x4
/-- MBX_CTRL (R729). -/
def Reg.mbxCtrl (i : Nat) : Nat := 0x710_0040 + i * 0x80
/-- MBX_STATUS (R729). -/
def Reg.mbxStatus (i : Nat) : Nat := 0x710_0044 + i * 0x80
/-- NVM_UPD_CTRL (R730). -/
def Reg.nvmUpdCtrl : Nat := 0x720_0100
/-- NVM_UPD_LEN.BYTES (R730). -/
def F.nvmUpdLen_bytes : FieldRef := ⟨0x720_0104, 0, 25⟩
/-- NVM_UPD_DATA (R730). -/
def Reg.nvmUpdData (i : Nat) : Nat := 0x721_0000 + i * 0x4
/-- EVR_STATUS (R772). -/
def Reg.evrStatus : Nat := 0x730_0000
/-- EVR_SEL_L32 (R772). -/
def Reg.evrSelL32 : Nat := 0x730_0014
/-- EVR_SEL_H32.SEQ (R772). -/
def F.evrSelH32_seq : FieldRef := ⟨0x730_0018, 0, 32⟩
/-- EVR_CTRL.SRC (R772). -/
def F.evrCtrl_src : FieldRef := ⟨0x730_001C, 0, 1⟩
/-- EVR_ALERT (R772). -/
def Reg.evrAlert : Nat := 0x730_0038
/-- EVR_ALERT.SEV (R772). -/
def F.evrAlert_sev : FieldRef := ⟨0x730_0038, 0, 3⟩
/-- TEL_SEL_L32 (R773). -/
def Reg.telSelL32 : Nat := 0x740_0008
/-- TEL_SEL_H32.SEQ (R773). -/
def F.telSelH32_seq : FieldRef := ⟨0x740_000C, 0, 32⟩
/-- CLK_CFG (R807). -/
def Reg.clkCfg : Nat := 0x750_0004
/-- CLK_ISL_STATUS (R807). -/
def Reg.clkIslStatus (i : Nat) : Nat := 0x750_0100 + i * 0x10
/-- CLK_ISL_CTRL (R807). -/
def Reg.clkIslCtrl (i : Nat) : Nat := 0x750_0104 + i * 0x10
/-- CLK_ISL_CTRL.SEL_REQ (R807). -/
def F.clkIslCtrl_selReq (i : Nat) : FieldRef := ⟨0x750_0104 + i * 0x10, 0, 1⟩
/-- CLK_ISL_CTRL.GATE_DIS (R807). -/
def F.clkIslCtrl_gateDis (i : Nat) : FieldRef := ⟨0x750_0104 + i * 0x10, 1, 1⟩
/-- CLK_ISL_EVENTS.FAILOVERS (R807). -/
def F.clkIslEvents_failovers (i : Nat) : FieldRef := ⟨0x750_010C + i * 0x10, 0, 8⟩
/-- CLK_ISL_EVENTS.FORCED (R807). -/
def F.clkIslEvents_forced (i : Nat) : FieldRef := ⟨0x750_010C + i * 0x10, 8, 8⟩
/-- CLK_ISL_EVENTS.SAFE (R807). -/
def F.clkIslEvents_safe (i : Nat) : FieldRef := ⟨0x750_010C + i * 0x10, 16, 8⟩
/-- RST_CTRL (R808). -/
def Reg.rstCtrl : Nat := 0x760_0000
/-- PWR_THERM (R809). -/
def Reg.pwrTherm : Nat := 0x770_0008
/-- PWR_THERM.TRIP_STICKY (R809). -/
def F.pwrTherm_tripSticky : FieldRef := ⟨0x770_0008, 0, 1⟩
/-- PWR_THERM.THROTTLE_STICKY (R809). -/
def F.pwrTherm_throttleSticky : FieldRef := ⟨0x770_0008, 1, 1⟩
/-- PWR_TJ_HWM (R809). -/
def Reg.pwrTjHwm : Nat := 0x770_0010
/-- PORT_RX_FRAMES_OK (R371). -/
def C.portRxFramesOk (i : Nat) : Nat := 0x100_1000 + i * 0x1_0000
/-- PORT_RX_OCTETS_OK (R371). -/
def C.portRxOctetsOk (i : Nat) : Nat := 0x100_1008 + i * 0x1_0000
/-- PORT_RX_FCS_ERR (R371). -/
def C.portRxFcsErr (i : Nat) : Nat := 0x100_1010 + i * 0x1_0000
/-- PORT_RX_RUNT (R371). -/
def C.portRxRunt (i : Nat) : Nat := 0x100_1018 + i * 0x1_0000
/-- PORT_RX_OVERSIZE (R371). -/
def C.portRxOversize (i : Nat) : Nat := 0x100_1020 + i * 0x1_0000
/-- PORT_RX_FIFO_DROP (R371). -/
def C.portRxFifoDrop (i : Nat) : Nat := 0x100_1028 + i * 0x1_0000
/-- PORT_RX_PCS_ERR (R371). -/
def C.portRxPcsErr (i : Nat) : Nat := 0x100_1030 + i * 0x1_0000
/-- PORT_RX_PAUSE (R371). -/
def C.portRxPause (i : Nat) : Nat := 0x100_1038 + i * 0x1_0000
/-- PORT_TX_FRAMES (R371). -/
def C.portTxFrames (i : Nat) : Nat := 0x100_1040 + i * 0x1_0000
/-- PORT_TX_OCTETS (R371). -/
def C.portTxOctets (i : Nat) : Nat := 0x100_1048 + i * 0x1_0000
/-- PORT_TX_PAUSE (R371). -/
def C.portTxPause (i : Nat) : Nat := 0x100_1050 + i * 0x1_0000
/-- PORT_TX_DISCARD (R371). -/
def C.portTxDiscard (i : Nat) : Nat := 0x100_1058 + i * 0x1_0000
/-- PORT_TX_OVERSIZE_DROP (R371). -/
def C.portTxOversizeDrop (i : Nat) : Nat := 0x100_1060 + i * 0x1_0000
/-- PORT_FEC_CORRECTED of port 0 (R371). -/
def C.portFecCorrected : Nat := 0x100_1068
/-- PORT_FEC_UNCORRECTED of port 0 (R371). -/
def C.portFecUncorrected : Nat := 0x100_1070
/-- PORT_FEC_SYMBOLS(0) of port 0 (R371). -/
def C.portFecSymbols : Nat := 0x100_1200
/-- PORT_WD_FIRED (R371). -/
def C.portWdFired (i : Nat) : Nat := 0x100_1078 + i * 0x1_0000
/-- PORT_RX_MSEC_OK (R371). -/
def C.portRxMsecOk (i : Nat) : Nat := 0x100_1080 + i * 0x1_0000
/-- PORT_RX_MSEC_FAIL (R371). -/
def C.portRxMsecFail (i : Nat) : Nat := 0x100_1088 + i * 0x1_0000
/-- PORT_RX_MSEC_LATE (R371). -/
def C.portRxMsecLate (i : Nat) : Nat := 0x100_1090 + i * 0x1_0000
/-- PORT_RX_MSEC_NOSC (R371). -/
def C.portRxMsecNosc (i : Nat) : Nat := 0x100_1098 + i * 0x1_0000
/-- PORT_RX_MSEC_UNTAGGED (R371). -/
def C.portRxMsecUntagged (i : Nat) : Nat := 0x100_10A0 + i * 0x1_0000
/-- PORT_TX_MSEC_PROTECTED (R371). -/
def C.portTxMsecProtected (i : Nat) : Nat := 0x100_10A8 + i * 0x1_0000
/-- PORT_LINK_DOWN (R371). -/
def C.portLinkDown (i : Nat) : Nat := 0x100_10B0 + i * 0x1_0000
/-- PORT_RX_PFC (R371). -/
def C.portRxPfc (i j : Nat) : Nat := 0x100_1100 + i * 0x1_0000 + j * 0x8
/-- PORT_TX_PFC (R371). -/
def C.portTxPfc (i j : Nat) : Nat := 0x100_1140 + i * 0x1_0000 + j * 0x8
/-- HBX_ADM_DROP (R418). -/
def C.hbxAdmDrop (i j : Nat) : Nat := 0x200_1000 + i * 0x10_0000 + j * 0x8
/-- HBX_NOBUF_DROP (R418). -/
def C.hbxNobufDrop (i : Nat) : Nat := 0x200_1080 + i * 0x10_0000
/-- HBX_EXC (R418). -/
def C.hbxExc (i j : Nat) : Nat := 0x200_1100 + i * 0x10_0000 + j * 0x8
/-- HBX_FRAG_HIT (R418). -/
def C.hbxFragHit (i : Nat) : Nat := 0x200_1300 + i * 0x10_0000
/-- HBX_FRAG_HELD (R418). -/
def C.hbxFragHeld (i : Nat) : Nat := 0x200_1308 + i * 0x10_0000
/-- HBX_FRAG_RELEASED (R418). -/
def C.hbxFragReleased (i : Nat) : Nat := 0x200_1310 + i * 0x10_0000
/-- HBX_FRAG_HOLD_EXPIRED (R418). -/
def C.hbxFragHoldExpired (i : Nat) : Nat := 0x200_1318 + i * 0x10_0000
/-- HBX_FRAG_HOLD_FULL (R418). -/
def C.hbxFragHoldFull (i : Nat) : Nat := 0x200_1320 + i * 0x10_0000
/-- HBX_FRAG_TIMEOUT (R418). -/
def C.hbxFragTimeout (i : Nat) : Nat := 0x200_1328 + i * 0x10_0000
/-- HBX_LANE_REDEALT (R418). -/
def C.hbxLaneRedealt (i : Nat) : Nat := 0x200_1330 + i * 0x10_0000
/-- HBX_PORT_DROP (R418). -/
def C.hbxPortDrop (i j : Nat) : Nat := 0x200_1400 + i * 0x10_0000 + j * 0x8
/-- PIPE_PASS (R458). -/
def C.pipePass (i j : Nat) : Nat := 0x201_1000 + i * 0x10_0000 + j * 0x8
/-- PIPE_RECIRC_LIMIT (R458). -/
def C.pipeRecircLimit (i : Nat) : Nat := 0x201_1020 + i * 0x10_0000
/-- PIPE_NO_DEST (R458). -/
def C.pipeNoDest (i : Nat) : Nat := 0x201_1028 + i * 0x10_0000
/-- PIPE_BAD_ACTION (R458). -/
def C.pipeBadAction (i : Nat) : Nat := 0x201_1030 + i * 0x10_0000
/-- PIPE_BAD_INDEX (R458). -/
def C.pipeBadIndex (i : Nat) : Nat := 0x201_1038 + i * 0x10_0000
/-- PIPE_CONFLICT (R458). -/
def C.pipeConflict (i : Nat) : Nat := 0x201_1040 + i * 0x10_0000
/-- PIPE_TOO_LONG (R458). -/
def C.pipeTooLong (i : Nat) : Nat := 0x201_1048 + i * 0x10_0000
/-- PIPE_ACTION_DROP (R458). -/
def C.pipeActionDrop (i : Nat) : Nat := 0x201_1050 + i * 0x10_0000
/-- FDB_LEARNED (R504). -/
def C.fdbLearned (i : Nat) : Nat := 0x202_1000 + i * 0x10_0000
/-- FDB_LEARN_FAIL (R504). -/
def C.fdbLearnFail (i : Nat) : Nat := 0x202_1008 + i * 0x10_0000
/-- FDB_LEARN_DROP (R504). -/
def C.fdbLearnDrop (i : Nat) : Nat := 0x202_1010 + i * 0x10_0000
/-- FDB_AGED (R504). -/
def C.fdbAged (i : Nat) : Nat := 0x202_1018 + i * 0x10_0000
/-- FDB_MOVES (R504). -/
def C.fdbMoves (i : Nat) : Nat := 0x202_1020 + i * 0x10_0000
/-- FDB_MOVE_BLOCKED (R504). -/
def C.fdbMoveBlocked (i : Nat) : Nat := 0x202_1028 + i * 0x10_0000
/-- FDB_RELOCATIONS (R504). -/
def C.fdbRelocations (i : Nat) : Nat := 0x202_1030 + i * 0x10_0000
/-- FDB_FLOW_CACHE_HIT (R504). -/
def C.fdbFlowCacheHit (i : Nat) : Nat := 0x202_1038 + i * 0x10_0000
/-- FDB_FLOW_CACHE_MISS (R504). -/
def C.fdbFlowCacheMiss (i : Nat) : Nat := 0x202_1040 + i * 0x10_0000
/-- FDB_FLUSHED (R504). -/
def C.fdbFlushed (i : Nat) : Nat := 0x202_1048 + i * 0x10_0000
/-- MRG_EMITTED (R313). -/
def C.mrgEmitted (i : Nat) : Nat := 0x381_0020 + i * 0x100
/-- MRG_LATE (R313). -/
def C.mrgLate (i : Nat) : Nat := 0x381_0028 + i * 0x100
/-- MRG_WINDOWED (R313). -/
def C.mrgWindowed (i : Nat) : Nat := 0x381_0030 + i * 0x100
/-- MRG_REFUSED (R313). -/
def C.mrgRefused (i : Nat) : Nat := 0x381_0038 + i * 0x100
/-- MRG_NONMEMBER (R313). -/
def C.mrgNonmember (i : Nat) : Nat := 0x381_0040 + i * 0x100
/-- REL_LAUNCHED (R315). -/
def C.relLaunched (i : Nat) : Nat := 0x3C1_0020 + i * 0x100
/-- REL_LATE (R315). -/
def C.relLate (i : Nat) : Nat := 0x3C1_0028 + i * 0x100
/-- REL_LATE_DROP (R315). -/
def C.relLateDrop (i : Nat) : Nat := 0x3C1_0030 + i * 0x100
/-- REL_FAR (R315). -/
def C.relFar (i : Nat) : Nat := 0x3C1_0038 + i * 0x100
/-- TM_NOBUF_DROP (R538). -/
def C.tmNobufDrop : Nat := 0x400_1000
/-- TM_HBM_DROP (R538). -/
def C.tmHbmDrop : Nat := 0x400_1008
/-- TM_OWNER_DROP (R538). -/
def C.tmOwnerDrop : Nat := 0x400_1010
/-- TM_REL_FULL (R538). -/
def C.tmRelFull : Nat := 0x400_1018
/-- TM_CELL_ERR (R538). -/
def C.tmCellErr : Nat := 0x400_1020
/-- TM_Q_DROP (R540). -/
def C.tmQDrop (i j : Nat) : Nat := 0x410_1000 + i * 0x4000 + j * 0x8
/-- TM_GATE_OVERRUN (R540). -/
def C.tmGateOverrun (i : Nat) : Nat := 0x410_1080 + i * 0x4000
/-- TM_PFC_DROP (R540). -/
def C.tmPfcDrop (i : Nat) : Nat := 0x410_1088 + i * 0x4000
/-- TM_CUT_THROUGH (R540). -/
def C.tmCutThrough (i : Nat) : Nat := 0x410_1090 + i * 0x4000
/-- CRY_CACHE_HIT (R583). -/
def C.cryCacheHit : Nat := 0x500_1000
/-- CRY_CACHE_MISS (R583). -/
def C.cryCacheMiss : Nat := 0x500_1008
/-- CRY_AUTH_FAIL (R583). -/
def C.cryAuthFail : Nat := 0x500_1010
/-- CRY_REPLAY_DROP (R583). -/
def C.cryReplayDrop : Nat := 0x500_1018
/-- CRY_BAD_CONTEXT (R583). -/
def C.cryBadContext : Nat := 0x500_1020
/-- CRY_TLS_TX_BAD (R583). -/
def C.cryTlsTxBad : Nat := 0x500_1028
/-- CRY_TLS_PASSTHRU (R583). -/
def C.cryTlsPassthru : Nat := 0x500_1030
/-- CRY_GEN_DISCARD (R583). -/
def C.cryGenDiscard : Nat := 0x500_1038
/-- STO_CMDS (R584). -/
def C.stoCmds : Nat := 0x580_1000
/-- STO_HDGST_ERR (R584). -/
def C.stoHdgstErr : Nat := 0x580_1008
/-- STO_DDGST_ERR (R584). -/
def C.stoDdgstErr : Nat := 0x580_1010
/-- STO_RETX (R584). -/
def C.stoRetx : Nat := 0x580_1018
/-- STO_CONN_FAIL (R584). -/
def C.stoConnFail : Nat := 0x580_1020
/-- STO_GEN_DISCARD (R584). -/
def C.stoGenDiscard : Nat := 0x580_1028
/-- STO_ARCH_WRITES (R584). -/
def C.stoArchWrites : Nat := 0x580_1030
/-- HIF_CPL_TIMEOUT (R621). -/
def C.hifCplTimeout : Nat := 0x600_1000
/-- HIF_LATE_CPL (R621). -/
def C.hifLateCpl : Nat := 0x600_1008
/-- HIF_POISON_RX (R621). -/
def C.hifPoisonRx : Nat := 0x600_1010
/-- HIF_BAD_ACCESS (R621). -/
def C.hifBadAccess : Nat := 0x600_1018
/-- HIF_FLR (R621). -/
def C.hifFlr : Nat := 0x600_1020
/-- HIF_LINK_DOWN (R621). -/
def C.hifLinkDown : Nat := 0x600_1028
/-- HIF_L1_ENTRIES (R621). -/
def C.hifL1Entries : Nat := 0x600_1030
/-- HIF_L0P_CHANGES (R621). -/
def C.hifL0pChanges : Nat := 0x600_1038
/-- HIF_ATS_INVAL (R621). -/
def C.hifAtsInval : Nat := 0x600_1040
/-- HIF_TX_OCTETS (R621). -/
def C.hifTxOctets : Nat := 0x600_1048
/-- HIF_RX_OCTETS (R621). -/
def C.hifRxOctets : Nat := 0x600_1050
/-- QM_OVERPOST (R683). -/
def C.qmOverpost : Nat := 0x610_1000
/-- QM_BAD_ENTRY (R683). -/
def C.qmBadEntry : Nat := 0x610_1008
/-- QM_ABORTED (R683). -/
def C.qmAborted : Nat := 0x610_1010
/-- QM_DB_IGNORED (R683). -/
def C.qmDbIgnored : Nat := 0x610_1018
/-- QM_NR_OVERFLOW (R683). -/
def C.qmNrOverflow : Nat := 0x610_1020
/-- QM_GEN_REPORTED (R683). -/
def C.qmGenReported : Nat := 0x610_1028
/-- QM_REPORT_LOST (R683). -/
def C.qmReportLost : Nat := 0x610_1030
/-- QM_VF_RESETS (R683). -/
def C.qmVfResets : Nat := 0x610_1038
/-- QM_INVALIDATE (R683). -/
def C.qmInvalidate : Nat := 0x610_1040
/-- NVM_IGNORED (R730). -/
def C.nvmIgnored : Nat := 0x720_1000
/-- NVM_COMPACTIONS (R730). -/
def C.nvmCompactions : Nat := 0x720_1008
/-- NVM_PROG_ERR (R730). -/
def C.nvmProgErr : Nat := 0x720_1010
/-- NVM_REFRESH (R730). -/
def C.nvmRefresh : Nat := 0x720_1018
/-- NVM_PCOMMITS (R730). -/
def C.nvmPcommits : Nat := 0x720_1020
/-- EVR_WRITTEN (R772). -/
def C.evrWritten : Nat := 0x730_1000
/-- EVR_SUPPRESSED (R772). -/
def C.evrSuppressed : Nat := 0x730_1008
/-- EVR_PERSISTED (R772). -/
def C.evrPersisted : Nat := 0x730_1010
/-- EVR_CE (R772). -/
def C.evrCe : Nat := 0x730_1018
/-- EVR_UCI (R772). -/
def C.evrUci : Nat := 0x730_1020
/-- EVR_UCU (R772). -/
def C.evrUcu : Nat := 0x730_1028
/-- PWR_THROTTLE (R809). -/
def C.pwrThrottle : Nat := 0x770_1000

end Sys2Proof.Machine
end

