-- ==== Sys2Proof/Machine/Map.lean ====
section
/-! DEFINITION. Sparse tables keyed by a number, kept as lists with strictly rising keys, and the byte and bit
helpers that every family uses. -/

namespace Sys2Proof.Machine

/-- A sparse table: pairs of key and value, keys strictly rising (`Table.wf`). -/
structure Table (α : Type) where
  entries : List (Nat × α)
  deriving DecidableEq, Repr

/-- The table with nothing in it. -/
def Table.empty {α : Type} : Table α := ⟨[]⟩

/-- The value at a key of an entry list. -/
def lookupKey {α : Type} (k : Nat) : List (Nat × α) → Option α
  | [] => none
  | (a, v) :: r => if a = k then some v else lookupKey k r

/-- An entry list with the value at a key set, the keys kept rising. -/
def insertKey {α : Type} (k : Nat) (v : α) : List (Nat × α) → List (Nat × α)
  | [] => [(k, v)]
  | (a, w) :: r =>
    if k < a then (k, v) :: (a, w) :: r
    else if k = a then (k, v) :: r
    else (a, w) :: insertKey k v r

/-- An entry list without a key. -/
def removeKey {α : Type} (k : Nat) : List (Nat × α) → List (Nat × α)
  | [] => []
  | (a, w) :: r => if a = k then r else (a, w) :: removeKey k r

/-- The value at a key. -/
def Table.get? {α : Type} (t : Table α) (k : Nat) : Option α := lookupKey k t.entries

/-- The value at a key, or a default. -/
def Table.getD {α : Type} (t : Table α) (k : Nat) (d : α) : α := (t.get? k).getD d

/-- Whether a key is present. -/
def Table.has {α : Type} (t : Table α) (k : Nat) : Bool := (t.get? k).isSome

/-- The table with a key set. -/
def Table.set {α : Type} (t : Table α) (k : Nat) (v : α) : Table α := ⟨insertKey k v t.entries⟩

/-- The table without a key. -/
def Table.erase {α : Type} (t : Table α) (k : Nat) : Table α := ⟨removeKey k t.entries⟩

/-- The table with the value at a key changed, a default standing for an absent one. -/
def Table.modify {α : Type} (t : Table α) (k : Nat) (d : α) (f : α → α) : Table α := t.set k (f (t.getD k d))

/-- The table with every value changed. -/
def Table.map {α β : Type} (t : Table α) (f : Nat → α → β) : Table β :=
  ⟨t.entries.map fun e => (e.1, f e.1 e.2)⟩

/-- The entries that satisfy a test. -/
def Table.filter {α : Type} (t : Table α) (p : Nat → α → Bool) : Table α :=
  ⟨t.entries.filter fun e => p e.1 e.2⟩

/-- The keys that are present. -/
def Table.keys {α : Type} (t : Table α) : List Nat := t.entries.map (·.1)

/-- The values that are present. -/
def Table.values {α : Type} (t : Table α) : List α := t.entries.map (·.2)

/-- How many keys are present. -/
def Table.size {α : Type} (t : Table α) : Nat := t.entries.length

/-- The entries of `b` laid over those of `a`. -/
def Table.overlay {α : Type} (a b : Table α) : Table α := b.entries.foldl (fun t e => t.set e.1 e.2) a

/-- The keys of an entry list rise strictly from above a bound. -/
def risingFrom {α : Type} : Option Nat → List (Nat × α) → Bool
  | _, [] => true
  | b, (a, _) :: r => (match b with | none => true | some x => decide (x < a)) && risingFrom (some a) r

/-- The canonical form of a table: keys strictly rising, so that equal tables are equal data. -/
def Table.wf {α : Type} (t : Table α) : Bool := risingFrom none t.entries

/-- `n` bytes of a number, least significant first (R5). -/
def le (n v : Nat) : Bytes := (List.range n).map fun i => BitVec.ofNat 8 (v / 256 ^ i)

/-- `n` bytes of a number, most significant first (R4). -/
def be (n v : Nat) : Bytes := (le n v).reverse

/-- `n` zero bytes. -/
def zeros (n : Nat) : Bytes := List.replicate n 0

/-- The number that bytes spell, most significant first. -/
def beNat (b : Bytes) : Nat := b.foldl (fun a x => a * 256 + x.toNat) 0

/-- The number that bytes spell, least significant first. -/
def leNat (b : Bytes) : Nat := beNat b.reverse

/-- `n` bytes of a string from an offset; bytes beyond its end are left out. -/
def bytesAt (b : Bytes) (off n : Nat) : Bytes := (b.drop off).take n

/-- A byte string cut or filled with zeros to a length. -/
def fitBytes (n : Nat) (b : Bytes) : Bytes := (b ++ zeros n).take n

/-- The string with the bytes at an offset replaced. -/
def splice (b : Bytes) (off : Nat) (x : Bytes) : Bytes := b.take off ++ x ++ b.drop (off + x.length)

/-- A Bool as a number. -/
def b2n (b : Bool) : Nat := if b then 1 else 0

/-- An integer in two's complement of `w` bits, as a number. -/
def twos (w : Nat) (i : Int) : Nat := (i % (2 ^ w : Int)).toNat

/-- The integer that `w` bits spell in two's complement. -/
def signed (w v : Nat) : Int := if v % 2 ^ w < 2 ^ (w - 1) then (v % 2 ^ w : Int) else (v % 2 ^ w : Int) - (2 ^ w : Int)

/-- An integer held to a range. -/
def clamp (lo hi x : Int) : Int := if x < lo then lo else if hi < x then hi else x

/-- A number rounded up to a multiple. -/
def ceilDiv (a b : Nat) : Nat := (a + b - 1) / b

/-- The 256-byte cells that a length takes (*Buffers, overload and the traffic manager*). -/
def cellsOf (n : Nat) : Nat := ceilDiv n 256

/-- The first element that satisfies a test, with the list without it. -/
def takeFirst {α : Type} (p : α → Bool) : List α → Option (α × List α)
  | [] => none
  | x :: r =>
    if p x then some (x, r)
    else match takeFirst p r with
      | some (y, r') => some (y, x :: r')
      | none => none

end Sys2Proof.Machine
end

