-- ==== Sys2Proof/Machine/StHost.lean ====
section
/-! DEFINITION. Plain-data state of the host side: the register file, the counters, the coherent-state
machinery, functions, queues, notification rings, the host link, and the ordered list of outputs. -/

namespace Sys2Proof.Machine

/-- What a memory write of the device carries (R605). -/
inductive DmaKind where
  | frameData | writeBack | headBlock | notification | ledger | tailBlock | storage | snapshot
  deriving DecidableEq, Repr

/-- What leaves the block, in the order in which it leaves. A memory write carries RO, IDO (R605), whether it is Translated
(R601) and, under TPH, the steering tag beside the hint Target (R604); an MSI-X message carries the address and the data of its
vector. -/
inductive Out where
  | dma (fn : Nat) (kind : DmaKind) (addr : Nat) (data : Bytes) (ro ido translated : Bool) (tph : Option Nat)
  | read (fn addr len : Nat) (ro ido translated : Bool)
  | msix (fn vector addr data : Nat) (ido : Bool)
  | bar4Data (fn offset value : Nat)
  | readData (addr : Nat) (value : Nat)
  | completerAbort (addr : Nat)
  | unsupported (fn : Nat)
  | frame (port : Nat) (stamp : Nat) (wire : Bytes)
  | advertise (port width rate fec : Nat)
  | train (lane setting : Nat)
  | pause (port : Nat) (prio : Option Nat) (quanta : Nat)
  | ppsOut (n : Nat) (high : Bool)
  | synceOut (n : Nat) (clock : Option (Nat × Nat))
  | tod (msg : Bytes)
  | alert (asserted : Bool)
  | thermtrip
  | config (fn offset : Nat) (value : Nat)
  | retryStatus (fn : Nat)
  | aer (name : Nat)
  | atsRequest (fn page : Nat)
  | atsInvalidateDone (fn page : Nat)
  | linkWidth (w : Nat)
  | l1Request
  | mctp (msgType : Nat) (body : Bytes)
  | spdm (doe : Bool) (body : Bytes)
  | wake (identity channel : Nat)
  | avs (mv : Nat)
  | tap (data : Bytes)
  | mgmtFrame (bytes : Bytes)
  deriving DecidableEq, Repr

/-- What a commit replaced (R25): its T_c, the epoch before it, and the register and policer words before it. -/
structure RegGen where
  tc : Stamp
  epoch : Nat
  cells : Table Word
  pol : Table Word
  deriving DecidableEq, Repr

/-- A write of L-class fields (R15): when it completed, the register, and its word before. -/
structure LiveWrite where
  at_ : Stamp
  addr : Nat
  old : Word
  deriving DecidableEq, Repr

/-- The register file: words in effect, keyed by BAR0 offset, a word of 0 unlisted; the staged shadows; the shadows that
wait for T_c or for their Ream boundary; what each commit replaced and what writes of L-class fields replaced, newest first; and
what the REGISTERS section loaded at boot (R13, R19). -/
structure RegFile where
  cells : Table Word
  shadow : Table Word
  armed : Table Word
  reamWait : Table Word
  hist : List RegGen
  lives : List LiveWrite
  store : Table Word
  /-- Policers reached through TM_POL_SEL (R542): key slice * 2^17 + index * 8 + word. -/
  pol : Table Word
  polShadow : Table Word
  polArmed : Table Word
  polStore : Table Word
  deriving DecidableEq, Repr

/-- A PIPE counter pair (R440). -/
structure PairCtr where
  pkts : DWord
  bytes : DWord
  deriving DecidableEq, Repr

/-- The counters of the device: value, side accumulator (R37), latched high word (R53) and latched snapshot value
(R39), keyed by `_LO` offset; the PIPE pairs keyed by slice * 2^20 + index. Counters that are fields of a register have their
values in the register file; their side accumulators and latched values are keyed by offset * 32 + lowest bit. -/
structure Counters where
  value : Table DWord
  side : Table DWord
  high : Table Word
  latched : Table DWord
  pair : Table PairCtr
  pairSide : Table PairCtr
  pairLatched : Table PairCtr
  fieldSide : Table Nat
  fieldLatched : Table Nat
  deriving DecidableEq, Repr

/-- An admin command accepted and not yet completed: its entry, the generation of its function then (R677), and which setup
of its queue it belongs to (R636). -/
structure AdminTok where
  ref : AdminRef
  gen : BitVec 16
  setup : Nat
  deriving DecidableEq, Repr

/-- The phases of a commit (*The coherent-state model*). -/
inductive CommitPhase where
  | idle | journal | arming | armed
  deriving DecidableEq, Repr

/-- Commit machinery (R24 to R34). `staged` is STAGED_STATE of R454 and `image` the image that is LOADED; `reamTc` is the
commit time of the S/Ream values that wait, `lenWait` a Ream length that waits for the boundary of a TAI second. -/
structure Coherent where
  epoch : Nat
  assigned : Nat
  hwm : Nat
  phase : CommitPhase
  tc : Stamp
  effTc : Stamp
  token : Option AdminTok
  persistent : Bool
  staged : Nat
  image : Option BankImage
  bankTag : Bool
  prevEpoch : Nat
  persistTimes : List Stamp
  reamPending : Bool
  lenWait : Option Nat
  reamTc : Stamp
  draining : List Nat
  deriving DecidableEq, Repr

/-- Phases of a counter snapshot (R35 to R44). -/
inductive SnapPhase where
  | idle | armed | writing
  deriving DecidableEq, Repr

/-- Snapshot machinery. -/
structure Snapshot where
  phase : SnapPhase
  ts : Stamp
  seq : Nat
  clearing : Bool
  token : Option AdminTok
  bufLen : Nat
  deriving DecidableEq, Repr

/-- The state of an admin queue (R635, `QM_FN_STATE.ADMIN`). -/
inductive QState where
  | free | active | error | destroying
  deriving DecidableEq, Repr

/-- A function's admin queue (R635 to R638): entries started and not completed, those of them that released the
queue (R637), and those completed ahead of the head (R648). `setup` counts the setups of the queue. -/
structure AdminQ where
  setup : Nat
  state : QState
  base : Nat
  prod : Word
  head : Word
  next : Word
  opened : List Word
  released : List Word
  finished : List Word
  errStatus : Nat
  errIndex : Word
  fetched : Nat
  deriving DecidableEq, Repr

/-- A function: generation, admin queue, quotas, and the configuration-space bits that the device's behaviour
depends on (R590, R598, R601, R604, R605, R607, R611). `vecTable` holds the dwords of its MSI-X table but for the mask bits, which
`vecUnmasked` gives (R593); `status` the RW1C bits of the Status register. -/
structure FnSt where
  gen : BitVec 16
  admin : AdminQ
  resetting : Bool
  vectors : Nat
  maxWq : Nat
  maxNr : Nat
  contexts : Nat
  memEnable : Bool
  busMaster : Bool
  d3hot : Bool
  roEnable : Bool
  idoEnable : Bool
  atsEnable : Bool
  tphEnable : Bool
  tphExt : Bool
  cplTimeout : Nat
  mrrs : Nat
  vecTable : Table Word
  vecUnmasked : List Nat
  vecPending : List Nat
  maskAll : Bool
  msixEnable : Bool
  devErr : Nat
  status : Nat
  aerUnc : Nat
  aerCor : Nat
  cfg : Table Word
  deriving DecidableEq, Repr

/-- The last entry of a WQ in an NR: the NR index, and the HEAD and ERROR it carries (R671, R672). -/
structure NrMark where
  index : Word
  head : Word
  error : Bool
  deriving DecidableEq, Repr

/-- A work queue (R630 to R658). `kind` is TYPE. `posted` holds the buffer address of each RECV entry that is
posted and not used; `reread` the entries before `next` that an INVALIDATE discarded and that are read again (R645), `marks` its
last entry in each NR. -/
structure WqSt where
  fn : Nat
  localIdx : Nat
  kind : Nat
  log2 : Nat
  nr : Option Nat
  base : Nat
  headBlock : Nat
  bufSize : Nat
  prod : Word
  head : Word
  next : Word
  opened : List Word
  finished : List Word
  state : QState
  errStatus : Nat
  errIndex : Word
  suspended : Bool
  fetched : Nat
  hbWaiting : Bool
  marks : Table NrMark
  nrPending : Bool
  posted : List (Word × Nat)
  reread : List Word
  deriving DecidableEq, Repr

/-- A notification ring (R667 to R676). `order` lists the WQs waiting for room in the order in which they became
pending (R673). -/
structure NrSt where
  fn : Nat
  localIdx : Nat
  log2 : Nat
  report : Bool
  vector : Nat
  modCount : Nat
  modTimerUs : Nat
  liveCount : Nat
  liveTimerUs : Nat
  base : Nat
  prod : Word
  cons : Word
  armed : Bool
  sinceArm : Nat
  firstAt : Option Stamp
  overflowed : Bool
  carryOvf : Bool
  order : List Nat
  deriving DecidableEq, Repr

/-- A SEND entry whose frame is in the device (R664 to R666). -/
structure SendSt where
  wq : Nat
  idx : Word
  gen : BitVec 16
  frame : Nat
  settled : Bool
  left : Nat
  copies : Nat
  stamp : Stamp
  late : Bool
  epoch : Nat
  disposition : Nat
  deriving DecidableEq, Repr

/-- A leaf, or what a leaf needs of a frame without a disposition (R185, R189, R195). `slice` is where the frame
entered (R239), `sseq` its slice sequence, `cls` its ledger class, `ream` the Ream that holds or will hold it. -/
structure Leaf where
  port : Nat
  stamp : Stamp
  epoch : Nat
  disp : Nat
  len : Nat
  digest : Bytes
  recorded : Bool
  slice : Nat
  sseq : Nat
  frame : Nat
  cls : Nat
  ream : Nat
  deriving DecidableEq, Repr

/-- A RECV entry that holds frame data and waits for its frame's leaf index (R663). `leaf` is the frame's leaf. -/
structure RecvSt where
  wq : Nat
  idx : Word
  gen : BitVec 16
  len : Nat
  more : Bool
  frameLen : Nat
  leaf : Leaf
  mergeGroup : Nat
  flags : Nat
  firstCode : Nat
  cls : Nat
  ream : Nat
  recorded : Bool
  mergeSeq : Nat
  deriving DecidableEq, Repr

/-- A VF reset in progress: the generation that is going (R678). -/
structure VfResetSt where
  oldGen : BitVec 16
  token : Option AdminTok
  since : Stamp
  deriving DecidableEq, Repr

/-- Functions, queues and notifications. `reserved` holds the numbers kept under R680: global number, owner,
local index and TYPE. -/
structure Queues where
  fns : Table FnSt
  wqs : Table WqSt
  nrs : Table NrSt
  reserved : List (Nat × Nat × Nat × Nat)
  sends : List SendSt
  recvs : List RecvSt
  reportLost : Bool
  vfResets : Table VfResetSt
  deriving DecidableEq, Repr

/-- A device read outstanding or quarantined (R611 to R615): what it is for, the first entry that a fetch brings, bytes asked, bytes
that its item still wants (none once the item is gone), bytes that have come, when it was issued and when it times out, and the page
whose cached translation it uses (R602). -/
structure ReadSt where
  fn : Nat
  item : ReadItem
  idx : Word
  len : Nat
  need : Nat
  got : Nat
  issued : Stamp
  due : Stamp
  page : Option Nat
  deriving DecidableEq, Repr

/-- An entry or a command that has started and whose reads are under way: its item, and the stretches of host memory that are not
asked for yet (R587). -/
structure DataRead where
  fn : Nat
  item : ReadItem
  left : List (Nat × Nat)
  deriving DecidableEq, Repr

/-- The host link. `starting` holds what waits for its reads, `atc` cached translations as function and page, `atsPending`
invalidations not answered yet, `waiting` what R607 holds back; `vfMse` is the Memory Space Enable of the VFs; `aspm` that the host
permits L1 and L0p; `widthAt` when the width in use began (R609). `txOctets` and `rxOctets` are payload that `HIF_TX_OCTETS` and
`HIF_RX_OCTETS` are yet to take up. -/
structure HostLink where
  dlUp : Bool
  rate : Nat
  width : Nat
  flit : Bool
  l0pWidth : Nat
  l1 : Bool
  idleSince : Stamp
  ready : Bool
  fallback : Bool
  degraded : Bool
  caps : Option CapTable
  vfEnable : Bool
  numVfs : Nat
  ari : Bool
  vfMse : Bool
  enabledVfs : List Nat
  reads : Table ReadSt
  quarantined : Table ReadSt
  starting : List DataRead
  atc : List (Nat × Nat)
  atsPending : List (Nat × Nat)
  lastTimeout : Option (Nat × Nat × Bool)
  /-- Writes that wait in the host island for a function that may issue none (R607), oldest first. -/
  waiting : List (Nat × BitVec 16 × Out)
  silenced : Bool
  releasedAt : Stamp
  /-- The strict share of ledger output and when it was counted; bytes of frames and of storage read data served (R66). -/
  ledgerCredit : Int
  ledgerAt : Stamp
  arbFrame : Nat
  arbStorage : Nat
  aspm : Bool
  widthAt : Stamp
  txOctets : Nat
  rxOctets : Nat
  deriving DecidableEq, Repr

end Sys2Proof.Machine
end

