-- ==== Sys2Proof/Machine/StMgmt.lean ====
section
/-! DEFINITION. Plain-data state of the management side: the flash store, boot, mailboxes, management
endpoints, error records, the event recorder, telemetry, unit service states, clocks, power, resets and test. -/

namespace Sys2Proof.Machine

/-- The boot stages of `MGT_STATUS.STAGE` (R728). -/
inductive BootStage where
  | rom | clocks | store | units | service | recovery
  deriving DecidableEq, Repr

/-- A journal record (R699, R700) as the ring holds it: its type and effects, the devices in service when it was
written, and the devices that hold its header and its commit marker. -/
inductive JrnKind where
  | commit (values : List (Nat × Word)) (bankId : Nat) (epoch : Nat)
  | bankImage (image : BankImage)
  | epochReserve (hwm : Nat)
  | ledgerKey (slot : Nat) (keyId : Nat) (pub wrapped cert : Bytes)
  | keySelect (slot : Nat)
  deriving DecidableEq, Repr

/-- A journal record with its sequence number, the page of the ring where it begins and how many it takes, and its programming state
per device. -/
structure JrnRec where
  kind : JrnKind
  seq : Nat
  page : Nat
  pages : Nat
  devices : List Nat
  headerOk : List Nat
  markerOk : List Nat
  deriving DecidableEq, Repr

/-- A superblock (R697). -/
structure Superblock where
  seq : Nat
  fwSlot : Nat
  baseSlot : Nat
  baseLen : Nat
  replayFrom : Nat
  journalOffset : Nat
  epochHwm : Nat
  baseHash : Bytes
  fwHash : Bytes
  deriving DecidableEq, Repr

/-- What a journal write in progress is for (R701). -/
inductive JrnPurpose where
  | commit
  | epoch
  | rotateKey (token : AdminTok) (slot keyId bufLen : Nat)
  | keySelect
  deriving DecidableEq, Repr

/-- The update window (R713 to R716); `devices` are the flash devices that hold every window programmed. -/
structure UpdateSt where
  phase : Nat
  busy : Bool
  result : Nat
  target : Nat
  offset : Nat
  window : Table Word
  abortWaiting : Bool
  programmed : Nat
  devices : List Nat
  deriving DecidableEq, Repr

/-- The flash store (*Flash layout*). `sb0` and `sb1` are the superblocks in FLASH0 and FLASH1, newest
first, as bytes (R697), `found` those that boot found valid, highest SEQ first (R698); `flashFails` counts consecutive failures of each device (R696); `journal` holds, oldest
first, the records still in the ring; `jrnPos` is the page of the
ring to be written next, `jrnMap` the physical sector of each logical one and `eraseJournal` the erase counts (R711); `refreshedAt` is the last refresh (R712); `fw` and
`bases` are the images in the slots of each device, keyed by device * 2 + slot (R695). -/
structure Nvm where
  mirror : Bool
  sb0 : List Bytes
  sb1 : List Bytes
  found : List Superblock
  active : Option Superblock
  journal : List JrnRec
  writing : List (JrnRec × JrnPurpose)
  nextSeq : Nat
  usedPages : Nat
  jrnPos : Nat
  jrnMap : Table Nat
  fw : Table FirmwareInfo
  bases : Table BaseImage
  base : Option BaseImage
  lastReplayed : Nat
  flashFails : List Nat
  compacting : Bool
  compactSeq : Nat
  compactFailed : Bool
  compactToken : Option (AdminTok × Bool)
  eraseBase : List Nat
  eraseJournal : Table Nat
  compactAsked : Bool
  bootSkewed : Option Nat
  refreshedAt : Stamp
  upd : UpdateSt
  deriving DecidableEq, Repr

/-- A mailbox channel (R717 to R723). `clearedAt` is when FULL was last cleared. -/
structure MbxSt where
  sender : Nat
  receiver : Nat
  vector : Nat
  data : List Word
  full : Bool
  clearedAt : Option Stamp
  overrun : Bool
  deriving DecidableEq, Repr

/-- SPDM state of one transport (*SPDM and attestation*): nothing, version known, capabilities given, or
algorithms negotiated. -/
structure SpdmSt where
  progress : Nat
  deriving DecidableEq, Repr

/-- Boot and management endpoints. `settled` are the ports that have brought their link up or been IN_SERVICE for 1 s (R687). -/
structure Mgmt where
  stage : BootStage
  released : Bool
  oscRunning : Bool
  fwRuns : Bool
  bootSel : Nat
  straps : Word
  fwSlot : Nat
  baseSlot : Nat
  baseOwner : Bool
  fwVersion : Word
  fwSvn : Nat
  fusedMin : Nat
  fwHash : Bytes
  raiseMinRun : Nat
  fwRaiseMin : Bool
  bootMs : Nat
  bootAt : Stamp
  settled : List Nat
  updateOpen : Bool
  mbx : Table MbxSt
  eid : Option Nat
  receiver : Option Nat
  unacked : List (Nat × Stamp)
  spdmDoe : SpdmSt
  spdmMctp : SpdmSt
  serial : Nat
  ownerHash : Bytes
  deriving DecidableEq, Repr

/-- The service states of a unit (*Service states*). -/
inductive Service where
  | inService | draining | outOfService | testing | rejoining
  deriving DecidableEq, Repr

/-- A unit with a service state: state, REASON of R750, the role it holds, whether it left by its own fault
(R747), the admin command that waits for it (R751), and since when it is in its state. -/
structure UnitSt where
  state : Service
  reason : Nat
  role : Option Nat
  fault : Bool
  token : Option AdminTok
  fence : Nat
  since : Stamp
  deriving DecidableEq, Repr

/-- An open error record (R733): class, source, the unit when it has a service state, and the item. -/
structure ErrRec where
  cls : Nat
  source : Nat
  unit : Option Nat
  item : ErrItem
  dma : Bool
  deriving DecidableEq, Repr

/-- An event entry (R756). -/
structure EvEntry where
  seq : Nat
  stamp : Stamp
  code : Nat
  sev : Nat
  cls : Nat
  unitKind : Nat
  unit : Nat
  suppressed : Nat
  persisted : Bool
  late : Bool
  clearRec : Bool
  snap : List (Nat × Nat)
  deriving DecidableEq, Repr

/-- The event recorder (R756 to R769). `ring` is newest first; `spent` counts the tokens taken from each code's
bucket (R759), and `refillAt` is when its last refill interval ended. -/
structure Recorder where
  ring : List EvEntry
  region : List EvEntry
  nextSeq : Nat
  reservedEnd : Nat
  spent : Table Nat
  refillAt : Table Stamp
  suppressed : Table Nat
  cfg : List EventCfg
  stopped : Bool
  frozen : Bool
  flashOk : Bool
  nonce : DWord
  alert : Bool
  selValid : Bool
  selBusy : Bool
  selSeq : Nat
  selSrc : Nat
  copy : Option EvEntry
  clearKeys : List Nat
  fatal : Bool
  fatalCause : Nat
  records : List ErrRec
  openHwm : Nat
  deriving DecidableEq, Repr

/-- A telemetry record (R770). -/
structure TelRec where
  seq : Nat
  stamp : Stamp
  bytes : Bytes
  sensors : Sensors
  deriving DecidableEq, Repr

/-- Telemetry. `rates` holds the octets received and sent by each port since the previous record. -/
structure Telemetry where
  ring : List TelRec
  nextSeq : Nat
  sel : Option TelRec
  sramCe : Nat
  hbmCe : Nat
  uncorrected : Nat
  rates : Table (Nat × Nat)
  lastAt : Stamp
  sensors : Sensors
  deriving DecidableEq, Repr

/-- An island's clock (R778 to R790): the locks of its PLLs, the one selected, and a switch in progress: whether hardware
started it, whether it goes to the safe clock, the PLL it goes to, when it started, and whether the outgoing clock has stopped. -/
structure IslandSt where
  lockA : Bool
  lockB : Bool
  selB : Bool
  safe : Bool
  forced : Bool
  switching : Bool
  hw : Bool
  toSafe : Bool
  target : Bool
  since : Stamp
  lossOfEdges : Bool
  standby : Option Bool
  mhz : Nat
  cfgDiv : Nat
  deriving DecidableEq, Repr

/-- Clocks: crystal, ring PLL, islands, and the frequency references of the core references (R778). -/
structure Clocks where
  xtalRunning : Bool
  onRing : Bool
  ethref0 : Bool
  ethref1 : Bool
  tableApplied : Bool
  islands : Table IslandSt
  deriving DecidableEq, Repr

/-- Why the last reset happened (R808). -/
structure ResetSt where
  held : Bool
  cause : Nat
  fromFatal : Bool
  warmCount : Nat
  warmAt : Option Stamp
  deriving DecidableEq, Repr

/-- Power, AVS and thermal state (R797 to R806). -/
structure PowerSt where
  pwrOk : Bool
  avsOk : Bool
  avsFails : Nat
  mv : Nat
  minMv : Nat
  throttled : Bool
  tripped : Bool
  tjMax : Int
  tjSensor : Nat
  tjHwm : Int
  deciW : Nat
  avsAt : Stamp
  hotAt : Stamp
  deriving DecidableEq, Repr

/-- The instructions of the test access port (R820). -/
inductive TapIr where
  | extest | idcode | samplePreload | extestPulse | extestTrain | clamp | highz | bypass
  deriving DecidableEq, Repr

/-- The test access port. -/
structure Tap where
  ir : TapIr
  preloaded : Bool
  deriving DecidableEq, Repr

end Sys2Proof.Machine
end

