-- ==== Sys2Proof/Machine/StTime.lean ====
section
/-! DEFINITION. Plain-data state of the time side: time base and servo, stamping calibration, the Watermark
ledger, the Deckle and release groups. -/

namespace Sys2Proof.Machine

/-- The servo states (*Servo states*), in the encoding of `TB_STATE.QUALITY`. -/
inductive Quality where
  | freeRun | acquiring | locked | holdover
  deriving DecidableEq, Repr

/-- An entry of the time-source table (R80 to R85, R129): qualified, REASON of `TB_SRC_STATUS`, and since when it is
qualified. -/
structure SrcSt where
  qualified : Bool
  reason : Nat
  since : Stamp
  deriving DecidableEq, Repr

/-- A PPS_IN input (R81, R101 to R103): edges of the current run, whether they qualify it, its last edge, the seconds that an
accepted message named that edge with, the seconds of the edge before it, edges named in a row, edges without a message
in a row, and whether messages qualify it as PPS_IN0_TOD. -/
structure PpsSt where
  run : Nat
  ok : Bool
  lastEdge : Option Stamp
  named : Option Nat
  prevSeconds : Option Nat
  namedRun : Nat
  missing : Nat
  todOk : Bool
  deriving DecidableEq, Repr

/-- A frequency reference (R77, R78). -/
structure FrefSt where
  qualified : Bool
  deriving DecidableEq, Repr

/-- What a PTP exchange has delivered so far (*IEEE 1588-2019 operation*): t1 and t2 of the latest Sync, t3 of a
Delay_Req, and t1 of a Pdelay_Req with its t2 and t4, in units of 2^-16 ns; and whether an Announce has come. -/
structure PtpSt where
  t1 : Int
  t2 : Int
  syncWaiting : Bool
  syncCorr : Int
  t3 : Int
  delayWaiting : Bool
  pdT1 : Int
  pdT2 : Int
  pdT4 : Int
  pdWaiting : Bool
  pdCorr : Int
  meanPath : Int
  announced : Bool
  utcOffset : Int
  leap61 : Bool
  leap59 : Bool
  deriving DecidableEq, Repr

/-- A step that waits (R90, R92). -/
structure StepWait where
  delta : Int
  deriving DecidableEq, Repr

/-- An increment announced to the port dies (R143): when it takes effect, the increment and its slew. -/
structure IncrPlan where
  at_ : Stamp
  incr : Nat
  slew : Int
  deriving DecidableEq, Repr

/-- The time base and its servo. `time` counts 2^-32 ns since the TAI epoch; `incr` is the increment in effect and `slewNow` its
part that removes a phase, `plan` what is announced and not yet in effect, oldest first; `slew` is that part of the increment
announced last, `phaseLeft` the phase that no announced increment removes yet and `covered` the phase that announced ones have
still to remove, in units of 2^-32 ns. `ptpRx` holds port and ingress stamp of PTP event messages received and not yet handled (R164). `lockedRuns` holds, newest first, the LOCKED time spent at
each frequency, in stamp units (R86). `synce` holds port and FREQ of each SYNCE_OUT that carries a clock (R132). -/
structure TimeBase where
  running : Bool
  time : Nat
  incr : Nat
  slewNow : Int
  plan : List IncrPlan
  freq : Int
  slew : Int
  phaseLeft : Int
  covered : Int
  offset : Int
  quality : Quality
  active : Option Nat
  everLocked : Bool
  inRun : Nat
  outRun : Nat
  recent : List Nat
  eL : Nat
  holdoverAt : Stamp
  lockedAt : Stamp
  lockedRuns : List (Nat × Int)
  stepWait : Option StepWait
  stepCount : Nat
  srcs : Table SrcSt
  pps : Table PpsSt
  frefs : Table FrefSt
  pllARef : Option Nat
  pllBRef : Option Nat
  hostAt : Option Stamp
  hint : Nat
  slave : Option Nat
  ptp : Table PtpSt
  ptpSeq : Table Nat
  evt : Table (List Stamp)
  evtLast : Table Stamp
  ppsHigh : List Nat
  ppsRise : Table Stamp
  todSeq : Nat
  todDue : Option (Stamp × Nat)
  timeSec : TimeSection
  synce : Table (Nat × Nat)
  ptpRx : List (Nat × Stamp)
  deriving DecidableEq, Repr

/-- The calibration values of one port die (R147 to R151): time-copy offset in 2^-16 ns, RX and TX deltas per
rate in 2^-10 ns. -/
structure CalVals where
  ofs : Int
  rx : List Int
  tx : List Int
  deriving DecidableEq, Repr

/-- A port die: its time copy in units of 2^-32 ns (R143 to R145), when it last started a Calender pass (R146), the values applied, the results of accepted passes that no Ream boundary has applied, newest first, with
the times of their completion, when the newest accepted pass completed, and
the result that the applied values move towards (R149, R151). -/
structure DieCal where
  copy : Nat
  passAt : Option Stamp
  applied : CalVals
  results : List (Stamp × CalVals)
  target : Option CalVals
  doneAt : Option Stamp
  everApplied : Bool
  inPass : Bool
  rejects : Nat
  pilotFail : Bool
  deriving DecidableEq, Repr

/-- A port's measured cable delay (R160 to R163): the last 16 measurements, the mean in use and the mean waiting
for a Ream boundary, all in units of 2^-8 ns but the measurements, in 2^-16 ns. -/
structure CableSt where
  meas : List Int
  mean : Nat
  pending : Option Nat
  valid : Bool
  lastAt : Stamp
  inUse : Bool
  deriving DecidableEq, Repr

/-- Stamping state. `factoryRx` and `factoryTx` are the fused latencies, keyed by lane * 8 + rate, in 2^-16 ns
(R147). `delays` holds, per port and newest first, the Ream from which a pair of ingress and egress cable delays
in 2^-8 ns is in effect, `cals` per port die the Ream from which calibration values are (R150). `pathWords` is the length of the
transmit path from the commit point to the ball in words, by lane rate (R142). `peak` is the highest that a time copy has read before a step of the time base. -/
structure Stamping where
  factoryRx : Table Nat
  factoryTx : Table Nat
  dies : Table DieCal
  calSeq : Nat
  stale : Bool
  cables : Table CableSt
  delays : Table (List (Nat × Nat × Nat))
  cals : Table (List (Nat × CalVals))
  pathWords : Table Nat
  peak : Stamp
  deriving DecidableEq, Repr

/-- Where a frame's leaf stands: its Ream, its index once fixed (R663), its tree and its disposition. -/
structure Placed where
  ream : Nat
  index : Option Nat
  recorded : Bool
  disp : Nat
  deriving DecidableEq, Repr

/-- A Ream in progress, or ended and not sealed (R197 to R205). `sets` are the ring sets of its ledger ports, those of set 0 left out
(R260). -/
structure ReamSt where
  num : Nat
  start : Stamp
  stop : Option Stamp
  /-- What the time base reads when it has advanced by 20 µs of increments since the end, steps allowed for (R200). -/
  sealAt : Stamp
  step : Bool
  boot : Bool
  genesis : Bool
  refuse : Bool
  keyNew : Bool
  quality : Quality
  calSeq : Nat
  stale : Bool
  epochFirst : Nat
  epochLast : Nat
  mask : Nat
  sets : Table Nat
  keySlot : Nat
  ports : List Nat
  frames : List Leaf
  posts : List Leaf
  missing : Nat
  deriving DecidableEq, Repr

/-- A record in ledger staging: its Ream, leaf, the place of a post-disposition leaf among those of its tree, tree index once
fixed, ring set, which destinations of the set have taken it, and the command identifier of the archive Write that carries
it (R233, R244). -/
structure RecSt where
  ream : Nat
  leaf : Leaf
  post : Option Nat
  index : Option Nat
  set : Nat
  reserve : Bool
  hostDone : Bool
  archDone : Bool
  archCid : Option Nat
  deriving DecidableEq, Repr

/-- A Ream header with its root sheet: unsigned fields, then the bytes of a signed header slot (R226). `wrapped` is the key that signs it, `signer`
the one that has it in hand. -/
structure HdrSt where
  ream : Nat
  stop : Stamp
  body : Bytes
  sheet : Bytes
  root : Bytes
  keyId : Nat
  wrapped : Bytes
  epoch : Nat
  signer : Option Nat
  released : Bool
  unsigned : Bool
  sig : Bytes
  archBusy : List Nat
  /-- The destinations that must take it, as ring set and whether the archive (R233, R244). -/
  owed : List (Nat × Bool)
  deriving DecidableEq, Repr

/-- A ring set (R224 to R233, R240 to R254). `recPos` and `hdrPos` count the blocks and slots
that each archive log holds since it began or wrapped; `lbaBlk` is the LBAs of a 4 KiB block, `indexAt` when the index blocks
are due (R243). -/
structure RingSet where
  enabled : Bool
  dest : Nat
  recLog2 : Nat
  hdrLog2 : Nat
  vector : Nat
  recBase : Nat
  hdrBase : Nat
  tailBase : Nat
  recProd : Word
  recCons : Word
  hdrProd : Word
  hdrCons : Word
  sealedReam : Nat
  missing : Nat
  modEntries : Nat
  modFirst : Option Stamp
  disabling : Option AdminTok
  conn : Option Nat
  nsid : Nat
  recLba : Nat
  recLbas : Nat
  hdrLba : Nat
  hdrLbas : Nat
  lbaBlk : Nat
  recPos : Nat
  hdrPos : Nat
  recWraps : Nat
  hdrWraps : Nat
  newestRec : Nat
  newestHdr : Nat
  archUp : Bool
  archErr : Bool
  backoff : Nat
  retryAt : Stamp
  indexAt : Stamp
  deriving DecidableEq, Repr

/-- A checkpoint (R211). -/
structure Ckpt where
  seq : Nat
  ream : Nat
  stop : Stamp
  epoch : Nat
  reserved : Nat
  keyId : Nat
  root : Bytes
  deriving DecidableEq, Repr

/-- A Ream that has ended: number, start and end, and how many steps the time base had made before it. -/
structure PastReam where
  num : Nat
  start : Stamp
  stop : Stamp
  era : Nat
  deriving DecidableEq, Repr

/-- The Watermark ledger. `past` holds the Reams that have ended, newest first. `buckets` holds, per slice, the tokens missing from its record bucket in units of
2^-16 records and the time of the last update (R239). `undecided` holds the frames whose leaf has not been formed,
and `placed` the leaves of frames that are still in the device, both by frame. `lastReleased` is the newest Ream whose header
was released, `ckpt0` and `ckpt1` are the checkpoints of each flash device as it holds them. `lastReam` is the newest Ream whose header was
released, as a checkpoint of it reads; `builderB` tells the active side of the Ream builder (R248). -/
structure Ledger where
  running : Bool
  cur : Option ReamSt
  ended : List ReamSt
  past : List PastReam
  prevRoot : Bytes
  prevNum : Nat
  sealedNum : Nat
  sealedRoot : Bytes
  frontLate : Bool
  lastUnsigned : Bool
  lastReleased : Nat
  records : List RecSt
  headers : List HdrSt
  buckets : Table (Nat × Stamp)
  refusing : Bool
  sets : Table RingSet
  keys : Table KeySlot
  keySel : Nat
  lastRotate : Option Stamp
  ckpt0 : List Bytes
  ckpt1 : List Bytes
  ckptWriting : Option Ckpt
  ckptWaiting : Option Ckpt
  newestCkpt : Option Ckpt
  ckptOk0 : Bool
  ckptOk1 : Bool
  ckptAt : Option Stamp
  ckptSeq : Nat
  ckptRetry : Bool
  undecided : Table Leaf
  placed : Table Placed
  stagingHwm : Nat
  fronts : Table Stamp
  idleNext : Table Stamp
  lastReam : Option Ckpt
  builderB : Bool
  deriving DecidableEq, Repr

/-- A merge descriptor (R270): port, compensated stamp, governing stamp, the Ream that holds it, the copy that holds the
buffer, and its key, granule and rank, once it has reached the Deckle (R276, R277). -/
structure Desc where
  port : Nat
  c : Int
  stamp : Stamp
  ream : Nat
  copy : Nat
  gran : Int
  rank : Nat
  deriving DecidableEq, Repr

/-- A merge group (R268 to R289). `held` is in key order. `hist` holds, newest first, the Ream from which a window
in ns and a member set are in effect. A destroyed group keeps its last destination, key and sequence while descriptors of it
are still on their way (R305). -/
structure MergeSt where
  alive : Bool
  destKind : Nat
  dest : Nat
  held : List Desc
  lastKey : Option (Int × Nat)
  seq : Nat
  hist : List (Nat × Nat × List Nat)
  lagPort : Option Nat
  deriving DecidableEq, Repr

/-- A group operation that waits for its Ream boundary (R305, R307, R309). -/
inductive GroupOp where
  | create | destroy | redirect
  deriving DecidableEq, Repr

/-- A pending operation: its command, what it does, when it was accepted, and whether its boundary has passed. -/
structure GroupWait where
  token : AdminTok
  op : GroupOp
  merge : Option MergeArgs
  release : Option ReleaseArgs
  group : Nat
  at_ : Stamp
  applied : Bool
  applyReam : Nat
  deriving DecidableEq, Repr

/-- The Deckle. `fronts` holds the merge fronts, in stamp units of compensated time (R273, R274). `stepMark` is
the number of the first Ream after the latest step (R94), `left` the ports that ceased to be configured in the Ream in progress
(R323). -/
structure Deckle where
  groups : Table MergeSt
  fronts : Table Int
  waits : List GroupWait
  bypass : Bool
  activeB : Bool
  stepMark : Nat
  heldHwm : Nat
  onWay : List (Nat × Desc)
  left : List Nat
  deriving DecidableEq, Repr

/-- A release group (R290 to R303); `gen` counts its creations (R309). -/
structure ReleaseSt where
  alive : Bool
  gen : Nat
  speed : Nat
  fec : Nat
  deriving DecidableEq, Repr

/-- Release groups: `align` is `REL_PORT_STATUS.ALIGN` per port, `member` the group of each member port. -/
structure Release where
  groups : Table ReleaseSt
  align : Table Nat
  member : Table Nat
  waits : List GroupWait
  deriving DecidableEq, Repr

end Sys2Proof.Machine
end

