-- ==== Sys2Proof/Machine/StData.lean ====
section
/-! DEFINITION. Plain-data state of the data path: frames and their metadata, ports and MACsec, slices (Headbox,
Couch, fragment table), tables, the traffic manager, crypto contexts and storage connections. -/

namespace Sys2Proof.Machine

/-- A PTP message that the device sends: on which port, which message, whether its event stamp goes into it as it is
transmitted (R109), its sequenceId, the stamp that it carries or turns around, the correction and the port identity that a
response takes from its request, its logMessageInterval where the interval that sent it gives that, and the
managementId that it answers. -/
structure PtpTx where
  port : Nat
  kind : PtpMsgKind
  oneStep : Bool
  seq : Nat
  at_ : Stamp
  corr : Int
  requester : Bytes
  logInterval : Option Nat
  dataSet : Nat
  deriving DecidableEq, Repr

/-- What brought a frame into the device: a port, a SEND entry with its function and PORT (R664, R665), a storage connection
(R563), or the PTP instance. -/
inductive Origin where
  | port
  | send (wq : Nat) (idx : Word) (fn port : Nat)
  | storage (conn : Nat)
  | ptp (m : PtpTx)
  deriving DecidableEq, Repr

/-- The decision fields of a frame (*Passes and metadata*). `rel` is the release group and the requested time;
`punt` the reason code; `decap` a level with its Ethernet template. `named` lists the destinations in the order in which
the rule set named them (R193): 0 the primary one, 1 punt, 2 + m mirror session m. -/
structure Decision where
  dest : Option Dest
  punt : Option Nat
  mirrors : List Nat
  queueClass : Nat
  ledgerClass : Nat
  rel : Option (Nat × Stamp)
  encrypt : Option Nat
  decrypt : Option Nat
  encap : Option Nat
  decap : Option (Nat × Bytes)
  rewrites : List Nat
  drop : Bool
  recirc : Bool
  named : List Nat
  deriving DecidableEq, Repr

/-- A policer colour (R525). -/
inductive Colour where
  | green | yellow | red
  deriving DecidableEq, Repr

/-- The fragmented header a frame is judged by (R404): its key, offset and payload, whether more fragments follow,
the number of headers up to it, and the codes recorded after it. -/
structure FragInfo where
  key : FragKey
  offset : Nat
  more : Bool
  payload : Nat
  hdrs : Nat
  codesAfter : List Nat
  deriving DecidableEq, Repr

/-- A parse result (R388 to R403). -/
structure Parsed where
  hdrs : List Hdr
  codes : List Nat
  trunc : List Nat
  bound : Nat
  payload : Nat
  level : Nat
  pattern : List Nat
  pk : List (Option Nat)
  frag : Option FragInfo
  deriving DecidableEq, Repr

/-- The fields a fragment table entry lends to later fragments (R406). -/
structure FragFields where
  hdrs : List Hdr
  pattern : List Nat
  pk : List (Option Nat)
  codes : List Nat
  deriving DecidableEq, Repr

/-- What an engine accepted a frame as (R574): the owner of the context and its generation then, and the engine. -/
structure ItemSt where
  fn : Nat
  gen : BitVec 16
  engine : Nat
  deriving DecidableEq, Repr

/-- A frame in the device. `bytes` are before the FCS, as the frame stands; `leafLen` and `digest` are of its
entry (R186, R187). `mark` remembers the fragmented header it last met the fragment table for, by its first byte in the frame
as it stands, with what it took there (R404); `exc` the exception codes counted for it so far (R400). `wireLen` is its length on the wire. `engFlags` are
the RECV FLAGS that the crypto engines set (bits 2 to 6, R662); `crypted` that an outbound context transformed it; `item` what
a crypto engine accepted it as. `entered` orders its entry into the slice among the writes of L-class fields (R15). -/
structure Frame where
  id : Nat
  slice : Nat
  port : Nat
  origin : Origin
  stamp : Stamp
  epoch : Nat
  ream : Nat
  bytes : Bytes
  wireLen : Nat
  leafLen : Nat
  digest : Bytes
  admClass : Nat
  cells : Nat
  entered : Nat
  pass : Nat
  bank : Bool
  sseq : Nat
  d : Decision
  vrf : Nat
  colour : Colour
  scratch : List Nat
  mark : Option (Nat × Bool × FragFields × List Nat)
  exc : List Nat
  engFlags : Nat
  crypted : Bool
  item : Option ItemSt
  deriving DecidableEq, Repr

/-- A MACsec SA (R341, R345). `pn` is the next transmit PN or the next expected receive PN; `seen` holds the
receive PNs accepted. -/
structure SaSt where
  key : Bytes
  salt : Bytes
  ssci : Word
  pn : Nat
  low : Nat
  seen : List Nat
  warned : Bool
  dry : Bool
  deriving DecidableEq, Repr

/-- A command on an SA that waits for its frame boundary (R345, R346): when it came, its association number, direction and
channel, and for an install the SA that the firmware gives it or else the host's registers hold. -/
structure SaOp where
  at_ : Stamp
  an : Nat
  rx : Bool
  sc : Nat
  install : Bool
  mka : Option MkaSa
  deriving DecidableEq, Repr

/-- A running pause: since when it runs without interruption, and until when (R353, R359). -/
structure PauseSt where
  since : Stamp
  until_ : Stamp
  deriving DecidableEq, Repr

/-- A port. `pauses`, `holdoffs`, `refresh` and `sentXoff` are keyed by priority (0 in PAUSE mode); `toSend` holds
pause frames for the next frame boundary (R358); `saOps` are the SA commands in progress (R345). `txCopy` is the frame in transmission, and whether as a mirror
copy. -/
structure PortSt where
  link : Bool
  localFault : Bool
  remoteFault : Bool
  modeErr : Bool
  anDone : Bool
  ltDone : Bool
  prbsErr : Bool
  retrain : Bool
  drainUntil : Stamp
  fifo : List Frame
  lastEnd : Stamp
  pauses : Table PauseSt
  holdoffs : Table Stamp
  xoff : List Nat
  refresh : Table Stamp
  toSend : List (Option Nat × Nat)
  txUntil : Stamp
  txCopy : Option (Frame × Bool)
  saErr : Bool
  mka : Bool
  txSas : Table SaSt
  rxSas : Table SaSt
  saOps : List SaOp
  anFailAt : Option Stamp
  flushing : Bool
  flushCount : Nat
  deriving DecidableEq, Repr

/-- A lane: PORT_LANE_STATUS, its receive equaliser coefficients, its transmit equaliser settings, and the settings in the
store that training starts from (R326, R364, R370). -/
structure LaneSt where
  status : Word
  coefs : Table Int
  txEq : Nat
  preset : Nat
  movedAt : Option Stamp
  deriving DecidableEq, Repr

/-- A frame in the Couch: its stream (port position, 12 injection, 13 recirculation), the lane it was dealt to,
and its result once parsed. -/
structure CouchSt where
  q : Nat
  stream : Nat
  lane : Nat
  frame : Frame
  parsed : Option Parsed
  deriving DecidableEq, Repr

/-- A fragment table entry (R405 to R409), and when it was deleted. -/
structure FragEntry where
  key : FragKey
  fields : FragFields
  coverage : Nat
  total : Option Nat
  latest : Stamp
  gone : Option Stamp
  deriving DecidableEq, Repr

/-- A frame between the Couch and the end of its pass, with the metadata of R399. -/
structure PipeFrame where
  frame : Frame
  parsed : Parsed
  first : Nat
  malformed : Nat
  follower : Bool
  deriving DecidableEq, Repr

/-- A slice. `cells` holds slice buffer cells keyed by position * 16 + class, position 12 being injection.
`roles` is the lane of each role, 7 none; `rejoin` a lane that rejoins with the lane that gave up its role and the
fence; `struck` the frames that an error struck and whose record is open (R739). A policer's tokens and the time of their last
update, since `polFrom` where it has metered nothing (R525). -/
structure SliceSt where
  cells : Table Nat
  minFree : Nat
  injWait : List Frame
  admitted : List Frame
  injected : List Frame
  recirc : List Frame
  seq : Nat
  fence : Nat
  roles : List Nat
  rejoin : Table (Nat × Nat)
  slot : Nat
  injTaken : Nat
  couch : List CouchSt
  couchHwm : Nat
  frags : List FragEntry
  orphans : List CouchSt
  struck : List Frame
  pipe : List PipeFrame
  polTc : Table Int
  polTp : Table Int
  polAt : Table Stamp
  polFrom : Stamp
  badWords : List (RuleWord × Stamp)
  deriving DecidableEq, Repr

/-- An FDB entry (R459). -/
structure FdbEntry where
  bd : Nat
  mac : Nat
  static : Bool
  stale : Bool
  dest : Nat
  action : Nat
  rseq : Nat
  pass : Nat
  deriving DecidableEq, Repr

/-- A flow-table entry (R459). -/
structure FlowEntry where
  profile : Nat
  key : Bytes
  action : Nat
  hit : Bool
  rseq : Nat
  conn : Option Nat
  deriving DecidableEq, Repr

/-- A relocation record (R467). -/
structure RelocRec where
  seq : Nat
  from_ : Nat
  into : Nat
  key : Nat × Nat
  prior : Nat
  deriving DecidableEq, Repr

/-- A route (R459). -/
structure Route where
  vrf : Nat
  pfx : Nat
  len : Nat
  action : Nat
  deriving DecidableEq, Repr

/-- A ternary row (R459). -/
structure TernRow where
  banks : Nat
  action : Nat
  value : Nat
  mask : Nat
  deriving DecidableEq, Repr

/-- A learn request (R468); `mark` orders it among the writes of L-class fields (R15). -/
structure LearnReq where
  bd : Nat
  mac : Nat
  port : Nat
  stamp : Stamp
  mark : Nat
  deriving DecidableEq, Repr

/-- An FDB_SRC hit: its entry, the port that the frame arrived on, the frame's stamp, whether the entry was stale, and when
(R477). -/
structure SrcHit where
  bd : Nat
  mac : Nat
  port : Option Nat
  stamp : Stamp
  stale : Bool
  at_ : Stamp
  deriving DecidableEq, Repr

/-- The tables of one slice; `hits` are the FDB_SRC hits of the present clock. `cache` holds, per set of the flow cache, the keys held, most recent first. -/
structure SliceTables where
  fdb : Table FdbEntry
  rseq : Nat
  log : List RelocRec
  learnQ : List LearnReq
  learnHwm : Nat
  pass : Nat
  passAt : Stamp
  nextSlot : Nat
  lpm4 : List Route
  lpm6 : List Route
  tern : Table TernRow
  cache : Table (List (Nat × Nat))
  hits : List SrcHit
  deriving DecidableEq, Repr

/-- All tables, and the rule banks, which every slice holds alike (R442). -/
structure Flow where
  slices : Table SliceTables
  flow : Table FlowEntry
  rseq : Nat
  log : List RelocRec
  bank0 : Option Bank
  bank1 : Option Bank
  deriving DecidableEq, Repr

/-- A copy of a frame for one destination (R505, R506). `queue` names its queue (the keys of Machine/View.lean),
`port` its egress port; `portCopy` that it is a port copy of its frame (R666); `len` the bytes it carries; `spilled` that it
lies in the HBM extension; `headroom` that it was admitted under R517; `cut` that it is cut-through. A release copy has its
release time, the creation of its group that it was admitted under (R309), whether it was on an aligned member when it was admitted, and whether it is
late (R299). `gateFailAt` is since when it fails the gate check (R530). `mark` orders its admission among the writes of L-class
fields, `handed` the hand-off of a release copy to its port (R15). -/
structure Copy where
  id : Nat
  frame : Nat
  queue : Nat
  port : Nat
  portCopy : Bool
  cls : Nat
  n : Nat
  len : Nat
  mirror : Bool
  spilled : Bool
  headroom : Bool
  cut : Bool
  relTime : Stamp
  relGen : Nat
  aligned : Bool
  late : Bool
  gateFailAt : Option Stamp
  mergeSeq : Nat
  mergeFlags : Nat
  mark : Nat
  handed : Nat
  deriving DecidableEq, Repr

/-- A frame that its copies hold: the frame, its last parse, the cells of one copy, the on-die cells it holds, and the
priority it is accounted under (R516). -/
structure TmFrame where
  frame : Frame
  parsed : Parsed
  first : Nat
  n : Nat
  onDie : Nat
  prio : Nat
  deriving DecidableEq, Repr

/-- A shaper's credit, in units of `polUnit` to the byte, and the time of its last update (R521). -/
structure ShaperSt where
  credit : Int
  at_ : Stamp
  deriving DecidableEq, Repr

/-- A gate control list in use or waiting: entries, base, cycle, enable (R528). -/
structure GateList where
  enable : Bool
  entries : List (Nat × Nat)
  base : Stamp
  cycle : Nat
  deriving DecidableEq, Repr

/-- A gate control list that is pending (R532): the list, the register words that it brings into effect, its B and its S. -/
structure GatePlan where
  list : GateList
  words : Table Word
  begin_ : Stamp
  start : Stamp
  deriving DecidableEq, Repr

/-- Scheduling state of a port (R518 to R532). `round` is the class that the round is at and whether it has its
quantum; `newest` the latest governing stamp of a copy that was dequeued (R522); `entry` the gate entry that runs and
`entryEnd` its end; `from_` when the list in effect took over, and `carried` the classes whose gates were open then, with the time
since when; `plans` the lists that wait, in the order in which they take over. -/
structure TmPort where
  deficits : Table Int
  round : Nat
  granted : Bool
  shapers : Table ShaperSt
  shaper : ShaperSt
  newest : Stamp
  oper : GateList
  from_ : Stamp
  carried : Table Stamp
  entry : Nat
  entryEnd : Stamp
  plans : List GatePlan
  deriving DecidableEq, Repr

/-- The traffic manager. `queues` holds copies in queue order, keyed as in Machine/View.lean; `acct` is ingress accounting,
keyed by port * 8 + priority. -/
structure Traffic where
  input : List PipeFrame
  frames : Table TmFrame
  queues : Table (List Copy)
  nextCopy : Nat
  used : Nat
  minFree : Nat
  hbmUsed : Nat
  spilling : List Nat
  acct : Table Nat
  ports : Table TmPort
  vfRx : Table ShaperSt
  vfTx : Table ShaperSt
  fnTurn : Nat
  wqTurn : Table Nat
  deriving DecidableEq, Repr

/-- The states of a context (R550, R557 to R560). -/
inductive CtxState where
  | active | expired | resyncWait | failed | keyWait
  deriving DecidableEq, Repr

/-- A state that a TLS receive context is to take up from a TCP sequence on (R579): its first record's number, key and IV; `resumed`
that it goes on where the records stand. -/
structure CtxNext where
  seq : Nat
  recordNo : Nat
  key : Bytes
  iv : Bytes
  resumed : Bool
  deriving DecidableEq, Repr

/-- A crypto context (R543 to R560). IPsec: `high` and `seen` are the replay window. TLS: `tcpSeq` and `recordNo` name the
next record; `map` holds TLS_TX records as TCP sequence, number, key and IV, newest first; `next` is a state that waits
for its first frame (R579); `header`, `body` and `left` are the record being received: what of its header and of its
ciphertext has passed, and how many bytes of it are left. `dying` is set from the acceptance of CONTEXT_DESTROY, or of a
reset of its function, on; `token` is the command that waits. -/
structure Ctx where
  fn : Nat
  gen : BitVec 16
  info : CtxRec
  state : CtxState
  seq : Nat
  high : Nat
  seen : List Nat
  tcpSeq : Nat
  recordNo : Nat
  key : Bytes
  iv : Bytes
  map : List (Nat × Nat × Bytes × Bytes)
  next : Option CtxNext
  left : Nat
  header : Bytes
  body : Bytes
  packets : Nat
  bytes : Nat
  authFail : Nat
  replayDrop : Nat
  softDone : Bool
  dying : Bool
  token : Option AdminTok
  deriving DecidableEq, Repr

/-- A storage command that its connection has issued (R566 to R568): its work entry, its generation, and
the completion status that a data digest error gave it, its entry being complete then (R565). -/
structure StoSt where
  cid : Nat
  work : WorkRef
  gen : BitVec 16
  args : StoArgs
  err : Nat
  deriving DecidableEq, Repr

/-- The states of `STO_CONN_STATE` (R584). -/
inductive ConnState where
  | closed | connecting | established | draining | failed
  deriving DecidableEq, Repr

/-- A segment sent and not acknowledged: sequence number, flags, payload, and when it was sent, unless it was sent again. -/
structure SegSt where
  seq : Nat
  syn : Bool
  fin : Bool
  payload : Bytes
  sent : Option Stamp
  deriving DecidableEq, Repr

/-- An archive Write that its connection has issued or holds for the reconnection (R240 to R245): command identifier, whether it
writes the header region or the record region, whether it writes the index block, its LBA, the newest Ream in it,
how many records or headers it carries, its data, and whether it failed. -/
structure ArchOp where
  cid : Nat
  header : Bool
  index : Bool
  lba : Nat
  ream : Nat
  count : Nat
  data : Bytes
  failed : Bool
  deriving DecidableEq, Repr

/-- The congestion state of a connection under NewReno (RFC 5681, RFC 6582): windows in bytes, duplicate acknowledgements in a
row, and the sequence number whose acknowledgement ends a fast recovery in progress. -/
structure NewReno where
  cwnd : Nat
  ssthresh : Nat
  dups : Nat
  recover : Option Nat
  deriving DecidableEq, Repr

/-- A storage connection: TCP and NVMe/TCP progress (*NVMe/TCP initiator*). `step` counts what the connect has
reached: 0 SYN sent, 1 ICReq sent, 2 Connect sent, 3 connected. `sndBuf` holds bytes that wait for the peer's window.
`rtt` is the smoothed round-trip time and its variation, `rto` the timeout, in stamp units. `scale` is the window scale that the
device offers and, once the peer has answered, uses; `adv` the receive window that it advertised last. -/
structure Conn where
  fn : Nat
  gen : BitVec 16
  info : ConnRec
  state : ConnState
  reason : Nat
  step : Nat
  since : Stamp
  sndNxt : Nat
  sndUna : Nat
  sndWnd : Nat
  rcvNxt : Nat
  unacked : List SegSt
  sndBuf : Bytes
  rtoAt : Stamp
  rto : Nat
  retx : Nat
  rtt : Option (Nat × Nat)
  cntlid : Nat
  maxH2c : Nat
  outstanding : List StoSt
  connectTok : Option AdminTok
  discTok : Option AdminTok
  discAt : Stamp
  aborted : Nat
  archive : Option Nat
  archOps : List ArchOp
  scale : Nat
  adv : Nat
  reno : NewReno
  deriving DecidableEq, Repr

/-- Crypto and storage: contexts by index, reuse tags (R543), cached context indices, engine of each role
(R546, R571, R573), and connections by index. -/
structure Engines where
  ctxs : Table Ctx
  tags : Table Nat
  cached : List Nat
  cryRoles : Table Nat
  stoRoles : Table Nat
  conns : Table Conn
  rsvUsed : Nat
  deriving DecidableEq, Repr

end Sys2Proof.Machine
end

