-- ==== Sys2Proof/Machine/Init.lean ====
section
/-! DEFINITION. What each part of the state holds after a power-on reset, and what an absent entry of a sparse
table stands for. -/

namespace Sys2Proof.Machine

/-- The register file with every register at its row's reset word (R13). -/
def RegFile.init : RegFile :=
  { cells := .empty, shadow := .empty, armed := .empty, reamWait := .empty, hist := [], lives := [], store := .empty,
    pol := .empty, polShadow := .empty, polArmed := .empty, polStore := .empty }

/-- A counter pair at 0. -/
def PairCtr.init : PairCtr := ⟨0, 0⟩

/-- Every counter at 0 (R52). -/
def Counters.init : Counters :=
  { value := .empty, side := .empty, high := .empty, latched := .empty, pair := .empty, pairSide := .empty,
    pairLatched := .empty, fieldSide := .empty, fieldLatched := .empty }

/-- No commit in progress. -/
def Coherent.init : Coherent :=
  { epoch := 0, assigned := 0, hwm := 0, phase := .idle, tc := 0, effTc := 0, token := none, persistent := false,
    staged := 0, image := none, bankTag := false, prevEpoch := 0, persistTimes := [], reamPending := false, lenWait := none, reamTc := 0,
    draining := [] }

/-- No snapshot in progress. -/
def Snapshot.init : Snapshot :=
  { phase := .idle, ts := 0, seq := 0, clearing := false, token := none, bufLen := 0 }

/-- A time source that is not qualified. -/
def SrcSt.init : SrcSt :=
  { qualified := false, reason := 0, since := 0 }

/-- A PPS input that has seen no edge. -/
def PpsSt.init : PpsSt :=
  { run := 0, ok := false, lastEdge := none, named := none, prevSeconds := none, namedRun := 0, missing := 0, todOk := false }

/-- A PTP exchange with nothing received. -/
def PtpSt.init : PtpSt :=
  { t1 := 0, t2 := 0, syncWaiting := false, syncCorr := 0, t3 := 0, delayWaiting := false, pdT1 := 0, pdT2 := 0,
    pdT4 := 0, pdWaiting := false, pdCorr := 0, meanPath := 0, announced := false, utcOffset := 0, leap61 := false, leap59 := false }

/-- The TIME section before the store is read. -/
def TimeSection.init : TimeSection :=
  { y := 0, d := 0, clockClass := [], clockAccuracy := [], twoStep := [], asymmetry := [], transport := [] }

/-- The time base, not running until boot starts it (R73); the nominal increment is 0.625 ns. -/
def TimeBase.init : TimeBase :=
  { running := false, time := 0, incr := 0xA0000000, slewNow := 0, plan := [], freq := 0, slew := 0, phaseLeft := 0, covered := 0, offset := 0,
    quality := .freeRun, active := none, everLocked := false, inRun := 0, outRun := 0, recent := [], eL := 0,
    holdoverAt := 0, lockedAt := 0, lockedRuns := [], stepWait := none, stepCount := 0, srcs := .empty, pps := .empty,
    frefs := .empty, pllARef := none, pllBRef := none, hostAt := none, hint := 0, slave := none, ptp := .empty,
    ptpSeq := .empty, evt := .empty, evtLast := .empty, ppsHigh := [], ppsRise := .empty, todSeq := 0,
    todDue := none, timeSec := TimeSection.init, synce := .empty, ptpRx := [] }

/-- Calibration values of 0 for the five rates. -/
def CalVals.init : CalVals := { ofs := 0, rx := [0, 0, 0, 0, 0], tx := [0, 0, 0, 0, 0] }

/-- A port die that has seen no Calender pass. -/
def DieCal.init : DieCal :=
  { copy := 0, passAt := none, applied := CalVals.init, results := [], target := none, doneAt := none, everApplied := false,
    inPass := false, rejects := 0, pilotFail := false }

/-- No cable measurement. -/
def CableSt.init : CableSt :=
  { meas := [], mean := 0, pending := none, valid := false, lastAt := 0, inUse := false }

/-- Stamping state; factory latencies absent from the fuses read 0 (assumption 7). -/
def Stamping.init : Stamping :=
  { factoryRx := .empty, factoryTx := .empty, dies := .empty, calSeq := 0, stale := true, cables := .empty,
    delays := .empty, cals := .empty
    pathWords := (List.range 5).foldl (fun (t : Table Nat) r => t.set r (Config.commitWords r)) .empty, peak := 0 }

/-- A ring set that is not enabled. -/
def RingSet.init : RingSet :=
  { enabled := false, dest := 0, recLog2 := 0, hdrLog2 := 0, vector := 0, recBase := 0, hdrBase := 0,
    tailBase := 0, recProd := 0, recCons := 0, hdrProd := 0, hdrCons := 0, sealedReam := 0, missing := 0,
    modEntries := 0, modFirst := none, disabling := none, conn := none, nsid := 0, recLba := 0, recLbas := 0,
    hdrLba := 0, hdrLbas := 0, lbaBlk := 1, recPos := 0, hdrPos := 0, recWraps := 0, hdrWraps := 0, newestRec := 0,
    newestHdr := 0, archUp := false, archErr := false, backoff := 0, retryAt := 0, indexAt := 0 }

/-- The ledger with no Ream and nothing staged. -/
def Ledger.init : Ledger :=
  { running := false, cur := none, ended := [], past := [], prevRoot := zeros 32, prevNum := 0, sealedNum := 0,
    sealedRoot := zeros 32, frontLate := false, lastUnsigned := false, lastReleased := 0, records := [], headers := [],
    buckets := .empty, refusing := false, sets := .empty, keys := .empty, keySel := 0,
    lastRotate := none, ckpt0 := [], ckpt1 := [], ckptWriting := none, ckptWaiting := none, newestCkpt := none,
    ckptOk0 := false, ckptOk1 := false, ckptAt := none, ckptSeq := 0, ckptRetry := false,
    undecided := .empty, placed := .empty, stagingHwm := 0, fronts := .empty, idleNext := .empty, lastReam := none,
    builderB := false }

/-- A merge group that does not exist. -/
def MergeSt.init : MergeSt :=
  { alive := false, destKind := 0, dest := 0, held := [], lastKey := none, seq := 0, hist := [], lagPort := none }

/-- The Deckle with no group. -/
def Deckle.init : Deckle :=
  { groups := .empty, fronts := .empty, waits := [], bypass := false, activeB := false, stepMark := 0, heldHwm := 0,
    onWay := [], left := [] }

/-- A release group that does not exist. -/
def ReleaseSt.init : ReleaseSt := { alive := false, gen := 0, speed := 0, fec := 0 }

/-- No release group. -/
def Release.init : Release := { groups := .empty, align := .empty, member := .empty, waits := [] }

/-- The decision and work fields at the start of pass 1 (R421). -/
def Decision.init (queueClass ledgerClass : Nat) : Decision :=
  { dest := none, punt := none, mirrors := [], queueClass, ledgerClass, rel := none, encrypt := none,
    decrypt := none, encap := none, decap := none, rewrites := [], drop := false, recirc := false,
    named := [] }

/-- A port without link. -/
def PortSt.init : PortSt :=
  { link := false, localFault := false, remoteFault := false, modeErr := false, anDone := false, ltDone := false,
    prbsErr := false, retrain := false, drainUntil := 0, fifo := [], lastEnd := 0, pauses := .empty,
    holdoffs := .empty, xoff := [], refresh := .empty, toSend := [], txUntil := 0, txCopy := none, saErr := false,
    mka := false, txSas := .empty, rxSas := .empty, saOps := [], anFailAt := none, flushing := false, flushCount := 0 }

/-- A lane without signal. -/
def LaneSt.init : LaneSt := { status := 0, coefs := .empty, txEq := 0, preset := 0, movedAt := none }

/-- An empty slice: roles 0 to 3 on lanes 0 to 3, lane 4 the spare (R415). -/
def SliceSt.init : SliceSt :=
  { cells := .empty, minFree := 8192, injWait := [], admitted := [], injected := [], recirc := [], seq := 0,
    fence := 0, roles := [0, 1, 2, 3], rejoin := .empty, slot := 0, injTaken := 0, couch := [],
    couchHwm := 0, frags := [], orphans := [], struck := [], pipe := [], polTc := .empty, polTp := .empty, polAt := .empty, polFrom := 0, badWords := [] }

/-- The empty tables of a slice. -/
def SliceTables.init : SliceTables :=
  { fdb := .empty, rseq := 0, log := [], learnQ := [], learnHwm := 0, pass := 0, passAt := 0, nextSlot := 0,
    lpm4 := [], lpm6 := [], tern := .empty, cache := .empty, hits := [] }

/-- Empty tables and no rule bank. -/
def Flow.init : Flow :=
  { slices := .empty, flow := .empty, rseq := 0, log := [], bank0 := none, bank1 := none }

/-- A shaper with no credit and no debt. -/
def ShaperSt.init : ShaperSt := { credit := 0, at_ := 0 }

/-- Gates not in use (R531). -/
def GateList.init : GateList := { enable := false, entries := [], base := 0, cycle := 0 }

/-- Scheduling state of a port that has sent nothing. -/
def TmPort.init : TmPort :=
  { deficits := .empty, round := 4, granted := false, shapers := .empty, shaper := ShaperSt.init,
    newest := 0, oper := GateList.init, from_ := 0, carried := .empty, entry := 0, entryEnd := 0, plans := [] }

/-- The traffic manager with every cell free. -/
def Traffic.init : Traffic :=
  { input := [], frames := .empty, queues := .empty, nextCopy := 0, used := 0, minFree := 0x80000, hbmUsed := 0,
    spilling := [], acct := .empty, ports := .empty, vfRx := .empty, vfTx := .empty, fnTurn := 0, wqTurn := .empty }

/-- Engines with their roles at home and no context. -/
def Engines.init : Engines :=
  { ctxs := .empty, tags := .empty, cached := [], cryRoles := .empty, stoRoles := .empty, conns := .empty,
    rsvUsed := 0 }

/-- An admin queue that is FREE. -/
def AdminQ.init : AdminQ :=
  { setup := 0, state := .free, base := 0, prod := 0, head := 0, next := 0, opened := [], released := [], finished := [],
    errStatus := 0, errIndex := 0, fetched := 0 }

/-- A function after reset: generation 0, no quota. -/
def FnSt.init : FnSt :=
  { gen := 0, admin := AdminQ.init, resetting := false, vectors := 0, maxWq := 0, maxNr := 0, contexts := 0,
    memEnable := false, busMaster := false, d3hot := false, roEnable := true, idoEnable := false,
    atsEnable := false, tphEnable := false, tphExt := false, cplTimeout := 0, mrrs := 512, vecTable := .empty, vecUnmasked := [], vecPending := [],
    maskAll := false, msixEnable := false, devErr := 0, status := 0, aerUnc := 0, aerCor := 0,
    cfg := .empty }

/-- No function, queue or notification ring in use. -/
def Queues.init : Queues :=
  { fns := .empty, wqs := .empty, nrs := .empty, reserved := [], sends := [], recvs := [], reportLost := false,
    vfResets := .empty }

/-- The host link down. -/
def HostLink.init : HostLink :=
  { dlUp := false, rate := 0, width := 0, flit := false, l0pWidth := 0, l1 := false, idleSince := 0, ready := false,
    fallback := false, degraded := false, caps := none, vfEnable := false, numVfs := 0,
    ari := false, vfMse := false, enabledVfs := [], reads := .empty, quarantined := .empty, starting := [], atc := [], atsPending := [],
    lastTimeout := none, waiting := [], silenced := false, releasedAt := 0, ledgerCredit := 0, ledgerAt := 0, arbFrame := 0, arbStorage := 0,
    aspm := false, widthAt := 0, txOctets := 0, rxOctets := 0 }

/-- No update open. -/
def UpdateSt.init : UpdateSt :=
  { phase := 0, busy := false, result := 0, target := 0, offset := 0, window := .empty, abortWaiting := false,
    programmed := 0, devices := [] }

/-- A blank store in both flash devices. -/
def Nvm.init : Nvm :=
  { mirror := true, sb0 := [], sb1 := [], found := [], active := none, journal := [], writing := [], nextSeq := 1, usedPages := 0,
    jrnPos := 0, jrnMap := .empty, fw := .empty, bases := .empty, base := none, lastReplayed := 0, flashFails := [0, 0], compacting := false,
    compactSeq := 0, compactFailed := false, compactToken := none, eraseBase := [0, 0], eraseJournal := .empty,
    compactAsked := false, bootSkewed := none, refreshedAt := 0, upd := UpdateSt.init }

/-- An unbound mailbox channel. -/
def MbxSt.init : MbxSt :=
  { sender := 0, receiver := 0, vector := 0, data := [], full := false, clearedAt := none, overrun := false }

/-- The management complex before its power-on reset ends. -/
def Mgmt.init : Mgmt :=
  { stage := .rom, released := false, oscRunning := false, fwRuns := false, bootSel := 0, straps := 0, fwSlot := 0, baseSlot := 0,
    baseOwner := false, fwVersion := 0, fwSvn := 0, fusedMin := 0, fwHash := zeros 32, raiseMinRun := 0,
    fwRaiseMin := false, bootMs := 0, bootAt := 0, settled := [], updateOpen := false, mbx := .empty, eid := none,
    receiver := none, unacked := [], spdmDoe := ⟨0⟩, spdmMctp := ⟨0⟩, serial := 0, ownerHash := zeros 32 }

/-- A unit IN_SERVICE. -/
def UnitSt.init : UnitSt :=
  { state := .inService, reason := 0, role := none, fault := false, token := none, fence := 0, since := 0 }

/-- The event recorder, empty. -/
def Recorder.init : Recorder :=
  { ring := [], region := [], nextSeq := 1, reservedEnd := 0, spent := .empty, refillAt := .empty, suppressed := .empty, cfg := [],
    stopped := false, frozen := false, flashOk := false, nonce := 0, alert := false, selValid := false,
    selBusy := false, selSeq := 0, selSrc := 0, copy := none, clearKeys := [], fatal := false, fatalCause := 0,
    records := [], openHwm := 0 }

/-- Sensors that have not been read. -/
def Sensors.init : Sensors := { temps := [], railMv := [], railCurrent := [], powerDeciW := 0 }

/-- Telemetry, empty. -/
def Telemetry.init : Telemetry :=
  { ring := [], nextSeq := 0, sel := none, sramCe := 0, hbmCe := 0, uncorrected := 0,
    rates := .empty, lastAt := 0, sensors := Sensors.init }

/-- An island whose PLLs are unlocked. -/
def IslandSt.init : IslandSt :=
  { lockA := false, lockB := false, selB := false, safe := false, forced := false, switching := false, hw := false,
    toSafe := false, target := false, since := 0, lossOfEdges := false, standby := none, mhz := 0, cfgDiv := 0 }

/-- Clocks before the crystal is trusted. -/
def Clocks.init : Clocks :=
  { xtalRunning := false, onRing := false, ethref0 := false, ethref1 := false, tableApplied := false,
    islands := .empty }

/-- A power-on reset in force (R808). -/
def ResetSt.init : ResetSt :=
  { held := true, cause := 0, fromFatal := false, warmCount := 0, warmAt := none }

/-- Power good, VDD_CORE at its reset voltage (R809); the fused minimum is assumption 6. -/
def PowerSt.init : PowerSt :=
  { pwrOk := true, avsOk := false, avsFails := 0, mv := 800, minMv := 680, throttled := false, tripped := false,
    tjMax := 0, tjSensor := 0, tjHwm := 0, deciW := 0, avsAt := 0, hotAt := 0 }

/-- The test access port in Test-Logic-Reset: IDCODE selected (R820, R821). -/
def Tap.init : Tap := { ir := .idcode, preloaded := false }

/-- The units that reset OUT_OF_SERVICE: spares and every lane's port (R320, R415, R583, R584). They are absent
from the table and `svcDefault` of Machine/Ops.lean names them. -/
def svcInit : Table UnitSt := .empty

end Sys2Proof.Machine
end

