-- ==== Sys2Proof/Machine/State.lean ====
section
/-! DEFINITION. The state of the FZ9640 as plain data, its state after reset, and the reasons for which a command
stops. -/

namespace Sys2Proof.Machine

/-- The whole machine. `pending` is the queue of commands, first in first out. `free` counts the draws of free
values (the model's own; assumption 3). `assured` is false once the spec assures no rule of the device (R782,
R822). `out` is everything that has left the block, in order. `nextFrame` numbers frames (the model's own). -/
@[ext]
structure State where
  pending : List Instr
  free : Nat
  assured : Bool
  out : List Out
  nextFrame : Nat
  regs : RegFile
  ctr : Counters
  coh : Coherent
  snap : Snapshot
  tb : TimeBase
  stp : Stamping
  ldg : Ledger
  mrg : Deckle
  rel : Release
  ports : Table PortSt
  lanes : Table LaneSt
  slices : Table SliceSt
  flow : Flow
  tm : Traffic
  eng : Engines
  hif : HostLink
  qm : Queues
  mgt : Mgmt
  nvm : Nvm
  evr : Recorder
  tel : Telemetry
  clk : Clocks
  pwr : PowerSt
  rst : ResetSt
  svc : Table UnitSt
  tap : Tap
  deriving DecidableEq, Repr

/-- Reasons for which a command stops the block. -/
inductive Fault where
  /-- Raised by every command but a power-on reset and the test access port's once no rule of the manual is assured
  (R782: a clock table that breaks R781; R822: EXTEST and its kin took effect). Safe: the spec gives no behaviour. -/
  | rulesSuspended
  /-- Raised by every command but a power-on reset and the test access port's in boot mode FACTORY_TEST, in
  which the spec says that no other behaviour can be relied on (R684). Safe. -/
  | factoryTest
  deriving DecidableEq, Repr

/-- Reasons for which a command has no meaning. -/
inductive Refusal where
  /-- Raised by the arm of a command whose meaning is not written yet, naming it. Safe. -/
  | notModelled (mnemonic : String)
  deriving DecidableEq, Repr

/-- The machine in its power-on reset (R793), before the reset is released. -/
def State.reset : State :=
  { pending := [], free := 0, assured := true, out := [], nextFrame := 0, regs := RegFile.init,
    ctr := Counters.init, coh := Coherent.init, snap := Snapshot.init, tb := TimeBase.init, stp := Stamping.init,
    ldg := Ledger.init, mrg := Deckle.init, rel := Release.init, ports := .empty, lanes := .empty,
    slices := .empty, flow := Flow.init, tm := Traffic.init, eng := Engines.init, hif := HostLink.init,
    qm := Queues.init, mgt := Mgmt.init, nvm := Nvm.init, evr := Recorder.init, tel := Telemetry.init,
    clk := Clocks.init, pwr := PowerSt.init, rst := ResetSt.init, svc := svcInit, tap := Tap.init }

end Sys2Proof.Machine
end

