-- ==== Sys2Proof/Machine/Ops.lean ====
section
/-! DEFINITION. The named operations over the state that every family uses: time, registers, service states,
ports, slices, outputs and free values. -/

namespace Sys2Proof.Machine

/-- The outcome of a command. -/
abbrev Res := Host.Outcome State Fault Refusal

/-! ### Time -/

/-- The time base as a full stamp (R74). -/
def State.now (s : State) : Stamp := s.tb.time / 65536

/-- A full stamp in host layout: fraction, nanoseconds, seconds, little-endian (R75). -/
def stampLe (t : Stamp) : Bytes := le 2 t ++ le 4 (t / 65536 % 1000000000) ++ le 6 (t / 65536 / 1000000000)

/-- A full stamp as a hash input: seconds, nanoseconds, fraction, big-endian. -/
def stampBe (t : Stamp) : Bytes := be 6 (t / 65536 / 1000000000) ++ be 4 (t / 65536 % 1000000000) ++ be 2 t

/-- The short stamp of a full stamp (R74): nanoseconds modulo 2^48, then the fraction. -/
def shortStamp (t : Stamp) : Nat := t % 2 ^ 64

/-- The full stamp nearest a reference whose short stamp is given (R76). -/
def fullStamp (short : Nat) (ref : Stamp) : Stamp :=
  let d := signed 64 ((short + 2 ^ 64 - ref % 2 ^ 64) % 2 ^ 64)
  ((ref : Int) + d).toNat

/-- The nominal increment in units of 2^-32 ns (R70). -/
def nominal : Int := 0xA0000000

/-- A new increment, for a frequency estimate and a slew, announced to the port dies; it takes effect 1 µs later (R143). -/
def State.setIncr (s : State) (freq slew left : Int) : State :=
  let incr := (nominal + freq + slew).toNat
  let last := s.tb.plan.getLast?.getD ⟨s.now, s.tb.incr, s.tb.slewNow⟩
  { s with tb := { s.tb with
    freq, slew, phaseLeft := left
    plan := if last.incr = incr ∧ last.slew = slew then s.tb.plan else s.tb.plan ++ [⟨s.now + 65536000, incr, slew⟩] } }

/-- The increments announced for now or earlier put in effect. -/
def State.takePlan (s : State) : State :=
  match (s.tb.plan.filter fun p => decide (p.at_ ≤ s.now)).getLast? with
  | some p => { s with tb := { s.tb with
      incr := p.incr, slewNow := p.slew, plan := s.tb.plan.filter fun p => decide (s.now < p.at_) } }
  | none => s

/-! ### Registers -/

/-- The stored word of a register, in effect now. -/
def State.reg (s : State) (a : Nat) : Nat := (s.regs.cells.getD a 0).toNat

/-- A stored field, in effect now. -/
def State.fld (s : State) (f : FieldRef) : Nat := getBits (s.reg f.addr) f.lo f.width

/-- The bits that a field takes in its register. -/
def RegField.mask (f : RegField) : Nat := (2 ^ f.width - 1) * 2 ^ f.lo

/-- The bits of a register that belong to fields of a change class. -/
def clsMask (c : Cls) (a : Nat) : Nat :=
  match findRow regTable a with
  | some (r, _) => (r.fields.filter fun f => decide (f.cls = c)).foldl (fun m f => m + f.mask) 0
  | none => 0

/-- A word with the bits of a mask taken from another. -/
def mergeBits (old new mask : Nat) : Nat := old - (old &&& mask) + (new &&& mask)

/-- A value as it was for frames with a governing stamp (R25): of the commits with a later T_c, the earliest that replaced it
kept what it replaced. `gens` is newest first. -/
def valueBefore {α : Type} (gens : List RegGen) (t : Stamp) (old : RegGen → Option α) (v : α) : α :=
  gens.foldl (fun v g => if t < g.tc then (old g).getD v else v) v

/-- The word of an S-class register that governs a frame with a governing stamp (R25): armed values from T_c on, and
for a frame stamped before the T_c of a commit the values before that commit. -/
def State.regAt (s : State) (t : Stamp) (a : Nat) : Nat :=
  if s.coh.phase = .armed ∧ s.coh.tc ≤ t then
    match s.regs.armed.get? a with
    | some w => mergeBits (s.reg a) w.toNat (clsMask .staged a)
    | none => s.reg a
  else if t < s.coh.effTc then
    match valueBefore s.regs.hist t (fun g => (g.cells.get? a).map some) none with
    | some w => mergeBits (s.reg a) w.toNat (clsMask .staged a)
    | none => s.reg a
  else s.reg a

/-- An S-class field as it governs a frame with a governing stamp. -/
def State.fldAt (s : State) (t : Stamp) (f : FieldRef) : Nat := getBits (s.regAt t f.addr) f.lo f.width

/-- A table of words with one set, 0 being unlisted. -/
def setCell (t : Table Word) (a : Nat) (w : Word) : Table Word := if w = 0 then t.erase a else t.set a w

/-- The state with a stored register set. -/
def State.setReg (s : State) (a v : Nat) : State :=
  { s with regs := { s.regs with cells := setCell s.regs.cells a (BitVec.ofNat 32 v) } }

/-- The state with a stored field set. -/
def State.setFld (s : State) (f : FieldRef) (v : Nat) : State := s.setReg f.addr (putBits (s.reg f.addr) f.lo f.width v)

/-- Staged words put in effect in the fields of a class. -/
def State.applyWords (s : State) (c : Cls) (t : Table Word) : State :=
  t.entries.foldl (fun (s : State) e => s.setReg e.1 (mergeBits (s.reg e.1) e.2.toNat (clsMask c e.1))) s

/-- A value held at the greatest that a field of a width holds (assumption 100: the spec says so of
`GLB_BCAST_STATUS.REJECTED` alone). -/
def saturate (width n : Nat) : Nat := min n (2 ^ width - 1)

/-- The key of a counter that is a field of a register. -/
def FieldRef.key (f : FieldRef) : Nat := f.addr * 32 + f.lo

/-- A counter that is a field of a register, increased; an increment that belongs after T_s of an accepted snapshot goes to its
side accumulator (R36, R37). -/
def State.bumpAt (s : State) (f : FieldRef) (n : Nat) (t : Stamp) : State :=
  if s.snap.phase = .armed ∧ s.snap.ts ≤ t then
    { s with ctr := { s.ctr with fieldSide := s.ctr.fieldSide.modify f.key 0 (· + n) } }
  else s.setFld f (saturate f.width (s.fld f + n))

/-- The same for something no frame caused (R36). -/
def State.bump (s : State) (f : FieldRef) (n : Nat) : State := s.bumpAt f n s.now

/-- The epoch of a frame with a governing stamp (R25). -/
def State.epochAt (s : State) (t : Stamp) : Nat :=
  if s.coh.phase = .armed ∧ s.coh.tc ≤ t then s.coh.assigned
  else if t < s.coh.effTc then valueBefore s.regs.hist t (fun g => some g.epoch) s.coh.epoch
  else s.coh.epoch

/-! ### L-class fields (R15) -/

/-- The point in the order of L-class writes at which a packet or transaction enters a block now. -/
def State.liveMark (s : State) : Nat := s.regs.lives.length

/-- The point at which something entered a block at a time: after every write completed by then. -/
def State.liveMarkAt (s : State) (t : Stamp) : Nat := (s.regs.lives.filter fun w => decide (w.at_ ≤ t)).length

/-- An L-class field as it stood when a packet or transaction entered its block: the earliest later write of the register kept
what it replaced. -/
def State.fldSince (s : State) (mark : Nat) (f : FieldRef) : Nat :=
  let later := s.regs.lives.take (s.regs.lives.length - mark)
  let w := later.foldl (fun (v : Option Word) (x : LiveWrite) => if x.addr = f.addr then some x.old else v) none
  match w with
  | some w => getBits (mergeBits (s.reg f.addr) w.toNat (clsMask .live f.addr)) f.lo f.width
  | none => s.fld f

/-- The bank tag of a frame with a governing stamp (R30). -/
def State.bankAt (s : State) (t : Stamp) : Bool :=
  if s.coh.phase = .armed ∧ s.coh.tc ≤ t then !s.coh.bankTag
  else if t < s.coh.effTc then !s.coh.bankTag
  else s.coh.bankTag

/-! ### Counters -/

/-- A 64-bit counter increased by `n`; an increment that belongs after T_s of an accepted snapshot goes to the side
accumulator (R36, R37). -/
def State.count (s : State) (a n : Nat) (t : Stamp) : State :=
  if s.snap.phase = .armed ∧ s.snap.ts ≤ t then
    { s with ctr := { s.ctr with side := s.ctr.side.set a (s.ctr.side.getD a 0 + BitVec.ofNat 64 n) } }
  else { s with ctr := { s.ctr with value := s.ctr.value.set a (s.ctr.value.getD a 0 + BitVec.ofNat 64 n) } }

/-- A counter increased by 1 for something no frame caused (R36). -/
def State.count1 (s : State) (a : Nat) : State := s.count a 1 s.now

/-- A PIPE counter pair increased (R438), diverted as R37 states. -/
def State.countPair (s : State) (slice idx bytes : Nat) (t : Stamp) : State :=
  let k := slice * 0x100000 + idx
  if s.snap.phase = .armed ∧ s.snap.ts ≤ t then
    let p := s.ctr.pairSide.getD k PairCtr.init
    { s with ctr := { s.ctr with pairSide := s.ctr.pairSide.set k ⟨p.pkts + 1, p.bytes + BitVec.ofNat 64 bytes⟩ } }
  else
    let p := s.ctr.pair.getD k PairCtr.init
    { s with ctr := { s.ctr with pair := s.ctr.pair.set k ⟨p.pkts + 1, p.bytes + BitVec.ofNat 64 bytes⟩ } }

/-! ### Outputs and free values -/

/-- The state with something sent after all that was sent before. -/
def State.emit (s : State) (o : Out) : State := { s with out := s.out ++ [o] }

/-- A free number below a bound, and the state that has drawn it. -/
def State.draw (s : State) (bound : Nat) : Nat × State :=
  (Config.freeNat s.free % bound, { s with free := s.free + 1 })

/-- `n` free bytes, and the state that has drawn them. -/
def State.drawBytes (s : State) (n : Nat) : Bytes × State :=
  let b := Config.freeBytes s.free n
  (b.take n ++ zeros (n - b.length), { s with free := s.free + 1 })

/-! ### Units and service states -/

/-- The number of a unit kind (R748). -/
def kindCode : UnitKind → Nat
  | .port => 0x00
  | .slice => 0x01
  | .cryEngine => 0x02
  | .stoEngine => 0x03
  | .signer => 0x04
  | .parseLane => 0x10
  | .sm3Engine => 0x11
  | .builderSide => 0x12
  | .deckleSide => 0x13
  | .flash => 0x14

/-- The key of a unit in the table of service states: kind, then the UNIT field of an event entry (R756). -/
def unitKey (k : UnitKind) (slice unit : Nat) : Nat := kindCode k * 65536 + slice * 4096 + unit

/-- How many units a kind has, in one slice for lanes and SM3 engines. -/
def kindUnits : UnitKind → Nat
  | .port => 96
  | .slice => 8
  | .cryEngine => 34
  | .stoEngine => 17
  | .signer => 3
  | .parseLane => 5
  | .sm3Engine => 11
  | .builderSide => 2
  | .deckleSide => 2
  | .flash => 2

/-- The first spare of a kind, where its reset leaves one OUT_OF_SERVICE (R265, R415, R583, R584). -/
def kindSpare : UnitKind → Nat
  | .cryEngine => 32
  | .stoEngine => 16
  | .signer => 2
  | .parseLane => 4
  | .sm3Engine => 10
  | .port | .slice | .builderSide | .deckleSide | .flash => 96

/-- A unit's state at reset: spares and ports OUT_OF_SERVICE, the rest IN_SERVICE. -/
def svcDefault (k : UnitKind) (unit : Nat) : UnitSt :=
  if k = .port then { UnitSt.init with state := .outOfService }
  else if kindSpare k ≤ unit then { UnitSt.init with state := .outOfService, reason := 6 }
  else UnitSt.init

/-- A unit's service state. -/
def State.unit (s : State) (k : UnitKind) (slice n : Nat) : UnitSt :=
  s.svc.getD (unitKey k slice n) (svcDefault k n)

/-- The state with a unit's service state replaced. -/
def State.setUnit (s : State) (k : UnitKind) (slice n : Nat) (u : UnitSt) : State :=
  { s with svc := s.svc.set (unitKey k slice n) u }

/-- A port has brought its link up, or been IN_SERVICE for 1 s (R687). -/
def State.settlePort (s : State) (p : Nat) : State :=
  { s with mgt := { s.mgt with settled := if p ∈ s.mgt.settled then s.mgt.settled else p :: s.mgt.settled } }

/-- The encoding of a service state (R265). -/
def Service.code : Service → Nat
  | .inService => 0
  | .draining => 1
  | .outOfService => 2
  | .testing => 3
  | .rejoining => 4

/-- Whether a unit is IN_SERVICE. -/
def State.up (s : State) (k : UnitKind) (slice n : Nat) : Bool := decide ((s.unit k slice n).state = .inService)

/-- Whether a unit works on what it holds: IN_SERVICE or DRAINING (R746). -/
def State.working (s : State) (k : UnitKind) (slice n : Nat) : Bool :=
  decide ((s.unit k slice n).state = .inService ∨ (s.unit k slice n).state = .draining)

/-- The service states of units `0 .. n-1` of a kind, three bits each. -/
def State.svcBits (s : State) (k : UnitKind) (slice lo n : Nat) : Nat :=
  (List.range n).foldl (fun w i => w + (s.unit k slice (lo + i)).state.code * 2 ^ (3 * i)) 0

/-! ### Ports and slices -/

/-- A port's state. -/
def State.port (s : State) (p : Nat) : PortSt := s.ports.getD p PortSt.init

/-- The state with a port changed. -/
def State.modPort (s : State) (p : Nat) (f : PortSt → PortSt) : State :=
  { s with ports := s.ports.set p (f (s.port p)) }

/-- A slice's state. -/
def State.slice (s : State) (n : Nat) : SliceSt := s.slices.getD n SliceSt.init

/-- The state with a slice changed. -/
def State.modSlice (s : State) (n : Nat) (f : SliceSt → SliceSt) : State :=
  { s with slices := s.slices.set n (f (s.slice n)) }

/-- A slice's tables. -/
def State.tabs (s : State) (n : Nat) : SliceTables := s.flow.slices.getD n SliceTables.init

/-- The state with a slice's tables changed. -/
def State.modTabs (s : State) (n : Nat) (f : SliceTables → SliceTables) : State :=
  { s with flow := { s.flow with slices := s.flow.slices.set n (f (s.tabs n)) } }

/-- The width of the port that a lane's `PORT_MODE.WIDTH` names (R366). -/
def widthOf (code : Nat) : Nat :=
  match code with
  | 1 => 1
  | 2 => 2
  | 3 => 4
  | 4 => 8
  | _ => 0

/-- Whether a port number is configured (R839). -/
def State.configured (s : State) (p : Nat) : Bool := decide (p < 96 ∧ s.fld (F.portMode_width p) ≠ 0)

/-- The configured ports, ascending. -/
def State.portList (s : State) : List Nat := (List.range 96).filter s.configured

/-- A port's lanes. -/
def State.lanesOf (s : State) (p : Nat) : Nat := widthOf (s.fld (F.portMode_width p))

/-- A lane rate in Gb/s of MAC data (R319): 10G, 25G, 50G, 100G, 200G. -/
def rateGbps (i : Nat) : Nat :=
  match i with
  | 0 => 10
  | 1 => 25
  | 2 => 50
  | 3 => 100
  | 4 => 200
  | _ => 0

/-- A port's speed in Gb/s. -/
def State.speed (s : State) (p : Nat) : Nat := s.lanesOf p * rateGbps (s.fld (F.portMode_laneRate p))

/-- The time that a number of bits takes at a speed in Gb/s, in stamp units, rounded up. -/
def bitTime (bits gbps : Nat) : Nat := if gbps = 0 then 0 else ceilDiv (bits * 65536) gbps

/-- The slice of a port or lane (*Port complex*). -/
def sliceOf (p : Nat) : Nat := p / 12

/-- The modes of R319: width, lane rate, FEC. -/
def validMode (w rate fec : Nat) : Bool :=
  decide ((w, rate, fec) ∈ [(1, 0, 0), (1, 1, 1), (1, 1, 0), (1, 2, 2), (3, 1, 1), (2, 2, 2), (1, 3, 2), (3, 2, 2),
    (2, 3, 2), (1, 4, 2), (4, 2, 2), (3, 3, 2), (2, 4, 2), (4, 3, 2), (3, 4, 2), (4, 4, 2)])

/-- R317, R319, R327: whether a configured port's mode is valid and its lanes lie in one slice. -/
def State.modeOk (s : State) (p : Nat) : Bool :=
  let w := s.lanesOf p
  decide (w ≠ 0) && decide (p % w = 0) && decide (sliceOf p = sliceOf (p + w - 1)) &&
    validMode (s.fld (F.portMode_width p)) (s.fld (F.portMode_laneRate p)) (s.fld (F.portMode_fec p)) &&
    !(decide (s.fld (F.portMode_module p) = 1) &&
      (decide (s.fld (F.portMode_an p) = 1) || decide (s.fld (F.portMode_lt p) = 1)))

/-- Whether a port's lanes overlap those of another configured port (R321). -/
def State.modeOverlap (s : State) (p : Nat) : Bool :=
  s.portList.any fun q => decide (q ≠ p ∧ q < p + s.lanesOf p ∧ p < q + s.lanesOf q)

/-- A port's progress front (R23). -/
def State.front (s : State) (p : Nat) : Stamp := s.ldg.fronts.getD p 0

/-- A port's progress front as the device goes by it: that of a slice that is not IN_SERVICE advances with the time base
(R753). -/
def State.portFront (s : State) (p : Nat) : Stamp := if s.up .slice 0 (sliceOf p) then s.front p else s.now

/-- A port's progress front advanced, never back. -/
def State.advanceFront (s : State) (p : Nat) (t : Stamp) : State :=
  { s with ldg := { s.ldg with fronts := s.ldg.fronts.set p (max (s.front p) t) } }

/-- The injection front of every slice (R204): an injection stamp is the time at slice entry (R24), so no frame still to
enter can carry an earlier one (assumption 15). -/
def State.injFront (s : State) : Stamp := s.now

/-! ### Counters of what no command carries -/

/-- The counters of what no command carries: octets of the host link, whose framing the spec does not give, and FEC codewords and
symbols. How far they have counted since they were looked at last is free (assumption 49). -/
def lineCounter (a : Nat) : Bool :=
  decide (a = C.hifTxOctets ∨ a = C.hifRxOctets) ||
    match findCtr ctrTable a with
    | some c => decide (c.base = C.portFecCorrected ∨ c.base = C.portFecUncorrected ∨ c.base = C.portFecSymbols)
    | none => false

/-- Whether what such a counter counts can have come: the host link is up; the port is in service with an FEC, and for
`PORT_FEC_SYMBOLS` the lane is one of its own. -/
def State.lineRuns (s : State) (a : Nat) : Bool :=
  if a = C.hifTxOctets ∨ a = C.hifRxOctets then s.hif.dlUp || decide (0 < s.hif.txOctets + s.hif.rxOctets)
  else
    let p := (a - 0x1000000) / 0x10000
    let off := a % 0x10000
    s.configured p && s.working .port 0 p && decide (s.fld (F.portMode_fec p) ≠ 0) &&
      decide (off < 0x1200 ∨ (off - 0x1200) / 8 < s.lanesOf p)

/-- The payload that a counter of the host link's octets is yet to take up. -/
def State.linkOctets (s : State) (a : Nat) : Nat :=
  if a = C.hifTxOctets then s.hif.txOctets else if a = C.hifRxOctets then s.hif.rxOctets else 0

/-- A counter as it stands once it is looked at: one of what no command carries has counted on. The host link's have counted the
payload of requests and completions, and what besides it crossed the link. -/
def State.settleLine (s : State) (a : Nat) : State :=
  if lineCounter a && s.lineRuns a then
    { s with
      free := s.free + 1
      ctr := { s.ctr with
        value := s.ctr.value.set a (s.ctr.value.getD a 0 + BitVec.ofNat 64 (Config.lineCount s.free a + s.linkOctets a)) }
      hif := { s.hif with
        txOctets := if a = C.hifTxOctets then 0 else s.hif.txOctets
        rxOctets := if a = C.hifRxOctets then 0 else s.hif.rxOctets } }
  else s

/-- The counters of what no command carries that a port has. -/
def portLines (p : Nat) : List Nat :=
  [C.portFecCorrected + p * 0x10000, C.portFecUncorrected + p * 0x10000] ++
    (List.range 8).map fun l => C.portFecSymbols + p * 0x10000 + l * 8

/-- Those of a port as they stand when it leaves service. -/
def State.settlePortLines (s : State) (p : Nat) : State := (portLines p).foldl (fun (s : State) a => s.settleLine a) s

/-! ### Stamping latencies -/

/-- `n` symbols at a lane rate, in stamp units, from the exact symbol rate (assumption 9). -/
def symTime (rate n : Nat) : Nat :=
  match rate with
  | 0 => n * 65536 * 16 / 165
  | 1 => n * 65536 * 32 / 825
  | 2 => n * 65536 * 16 / 425
  | 3 => n * 65536 * 8 / 425
  | _ => n * 65536 * 4 / 425

/-- Calibration of a port die. -/
def State.die (s : State) (d : Nat) : DieCal := s.stp.dies.getD d DieCal.init

/-- The port die of a lane (*Port complex*). -/
def dieOf (lane : Nat) : Nat := lane / 24

/-- The state with a port die changed. -/
def State.modDie (s : State) (d : Nat) (f : DieCal → DieCal) : State :=
  { s with stp := { s.stp with dies := s.stp.dies.set d (f (s.die d)) } }

/-- The time copy of a port die as a full stamp (R143). -/
def State.copyNow (s : State) (d : Nat) : Stamp := (s.die d).copy / 65536

/-- The granularity of t_latch and t_launch, 0.25 ns. -/
def granule : Nat := 16384

/-- Whether a die's time copy has read a value that a t_latch is taken to be (R139): to 0.25 ns, and not above what the copy
reads, or, before a step, had come to read. -/
def State.latched (s : State) (d steps : Nat) (t : Stamp) : Bool :=
  decide (t % granule = 0) && decide (t ≤ if steps = 0 then s.copyNow d else s.stp.peak)

/-- The symbols of a word at a lane rate (*Lane rates and what is removed*). -/
def wordSymbols (rate : Nat) : Nat :=
  match rate with
  | 0 => 32
  | 1 => 40
  | _ => 64

/-- The time from the commit point of a frame to the load edge of its word at a lane rate, in stamp units: constant in words
(R142). -/
def State.pathTime (s : State) (rate : Nat) : Nat := symTime rate (s.stp.pathWords.getD rate 0 * wordSymbols rate)

/-- Whether a frame committed now to a lane at a rate has a t_launch (R141, R142): a reading of the die's time copy to 0.25 ns, at
the load edge of the word that the path's length puts behind the one in which the commit falls. -/
def State.launchable (s : State) (d rate : Nat) (t : Stamp) : Bool :=
  decide (t % granule = 0) && decide (s.copyNow d + s.pathTime rate ≤ t + granule) &&
    decide (t ≤ s.copyNow d + s.pathTime rate + symTime rate (wordSymbols rate) + granule)

/-- D_rx or D_tx of a lane at a rate under calibration values (R147), in stamp units. -/
def State.latOf (s : State) (v : CalVals) (tx : Bool) (lane rate : Nat) : Int :=
  let f := if tx then s.stp.factoryTx else s.stp.factoryRx
  (f.getD (lane * 8 + rate) 0 : Int) + (if tx then v.tx else v.rx).getD rate 0 * 64

/-- D_rx or D_tx of a lane at a rate as applied now. -/
def State.laneLat (s : State) (tx : Bool) (lane rate : Nat) : Int := s.latOf (s.die (dieOf lane)).applied tx lane rate

/-- The calibration values of a port die in use in a Ream (R150). -/
def State.calAt (s : State) (d ream : Nat) : CalVals :=
  match (s.stp.cals.getD d []).find? fun e => decide (e.1 ≤ ream) with
  | some e => e.2
  | none => CalVals.init

/-- A port's lane rate index. -/
def State.rateOf (s : State) (p : Nat) : Nat := s.fld (F.portMode_laneRate p)

/-- The port whose lanes hold a lane. -/
def State.portOfLane (s : State) (lane : Nat) : Option Nat :=
  s.portList.find? fun p => decide (p ≤ lane ∧ lane < p + s.lanesOf p)

/-- The latency of a lane at the rate of its port, 0 for a lane of no configured port (R174). -/
def State.laneLatNow (s : State) (tx : Bool) (lane : Nat) : Int :=
  match s.portOfLane lane with
  | some p => s.laneLat tx lane (s.rateOf p)
  | none => 0

/-- The symbol index of a bit position (R140): two bits a symbol on PAM4 rates. -/
def symbolOf (rate bit : Nat) : Nat := if 2 ≤ rate then bit / 2 else bit

/-- The ingress stamp of a word latched in a Ream (R139, R150). -/
def State.ingressStamp (s : State) (ream rate lane : Nat) (tLatch : Stamp) (bit : Nat) : Stamp :=
  ((tLatch : Int) + symTime rate (symbolOf rate bit) - s.latOf (s.calAt (dieOf lane) ream) false lane rate).toNat

/-- The egress stamp (R141) of a frame whose SFD begins in a symbol of the word launched at `tLaunch` on a lane. -/
def State.egressStamp (s : State) (rate lane : Nat) (tLaunch : Stamp) (symbol : Nat) : Stamp :=
  ((tLaunch : Int) + symTime rate symbol + s.laneLat true lane rate).toNat

/-- The latency from the commit point to the ball of a port (R142, R316), in ns. -/
def State.leadNs (s : State) (p : Nat) : Nat :=
  let r := s.rateOf p
  min 4095 (ceilDiv ((s.pathTime r : Int) + s.laneLat true p r).toNat 65536)

/-- Cable delays of a port as configured or measured (R157 to R160), in units of 2^-8 ns: ingress and egress. -/
def State.cableNow (s : State) (p : Nat) : Nat × Nat :=
  let c := s.stp.cables.getD p CableSt.init
  let adj := signed 16 (s.fld (F.stpCableAdj_adj p))
  if s.fld (F.stpPortCfg_cableSrc p) = 1 ∧ c.valid then
    (((c.mean : Int) + adj).toNat, ((c.mean : Int) - adj).toNat)
  else (s.fld (F.stpCableRx_delay p), s.fld (F.stpCableTx_delay p))

/-- Cable delays of a port in effect for a Ream (R159), newest first. -/
def State.cableAt (s : State) (p ream : Nat) : Nat × Nat :=
  match (s.stp.delays.getD p []).find? fun e => decide (e.1 ≤ ream) with
  | some (_, rx, tx) => (rx, tx)
  | none => (0, 0)

/-! ### Functions -/

/-- A function's state. -/
def State.fn (s : State) (f : Nat) : FnSt := s.qm.fns.getD f FnSt.init

/-- The state with a function changed. -/
def State.modFn (s : State) (f : Nat) (g : FnSt → FnSt) : State :=
  { s with qm := { s.qm with fns := s.qm.fns.set f (g (s.fn f)) } }

/-- The state with the queue structures changed. -/
def State.modQm (s : State) (g : Queues → Queues) : State := { s with qm := g s.qm }

/-- The state with a work queue changed, if it exists. -/
def State.modWq (s : State) (w : Nat) (g : WqSt → WqSt) : State :=
  match s.qm.wqs.get? w with
  | some q => { s with qm := { s.qm with wqs := s.qm.wqs.set w (g q) } }
  | none => s

/-- The state with a notification ring changed, if it exists. -/
def State.modNr (s : State) (n : Nat) (g : NrSt → NrSt) : State :=
  match s.qm.nrs.get? n with
  | some q => { s with qm := { s.qm with nrs := s.qm.nrs.set n (g q) } }
  | none => s

/-! ### Guards (assumption 8) -/

/-- A command that the block serves whenever its rules are assured and it is in no power-on reset. -/
def whenLive (s : State) (k : Res) : Res :=
  if !s.assured then .fault .rulesSuspended
  else if s.rst.held then .next s
  else if s.mgt.bootSel = 2 then .fault .factoryTest
  else if s.pwr.tripped then .next s
  else k

/-- A command that the block serves while it is not FATAL either (R741 to R743). -/
def whenWorking (s : State) (k : Res) : Res := whenLive s (if s.evr.fatal then .next s else k)

/-- FATAL with its cause in the time/merge island (R744): an event of the time base and stamping, or of the Deckle. -/
def State.timeDead (s : State) : Bool :=
  s.evr.fatal && decide (s.evr.fatalCause / 4096 = 2 ∨ s.evr.fatalCause / 4096 = 7)

/-- What the time base and its outputs do of themselves, which goes on in FATAL (R744). -/
def whenTimed (s : State) (k : Res) : Res := whenLive s (if s.timeDead then .next s else k)

end Sys2Proof.Machine
end

