-- ==== Sys2Proof/Machine/View.lean ====
section
/-! DEFINITION. The read side of the register map: what RO and RC fields that State holds elsewhere read as. Stored
fields come from the register file; the two never share a bit. -/

namespace Sys2Proof.Machine

/-- The lower half of a 64-bit value. -/
def lo32 (v : Nat) : Nat := v % 2 ^ 32

/-- The upper half of a 64-bit value. -/
def hi32 (v : Nat) : Nat := v / 2 ^ 32 % 2 ^ 32

/-- A pair of fields: `x` from bit `n` on. -/
def at_ (n x : Nat) : Nat := x * 2 ^ n

/-- Bits of a list of numbers below `w`. -/
def bitsOf (w : Nat) (l : List Nat) : Nat := (List.range w).foldl (fun a i => if i ∈ l then a + 2 ^ i else a) 0

/-- The length in milliseconds of a span of stamp units, saturating at 16 bits. -/
def ageMs (now at0 : Stamp) : Nat := min 0xFFFF ((now - at0) / msStamp)

/-- Slice buffer cells held at a position, all classes (R375). -/
def SliceSt.heldAt (x : SliceSt) (pos : Nat) : Nat :=
  x.cells.entries.foldl (fun a e => if e.1 / 16 = pos then a + e.2 else a) 0

/-- Slice buffer cells in use. -/
def SliceSt.used (x : SliceSt) : Nat := x.cells.values.foldl (· + ·) 0

/-- Free slice buffer cells (R372). -/
def SliceSt.free (x : SliceSt) : Nat := 8192 - x.used

/-- The number of active roles of a slice (R380). -/
def SliceSt.active (x : SliceSt) : Nat := (x.roles.filter (· ≠ 7)).length

/-- The fragment table entries of a slice that are not deleted (R408). -/
def SliceSt.liveFrags (x : SliceSt) : Nat := (x.frags.filter (·.gone = none)).length

/-- The bank with a tag. -/
def State.bank (s : State) (tag : Bool) : Option Bank := if tag then s.flow.bank1 else s.flow.bank0

/-- The index of a context or connection handle (R543). -/
def handleIndex (h : Nat) : Nat := h % 0x80000

/-- The handle of an index with its current tag (R543). -/
def State.handleOf (s : State) (i : Nat) : Nat := i + s.eng.tags.getD i 0 % 8192 * 0x80000

/-- The connection a handle names, when it is current. -/
def State.connOf (s : State) (h : Nat) : Option Conn :=
  if s.handleOf (handleIndex h) = h then s.eng.conns.get? (handleIndex h) else none

/-- The encoding of `STO_CONN_STATE.STATE`. -/
def ConnState.code : ConnState → Nat
  | .closed => 0
  | .connecting => 1
  | .established => 2
  | .draining => 3
  | .failed => 4

/-- The encoding of a queue state (R683). -/
def QState.code : QState → Nat
  | .free => 0
  | .active => 1
  | .error => 2
  | .destroying => 3

/-- The encoding of `MGT_STATUS.STAGE` (R728). -/
def BootStage.code : BootStage → Nat
  | .rom => 0
  | .clocks => 1
  | .store => 2
  | .units => 3
  | .service => 4
  | .recovery => 5

/-- The encoding of `TB_STATE.QUALITY`. -/
def Quality.code : Quality → Nat
  | .freeRun => 0
  | .acquiring => 1
  | .locked => 2
  | .holdover => 3

/-- Roles held by engines of a kind: role `r` of `n` is at `r` unless the table says otherwise; a role held by no
engine in service is absent with value 255. -/
def roleEngine (t : Table Nat) (r : Nat) : Nat := t.getD r r

/-- The role that an engine at or above the first spare holds, the lowest, or a mark for none. -/
def spareRole (t : Table Nat) (n engine none_ : Nat) : Nat :=
  ((List.range n).find? fun r => roleEngine t r = engine).getD none_

/-- How many different engines hold roles. -/
def activeEngines (t : Table Nat) (n : Nat) : Nat :=
  (((List.range n).map (roleEngine t)).filter (· ≠ 255)).eraseDups.length

/-- Whether no spare of a kind is left: every engine above the roles is out of service by fault or holds a role. -/
def State.noSpare (s : State) (k : UnitKind) (t : Table Nat) (n : Nat) : Bool :=
  (List.range (kindUnits k)).all fun e =>
    decide (((List.range n).any fun r => roleEngine t r = e) = true ∨ (s.unit k 0 e).reason ≠ 6)

/-- Staging in use, bytes: 64-byte records, header slots of 4 KiB and root sheets (*Delivery and staging*). -/
def State.stagingBytes (s : State) : Nat :=
  s.ldg.records.length * 64 + s.ldg.headers.foldl (fun a h => a + 4096 + h.sheet.length) 0

/-- Headers that wait for a signature. -/
def State.signQueue (s : State) : Nat := (s.ldg.headers.filter fun h => !h.released).length

/-- A 128-byte event entry (R756). -/
def EvEntry.bytes (e : EvEntry) : Bytes :=
  le 8 e.seq ++ stampLe e.stamp ++ le 2 e.code ++ le 1 e.sev ++ le 1 e.cls ++ le 1 e.unitKind ++
    le 1 e.snap.length ++ le 2 e.unit ++ le 4 (min e.suppressed 0xFFFFFFFF) ++
    le 4 (b2n e.persisted + 2 * b2n e.late + 4 * b2n e.clearRec) ++ zeros 28 ++
    (e.snap.flatMap fun p => le 4 p.1 ++ le 4 p.2) ++ zeros (64 - 8 * e.snap.length)

/-- A word of a little-endian byte string. -/
def wordAt (b : Bytes) (w : Nat) : Nat := leNat (bytesAt b (4 * w) 4)

/-- The event entry that `EVR_ENTRY` shows: the ring slot live (R763) or the copy (R764). -/
def State.evrShown (s : State) : Option EvEntry :=
  if s.evr.selSrc = 0 then (if s.evr.selValid then s.evr.ring.find? (·.seq = s.evr.selSeq) else none) else s.evr.copy

/-- The queue keys of the traffic manager: port classes, merge groups, punt, crypto engines, release holding,
release copies handed off to a port, copies that an error struck (R739), WQs, storage connections. -/
def qPort (p c : Nat) : Nat := p * 16 + c
def qMerge (g : Nat) : Nat := 2000 + g
def qPunt : Nat := 2100
def qCrypto (e : Nat) : Nat := 2200 + e
def qRelease : Nat := 2300
def qHanded (p : Nat) : Nat := 2400 + p
def qStruck : Nat := 2500
def qHost (w : Nat) : Nat := 10000 + w
def qConn (c : Nat) : Nat := 1000000 + c

/-- The copies of a queue, in order. -/
def State.queue (s : State) (q : Nat) : List Copy := s.tm.queues.getD q []

/-- The frames that a slice holds or that can come back to it: entered, dealt, held, in a pass, or on their way through
the crypto complex. -/
def State.sliceFrames (s : State) (n : Nat) : List Frame :=
  let x := s.slice n
  x.admitted ++ x.injected ++ x.recirc ++ x.couch.map (·.frame) ++ x.orphans.map (·.frame) ++ x.pipe.map (·.frame) ++
    (s.tm.input.map (·.frame)).filter (·.slice = n) ++
    (((List.range 35).flatMap fun e => s.queue (qCrypto e)).filterMap fun c =>
      (s.tm.frames.get? c.frame).map (·.frame)).filter (·.slice = n)

/-- Bytes that a connection's queue holds in the storage reserve (R561, R562). -/
def State.connHeld (s : State) (c : Nat) : Nat := (s.queue (qConn c)).foldl (fun a x => a + x.len) 0

/-- The smoothed round-trip time of a connection in units of 100 ns (R584). -/
def Conn.srtt100 (c : Conn) : Nat := match c.rtt with | some (r, _) => r / (100 * nsStamp) | none => 0

/-- How many of them carry a bank tag (R31). -/
def State.inflight (s : State) (n : Nat) (tag : Bool) : Nat := ((s.sliceFrames n).filter (·.bank = tag)).length

/-- On-die cells that a queue's copies count (R507). -/
def State.queueCells (s : State) (q : Nat) : Nat := (s.queue q).foldl (fun a c => if c.spilled then a else a + c.n) 0

/-- Merge descriptors held by the Deckle. -/
def State.heldDescs (s : State) : Nat := s.mrg.groups.values.foldl (fun a g => a + g.held.length) 0

/-- A merge group's state. -/
def State.merge (s : State) (g : Nat) : MergeSt := s.mrg.groups.getD g MergeSt.init

/-- The window and member set of a merge group in effect for a Ream (R304). -/
def MergeSt.cfgAt (m : MergeSt) (ream : Nat) : Nat × List Nat :=
  match m.hist.find? fun e => decide (e.1 ≤ ream) with
  | some (_, w, ps) => (w, ps)
  | none => (0, [])

/-- The number of the Ream in progress. -/
def State.ream (s : State) : Nat := match s.ldg.cur with | some r => r.num | none => 0

/-- The members of a merge group in rank order for a Ream: ascending, turned by the Ream number (R278). -/
def rankOrder (ps : List Nat) (ream : Nat) : List Nat := ps.rotateLeft (if ps.length = 0 then 0 else ream % ps.length)

/-- Bytes of a 512-byte telemetry record selected (R771). -/
def State.telBytes (s : State) : Bytes := match s.tel.sel with | some r => r.bytes | none => []

/-- An island's clock state. -/
def State.island (s : State) (i : Nat) : IslandSt := s.clk.islands.getD i IslandSt.init

/-- Whether R803 throttles an island: CRYPTO and STORAGE (R779). -/
def throttledIsland (i : Nat) : Bool := decide (i = 15 ∨ i = 16)

/-- The function whose state a selector register shows. -/
def State.selFn (s : State) : Nat := s.fld F.qmFnSel_function

/-- RO and RC bits of the GLB, PORT and slice blocks. -/
def State.viewA (s : State) (base i j : Nat) : Nat :=
  match base with
  | 0x0 => 0x96400000
  | 0x10 => s.coh.epoch
  | 0x14 => b2n (decide (s.coh.phase = .arming)) + at_ 1 (b2n (decide (s.coh.phase = .armed))) +
      at_ 2 (b2n (!s.coh.draining.isEmpty)) + at_ 3 (b2n s.coh.reamPending)
  | 0x18 => lo32 s.coh.tc
  | 0x1C => hi32 s.coh.tc
  | 0x20 => b2n (decide (s.snap.phase = .armed)) + at_ 1 (b2n (decide (s.snap.phase = .writing))) +
      at_ 2 (b2n s.snap.clearing)
  | 0x24 => lo32 s.snap.seq
  | 0x28 => lo32 s.snap.ts
  | 0x2C => hi32 s.snap.ts
  | 0x1000008 =>
    let p := s.port i
    (s.unit .port 0 i).state.code + at_ 3 (b2n p.link) + at_ 4 (b2n p.localFault) + at_ 5 (b2n p.remoteFault) +
      at_ 6 (b2n p.modeErr) + at_ 7 (b2n p.anDone) + at_ 8 (b2n p.ltDone) + at_ 9 (b2n p.prbsErr)
  | 0x1000040 =>
    let p := s.port i
    bitsOf 8 p.pauses.keys + at_ 8 (bitsOf 8 p.holdoffs.keys) + at_ 16 (bitsOf 8 p.xoff)
  | 0x100017C => b2n (!(s.port i).saOps.isEmpty) + at_ 1 (b2n (s.port i).saErr) + at_ 2 (b2n (s.port i).mka)
  | 0x1000180 => match (s.port i).txSas.get? j with | some a => lo32 a.pn | none => 0
  | 0x1000184 => match (s.port i).txSas.get? j with | some a => hi32 a.pn | none => 0
  | 0x1000208 => at_ 4 (bitsOf 4 ((List.range 4).filter fun a => (s.port i).rxSas.has (j * 4 + a)))
  | 0x1000800 => (s.lanes.getD i LaneSt.init).status.toNat
  | 0x2000004 => (s.slice i).free
  | 0x2000008 => (s.slice i).minFree
  | 0x200000C => (s.slice i).seq % 2 ^ 32
  | 0x2000010 => ((s.slice i).roles.zipIdx.foldl (fun a e => a + at_ (3 * e.2) e.1) 0) + at_ 12 (s.slice i).active
  | 0x2000014 => s.svcBits .parseLane i 0 5
  | 0x2000018 => (s.slice i).fence % 2 ^ 32
  | 0x200001C => (s.slice i).couch.length + at_ 16 (s.slice i).couchHwm
  | 0x2000524 => (s.slice i).liveFrags + at_ 16 (s.slice i).orphans.length
  | 0x2010004 =>
    b2n s.coh.bankTag + at_ 1 (b2n (decide (i ∈ s.coh.draining))) + at_ 2 s.coh.staged +
      at_ 4 (b2n (s.bank s.coh.bankTag).isSome) + at_ 16 (if i ∈ s.coh.draining then min 0xFFFF (s.inflight i (!s.coh.bankTag)) else 0)
  | 0x2010010 => match s.bank (decide (j = 1)) with | some b => lo32 b.bankId | none => 0
  | 0x2010014 => match s.bank (decide (j = 1)) with | some b => hi32 b.bankId | none => 0
  | 0x2020004 => at_ 16 (s.tabs i).pass
  | 0x202000C => (s.tabs i).fdb.size
  | 0x2020010 => ((s.tabs i).fdb.values.filter (·.static)).length
  | 0x2020014 => (s.tabs i).rseq
  | 0x2020018 => match ((s.tabs i).log.take 65536).getLast? with | some r => r.seq | none => 0
  | 0x202001C => (s.tabs i).learnQ.length + at_ 16 (s.tabs i).learnHwm
  | 0x2020040 => (s.tabs i).lpm4.length
  | 0x2020044 => (s.tabs i).lpm6.length
  | 0x2020120 =>
    ((s.tabs i).tern.keys.filter fun r => decide (s.fld (F.fdbTcamRegion_base i j) ≤ r ∧
      r < s.fld (F.fdbTcamRegion_base i j) + s.fld (F.fdbTcamRegion_size i j))).length
  | 0x2020140 => s.flow.flow.size
  | 0x2020144 => s.flow.rseq
  | 0x2020148 => match (s.flow.log.take 0x100000).getLast? with | some r => r.seq | none => 0
  | _ => 0

/-- `STP_CAL_SET` (R170): SEQ and STALE. -/
def State.calSetView (s : State) : Nat := s.stp.calSeq % 2 ^ 31 + at_ 31 (b2n s.stp.stale)

/-- `STP_CAL_STATUS(d)` (R171): AGE_MS, REJECTS and PILOT_FAIL of a port die. -/
def State.calStatusView (s : State) (d : Nat) : Nat :=
  (match (s.die d).doneAt with | some t => ageMs s.now t | none => 0xFFFF) + at_ 16 (min 255 (s.die d).rejects) +
    at_ 24 (b2n (s.die d).pilotFail)

/-- `STP_CAL_DIE_OFS(d)` (R171): the applied offset of a port die. -/
def State.calOfsView (s : State) (d : Nat) : Nat := twos 32 (s.die d).applied.ofs

/-- `STP_CAL_DELTA(d, r)` (R172): the applied RX and TX deltas of a port die at a rate. -/
def State.calDeltaView (s : State) (d r : Nat) : Nat :=
  twos 16 ((s.die d).applied.rx.getD r 0) + at_ 16 (twos 16 ((s.die d).applied.tx.getD r 0))

/-- RO and RC bits of the TB, STP and LDG blocks. -/
def State.viewB (s : State) (base i j : Nat) : Nat :=
  match base with
  | 0x3000004 => s.tb.quality.code + (match s.tb.active with | some n => at_ 4 n + at_ 8 1 | none => 0) +
      at_ 9 (b2n s.tb.everLocked)
  | 0x3000020 => lo32 s.tb.incr
  | 0x3000024 => hi32 s.tb.incr % 256
  | 0x3000028 => twos 32 (s.tb.freq * 1000000000000 / 0xA0000000)
  | 0x300002C => twos 32 (s.tb.offset / 256)
  | 0x3000048 => s.tb.stepCount % 2 ^ 32
  | 0x3000108 =>
    let e := s.tb.srcs.getD i SrcSt.init
    b2n e.qualified + at_ 1 e.reason
  | 0x3000210 => at_ 11 (b2n (s.tb.frefs.getD i ⟨false⟩).qualified)
  | 0x3000410 => (s.tb.evt.getD i []).length
  | 0x3100004 => s.calSetView
  | 0x3100010 => s.calStatusView i
  | 0x3100020 => s.calOfsView i
  | 0x3100040 => s.calDeltaView i j
  | 0x3200010 =>
    let c := s.stp.cables.getD i CableSt.init
    c.mean % 2 ^ 24 + at_ 31 (b2n c.valid)
  | 0x3200014 => (if (s.port i).link then s.rateOf i else 15) + at_ 4 (b2n (s.stp.cables.getD i CableSt.init).inUse)
  | 0x3200018 => twos 32 (s.laneLat false i (s.rateOf i))
  | 0x320001C => twos 32 (s.laneLat true i (s.rateOf i))
  | 0x3210000 => twos 32 (s.laneLatNow false i)
  | 0x3210004 => twos 32 (s.laneLatNow true i)
  | 0x3400010 => lo32 s.ream
  | 0x3400014 => hi32 s.ream
  | 0x3400018 => lo32 s.ldg.sealedNum
  | 0x340001C => hi32 s.ldg.sealedNum
  | 0x3400020 => beNat (bytesAt s.ldg.sealedRoot (4 * i) 4)
  | 0x3400040 => b2n s.ldg.refusing + at_ 1 (b2n s.ldg.frontLate) + at_ 2 (b2n s.ldg.lastUnsigned) +
      at_ 8 (min 255 s.signQueue)
  | 0x3400044 => s.stagingBytes / 1024
  | 0x3400048 => s.ldg.stagingHwm / 1024
  | 0x3400060 => (match s.ldg.ckptAt with | some t => ageMs s.now t | none => 0xFFFF) + at_ 16 (b2n s.ldg.ckptOk0) +
      at_ 17 (b2n s.ldg.ckptOk1)
  | 0x3400064 => match s.ldg.newestCkpt with | some c => lo32 c.ream | none => 0
  | 0x3400068 => match s.ldg.newestCkpt with | some c => hi32 c.ream | none => 0
  | 0x3400070 => (s.unit .builderSide 0 0).state.code + at_ 4 (s.unit .builderSide 0 1).state.code +
      at_ 7 (b2n s.ldg.builderB)
  | 0x3400074 => s.svcBits .signer 0 0 3
  | 0x3400100 => s.svcBits .sm3Engine i 0 8
  | 0x3400104 => s.svcBits .sm3Engine i 8 3 + at_ 12 ((s.unit .sm3Engine i 10).role.getD 15)
  | 0x3400200 =>
    let r := s.ldg.sets.getD i RingSet.init
    b2n r.enabled + at_ 1 r.dest + at_ 8 r.recLog2 + at_ 16 r.hdrLog2 + at_ 21 r.vector
  | 0x340020C => (s.ldg.sets.getD i RingSet.init).recProd.toNat
  | 0x3400210 => (s.ldg.sets.getD i RingSet.init).hdrProd.toNat
  | 0x3400218 => b2n (s.ldg.sets.getD i RingSet.init).archUp + at_ 1 (b2n (s.ldg.sets.getD i RingSet.init).archErr)
  | _ => 0

/-- RO and RC bits of the MRG, REL, TM, CRY and STO blocks. -/
def State.viewC (s : State) (base i j : Nat) : Nat :=
  match base with
  | 0x3800000 => (s.unit .deckleSide 0 0).state.code + at_ 4 (s.unit .deckleSide 0 1).state.code +
      at_ 7 (b2n s.mrg.activeB) + at_ 8 (b2n s.mrg.bypass)
  | 0x3800004 => s.heldDescs
  | 0x3800008 => s.mrg.heldHwm
  | 0x3810000 => if (s.merge i).alive then 1 + at_ 1 (s.merge i).destKind + at_ 8 (s.merge i).dest else 0
  | 0x3810018 => lo32 (s.merge i).seq
  | 0x381001C => hi32 (s.merge i).seq
  | 0x3810048 => match (s.merge i).lagPort with | some p => p + at_ 7 1 | none => 0
  | 0x381004C => (rankOrder ((s.merge i).cfgAt s.ream).2 s.ream).headD 0
  | 0x3820000 => lo32 (s.mrg.fronts.getD i 0).toNat
  | 0x3820004 => hi32 (s.mrg.fronts.getD i 0).toNat
  | 0x3C10000 =>
    let r := s.rel.groups.getD i ReleaseSt.init
    if r.alive then 1 + at_ 2 r.fec + at_ 4 r.speed else 0
  | 0x3C20000 => (match s.rel.member.get? i with | some g => g + at_ 6 1 | none => 0) + at_ 4 (s.rel.align.getD i 0) +
      at_ 16 (if s.configured i then s.leadNs i else 0)
  | 0x4000004 => 0x80000 - s.tm.used
  | 0x4000008 => s.tm.minFree
  | 0x400000C => 0x2000000 - s.tm.hbmUsed
  | 0x4000200 => (s.queue qRelease).length
  | 0x4100300 => s.queueCells (qPort i j)
  | 0x4100414 =>
    let t := s.tm.ports.getD i TmPort.init
    t.entry + at_ 16 (b2n (!t.plans.isEmpty)) + at_ 17 (b2n t.oper.enable)
  | 0x5000000 => activeEngines s.eng.cryRoles 32 + at_ 6 (b2n (s.noSpare .cryEngine s.eng.cryRoles 32))
  | 0x5000010 => s.svcBits .cryEngine 0 (10 * i) (min 10 (34 - 10 * i))
  | 0x5000020 => spareRole s.eng.cryRoles 32 32 63 + at_ 8 (spareRole s.eng.cryRoles 32 33 63)
  | 0x5000024 => s.eng.ctxs.size + s.eng.conns.size
  | 0x5800000 => activeEngines s.eng.stoRoles 16 + at_ 5 (b2n (s.noSpare .stoEngine s.eng.stoRoles 16))
  | 0x5800010 => s.svcBits .stoEngine 0 (10 * i) (min 10 (17 - 10 * i))
  | 0x5800020 => (s.eng.conns.values.filter fun c => decide (c.state ≠ .closed)).length
  | 0x5800024 => s.eng.rsvUsed
  | 0x5800104 => match s.connOf (s.fld F.stoConnSel_handle) with
    | some c => c.state.code + at_ 8 c.reason + at_ 16
        ((c.outstanding.filter fun x => decide (x.err = 0)).length + (c.archOps.filter fun o => !o.failed).length)
    | none => 0
  | 0x5800108 => match s.connOf (s.fld F.stoConnSel_handle) with | some c => c.srtt100 | none => 0
  | 0x580010C => match s.connOf (s.fld F.stoConnSel_handle) with
    | some c => c.adv
    | none => 0
  | _ => 0

/-- Global queue numbers that a function holds. -/
def State.fnWqs (s : State) (f : Nat) : Nat := (s.qm.wqs.values.filter (·.fn = f)).length

/-- Notification rings that a function holds. -/
def State.fnNrs (s : State) (f : Nat) : Nat := (s.qm.nrs.values.filter (·.fn = f)).length

/-- The sum of a quota over the VFs (R623). -/
def State.vfSum (s : State) (q : FnSt → Nat) : Nat :=
  (s.qm.fns.entries.filter (·.1 ≠ 0)).foldl (fun a e => a + q e.2) 0

/-- How many WQs, NRs and contexts a function can hold: its quota, or what VF quotas leave (R544, R623). -/
def State.wqQuota (s : State) (f : Nat) : Nat := if f = 0 then min 65536 (131072 - s.vfSum (·.maxWq)) else (s.fn f).maxWq
def State.nrQuota (s : State) (f : Nat) : Nat := if f = 0 then min 65536 (65536 - s.vfSum (·.maxNr)) else (s.fn f).maxNr
def State.ctxQuota (s : State) (f : Nat) : Nat := if f = 0 then 524288 - s.vfSum (·.contexts) else (s.fn f).contexts

/-- RO and RC bits of the HIF and QM blocks. -/
def State.viewD (s : State) (base : Nat) : Nat :=
  match base with
  | 0x6000000 => b2n s.hif.ready + at_ 1 (b2n s.hif.fallback) + at_ 2 (b2n s.hif.dlUp) + at_ 3 (b2n s.hif.degraded) +
      at_ 4 s.hif.rate + at_ 8 s.hif.width + at_ 13 (b2n s.hif.flit) + at_ 16 s.hif.l0pWidth
  | 0x600000C => s.hif.reads.size + at_ 16 s.hif.quarantined.size
  | 0x6000010 => s.hif.atc.length
  | 0x6000014 => match s.hif.lastTimeout with
    | some (f, t, fetch) => f + at_ 16 t + at_ 30 (b2n fetch) + at_ 31 1
    | none => 0
  | 0x6100000 => s.qm.wqs.size
  | 0x6100004 => s.qm.nrs.size
  | 0x6100008 => s.qm.fns.values.foldl (fun a f => a + f.vectors) 0
  | 0x610000C => match s.qm.nrs.entries.find? (·.2.report) with | some e => e.1 + at_ 16 1 | none => 0
  | 0x6100104 => (s.fn s.selFn).gen.toNat + at_ 16 ((s.fn s.selFn).admin.state.code % 3) +
      at_ 18 (b2n (s.fn s.selFn).resetting)
  | 0x6100108 => s.wqQuota s.selFn
  | 0x610010C => s.fnWqs s.selFn
  | 0x6100110 => s.nrQuota s.selFn
  | 0x6100114 => s.fnNrs s.selFn
  | 0x6100118 => (s.fn s.selFn).vectors
  | 0x610011C => s.ctxQuota s.selFn
  | 0x6100204 => match s.qm.wqs.get? (s.fld F.qmWqSel_wq) with
    | some q => q.state.code + at_ 2 q.kind + at_ 4 (b2n q.suspended) + at_ 8 q.errStatus + at_ 16 q.fn
    | none => 0
  | 0x6100208 => match s.qm.wqs.get? (s.fld F.qmWqSel_wq) with | some q => q.prod.toNat | none => 0
  | 0x610020C => match s.qm.wqs.get? (s.fld F.qmWqSel_wq) with | some q => q.head.toNat | none => 0
  | 0x6100210 => match s.qm.wqs.get? (s.fld F.qmWqSel_wq) with | some q => q.localIdx + at_ 16 q.log2 | none => 0
  | 0x6100214 => match s.qm.wqs.get? (s.fld F.qmWqSel_wq) with
    | some q => (match q.nr with
        | some n => (match s.qm.nrs.get? n with | some r => r.localIdx | none => 0) + at_ 16 1
        | none => 0) + at_ 17 (b2n q.nrPending)
    | none => 0
  | 0x6100218 => match s.qm.wqs.get? (s.fld F.qmWqSel_wq) with | some q => min 32 (q.fetched + q.posted.length) | none => 0
  | 0x6100304 => match s.qm.nrs.get? (s.fld F.qmNrSel_nr) with
    | some r => 1 + at_ 1 (b2n r.armed) + at_ 2 (b2n r.overflowed) + at_ 3 (b2n r.report) + at_ 16 r.fn
    | none => 0
  | 0x6100308 => match s.qm.nrs.get? (s.fld F.qmNrSel_nr) with | some r => r.prod.toNat | none => 0
  | 0x610030C => match s.qm.nrs.get? (s.fld F.qmNrSel_nr) with | some r => r.cons.toNat | none => 0
  | 0x6100310 => match s.qm.nrs.get? (s.fld F.qmNrSel_nr) with | some r => r.vector + at_ 11 r.log2 | none => 0
  | 0x6100314 => match s.qm.nrs.get? (s.fld F.qmNrSel_nr) with | some r => r.modTimerUs + at_ 16 r.modCount | none => 0
  | _ => 0

/-- The SEQ of the last journal record written. -/
def State.lastSeq (s : State) : Nat := s.nvm.nextSeq - 1 - s.nvm.writing.length

/-- RO and RC bits of the MGT, MBX, NVM, EVR, TEL, CLK, RST and PWR blocks. -/
def State.viewE (s : State) (base i : Nat) : Nat :=
  match base with
  | 0x7000000 => s.mgt.stage.code + at_ 4 s.mgt.bootSel + at_ 6 s.mgt.fwSlot + at_ 7 s.mgt.baseSlot +
      at_ 8 (b2n s.nvm.mirror) + at_ 9 (b2n s.mgt.baseOwner)
  | 0x7000004 => s.mgt.fwVersion.toNat
  | 0x7000008 => s.mgt.fwSvn % 65536 + at_ 16 (s.mgt.fusedMin % 65536)
  | 0x700000C => s.mgt.bootMs
  | 0x7000010 => match s.mgt.eid with | some e => at_ 8 e + at_ 16 1 | none => 0
  | 0x7100044 => match s.mgt.mbx.get? i with
    | some m => b2n m.full + at_ 1 (b2n m.overrun) + at_ 2 1
    | none => 0
  | 0x7100048 => match s.mgt.mbx.get? i with | some m => m.sender + at_ 8 m.receiver + at_ 16 m.vector | none => 0
  | 0x7200000 => s.svcBits .flash 0 0 2 + at_ 6 (b2n s.nvm.compacting) + at_ 7 (s.nvm.usedPages * 100 / 262144) +
      at_ 16 (min 255 (s.coh.persistTimes.filter fun t => decide (s.now < t + secStamp)).length)
  | 0x7200004 => lo32 s.lastSeq
  | 0x7200008 => hi32 s.lastSeq
  | 0x720000C => match s.nvm.active with | some b => lo32 b.seq | none => 0
  | 0x7200010 => match s.nvm.active with | some b => hi32 b.seq | none => 0
  | 0x7200014 => s.coh.hwm
  | 0x7200108 => s.nvm.upd.offset
  | 0x720010C => s.nvm.upd.phase + at_ 2 (b2n s.nvm.upd.busy) + at_ 3 s.nvm.upd.result
  | 0x7300000 => b2n s.evr.frozen + at_ 1 (b2n s.evr.fatal) + at_ 2 (b2n s.evr.flashOk) +
      at_ 8 s.evr.records.length + at_ 16 s.evr.openHwm
  | 0x7300004 => match s.evr.ring.head? with | some e => lo32 e.seq | none => 0
  | 0x7300008 => match s.evr.ring.head? with | some e => hi32 e.seq | none => 0
  | 0x730000C => match s.evr.ring.getLast? with | some e => lo32 e.seq | none => 0
  | 0x7300010 => match s.evr.ring.getLast? with | some e => hi32 e.seq | none => 0
  | 0x7300020 => b2n s.evrShown.isSome + at_ 1 (b2n s.evr.selBusy)
  | 0x7300024 => match s.evr.region.getLast? with | some e => lo32 e.seq | none => 0
  | 0x7300028 => match s.evr.region.getLast? with | some e => hi32 e.seq | none => 0
  | 0x7300030 => lo32 s.evr.nonce.toNat
  | 0x7300034 => hi32 s.evr.nonce.toNat
  | 0x7300038 => at_ 4 (b2n s.evr.alert)
  | 0x7300100 => match s.evrShown with | some e => wordAt e.bytes i | none => 0
  | 0x7400000 => lo32 (s.tel.nextSeq - 1)
  | 0x7400004 => hi32 (s.tel.nextSeq - 1)
  | 0x7400010 => b2n s.tel.sel.isSome
  | 0x7400100 => wordAt s.telBytes i
  | 0x7500000 => b2n s.clk.xtalRunning + at_ 1 (b2n s.clk.onRing) + at_ 2 (b2n s.clk.ethref0) + at_ 3 (b2n s.clk.ethref1)
  | 0x7500100 =>
    let x := s.island i
    b2n x.lockA + at_ 1 (b2n x.lockB) + at_ 2 (b2n x.selB) + at_ 3 (b2n x.safe) + at_ 4 (b2n x.forced) +
      at_ 5 (b2n x.switching)
  | 0x7500108 =>
    let x := s.island i
    if s.pwr.throttled && throttledIsland i then x.mhz / 2 + at_ 16 (x.cfgDiv + 1) else x.mhz + at_ 16 x.cfgDiv
  | 0x7600004 => s.rst.cause + at_ 2 (b2n s.rst.fromFatal) + at_ 16 (min 0xFFFF s.rst.warmCount)
  | 0x7600008 => s.mgt.straps.toNat % 128
  | 0x7700000 => b2n s.pwr.pwrOk + at_ 1 (b2n s.pwr.avsOk) +
      at_ 2 (if s.pwr.tripped then 2 else if s.pwr.throttled then 1 else 0)
  | 0x7700004 => s.pwr.mv + at_ 16 s.pwr.minMv
  | 0x770000C => twos 16 s.pwr.tjMax + at_ 16 s.pwr.tjSensor
  | 0x7700010 => twos 16 s.pwr.tjHwm
  | 0x7700014 => s.pwr.deciW
  | _ => 0

/-- The bits of a register that the state holds outside the register file. -/
def State.viewBits (s : State) (base i j : Nat) : Nat :=
  if base < 0x3000000 then s.viewA base i j
  else if base < 0x3800000 then s.viewB base i j
  else if base < 0x6000000 then s.viewC base i j
  else if base < 0x7000000 then s.viewD base
  else s.viewE base i

/-- The stored bits of a word that reads show: those of fields that are not write-only (R11). -/
def RegRow.shown (r : RegRow) (v : Nat) : Nat :=
  r.fields.foldl (fun a f => if f.acc = .wo then a else a + getBits v f.lo f.width * 2 ^ f.lo) 0

/-- Whether a register answers for its port number (R839). -/
def State.answers (s : State) (perPort : Bool) (is : List Nat) : Bool := !perPort || s.configured (is.headD 0)

/-- The policer that `TM_POL_SEL` reads (R542), as a key of the policer table without its word. -/
def State.polKey (s : State) : Nat :=
  let n := s.fld F.tmPolSel_slice
  (if n = 15 then 0 else n) * 0x20000 + s.fld F.tmPolSel_index * 8

/-- The value that a read of a register returns, with no effect on it; 0 where no register is (R46). `PORT_STATUS.SVC` is
decoded in every lane's window. -/
def State.view (s : State) (a : Nat) : Nat :=
  match findRow regTable a with
  | some (r, is) =>
    if !s.answers r.perPort is then (if r.base = Reg.portStatus 0 then (s.unit .port 0 (is.headD 0)).state.code else 0)
    else if r.base = Reg.tmPolCir ∨ r.base = Reg.tmPolPir ∨ r.base = Reg.tmPolCbs ∨ r.base = Reg.tmPolPbs ∨
        r.base = Reg.tmPolCfg then r.shown (s.regs.pol.getD (s.polKey + (a - Reg.tmPolSel) / 4) 0).toNat
    else if a = F.ldgCtrl_keySel.addr then putBits (s.reg a) F.ldgCtrl_keySel.lo F.ldgCtrl_keySel.width s.ldg.keySel
    else r.shown (s.reg a) + s.viewBits r.base (is.headD 0) (is.getD 1 0)
  | none =>
    match findCtr ctrTable a with
    | some c => if s.answers c.perPort ((rowIndex c.base c.dims a).getD []) then lo32 (s.ctr.value.getD a 0).toNat else 0
    | none =>
      if 4 ≤ a then
        match findCtr ctrTable (a - 4) with
        | some c =>
          if s.answers c.perPort ((rowIndex c.base c.dims (a - 4)).getD []) then (s.ctr.high.getD (a - 4) 0).toNat else 0
        | none => 0
      else 0

/-- Whether some block decodes an address (R46): a register, a counter word, or a PIPE pair word (R457). -/
def decoded (a : Nat) : Bool :=
  (findRow regTable a).isSome || (findCtr ctrTable a).isSome || (decide (4 ≤ a) && (findCtr ctrTable (a - 4)).isSome) ||
    (rowIndex (Reg.pipeCntIndex 0) [(0x100000, 8)] (a - 8)).isSome

end Sys2Proof.Machine
end

