-- ==== Sys2Proof/Machine/Events.lean ====
section
/-! DEFINITION. The event recorder's entries and alert (R756 to R762), and the declaration of FATAL (R741). -/

namespace Sys2Proof.Machine

/-- What a snapshot list names: a quantity, a 64-bit quantity, or a register (R836). -/
inductive Snap where
  | q (v : Nat)
  | w (v : Nat)
  | r (addr : Nat)
  deriving DecidableEq, Repr

/-- The snapshot pairs of a list; quantity positions count from 0 (R836). -/
def snapPairs (s : State) : Nat → List Snap → List (Nat × Nat)
  | _, [] => []
  | k, .q v :: r => (0x80000000 + k, v % 2 ^ 32) :: snapPairs s (k + 1) r
  | k, .w v :: r => (0x80000000 + k, lo32 v) :: (0x80000100 + k, hi32 v) :: snapPairs s (k + 1) r
  | k, .r a :: r => (a, s.view a % 2 ^ 32) :: snapPairs s k r

/-- What an event entry names beside its code: severity, class and unit (R756). -/
structure EvInfo where
  sev : Nat
  cls : Nat
  kind : Nat
  unit : Nat
  clear : Bool
  deriving DecidableEq, Repr

/-- An event that is no error and names no unit. -/
def EvInfo.plain (sev : Nat) : EvInfo := { sev, cls := 0xFF, kind := 0xFF, unit := 0, clear := false }

/-- Whether a code's bucket holds a token (R759); a code without an entry in the EVENTS section is not limited
(assumption 10). -/
def State.hasToken (s : State) (code : Nat) : Bool :=
  match s.evr.cfg.find? (·.code = code) with
  | some c => decide (s.evr.spent.getD code 0 < c.burst)
  | none => true

/-- DEV_ALERT_N asserted. -/
def State.assertAlert (s : State) : State :=
  if s.evr.alert = false then ({ s with evr := { s.evr with alert := true } }).emit (.alert true) else s

/-- The alert asserted by an entry of severity `sev` (R762). -/
def State.raiseAlert (s : State) (sev : Nat) : State := if s.fld F.evrAlert_sev ≤ sev then s.assertAlert else s

/-- An entry written to the recorder (R756 to R762): the next SEQ with its reservation, the snapshot, the suppressed
count, the alert; suppressed without a token, and nothing after FATAL. -/
def State.eventWith (s : State) (code : Nat) (i : EvInfo) (snap : List Snap) : State :=
  if s.evr.stopped then s
  else if !(s.hasToken code || decide (i.sev = 4)) then
    ({ s with evr := { s.evr with suppressed := s.evr.suppressed.modify code 0 (· + 1) } }).count1 C.evrSuppressed
  else
    let regs := match s.evr.cfg.find? (·.code = code) with
      | some c => c.regs.map Snap.r
      | none => []
    let seq := s.evr.nextSeq
    let e : EvEntry :=
      { seq, stamp := s.now, code, sev := i.sev, cls := i.cls, unitKind := i.kind, unit := i.unit,
        suppressed := s.evr.suppressed.getD code 0, persisted := false, late := false, clearRec := i.clear,
        snap := (snapPairs s 0 (snap ++ regs)).take 8 }
    let s := { s with evr := { s.evr with
      ring := e :: s.evr.ring.filter (fun x => decide (seq < x.seq + 8192)), nextSeq := seq + 1,
      reservedEnd := if s.evr.reservedEnd ≤ seq then s.evr.reservedEnd + 2 ^ 20 else s.evr.reservedEnd,
      spent := if (s.evr.cfg.any (·.code = code)) && decide (i.sev ≠ 4) then s.evr.spent.modify code 0 (· + 1)
        else s.evr.spent,
      suppressed := s.evr.suppressed.erase code } }
    (s.count1 C.evrWritten).raiseAlert i.sev

/-- A plain event of a severity with its snapshot. -/
def State.event (s : State) (code sev : Nat) (snap : List Snap) : State := s.eventWith code (EvInfo.plain sev) snap

/-- The NOTICE 0xB020 naming an address. -/
def State.noticeAddr (s : State) (a : Nat) : State := s.event 0xB020 1 [.q a]

/-- A service state changed, with event 0xB010 (R746). `reason` is REASON of R750 while OUT_OF_SERVICE. -/
def State.moveUnit (s : State) (k : UnitKind) (slice n : Nat) (next : Service) (reason : Nat) : State :=
  let u := s.unit k slice n
  if u.state = next then s
  else
    let s := if k = .port ∧ u.state = .inService ∧ u.since + secStamp ≤ s.now then s.settlePort n else s
    let s := if k = .port ∧ (next = .outOfService ∨ next = .testing) then s.settlePortLines n else s
    let s' := s.setUnit k slice n { u with state := next, reason := if next = .outOfService then reason else 0, since := s.now }
    s'.eventWith 0xB010 { EvInfo.plain 1 with kind := kindCode k, unit := slice * 4096 + n }
      [.q (kindCode k), .q (slice * 4096 + n), .q u.state.code, .q next.code]

/-- Work entries and admin commands that are outstanding (R740). -/
def State.outstandingWork (s : State) : Nat :=
  s.qm.wqs.values.foldl (fun a q => a + (q.prod - q.head).toNat) 0

/-- Admin commands outstanding. -/
def State.outstandingAdmin (s : State) : Nat :=
  s.qm.fns.values.foldl (fun a f => a + (f.admin.prod - f.admin.head).toNat) 0

/-- An entry as it stands once it is in the event region (R760). -/
def EvEntry.persist (e : EvEntry) : EvEntry := { e with persisted := true }

/-- An error of a function reported under AER (R610). `code` is its bit in the Uncorrectable Error Status, or 0x100 plus its bit in
the Correctable Error Status; `under` is the uncorrectable bit of an advisory error. The status bits stay until software
clears them (R590), those of the Status register too: Detected Parity Error of poisoned data, Signaled Target Abort, and Signaled
System Error where the host enables it. -/
def State.reportAer (s : State) (fn code : Nat) (under : Option Nat) (fatal : Bool) : State :=
  let dev := (if 0x100 ≤ code then 1 else if fatal then 4 else 2) + (if under = some 20 then 8 else 0)
  let s := s.modFn fn fun f => { f with
    devErr := f.devErr ||| dev
    status := f.status ||| (if under = some 12 then 0x8000 else if under = some 15 then 0x800 else 0) |||
      (if code < 0x100 ∧ (f.cfg.getD 4 0).toNat.testBit 8 then 0x4000 else 0)
    aerCor := if 0x100 ≤ code then f.aerCor ||| 2 ^ (code - 0x100) else f.aerCor
    aerUnc := match under with
      | some u => f.aerUnc ||| 2 ^ u
      | none => if code < 0x100 then f.aerUnc ||| 2 ^ code else f.aerUnc }
  s.emit (.aer code)

/-- The AER code of an advisory non-fatal error. -/
def aerAdvisory : Nat := 0x10D

/-- FATAL declared for the event code that reports its cause (R741): the entry, the host island silenced with its
report, the alert, every unpersisted entry of WARNING or above in the event region as far as a flash device holds one, the
recorder frozen. Ports and the ledger
stop by `whenWorking`. -/
def State.fatal (s : State) (cause : Nat) : State :=
  if s.evr.fatal then s
  else
    let s := s.eventWith 0xB014 { EvInfo.plain 4 with cls := 3 }
      [.q cause, .q s.outstandingWork, .q s.outstandingAdmin]
    let held := s.up .flash 0 0 || s.up .flash 0 1
    let goes := fun (e : EvEntry) => held && decide (2 ≤ e.sev) && !e.persisted
    let fresh := s.evr.ring.filter goes
    let s := (s.assertAlert).count C.evrPersisted fresh.length s.now
    let s := { s with
      evr := { s.evr with
        fatal := true, fatalCause := cause, stopped := true, frozen := true
        region := (fresh.map EvEntry.persist ++ s.evr.region).take 262144
        ring := s.evr.ring.map fun (e : EvEntry) => if goes e then e.persist else e }
      hif := { s.hif with silenced := true } }
    s.reportAer 0 0x16 none true

end Sys2Proof.Machine
end

