-- ==== Sys2Proof/Machine/Dma.lean ====
section
/-! DEFINITION. What the device writes to host memory and reads from it: attributes (R605), functions that may issue nothing
(R607), non-posted requests (R587, R601, R611), MSI-X messages (R676), admin completion (R635 to R641), and completion of work entries
(R647, R648). -/

namespace Sys2Proof.Machine

/-- The first number at or after `x` that is not used: fuel, bound, used numbers. -/
def freeFrom : Nat → Nat → List Nat → Nat → Nat
  | 0, _, _, x => x
  | n + 1, bound, used, x => if x ∈ used then freeFrom n bound used ((x + 1) % bound) else x

/-- An unused number below a bound. Which one the device takes is left open, so it is free (assumption 3). -/
def State.pickFree (s : State) (bound : Nat) (used : List Nat) : Nat × State :=
  let (x, s) := s.draw bound
  (freeFrom used.length bound used x, s)

/-! ### Writes -/

/-- Whether a write carries RO while the function permits it (R605). Admin buffers count as admin write-backs
(assumption 18). -/
def DmaKind.relaxed : DmaKind → Bool
  | .frameData | .writeBack | .ledger | .storage | .snapshot => true
  | .headBlock | .notification | .tailBlock => false

/-- Whether a function may issue requests (R607). -/
def State.mayIssue (s : State) (fn : Nat) : Bool := (s.fn fn).busMaster && !(s.fn fn).d3hot

/-- Octets of payload that a request carries. -/
def Out.octets : Out → Nat
  | .dma _ _ _ data _ _ _ _ => data.length
  | .msix _ _ _ _ _ => 4
  | _ => 0

/-- A request leaves the device: the link is not idle (R608), and carries its payload. -/
def State.transmit (s : State) (o : Out) : State :=
  ({ s with hif := { s.hif with idleSince := s.now, l1 := false, txOctets := s.hif.txOctets + o.octets } }).emit o

/-- A request of a function leaves the device, or waits in the host island (R607); none leaves once the host island
is silenced (R741), and none while the link is down (R620). -/
def State.post (s : State) (fn : Nat) (o : Out) : State :=
  if s.hif.silenced || !s.hif.dlUp then s
  else if s.mayIssue fn then s.transmit o
  else { s with hif := { s.hif with waiting := s.hif.waiting ++ [(fn, (s.fn fn).gen, o)] } }

/-- Whether a request that lies within a page goes out Translated (R601): ATS is enabled and the cache holds the page. -/
def State.translated (s : State) (fn addr : Nat) : Bool :=
  (s.fn fn).atsEnable && decide ((fn, addr / 4096) ∈ s.hif.atc)

/-- The steering tag of a vector (R604): 16 bits with Extended TPH, else 8. -/
def FnSt.steering (f : FnSt) (vec : Nat) : Nat :=
  let st := (f.vecTable.getD (4 * vec + 3) 0).toNat / 65536
  if f.tphExt then st else st % 256

/-- A write by the pages it lies in, since no request crosses a page: fuel, address, data. -/
def pageParts : Nat → Nat → Bytes → List (Nat × Bytes)
  | 0, addr, d => [(addr, d)]
  | k + 1, addr, d =>
    let n := 4096 - addr % 4096
    if d.length ≤ n then [(addr, d)] else (addr, d.take n) :: pageParts k (addr + n) (d.drop n)

/-- A write of a function to host memory, bound to an MSI-X vector when its destination has one (R601, R604, R605). -/
def State.dmaTo (s : State) (fn : Nat) (vec : Option Nat) (k : DmaKind) (addr : Nat) (data : Bytes) : State :=
  (pageParts (data.length / 4096 + 1) addr data).foldl (fun (s : State) p =>
    let f := s.fn fn
    s.post fn (.dma fn k p.1 p.2 (k.relaxed && f.roEnable) f.idoEnable (s.translated fn p.1)
      (if f.tphEnable then vec.map f.steering else none))) s

/-- A write of a function to host memory that is bound to no vector. -/
def State.dma (s : State) (fn : Nat) (k : DmaKind) (addr : Nat) (data : Bytes) : State := s.dmaTo fn none k addr data

/-- The vector of the notification ring of a work queue. -/
def State.wqVector (s : State) (q : WqSt) : Option Nat :=
  (q.nr.bind fun n => s.qm.nrs.get? n).map (·.vector)

/-- An MSI-X message, or its Pending Bit while the vector is masked or MSI-X is disabled (R676). -/
def State.msix (s : State) (fn vec : Nat) : State :=
  let f := s.fn fn
  if !f.msixEnable || f.maskAll || decide (vec ∉ f.vecUnmasked) then
    s.modFn fn fun f => { f with vecPending := if vec ∈ f.vecPending then f.vecPending else vec :: f.vecPending }
  else
    let dword := fun k => (f.vecTable.getD (4 * vec + k) 0).toNat
    s.post fn (.msix fn vec (dword 0 + 2 ^ 32 * dword 1) (dword 2) f.idoEnable)

/-! ### Reads (R587, R601, R605, R611) -/

/-- A function's read timeout (R611). -/
def cplTimeout (code : Nat) : Nat :=
  match code with
  | 1 => 90 * usStamp
  | 2 => 9 * msStamp
  | 5 => 50 * msStamp
  | 6 => 200 * msStamp
  | 9 => 850 * msStamp
  | 10 => 3200 * msStamp
  | 13 => 12 * secStamp
  | 14 => 60 * secStamp
  | _ => 40 * msStamp

/-- Whether another non-posted request can be issued (R587). -/
def State.tagRoom (s : State) : Bool := decide (s.hif.reads.size + s.hif.quarantined.size < 4096)

/-- Whether a function can issue a read (R587, R607). -/
def State.mayRead (s : State) (fn : Nat) : Bool := s.mayIssue fn && s.tagRoom

/-- A memory read request leaves the device. -/
def State.emitRead (s : State) (fn addr len : Nat) : State :=
  let f := s.fn fn
  s.transmit (.read fn addr len f.roEnable f.idoEnable (s.translated fn addr))

/-- A non-posted request outstanding under a tag of its own; its timeout is the value in effect within ±5 % (R611, assumption 3). -/
def State.holdTag (s : State) (fn : Nat) (item : ReadItem) (idx : Word) (len : Nat) (page : Option Nat) : State :=
  let (tag, s) := s.pickFree 16384 (s.hif.reads.keys ++ s.hif.quarantined.keys)
  let (x, s) := s.draw 10001
  let due := s.now + cplTimeout (s.fn fn).cplTimeout * (95000 + x) / 100000
  let r : ReadSt := { fn, item, idx, len, need := len, got := 0, issued := s.now, due, page }
  { s with hif := { s.hif with reads := s.hif.reads.set tag r } }

/-- The translation of a page asked for, where no request for it is out (assumption 135). -/
def State.askTranslation (s : State) (fn page : Nat) : State :=
  if !s.tagRoom || s.hif.reads.values.any (fun r => decide (r.item = .translation fn page)) then s
  else ((s.transmit (.atsRequest fn page)).holdTag fn (.translation fn page) 0 8 none)

/-- A read within a page issued: it uses a cached translation, or with ATS asks for the translation beside it. -/
def State.issueRead (s : State) (fn : Nat) (item : ReadItem) (idx : Word) (addr len : Nat) : State :=
  let page := if s.translated fn addr then some (addr / 4096) else none
  let s := (s.emitRead fn addr len).holdTag fn item idx len page
  if (s.fn fn).atsEnable && page.isNone then s.askTranslation fn (addr / 4096) else s

/-- A stretch of host memory by the requests that read it, none longer than the size in effect and none across a page (R587): fuel,
size, address, length. -/
def requestParts : Nat → Nat → Nat → Nat → List (Nat × Nat)
  | 0, _, _, _ => []
  | k + 1, max, addr, len =>
    let n := min len (min max (4096 - addr % 4096))
    if n = 0 then [] else (addr, n) :: requestParts k max (addr + n) (len - n)

/-- The requests of some stretches of host memory. -/
def State.requests (s : State) (l : List (Nat × Nat)) : List (Nat × Nat) :=
  l.flatMap fun e => requestParts (e.2 / 64 + 2) (s.fn 0).mrrs e.1 e.2

/-- Reads issued while tags are left: what could not be issued, and the state. -/
def State.issueReads (fn : Nat) (item : ReadItem) : List (Nat × Nat) → State → List (Nat × Nat) × State
  | [], s => ([], s)
  | p :: l, s => if s.mayRead fn then State.issueReads fn item l (s.issueRead fn item 0 p.1 p.2) else (p :: l, s)

/-- An item whose reads start. -/
def State.startReads (s : State) (fn : Nat) (item : ReadItem) (l : List (Nat × Nat)) : State :=
  let (left, s) := State.issueReads fn item l s
  { s with hif := { s.hif with starting := s.hif.starting ++ [{ fn, item, left }] } }

/-- The reads of items that start and could not be issued yet. -/
def State.issueMore (s : State) : State :=
  s.hif.starting.foldl (fun (s : State) d =>
    let (left, s) := State.issueReads d.fn d.item d.left s
    { s with hif := { s.hif with
      starting := s.hif.starting.map fun (x : DataRead) => if x.item = d.item then { x with left } else x } }) s

/-- Whether an item has started and its reads are under way or have come. -/
def State.begun (s : State) (item : ReadItem) : Bool := s.hif.starting.any fun d => decide (d.item = item)

/-- What the outstanding reads of an item are to bring has come: those reads are no longer outstanding (assumption 23). Answers
how many bytes they bring. -/
def State.readsDone (s : State) (item : ReadItem) : Nat × State :=
  let mine := s.hif.reads.values.filter fun r => decide (r.item = item)
  (mine.foldl (fun a r => a + r.need) 0,
    { s with hif := { s.hif with
      reads := s.hif.reads.filter fun _ r => decide (r.item ≠ item)
      starting := s.hif.starting.filter fun d => decide (d.item ≠ item) } })

/-- The item gone whose reads are out: what they bring is wanted no more. -/
def State.orphan (s : State) (gone : ReadItem → Bool) : State :=
  { s with hif := { s.hif with
    reads := s.hif.reads.map fun _ (r : ReadSt) => if gone r.item then { r with need := 0 } else r
    starting := s.hif.starting.filter fun d => !gone d.item } }

/-- A command and an entry as items of reads. -/
def adminItem (r : AdminRef) : ReadItem := .admin { r with reading := false }
def workItem (w : WorkRef) : ReadItem := .work { w with reads := [], reading := false }

/-- The item that an operand names. -/
def plainItem (i : ReadItem) : ReadItem :=
  match i with
  | .work w => workItem w
  | .admin r => adminItem r
  | _ => i

/-! ### Entries -/

/-- A head block (R649). -/
def headBlock (head : Word) (state err : Nat) (gen : BitVec 16) (errIndex : Word) : Bytes :=
  le 4 head.toNat ++ le 1 state ++ le 1 err ++ le 2 gen.toNat ++ le 4 errIndex.toNat ++ zeros 52

/-- A head moved over the entries completed ahead of it (R648): fuel, head, completed indices. -/
def advanceHead : Nat → Word → List Word → Word × List Word
  | 0, h, l => (h, l)
  | n + 1, h, l => if h ∈ l then advanceHead n (h + 1) (l.erase h) else (h, l)

/-- The writes of an entry's write-back: STATUS at byte 2, then the pieces the device writes (R641, R647). -/
def State.writeBack (s : State) (fn : Nat) (vec : Option Nat) (base : Nat) (status : Nat) (wb : List (Nat × Bytes)) :
    State :=
  wb.foldl (fun s p => s.dmaTo fn vec .writeBack (base + p.1) p.2) (s.dmaTo fn vec .writeBack (base + 2) (le 1 status))

/-- The STATUS values of R640. -/
def stSuccess : Nat := 0x00
def stInvalidOpcode : Nat := 0x01
def stInvalidField : Nat := 0x02
def stNotPermitted : Nat := 0x03
def stBusy : Nat := 0x04
def stNoResource : Nat := 0x05
def stCommitPending : Nat := 0x06
def stAborted : Nat := 0x07
def stAuthFailed : Nat := 0x08
def stGenerationStale : Nat := 0x09
def stHostReadTimeout : Nat := 0x0A
def stInternalError : Nat := 0x0B
def stNotFound : Nat := 0x0C
def stExists : Nat := 0x0D
def stBadEntry : Nat := 0x0E
def stOverpost : Nat := 0x0F
def stCryptoAuthFail : Nat := 0x10
def stStorageError : Nat := 0x11

/-- A head block of an admin queue, or a message of vector 0, that waits in the host island gives way to the one that follows
(R650, assumption 136). -/
def State.dropWaitingHead (s : State) (fn : Nat) : State :=
  let addr := (s.fn fn).admin.base + 0x1000
  { s with hif := { s.hif with waiting := s.hif.waiting.filter fun (e : Nat × BitVec 16 × Out) =>
    match e.2.2 with
    | .dma f .headBlock a _ _ _ _ _ => decide (f ≠ fn ∨ a ≠ addr)
    | .msix f v _ _ _ => decide (f ≠ fn ∨ v ≠ 0)
    | _ => true } }

/-- The admin queue's head block written (R649, R650). -/
def State.adminHb (s : State) (fn : Nat) : State :=
  let f := s.fn fn
  let a := f.admin
  (s.dropWaitingHead fn).dma fn .headBlock (a.base + 0x1000)
    (headBlock a.head (if a.state = .error then 1 else 0) a.errStatus f.gen a.errIndex)

/-- The admin queue's head block written, and vector 0 raised after it (R638). -/
def State.adminHead (s : State) (fn : Nat) : State := (s.adminHb fn).msix fn 0

/-- An admin command completes: its write-back, the head over every completed entry, head block and vector (R638,
R641, R648). Nothing is written for a command of an earlier generation or of a queue that is gone. -/
def State.adminDone (s : State) (t : AdminTok) (status : Nat) (wb : List (Nat × Bytes)) : State :=
  let f := s.fn t.ref.fn
  if f.gen ≠ t.gen ∨ f.admin.setup ≠ t.setup ∨ t.ref.idx ∉ f.admin.opened then s
  else
    let s := s.writeBack t.ref.fn none (f.admin.base + t.ref.idx.toNat % 64 * 64) status wb
    let (h, fin) := advanceHead 65 f.admin.head (t.ref.idx :: f.admin.finished)
    let s := s.modFn t.ref.fn fun f => { f with admin := { f.admin with
      head := h, finished := fin, opened := f.admin.opened.erase t.ref.idx,
      released := f.admin.released.erase t.ref.idx } }
    if h = f.admin.head then s else s.adminHead t.ref.fn

/-- Whether an admin command can start now: it is the next entry of an ACTIVE queue, and every command started
before it has completed or has released the queue (R637), and it is fetched or can be, and what it reads can be read (R607).
A command that has started can go on. -/
def State.adminReady (s : State) (r : AdminRef) : Bool :=
  let a := (s.fn r.fn).admin
  if s.begun (adminItem r) then decide (r.idx ∈ a.opened)
  else
    decide (a.state = .active) && decide (r.idx = a.next) && decide (a.next ≠ a.prod) &&
      a.opened.all (fun i => decide (i ∈ a.released)) && (decide (0 < a.fetched ∧ r.len = 0) || s.mayRead r.fn)

/-- An entry that is fetched as it starts, when none was fetched ahead: bytes its outstanding fetches bring, after a read of its
own where there is none. -/
def State.fetchNow (s : State) (fn : Nat) (item : ReadItem) (addr : Nat) : Nat × State :=
  let (n, s) := s.readsDone item
  (n, if n = 0 then s.emitRead fn addr 64 else s)

/-- The command taken from its queue: the next entry is the one behind it. -/
def State.adminTake (s : State) (r : AdminRef) : State :=
  let a := (s.fn r.fn).admin
  let (n, s) := if a.fetched = 0 then s.fetchNow r.fn (.adminFetch r.fn) (a.base + r.idx.toNat % 64 * 64) else (0, s)
  s.modFn r.fn fun f => { f with admin := { f.admin with
    next := r.idx + 1, opened := r.idx :: f.admin.opened, fetched := f.admin.fetched + n / 64 - 1 } }

/-- The command started: taken from its queue, and its buffer read; or what it read has come. -/
def State.adminOpen (s : State) (r : AdminRef) : State :=
  if s.begun (adminItem r) then (s.readsDone (adminItem r)).2
  else
    let s := s.adminTake r
    (s.requests [(r.buf, r.len)]).foldl (fun (s : State) p => s.emitRead r.fn p.1 p.2) s

/-- The command started, with its reads under way. -/
def State.adminAsk (s : State) (r : AdminRef) : State :=
  if s.begun (adminItem r) then s
  else
    let s := s.adminTake r
    s.startReads r.fn (adminItem r) (s.requests [(r.buf, r.len)])

/-- A command that releases its queue (R637). -/
def State.adminRelease (s : State) (r : AdminRef) : State :=
  s.modFn r.fn fun f => { f with admin := { f.admin with released := r.idx :: f.admin.released } }

/-- The token of a command that has started. -/
def State.tok (s : State) (r : AdminRef) : AdminTok := ⟨r, (s.fn r.fn).gen, (s.fn r.fn).admin.setup⟩

/-- What an admin command's body answers: the state, and its status and write-back when it completes at once. -/
abbrev AdminRes := State × Option (Nat × List (Nat × Bytes))

/-- A body that completes at once without effect. -/
def failWith (s : State) (status : Nat) : AdminRes := (s, some (status, []))

/-- An admin command run: it starts when its queue permits, its opcode is checked for the function and the boot
stage (R639, R686), its reserved bytes are checked, and its body acts. `pf` marks PF-only opcodes and `rec` those
that RECOVERY accepts. -/
def runAdmin (pf recOk : Bool) (r : AdminRef) (s : State) (body : State → AdminRes) : Res :=
  whenWorking s <|
    if !s.adminReady r then .next s
    else if r.reading then .next (s.adminAsk r)
    else
      let s := s.adminOpen r
      let t := s.tok r
      if (pf && decide (r.fn ≠ 0)) || (!recOk && decide (s.mgt.stage = .recovery)) then
        .next (s.adminDone t stNotPermitted [])
      else if !r.rsvOk then .next (s.adminDone t stInvalidField [])
      else match body s with
        | (s', some (st, wb)) => .next (s'.adminDone t st wb)
        | (s', none) => .next s'

/-- A waiting command completed, when there is one. -/
def State.doneIf (s : State) (t : Option AdminTok) (status : Nat) (wb : List (Nat × Bytes)) : State :=
  match t with
  | some t => s.adminDone t status wb
  | none => s

/-- A work entry completes: its write-back, the head over every completed entry, and the head block due (R647 to
R650). Nothing is written for a queue that is gone. -/
def State.workDone (s : State) (wq : Nat) (idx : Word) (status : Nat) (wb : List (Nat × Bytes)) : State :=
  match s.qm.wqs.get? wq with
  | none => s
  | some q =>
    if idx ∉ q.opened then s
    else
      let s := s.writeBack q.fn (s.wqVector q) (q.base + idx.toNat % 2 ^ q.log2 * 64) status wb
      let (h, fin) := advanceHead (2 ^ q.log2 + 1) q.head (idx :: q.finished)
      let s := s.modWq wq fun q => { q with
        head := h, finished := fin, opened := q.opened.erase idx,
        hbWaiting := q.hbWaiting || decide (h ≠ q.head) }
      if status = stBadEntry then s.count1 C.qmBadEntry else s

/-- The entry of a WQ that starts next: one that is read again, else the one behind the last that started. -/
def WqSt.upcoming (q : WqSt) : Option Word :=
  match q.reread with
  | i :: _ => some i
  | [] => if q.next = q.prod then none else some q.next

/-- Whether a work entry can start now: it is the next posted entry of an ACTIVE WQ that is not suspended (R652, R656), and it
is fetched or can be, and what it reads can be read (R607). An entry that has started can go on. -/
def State.workReady (s : State) (w : WorkRef) : Bool :=
  match s.qm.wqs.get? w.wq with
  | some q =>
    if s.begun (workItem w) then decide (w.idx ∈ q.opened)
    else
      decide (q.state = .active) && !q.suspended && decide (q.upcoming = some w.idx) &&
        (decide (0 < q.fetched ∧ w.reads = []) || s.mayRead q.fn)
  | none => false

/-- The entry taken from its queue: the next entry is the one behind it. -/
def State.workTake (s : State) (w : WorkRef) : State :=
  let (n, s) := match s.qm.wqs.get? w.wq with
    | some q => if q.fetched = 0 then s.fetchNow q.fn (.fetch w.wq) (q.base + w.idx.toNat % 2 ^ q.log2 * 64) else (0, s)
    | none => (0, s)
  s.modWq w.wq fun q => { q with
    next := if w.idx ∈ q.reread then q.next else w.idx + 1, reread := q.reread.erase w.idx
    opened := w.idx :: q.opened, fetched := q.fetched + n / 64 - 1 }

/-- The function that a WQ belongs to. -/
def State.wqFn (s : State) (wq : Nat) : Nat :=
  match s.qm.wqs.get? wq with
  | some q => q.fn
  | none => 0

/-- The entry started: taken from its queue, and what it reads read; or what it read has come. -/
def State.workOpen (s : State) (w : WorkRef) : State :=
  if s.begun (workItem w) then (s.readsDone (workItem w)).2
  else
    let s := s.workTake w
    (s.requests w.reads).foldl (fun (s : State) p => s.emitRead (s.wqFn w.wq) p.1 p.2) s

/-- The entry started, with its reads under way. -/
def State.workAsk (s : State) (w : WorkRef) : State :=
  if s.begun (workItem w) then s
  else
    let s := s.workTake w
    s.startReads (s.wqFn w.wq) (workItem w) (s.requests w.reads)

/-- A work entry run: it starts when its queue permits, and ends as BAD_ENTRY unless it fits a WQ of its type (`none`: of any)
and its reserved bytes are 0 (R642, R643). -/
def runWork (kind : Option Nat) (w : WorkRef) (s : State) (body : WqSt → State → State) : Res :=
  whenWorking s <|
    if !s.workReady w then .next s
    else if w.reading then .next (s.workAsk w)
    else match s.qm.wqs.get? w.wq with
      | none => .next s
      | some q =>
        let s := s.workOpen w
        let fits := match kind with | some k => decide (q.kind = k) | none => true
        if !fits || !w.rsvOk then .next (s.workDone w.wq w.idx stBadEntry [])
        else .next (body q s)

end Sys2Proof.Machine
end

