-- ==== Sys2Proof/Machine/Sm3.lean ====
section
/-! DEFINITION. The SM3 hash of GB/T 32905 (R185), and the Merkle trees of R190 and R191. -/

namespace Sys2Proof.Machine

/-- A chaining value: eight words. -/
structure Sm3V where
  a : Word
  b : Word
  c : Word
  d : Word
  e : Word
  f : Word
  g : Word
  h : Word
  deriving DecidableEq, Repr

/-- The initial value. -/
def sm3Iv : Sm3V :=
  ⟨0x7380166f, 0x4914b2b9, 0x172442d7, 0xda8a0600, 0xa96f30bc, 0x163138aa, 0xe38dee4d, 0xb0fb0e4e⟩

/-- Permutation P0. -/
def sm3P0 (x : Word) : Word := x ^^^ x.rotateLeft 9 ^^^ x.rotateLeft 17

/-- Permutation P1. -/
def sm3P1 (x : Word) : Word := x ^^^ x.rotateLeft 15 ^^^ x.rotateLeft 23

/-- One round: round number, W_j and W_{j+4}. -/
def sm3Round (j : Nat) (w w4 : Word) (v : Sm3V) : Sm3V :=
  let t : Word := if j < 16 then 0x79cc4519 else 0x7a879d8a
  let ss1 := (v.a.rotateLeft 12 + v.e + t.rotateLeft (j % 32)).rotateLeft 7
  let ss2 := ss1 ^^^ v.a.rotateLeft 12
  let ff := if j < 16 then v.a ^^^ v.b ^^^ v.c else (v.a &&& v.b) ||| (v.a &&& v.c) ||| (v.b &&& v.c)
  let gg := if j < 16 then v.e ^^^ v.f ^^^ v.g else (v.e &&& v.f) ||| (~~~v.e &&& v.g)
  let tt1 := ff + v.d + ss2 + (w ^^^ w4)
  let tt2 := gg + v.h + ss1 + w
  ⟨tt1, v.a, v.b.rotateLeft 9, v.c, sm3P0 tt2, v.e, v.f.rotateLeft 19, v.g⟩

/-- Message expansion as a window of sixteen words that slides by one a round. -/
def sm3Slide (w : List Word) : List Word :=
  let x := sm3P1 (w.getD 0 0 ^^^ w.getD 7 0 ^^^ (w.getD 13 0).rotateLeft 15) ^^^ (w.getD 3 0).rotateLeft 7 ^^^ w.getD 10 0
  w.drop 1 ++ [x]

/-- Rounds `j .. j + n - 1`. -/
def sm3Rounds : Nat → Nat → List Word → Sm3V → Sm3V
  | 0, _, _, v => v
  | n + 1, j, w, v => sm3Rounds n (j + 1) (sm3Slide w) (sm3Round j (w.getD 0 0) (w.getD 4 0) v)

/-- Compression of one block of sixteen words. -/
def sm3Compress (v : Sm3V) (w : List Word) : Sm3V :=
  let r := sm3Rounds 64 0 w v
  ⟨r.a ^^^ v.a, r.b ^^^ v.b, r.c ^^^ v.c, r.d ^^^ v.d, r.e ^^^ v.e, r.f ^^^ v.f, r.g ^^^ v.g, r.h ^^^ v.h⟩

/-- A message with its padding. -/
def sm3Pad (m : Bytes) : Bytes := m ++ [0x80] ++ zeros ((119 - m.length % 64) % 64) ++ be 8 (8 * m.length)

/-- The words of a block, big-endian. -/
def sm3Words (b : Bytes) : List Word := (List.range 16).map fun i => BitVec.ofNat 32 (beNat (bytesAt b (4 * i) 4))

/-- Compression of `n` blocks. -/
def sm3Blocks : Nat → Bytes → Sm3V → Sm3V
  | 0, _, v => v
  | n + 1, b, v => sm3Blocks n (b.drop 64) (sm3Compress v (sm3Words (b.take 64)))

/-- SM3 of a byte string: 32 bytes. -/
def sm3 (m : Bytes) : Bytes :=
  let p := sm3Pad m
  let v := sm3Blocks (p.length / 64) p sm3Iv
  [v.a, v.b, v.c, v.d, v.e, v.f, v.g, v.h].flatMap fun x => be 4 x.toNat

/-- A node of a tree (R185). -/
def sm3Node (l r : Bytes) : Bytes := sm3 (0x01 :: (l ++ r))

/-- One level of reduction: adjacent entries paired from the left, an unpaired last one promoted (R190). -/
def treeLevel : List Bytes → List Bytes
  | a :: b :: r => sm3Node a b :: treeLevel r
  | l => l

/-- Reduction with enough levels. -/
def treeReduce : Nat → List Bytes → Bytes
  | _, [] => zeros 32
  | _, [x] => x
  | 0, x :: _ => x
  | n + 1, l => treeReduce n (treeLevel l)

/-- The root of a tree (R190, R191). -/
def treeRoot (leaves : List Bytes) : Bytes := treeReduce leaves.length leaves

end Sys2Proof.Machine
end

