-- ==== Sys2Proof/Machine/Leaf.lean ====
section
/-! DEFINITION. Forming leaves and staging their records (R181 to R203, R233 to R239): the operations that every drop,
admission and late outcome of a frame goes through. -/

namespace Sys2Proof.Machine

/-- The ledger port INJECTION (*What is committed*). -/
def injectionPort : Nat := 0x60

/-- The hash of a leaf (R185). -/
def Leaf.hash (l : Leaf) : Bytes :=
  sm3 (0x00 :: (be 1 l.port ++ stampBe l.stamp ++ be 4 l.epoch ++ be 1 l.disp ++ be 2 l.len ++ l.digest))

/-- The order of frame leaves within a tree (R189). -/
def Leaf.before (a b : Leaf) : Bool :=
  decide (a.stamp < b.stamp ∨ (a.stamp = b.stamp ∧ (a.slice < b.slice ∨ (a.slice = b.slice ∧ a.sseq < b.sseq))))

/-- A leaf put in its place in that order. -/
def insertLeaf (l : Leaf) : List Leaf → List Leaf
  | [] => [l]
  | x :: r => if l.before x then l :: x :: r else x :: insertLeaf l r

/-- The newest Ream that has ended and holds a time. -/
def State.pastReam (s : State) (t : Stamp) : Option Nat :=
  (s.ldg.past.find? fun r => decide (r.start ≤ t ∧ t < r.stop)).map (·.num)

/-- The Ream that a time belongs to (R277): the Ream in progress, or the newest ended one that holds it. -/
def State.reamOf (s : State) (t : Stamp) : Nat :=
  match s.ldg.cur with
  | none => 0
  | some c => if c.start ≤ t then c.num else (s.pastReam t).getD c.num

/-- The Ream in progress when a stamp was taken, so many steps ago (R199): of the Reams since the step before that, newest first,
the first that had begun by the stamp, or the one that the step began. -/
def State.reamTaken (s : State) (steps : Nat) (t : Stamp) : Nat :=
  let era := s.ldg.past.filter fun r => decide (r.era + steps = s.tb.stepCount)
  let ended := (((era.find? fun r => decide (r.start ≤ t)).orElse fun _ => era.getLast?).map (·.num))
  match s.ldg.cur with
  | none => ended.getD 0
  | some c => if steps = 0 ∧ c.start ≤ t then c.num else ended.getD c.num

/-- The Ream in progress or ended and not sealed with a number. -/
def State.openReam (s : State) (n : Nat) : Option ReamSt :=
  match s.ldg.cur with
  | some c => if c.num = n then some c else s.ldg.ended.find? (·.num = n)
  | none => s.ldg.ended.find? (·.num = n)

/-- A Ream that is open, changed. -/
def State.modReam (s : State) (n : Nat) (f : ReamSt → ReamSt) : State :=
  { s with ldg := { s.ldg with
    cur := s.ldg.cur.map fun c => if c.num = n then f c else c
    ended := s.ldg.ended.map fun (c : ReamSt) => if c.num = n then f c else c } }

/-- Whether ledger mode REFUSE is in effect. -/
def State.refuseMode (s : State) : Bool := decide (s.fld F.ldgCtrl_mode = 1)

/-- The ring set of a ledger port in effect now (R260). -/
def State.ringSetNow (s : State) (p : Nat) : Nat :=
  if p = injectionPort then s.fld F.ldgInjClass_ringSet else s.fld (F.ldgPortCfg_ringSet p)

/-- The ring sets of all ledger ports in effect now, those of set 0 left out. -/
def State.ringSets (s : State) : Table Nat :=
  (s.portList ++ [injectionPort]).foldl (fun (t : Table Nat) p =>
    let n := s.ringSetNow p
    if n = 0 then t else t.set p n) .empty

/-- The ring set of a ledger port in a Ream (R183, R260). -/
def State.ringSetOf (s : State) (ream p : Nat) : Nat :=
  match s.openReam ream with
  | some r => r.sets.getD p 0
  | none => s.ringSetNow p

/-- Free bytes of staging outside the header reserve (*Ledger staging*). -/
def State.recordFree (s : State) : Nat := 0x80000000 - 0x1000000 - 64 * s.ldg.records.length

/-- Bytes of the REFUSE reserve that LEDGER_FULL records do not yet hold. -/
def State.reserveLeft (s : State) : Nat :=
  if s.refuseMode then 0x2000000 - 64 * (s.ldg.records.filter (·.reserve)).length else 0

/-- The *free staging* of R236. -/
def State.freeStaging (s : State) : Nat := s.recordFree - s.reserveLeft

/-- Refusal under R237 begun or ended as the free staging and the mode say. -/
def State.checkRefuse (s : State) : State :=
  if s.ldg.refusing then
    if !s.refuseMode || decide (0x4000000 ≤ s.freeStaging) then
      ({ s with ldg := { s.ldg with refusing := false } }).event 0x3003 1 []
    else s
  else if s.refuseMode && decide (s.freeStaging < 0x2000000) then
    ({ s with ldg := { s.ldg with refusing := true } }).event 0x3002 2 []
  else s

/-- The tokens missing from a slice's record bucket now, in units of 2^-16 records (R239). -/
def State.bucketMissing (s : State) (slice : Nat) : Nat :=
  let b := s.ldg.buckets.getD slice (0, 0)
  b.1 - (s.now - b.2) * 75 / 1000

/-- A record of a recorded leaf enters staging, or is discarded and counted as missing (R236, R238, R239). -/
def State.stageRecord (s : State) (l : Leaf) (ream : Nat) (post : Option Nat) : State :=
  let missing := s.bucketMissing l.slice
  let full := decide (l.disp = 0x17)
  let room := if full then s.recordFree else if s.refuseMode then s.freeStaging else s.recordFree
  let set := s.ringSetOf ream l.port
  if missing + 65536 ≤ 75 * 65536 ∧ 64 ≤ room then
    let r : RecSt := { ream, leaf := l, post, index := none, set, reserve := full && decide (64 ≤ s.reserveLeft),
                       hostDone := false, archDone := false, archCid := none }
    let s := { s with ldg := { s.ldg with
      records := s.ldg.records ++ [r], buckets := s.ldg.buckets.set l.slice (missing + 65536, s.now) } }
    ({ s with ldg := { s.ldg with stagingHwm := max s.ldg.stagingHwm s.stagingBytes } }).checkRefuse
  else
    let s := s.modReam ream fun c => { c with missing := c.missing + 1 }
    let s := { s with ldg := { s.ldg with
      buckets := s.ldg.buckets.set l.slice (missing, s.now)
      sets := s.ldg.sets.modify set RingSet.init fun r => { r with missing := (r.missing + 1) % 2 ^ 32 } } }
    (s.bumpAt F.ldgMissing_count 1 l.stamp).checkRefuse

/-- A post-disposition leaf in the Ream in progress, in the same kind of tree as the frame's leaf (R195, R196). -/
def State.postLeaf (s : State) (l : Leaf) (disp : Nat) : State :=
  let n := s.ream
  let l := { l with disp, ream := n }
  let before := match s.openReam n with
    | some c => (c.posts.filter fun x => decide (x.port = l.port ∧ x.recorded = l.recorded)).length
    | none => 0
  let s := s.modReam n fun c => { c with posts := c.posts ++ [l] }
  let s := s.bumpAt F.ldgCarried_count 1 l.stamp
  if l.recorded then s.stageRecord l n (some before) else s

/-- What a frame's leaf needs of it. -/
def Frame.leaf (f : Frame) (disp : Nat) (recorded : Bool) : Leaf :=
  { port := f.port, stamp := f.stamp, epoch := f.epoch, disp, len := f.leafLen, digest := f.digest, recorded,
    slice := f.slice, sseq := f.sseq, frame := f.id, cls := f.d.ledgerClass, ream := f.ream }

/-- Whether a class is recorded in an open Ream (R183); for a sealed one, by the mask of the Ream in progress. -/
def State.isRecorded (s : State) (ream cls : Nat) : Bool :=
  match s.openReam ream with
  | some r => r.mask.testBit cls
  | none => match s.ldg.cur with | some c => c.mask.testBit cls | none => false

/-- A frame that has no disposition yet, known to the Ream builder (R201). -/
def State.addUndecided (s : State) (f : Frame) : State :=
  { s with ldg := { s.ldg with undecided := s.ldg.undecided.set f.id (f.leaf 0x20 false) } }

/-- Whether a ledger port's front has passed the end of a Ream that is due for its seal, in readings of the time base as it
is now (R204); ports that are no longer configured take in no frame. -/
def State.frontPassed (s : State) (r : ReamSt) (p : Nat) : Bool :=
  let e := r.sealAt - 20 * usStamp
  if p = injectionPort then decide (e ≤ s.injFront) else !s.configured p || decide (e ≤ s.portFront p)

/-- The ledger class that a frame whose leaf is not formed has by now (R181). -/
def State.classNow (s : State) (l : Leaf) : Nat :=
  match (s.sliceFrames l.slice).find? (·.id = l.frame) with
  | some f => f.d.ledgerClass
  | none => l.cls

/-- IN_FLIGHT_LEAF (R201): the leaf of a frame that has no disposition at the seal. -/
def State.inFlight (s : State) (r : ReamSt) (l : Leaf) : State :=
  let cls := s.classNow l
  let l := { l with disp := 0x20, cls, recorded := r.mask.testBit cls }
  let s := s.modReam r.num fun c => { c with frames := insertLeaf l c.frames }
  let s := { s with ldg := { s.ldg with placed := s.ldg.placed.set l.frame ⟨r.num, none, l.recorded, 0x20⟩ } }
  let s := s.bumpAt F.ldgInflight_count 1 l.stamp
  if l.recorded then s.stageRecord l r.num none else s

/-- Whether a Ream takes a leaf that reaches the builder now (R203): it has not come to its seal. -/
def State.takesLeaf (s : State) (r : ReamSt) : Bool := r.stop.isNone || decide (s.now < r.sealAt)

/-- A leaf that comes at or after its Ream's seal finds the frame committed IN_FLIGHT, unless its ledger port's front was late
(R201, R203 to R205). -/
def State.sealedBefore (s : State) (f : Frame) : State :=
  match s.openReam f.ream with
  | some r => if s.takesLeaf r || !s.frontPassed r f.port then s else s.inFlight r (f.leaf 0x20 false)
  | none => s

/-- A leaf formed for a frame whose disposition is known (R185, R192): in its Ream while that is open, as a RESOLVED
leaf afterwards (R202, R203, R205). `keep` remembers the leaf's place while the frame stays in the device. -/
def State.formLeaf (s : State) (f : Frame) (disp : Nat) (keep : Bool) : State :=
  let s := ({ s with ldg := { s.ldg with undecided := s.ldg.undecided.erase f.id } }).sealedBefore f
  match (s.openReam f.ream).filter s.takesLeaf with
  | some r =>
    let l := f.leaf disp (r.mask.testBit f.d.ledgerClass)
    let s := s.modReam f.ream fun c => { c with frames := insertLeaf l c.frames }
    let s := if keep then
        { s with ldg := { s.ldg with placed := s.ldg.placed.set f.id ⟨f.ream, none, l.recorded, disp⟩ } }
      else s
    if l.recorded then s.stageRecord l f.ream none else s
  | none =>
    match s.ldg.placed.get? f.id with
    | some p =>
      let s := if keep then s else { s with ldg := { s.ldg with placed := s.ldg.placed.erase f.id } }
      s.postLeaf (f.leaf disp p.recorded) (0x80 + disp)
    | none =>
      let rec_ := s.isRecorded f.ream f.d.ledgerClass
      let s := if keep then
          { s with ldg := { s.ldg with placed := s.ldg.placed.set f.id ⟨s.ream, none, rec_, disp⟩ } }
        else s
      s.postLeaf (f.leaf disp rec_) (0x80 + disp)

/-- A late outcome of a frame that has its leaf (R194, R195). -/
def State.lateOutcome (s : State) (f : Frame) (disp : Nat) : State :=
  let rec_ := match s.ldg.placed.get? f.id with
    | some p => p.recorded
    | none => s.isRecorded f.ream f.d.ledgerClass
  s.postLeaf (f.leaf disp rec_) disp

/-- The place of a leaf among the leaves of its tree. -/
def leafIndex (r : ReamSt) (l : Leaf) : Nat :=
  (r.frames.filter fun x => decide (x.port = l.port ∧ x.recorded = l.recorded) && x.before l).length

/-- Whether every leaf with an earlier stamp of the tree has reached the Ream builder (R663): the ledger port's front
has passed the stamp and no undecided frame of the port precedes it. -/
def State.indexKnown (s : State) (l : Leaf) : Bool :=
  let front := if l.port = injectionPort then s.injFront else s.portFront l.port
  decide (l.stamp < front) &&
    s.ldg.undecided.values.all fun x => !(decide (x.port = l.port ∧ x.ream = l.ream) && x.before l)

/-- A frame's leaf index once it is fixed (R663): computed while the Ream is open, remembered from the seal on. -/
def State.leafIndexOf (s : State) (frame : Nat) : Option Nat :=
  match s.ldg.placed.get? frame with
  | none => none
  | some p =>
    match p.index with
    | some i => some i
    | none =>
      match s.openReam p.ream with
      | none => none
      | some r =>
        match r.frames.find? (·.frame = frame) with
        | some l => if s.indexKnown l then some (leafIndex r l) else none
        | none => none

/-- A record's index once it is fixed. -/
def State.recordIndex (s : State) (r : RecSt) : Option Nat :=
  match r.index with
  | some i => some i
  | none =>
    match s.openReam r.ream with
    | none => none
    | some x => if r.leaf.disp < 0x40 ∧ s.indexKnown r.leaf then some (leafIndex x r.leaf) else none

/-- A frame that leaves the device for good: its leaf's place is forgotten unless an entry still needs it, or a port still sends
it (R195, R331). -/
def State.forget (s : State) (frame : Nat) : State :=
  if s.tm.frames.has frame || (s.ports.values.any fun p => p.txCopy.any fun x => decide (x.1.id = frame)) || (s.qm.sends.any (·.frame = frame)) || (s.qm.recvs.any (·.leaf.frame = frame)) then s
  else { s with ldg := { s.ldg with placed := s.ldg.placed.erase frame } }

end Sys2Proof.Machine
end

