-- ==== Sys2Proof/Machine/Copies.lean ====
section
/-! DEFINITION. Shared operations on the traffic manager's copies: cells, ingress accounting with XOFF and XON (R505,
R516, R517), and what becomes of a copy that leaves (R331, R666). -/

namespace Sys2Proof.Machine

/-- Every copy of a frame that is still queued. -/
def State.copiesOf (s : State) (frame : Nat) : List Copy :=
  s.tm.queues.values.flatMap fun l => l.filter (·.frame = frame)

/-- The flow-control mode of a port (R351). -/
def State.fcMode (s : State) (p : Nat) : Nat := s.fld (F.portFcCfg_mode p)

/-- Whether the traffic manager may assert XOFF for a port and priority (R357, R516, R368). -/
def State.mayXoff (s : State) (p pr : Nat) : Bool :=
  decide (s.fld (F.portFcCfg_txGen p) = 1) &&
    (decide (s.fcMode p = 1) || (decide (s.fcMode p = 2) && (s.fld (F.portFcCfg_pfcEn p)).testBit pr))

/-- A pause frame put before the queued frames for the next frame boundary (R357, R358). -/
def State.sendPause (s : State) (p pr quanta : Nat) : State :=
  s.modPort p fun x => { x with toSend := x.toSend ++ [(if s.fcMode p = 2 then some pr else none, quanta)] }

/-- The time between repeats of an XOFF (R357): QUANTA / 2 * 512 bit times. -/
def State.refreshSpan (s : State) (p : Nat) : Nat := bitTime (s.fld (F.portFcCfg_quanta p) * 256) (s.speed p)

/-- The pause frames of an XOFF that holds begun (R357). -/
def State.sendXoff (s : State) (p pr : Nat) : State :=
  (s.sendPause p pr (s.fld (F.portFcCfg_quanta p))).modPort p fun x => { x with
    refresh := x.refresh.set pr (s.now + s.refreshSpan p) }

/-- XOFF asserted or removed as ingress accounting says (R516); its end is sent while the port generates pause (R357). -/
def State.checkXoff (s : State) (p pr : Nat) : State :=
  let acct := s.tm.acct.getD (p * 8 + pr) 0
  if p < 96 ∧ pr ∉ (s.port p).xoff ∧ s.mayXoff p pr ∧ s.fld (F.tmPfcXoff_cells p pr) ≤ acct then
    (s.sendXoff p pr).modPort p fun x => { x with xoff := pr :: x.xoff }
  else if p < 96 ∧ pr ∈ (s.port p).xoff ∧ acct ≤ s.fld (F.tmPfcXon_cells p pr) then
    let s := if s.mayXoff p pr then s.sendPause p pr 0 else s
    s.modPort p fun x => { x with xoff := x.xoff.erase pr, refresh := x.refresh.erase pr }
  else s

/-- Pause as `PORT_FC_CFG` now has it (R351, R357): a new MODE ends every pause and XOFF of the old one (assumption 105), and an
XOFF that holds is sent while the port generates it. -/
def State.refitPause (s : State) (p : Nat) (newMode : Bool) : State :=
  let s := if newMode then s.modPort p fun x => { x with
      pauses := .empty, holdoffs := .empty, xoff := [], refresh := .empty, toSend := [] }
    else s
  (List.range 8).foldl (fun (s : State) pr =>
    if pr ∉ (s.port p).xoff then s.checkXoff p pr
    else if !s.mayXoff p pr then s.modPort p fun x => { x with refresh := x.refresh.erase pr }
    else if (s.port p).refresh.has pr then s
    else s.sendXoff p pr) s

/-- On-die cells taken by a frame: buffer, lowest free count, ingress accounting (R505, R516, R537). -/
def State.takeCells (s : State) (port pr n : Nat) : State :=
  let used := s.tm.used + n
  let s := { s with tm := { s.tm with
    used, minFree := min s.tm.minFree (0x80000 - used)
    acct := if port < 96 then s.tm.acct.modify (port * 8 + pr) 0 (· + n) else s.tm.acct } }
  s.checkXoff port pr

/-- On-die cells given back. -/
def State.giveCells (s : State) (port pr n : Nat) : State :=
  let left := s.tm.acct.getD (port * 8 + pr) 0 - n
  let s := { s with tm := { s.tm with
    used := s.tm.used - n
    acct := if left = 0 then s.tm.acct.erase (port * 8 + pr) else s.tm.acct.set (port * 8 + pr) left } }
  s.checkXoff port pr

/-- A frame's on-die cells freed when no copy holds them any more, and the frame itself with its last copy (R505, R512). -/
def State.releaseFrame (s : State) (frame : Nat) : State :=
  match s.tm.frames.get? frame with
  | none => s
  | some f =>
    let cs := s.copiesOf frame
    let s := if f.onDie ≠ 0 ∧ cs.all (·.spilled) then
        ({ s with tm := { s.tm with frames := s.tm.frames.set frame { f with onDie := 0 } } }).giveCells f.frame.port
          f.prio f.onDie
      else s
    if cs.isEmpty then { s with tm := { s.tm with frames := s.tm.frames.erase frame } } else s

/-- The same for a frame that has its disposition: with its last copy its leaf's place is forgotten. -/
def State.settleFrame (s : State) (frame : Nat) : State := (s.releaseFrame frame).forget frame

/-- What a port sends ends or gives way to what it sends next: the frame's leaf's place is forgotten. -/
def State.endTx (s : State) (p until_ : Nat) (next : Option (Frame × Bool)) : State :=
  let old := (s.port p).txCopy
  let s := s.modPort p fun x => { x with txUntil := until_, txCopy := next }
  match old with
  | some x => s.forget x.1.id
  | none => s

/-- The scheduling state of ports once a class queue is empty: its deficit is 0 (R520). -/
def clearDeficit (t : Table TmPort) (q : Nat) : Table TmPort :=
  match t.get? (q / 16) with
  | some x => t.set (q / 16) { x with deficits := x.deficits.erase (q % 16) }
  | none => t

/-- A copy taken out of its queue; an empty queue is not listed, and a class queue that becomes empty has no deficit. Its HBM
cells are freed. -/
def State.unqueue (s : State) (c : Copy) : State :=
  let l := (s.queue c.queue).filter (·.id ≠ c.id)
  { s with tm := { s.tm with
    ports := if l.isEmpty ∧ c.queue < 2000 then clearDeficit s.tm.ports c.queue else s.tm.ports
    queues := if l.isEmpty then s.tm.queues.erase c.queue else s.tm.queues.set c.queue l
    hbmUsed := if c.spilled then s.tm.hbmUsed - c.n else s.tm.hbmUsed
    spilling := if l.isEmpty ∧ 10000 ≤ c.queue ∧ c.queue < 1000000 then s.tm.spilling.erase (c.queue - 10000) else s.tm.spilling } }

/-- A frame's disposition known to the SEND entry that brought it, with the port copies it is to wait for (R666). -/
def State.settled (s : State) (f : Frame) (disp left : Nat) : State :=
  s.modQm fun q => { q with sends := q.sends.map fun (e : SendSt) =>
    if e.frame = f.id ∧ ¬e.settled then { e with settled := true, disposition := disp, left, epoch := f.epoch } else e }

/-- A port copy of a SEND frame launched, with its egress stamp, or discarded (R666). -/
def State.settleSend (s : State) (frame : Nat) (launched : Option Stamp) (late : Bool) : State :=
  s.modQm fun q => { q with sends := q.sends.map fun (e : SendSt) =>
    if e.frame = frame then
      { e with
        left := e.left - 1
        copies := if launched.isSome then e.copies + 1 else e.copies
        stamp := if e.copies = 0 then launched.getD 0 else e.stamp
        late := e.late || late }
    else e }

/-- An admitted copy discarded: its DELIVERY_FAILED leaf unless it is a mirror copy (R194), its SEND entry, its
cells. -/
def State.dropCopy (s : State) (c : Copy) (disp : Nat) : State :=
  match s.tm.frames.get? c.frame with
  | none => s.unqueue c
  | some f =>
    let s := if c.mirror then s else s.lateOutcome f.frame disp
    let s := if c.portCopy then s.settleSend c.frame none false else s
    (s.unqueue c).settleFrame c.frame

/-- Copies discarded one after another. -/
def State.dropCopies (s : State) (l : List Copy) (disp : Nat) : State := l.foldl (fun s c => s.dropCopy c disp) s

/-- A copy discarded because its egress port can take none (R331). -/
def State.dropAtPort (s : State) (c : Copy) : State :=
  let t := match s.tm.frames.get? c.frame with | some f => f.frame.stamp | none => s.now
  (s.count (C.portTxDiscard c.port) 1 t).dropCopy c 0x40

/-- Everything queued for a port discarded, the frame in transmission too unless the port drains (R331). -/
def State.flushPort (s : State) (p : Nat) (keepTx : Bool) : State :=
  let s := (List.range 16).foldl (fun s c => (s.queue (qPort p c)).foldl State.dropAtPort s) s
  let s := (s.queue (qHanded p)).foldl State.dropAtPort s
  match (s.port p).txCopy with
  | some (f, mirror) =>
    if keepTx || decide ((s.port p).txUntil ≤ s.now) then s
    else
      let s := s.count (C.portTxDiscard p) 1 f.stamp
      let s := if mirror then s else s.lateOutcome f 0x40
      s.endTx p s.now none
  | none => s

/-- Whether a port takes copies: link up and IN_SERVICE (R331). -/
def State.portTakes (s : State) (p : Nat) : Bool := (s.port p).link && s.up .port 0 p

end Sys2Proof.Machine
end

