-- ==== Sys2Proof/Machine/Errors.lean ====
section
/-! DEFINITION. Errors as their units detect them (R731 to R737), and the completion of SERVICE_STATE (R750, R751). -/

namespace Sys2Proof.Machine

/-- A unit: kind, slice and number. -/
abbrev UnitRef := UnitKind × Nat × Nat

/-- A unit's key in the table of service states. -/
def refKey (u : UnitRef) : Nat := unitKey u.1 u.2.1 u.2.2

/-- Whether a kind's units are numbered within a slice (R750). -/
def perSlice (k : UnitKind) : Bool := decide (k = .parseLane ∨ k = .sm3Engine)

/-- The unit that SERVICE_STATE or an error names, when it exists (R750, R752). -/
def unitOf (u : UnitArgs) : Option UnitRef :=
  match u.kind with
  | none => none
  | some k =>
    if u.unit < kindUnits k ∧ (if perSlice k then u.slice < 8 else u.slice = 0) then some (k, u.slice, u.unit) else none

/-- The class, kind and unit that an error's event carries (R756); no unit reads 0xFF and 0. -/
def errInfo (sev cls : Nat) (u : Option UnitRef) : EvInfo :=
  match u with
  | some (k, sl, n) => { sev, cls, kind := kindCode k, unit := sl * 4096 + n, clear := false }
  | none => { sev, cls, kind := 0xFF, unit := 0, clear := false }

/-- The number of a unit in a snapshot. -/
def unitNumber (u : Option UnitRef) : Nat :=
  match u with
  | some (_, sl, n) => sl * 4096 + n
  | none => 0

/-- Whether an open record is of a unit (R735). -/
def State.recordOpen (s : State) (u : UnitRef) : Bool := s.evr.records.any fun r => decide (r.unit = some (refKey u))

/-- The record of an uncorrected error opened (R733), with the warning that 48 are open. -/
def State.openRecord (s : State) (r : ErrRec) : State :=
  let s := { s with evr := { s.evr with
    records := s.evr.records ++ [r], openHwm := max s.evr.openHwm (s.evr.records.length + 1) } }
  if s.evr.records.length = 48 then s.event 0xB012 2 [] else s

/-- Whether an uncorrectable error of a unit strikes the whole device: no unit, or a slice (R736). -/
def wideUnit (u : Option UnitRef) : Bool :=
  match u with
  | some (k, _, _) => decide (k = .slice)
  | none => true

/-- The class of an uncorrected error: the second one of a unit whose record is open is a UCU (R735). -/
def State.secondOf (s : State) (u : Option UnitRef) : Bool :=
  match u with
  | some r => s.recordOpen r
  | none => false

/-- A UCI or UCU (R733 to R737): its event and counters, its record, or FATAL. `x` is the item of its snapshot. -/
def State.uncorrected (s : State) (cls source : Nat) (u : Option UnitRef) (item : ErrItem) (dma contained : Bool) (x : Nat) :
    Nat × State :=
  let second := s.secondOf u
  let cls := if second then 2 else cls
  let n := unitNumber u
  let code := source * 4096 + (if second then 0xF03 else if cls = 1 then 0xF01 else 0xF02)
  let s := s.eventWith code (errInfo (if cls = 1 then 2 else 3) cls u) (if cls = 1 then [.q n, .q x] else [.q n])
  let s := s.count1 (if cls = 1 then C.evrUci else C.evrUcu)
  let s := { s with tel := { s.tel with uncorrected := s.tel.uncorrected + 1 } }
  if decide (cls = 2) && wideUnit u && !contained then (3, s.fatal code)
  else if 64 ≤ s.evr.records.length then (3, s.fatal code)
  else (cls, s.openRecord { cls, source, unit := u.map refKey, item, dma })

/-- What a snapshot names of the item an error struck: the slot of a flow-table entry (R755), else a free number. -/
def snapItem (item : ErrItem) (y : Nat) : Nat :=
  match item with
  | .slot n => n
  | _ => y

/-- An error detected (R731 to R737): its event and counters, its record, its escalation. Answers the class it is handled
with; 3 once the device is FATAL. `contained` marks the UCUs of R610, which do not escalate. The syndrome and the item
that a snapshot holds have no encoding in the spec and are free, but for the slot of a flow-table entry (R755). -/
def State.detect (s : State) (cls source : Nat) (u : Option UnitRef) (item : ErrItem) (dma contained : Bool) :
    Nat × State :=
  if s.evr.fatal then (3, s)
  else
    let y := (s.draw (2 ^ 32)).1
    let s := (s.draw (2 ^ 32)).2
    let x := snapItem item y
    let code := source * 4096 + 0xF02
    if cls = 0 then
      (0, (s.count1 C.evrCe).eventWith (source * 4096 + 0xF00) (errInfo 0 0 u) [.q (unitNumber u), .q x])
    else if 3 ≤ cls then (3, (s.eventWith code (errInfo 3 3 u) [.q (unitNumber u)]).fatal code)
    else s.uncorrected cls source u item dma contained x

/-- REASON of a unit that leaves service by its own fault (R750): FAULT, or SECOND_ERROR under R735. -/
def faultReason (second : Bool) : Nat := if second then 3 else 2

/-- STATE, REASON and FENCE of a unit (R750): FENCE is where the unit rejoined, once it has. -/
def UnitSt.wb (x : UnitSt) : List (Nat × Bytes) :=
  [(24, le 1 x.state.code), (25, le 1 x.reason), (32, le 8 (if x.state = .inService then x.fence else 0))]

/-- The SERVICE_STATE command that waits for a unit completed with the unit's state, reason and fence (R750, R751). -/
def State.serviceDone (s : State) (u : UnitRef) (status : Nat) : State :=
  let x := s.unit u.1 u.2.1 u.2.2
  match x.token with
  | none => s
  | some t =>
    (s.setUnit u.1 u.2.1 u.2.2 { x with token := none }).adminDone t status
      x.wb

/-- A unit that leaves service by its own fault (R746, R747), whatever command waits for it ending with it: TAKE_OUT has
what it asked for, and RETURN fails. -/
def State.unitFault (s : State) (u : UnitRef) (second : Bool) : State :=
  let x := s.unit u.1 u.2.1 u.2.2
  let wasOut := decide (x.state = .draining)
  let s := s.setUnit u.1 u.2.1 u.2.2 { x with fault := true, role := none, fence := 0 }
  let s := s.moveUnit u.1 u.2.1 u.2.2 .outOfService (faultReason second)
  s.serviceDone u (if wasOut then stSuccess else stInternalError)

end Sys2Proof.Machine
end

