-- ==== Sys2Proof/Machine/Parser.lean ====
section
/-! DEFINITION. The parser of a parse lane (R388 to R396, R401 to R405): recognised headers and levels, bounds and
malformed checks, payload matchers and extractors, and the fragmentation of a frame. Header layouts are those of the
named standards (assumption 14). -/

namespace Sys2Proof.Machine

/-- What a parse depends on: TPID entries (value, valid), tunnel ports, matchers and extractors. -/
structure ParseCfg where
  tpids : List (Nat × Bool)
  vxlan : Nat
  geneve : Nat
  matchers : List Matcher
  extractors : List Extractor
  deriving DecidableEq, Repr

/-- `n` bytes at an offset as a big-endian number; bytes beyond the end read 0. -/
def num (b : Bytes) (p n : Nat) : Nat := beNat ((List.range n).map fun i => b.getD (p + i) 0)

/-- The parser between two headers. `named` is the value that named the next header: a next-protocol value, or the
index of a TPID entry; `v6` is the last IPv6 header's start and payload length. -/
structure ParseSt where
  pos : Nat
  bound : Nat
  vlans : Nat
  labels : Nat
  named : Nat
  hdrs : List Hdr
  codes : List Nat
  trunc : List Nat
  tun : Nat
  v6 : Option (Nat × Nat × Nat × Nat)
  frag : Option FragInfo
  codesBefore : Nat
  ended : Bool
  deriving DecidableEq, Repr

/-- The header that comes next, with its level. -/
abbrev Named := Option (HdrKind × Nat)

/-- The index of the TPID entry that an EtherType matches. -/
def ParseCfg.tpid (c : ParseCfg) (et : Nat) : Option Nat :=
  (List.range c.tpids.length).find? fun i => decide ((c.tpids.getD i (0, false)) = (et, true))

/-- What an EtherType names (R388). -/
def ethNext (c : ParseCfg) (et level : Nat) (st : ParseSt) : ParseSt × Named :=
  match (if st.vlans < 2 then c.tpid et else none) with
  | some i => ({ st with named := i }, some (.vlan, level))
  | none =>
    if et = 0x8847 ∨ et = 0x8848 then ({ st with labels := 0 }, some (.mpls, level))
    else if et = 0x8808 then (st, some (.macControl, level))
    else if et = 0x0806 then (st, some (.arp, level))
    else if et = 0x88E5 then (st, some (.secTag, level))
    else if et = 0x88F7 then (st, some (.ptp, level))
    else if et = 0x0800 then (st, some (.ipv4, level))
    else if et = 0x86DD then (st, some (.ipv6, level))
    else (st, none)

/-- What the protocol of a GRE or GENEVE header names, one level up (R388, R390): an Ethernet header, or what that
EtherType names; a VLAN tag needs an Ethernet header before it. -/
def tunnelNext (c : ParseCfg) (et level : Nat) (st : ParseSt) : ParseSt × Named :=
  if et = 0x6558 then (st, some (.eth, level + 1)) else ethNext c et (level + 1) { st with vlans := 2 }

/-- What an IP protocol or next-header value names (R388, R390). `at0` is where the header would start; only the bytes before
the bound are seen (R394, assumption 112). -/
def ipNext (b : Bytes) (v6 : Bool) (proto level at0 : Nat) (st : ParseSt) : ParseSt × Named :=
  let st := { st with named := proto }
  if proto = 4 then (st, some (.ipv4, level + 1))
  else if proto = 41 then (st, some (.ipv6, level + 1))
  else if v6 ∧ (proto = 0 ∨ proto = 43 ∨ proto = 44 ∨ proto = 60) then (st, some (.ext, level))
  else if proto = 51 then (st, some (.ah, level))
  else if proto = 50 then (st, some (.esp, level))
  else if proto = 47 then (st, if num (b.take st.bound) (at0 + 1) 1 % 8 = 0 then some (.gre, level) else none)
  else if proto = 17 then (st, some (.udp, level))
  else if proto = 6 then (st, some (.tcp, level))
  else if proto = 1 ∨ (v6 ∧ proto = 58) then (st, some (.icmp, level))
  else (st, none)

/-- The fixed part of a header. -/
def fixedLen (k : HdrKind) (named : Nat) : Nat :=
  match k with
  | .eth => 14
  | .vlan | .mpls => 4
  | .macControl => 2
  | .arp => 8
  | .secTag => 6
  | .ptp => 34
  | .ipv4 => 20
  | .ipv6 => 40
  | .ext => if named = 44 then 8 else 2
  | .ah => 12
  | .esp => 8
  | .gre => 4
  | .udp => 8
  | .tcp => 20
  | .icmp => 8
  | .vxlan | .geneve => 8

/-- The codes of R395 that a header records when its fixed part ends beyond the bound. -/
def cutCodes : HdrKind → List Nat
  | .tcp => [0x10, 0x19]
  | .ext | .ah => [0x10, 0x16]
  | .eth | .vlan | .mpls | .macControl | .arp | .secTag | .ptp | .ipv4 | .ipv6 | .esp | .gre | .udp | .icmp | .vxlan
  | .geneve => [0x10]

/-- The length that a header declares, at least its fixed part, and the codes of R395 that its running past the bound
records. -/
def declaredLen (b : Bytes) (p : Nat) (k : HdrKind) (named : Nat) : Nat × List Nat :=
  let n := fixedLen k named
  match k with
  | .ipv4 => (max n (num b p 1 % 16 * 4), cutCodes k)
  | .tcp => (max n (num b (p + 12) 1 / 16 * 4), cutCodes k)
  | .ext => (if named = 44 then 8 else (num b (p + 1) 1 + 1) * 8, cutCodes k)
  | .ah => (max n ((num b (p + 1) 1 + 2) * 4), cutCodes k)
  | .gre =>
    let f := num b p 1
    (4 + 4 * (f / 128 % 2 + f / 32 % 2 + f / 16 % 2), [0x10, 0x16])
  | .geneve => (8 + num b p 1 % 64 * 4, [0x10, 0x16])
  | .arp => (8 + 2 * (num b (p + 4) 1 + num b (p + 5) 1), cutCodes k)
  | .secTag =>
    let t := num b p 1
    (6 + (if t.testBit 5 then 8 else 0) + (if t.testBit 3 then 0 else 2), cutCodes k)
  | .eth | .vlan | .mpls | .macControl | .ptp | .ipv6 | .esp | .udp | .icmp | .vxlan => (n, cutCodes k)

/-- The one's complement sum of a header in 16-bit words, its carries folded. -/
def onesSum (b : Bytes) : Nat → Nat → Nat
  | 0, acc => acc
  | n + 1, acc => onesSum (b.drop 2) n (let x := acc + num b 0 2; x % 65536 + x / 65536)

/-- A code when a test holds. -/
def codeIf (p : Bool) (c : Nat) : List Nat := if p then [c] else []

/-- The fragmentation of a frame taken from the outermost fragmented header (R404, R405). -/
def ParseSt.noteFrag (st : ParseSt) (key : FragKey) (off : Nat) (more : Bool) (payload : Nat) : ParseSt :=
  match st.frag with
  | some _ => st
  | none =>
    { st with
      frag := some { key, offset := off * 8, more, payload, hdrs := st.hdrs.length, codesAfter := [] }
      codesBefore := st.codes.length
      ended := decide (off ≠ 0) }

/-- A header added with the codes it recorded, in ascending order (R396). -/
def ParseSt.add (st : ParseSt) (k : HdrKind) (level p n : Nat) (fs : List (Fld × Nat)) (codes : List Nat) : ParseSt :=
  { st with hdrs := st.hdrs ++ [⟨k, level, p, n, fs⟩], codes := st.codes ++ codes, pos := p + n }

/-- Whether no IP header was parsed before (for TRAILER). -/
def ParseSt.firstIp (st : ParseSt) : Bool := !(st.hdrs.any fun h => decide (h.kind = .ipv4 ∨ h.kind = .ipv6))

/-- Whether an IP header's declared end leaves a trailer (R395): a frame longer than 64 bytes with its FCS. -/
def trailer (b : Bytes) (stop : Nat) : Bool := decide (stop < b.length ∧ 64 < b.length + 4)

/-- An IPv4 header at `p`, `n` bytes long. -/
def parseIpv4 (b : Bytes) (level p n : Nat) (st : ParseSt) : ParseSt × Named :=
  let ihl := num b p 1 % 16
  let total := num b (p + 2) 2
  let ident := num b (p + 4) 2
  let ff := num b (p + 6) 2
  let off := ff % 8192
  let mf := ff.testBit 13
  let proto := num b (p + 9) 1
  let sa := num b (p + 12) 4
  let da := num b (p + 16) 4
  let payload := total - n
  let stop := if total < n then p + n else p + total
  let codes := codeIf (ihl < 5) 0x11 ++ codeIf (decide (st.bound < p + total)) 0x12 ++ codeIf (decide (total < ihl * 4)) 0x13 ++
    codeIf (decide (onesSum (bytesAt b p n) (n / 2) 0 ≠ 65535)) 0x14 ++
    codeIf (decide (off * 8 + payload > 65535) || (mf && decide (payload % 8 ≠ 0))) 0x1A ++
    codeIf (decide (num b p 1 / 16 ≠ 4)) 0x1B ++ codeIf (st.firstIp && trailer b (p + total)) 0x1C
  let fs := [(Fld.ihl, ihl), (.dscp, num b (p + 1) 1 / 4), (.ecn, num b (p + 1) 1 % 4), (.totalLen, total),
    (.ident, ident), (.df, ff / 16384 % 2), (.mf, b2n mf), (.fragOffset, off), (.ttl, num b (p + 8) 1),
    (.protocol, proto), (.sa, sa), (.da, da), (.options, b2n (decide (20 < n)))]
  let st := { st.add .ipv4 level p n fs codes with bound := min st.bound stop, v6 := none }
  let st := if mf ∨ off ≠ 0 then
      st.noteFrag { version := 4, sa, da, ident, proto, tunnel := st.tun } off mf payload
    else st
  if st.ended then (st, none) else ipNext b false proto level (p + n) st

/-- An IPv6 header. -/
def parseIpv6 (b : Bytes) (level p n : Nat) (st : ParseSt) : ParseSt × Named :=
  let w := num b p 4
  let pl := num b (p + 4) 2
  let stop := p + 40 + pl
  let sa := num b (p + 8) 16
  let da := num b (p + 24) 16
  let codes := codeIf (decide (st.bound < stop) || decide (pl = 0)) 0x15 ++
    codeIf (decide (w / 2 ^ 28 ≠ 6)) 0x1B ++ codeIf (st.firstIp && trailer b stop) 0x1C
  let fs := [(Fld.trafficClass, w / 2 ^ 20 % 256), (.flowLabel, w % 2 ^ 20), (.payloadLen, pl),
    (.nextHeader, num b (p + 6) 1), (.hopLimit, num b (p + 7) 1), (.sa, sa), (.da, da)]
  let st := { st.add .ipv6 level p n fs codes with bound := min st.bound stop, v6 := some (p, pl, sa, da) }
  ipNext b true (num b (p + 6) 1) level (p + n) st

/-- An IPv6 extension header, named by `st.named`. -/
def parseExt (b : Bytes) (level p n : Nat) (st : ParseSt) : ParseSt × Named :=
  let nh := num b p 1
  let type := st.named
  if type = 44 then
    let w := num b (p + 2) 2
    let off := w / 8
    let more := w.testBit 0
    let ident := num b (p + 4) 4
    let (start, pl, sa, da) := st.v6.getD (0, 0, 0, 0)
    let payload := start + 40 + pl - (p + 8)
    let codes := codeIf (decide (off * 8 + payload > 65535) || (more && decide (payload % 8 ≠ 0))) 0x1A
    let st := st.add .ext level p n
      [(.extType, type), (.extLen, n), (.fragOffset, off), (.mf, b2n more), (.ident, ident)] codes
    let st := st.noteFrag { version := 6, sa, da, ident, proto := 0, tunnel := st.tun } off more payload
    if st.ended then (st, none) else ipNext b true nh level (p + n) st
  else
    let fs := [(Fld.extType, type), (.extLen, n)] ++
      (if type = 43 then [(.routingType, num b (p + 2) 1), (.segmentsLeft, num b (p + 3) 1)] else [])
    ipNext b true nh level (p + n) (st.add .ext level p n fs [])

/-- A UDP header and what its destination port names. -/
def parseUdp (c : ParseCfg) (b : Bytes) (level p n : Nat) (st : ParseSt) : ParseSt × Named :=
  let dp := num b (p + 2) 2
  let len := num b (p + 4) 2
  let codes := codeIf (decide (st.bound < p + len)) 0x17 ++ codeIf (decide (len < 8)) 0x18
  let st := { st.add .udp level p n [(.srcPort, num b p 2), (.dstPort, dp), (.length, len)] codes with
    bound := min st.bound (p + len) }
  if dp = c.vxlan then (st, some (.vxlan, level))
  else if dp = c.geneve then (st, some (.geneve, level))
  else if dp = 319 ∨ dp = 320 then (st, some (.ptp, level))
  else if dp = 4500 ∧ num (b.take st.bound) (p + 8) 4 ≠ 0 then (st, some (.esp, level))
  else (st, none)

/-- A GRE header of version 0. -/
def parseGre (c : ParseCfg) (b : Bytes) (level p n : Nat) (st : ParseSt) : ParseSt × Named :=
  let f := num b p 1
  let cf := f / 128 % 2
  let kf := f / 32 % 2
  let sf := f / 16 % 2
  let proto := num b (p + 2) 2
  let key := num b (p + 4 + 4 * cf) 4
  let nv := decide (kf = 1 ∧ proto = 0x6558)
  let fs := [(Fld.cFlag, cf), (.kFlag, kf), (.sFlag, sf), (.protocol, proto)] ++
    (if kf = 1 then [(.key, key)] else []) ++
    (if sf = 1 then [(.seqNo, num b (p + 4 + 4 * cf + 4 * kf) 4)] else []) ++
    (if nv then [(.vsid, key / 256), (.flowId, key % 256)] else [])
  let st := { st.add .gre level p n fs [] with tun := if kf = 0 then 0 else if nv then key / 256 else key }
  tunnelNext c proto level st

/-- The header of kind `k` at `p`, `n` bytes long, and what it names (R388, R390). -/
def parseHdr (c : ParseCfg) (b : Bytes) (k : HdrKind) (level p n : Nat) (st : ParseSt) : ParseSt × Named :=
  match k with
  | .eth =>
    let et := num b (p + 12) 2
    let st := { st.add .eth level p n [(.da, num b p 6), (.sa, num b (p + 6) 6), (.etherType, et)] [] with vlans := 0 }
    ethNext c et level st
  | .vlan =>
    let tci := num b p 2
    let st := { st.add .vlan level p n
        [(.tpidIndex, st.named), (.pcp, tci / 8192), (.dei, tci / 4096 % 2), (.vid, tci % 4096)] [] with
      vlans := st.vlans + 1 }
    ethNext c (num b (p + 2) 2) level st
  | .mpls =>
    let w := num b p 4
    let bottom := w.testBit 8
    let st := { st.add .mpls level p n
        [(.label, w / 4096), (.tc, w / 512 % 8), (.sBit, b2n bottom), (.ttl, w % 256)] [] with labels := st.labels + 1 }
    if !bottom then (st, if st.labels < 8 then some (.mpls, level) else none)
    else if st.bound ≤ p + n then (st, none)
    else if num b (p + n) 1 / 16 = 4 then (st, some (.ipv4, level + 1))
    else if num b (p + n) 1 / 16 = 6 then (st, some (.ipv6, level + 1))
    else (st, none)
  | .macControl => (st.add .macControl level p n [(.opcode, num b p 2)] [], none)
  | .arp =>
    let h := num b (p + 4) 1
    let q := num b (p + 5) 1
    (st.add .arp level p n [(.operation, num b (p + 6) 2), (.sha, num b (p + 8) h), (.spa, num b (p + 8 + h) q),
      (.tha, num b (p + 8 + h + q) h), (.tpa, num b (p + 8 + 2 * h + q) q)] [], none)
  | .secTag =>
    let t := num b p 1
    let fs := [(Fld.tci, t / 4), (.an, t % 4), (.sl, num b (p + 1) 1 % 64), (.pn, num b (p + 2) 4)] ++
      (if t.testBit 5 then [(.sci, num b (p + 6) 8)] else [])
    let st := st.add .secTag level p n fs []
    if t.testBit 3 then (st, none) else ethNext c (num b (p + n - 2) 2) level st
  | .ptp =>
    (st.add .ptp level p n [(.messageType, num b p 1 % 16), (.versionPtp, num b (p + 1) 1 % 16),
      (.domain, num b (p + 4) 1), (.flagField, num b (p + 6) 2), (.sequenceId, num b (p + 30) 2)] [], none)
  | .ipv4 => parseIpv4 b level p n st
  | .ipv6 => parseIpv6 b level p n st
  | .ext => parseExt b level p n st
  | .ah =>
    let st := st.add .ah level p n [(.nextHeader, num b p 1), (.spi, num b (p + 4) 4), (.seqNo, num b (p + 8) 4)] []
    ipNext b st.v6.isSome (num b p 1) level (p + n) st
  | .esp => (st.add .esp level p n [(.spi, num b p 4), (.seqNo, num b (p + 4) 4)] [], none)
  | .gre => parseGre c b level p n st
  | .udp => parseUdp c b level p n st
  | .tcp =>
    let doff := num b (p + 12) 1 / 16
    (st.add .tcp level p n [(.srcPort, num b p 2), (.dstPort, num b (p + 2) 2), (.seqNo, num b (p + 4) 4),
      (.ackNo, num b (p + 8) 4), (.dataOffset, doff), (.tcpFlags, num b (p + 12) 2 % 512), (.window, num b (p + 14) 2)]
      (codeIf (decide (doff < 5)) 0x19), none)
  | .icmp => (st.add .icmp level p n [(.icmpType, num b p 1), (.icmpCode, num b (p + 1) 1)] [], none)
  | .vxlan =>
    let vni := num b (p + 4) 3
    ({ st.add .vxlan level p n [(.vxFlags, num b p 1), (.vni, vni)] [] with tun := vni }, some (.eth, level + 1))
  | .geneve =>
    let vni := num b (p + 4) 3
    let f := num b (p + 1) 1
    let fs := [(Fld.version, num b p 1 / 64), (.optLen, num b p 1 % 64), (.oFlag, f / 128), (.cFlag, f / 64 % 2),
      (.protoType, num b (p + 2) 2), (.vni, vni)]
    tunnelNext c (num b (p + 2) 2) level { st.add .geneve level p n fs [] with tun := vni }

/-- The walk over the headers, with the stops of R391 and R392. -/
def parseWalk (c : ParseCfg) (b : Bytes) : Nat → Named → ParseSt → ParseSt
  | 0, _, st => st
  | _, none, st => st
  | fuel + 1, some (k, level), st =>
    if 3 < level then { st with trunc := st.trunc ++ [0x22] }
    else if 20 ≤ st.hdrs.length then { st with trunc := st.trunc ++ [0x20] }
    else if st.bound < st.pos + fixedLen k st.named then { st with codes := st.codes ++ cutCodes k }
    else
      let (n, tooLong) := declaredLen b st.pos k st.named
      if st.bound < st.pos + n then { st with codes := st.codes ++ tooLong }
      else if 512 < st.pos + n then { st with trunc := st.trunc ++ [0x21] }
      else
        let (st', nx) := parseHdr c b k level st.pos n st
        parseWalk c b fuel nx st'

/-- Where an anchor lies (*Payload matching and extraction*). -/
def anchorAt (hdrs : List Hdr) (level payload : Nat) (a : Anchor) : Option Nat :=
  match a with
  | .frame => some 0
  | .outerL3 => (hdrs.find? fun h => decide (h.kind = .ipv4 ∨ h.kind = .ipv6)).map (·.start)
  | .innerL3 => (hdrs.find? fun h => decide (h.level = level ∧ (h.kind = .ipv4 ∨ h.kind = .ipv6))).map (·.start)
  | .innerL4 =>
    (hdrs.find? fun h => decide (h.level = level ∧ (h.kind = .udp ∨ h.kind = .tcp ∨ h.kind = .icmp))).map (·.start)
  | .payload => some payload

/-- The bytes that an entry covers, when its anchor is present and every byte is visible (R402). -/
def window (b : Bytes) (hdrs : List Hdr) (level payload bound : Nat) (a : Anchor) (off width : Nat) : Option Bytes :=
  if width = 0 then none
  else match anchorAt hdrs level payload a with
    | none => none
    | some p => if p + off + width ≤ min 512 bound then some (bytesAt b (p + off) width) else none

/-- Whether a matcher matches (R402). -/
def matcherHits (m : Matcher) (got : Bytes) : Bool :=
  (List.range m.width).all fun i =>
    decide ((got.getD i 0) &&& (m.mask.getD i 0) = (m.value.getD i 0) &&& (m.mask.getD i 0))

/-- A frame parsed from its first byte (R388), bytes before the FCS. -/
def parse (c : ParseCfg) (b : Bytes) : Parsed :=
  let st := parseWalk c b 24 (some (.eth, 0))
    { pos := 0, bound := b.length, vlans := 0, labels := 0, named := 0, hdrs := [], codes := [], trunc := [],
      tun := 0, v6 := none, frag := none, codesBefore := 0, ended := false }
  let level := st.hdrs.foldl (fun a h => max a h.level) 0
  let codes := st.codes ++ st.trunc
  let win := window b st.hdrs level st.pos st.bound
  { hdrs := st.hdrs, codes, trunc := st.trunc, bound := st.bound, payload := st.pos, level
    pattern := (List.range (min 64 c.matchers.length)).filter fun k =>
      match c.matchers[k]? with
      | some m => (match win m.anchor m.offset m.width with | some got => matcherHits m got | none => false)
      | none => false
    pk := (List.range 8).map fun j =>
      match c.extractors[j]? with
      | some e => (win e.anchor e.offset e.width).map beNat
      | none => none
    frag := st.frag.map fun f => { f with codesAfter := codes.drop st.codesBefore } }

end Sys2Proof.Machine
end

