-- ==== Sys2Proof/Machine/Headbox.lean ====
section
/-! DEFINITION. Headbox, parse lanes, Couch and fragment table (R372 to R418). -/

namespace Sys2Proof.Machine

/-! ### Slice buffer -/

/-- Position of injection among the holders of slice buffer cells. -/
def injPos : Nat := 12

/-- The reserve of a position (R375, R378). -/
def State.reserveOf (s : State) (n pos : Nat) : Nat :=
  if pos = injPos then s.fld (F.hbxCtrl_injRsv n) else s.fld (F.hbxPortCfg_rsvCells n pos)

/-- F of R375: free cells that no unfilled port reserve holds. -/
def State.openCells (s : State) (n : Nat) : Nat :=
  (s.slice n).free - (List.range 12).foldl (fun a p => a + (s.reserveOf n p - (s.slice n).heldAt p)) 0

/-- Whether R375 admits a frame of `need` cells. -/
def State.admits (s : State) (n pos cls need : Nat) : Bool :=
  let f := s.openCells n
  let alpha := s.fld (F.hbxClassCfg_alpha n cls)
  let floor := s.fld (F.hbxClassCfg_floor n cls)
  decide ((s.slice n).heldAt pos + need ≤ s.reserveOf n pos) ||
    decide ((s.slice n).cells.getD (pos * 16 + cls) 0 + need ≤ f * 2 ^ alpha / 128 ∧ floor + need ≤ f)

/-- Slice buffer cells taken. -/
def State.takeSlice (s : State) (n pos cls k : Nat) : State :=
  s.modSlice n fun x =>
    let x := { x with cells := x.cells.modify (pos * 16 + cls) 0 (· + k) }
    { x with minFree := min x.minFree x.free }

/-- The position of a frame among the holders of slice buffer cells. -/
def Frame.pos (f : Frame) : Nat := if f.port = injectionPort then injPos else f.port % 12

/-- The slice buffer cells of a frame freed (R372). -/
def State.freeSlice (s : State) (f : Frame) : State :=
  let k := f.pos * 16 + f.admClass
  s.modSlice f.slice fun x =>
    let left := x.cells.getD k 0 - f.cells
    { x with cells := if left = 0 then x.cells.erase k else x.cells.set k left }

/-- A frame dropped inside its slice (R192): leaf, cells. A SEND entry still needs the leaf's place (R664). -/
def State.dropInSlice (s : State) (f : Frame) (disp : Nat) : State :=
  let send := match f.origin with | .send .. => true | _ => false
  ((s.formLeaf f disp send).freeSlice f).settled f disp 0

/-- The TPID entries in effect for a governing stamp. -/
def State.tpidsAt (s : State) (n : Nat) (t : Stamp) : List (Nat × Bool) :=
  (List.range 4).map fun i => (s.fldAt t (F.hbxTpid_tpid n i), decide (s.fldAt t (F.hbxTpid_valid n i) = 1))

/-- The first offset after at most two VLAN tags, where an EtherType stands. -/
def afterTags (tpids : List (Nat × Bool)) (b : Bytes) : Nat → Nat → Nat
  | 0, p => p
  | k + 1, p => if (num b p 2, true) ∈ tpids then afterTags tpids b k (p + 4) else p

/-- The admission class of a port frame (R374). -/
def State.classOf (s : State) (n pos : Nat) (f : Frame) : Nat :=
  let dflt := s.fld (F.hbxPortCfg_class n pos)
  let m := s.fld (F.hbxPortCfg_map n pos)
  let tpids := s.tpidsAt n f.stamp
  match s.fld (F.hbxPortCfg_trust n pos) with
  | 1 =>
    if (num f.bytes 12 2, true) ∈ tpids ∧ 16 ≤ f.bytes.length then
      getBits (s.reg (Reg.hbxPcpMap n m)) (4 * (num f.bytes 14 1 / 32)) 4
    else dflt
  | 2 =>
    let p := afterTags tpids f.bytes 2 12
    let et := num f.bytes p 2
    let dscp := if et = 0x0800 then num f.bytes (p + 3) 1 / 4 else num f.bytes (p + 2) 2 / 64 % 64
    if (et = 0x0800 ∨ et = 0x86DD) ∧ p + 4 ≤ f.bytes.length then
      getBits (s.reg (Reg.hbxDscpMap n m (dscp / 8))) (4 * (dscp % 8)) 4
    else dflt
  | _ => dflt

/-- HEADBOX_ADMISSION (R373 to R377): the next frame of a port's ingress FIFO enters its slice or is dropped; the
port's front moves over it (R23). A slice that is out of service takes no frame; one that drains takes what its ports still
hold (R753). -/
def execHeadboxAdmission (port : Nat) (s : State) : Res :=
  whenWorking s <|
    match (s.port port).fifo with
    | [] => .next s
    | f :: rest =>
      let n := f.slice
      if !s.working .slice 0 n then .next s
      else
        let s := s.modPort port fun x => { x with fifo := rest }
        let s := if f.ream < s.mrg.stepMark then s else s.advanceFront port f.stamp
        let pos := f.pos
        let c := s.classOf n pos f
        let need := cellsOf f.bytes.length
        if !s.admits n pos c need then
          .next (((s.count (C.hbxAdmDrop n c) 1 f.stamp).count (C.hbxPortDrop n pos) 1 f.stamp).formLeaf f 0x11 false)
        else if (s.slice n).free < need then
          .next ((s.count (C.hbxNobufDrop n) 1 f.stamp).formLeaf f 0x12 false)
        else
          let entered := s.liveMark
          .next ((s.takeSlice n pos c need).modSlice n fun x =>
            { x with admitted := x.admitted ++ [{ f with admClass := c, cells := need, entered }] })

/-- INJECTED_FRAME_ADMISSION (R378, R24, R76, R181, R186, R377, R665): the injected frame that waits longest enters the slice when R375 admits
it, with the time of its entry as its injection stamp and the ledger class that LDG_INJ_CLASS then gives; it is dropped when cells
are short all the same. -/
def execInjectedFrameAdmission (slice : Nat) (s : State) : Res :=
  whenWorking s <|
    match (s.slice slice).injWait with
    | [] => .next s
    | f :: rest =>
      let need := cellsOf f.bytes.length
      if !s.working .slice 0 slice || !s.admits slice injPos f.admClass need then .next s
      else
        let t := s.now
        let f := { f with stamp := t, epoch := s.epochAt t, bank := s.bankAt t, ream := s.reamOf t,
                          leafLen := f.bytes.length, digest := sm3 f.bytes,
                          d := { f.d with
                            ledgerClass := s.fld F.ldgInjClass_class
                            rel := f.d.rel.map fun r => (r.1, fullStamp (shortStamp r.2) t) } }
        let s := s.modSlice slice fun x => { x with injWait := rest }
        if (s.slice slice).free < need then .next ((s.count (C.hbxNobufDrop slice) 1 t).dropInSlice f 0x12)
        else
          let f := { f with cells := need, entered := s.liveMark }
          .next (((s.takeSlice slice injPos f.admClass need).modSlice slice fun x =>
            { x with injected := x.injected ++ [f] }).addUndecided f)

/-! ### Dealing -/

/-- The active roles' lanes, in role order. -/
def SliceSt.lanes (x : SliceSt) : List Nat := x.roles.filter (· ≠ 7)

/-- The lane to which sequence `q` goes (R380). -/
def SliceSt.laneFor (x : SliceSt) (q : Nat) : Nat := x.lanes.getD ((q - x.fence) % 2 ^ 32 % x.active) 7

/-- A frame dealt (R380): its sequence, its bank tag and epoch as its stamp decides them (R25, R30), its lane. -/
def State.deal (s : State) (n stream : Nat) (f : Frame) : State :=
  let x := s.slice n
  let q := x.seq
  let first := decide (stream ≠ 13)
  let f := if first then { f with sseq := q, epoch := s.epochAt f.stamp, bank := s.bankAt f.stamp } else f
  let s := s.modSlice n fun x => { x with
    seq := q + 1
    couch := x.couch ++ [{ q, stream, lane := x.laneFor q, frame := f, parsed := none }]
    couchHwm := max x.couchHwm (x.couch.length + 1) }
  if first then { s with ldg := { s.ldg with undecided := s.ldg.undecided.set f.id (f.leaf 0x20 false) } } else s

/-- HEADBOX_DEAL (R379 to R382): one dealing slot. Recirculated frames go first; injected ones ahead of port frames
within INJ_MIN slots of the window, and then, up to INJ_MAX, only when no port frame waits; both as they stood when the injected frame
entered (R15). -/
def execHeadboxDeal (slice : Nat) (s : State) : Res :=
  whenWorking s <|
    let x := s.slice slice
    let taken := if x.slot = 0 then 0 else x.injTaken
    let s := s.modSlice slice fun x => { x with slot := (x.slot + 1) % 256, injTaken := taken }
    let mark := match x.injected with
      | f :: _ => f.entered
      | [] => s.liveMark
    let lo := s.fldSince mark (F.hbxCtrl_injMin slice)
    let hi := s.fldSince mark (F.hbxCtrl_injMax slice)
    if 512 ≤ x.couch.length ∨ x.active = 0 then .next s
    else match x.recirc with
      | f :: r => .next ((s.modSlice slice fun x => { x with recirc := r }).deal slice 13 f)
      | [] =>
        match x.injected, x.admitted with
        | f :: r, adm =>
          if taken < hi ∧ (taken < lo ∨ adm = []) then
            .next ((s.modSlice slice fun x => { x with injected := r, injTaken := taken + 1 }).deal slice injPos f)
          else match adm with
            | g :: q => .next ((s.modSlice slice fun x => { x with admitted := q }).deal slice g.pos g)
            | [] => .next s
        | [], g :: q => .next ((s.modSlice slice fun x => { x with admitted := q }).deal slice g.pos g)
        | [], [] => .next s

/-! ### Parse lanes -/

/-- The parser's configuration for a frame: S-class registers at its stamp, its bank's matchers and extractors. -/
def State.parseCfg (s : State) (n : Nat) (f : Frame) : ParseCfg :=
  let b := s.bank f.bank
  { tpids := s.tpidsAt n f.stamp, vxlan := s.fldAt f.stamp (F.hbxTunnelPorts_vxlan n),
    geneve := s.fldAt f.stamp (F.hbxTunnelPorts_geneve n),
    matchers := match b with | some x => x.matchers | none => [],
    extractors := match b with | some x => x.extractors | none => [] }

/-- PARSE_COMPLETE (R383, R388): the lane hands its result to the Couch. -/
def execParseComplete (slice q : Nat) (s : State) : Res :=
  whenWorking s <|
    .next (s.modSlice slice fun x => { x with couch := x.couch.map fun (c : CouchSt) =>
      if c.q % 2 ^ 32 = q % 2 ^ 32 ∧ c.parsed = none then { c with parsed := some (parse (s.parseCfg slice c.frame) c.frame.bytes) }
      else c })

/-- The lane that can take a role: OUT_OF_SERVICE as the spare (R747). -/
def State.spareLane (s : State) (n : Nat) : Option Nat :=
  (List.range 5).find? fun l =>
    let u := s.unit .parseLane n l
    decide (u.state = .outOfService ∧ u.reason = 6)

/-- A role list with one lane's role given to another, or removed and the rest moved up (R384, R385). -/
def giveRole (roles : List Nat) (lane : Nat) (heir : Option Nat) : List Nat :=
  match heir with
  | some l => roles.map fun x => if x = lane then l else x
  | none => let r := roles.filter fun x => decide (x ≠ lane ∧ x ≠ 7); r ++ List.replicate (4 - r.length) 7

/-- The role of a lane removed at a fence at the next unassigned sequence (R385): event 0x4003. Answers the lane with the lowest
role, which takes the frames of the old one. With no role left the slice can parse nothing: a UCU of the slice, which escalates
to FATAL. -/
def State.removeRole (s : State) (n lane : Nat) : Option Nat × State :=
  let s := s.modSlice n fun x => { x with roles := giveRole x.roles lane none, fence := x.seq }
  let s := s.event 0x4003 3 []
  match (s.slice n).lanes with
  | l :: _ => (some l, s)
  | [] => (none, (s.detect 2 4 (some (.slice, 0, n)) .none false false).2)

/-- The role of a lane that gives it up (R384, R385): to the spare, which enters service, or removed at a fence. Answers
the lane that takes the frames of the old one. -/
def State.vacateLane (s : State) (n lane : Nat) (fence : Bool) : Option Nat × State :=
  let role := (s.slice n).roles.idxOf? lane
  match s.spareLane n with
  | some l =>
    let s := s.modSlice n fun x => { x with
      roles := giveRole x.roles lane (some l), fence := if fence then x.seq else x.fence }
    let s := s.setUnit .parseLane n l { s.unit .parseLane n l with role }
    (some l, s.moveUnit .parseLane n l .inService 0)
  | none => s.removeRole n lane

/-- Every frame dealt to a lane and not yet released dealt again with its original sequence, and counted (R384). -/
def State.redeal (s : State) (n lane : Nat) (heir : Option Nat) : State :=
  match heir with
  | none => s
  | some l =>
    let moved := (s.slice n).couch.filter (·.lane = lane)
    let s := s.modSlice n fun x => { x with couch := x.couch.map fun (c : CouchSt) =>
      if c.lane = lane then { c with lane := l, parsed := none } else c }
    moved.foldl (fun s c => s.count (C.hbxLaneRedealt n) 1 c.frame.stamp) s

/-- Rejoining lanes whose fence the Couch has passed enter service, and a lane that gave up its role is the spare again
(R387). -/
def State.checkRejoin (s : State) (n : Nat) : State :=
  (s.slice n).rejoin.entries.foldl (fun s e =>
    let (lane, giver, fence) := e
    if (s.slice n).couch.any fun c => decide (c.q < fence) then s
    else
      let s := s.modSlice n fun x => { x with rejoin := x.rejoin.erase lane }
      let s := s.setUnit .parseLane n lane { s.unit .parseLane n lane with fence := fence % 2 ^ 32, fault := false }
      let s := (s.moveUnit .parseLane n lane .inService 0).event 0x4002 1 [.q fence]
      let s := if giver = 7 then s
        else
          let s := s.setUnit .parseLane n giver { s.unit .parseLane n giver with role := none }
          s.moveUnit .parseLane n giver .outOfService 6
      s.serviceDone (.parseLane, n, lane) stSuccess) s

/-- A lane in REJOINING asks for a role (R386, R747, R748): the role that the spare holds in another's place, or a new
one while fewer than four are active, at a fence that is placed only while no commit is armed or drains; with neither,
it becomes the spare. -/
def State.rejoinLane (s : State) (n lane : Nat) : State :=
  let x := s.slice n
  if (s.unit .parseLane n lane).state ≠ .rejoining ∨ x.rejoin.has lane then s
  else
    match x.lanes.find? fun l => (s.unit .parseLane n l).role.isSome with
    | none =>
      if 4 ≤ x.active then
        let s := s.moveUnit .parseLane n lane .outOfService 6
        s.serviceDone (.parseLane, n, lane) stSuccess
      else if s.coh.phase = .armed ∨ s.coh.draining ≠ [] then s
      else
        (s.modSlice n fun x => { x with
          fence := x.seq
          roles := x.lanes ++ [lane] ++ List.replicate (3 - x.active) 7
          rejoin := x.rejoin.set lane (7, x.seq) }).checkRejoin n
    | some g =>
      if s.coh.phase = .armed ∨ s.coh.draining ≠ [] then s
      else
        (s.modSlice n fun x => { x with
          fence := x.seq, roles := giveRole x.roles g (some lane), rejoin := x.rejoin.set lane (g, x.seq) }).checkRejoin n

/-- A lane that leaves service by a fault (R384, R385, R387): its frames are dealt again to the lane that takes its role. A lane that
rejoins gives the role back to the lane it had it from, while that one still works. -/
def State.laneLeaves (s : State) (slice lane : Nat) (second : Bool) : State :=
  let u : UnitRef := (.parseLane, slice, lane)
  let s := s.eventWith 0x4001 (errInfo 2 0xFF (some u)) [.q slice, .q lane]
  let (heir, s) := match (s.slice slice).rejoin.get? lane with
    | some (g, _) =>
      let s := s.modSlice slice fun x => { x with rejoin := x.rejoin.erase lane }
      if g = 7 then s.removeRole slice lane
      else if s.working .parseLane slice g then (some g, s.modSlice slice fun x => { x with roles := giveRole x.roles lane (some g) })
      else s.vacateLane slice lane false
    | none =>
      if lane ∈ (s.slice slice).roles then s.vacateLane slice lane false
      else ((s.slice slice).lanes.head?, s)
  ((s.unitFault u second).redeal slice lane heir).checkRejoin slice

/-- PARSE_LANE_FAULT (R384, R385, R387): a UCU of the lane. Its frames are dealt again with their original sequence to the
lane that takes its role, or takes it back. -/
def execParseLaneFault (slice lane : Nat) (s : State) : Res :=
  whenWorking s <|
    let st := (s.unit .parseLane slice lane).state
    if 5 ≤ lane ∨ 8 ≤ slice ∨ ¬(st = .inService ∨ st = .draining ∨ st = .rejoining) then .next s
    else
      let u : UnitRef := (.parseLane, slice, lane)
      let second := s.recordOpen u
      let (cls, s) := s.detect 2 4 (some u) .none false false
      .next (if cls = 3 then s else s.laneLeaves slice lane second)

/-! ### Couch and fragment table -/

/-- The code whose policy drops a frame (R397, R398): the first recorded one with policy DROP. -/
def dropCode (b : Option Bank) (codes : List Nat) : Option Nat :=
  match b with
  | some b => codes.find? (· ∈ b.drops)
  | none => none

/-- The disposition that a code's DROP gives (R398). -/
def codeDisp (c : Nat) : Nat :=
  if c < 0x20 then 0x13
  else if c < 0x30 then 0x14
  else if c = 0x30 then 0x15
  else 0x10

/-- The MALFORMED vector (R395). -/
def malformedVec (codes : List Nat) : Nat := bitsOf 13 ((codes.filter fun c => decide (0x10 ≤ c ∧ c ≤ 0x1C)).map (· - 0x10))

/-- A frame that leaves the Couch with its codes (R396 to R400): each counted once for the frame, dropped by the
policy of its bank, or handed to the pipeline; without a valid bank every frame is dropped (R444). -/
def State.couchOut (s : State) (n : Nat) (f : Frame) (p : Parsed) (fragCodes : List Nat) (follower : Bool) : State :=
  let codes := p.codes ++ fragCodes
  let fresh := codes.eraseDups.filter (· ∉ f.exc)
  let s := fresh.foldl (fun s c => s.count (C.hbxExc n c) 1 f.stamp) s
  let f := { f with exc := f.exc ++ fresh }
  if (s.bank f.bank).isNone then (s.event 0x5006 3 []).dropInSlice f 0x10
  else match dropCode (s.bank f.bank) codes with
  | some c => s.dropInSlice f (codeDisp c)
  | none =>
    s.modSlice n fun x => { x with
      pipe := x.pipe ++ [{ frame := f, parsed := p, first := codes.headD 0, malformed := malformedVec codes, follower }] }

/-- A later fragment's result with the fields of its entry (R407). -/
def Parsed.follow (p : Parsed) (e : FragFields) : Parsed :=
  let hdrs := p.hdrs ++ e.hdrs
  { p with hdrs, codes := p.codes ++ e.codes, pattern := e.pattern, pk := e.pk,
           level := hdrs.foldl (fun a h => max a h.level) 0 }

/-- The fields that an entry keeps of its first fragment (R406). -/
def Parsed.lend (p : Parsed) (i : FragInfo) : FragFields :=
  { hdrs := p.hdrs.drop i.hdrs, pattern := p.pattern, pk := p.pk, codes := i.codesAfter }

/-- The datagram length that a fragment without MF declares (R408). -/
def FragInfo.total (i : FragInfo) : Option Nat := if i.more then none else some (i.offset + i.payload)

/-- An entry that a fragment creates or hits (R408). -/
def FragEntry.touch (e : FragEntry) (i : FragInfo) (t : Stamp) : FragEntry :=
  { e with coverage := e.coverage + i.payload, total := i.total.orElse fun _ => e.total, latest := max e.latest t }

/-- Whether an entry's datagram is covered (R408). -/
def FragEntry.covered (e : FragEntry) : Bool :=
  match e.total with
  | some n => decide (n ≤ e.coverage)
  | none => false

/-- Whether an entry is there for a lookup: not deleted, or deleted in this clock (R409). -/
def FragEntry.there (e : FragEntry) (now : Stamp) : Bool := decide (e.gone = none ∨ e.gone = some now)

/-- The fragment table with an entry replaced, or deleted once covered; entries deleted in earlier clocks are no longer there. -/
def putEntry (l : List FragEntry) (e : FragEntry) (now : Stamp) : List FragEntry :=
  (l.filter fun x => decide (x.key ≠ e.key) && x.there now) ++ [if e.covered then { e with gone := some now } else e]

/-- The entry that a lookup finds (R405, R409). -/
def State.fragOf (s : State) (n : Nat) (key : FragKey) : Option FragEntry :=
  (s.slice n).frags.find? fun x => decide (x.key = key) && x.there s.now

/-- The first byte of the fragmented header that a parse selected (R404). -/
def Parsed.fragAt (p : Parsed) (i : FragInfo) : Nat :=
  match p.hdrs[i.hdrs - 1]? with
  | some h => h.start
  | none => 0

/-- An orphan's result with the fields that R406 caches marked absent (R411). -/
def Parsed.bare (p : Parsed) : Parsed := { p with pattern := [], pk := List.replicate 8 none }

/-- A later fragment released as FOLLOWER of an entry (R407, R408). -/
def State.followEntry (s : State) (n : Nat) (f : Frame) (p : Parsed) (i : FragInfo) (e : FragEntry) : State :=
  let now := s.now
  let s := s.modSlice n fun x => { x with frags := putEntry x.frags (e.touch i f.stamp) now }
  s.couchOut n { f with mark := some (p.fragAt i, true, e.fields, []) } (p.follow e.fields) [] true

/-- The held orphans of a new entry released in ascending sequence, directly after its first fragment (R413). Each takes
the entry's fields as they were made; the entry may be covered, and deleted, on the way. -/
def State.releaseOrphans (s : State) (n : Nat) (e : FragEntry) : State :=
  let mine := (s.slice n).orphans.filter fun c => decide (((c.parsed.bind (·.frag)).map (·.key)) = some e.key)
  let s := s.modSlice n fun x => { x with
    orphans := x.orphans.filter fun c => decide (((c.parsed.bind (·.frag)).map (·.key)) ≠ some e.key) }
  mine.foldl (fun s c =>
    match c.parsed with
    | none => s
    | some p =>
      match p.frag with
      | none => s
      | some i =>
        let s := s.count (C.hbxFragReleased n) 1 c.frame.stamp
        match s.fragOf n i.key with
        | some e' => s.followEntry n c.frame p i e'
        | none => s.couchOut n { c.frame with mark := some (p.fragAt i, true, e.fields, []) } (p.follow e.fields) [] true) s

/-- An orphan put among the held ones in ascending sequence. -/
def insertOrphan (c : CouchSt) : List CouchSt → List CouchSt
  | [] => [c]
  | x :: r => if c.q < x.q then c :: x :: r else x :: insertOrphan c r

/-- A fragmented header that meets the fragment table for the first time. -/
def State.meet (s : State) (n : Nat) (c : CouchSt) (f : Frame) (p : Parsed) (i : FragInfo) : State :=
  let noFields : FragFields := { hdrs := [], pattern := [], pk := [], codes := [] }
  let now := s.now
  match s.fragOf n i.key with
  | some e =>
    if i.offset = 0 then
      let s := s.modSlice n fun x => { x with frags := putEntry x.frags (e.touch i f.stamp) now }
      s.couchOut n { f with mark := some (p.fragAt i, false, noFields, []) } p [] false
    else (s.count (C.hbxFragHit n) 1 f.stamp).followEntry n f p i e
  | none =>
    if i.offset = 0 then
      if 16384 ≤ (s.slice n).liveFrags then
        (s.event 0x4004 2 []).couchOut n { f with mark := some (p.fragAt i, false, noFields, [0x31]) } p [0x31] false
      else
        let e : FragEntry := { key := i.key, fields := p.lend i, coverage := i.payload, total := i.total, latest := f.stamp, gone := none }
        let s := s.modSlice n fun x => { x with frags := putEntry x.frags e now }
        (s.couchOut n { f with mark := some (p.fragAt i, false, noFields, []) } p [] false).releaseOrphans n e
    else if s.fldAt f.stamp (F.hbxFragCfg_mode n) = 1 ∧ (s.slice n).orphans.length < 32 then
      (s.count (C.hbxFragHeld n) 1 f.stamp).modSlice n fun x => { x with
        orphans := insertOrphan { c with frame := f, parsed := some p } x.orphans }
    else
      let s := if s.fldAt f.stamp (F.hbxFragCfg_mode n) = 1 then
          (s.count (C.hbxFragHoldFull n) 1 f.stamp).event 0x4005 1 []
        else s
      s.couchOut n { f with mark := some (p.fragAt i, false, noFields, [0x30]) } p.bare [0x30] false

/-- A frame at the release of the Couch (R404 to R413). A header that it met the table for on an earlier pass is not met again:
the frame keeps what it took then. -/
def State.atRelease (s : State) (n : Nat) (c : CouchSt) (p : Parsed) : State :=
  let f := c.frame
  match p.frag with
  | none => s.couchOut n f p [] false
  | some i =>
    match f.mark with
    | some (k, follower, fields, codes) =>
      if k = p.fragAt i then
        s.couchOut n f (if follower then p.follow fields else if 0x30 ∈ codes then p.bare else p) codes follower
      else s.meet n c f p i
    | none => s.meet n c f p i

/-- COUCH_RELEASE (R381, R383): the parsed frame of sequence `q`, when it is the first of its stream. -/
def execCouchRelease (slice q : Nat) (s : State) : Res :=
  whenWorking s <|
    match (s.slice slice).couch.find? fun c => decide (c.q % 2 ^ 32 = q % 2 ^ 32) with
    | none => .next s
    | some c =>
      match c.parsed with
      | none => .next s
      | some p =>
        if (s.slice slice).couch.any fun d => decide (d.stream = c.stream ∧ d.q < c.q) then .next s
        else
          let s := s.modSlice slice fun x => { x with couch := x.couch.filter (·.q ≠ c.q) }
          .next ((s.atRelease slice c p).checkRejoin slice)

/-- FRAG_ENTRY_TIMEOUT (R408): an entry deleted once the time base has passed its latest fragment by TIMEOUT_US. -/
def execFragEntryTimeout (slice : Nat) (key : FragKey) (s : State) : Res :=
  whenWorking s <|
    match (s.slice slice).frags.find? fun x => decide (x.key = key ∧ x.gone = none) with
    | none => .next s
    | some e =>
      let now := s.now
      if e.latest + s.fld (F.hbxFragCfg_timeoutUs slice) * usStamp < s.now then
        .next ((s.modSlice slice fun x => { x with frags := putEntry x.frags { e with gone := some now } now }).count1 (C.hbxFragTimeout slice))
      else .next s

/-- ORPHAN_HOLD_EXPIRY (R414): a held orphan at its stamp + HOLD_US records code 0x30 and is dropped, whatever the
policy. -/
def execOrphanHoldExpiry (slice q : Nat) (s : State) : Res :=
  whenWorking s <|
    match (s.slice slice).orphans.find? fun c => decide (c.q % 2 ^ 32 = q % 2 ^ 32) with
    | none => .next s
    | some c =>
      if c.frame.stamp + s.fldAt c.frame.stamp (F.hbxFragCfg_holdUs slice) * usStamp ≤ s.now then
        let codes := (match c.parsed with | some p => p.codes | none => []) ++ [0x30]
        let fresh := codes.eraseDups.filter (· ∉ c.frame.exc)
        let s := fresh.foldl (fun s x => s.count (C.hbxExc slice x) 1 c.frame.stamp) s
        let s := s.modSlice slice fun x => { x with orphans := x.orphans.filter (·.q ≠ c.q) }
        .next ((s.count (C.hbxFragHoldExpired slice) 1 c.frame.stamp).dropInSlice c.frame 0x15)
      else .next s

end Sys2Proof.Machine
end

