-- ==== Sys2Proof/Machine/Tables.lean ====
section
/-! DEFINITION. Forwarding and flow tables: placement and relocation (R461 to R467), lookups (R464 to R484), learning,
aging, and the table commands (R490 to R500). -/

namespace Sys2Proof.Machine

/-! ### Cuckoo placement -/

/-- How a cuckoo table's entries name their key and carry their placement sequence. -/
structure CuckooOps (α : Type) where
  table : Nat
  ways : Nat
  key : α → Nat × Nat
  rseq : α → Nat
  setRseq : α → Nat → α
  logMax : Nat

/-- The FDB of a slice: 4 ways of 65,536 slots. -/
def fdbOps (slice : Nat) : CuckooOps FdbEntry :=
  { table := slice, ways := 0x10000, key := fun e => (e.bd, e.mac), rseq := (·.rseq),
    setRseq := fun e n => { e with rseq := n }, logMax := 0x10000 }

/-- A flow key of up to 48 bytes as a number, its missing bytes 0 (R459). -/
def flowKeyNum (k : Bytes) : Nat := beNat k * 256 ^ (48 - k.length)

/-- The flow table: 4 ways of 4,194,304 slots. -/
def flowOps : CuckooOps FlowEntry :=
  { table := 8, ways := 0x400000, key := fun e => (e.profile, flowKeyNum e.key), rseq := (·.rseq),
    setRseq := fun e n => { e with rseq := n }, logMax := 0x100000 }

/-- The four candidate slots of a key, way by way. -/
def CuckooOps.slots {α : Type} (o : CuckooOps α) (k : Nat × Nat) : List Nat :=
  (List.range 4).map fun w => w * o.ways + Config.cuckooSlot o.table w k % o.ways

/-- The slot that holds a key (R464). -/
def CuckooOps.find {α : Type} (o : CuckooOps α) (t : Table α) (k : Nat × Nat) : Option Nat :=
  (o.slots k).find? fun i => match t.get? i with | some e => decide (o.key e = k) | none => false

/-- A chain of exactly `n` relocations that starts by emptying slot `i` and ends in an empty slot (R461). -/
def CuckooOps.chain {α : Type} (o : CuckooOps α) (t : Table α) : Nat → Nat → Option (List Nat)
  | 0, i => if t.has i then none else some [i]
  | n + 1, i =>
    match t.get? i with
    | none => none
    | some e => ((o.slots (o.key e)).filter (· ≠ i)).findSome? fun j => (o.chain t n j).map (i :: ·)

/-- A shortest chain of at most 8 relocations for a key (R461); of equally short ones, the first by way. -/
def CuckooOps.shortest {α : Type} (o : CuckooOps α) (t : Table α) (k : Nat × Nat) : Option (List Nat) :=
  (List.range 9).findSome? fun n => (o.slots k).findSome? fun i => o.chain t n i

/-- A cuckoo table with its placement sequence and its relocation log, newest first; behind the records that the log
keeps stands the latest one it dropped. -/
structure Cuckoo (α : Type) where
  t : Table α
  rseq : Nat
  log : List RelocRec

/-- One relocation (R463, R466, R467). -/
def CuckooOps.move {α : Type} (o : CuckooOps α) (c : Cuckoo α) (i j : Nat) : Cuckoo α :=
  match c.t.get? i with
  | none => c
  | some e =>
    let n := (c.rseq + 1) % 2 ^ 32
    { t := (c.t.erase i).set j (o.setRseq e n), rseq := n
      log := (⟨n, i, j, o.key e, o.rseq e⟩ :: c.log).take (o.logMax + 1) }

/-- The relocations of a chain, from its end back (R461). -/
def CuckooOps.moves {α : Type} (o : CuckooOps α) (c : Cuckoo α) : List Nat → Cuckoo α
  | i :: j :: r => o.move (o.moves c (j :: r)) i j
  | _ => c

/-- A new entry placed: the table and the relocations made, or nothing (R462). -/
def CuckooOps.insert {α : Type} (o : CuckooOps α) (c : Cuckoo α) (e : α) : Option (Cuckoo α × Nat) :=
  match o.shortest c.t (o.key e) with
  | none => none
  | some [] => none
  | some (i :: r) =>
    let c := o.moves c (i :: r)
    let n := (c.rseq + 1) % 2 ^ 32
    some ({ c with t := c.t.set i (o.setRseq e n), rseq := n }, r.length)

/-- Whether placement sequence `a` is at or before `b`. -/
def seqLe (a b : Nat) : Bool := decide ((b + 2 ^ 32 - a) % 2 ^ 32 < 2 ^ 31)

/-- A slice's FDB. -/
def State.fdb (s : State) (n : Nat) : Cuckoo FdbEntry := ⟨(s.tabs n).fdb, (s.tabs n).rseq, (s.tabs n).log⟩

/-- The state with a slice's FDB replaced, its relocations counted. -/
def State.setFdb (s : State) (n : Nat) (c : Cuckoo FdbEntry) (moved : Nat) : State :=
  (s.modTabs n fun t => { t with fdb := c.t, rseq := c.rseq, log := c.log }).count (C.fdbRelocations n) moved s.now

/-- The flow table. -/
def State.flowTab (s : State) : Cuckoo FlowEntry := ⟨s.flow.flow, s.flow.rseq, s.flow.log⟩

/-- The state with the flow table replaced. -/
def State.setFlow (s : State) (c : Cuckoo FlowEntry) : State :=
  { s with flow := { s.flow with flow := c.t, rseq := c.rseq, log := c.log } }

/-! ### Lookups -/

/-- What a lookup delivers: the action index, DEST from the FDB, and the connection of a profile 15 entry (R561). -/
structure Found where
  action : Nat
  dest : Option Nat
  conn : Option Nat
  deriving DecidableEq, Repr

/-- FDB_DST (R473). -/
def State.fdbDst (s : State) (n bd mac : Nat) : Option Found :=
  ((fdbOps n).find (s.tabs n).fdb (bd, mac)).bind fun i =>
    ((s.tabs n).fdb.get? i).map fun e => ⟨e.action, some e.dest, none⟩

/-- An FDB_SRC hit from a port (R472), for what came at a mark (R15) of a frame with a stamp (R36). -/
def State.fdbHit (s : State) (n i : Nat) (port : Option Nat) (mark : Nat) (t : Stamp) : State :=
  match (s.tabs n).fdb.get? i with
  | none => s
  | some e =>
    let away := match port with | some p => decide (e.dest ≠ p) | none => false
    let move := away && !e.static && decide (s.fldSince mark (F.fdbCtrl_moveEn n) = 1)
    let e' := { e with stale := false, dest := if move then port.getD e.dest else e.dest }
    let s := s.modTabs n fun x => { x with fdb := x.fdb.set i e' }
    if move then s.count (C.fdbMoves n) 1 t
    else if away && e.static then s.count (C.fdbMoveBlocked n) 1 t
    else s

/-- Whether an address is a group address or all zeros. -/
def noStation (mac : Nat) : Bool := decide (mac = 0) || decide (mac / 2 ^ 40 % 2 = 1)

/-- A learn request (R468, R469). -/
def State.learn (s : State) (n bd mac port : Nat) (t : Stamp) : State :=
  if s.fld (F.fdbCtrl_learnEn n) ≠ 1 ∨ noStation mac then s
  else if 1024 ≤ (s.tabs n).learnQ.length then (s.count (C.fdbLearnDrop n) 1 t).event 0x6002 2 [.q n]
  else s.modTabs n fun x => { x with
    learnQ := x.learnQ ++ [⟨bd, mac, port, t, s.liveMark⟩], learnHwm := max x.learnHwm (x.learnQ.length + 1) }

/-- An FDB_SRC hit noted for a deletion in the same clock (R477, assumption 107), with the port that its frame arrived on: of what
was noted before, only this clock's stays. -/
def State.noteHit (s : State) (n i : Nat) (port : Option Nat) (t : Stamp) : State :=
  match (s.tabs n).fdb.get? i with
  | some e => s.modTabs n fun x => { x with
      hits := (x.hits.filter fun h => decide (h.at_ = s.now)) ++ [⟨e.bd, e.mac, port, t, e.stale, s.now⟩] }
  | none => s

/-- The lookups of this clock that have hit an entry, the earliest first. -/
def State.hitsNow (s : State) (n : Nat) (e : FdbEntry) : List SrcHit :=
  (s.tabs n).hits.filter fun h => decide (h.at_ = s.now ∧ h.bd = e.bd ∧ h.mac = e.mac)

/-- Whether an entry was STALE before the lookups of this clock. -/
def State.staleThen (s : State) (n : Nat) (e : FdbEntry) : Bool :=
  match s.hitsNow n e with
  | h :: _ => h.stale
  | [] => e.stale

/-- Every FDB entry of a slice that a test selects deleted; each FDB_SRC lookup of a port's frame that hit one in the same clock
makes a learn request (R477). -/
def State.deleteFdb (s : State) (n : Nat) (p : FdbEntry → Bool) : Nat × State :=
  let gone := ((s.tabs n).fdb.filter fun _ e => p e).values
  let s := s.modTabs n fun t => { t with fdb := t.fdb.filter fun _ e => !p e }
  (gone.length, gone.foldl (fun (s : State) e =>
    (s.hitsNow n e).foldl (fun (s : State) h =>
      match h.port with
      | some p => s.learn n h.bd h.mac p h.stamp
      | none => s) s) s)

/-- FDB_SRC (R468, R472): `port` is the ingress port of a frame that arrived on one. -/
def State.fdbSrc (s : State) (n bd mac : Nat) (port : Option Nat) (t : Stamp) : Option Found × State :=
  match (fdbOps n).find (s.tabs n).fdb (bd, mac) with
  | some i =>
    (((s.tabs n).fdb.get? i).map fun e => ⟨e.action, some e.dest, none⟩, (s.noteHit n i port t).fdbHit n i port s.liveMark t)
  | none => (none, match port with | some p => s.learn n bd mac p t | none => s)

/-- A key moved to the front of its set of the flow cache, 8 ways, least recently used out (R479). -/
def touchCache (l : List (Nat × Nat)) (k : Nat × Nat) : List (Nat × Nat) := (k :: l.filter (· ≠ k)).take 8

/-- EXACT (R479, R481): through the slice's cache into the flow table; a hit sets HIT. -/
def State.exact (s : State) (n : Nat) (k : Nat × Nat) (t : Stamp) : Option FlowEntry × State :=
  let set := Config.cacheSet n k % 16384
  let held := (s.tabs n).cache.getD set []
  let s := s.count (if k ∈ held then C.fdbFlowCacheHit n else C.fdbFlowCacheMiss n) 1 t
  let s := s.modTabs n fun x => { x with cache := x.cache.set set (touchCache held k) }
  match flowOps.find s.flow.flow k with
  | none => (none, s)
  | some i =>
    match s.flow.flow.get? i with
    | none => (none, s)
    | some e => (some e, { s with flow := { s.flow with flow := s.flow.flow.set i { e with hit := true } } })

/-- A flow key invalidated in every cache (R480). -/
def State.dropCached (s : State) (k : Nat × Nat) : State :=
  (List.range 8).foldl (fun s n =>
    let set := Config.cacheSet n k % 16384
    s.modTabs n fun x => { x with
      cache := match x.cache.get? set with
        | none => x.cache
        | some l => let r := l.filter (· ≠ k); if r.isEmpty then x.cache.erase set else x.cache.set set r }) s

/-- Whether a route of `bits`-bit addresses matches (R482). -/
def Route.hits (r : Route) (bits vrf addr : Nat) : Bool :=
  decide (r.vrf = vrf ∧ r.pfx / 2 ^ (bits - r.len) = addr / 2 ^ (bits - r.len))

/-- The longest match of a route set (R482). -/
def longest (l : List Route) (bits vrf addr : Nat) : Option Route :=
  (l.filter fun r => r.hits bits vrf addr).foldl (fun a r =>
    match a with
    | none => some r
    | some x => if x.len < r.len then some r else some x) none

/-- The region that a ternary row lies in. -/
def State.regionOf (s : State) (n row : Nat) : Option Nat :=
  (List.range 8).find? fun r =>
    decide (s.fld (F.fdbTcamRegion_base n r) ≤ row ∧
      row < s.fld (F.fdbTcamRegion_base n r) + s.fld (F.fdbTcamRegion_size n r))

/-- Whether a row matches a key for a bank (R442, R484). -/
def TernRow.hits (t : TernRow) (bank : Bool) (key : Nat) : Bool :=
  t.banks.testBit (b2n bank) && decide (t.mask &&& key = t.mask &&& t.value)

/-- TERNARY (R484): the lowest row of a region that matches. -/
def State.ternaryAt (s : State) (n region : Nat) (bank : Bool) (key : Nat) : Option (Nat × TernRow) :=
  let lo := s.fld (F.fdbTcamRegion_base n region)
  let hi := lo + s.fld (F.fdbTcamRegion_size n region)
  (s.tabs n).tern.entries.find? fun e => decide (lo ≤ e.1 ∧ e.1 < hi) && e.2.hits bank key

/-- Its row. -/
def State.ternary (s : State) (n region : Nat) (bank : Bool) (key : Nat) : Option TernRow :=
  (s.ternaryAt n region bank key).map (·.2)

/-! ### Learning and aging -/

/-- LEARN_REQUEST_SERVE (R470, R471): the oldest request of a slice. -/
def execLearnRequestServe (slice : Nat) (s : State) : Res :=
  whenWorking s <|
    match (s.tabs slice).learnQ with
    | [] => .next s
    | q :: rest =>
      let s := s.modTabs slice fun t => { t with learnQ := rest }
      match (fdbOps slice).find (s.tabs slice).fdb (q.bd, q.mac) with
      | some i => .next (s.fdbHit slice i (some q.port) q.mark q.stamp)
      | none =>
        let e : FdbEntry :=
          { bd := q.bd, mac := q.mac, static := false, stale := false, dest := q.port,
            action := s.fldSince q.mark (F.fdbLearnAction_index slice), rseq := 0, pass := (s.tabs slice).pass }
        match (fdbOps slice).insert (s.fdb slice) e with
        | some (c, moved) => .next ((s.setFdb slice c moved).count (C.fdbLearned slice) 1 q.stamp)
        | none => .next ((s.count (C.fdbLearnFail slice) 1 q.stamp).event 0x6001 2 [.q slice, .q q.bd])

/-- The pass that a visit of a slot belongs to, with its start, when the scan has come to the slot (R474): slots without an
entry are passed over; a slot at or before the last one visited begins the next pass. -/
def SliceTables.visitPass (t : SliceTables) (scan slot : Nat) (now : Stamp) : Option (Nat × Stamp) :=
  let bare := fun lo hi => !(t.fdb.keys.any fun k => decide (lo ≤ k ∧ k < hi))
  let due := slot * (scan * secStamp) / 262144
  if scan = 0 ∨ 262144 ≤ slot then none
  else if t.nextSlot ≤ slot ∧ bare t.nextSlot slot ∧ t.passAt + due ≤ now then some (t.pass, t.passAt)
  else if slot < t.nextSlot ∧ bare t.nextSlot 262144 ∧ bare 0 slot ∧ t.passAt + scan * secStamp + due ≤ now then
    some ((t.pass + 1) % 256, max (t.passAt + scan * secStamp) (now - due))
  else none

/-- AGING_VISIT (R474 to R477). -/
def execAgingVisit (slice slot : Nat) (s : State) : Res :=
  whenWorking s <|
    match (s.tabs slice).visitPass (s.fld (F.fdbAgeCfg_scanS slice)) slot s.now with
    | none => .next s
    | some (pass, at0) =>
      let s := s.modTabs slice fun t => { t with pass, passAt := at0, nextSlot := slot + 1 }
      match (s.tabs slice).fdb.get? slot with
      | none => .next s
      | some e =>
        if e.pass = pass then .next s
        else if e.static then .next (s.modTabs slice fun t => { t with fdb := t.fdb.set slot { e with pass } })
        else if s.staleThen slice e then
          .next ((s.deleteFdb slice fun x => decide (x.bd = e.bd ∧ x.mac = e.mac)).2.count1 (C.fdbAged slice))
        else .next (s.modTabs slice fun t => { t with fdb := t.fdb.set slot { e with pass, stale := true } })

/-! ### Table commands -/

/-- The record size of a table (R459). -/
def recordSize (table : Nat) : Nat :=
  match table with
  | 1 => 64
  | 4 => 176
  | _ => 32

/-- A table record as a command writes it (R459). -/
def fdbBytes (slot : Nat) (e : FdbEntry) : Bytes :=
  le 2 e.bd ++ be 6 e.mac ++ le 1 (b2n e.static) ++ le 1 (b2n e.stale) ++ le 2 e.dest ++ le 4 e.action ++ le 4 slot ++
    le 4 e.rseq ++ le 1 e.pass ++ zeros 7

/-- A flow record. -/
def flowBytes (slot : Nat) (e : FlowEntry) : Bytes :=
  le 1 e.profile ++ le 1 e.key.length ++ le 1 (b2n e.hit) ++ zeros 1 ++ le 4 e.action ++ e.key ++
    zeros (48 - e.key.length) ++ le 4 slot ++ le 4 e.rseq

/-- An LPM record of 4- or 16-byte addresses. -/
def routeBytes (v6 : Bool) (r : Route) : Bytes :=
  le 2 r.vrf ++ le 1 r.len ++ zeros 1 ++ le 4 r.action ++ (if v6 then be 16 r.pfx else be 4 r.pfx ++ zeros 12) ++ zeros 8

/-- A ternary record. -/
def ternBytes (row region : Nat) (t : TernRow) : Bytes :=
  le 2 row ++ le 1 region ++ le 1 t.banks ++ le 4 t.action ++ be 80 t.value ++ be 80 t.mask ++ zeros 8

/-- Whether a record fits its table: fields in range, and R460. -/
def recordOk (table : Nat) (r : TableRec) : Bool :=
  match table, r with
  | 0, .fdb bd mac _ dest action =>
    decide (bd < 2 ^ 16 ∧ mac < 2 ^ 48 ∧ action < 2 ^ 32 ∧ (dest < 96 ∨ (0x8000 ≤ dest ∧ dest < 0x9000)))
  | 1, .flow profile key action => decide (profile < 16 ∧ 1 ≤ key.length ∧ key.length ≤ 48 ∧ action < 2 ^ 32)
  | 2, .lpm v6 vrf len pfx action =>
    !v6 && decide (vrf < 2 ^ 16 ∧ len ≤ 32 ∧ pfx < 2 ^ 32 ∧ pfx % 2 ^ (32 - len) = 0 ∧ action < 2 ^ 32)
  | 3, .lpm v6 vrf len pfx action =>
    v6 && decide (vrf < 2 ^ 16 ∧ len ≤ 128 ∧ pfx < 2 ^ 128 ∧ pfx % 2 ^ (128 - len) = 0 ∧ action < 2 ^ 32)
  | 4, .tern row banks action value mask =>
    decide (row < 32768 ∧ banks < 4 ∧ action < 2 ^ 32 ∧ value < 2 ^ 640 ∧ mask < 2 ^ 640) && decide (value &&& mask = value)
  | _, _ => false

/-- A record as a command's buffer holds it (R459, R460, R493): `none` where a field is out of range or a reserved byte is not 0.
What the device alone writes is passed over. -/
def readRecord (table : Nat) (b : Bytes) : Option TableRec :=
  let b := fitBytes (recordSize table) b
  let n := fun (p k : Nat) => leNat (bytesAt b p k)
  let clear := fun (p k : Nat) => decide (bytesAt b p k = zeros k)
  let r : Option TableRec := match table with
    | 0 => if n 8 1 < 2 ∧ n 9 1 < 2 ∧ clear 25 7 then some (.fdb (n 0 2) (beNat (bytesAt b 2 6)) (decide (n 8 1 = 1)) (n 10 2) (n 12 4)) else none
    | 1 =>
      let len := min 48 (n 1 1)
      if n 1 1 = len ∧ n 2 1 < 2 ∧ n 3 1 = 0 ∧ clear (8 + len) (48 - len) then some (.flow (n 0 1) (bytesAt b 8 len) (n 4 4)) else none
    | 2 => if n 3 1 = 0 ∧ clear 12 20 then some (.lpm false (n 0 2) (n 2 1) (beNat (bytesAt b 8 4)) (n 4 4)) else none
    | 3 => if n 3 1 = 0 ∧ clear 24 8 then some (.lpm true (n 0 2) (n 2 1) (beNat (bytesAt b 8 16)) (n 4 4)) else none
    | 4 => if clear 168 8 then some (.tern (n 0 2) (n 3 1) (n 4 4) (beNat (bytesAt b 8 80)) (beNat (bytesAt b 88 80))) else none
    | _ => none
  r.filter (recordOk table)

/-- What a command did in one slice: its status, the relocations it made, and the state. -/
abbrev SliceRes := Nat × Nat × State

/-- TABLE_INSERT into an LPM set of at most `cap` routes (R483). -/
def putRoute (l : List Route) (cap : Nat) (replace : Bool) (r : Route) : Nat × List Route :=
  if l.any fun x => decide (x.vrf = r.vrf ∧ x.len = r.len ∧ x.pfx = r.pfx) then
    if replace then
      (stSuccess, l.map fun x => if x.vrf = r.vrf ∧ x.len = r.len ∧ x.pfx = r.pfx then r else x)
    else (stExists, l)
  else if cap ≤ l.length then (stNoResource, l)
  else (stSuccess, l ++ [r])

/-- TABLE_INSERT of a flow entry (R466, R480). -/
def State.insertFlow (s : State) (replace : Bool) (e : FlowEntry) : SliceRes :=
  let k := flowOps.key e
  match flowOps.find s.flow.flow k with
  | some i =>
    if !replace then (stExists, 0, s)
    else
      let keep := s.flow.flow.getD i e
      let e := { e with rseq := keep.rseq, hit := keep.hit, conn := keep.conn }
      (stSuccess, 0, ({ s with flow := { s.flow with flow := s.flow.flow.set i e } }).dropCached k)
  | none =>
    match flowOps.insert s.flowTab e with
    | some (c, moved) => (stSuccess, moved, (s.setFlow c).dropCached k)
    | none => (stNoResource, 0, s)

/-- TABLE_INSERT in one slice (R491, R493). -/
def State.tableInsert (s : State) (n table : Nat) (replace : Bool) (r : TableRec) : SliceRes :=
  match r with
  | .fdb bd mac static dest action =>
    match (fdbOps n).find (s.tabs n).fdb (bd, mac) with
    | some i =>
      if !replace then (stExists, 0, s)
      else
        let e := (s.tabs n).fdb.getD i ⟨bd, mac, static, false, dest, action, 0, 0⟩
        (stSuccess, 0, s.modTabs n fun t => { t with fdb := t.fdb.set i { e with static, dest, action } })
    | none =>
      match (fdbOps n).insert (s.fdb n)
          { bd, mac, static, stale := false, dest, action, rseq := 0, pass := (s.tabs n).pass } with
      | some (c, moved) => (stSuccess, moved, s.setFdb n c moved)
      | none => (stNoResource, 0, s)
  | .flow profile key action => s.insertFlow replace { profile, key, action, hit := false, rseq := 0, conn := none }
  | .lpm _ vrf len pfx action =>
    let r : Route := { vrf, pfx, len, action }
    if table = 2 then
      let (st, l) := putRoute (s.tabs n).lpm4 524288 replace r
      (st, 0, s.modTabs n fun t => { t with lpm4 := l })
    else
      let (st, l) := putRoute (s.tabs n).lpm6 131072 replace r
      (st, 0, s.modTabs n fun t => { t with lpm6 := l })
  | .tern row banks action value mask =>
    match s.regionOf n row with
    | none => (stInvalidField, 0, s)
    | some g =>
      if s.fld (F.fdbTcamRegion_kind n g) = 1 then (stNotPermitted, 0, s)
      else if (s.tabs n).tern.has row && !replace then (stExists, 0, s)
      else (stSuccess, 0, s.modTabs n fun t => { t with tern := t.tern.set row ⟨banks, action, value, mask⟩ })

/-- A flow entry deleted from HBM and from every cache (R480). -/
def State.deleteFlow (s : State) (k : Nat × Nat) : SliceRes :=
  match flowOps.find s.flow.flow k with
  | none => (stNotFound, 0, s)
  | some i => (stSuccess, 0, ({ s with flow := { s.flow with flow := s.flow.flow.erase i } }).dropCached k)

/-- TABLE_DELETE in one slice. -/
def State.tableDelete (s : State) (n table : Nat) (r : TableRec) : SliceRes :=
  match r with
  | .fdb bd mac _ _ _ =>
    match (fdbOps n).find (s.tabs n).fdb (bd, mac) with
    | some _ => (stSuccess, 0, (s.deleteFdb n fun x => decide (x.bd = bd ∧ x.mac = mac)).2)
    | none => (stNotFound, 0, s)
  | .flow profile key _ => s.deleteFlow (profile, flowKeyNum key)
  | .lpm _ vrf len pfx _ =>
    let l := if table = 2 then (s.tabs n).lpm4 else (s.tabs n).lpm6
    let l' := l.filter fun x => decide ¬(x.vrf = vrf ∧ x.len = len ∧ x.pfx = pfx)
    if l'.length = l.length then (stNotFound, 0, s)
    else (stSuccess, 0, s.modTabs n fun t => if table = 2 then { t with lpm4 := l' } else { t with lpm6 := l' })
  | .tern row _ _ _ _ =>
    match s.regionOf n row with
    | none => (stNotFound, 0, s)
    | some g =>
      if s.fld (F.fdbTcamRegion_kind n g) = 1 then (stNotPermitted, 0, s)
      else if (s.tabs n).tern.has row then (stSuccess, 0, s.modTabs n fun t => { t with tern := t.tern.erase row })
      else (stNotFound, 0, s)

/-- The slices that a command addresses (R490, R492): slice 0 alone for the flow table. -/
def tableSlices (a : TableArgs) : List Nat := if a.table = 1 then [0] else if a.slice = 0xFF then List.range 8 else [a.slice]

/-- A command run in each slice in ascending order: the status of the lowest failing slice, relocations, failed slices,
slices that succeeded (R492). -/
def runSlices (l : List Nat) (f : Nat → State → SliceRes) (s : State) : Nat × Nat × Nat × Nat × State :=
  l.foldl (fun (acc : Nat × Nat × Nat × Nat × State) n =>
    let (st, moved, failed, done, s) := acc
    let (x, k, s) := f n s
    (if st = stSuccess then x else st, moved + k, if x = stSuccess then failed else failed + 2 ^ n,
      if x = stSuccess then done + 1 else done, s)) (stSuccess, 0, 0, 0, s)

/-- The checks of R493 that depend on the entry's own fields. -/
def tableArgsOk (a : TableArgs) : Bool :=
  decide (a.table ≤ 4 ∧ (a.table = 1 ∨ a.slice ≤ 7 ∨ a.slice = 0xFF) ∧ a.flags < 64 ∧ a.flags / 8 % 4 ≠ 3)

/-- The write-back of a command that is performed slice by slice. -/
def tableWb (count moved failed : Nat) : List (Nat × Bytes) :=
  [(40, le 4 count), (44, le 1 (min 255 moved)), (45, le 1 failed)]

/-- A command on one slice that fails in it (R490). -/
def failSlices (s : State) (a : TableArgs) (status : Nat) : AdminRes :=
  (s, some (status, [(45, le 1 (2 ^ ((tableSlices a).headD 0)))]))

/-- TABLE_INSERT (R461 to R467, R480, R491 to R493). -/
def execTableInsert (r : AdminRef) (a : TableArgs) (rec : Bytes) (s : State) : Res :=
  runAdmin true false r s fun s =>
    match (readRecord a.table rec).filter fun _ => tableArgsOk a && decide (recordSize a.table ≤ a.bufLen) with
    | none => failWith s stInvalidField
    | some rec =>
      let (st, moved, failed, done, s) :=
        runSlices (tableSlices a) (fun n s => s.tableInsert n a.table (a.flags.testBit 0) rec) s
      (s, some (st, tableWb done moved failed))

/-- TABLE_DELETE (R477, R480, R491 to R493). -/
def execTableDelete (r : AdminRef) (a : TableArgs) (rec : Bytes) (s : State) : Res :=
  runAdmin true false r s fun s =>
    match (readRecord a.table rec).filter fun _ => tableArgsOk a && decide (recordSize a.table ≤ a.bufLen) with
    | none => failWith s stInvalidField
    | some rec =>
      let (st, _, failed, done, s) := runSlices (tableSlices a) (fun n s => s.tableDelete n a.table rec) s
      (s, some (st, tableWb done 0 failed))

/-- The record that TABLE_SEARCH finds. -/
def State.tableFind (s : State) (n table : Nat) (r : TableRec) : Option Bytes :=
  match r with
  | .fdb bd mac _ _ _ => ((fdbOps n).find (s.tabs n).fdb (bd, mac)).bind fun i => ((s.tabs n).fdb.get? i).map (fdbBytes i)
  | .flow profile key _ =>
    (flowOps.find s.flow.flow (profile, flowKeyNum key)).bind fun i => (s.flow.flow.get? i).map (flowBytes i)
  | .lpm v6 vrf len pfx _ =>
    ((if table = 2 then (s.tabs n).lpm4 else (s.tabs n).lpm6).find? fun x =>
      decide (x.vrf = vrf ∧ x.len = len ∧ x.pfx = pfx)).map (routeBytes v6)
  | .tern row _ _ _ _ => ((s.tabs n).tern.get? row).map (ternBytes row ((s.regionOf n row).getD 0))

/-- TABLE_SEARCH (R491, R493). -/
def execTableSearch (r : AdminRef) (a : TableArgs) (rec : Bytes) (s : State) : Res :=
  runAdmin true false r s fun s =>
    match (readRecord a.table rec).filter fun _ => tableArgsOk a && (decide (a.slice ≠ 0xFF) || decide (a.table = 1)) &&
        decide (recordSize a.table ≤ a.bufLen) with
    | none => failWith s stInvalidField
    | some rec => match s.tableFind a.slice a.table rec with
      | none => failSlices s a stNotFound
      | some b => (s.dma r.fn .writeBack r.buf b, some (stSuccess, [(40, le 4 1)]))

/-- TABLE_FLUSH_PORT (R477, R478, R491, R494). -/
def execTableFlushPort (r : AdminRef) (a : TableArgs) (s : State) : Res :=
  runAdmin true false r s fun s =>
    if !tableArgsOk a || decide (a.table ≠ 0) || decide (95 < a.port) then failWith s stInvalidField
    else
      let kind := a.flags / 8 % 4
      let gone := fun (e : FdbEntry) =>
        decide (e.dest = a.port) && (!a.flags.testBit 5 || decide (e.bd = a.bd)) &&
          (decide (kind = 2) || decide (kind = b2n e.static))
      let (n, s) := (tableSlices a).foldl (fun (acc : Nat × State) sl =>
        let (k, s) := acc.2.deleteFdb sl gone
        (acc.1 + k, s.count (C.fdbFlushed sl) k s.now)) (0, s)
      (s, some (stSuccess, tableWb n 0 0))

/-! ### Walks -/

/-- What a walk reports at a slot (R497): its entry, and the entries that the log shows leaving it, each as the slot where
it stands now and its record. -/
def walkSlot {α : Type} (o : CuckooOps α) (c : Cuckoo α) (walk slot : Nat) : List (Nat × α) :=
  let here := match c.t.get? slot with
    | some e => if seqLe (o.rseq e) walk then [(slot, e)] else []
    | none => []
  let left := c.log.reverse.filter fun x =>
    decide (x.from_ = slot) && seqLe x.prior walk && !seqLe x.seq walk
  here ++ left.filterMap fun x => (o.find c.t x.key).bind fun i => (c.t.get? i).map fun e => (i, e)

/-- A number put in its place in an ascending list. -/
def insertNat (n : Nat) : List Nat → List Nat
  | [] => [n]
  | x :: r => if n < x then n :: x :: r else if n = x then x :: r else x :: insertNat n r

/-- The slots at which a walk can report something, from a position on, ascending. -/
def walkStops {α : Type} (c : Cuckoo α) (pos : Nat) : List Nat :=
  ((c.t.keys ++ c.log.map (·.from_)).foldl (fun l i => insertNat i l) []).filter (pos ≤ ·)

/-- A walk over stops with room for some records: what it reports, and the first slot not examined in full (R498). A slot
whose records do not all fit ends the call before it (assumption 19). -/
def walkOver {α : Type} (o : CuckooOps α) (c : Cuckoo α) (walk last : Nat) : List Nat → Nat → List (Nat × α) × Nat
  | [], _ => ([], last)
  | i :: r, room =>
    let l := walkSlot o c walk i
    if room < l.length then ([], i)
    else if l.length = room then (l, i + 1)
    else
      let (l', p) := walkOver o c walk last r (room - l.length)
      (l ++ l', p)

/-- Whether the log still holds every relocation since a walk began (R493). -/
def logCovers {α : Type} (o : CuckooOps α) (c : Cuckoo α) (walk : Nat) : Bool :=
  (c.log.drop o.logMax).all fun x => seqLe x.seq walk

/-- Route order of a walk (R499). -/
def routeBefore (a b : Route) : Bool :=
  decide (a.vrf < b.vrf ∨ (a.vrf = b.vrf ∧ (a.pfx < b.pfx ∨ (a.pfx = b.pfx ∧ a.len < b.len))))

/-- A route put in its place in walk order. -/
def insertRoute (x : Route) : List Route → List Route
  | [] => [x]
  | y :: r => if routeBefore x y then x :: y :: r else y :: insertRoute x r

/-- The answer of a walk: the records, POS, WALK_SEQ, DONE. -/
def walkWb (count pos walk : Nat) (done : Bool) : List (Nat × Bytes) :=
  [(24, le 4 pos), (28, le 4 walk), (40, le 4 count), (46, le 1 (b2n done))]

/-- TABLE_NEXT on the FDB or the flow table (R496 to R498): the reported entries, POS, WALK_SEQ, DONE; or stale. -/
def walkCuckoo {α : Type} (o : CuckooOps α) (c : Cuckoo α) (a : TableArgs) : Option (List (Nat × α) × Nat × Nat × Bool) :=
  let walk := if a.flags.testBit 1 then c.rseq else a.walkSeq.toNat
  let pos := if a.flags.testBit 1 then 0 else a.pos
  if !logCovers o c walk then none
  else
    let last := 4 * o.ways
    let (l, p) := walkOver o c walk last (walkStops c pos) a.maxRecords
    some (l, p, walk, decide (p = last))

/-- TABLE_NEXT (R495 to R500). `after` is record 0 of the buffer, for LPM walks without START. -/
def execTableNext (r : AdminRef) (a : TableArgs) (after : Option Bytes) (s : State) : Res :=
  runAdmin true false r s fun s =>
    if !tableArgsOk a || (decide (a.slice = 0xFF) && decide (a.table ≠ 1)) || decide (a.maxRecords = 0 ∨ 64 < a.maxRecords) ||
        decide (a.bufLen < a.maxRecords * recordSize a.table) then failWith s stInvalidField
    else
      let n := a.slice
      let stale := fun (s : State) => failSlices (s.event 0x6003 1 [.q a.table, .q (if a.table = 1 then 0 else n)]) a stGenerationStale
      match a.table with
      | 0 =>
        match walkCuckoo (fdbOps n) (s.fdb n) a with
        | none => stale s
        | some (l, p, w, d) =>
          (s.dma r.fn .writeBack r.buf (l.flatMap fun e => fdbBytes e.1 e.2), some (stSuccess, walkWb l.length p w d))
      | 1 =>
        match walkCuckoo flowOps s.flowTab a with
        | none => stale s
        | some (l, p, w, d) =>
          let s := s.dma r.fn .writeBack r.buf (l.flatMap fun e => flowBytes e.1 e.2)
          let cleared := s.flow.flow.map fun i e => if l.any (·.1 = i) then { e with hit := false } else e
          let s := if a.flags.testBit 2 then { s with flow := { s.flow with flow := cleared } } else s
          (s, some (stSuccess, walkWb l.length p w d))
      | 4 =>
        let all := (s.tabs n).tern.entries.filter fun e => decide (a.pos ≤ e.1)
        let l := all.take a.maxRecords
        let next := match (all.drop a.maxRecords).head? with | some e => e.1 | none => 32768
        (s.dma r.fn .writeBack r.buf (l.flatMap fun e => ternBytes e.1 ((s.regionOf n e.1).getD 0) e.2),
          some (stSuccess, walkWb l.length next 0 (decide (next = 32768))))
      | t =>
        let routes := (if t = 2 then (s.tabs n).lpm4 else (s.tabs n).lpm6).foldl (fun l x => insertRoute x l) []
        let start := a.flags.testBit 1
        let after := after.bind (readRecord t)
        if !start && after.isNone then failWith s stInvalidField
        else
          let all := routes.filter fun x =>
            start || (match after with
              | some (.lpm _ vrf len pfx _) => routeBefore ⟨vrf, pfx, len, 0⟩ x
              | _ => true)
          let l := all.take a.maxRecords
          (s.dma r.fn .writeBack r.buf (l.flatMap (routeBytes (decide (t = 3)))),
            some (stSuccess, walkWb l.length 0 0 (decide (all.length ≤ a.maxRecords))))

end Sys2Proof.Machine
end

