-- ==== Sys2Proof/Machine/Pipeline.lean ====
section
/-! DEFINITION. The match-action pipeline: stages, lookups, actions, edits and the end of a pass (R419 to R440), with the
policers of R525. -/

namespace Sys2Proof.Machine

/-! ### Policers -/

/-- Token units of one byte: a rate in kb/s gives one unit per kb/s and stamp unit. -/
def polUnit : Int := 8000000 * 65536

/-- A policer parameter word as it governs a frame (R25, R542): 1 CIR, 2 PIR, 3 CBS, 4 PBS, 5 CFG. -/
def State.polWord (s : State) (t : Stamp) (slice idx word : Nat) : Nat :=
  let k := slice * 0x20000 + idx * 8 + word
  let v := s.regs.pol.getD k 0
  (if s.coh.phase = .armed ∧ s.coh.tc ≤ t then (s.regs.polArmed.get? k).getD v
   else if t < s.coh.effTc then valueBefore s.regs.hist t (fun g => g.pol.get? k) v
   else v).toNat

/-- A bucket's size in the store, which it is full to at boot (R527). -/
def State.polBoot (s : State) (slice idx word : Nat) : Nat := (s.regs.polStore.getD (slice * 0x20000 + idx * 8 + word) 0).toNat

/-- A frame metered by its slice's time copy, that of the slice's port die (R525, R526, assumption 131); buckets start full at
boot (R527). Answers the colour. -/
def State.police (s : State) (slice idx len : Nat) (aware : Bool) (colour : Colour) (t : Stamp) : Colour × State :=
  let x := s.slice slice
  let n := max 1 ((len : Int) + signed 7 (s.polWord t slice idx 5)) * polUnit
  let t0 := s.copyNow (slice / 2)
  let dt : Int := (t0 : Int) - x.polAt.getD idx x.polFrom
  let cbs := (s.polWord t slice idx 3 : Int) * polUnit
  let pbs := (s.polWord t slice idx 4 : Int) * polUnit
  let tc := min cbs (x.polTc.getD idx (s.polBoot slice idx 3 * polUnit) + s.polWord t slice idx 1 * dt)
  let tp := min pbs (x.polTp.getD idx (s.polBoot slice idx 4 * polUnit) + s.polWord t slice idx 2 * dt)
  let (c, tc, tp) :=
    if (aware ∧ colour = .red) ∨ tp < n then (Colour.red, tc, tp)
    else if (aware ∧ colour = .yellow) ∨ tc < n then (Colour.yellow, tc, tp - n)
    else (Colour.green, tc - n, tp - n)
  (c, s.modSlice slice fun x => { x with
    polTc := x.polTc.set idx tc, polTp := x.polTp.set idx tp, polAt := x.polAt.set idx t0 })

/-! ### Metadata -/

/-- A pass in progress: the frame with its decision and work fields, what the stages' lookups delivered (hit, action
index, DEST), and how many COUNT and POLICE actions have run. -/
structure PassSt where
  f : Frame
  p : PipeFrame
  looks : Table (Bool × Nat × Option Nat)
  counts : Nat
  polices : Nat
  len : Nat

/-- The n-th header of a kind at a level. -/
def nthHdr (p : Parsed) (level : Nat) (k : HdrKind) (n : Nat) : Option Hdr :=
  (p.hdrs.filter fun h => decide (h.level = level ∧ h.kind = k))[n]?

/-- The code of a colour. -/
def Colour.code : Colour → Nat
  | .green => 0
  | .yellow => 1
  | .red => 2

/-- A primary destination as metadata: its kind, 0 for none, and its number. -/
def destCode : Option Dest → Nat × Nat
  | none => (0, 0)
  | some (.port n) => (1, n)
  | some (.mcast g) => (2, g)
  | some (.host wq) => (3, wq)
  | some (.merge g) => (4, g)
  | some (.storage c) => (5, c)

/-- A metadata field as a number (*Passes and metadata*); an absent one reads 0. -/
def metaVal (x : PassSt) : MetaField → Nat
  | .hdr level k n f => ((nthHdr x.p.parsed level k n).bind fun h => (h.fields.find? (·.1 = f)).map (·.2)).getD 0
  | .hdrValid level k n => b2n (nthHdr x.p.parsed level k n).isSome
  | .pattern k => b2n (decide (k ∈ x.p.parsed.pattern))
  | .pk j => ((x.p.parsed.pk.getD j none).getD 0)
  | .pkValid j => b2n (x.p.parsed.pk.getD j none).isSome
  | .firstCode => x.p.first
  | .malformed => x.p.malformed
  | .parseTrunc => b2n (!x.p.parsed.trunc.isEmpty)
  | .follower => b2n x.p.follower
  | .ingressPort => x.f.port
  | .injection => b2n (decide (x.f.port = injectionPort))
  | .sendFn => match x.f.origin with | .send _ _ fn _ => fn | _ => 0
  | .sendWq => match x.f.origin with | .send wq _ _ _ => wq | _ => 0
  | .sendPort => match x.f.origin with | .send _ _ _ p => p | _ => 0
  | .admClass => x.f.admClass
  | .stampNs => x.f.stamp / 65536
  | .stampFrac => x.f.stamp % 65536
  | .passNo => x.f.pass
  | .hit st => b2n (x.looks.getD st (false, 0, none)).1
  | .actionIndex st => (x.looks.getD st (false, 0, none)).2.1
  | .hitDest st => (x.looks.getD st (false, 0, none)).2.2.getD 0
  | .destKind => (destCode x.f.d.dest).1
  | .destNum => (destCode x.f.d.dest).2
  | .puntSet => b2n x.f.d.punt.isSome
  | .puntReason => x.f.d.punt.getD 0
  | .mirrorSet m => b2n (decide (m ∈ x.f.d.mirrors))
  | .queueClass => x.f.d.queueClass
  | .mergeGroup => match x.f.d.dest with | some (.merge g) => g | _ => 0
  | .ledgerClass => x.f.d.ledgerClass
  | .relGroup => match x.f.d.rel with | some (g, _) => g | none => 0
  | .relSet => b2n x.f.d.rel.isSome
  | .relTime => match x.f.d.rel with | some (_, t) => t | none => 0
  | .encryptSet => b2n x.f.d.encrypt.isSome
  | .encryptCtx => x.f.d.encrypt.getD 0
  | .decryptSet => b2n x.f.d.decrypt.isSome
  | .decryptCtx => x.f.d.decrypt.getD 0
  | .encapSet => b2n x.f.d.encap.isSome
  | .encapTmpl => x.f.d.encap.getD 0
  | .decapLevel => match x.f.d.decap with | some (l, _) => l | none => 0
  | .dropFlag => b2n x.f.d.drop
  | .recircFlag => b2n x.f.d.recirc
  | .vrf => x.f.vrf
  | .colour => x.f.colour.code
  | .scratch i => x.f.scratch.getD i 0
  | .const v => v

/-- A predicate over the metadata. -/
def predHolds (x : PassSt) : Pred → Bool
  | .always => true
  | .test f mask value => decide (metaVal x f &&& mask = value)
  | .both a b => predHolds x a && predHolds x b
  | .either a b => predHolds x a || predHolds x b
  | .neither a => !predHolds x a

/-- A key as the selector gives it: its fields in order, the first in the highest bits, with its width (assumption 17). -/
def keyOf (x : PassSt) (l : List (MetaField × Nat)) : Nat × Nat :=
  l.foldl (fun a e => (a.1 * 2 ^ e.2 + metaVal x e.1 % 2 ^ e.2, a.2 + e.2)) (0, 0)

/-- The n-th field of a selector. -/
def keyField (x : PassSt) (l : List (MetaField × Nat)) (n : Nat) : Nat :=
  match l[n]? with
  | some (f, w) => metaVal x f % 2 ^ w
  | none => 0

/-- The ingress port of a frame that arrived on one (R468). -/
def Frame.learnPort (f : Frame) : Option Nat := match f.origin with | .port => some f.port | _ => none

/-! ### Lookups -/

/-- A stage's lookup (R422). -/
def State.lookup (s : State) (n : Nat) (b : Bank) (g : Stage) (x : PassSt) : Option Found × State :=
  match g.kind with
  | .none => (none, s)
  | .fdbDst => (s.fdbDst n (keyField x g.key 0 % 65536) (keyField x g.key 1 % 2 ^ 48), s)
  | .fdbSrc => s.fdbSrc n (keyField x g.key 0 % 65536) (keyField x g.key 1 % 2 ^ 48) x.f.learnPort x.f.stamp
  | .exact =>
    let (k, w) := keyOf x g.key
    let (e, s) := s.exact n (g.table, k * 2 ^ (384 - w)) x.f.stamp
    (e.map fun e => ⟨e.action, none, e.conn⟩, s)
  | .lpm4 => ((longest (s.tabs n).lpm4 32 (keyField x g.key 0) (keyField x g.key 1)).map fun r => ⟨r.action, none, none⟩, s)
  | .lpm6 => ((longest (s.tabs n).lpm6 128 (keyField x g.key 0) (keyField x g.key 1)).map fun r => ⟨r.action, none, none⟩, s)
  | .ternary =>
    let (k, w) := keyOf x g.key
    ((s.ternary n g.table x.f.bank (k * 2 ^ (640 - w))).map fun r => ⟨r.action, none, none⟩, s)
  | .index => ((((b.indexTables[g.table]?).bind fun t => t[(keyOf x g.key).1]?)).map fun a => ⟨a, none, none⟩, s)

/-- The words that a stage's lookup reads and that patrol rewrites (R755). -/
def State.wordsRead (s : State) (n i : Nat) (g : Stage) (x : PassSt) : List RuleWord :=
  let route := fun (v6 : Bool) (l : List Route) =>
    ((longest l (if v6 then 128 else 32) (keyField x g.key 0) (keyField x g.key 1)).map fun r =>
      RuleWord.route v6 r.vrf r.pfx r.len).toList
  .stage x.f.bank i :: match g.kind with
    | .index => [.index x.f.bank g.table (keyOf x g.key).1]
    | .lpm4 => route false (s.tabs n).lpm4
    | .lpm6 => route true (s.tabs n).lpm6
    | .ternary =>
      let (k, w) := keyOf x g.key
      ((s.ternaryAt n g.table x.f.bank (k * 2 ^ (640 - w))).map fun e => RuleWord.ternary e.1).toList
    | .none | .fdbDst | .fdbSrc | .exact => []

/-- Whether a stage's lookup reads a word found bad and not rewritten yet (R755). -/
def State.readsBad (s : State) (n i : Nat) (g : Stage) (x : PassSt) : Bool :=
  let bad := (s.slice n).badWords.filter fun e => decide (s.now < e.2)
  !bad.isEmpty && (s.wordsRead n i g x).any fun w => bad.any fun e => decide (e.1 = w)

/-! ### Actions -/

/-- The primary destination that a DEST names (R459). -/
def destOf (d : Nat) : Dest := if 0x8000 ≤ d then .mcast (d % 0x1000) else .port (d % 128)

/-- The destinations with the primary one named last; a primary destination set again is named where it was last set
(R193). -/
def Decision.toward (d : Decision) (x : Dest) : Decision := { d with dest := some x, named := d.named.filter (· ≠ 0) ++ [0] }

/-- An action run in a stage (R425 to R427, R438 to R440); `counted` is whether the stage has run its COUNT. -/
def State.act (s : State) (n stage : Nat) (x : PassSt) (counted : Bool) (a : Action) : PassSt × Bool × State :=
  let d := x.f.d
  let put := fun (d : Decision) => ({ x with f := { x.f with d } }, counted, s)
  match a with
  | .forward x => put (d.toward x)
  | .forwardHit =>
    match (x.looks.getD stage (false, 0, none)).2.2 with
    | some k => put (d.toward (destOf k))
    | none => (x, counted, s)
  | .toHost wq => put (d.toward (.host wq))
  | .drop => put { d with drop := true }
  | .punt r => put { d with punt := some (r % 65536), named := if 1 ∈ d.named then d.named else d.named ++ [1] }
  | .mirror m => if m ∈ d.mirrors ∨ 4 ≤ d.mirrors.length then (x, counted, s) else put { d with mirrors := d.mirrors ++ [m], named := d.named ++ [2 + m] }
  | .recirculate => put { d with recirc := true }
  | .encapsulate t => put { d with encap := some t }
  | .decapsulate l t => put { d with decap := some (l, t) }
  | .encrypt h => put { d with encrypt := some h }
  | .decrypt h => put { d with decrypt := some h }
  | .setQueue c => put { d with queueClass := c % 16 }
  | .mergeGroup g => put (d.toward (.merge g))
  | .ledgerClass c => put { d with ledgerClass := c % 16 }
  | .releaseTime g t =>
    let at0 := match t with
      | .offsetNs k => x.f.stamp + k * nsStamp
      | .pk j => fullStamp ((x.p.parsed.pk.getD j none).getD 0) x.f.stamp
    put { d with rel := some (g, at0) }
  | .rewrite e => put { d with rewrites := d.rewrites ++ [e] }
  | .count i =>
    if 4 ≤ x.counts ∨ counted then (x, counted, s)
    else
      let x' := { x with counts := x.counts + 1 }
      if 1048576 ≤ i then (x', true, s.count (C.pipeBadIndex n) 1 x.f.stamp)
      else (x', true, s.countPair n i x.len x.f.stamp)
  | .police i aware redDrop =>
    if 2 ≤ x.polices then (x, counted, s)
    else
      let x' := { x with polices := x.polices + 1 }
      if 16384 ≤ i then (x', counted, s.count (C.pipeBadIndex n) 1 x.f.stamp)
      else
        let (c, s) := s.police n i x.len aware x.f.colour x.f.stamp
        let d := if c = .red ∧ redDrop then { d with drop := true } else d
        ({ x' with f := { x.f with colour := c, d } }, counted, s)
  | .setMeta dst src =>
    let v := metaVal x src
    match dst with
    | .vrf => ({ x with f := { x.f with vrf := v % 65536 } }, counted, s)
    | .scratch i => ({ x with f := { x.f with scratch := x.f.scratch.set i (v % 2 ^ 32) } }, counted, s)

/-- A list of actions run in order. -/
def State.acts (s : State) (n stage : Nat) (x : PassSt) : List Action → PassSt × State
  | l => let r := l.foldl (fun (acc : PassSt × Bool × State) a => acc.2.2.act n stage acc.1 acc.2.1 a) (x, false, s)
         (r.1, r.2.2)

/-- One stage (R419, R422 to R424). A hit of a connection's entry sends the frame to the connection (R561). A lookup that reads a bad
word misses (R755). -/
def State.runStage (s : State) (n : Nat) (b : Bank) (i : Nat) (x : PassSt) : PassSt × State :=
  match b.stages[i]? with
  | none => (x, s)
  | some g =>
    if !predHolds x g.pred then (x, s)
    else if g.kind = .none then s.acts n i x g.hitList
    else
      match if s.readsBad n i g x then (none, s) else s.lookup n b g x with
      | (none, s) => s.acts n i x g.missList
      | (some r, s) =>
        let x := { x with looks := x.looks.set i (true, r.action, r.dest) }
        match r.conn with
        | some c => s.acts n i { x with f := { x.f with d := x.f.d.toward (.storage c) } } g.hitList
        | none =>
        match b.actions[r.action]? with
        | some l => s.acts n i x (l ++ g.hitList)
        | none => ((s.count (C.pipeBadAction n) 1 x.f.stamp).event 0x5005 2 []).acts n i x g.missList

/-- Stages 0 to 23 in ascending order (R419). -/
def State.runStages (s : State) (n : Nat) (b : Bank) (x : PassSt) : PassSt × State :=
  (List.range 24).foldl (fun (acc : PassSt × State) i => acc.2.runStage n b i acc.1) (x, s)

/-! ### Edits -/

/-- Bytes replaced from an offset on. -/
def putBytes (b : Bytes) (off : Nat) (v : Bytes) : Bytes := b.take off ++ v ++ b.drop (off + v.length)

/-- An IPv4 header of `n` bytes with its checksum computed afresh. -/
def fixIpv4 (b : Bytes) (p n : Nat) : Bytes :=
  let z := putBytes b (p + 10) [0, 0]
  putBytes z (p + 10) (be 2 (65535 - onesSum (bytesAt z p n) (n / 2) 0))

/-- The outermost IP header of a parse. -/
def outerIp (p : Parsed) : Option Hdr := p.hdrs.find? fun h => decide (h.kind = .ipv4 ∨ h.kind = .ipv6)

/-- The first VLAN tag of a parse. -/
def firstTag (p : Parsed) : Option Hdr := p.hdrs.find? (·.kind = .vlan)

/-- One edit of a REWRITE template (R425). Edits of an IPv4 header keep its checksum right (assumption 20). -/
def editFrame (c : ParseCfg) (b : Bytes) (e : EditOp) : Bytes :=
  match e with
  | .setDa v => putBytes b 0 (v.take 6)
  | .setSa v => putBytes b 6 (v.take 6)
  | .pushVlan tpid tci => b.take 12 ++ be 2 tpid ++ be 2 tci ++ b.drop 12
  | .popVlan =>
    match firstTag (parse c b) with
    | some h => b.take (h.start - 2) ++ b.drop (h.start + 2)
    | none => b
  | .decTtl =>
    match outerIp (parse c b) with
    | some h =>
      if h.kind = .ipv4 then fixIpv4 (putBytes b (h.start + 8) (be 1 (num b (h.start + 8) 1 + 255))) h.start h.len
      else putBytes b (h.start + 7) (be 1 (num b (h.start + 7) 1 + 255))
    | none => b
  | .setDscp v =>
    match outerIp (parse c b) with
    | some h =>
      if h.kind = .ipv4 then
        fixIpv4 (putBytes b (h.start + 1) (be 1 (v % 64 * 4 + num b (h.start + 1) 1 % 4))) h.start h.len
      else putBytes b h.start (be 2 (putBits (num b h.start 2) 6 6 v))
    | none => b
  | .setPcp v =>
    match firstTag (parse c b) with
    | some h => putBytes b h.start (be 2 (putBits (num b h.start 2) 13 3 v))
    | none => b

/-- Decapsulation of every header below a level (R425, R435). -/
def decapFrame (c : ParseCfg) (b : Bytes) (level : Nat) (eth : Bytes) : Bytes :=
  match (parse c b).hdrs.find? fun h => decide (level ≤ h.level) with
  | none => b
  | some h =>
    let r := b.drop h.start
    match h.kind with
    | .ipv4 => eth.take 12 ++ be 2 0x0800 ++ r
    | .ipv6 => eth.take 12 ++ be 2 0x86DD ++ r
    | .mpls => eth.take 12 ++ be 2 0x8847 ++ r
    | _ => r

/-- The frame's IP packet, as its outermost IP header declares it; the whole frame when it holds none. -/
def ipPacket (c : ParseCfg) (b : Bytes) : Bytes :=
  match outerIp (parse c b) with
  | some h =>
    let len := if h.kind = .ipv4 then num b (h.start + 2) 2 else 40 + num b (h.start + 4) 2
    bytesAt b h.start len
  | none => b

/-- The addresses, protocol and ports of the innermost level, which the flow hash takes (R434). -/
def hashInput (p : Parsed) : List Nat :=
  (p.hdrs.filter fun h => decide (h.level = p.level)).flatMap fun h =>
    (h.fields.filter fun e => decide (e.1 ∈ [Fld.sa, .da, .protocol, .nextHeader, .srcPort, .dstPort])).map (·.2)

/-- The UDP checksum over IPv6 of `u`, the UDP header and its payload, its checksum field 0. -/
def udp6Sum (sa da u : Bytes) : Nat :=
  let x := sa ++ da ++ be 4 u.length ++ be 4 17 ++ u ++ (if u.length % 2 = 1 then [0] else [])
  let v := 65535 - onesSum x (x.length / 2) 0
  if v = 0 then 65535 else v

/-- Encapsulation with a template (R434). `ident` is the outer IPv4 identification, which the spec leaves open. -/
def encapFrame (c : ParseCfg) (b : Bytes) (t : Template) (ident : Nat) : Bytes :=
  let inner := match t.fmt with
    | .gre | .ipInIp => ipPacket c b
    | .mpls => if t.ipPayload then ipPacket c b else b
    | .vxlan | .geneve | .nvgre => b
  let w := t.bytes ++ inner
  if t.fmt = .mpls then w
  else
    let p := afterTags c.tpids w 2 12 + 2
    let v4 := decide (num w p 1 / 16 = 4)
    let n := if v4 then num w p 1 % 16 * 4 else 40
    let w := if v4 then putBytes (putBytes w (p + 2) (be 2 (w.length - p))) (p + 4) (be 2 ident)
      else putBytes w (p + 4) (be 2 (w.length - p - 40))
    let u := p + n
    let w := if t.fmt = .vxlan ∨ t.fmt = .geneve then
        let h := Config.flowHash (hashInput (parse c b)) % 2 ^ 14
        let w := putBytes w u (be 2 (0xC000 + h))
        let w := putBytes w (u + 4) (be 2 (w.length - u))
        let w := putBytes w (u + 6) (be 2 0)
        if v4 || t.zeroUdp6 then w
        else putBytes w (u + 6) (be 2 (udp6Sum (bytesAt w (p + 8) 16) (bytesAt w (p + 24) 16) (w.drop u)))
      else w
    if v4 then fixIpv4 w p n else w

/-- Where the header that began at `m` begins after an edit; `none` once the edit removed it. -/
def editMark (c : ParseCfg) (b : Bytes) (m : Nat) : EditOp → Option Nat
  | .pushVlan _ _ => some (m + 4)
  | .popVlan => some (if (firstTag (parse c b)).any fun h => decide (h.start ≤ m) then m - 4 else m)
  | .setDa _ | .setSa _ | .decTtl | .setDscp _ | .setPcp _ => some m

/-- Where the header that began at `m` begins after a decapsulation (R435). -/
def decapMark (c : ParseCfg) (b : Bytes) (level m : Nat) : Option Nat :=
  match (parse c b).hdrs.find? fun h => decide (level ≤ h.level) with
  | none => some m
  | some h =>
    if m < h.start then none
    else some (m - h.start + (if h.kind = .ipv4 ∨ h.kind = .ipv6 ∨ h.kind = .mpls then 14 else 0))

/-- Where the header that began at `m` begins after an encapsulation (R434). -/
def encapMark (c : ParseCfg) (b : Bytes) (t : Template) (m : Nat) : Nat :=
  let packet := decide (t.fmt = .gre ∨ t.fmt = .ipInIp) || (decide (t.fmt = .mpls) && t.ipPayload)
  t.bytes.length + m - (match outerIp (parse c b) with
    | some h => if packet then h.start else 0
    | none => 0)

/-- The longest frame before its FCS that a modification may leave (R436). -/
def maxEdited : Nat := 16379

/-- A frame under the modifications of a pass: its bytes, where its marked header begins, and whether a modification made it
longer than R436 allows. -/
structure EditSt where
  bytes : Bytes
  at0 : Option Nat
  long : Bool

/-- The frame after one modification. -/
def EditSt.to (x : EditSt) (bytes : Bytes) (at0 : Nat → Option Nat) : EditSt :=
  { bytes, at0 := x.at0.bind at0, long := x.long || (decide (maxEdited < bytes.length) && decide (bytes ≠ x.bytes)) }

/-- A frame after the REWRITE edits, decapsulation and encapsulation of a pass (R431, R436). -/
def State.editAll (s : State) (n : Nat) (b : Bank) (f : Frame) : EditSt × State :=
  let c := s.parseCfg n f
  let r := f.d.rewrites.foldl (fun acc e => ((b.edits[e]?).getD []).foldl
    (fun (acc : EditSt) o => acc.to (editFrame c acc.bytes o) fun m => editMark c acc.bytes m o) acc)
    { bytes := f.bytes, at0 := f.mark.map (·.1), long := false }
  let r := match f.d.decap with
    | some (l, eth) => r.to (decapFrame c r.bytes l eth) (decapMark c r.bytes l)
    | none => r
  match f.d.encap.bind fun t => b.templates[t]? with
  | some t =>
    let (ident, s) := s.draw 65536
    (r.to (encapFrame c r.bytes t ident) fun m => some (encapMark c r.bytes t m), s)
  | none => (r, s)

/-- A frame with its modifications; a marked header that they removed is met no more. -/
def Frame.edited (f : Frame) (x : EditSt) : Frame :=
  { f with bytes := x.bytes, mark := x.at0.bind fun a => f.mark.map fun m => (a, m.2) }

/-! ### The end of a pass -/

/-- A frame that re-enters the Headbox (R432). -/
def Frame.again (f : Frame) : Frame :=
  { f with pass := f.pass + 1, d := { f.d with decrypt := none, encap := none, decap := none, recirc := false, rewrites := [] } }

/-- The last tests of a frame before hand-off (R429, R430): the counter of the test that drops it. -/
def Decision.endTest (d : Decision) (n : Nat) : Option Nat :=
  if d.dest.isNone ∧ d.punt.isNone ∧ d.mirrors = [] then some (C.pipeNoDest n)
  else if d.rel.isSome && (match d.dest with | some (.host _) | some (.merge _) | some (.storage _) => true | _ => false) then
    some (C.pipeConflict n)
  else none

/-- The end of a pass (R427 to R433, R437). -/
def State.endPass (s : State) (n : Nat) (b : Bank) (x : PassSt) : State :=
  let f := x.f
  let t := f.stamp
  let s := s.count (C.pipePass n (f.pass - 1)) 1 t
  if f.d.drop then (s.count (C.pipeActionDrop n) 1 t).dropInSlice f 0x10
  else
    let (x', s) := s.editAll n b f
    let f := f.edited x'
    if x'.long then (s.count (C.pipeTooLong n) 1 t).dropInSlice f 0x10
    else if f.d.decrypt.isSome ∨ f.d.recirc then
      if s.fldAt t (F.pipeCtrl_maxPasses n) ≤ f.pass then
        ((s.count (C.pipeRecircLimit n) 1 t).event 0x5004 2 [.q n, .q f.port]).dropInSlice f 0x10
      else if f.d.decrypt.isSome then
        { s with tm := { s.tm with input := s.tm.input ++ [{ x.p with frame := f }] } }
      else s.modSlice n fun y => { y with recirc := y.recirc ++ [f.again] }
    else match f.d.endTest n with
      | some c => (s.count c 1 t).dropInSlice f 0x10
      | none => { s with tm := { s.tm with
          input := s.tm.input ++ [{ x.p with frame := { f with d := { f.d with rewrites := [], encap := none, decap := none } } }] } }

/-- PIPELINE_PASS (R419, R420): the next frame of a slice runs one pass of its bank. -/
def execPipelinePass (slice : Nat) (s : State) : Res :=
  whenWorking s <|
    match (s.slice slice).pipe with
    | [] => .next s
    | q :: rest =>
      let s := s.modSlice slice fun x => { x with pipe := rest }
      let f := q.frame
      let f := if f.pass = 1 then { f with d := { f.d with queueClass := f.admClass } } else f
      match s.bank f.bank with
      | none => .next ((s.event 0x5006 3 []).dropInSlice f 0x10)
      | some b =>
        let (x, s) := s.runStages slice b
          { f, p := q, looks := .empty, counts := 0, polices := 0, len := f.bytes.length }
        .next (s.endPass slice b x)

end Sys2Proof.Machine
end

