-- ==== Sys2Proof/Machine/Port.lean ====
section
/-! DEFINITION. Port complex: reception, MAC checks, MACsec receive, pause, link, SAs and adaptation (R317 to R371). -/

namespace Sys2Proof.Machine

/-- Port and FREQ of the clock that a SYNCE_OUT carries: none when it doesn't run, or while its port has no link and SQUELCH is 1
(R132). -/
def State.synceClock (s : State) (n : Nat) : Option (Nat × Nat) :=
  let p := s.fld (F.tbSynceOut_port n)
  if s.fld (F.tbSynceOut_enable n) = 0 ∨ (s.fld (F.tbSynceOut_squelch n) = 1 ∧ (s.port p).link = false) then none
  else some (p, s.fld (F.tbSynceOut_freq n))

/-- Each SYNCE_OUT driven as its register and its port's link now say. -/
def State.refreshSynce (s : State) : State :=
  (List.range 2).foldl (fun (s : State) n =>
    let c := s.synceClock n
    if s.tb.synce.get? n = c then s
    else
      let synce := match c with | some x => s.tb.synce.set n x | none => s.tb.synce.erase n
      ({ s with tb := { s.tb with synce } }).emit (.synceOut n c)) s

/-- A SYNCE_OUT held low (R806). -/
def State.synceLow (s : State) (n : Nat) : State :=
  if s.tb.synce.has n then ({ s with tb := { s.tb with synce := s.tb.synce.erase n } }).emit (.synceOut n none) else s

/-- A configured port that is IN_SERVICE or DRAINING with link up receives (R137, R320). -/
def State.receives (s : State) (p : Nat) : Bool :=
  s.configured p && (s.port p).link &&
    (decide ((s.unit .port 0 p).state = .inService) || decide ((s.unit .port 0 p).state = .draining))

/-- The EtherType of a frame without tags (bytes 12 and 13). -/
def etherType (b : Bytes) : Nat := beNat (bytesAt b 12 2)

/-- Whether the bytes spell a pause frame, its FCS apart (R352): opcode 0x0001 or 0x0101. -/
def pauseOpcode (b : Bytes) : Option Nat :=
  if bytesAt b 0 6 = [0x01, 0x80, 0xC2, 0x00, 0x00, 0x01] ∧ etherType b = 0x8808 then
    let op := beNat (bytesAt b 14 2)
    if op = 0x0001 ∨ op = 0x0101 then some op else none
  else none

/-- A priority paused until a time; quanta 0 ends the pause (R353 to R355), and nothing happens in hold-off
(R360). -/
def State.pausePrio (s : State) (p pr quanta : Nat) : State :=
  if (s.port p).holdoffs.has pr then s
  else if quanta = 0 then s.modPort p fun x => { x with pauses := x.pauses.erase pr }
  else
    let until_ := s.now + bitTime (quanta * 512) (s.speed p)
    s.modPort p fun x => { x with
      pauses := match x.pauses.get? pr with
        | some q => x.pauses.set pr (if q.until_ < s.now then ⟨s.now, until_⟩ else { q with until_ })
        | none => x.pauses.set pr ⟨s.now, until_⟩ }

/-- A pause frame acted on (R353 to R356, R371), as the fields stood when it came (R15). -/
def State.honourPause (s : State) (p op : Nat) (b : Bytes) (t : Stamp) : State :=
  let rd := s.fldSince (s.liveMarkAt t)
  let honour := decide (rd (F.portFcCfg_rxHonour p) = 1)
  let mode := rd (F.portFcCfg_mode p)
  if op = 0x0001 then
    let s := s.count (C.portRxPause p) 1 t
    if honour ∧ mode = 1 then s.pausePrio p 0 (beNat (bytesAt b 16 2)) else s
  else
    let vec := beNat (bytesAt b 16 2)
    let ps := (List.range 8).filter fun k => vec.testBit k
    let s := ps.foldl (fun s k => s.count (C.portRxPfc p k) 1 t) s
    if honour ∧ mode = 2 then
      (ps.filter fun k => (rd (F.portFcCfg_pfcEn p)).testBit k).foldl
        (fun s k => s.pausePrio p k (beNat (bytesAt b (18 + 2 * k) 2))) s
    else s

/-- The words of a key register array as bytes, the first byte in the highest bits (R369). -/
def State.wordsBe (s : State) (base n : Nat) : Bytes := (List.range n).flatMap fun j => be 4 (s.reg (base + 4 * j))

/-- The registers that an INSTALL consumes, cleared (R345). -/
def State.clearSaRegs (s : State) (p : Nat) : State :=
  (List.range 14).foldl (fun s j => s.setReg (Reg.portMsecKey p 0 + 4 * j) 0) s

/-- An SA as a command installs it: from the firmware's values, or from the registers, which are then cleared (R345). -/
def State.saOf (s : State) (p : Nat) (o : SaOp) : SaSt :=
  let suite := s.fld (F.portMsecCfg_suite p)
  let xpn := decide (2 ≤ suite)
  let v : MkaSa := match o.mka with
    | some v => v
    | none =>
      { key := s.wordsBe (Reg.portMsecKey p 0) (if suite % 2 = 0 then 4 else 8), salt := s.wordsBe (Reg.portMsecSalt p 0) 3
        ssci := BitVec.ofNat 32 (s.fld (F.portMsecSsci_ssci p))
        pn := s.fld (F.portMsecPnH_pn p) * 2 ^ 32 + s.fld (F.portMsecPnL_pn p) }
  let pn := if xpn then v.pn else v.pn % 2 ^ 32
  { key := v.key, salt := if xpn then v.salt else [], ssci := if xpn then v.ssci else 0, pn, low := pn, seen := [],
    warned := false, dry := false }

/-- A command on an SA carried out at its frame boundary (R345, R346). -/
def State.applySaOp (s : State) (p : Nat) (o : SaOp) : State :=
  let sa := s.saOf p o
  let put := fun (t : Table SaSt) (k : Nat) => if o.install then t.set k sa else t.erase k
  let s := s.modPort p fun x =>
    if o.rx then { x with rxSas := put x.rxSas (o.sc % 8 * 4 + o.an % 4) } else { x with txSas := put x.txSas (o.an % 4) }
  if o.install ∧ o.mka = none then s.clearSaRegs p else s

/-- The commands on SAs of a port whose frame boundary has come, in their order. -/
def State.applySaOps (s : State) (p : Nat) (due : SaOp → Bool) : State :=
  let l := (s.port p).saOps
  let s := s.modPort p fun x => { x with saOps := l.filter fun o => !due o }
  (l.filter due).foldl (fun (s : State) o => s.applySaOp p o) s

/-- Those of them that no frame holds up: the transmitter between frames, the receiver without a link. -/
def State.settleSa (s : State) (p : Nat) : State :=
  if (s.port p).saOps = [] then s
  else s.applySaOps p fun o => if o.rx then !(s.port p).link else decide ((s.port p).txUntil ≤ s.now)

/-- What MACsec makes of a received frame: passed with the bytes it leaves, or dropped (R343). -/
inductive MsecVerdict where
  | pass (b : Bytes)
  | drop
  deriving DecidableEq, Repr

/-- The PN of a frame: 32 bits, or 64 bits recovered from the next expected PN under an XPN suite (assumption 13). -/
def framePn (xpn : Bool) (next low : Nat) : Nat :=
  if xpn then
    let up := next / 2 ^ 32
    let nlow := next % 2 ^ 32
    if low < nlow ∧ 2 ^ 31 ≤ nlow - low then (up + 1) * 2 ^ 32 + low else up * 2 ^ 32 + low
  else low

/-- Whether a PN is acceptable (R344). -/
def SaSt.accepts (a : SaSt) (window pn : Nat) : Bool :=
  decide (a.pn ≤ pn + window) && decide (a.low ≤ pn) && decide (pn ∉ a.seen)

/-- An SA after a frame with a PN was verified. -/
def SaSt.take (a : SaSt) (pn : Nat) : SaSt := { a with pn := max a.pn (pn + 1), seen := pn :: a.seen }

/-- Two byte strings combined bit by bit. -/
def xorBytes (a b : Bytes) : Bytes := List.zipWith (· ^^^ ·) a b

/-- The nonce of a protected frame: SSCI and PN with the salt under an XPN suite, else SCI and PN. -/
def SaSt.nonce (a : SaSt) (suite sci pn : Nat) : Bytes :=
  if 2 ≤ suite then xorBytes (be 4 a.ssci.toNat ++ be 8 pn) (fitBytes 12 a.salt) else be 8 sci ++ be 4 pn

/-- A verified frame with its SecTAG and ICV removed, deciphered when its E bit says that it is encrypted (R343, IEEE 802.1AE):
the frame, its SA, the suite, its SCI and its PN. -/
def msecOpen (a : SaSt) (suite sci pn : Nat) (b : Bytes) : Bytes :=
  let tci := beNat (bytesAt b 14 1)
  let n := if tci.testBit 5 then 28 else 20
  let short := beNat (bytesAt b 15 1) % 64
  let len := if short = 0 then b.length - n - 16 else short
  let data := bytesAt b n len
  b.take 12 ++ (if tci.testBit 3 then fitBytes len (Config.unseal suite a.key (a.nonce suite sci pn) (b.take n) (bytesAt b n (len + 16)))
    else data)

/-- Whether an EtherType passes without MACsec (R342), by a reading of the fields. -/
def msecBypass (rd : FieldRef → Nat) (p et : Nat) : Bool :=
  decide (et = 0x8808) || (List.range 4).any fun i =>
    decide (rd (F.portMsecBypass_valid p i) = 1 ∧ rd (F.portMsecBypass_ethertype p i) = et)

/-- MACsec on receive (R341 to R344), as the fields stood when the frame came (R15). -/
def State.msecRx (s : State) (p : Nat) (b : Bytes) (rx : RxFrame) (t : Stamp) : MsecVerdict × State :=
  let rd := s.fldSince (s.liveMarkAt t)
  let et := etherType b
  let v := rd (F.portMsecCfg_validate p)
  if rd (F.portMsecCfg_rxEn p) = 0 ∨ msecBypass rd p et then (.pass b, s)
  else if et ≠ 0x88E5 then
    (if v = 2 then .drop else .pass b, s.count (C.portRxMsecUntagged p) 1 t)
  else
    let tci := beNat (bytesAt b 14 1)
    let sci := if tci.testBit 5 then beNat (bytesAt b 20 8) else beNat (bytesAt b 6 6) * 65536 + 1
    let an := tci % 4
    let sc := (List.range 8).find? fun c => decide (rd (F.portMsecRxSc_valid p c) = 1) &&
      decide (rd (F.portMsecRxSciH_sci p c) * 2 ^ 32 + rd (F.portMsecRxSciL_sci p c) = sci)
    let sa := sc.bind fun c => ((s.port p).rxSas.get? (c * 4 + an)).map fun a => (c * 4 + an, a)
    match sa with
    | none => (if v = 2 ∨ (v = 1 ∧ tci.testBit 3) then .drop else .pass b, s.count (C.portRxMsecNosc p) 1 t)
    | some (k, a) =>
      let window := rd (F.portMsecReplay_window p)
      let suite := s.fld (F.portMsecCfg_suite p)
      let pn := framePn (decide (2 ≤ suite)) a.pn (beNat (bytesAt b 16 4))
      if !rx.icvOk then (if v = 0 then .pass b else .drop, s.count (C.portRxMsecFail p) 1 t)
      else if !a.accepts window pn then (if v = 0 then .pass b else .drop, s.count (C.portRxMsecLate p) 1 t)
      else if v = 0 then (.pass b, s)
      else
        let s := s.modPort p fun x => { x with rxSas := x.rxSas.set k (a.take pn) }
        (.pass (msecOpen a suite sci pn b), s.count (C.portRxMsecOk p) 1 t)

/-- Octets a port received or sent, for its telemetry rates (R770). -/
def State.addRate (s : State) (p rx tx : Nat) : State :=
  { s with tel := { s.tel with rates := s.tel.rates.modify p (0, 0) fun r => (r.1 + rx, r.2 + tx) } }

/-- A frame at slice entry: a new number, its Ream, epoch and default class (R181, R199). -/
def State.newFrame (s : State) (slice port : Nat) (origin : Origin) (t : Stamp) (b : Bytes) (wire : Nat) : Frame :=
  { id := s.nextFrame, slice, port, origin, stamp := t, epoch := s.epochAt t, ream := s.reamOf t, bytes := b,
    wireLen := wire, leafLen := b.length, digest := sm3 b, admClass := 0, cells := 0, entered := 0, pass := 1, bank := s.bankAt t,
    sseq := 0,
    d := Decision.init 0 (if port = injectionPort then s.fld F.ldgInjClass_class else s.fld (F.ldgPortCfg_class port)),
    vrf := 0, colour := .green, scratch := List.replicate 8 0, mark := none, exc := [], engFlags := 0,
    crypted := false, item := none }

/-- The capacity of a port's ingress FIFO in bytes: 1 µs at line rate (*Islands and bridges*). -/
def State.fifoBytes (s : State) (p : Nat) : Nat := s.speed p * 125

/-- MAX_FRAME as a frame with a stamp finds it (R15). -/
def State.maxFrameAt (s : State) (p : Nat) (t : Stamp) : Nat := s.fldSince (s.liveMarkAt t) (F.portMacCfg_maxFrame p)

/-- A port's front moves over a frame that was discarded in the port island, unless earlier frames still wait or it was stamped
before a step. -/
def State.frontPast (s : State) (f : Frame) : State :=
  if (s.port f.port).fifo.isEmpty && decide (s.mrg.stepMark ≤ f.ream) then s.advanceFront f.port f.stamp else s

/-- The place of a frame that its port decides: a leaf with a disposition, and the front past it. -/
def State.settleAtPort (s : State) (f : Frame) (disp : Nat) : State :=
  (s.formLeaf f disp false).frontPast f

/-- The counter that MAC checks put a received frame in, and whether it failed them (R334). -/
def State.countReceived (s : State) (p : Nat) (rx : RxFrame) (t : Stamp) : Bool × State :=
  let len := rx.wire.length
  if len < 64 then (true, s.count (C.portRxRunt p) 1 t)
  else if s.maxFrameAt p t < len then (true, s.count (C.portRxOversize p) 1 t)
  else if !rx.fcsOk || rx.linkLost then (true, s.count (C.portRxFcsErr p) 1 t)
  else (false, (s.count (C.portRxFramesOk p) 1 t).count (C.portRxOctetsOk p) len t)

/-- Where the EtherType of a frame stands behind its VLAN tags: fuel, first place to look. -/
def typeAt : Nat → Bytes → Nat → Nat
  | 0, _, p => p
  | k + 1, b, p => if beNat (bytesAt b p 2) = 0x8100 ∨ beNat (bytesAt b p 2) = 0x88A8 then typeAt k b (p + 4) else p

/-- Whether a frame carries a PTP event message (*IEEE 1588-2019 operation*): messageType below 4 behind EtherType 0x88F7, or UDP
destination port 319. -/
def ptpEvent (b : Bytes) : Bool :=
  let p := typeAt 4 b 12
  let at_ := fun (i n : Nat) => beNat (bytesAt b (p + 2 + i) n)
  match beNat (bytesAt b p 2) with
  | 0x88F7 => decide (at_ 0 1 % 16 < 4)
  | 0x0800 => decide (at_ 9 1 = 17 ∧ at_ (at_ 0 1 % 16 * 4 + 2) 2 = 319)
  | 0x86DD => decide (at_ 6 1 = 17 ∧ at_ 42 2 = 319)
  | _ => false

/-- The stamp of a received PTP event message kept for the PTP instance (R108, R164). -/
def State.notePtp (s : State) (f : Frame) : State :=
  if ptpEvent f.bytes then { s with tb := { s.tb with ptpRx := s.tb.ptpRx ++ [(f.port, f.stamp)] } } else s

/-- A frame that the MAC and MACsec pass on meets the ingress FIFO (R188); one that finds it full keeps its stamp and the length
that `leafLen` gives, with a digest of zeros. -/
def State.toFifo (s : State) (f : Frame) (bad : Bool) (received : Nat) : State :=
  let full := decide (s.fifoBytes f.port ≤ (s.port f.port).fifo.foldl (fun a x => a + x.wireLen) 0)
  if full then
    (s.count (C.portRxFifoDrop f.port) 1 f.stamp).settleAtPort { f with digest := zeros 32, leafLen := received }
      (if bad then 0x18 else 0x12)
  else if bad then s.settleAtPort f 0x18
  else ((s.addUndecided f).notePtp f).modPort f.port fun x => { x with fifo := x.fifo ++ [f] }

/-- FRAME_RECEIVED (R137): stamped at the ball, counted in exactly one of four counters, cut at MAX_FRAME, paused by,
verified, and put in the ingress FIFO, or committed here when the port has decided its disposition. Its SFD comes after the last
frame and after the last idle marker (R23, assumption 106). -/
def execFrameReceived (port : Nat) (rx : RxFrame) (s : State) : Res :=
  whenWorking s <|
    let t := s.ingressStamp (s.reamTaken rx.steps rx.tLatch) (s.rateOf port) rx.lane rx.tLatch rx.bit
    if !s.receives port || !decide (port ≤ rx.lane ∧ rx.lane < port + s.lanesOf port) || !s.latched (dieOf rx.lane) rx.steps rx.tLatch ||
        decide (rx.steps = 0) && decide (t + 100 * nsStamp < s.ldg.idleNext.getD port 0) then .next s
    else
      let len := rx.wire.length
      let kept := rx.wire.take (s.maxFrameAt port t)
      let body := kept.take (kept.length - 4)
      let (bad, s) := s.countReceived port rx t
      let f := { s.newFrame (sliceOf port) port .port t body len with ream := s.reamTaken rx.steps t }
      let endAt := (if rx.steps = 0 then t else s.now) + bitTime ((len + 1) * 8) (s.speed port)
      let s := { s with
        nextFrame := s.nextFrame + 1
        ldg := { s.ldg with idleNext := s.ldg.idleNext.set port (endAt + 100 * nsStamp) } }
      let s := (s.modPort port fun x => { x with lastEnd := endAt }).addRate port len 0
      let s := s.applySaOps port fun o => o.rx && decide (o.at_ ≤ t)
      let s := match (if bad then none else pauseOpcode body) with
        | some op => (s.honourPause port op body t).settleAtPort f 0x04
        | none =>
          if bad then s.toFifo f true kept.length
          else match s.msecRx port body rx t with
            | (.drop, s) => s.settleAtPort f 0x16
            | (.pass b, s) => s.toFifo { f with bytes := b, leafLen := b.length, digest := sm3 b } false len
      .next (s.applySaOps port fun o => o.rx)

/-- UNDECODABLE_START (R138): counted, not stamped. -/
def execUndecodableStart (port : Nat) (s : State) : Res :=
  whenWorking s (if s.receives port then .next (s.count1 (C.portRxPcsErr port)) else .next s)

/-- PAUSE_EXPIRY (R353): a pause whose time has run out ends. -/
def execPauseExpiry (port prio : Nat) (s : State) : Res :=
  whenWorking s <|
    match (s.port port).pauses.get? prio with
    | some q =>
      if q.until_ ≤ s.now then .next (s.modPort port fun x => { x with pauses := x.pauses.erase prio }) else .next s
    | none => .next s

/-- PAUSE_REFRESH (R357): an XOFF that still holds is sent again while the port generates pause. -/
def execPauseRefresh (port prio : Nat) (s : State) : Res :=
  whenWorking s <|
    match (s.port port).refresh.get? prio with
    | some t =>
      if t ≤ s.now ∧ s.mayXoff port prio then
        .next ((s.sendPause port prio (s.fld (F.portFcCfg_quanta port))).modPort port fun x =>
          { x with refresh := x.refresh.set prio (t + s.refreshSpan port) })
      else .next s
    | none => .next s

/-- PFC_WATCHDOG_FIRE (R359, R361): a pause without interruption for WD_MS is lifted for HOLDOFF_MS. -/
def execPfcWatchdogFire (port prio : Nat) (s : State) : Res :=
  whenWorking s <|
    let wd := s.fld (F.portFcWd_wdMs port)
    match (s.port port).pauses.get? prio with
    | some q =>
      if wd ≠ 0 ∧ q.since + wd * msStamp ≤ s.now ∧ q.since + wd * msStamp ≤ q.until_ then
        let s := s.modPort port fun x => { x with
          pauses := x.pauses.erase prio
          holdoffs := x.holdoffs.set prio (s.now + s.fld (F.portFcWd_holdoffMs port) * msStamp) }
        .next ((s.count1 (C.portWdFired port)).event 0x1003 2 [.q port, .q prio])
      else .next s
    | none => .next s

/-- PFC_HOLDOFF_END (R360). -/
def execPfcHoldoffEnd (port prio : Nat) (s : State) : Res :=
  whenWorking s <|
    match (s.port port).holdoffs.get? prio with
    | some t =>
      if t ≤ s.now then
        .next ((s.modPort port fun x => { x with holdoffs := x.holdoffs.erase prio }).event 0x1004 1 [])
      else .next s
    | none => .next s

/-- The lanes of a port given signal, clock recovery and alignment lock as bits of three vectors (R370); the eye margin of a lane
with signal is free, and so is what training has made of its transmit equaliser (R326). -/
def State.setLanes (s : State) (p signal cdr locks : Nat) (trained : Bool) : State :=
  (List.range (s.lanesOf p)).foldl (fun s i =>
    let (eye, s) := s.draw 256
    let (eq, s) := s.draw (2 ^ 32)
    let on := signal.testBit i
    let w := b2n on + 2 * b2n (on && cdr.testBit i) + 4 * b2n (on && locks.testBit i) + (if on then 256 * eye else 0)
    { s with lanes := s.lanes.modify (p + i) LaneSt.init fun l => { l with
      status := BitVec.ofNat 32 w, txEq := if trained then eq else l.txEq } }) s

/-- Link training from the settings in the store, where a port is to run it (R326). -/
def State.startTraining (s : State) (p : Nat) : State :=
  if s.fld (F.portMode_lt p) = 0 then s
  else (List.range (s.lanesOf p)).foldl (fun (s : State) i =>
    let l := s.lanes.getD (p + i) LaneSt.init
    ({ s with lanes := s.lanes.set (p + i) { l with txEq := l.preset } }).emit (.train (p + i) l.preset)) s

/-- A port that brings its link up starts negotiation with the ability of its configured mode alone (R324), or training where it
does not negotiate (R326). -/
def State.startLink (s : State) (p : Nat) : State :=
  if s.fld (F.portMode_an p) = 1 then
    s.emit (.advertise p (s.fld (F.portMode_width p)) (s.fld (F.portMode_laneRate p)) (s.fld (F.portMode_fec p)))
  else s.startTraining p

/-- Negotiation ended, after which training starts (R326). -/
def State.negotiated (s : State) (p : Nat) : State :=
  if s.fld (F.portMode_an p) = 0 ∨ (s.port p).anDone then s
  else (s.modPort p fun x => { x with anDone := true }).startTraining p

/-- Whether a member port runs its release group's speed and FEC mode (R291). -/
def State.relMatches (s : State) (p : Nat) : Bool :=
  match s.rel.member.get? p with
  | some g =>
    let r := s.rel.groups.getD g ReleaseSt.init
    decide (s.speed p = ([10, 25, 50, 100, 200, 400, 800, 1600] : List Nat).getD r.speed 0 ∧ s.fld (F.portMode_fec p) = r.fec)
  | none => false

/-- The framing of a member that links up aligned, or the member rejected (R291, R294). -/
def State.alignMember (s : State) (p : Nat) : State :=
  if !s.rel.member.has p then s
  else if s.relMatches p then { s with rel := { s.rel with align := s.rel.align.set p 1 } }
  else if s.rel.align.getD p 0 = 3 then s
  else ({ s with rel := { s.rel with align := s.rel.align.set p 3 } }).event 0x7010 2 [.q p]

/-- LINK_UP (R329): lock and deskew on every lane and no local fault, negotiation and training done where configured; a
release-group member is aligned (R294). Where negotiation alone is done, training starts (R326). -/
def execLinkUp (port : Nat) (anDone ltDone : Bool) (s : State) : Res :=
  whenWorking s <|
    if !s.configured port || !s.up .port 0 port || (s.port port).link || (decide (s.fld (F.portMode_an port) = 1) && !anDone) then
      .next s
    else if decide (s.fld (F.portMode_lt port) = 1) && !ltDone then .next (s.negotiated port)
    else
      let s := ((s.negotiated port).settlePort port).modPort port fun x => { x with
        link := true, localFault := false, remoteFault := false, anDone, ltDone, retrain := false }
      let s := s.setLanes port 255 255 255 (decide (s.fld (F.portMode_lt port) = 1))
      .next (((s.alignMember port).event 0x1001 1 [.q port, .r (Reg.portMode port)]).refreshSynce)

/-- Every FDB entry of a slice that a test selects deleted and counted as flushed (R478, R494). -/
def State.flushFdb (s : State) (n : Nat) (p : FdbEntry → Bool) : Nat × State :=
  let (k, s) := s.deleteFdb n p
  (k, s.count (C.fdbFlushed n) k s.now)

/-- The flush of a port's dynamic entries that a link loss starts in each slice with FLUSH_ON_DOWN (R478). -/
def State.startFlush (s : State) (port : Nat) : State :=
  (List.range 8).foldl (fun s n =>
    if s.fld (F.fdbCtrl_flushOnDown n) = 1 then
      let (k, s) := s.flushFdb n fun e => !e.static && decide (e.dest = port)
      s.modPort port fun x => { x with flushing := true, flushCount := x.flushCount + k }
    else s) s

/-- A link taken down: counted, recorded with its lane locks, the port's queues discarded (R331), the flush begun, SA commands
for the receiver carried out. -/
def State.takeLinkDown (s : State) (port locks signal cdr : Nat) (fault : Bool) : State :=
  let s := s.modPort port fun x => { x with link := false, localFault := fault, remoteFault := false, anDone := false, ltDone := false }
  let s := ((s.setLanes port signal cdr locks false).count1 (C.portLinkDown port)).event 0x1002 2 [.q locks]
  (((s.flushPort port (decide ((s.unit .port 0 port).state = .draining))).startFlush port).settleSa port).refreshSynce

/-- A port whose receivers go off with its transmitters (R320): its link down, no signal on a lane, no fault seen. -/
def State.portOff (s : State) (port : Nat) : State :=
  let s := if (s.port port).link then s.takeLinkDown port 0 0 0 false else s
  (s.setLanes port 0 0 0 false).modPort port fun x => { x with localFault := false, remoteFault := false }

/-- LINK_DOWN (R329, R331): lock, deskew or the absence of local fault is lost; negotiation and training begin again. -/
def execLinkDown (port : Nat) (loss : LineLoss) (s : State) : Res :=
  whenWorking s <|
    if s.configured port && (s.port port).link then
      let s := s.takeLinkDown port (loss.locks % 256) loss.signal loss.cdr loss.localFault
      .next (if s.up .port 0 port then s.startLink port else s)
    else .next s

/-- FLUSH_ON_DOWN_COMPLETE (R478). -/
def execFlushOnDownComplete (port : Nat) (s : State) : Res :=
  whenWorking s <|
    if (s.port port).flushing then
      let n := (s.port port).flushCount
      .next ((s.modPort port fun x => { x with flushing := false, flushCount := 0 }).event 0x6004 1 [.q port, .q n])
    else .next s

/-- REMOTE_FAULT (R330): the port transmits only idles; the link stays up. -/
def execRemoteFault (port : Nat) (s : State) : Res :=
  whenWorking s <|
    if (s.port port).link && !(s.port port).remoteFault then
      .next ((s.modPort port fun x => { x with remoteFault := true }).event 0x100B 1 [])
    else .next s

/-- REMOTE_FAULT_CLEARED (R330). -/
def execRemoteFaultCleared (port : Nat) (s : State) : Res :=
  whenWorking s <|
    if (s.port port).remoteFault then .next (s.modPort port fun x => { x with remoteFault := false }) else .next s

/-- AN_NO_COMMON_ABILITY (R325): the link stays down, negotiation restarts, recorded at most once in 10 s. -/
def execAnNoCommonAbility (port : Nat) (s : State) : Res :=
  whenWorking s <|
    if s.configured port && s.up .port 0 port && decide (s.fld (F.portMode_an port) = 1) && !(s.port port).link then
      let s := (s.modPort port fun x => { x with anDone := false }).startLink port
      if (s.port port).anFailAt.all fun t => decide (t + 10 * secStamp ≤ s.now) then
        .next ((s.modPort port fun x => { x with anFailAt := some s.now }).event 0x100A 2 [])
      else .next s
    else .next s

/-- PORT_RETRAIN (R328): the link goes down, and negotiation and training repeat. -/
def execPortRetrain (port : Nat) (s : State) : Res :=
  whenWorking s <|
    if !s.configured port then .next s
    else
      let s := if (s.port port).link then s.takeLinkDown port 0 0 0 false else s
      let s := s.modPort port fun x => { x with retrain := true, anDone := false, ltDone := false }
      .next (if s.up .port 0 port then s.startLink port else s)

/-- A command on an SA refused or taken (R345 to R347, R350): the host's while MKA runs, the firmware's while it does not, and one
that names the transmit SA in use; else it waits for its frame boundary. -/
def State.saCommand (s : State) (p : Nat) (o : SaOp) : State :=
  if (s.port p).mka ≠ o.mka.isSome then (if (s.port p).mka then s.event 0x1008 1 [] else s)
  else if o.rx = false ∧ o.an = s.fld (F.portMsecCfg_encAn p) then
    (s.modPort p fun x => { x with saErr := true }).noticeAddr (Reg.portMsecSaCmd p)
  else (s.modPort p fun x => { x with saOps := x.saOps ++ [o] }).settleSa p

/-- MSEC_SA_INSTALL (R345 to R347, R350), by the host or by the firmware's MKA. -/
def execMsecSaInstall (port an : Nat) (rx : Bool) (place : SaPlace) (s : State) : Res :=
  whenWorking s <|
    if !s.configured port then .next s
    else .next (s.saCommand port { at_ := s.now, an := an % 4, rx, sc := place.sc, install := true, mka := place.mka })

/-- MSEC_SA_REMOVE (R346, R347, R350). -/
def execMsecSaRemove (port an : Nat) (rx : Bool) (sc : Nat) (s : State) : Res :=
  whenWorking s <|
    if !s.configured port then .next s
    else .next (s.saCommand port { at_ := s.now, an := an % 4, rx, sc, install := false, mka := none })

/-- EQ_ADAPT_STEP (R364, R365): one coefficient by one step, at most once in 1 µs, unless frozen. -/
def execEqAdaptStep (lane coef : Nat) (up : Bool) (s : State) : Res :=
  whenWorking s <|
    let l := s.lanes.getD lane LaneSt.init
    match s.portOfLane lane with
    | some p =>
      if (s.port p).link ∧ s.fld (F.portLaneAdapt_freeze lane) = 0 ∧
          (l.movedAt.all fun t => decide (t + usStamp ≤ s.now)) then
        .next { s with lanes := s.lanes.set lane { l with
          coefs := l.coefs.modify coef 0 (· + (if up then 1 else -1)), movedAt := some s.now } }
      else .next s
    | none => .next s

/-- PORT_IDLE_MARKER (R23): after 100 ns without a frame, and every 100 ns after; it waits behind frames in the
ingress FIFO. It is a frame boundary of the receiver (R346). -/
def execPortIdleMarker (port : Nat) (s : State) : Res :=
  whenWorking s <|
    let due := s.ldg.idleNext.getD port 0
    if s.configured port && decide (due ≤ s.now) && (s.port port).fifo.isEmpty then
      let s := { s with ldg := { s.ldg with idleNext := s.ldg.idleNext.set port (s.now + 100 * nsStamp) } }
      .next ((s.advanceFront port s.now).applySaOps port fun o => o.rx)
    else .next s

end Sys2Proof.Machine
end

