-- ==== Sys2Proof/Machine/Ptp.lean ====
section
/-! DEFINITION. The PTP messages that the device sends (R72, R108 to R111): their bytes, how they enter a slice, and what their
transmission writes into them. Layouts are those of IEEE 1588-2019, which the spec names (assumption 58). -/

namespace Sys2Proof.Machine

/-! ### What the messages take from the time base -/

/-- LEAP of a time-of-day message (R100). -/
def State.leapBits (s : State) : Nat := s.fld F.tbUtc_leap61 + 2 * s.fld F.tbUtc_leap59 + 4 * s.fld F.tbUtc_valid

/-- The clockClass and clockAccuracy that the store maps the servo state to; where its lists give none, 248 and 0xFE. -/
def State.clockClass (s : State) : Nat := s.tb.timeSec.clockClass.getD s.tb.quality.code 248
def State.clockAccuracy (s : State) : Nat := s.tb.timeSec.clockAccuracy.getD s.tb.quality.code 0xFE

/-- Whether a port runs two-step (R111). -/
def State.twoStep (s : State) (p : Nat) : Bool :=
  decide (p ∈ s.tb.timeSec.twoStep) || decide (s.fld (F.portMsecCfg_txEn p) = 1)

/-- The transport of a port's messages: 0 Ethernet, 1 UDP over IPv4, 2 UDP over IPv6. -/
def State.ptpTransport (s : State) (p : Nat) : Nat :=
  match s.tb.timeSec.transport.find? fun (e : Nat × Nat) => decide (e.1 = p) with
  | some e => e.2
  | none => 0

/-- The state with the PTP exchange of a port changed. -/
def State.modPtp (s : State) (p : Nat) (f : PtpSt → PtpSt) : State :=
  { s with tb := { s.tb with ptp := s.tb.ptp.set p (f (s.tb.ptp.getD p PtpSt.init)) } }

/-! ### Bytes -/

/-- messageType. -/
def ptpType (k : PtpMsgKind) : Nat :=
  match k with
  | .sync => 0x0
  | .delayReq => 0x1
  | .pdelayReq => 0x2
  | .pdelayResp => 0x3
  | .followUp => 0x8
  | .delayResp => 0x9
  | .pdelayRespFollowUp => 0xA
  | .announce => 0xB
  | .management => 0xD

/-- The length of a message in bytes. -/
def ptpLen (k : PtpMsgKind) : Nat :=
  match k with
  | .sync | .delayReq | .followUp => 44
  | .delayResp | .pdelayReq | .pdelayResp | .pdelayRespFollowUp => 54
  | .announce => 64
  | .management => 48

/-- A timestamp: seconds and nanoseconds; what is finer goes into correctionField. -/
def ptpTime (t : Stamp) : Bytes := be 6 (t / secStamp) ++ be 4 (t / nsStamp % 1000000000)

/-- The timestamp and the correctionField that a message is built with; one that its transmission completes starts from 0. -/
def PtpTx.times (m : PtpTx) : Stamp × Int :=
  let frac : Int := (m.at_ % nsStamp : Nat)
  match m.kind with
  | .followUp | .pdelayRespFollowUp => (m.at_, m.corr + frac)
  | .delayResp => (m.at_, m.corr - frac)
  | .pdelayResp => if m.oneStep then (0, m.corr) else (m.at_, -frac)
  | .sync | .delayReq | .pdelayReq | .announce | .management => (0, 0)

/-- The data of a response to a management GET (*IEEE 1588-2019 operation*, R72): a TLV with the data set asked for, where the
time-properties data set takes its offset and its leap flags from TB_UTC; any other is not supported. -/
def State.ptpData (s : State) (m : PtpTx) (raw : Bytes) : Bytes :=
  let tlv := fun (d : Bytes) => be 2 1 ++ be 2 (d.length + 2) ++ be 2 m.dataSet ++ d
  match m.dataSet with
  | 0x2000 => tlv (bytesAt raw 18 5 ++ be 1 s.clockClass ++ be 1 s.clockAccuracy ++ bytesAt raw 23 13)
  | 0x2001 => tlv (bytesAt raw 18 2 ++ be 8 (twos 64 s.tb.offset) ++
      be 8 (twos 64 (match s.tb.slave with | some p => (s.tb.ptp.getD p PtpSt.init).meanPath | none => 0)))
  | 0x2002 => tlv (bytesAt raw 18 30 ++ bytesAt raw 16 2)
  | 0x2003 => tlv (be 2 (s.fld F.tbUtc_offset) ++ be 1 (s.leapBits + 8) ++ bytesAt raw 18 1)
  | _ => be 2 2 ++ be 2 8 ++ be 2 6 ++ be 2 m.dataSet ++ zeros 4

/-- A message; `raw` gives the bytes that the spec leaves to the firmware and the PTP data sets. -/
def State.ptpBody (s : State) (m : PtpTx) (raw : Bytes) : Bytes :=
  let (t, c) := m.times
  let two := decide (m.kind = .sync ∨ m.kind = .pdelayResp) && !m.oneStep
  let head := be 1 (ptpType m.kind) ++ be 1 0x12 ++ be 2 (ptpLen m.kind + (if m.kind = .management then (s.ptpData m raw).length else 0)) ++ bytesAt raw 0 2 ++ be 1 (if two then 2 else 0) ++
    be 1 (if m.kind = .announce then s.leapBits + 8 else 0) ++ be 8 (twos 64 c) ++ bytesAt raw 2 14 ++ be 2 m.seq ++
    bytesAt raw 16 1 ++ (match m.logInterval with | some v => be 1 v | none => bytesAt raw 17 1)
  match m.kind with
  | .sync | .delayReq | .followUp => head ++ ptpTime t
  | .pdelayReq => head ++ ptpTime t ++ zeros 10
  | .delayResp | .pdelayResp | .pdelayRespFollowUp => head ++ ptpTime t ++ fitBytes 10 m.requester
  | .announce => head ++ ptpTime t ++ be 2 (s.fld F.tbUtc_offset) ++ bytesAt raw 18 2 ++ be 1 s.clockClass ++
      be 1 s.clockAccuracy ++ bytesAt raw 20 14
  | .management => head ++ fitBytes 10 m.requester ++ be 4 0x00000200 ++ s.ptpData m raw

/-- The frame of a message on the transport of its port. -/
def State.ptpFrame (s : State) (m : PtpTx) (raw : Bytes) : Bytes :=
  let body := s.ptpBody m raw
  let mac := bytesAt raw 48 12
  let dst := if ptpType m.kind < 8 then 319 else 320
  let udp := fun (addrs : Bytes) (zero : Bool) =>
    let u := be 2 dst ++ be 2 dst ++ be 2 (body.length + 8) ++ be 2 0 ++ body
    if zero then u else putBytes u 6 (be 2 (udp6Sum addrs [] u))
  match s.ptpTransport m.port with
  | 0 => mac ++ be 2 0x88F7 ++ body
  | 1 =>
    let addrs := bytesAt raw 60 8
    let u := udp addrs m.oneStep
    fixIpv4 (mac ++ be 2 0x0800 ++ be 1 0x45 ++ bytesAt raw 92 1 ++ be 2 (20 + u.length) ++ bytesAt raw 93 2 ++ be 2 0 ++
      bytesAt raw 95 1 ++ be 1 17 ++ be 2 0 ++ addrs ++ u) 14 20
  | _ =>
    let addrs := bytesAt raw 60 32
    let u := udp addrs false
    mac ++ be 2 0x86DD ++ be 1 0x60 ++ bytesAt raw 92 3 ++ be 2 u.length ++ be 1 17 ++ bytesAt raw 95 1 ++ addrs ++ u

/-- A message put to the slice of its port as an injected frame (R176), towards its port as though a FORWARD action on pass 1
had named it. -/
def State.sendPtp (s : State) (m : PtpTx) : State :=
  let (raw, s) := s.drawBytes 96
  let b := s.ptpFrame m raw
  let n := sliceOf m.port
  let f := s.newFrame n injectionPort (.ptp m) s.now b (max b.length 60 + 4)
  let f := { f with d := { f.d with dest := some (.port m.port), named := [0] } }
  { (s.modSlice n fun y => { y with injWait := y.injWait ++ [f] }) with nextFrame := s.nextFrame + 1 }

/-! ### Transmission -/

/-- A UDP checksum after bytes at an even offset have changed, by the incremental update (R110). -/
def udpUpdate (old : Nat) (before after : Bytes) : Nat :=
  let x := be 2 (65535 - old) ++ before.map (fun b => ~~~b) ++ after
  let v := 65535 - onesSum x (x.length / 2) 0
  if v = 0 then 65535 else v

/-- The bytes of a one-step message as they are transmitted (R109, R110): a Sync takes its egress stamp, a Pdelay_Resp adds the
turnaround to its correctionField. The message is the end of the frame. -/
def State.ptpStamped (s : State) (m : PtpTx) (b : Bytes) (egress : Stamp) : Bytes :=
  let p := b.length - ptpLen m.kind
  let change := fun (off : Nat) (v : Bytes) (b : Bytes) =>
    let w := putBytes b off v
    match s.ptpTransport m.port with
    | 0 => w
    | 1 => putBytes w (p - 2) (be 2 0)
    | _ => putBytes w (p - 2) (be 2 (udpUpdate (num b (p - 2) 2) (bytesAt b off v.length) v))
  if !m.oneStep then b
  else match m.kind with
    | .sync => change (p + 34) (ptpTime egress) (change (p + 8) (be 8 (egress % nsStamp)) b)
    | .pdelayResp => change (p + 8) (be 8 (twos 64 (signed 64 (num b (p + 8) 8) + ((egress : Int) - m.at_)))) b
    | _ => b

/-- What follows the transmission of a message with an egress stamp: t3 of a Delay_Req, t1 of a Pdelay_Req, and the second
message of a two-step exchange. -/
def State.ptpLaunched (s : State) (m : PtpTx) (egress : Stamp) : State :=
  match m.kind with
  | .delayReq => s.modPtp m.port fun q => { q with t3 := egress, delayWaiting := true }
  | .pdelayReq => s.modPtp m.port fun q => { q with pdT1 := egress, pdWaiting := true }
  | .sync => if m.oneStep then s else s.sendPtp { m with kind := .followUp, at_ := egress }
  | .pdelayResp => if m.oneStep then s else s.sendPtp { m with kind := .pdelayRespFollowUp, at_ := egress }
  | .followUp | .delayResp | .pdelayRespFollowUp | .announce | .management => s

/-- The PTP message that a copy carries to the port of the message. -/
def Copy.ptp (c : Copy) (f : Frame) : Option PtpTx :=
  match f.origin with
  | .ptp m => if m.port = c.port ∧ c.portCopy ∧ ¬c.mirror then some m else none
  | _ => none

end Sys2Proof.Machine
end

