-- ==== Sys2Proof/Machine/Notify.lean ====
section
/-! DEFINITION. Notification rings: entries with PHASE, pending work queues, overflow, arming and moderation, and the PF
report ring (R669 to R676, R681, R682). -/

namespace Sys2Proof.Machine

/-- Entries of a ring that its consumer index has not passed. -/
def NrSt.used (r : NrSt) : Nat := (r.prod - r.cons).toNat

/-- Whether a ring has no room. -/
def NrSt.full (r : NrSt) : Bool := decide (2 ^ r.log2 ≤ r.used)

/-- PHASE of the next entry of a ring (R670). -/
def NrSt.phase (r : NrSt) : Nat := (r.prod.toNat / 2 ^ r.log2 + 1) % 2

/-- The vector raised and the ring disarmed, when the moderation of an armed ring says so (R675). -/
def State.nrRaise (s : State) (n : Nat) : State :=
  match s.qm.nrs.get? n with
  | none => s
  | some r =>
    let timed := match r.firstAt with | some t => decide (t + r.liveTimerUs * usStamp ≤ s.now) | none => false
    if r.armed && (decide (r.liveCount ≤ r.sinceArm) || timed) then
      (s.modNr n fun r => { r with armed := false, sinceArm := 0, firstAt := none }).msix r.fn r.vector
    else s

/-- One 16-byte entry written to a ring that has room, `entry` being its bytes by PHASE (R669, R670, R675, R676). -/
def State.nrPut (s : State) (n : Nat) (entry : Nat → Bytes) : State :=
  match s.qm.nrs.get? n with
  | none => s
  | some r =>
    let s := s.dmaTo r.fn (some r.vector) .notification (r.base + r.prod.toNat % 2 ^ r.log2 * 16) (entry r.phase)
    (s.modNr n fun r => { r with
      prod := r.prod + 1
      sinceArm := if r.armed then r.sinceArm + 1 else r.sinceArm
      firstAt := if r.armed then some (r.firstAt.getD s.now) else r.firstAt }).nrRaise n

/-- The entry of a WQ written with its head as it stands (R669, R671, R673). -/
def State.nrWrite (s : State) (wq : Nat) (q : WqSt) (n : Nat) (r : NrSt) : State :=
  let s := s.modWq wq fun q => { q with marks := q.marks.set n ⟨r.prod, q.head, decide (q.state = .error)⟩, nrPending := false }
  let s := s.modNr n fun r => { r with order := r.order.erase wq, carryOvf := false }
  s.nrPut n fun phase => le 4 q.localIdx ++ le 4 q.head.toNat ++
    le 1 (phase + (if q.state = .error then 2 else 0) + (if r.carryOvf then 4 else 0)) ++ zeros 7

/-- A WQ found its ring full (R673). -/
def State.nrOverflow (s : State) (n : Nat) : State :=
  (s.modNr n fun r => { r with overflowed := true, carryOvf := true }).count1 C.qmNrOverflow

/-- A WQ pending at its ring (R671). -/
def State.nrPend (s : State) (wq n : Nat) : State :=
  (s.modWq wq fun q => { q with nrPending := true }).modNr n fun r =>
    { r with order := if wq ∈ r.order then r.order else r.order ++ [wq] }

/-- Whether an entry of a WQ still stands in a ring: the consumer index has not passed it. -/
def WqSt.marked (q : WqSt) (n : Nat) (r : NrSt) : Bool :=
  match q.marks.get? n with
  | some m => decide ((r.prod - m.index).toNat ≤ r.used)
  | none => false

/-- Whether the last entry of a WQ in a ring says what the WQ's head and state now say (R672). -/
def WqSt.told (q : WqSt) (n : Nat) : Bool :=
  match q.marks.get? n with
  | some m => decide (m.head = q.head ∧ m.error = decide (q.state = .error))
  | none => false

/-- A WQ whose head advanced, or that entered ERROR, notifies its ring (R671, R673). -/
def State.notify (s : State) (wq : Nat) : State :=
  match s.qm.wqs.get? wq with
  | none => s
  | some q =>
    match q.nr with
    | none => s
    | some n =>
      match s.qm.nrs.get? n with
      | none => s
      | some r =>
        if q.marked n r then s.nrPend wq n
        else if r.full then (if q.nrPending then s else (s.nrPend wq n).nrOverflow n)
        else s.nrWrite wq q n r

/-- A WQ pending at a ring that has nothing to tell any more. -/
def State.nrDrop (s : State) (wq n : Nat) : State :=
  (s.modWq wq fun q => { q with nrPending := false }).modNr n fun r => { r with order := r.order.erase wq }

/-- The WQs bound to a ring whose entry the consumer index passed, `was` being the ring before, and whose head or state that entry
does not say: each needs a new one (R672). -/
def State.nrPassed (s : State) (n : Nat) (was : NrSt) : List Nat :=
  match s.qm.nrs.get? n with
  | none => []
  | some r => (s.qm.wqs.entries.filter fun e =>
      decide (e.2.nr = some n) && e.2.marked n was && !e.2.marked n r && !e.2.told n).map (·.1)

/-- The pending WQs of a ring given entries as room freed, in the order in which they became pending, and those that a passed entry
made pending behind them (R672, R673). One whose head block is still to be written waits for it (R676). `was` is the ring before the
consumer index moved. -/
def State.nrServe (s : State) (n : Nat) (was : NrSt) : State :=
  let new := s.nrPassed n was
  let s := new.foldl (fun (s : State) wq => s.nrPend wq n) s
  match s.qm.nrs.get? n with
  | none => s
  | some r0 => r0.order.foldl (fun (s : State) wq =>
      match s.qm.wqs.get? wq, s.qm.nrs.get? n with
      | some q, some r =>
        if q.marked n r || q.hbWaiting then s
        else if q.told n then s.nrDrop wq n
        else if r.full then (if wq ∈ new then s.nrOverflow n else s)
        else s.nrWrite wq q n r
      | _, _ => s) s

/-- The report ring. -/
def State.reportRing (s : State) : Option (Nat × NrSt) := s.qm.nrs.entries.find? (·.2.report)

/-- An item discarded by its generation reported on the PF report ring (R681, R682); items of the PF are not reported
(R618). `engine` is ENGINE of the entry. -/
def State.genReport (s : State) (t : Stamp) (wq idx engine fn : Nat) (gen : BitVec 16) : State :=
  if fn = 0 then s
  else
    let s := s.count C.qmGenReported 1 t
    match s.reportRing with
    | some (n, r) =>
      if r.full then ({ s with qm := { s.qm with reportLost := true } }.count C.qmReportLost 1 t).event 0xA015 2 []
      else
        let lost := s.qm.reportLost
        ({ s with qm := { s.qm with reportLost := false } }).nrPut n fun phase =>
          le 4 wq ++ le 4 idx ++ le 1 (phase + 2 * b2n lost) ++ le 1 engine ++ le 2 fn ++ le 2 gen.toNat ++ le 2 0
    | none => ({ s with qm := { s.qm with reportLost := true } }.count C.qmReportLost 1 t).event 0xA015 2 []

/-- ENGINE of a report (R681). -/
def hostIslandEngine : Nat := 0x80

/-- INDEX of a report for an item without a work entry (R681). -/
def noEntry : Nat := 0xFFFFFFFF

end Sys2Proof.Machine
end

