-- ==== Sys2Proof/Machine/Sched.lean ====
section
/-! DEFINITION. Scheduling of egress ports: lengths, shapers, time gates, pauses, release slots and eligibility (R518 to
R532), with the commands of gates and shapers. -/

namespace Sys2Proof.Machine

/-- Scheduling state of a port. -/
def State.tmPort (s : State) (p : Nat) : TmPort := s.tm.ports.getD p TmPort.init

/-- The state with a port's scheduling state changed. -/
def State.modTmPort (s : State) (p : Nat) (f : TmPort → TmPort) : State :=
  { s with tm := { s.tm with ports := s.tm.ports.set p (f (s.tmPort p)) } }

/-! ### Lengths -/

/-- The MACsec overhead of a port (*MACsec*): 24 bytes, or 32 with the SCI. -/
def State.msecGrow (s : State) (p : Nat) : Nat :=
  if s.fld (F.portMsecCfg_txEn p) = 1 then 24 + 8 * s.fld (F.portMsecCfg_includeSci p) else 0

/-- The line time of a copy (R529), in stamp units. -/
def State.lineTime (s : State) (p len : Nat) : Nat := bitTime ((len + s.msecGrow p + 24) * 8) (s.speed p)

/-- The scheduling length of a copy on a port, with the S-class values of a governing stamp (R524). -/
def State.schedLen (s : State) (p len : Nat) (t : Stamp) : Int :=
  let l := if s.fldAt t (F.tmPortSched_padMin p) = 1 then max len 60 else len
  max 1 ((l : Int) + signed 7 (s.fldAt t (F.tmPortSched_overhead p)))

/-! ### Shapers -/

/-- A shaper's credit at a time (R521), in units of `polUnit` to the byte. -/
def ShaperSt.grown (x : ShaperSt) (rate burst : Nat) (now : Stamp) : Int :=
  min ((burst : Int) * polUnit) (x.credit + rate * (now - x.at_ : Nat))

/-- Whether a shaper holds credit; a rate of 0 disables it. -/
def ShaperSt.holds (x : ShaperSt) (rate burst : Nat) (now : Stamp) : Bool :=
  decide (rate = 0 ∨ 0 ≤ x.grown rate burst now)

/-- A shaper after a copy of a scheduling length was sent. -/
def ShaperSt.spend (x : ShaperSt) (rate burst : Nat) (now : Stamp) (len : Int) : ShaperSt :=
  if rate = 0 then x
  else { credit := max (-16447 * polUnit) (x.grown rate burst now - len * polUnit), at_ := now }

/-- Rate and burst of a class shaper for a governing stamp. -/
def State.classRate (s : State) (p c : Nat) (t : Stamp) : Nat × Nat :=
  (s.fldAt t (F.tmClassShapeRate_kbps p c), s.fldAt t (F.tmClassShapeBurst_bytes p c))

/-- Rate and burst of a port shaper for a governing stamp. -/
def State.portRate (s : State) (p : Nat) (t : Stamp) : Nat × Nat :=
  (s.fldAt t (F.tmPortShapeRate_kbps p), s.fldAt t (F.tmPortShapeBurst_bytes p))

/-- A shaper's credit brought up to a time under a rate and burst. -/
def ShaperSt.upTo (x : ShaperSt) (r : Nat × Nat) (now : Stamp) : ShaperSt := { credit := x.grown r.1 r.2 now, at_ := now }

/-- The governing stamp of a copy that a port dequeues taken in (R522): the shapers that have been used grow under the values
that ruled until now. -/
def State.dequeued (s : State) (p : Nat) (t : Stamp) : State :=
  s.modTmPort p fun q =>
    if t ≤ q.newest then q
    else { q with
      newest := t
      shaper := if q.shaper = ShaperSt.init then q.shaper else q.shaper.upTo (s.portRate p q.newest) s.now
      shapers := q.shapers.map fun c x => x.upTo (s.classRate p c q.newest) s.now }

/-- Rate and burst of a VF's receive shaper (R523), as they stood when a copy came (R15). -/
def State.vfRxRate (s : State) (vf mark : Nat) : Nat × Nat :=
  (s.fldSince mark (F.tmVfRxRate_kbps (vf - 1)), s.fldSince mark (F.tmVfRxBurst_bytes (vf - 1)))

/-- Rate and burst of a VF's transmit shaper (R523). -/
def State.vfTxRate (s : State) (vf : Nat) : Nat × Nat :=
  (s.fld (F.tmVfTxRate_kbps (vf - 1)), s.fld (F.tmVfTxBurst_bytes (vf - 1)))

/-- The scheduling length of a frame under the overhead of VF shapers (R523, R524). -/
def State.vfLen (s : State) (len mark : Nat) : Int :=
  max 1 ((len : Int) + signed 7 (s.fldSince mark F.tmHostCfg_vfOverhead))

/-- SHAPER_CREDIT_RESTORED (R521): a shaper whose credit was below 0 holds credit again. -/
def execShaperCreditRestored (k : ShaperId) (s : State) : Res :=
  whenWorking s <|
    let again := fun (x : ShaperSt) (r : Nat × Nat) =>
      if x.credit < 0 ∧ r.1 ≠ 0 ∧ 0 ≤ x.grown r.1 r.2 s.now then
        { credit := x.grown r.1 r.2 s.now, at_ := s.now : ShaperSt }
      else x
    match k with
    | .cls p c =>
      let q := s.tmPort p
      let x := q.shapers.getD c ShaperSt.init
      .next (if again x (s.classRate p c q.newest) = x then s
        else s.modTmPort p fun q => { q with shapers := q.shapers.set c (again x (s.classRate p c q.newest)) })
    | .port p =>
      let q := s.tmPort p
      .next (if again q.shaper (s.portRate p q.newest) = q.shaper then s
        else s.modTmPort p fun q => { q with shaper := again q.shaper (s.portRate p q.newest) })
    | .vfRx v =>
      let x := s.tm.vfRx.getD v ShaperSt.init
      let y := again x (s.vfRxRate v s.liveMark)
      .next (if y = x then s else { s with tm := { s.tm with vfRx := s.tm.vfRx.set v y } })
    | .vfTx v =>
      let x := s.tm.vfTx.getD v ShaperSt.init
      .next (if again x (s.vfTxRate v) = x then s
        else { s with tm := { s.tm with vfTx := s.tm.vfTx.set v (again x (s.vfTxRate v)) } })

/-! ### Time gates -/

/-- The intervals of one cycle in stamp units (R528): the last entry's gates hold to its end, and entries beyond its end
do not run. -/
def fillCycle : Nat → List (Nat × Nat) → List (Nat × Nat)
  | _, [] => []
  | left, [(g, _)] => [(g, left)]
  | left, (g, n) :: r => if left ≤ n then [(g, left)] else (g, n) :: fillCycle (left - n) r

/-- A list's cycle in stamp units. -/
def GateList.span (l : GateList) : Nat := l.cycle * nsStamp

/-- The intervals of a list's cycle. -/
def GateList.segs (l : GateList) : List (Nat × Nat) := fillCycle l.span (l.entries.map fun e => (e.1, e.2 * nsStamp))

/-- How far a time lies into its cycle; cycles begin at base + k × cycle for every integer k. -/
def GateList.into (l : GateList) (t : Stamp) : Nat :=
  if l.span = 0 then 0 else (((t : Int) - l.base) % l.span).toNat

/-- The first cycle begin at or after a time. -/
def GateList.beginFrom (l : GateList) (t : Stamp) : Stamp :=
  let x := l.into t
  if x = 0 then t else t + (l.span - x)

/-- The intervals from a place within them on. -/
def dropTime : Nat → List (Nat × Nat) → List (Nat × Nat)
  | _, [] => []
  | x, (g, n) :: r => if x < n then (g, n - x) :: r else dropTime (x - n) r

/-- How long a class's gate stays open from the start of a list of intervals; `none` to its end. -/
def openRun (c : Nat) : List (Nat × Nat) → Option Nat
  | [] => none
  | (g, n) :: r => if g.testBit c then (openRun c r).map (· + n) else some 0

/-- Whether a list keeps a class's gate open for a span from a time on. -/
def GateList.keepsOpen (l : GateList) (c : Nat) (t : Stamp) (span : Nat) : Bool :=
  !l.enable ||
    match openRun c (dropTime (l.into t) l.segs ++ l.segs) with
    | none => true
    | some n => decide (span ≤ n ∧ 0 < n)

/-- The intervals up to a place within them, the latest first. -/
def takeTime : Nat → List (Nat × Nat) → List (Nat × Nat)
  | _, [] => []
  | x, (g, n) :: r => if x ≤ n then [(g, x)] else takeTime (x - n) r ++ [(g, n)]

/-- The intervals before a time, the latest first. -/
def GateList.before (l : GateList) (t : Stamp) : List (Nat × Nat) :=
  (if l.into t = 0 then [] else takeTime (l.into t) l.segs) ++ l.segs.reverse

/-- Since when class c's gate has been open just before a time under a list in effect from another time on, before which it had
been open since a time or was closed; `none` where it is closed just before. -/
def GateList.openBefore (l : GateList) (from_ : Stamp) (carried : Option Stamp) (c : Nat) (t : Stamp) : Option Stamp :=
  if t ≤ from_ then carried
  else if !l.enable then some (carried.getD from_)
  else match openRun c (l.before t) with
    | some 0 => none
    | some n => some (if n < t - from_ then t - n else carried.getD from_)
    | none => some (carried.getD from_)

/-- Whether the last entry of a list has a class's gate open; every gate is open while gates are not in use. -/
def GateList.lastOpen (l : GateList) (c : Nat) : Bool :=
  !l.enable || (match l.entries.getLast? with | some (g, _) => g.testBit c | none => true)

/-- Whether class c's gate is open from a time to an end, for the list in effect and those that wait: from B to S of a list the
gates hold the state of the last entry of the list before it (R532). -/
def gatesOpen (cur : GateList) (c : Nat) (t stop : Stamp) : List GatePlan → Bool
  | [] => cur.keepsOpen c t (stop - t)
  | g :: r =>
    (decide (g.begin_ ≤ t) || cur.keepsOpen c t (min stop g.begin_ - t)) &&
      (decide (stop ≤ g.begin_ ∨ g.start ≤ t ∨ g.start = g.begin_) || cur.lastOpen c) &&
      (decide (stop ≤ g.start) || gatesOpen g.list c (max t g.start) stop r)

/-- The gate check (R529, R531, R532): class c's gate is open at an egress time and for a span from it. -/
def TmPort.gateOpen (q : TmPort) (c : Nat) (t : Stamp) (span : Nat) : Bool := gatesOpen q.oper c t (t + span) q.plans

/-- Since when class c's gate has been open just before a time, for the list in effect and those that wait (R532). -/
def openSince (c : Nat) (t : Stamp) : GateList → Stamp → Option Stamp → List GatePlan → Option Stamp
  | l, from_, carried, [] => l.openBefore from_ carried c t
  | l, from_, carried, g :: r =>
    if t ≤ g.begin_ then l.openBefore from_ carried c t
    else
      let atB := l.openBefore from_ carried c g.begin_
      let held := if g.start = g.begin_ then atB else if l.lastOpen c then some (atB.getD g.begin_) else none
      if t ≤ g.start then held else openSince c t g.list g.start held r

/-- The opening of class c's gate that it is in at a time: the time itself where it was closed just before. -/
def TmPort.opening (q : TmPort) (c : Nat) (t : Stamp) : Stamp :=
  (openSince c t q.oper q.from_ (q.carried.get? c) q.plans).getD t

/-- Whether class c's gate is open and opened at or after a time (R530). -/
def TmPort.openedSince (q : TmPort) (c : Nat) (t since : Stamp) : Bool :=
  q.gateOpen c t 1 && decide (since ≤ q.opening c t)

/-- The classes whose gates are open just before a time, with the time since when. -/
def TmPort.openAt (q : TmPort) (t : Stamp) : Table Stamp :=
  (List.range 16).foldl (fun (k : Table Stamp) c =>
    match openSince c t q.oper q.from_ (q.carried.get? c) q.plans with
    | some x => k.set c x
    | none => k) .empty

/-- The list that a port's registers hold as some reading of them gives it (R539). -/
def gateListOf (rd : FieldRef → Nat) (p : Nat) : GateList :=
  { enable := decide (rd (F.tmGateCtrl_enable p) = 1),
    entries := (List.range (rd (F.tmGateCtrl_len p))).map fun k => (rd (F.tmGateGates_open p k), rd (F.tmGateInterval_ns p k)),
    base := ((rd (F.tmGateBaseSecH_secH p) * 2 ^ 32 + rd (F.tmGateBaseSecL_secL p)) * 1000000000 +
      rd (F.tmGateBaseNs_ns p)) * nsStamp,
    cycle := rd (F.tmGateCycle_ns p) }

/-- The list that a port's registers hold in effect. -/
def State.gateRegs (s : State) (p : Nat) : GateList := gateListOf s.fld p

/-- A field as it reads once waiting words are in effect. -/
def State.fldWith (s : State) (words : Table Word) (f : FieldRef) : Nat :=
  match words.get? f.addr with
  | some w => getBits (mergeBits (s.reg f.addr) w.toNat (clsMask .ream f.addr)) f.lo f.width
  | none => s.fld f

/-- Staged words of a list that become pending at a Ream boundary (R34, R532): its B is the first cycle boundary at or after it, of
the list that will be in effect then, and its S follows B. A list that has not reached its B gives way to the new one, which
keeps the words that it does not replace. -/
def State.pendGates (s : State) (p : Nat) (ream : Stamp) (words : Table Word) : State :=
  let q := s.tmPort p
  let words := (match q.plans.getLast? with | some g => g.words | none => Table.empty).overlay words
  let kept := q.plans.filter fun g => decide (g.begin_ < ream)
  let (cur, from_) := match kept.getLast? with
    | some g => (g.list, max ream g.start)
    | none => (q.oper, ream)
  let l := gateListOf (s.fldWith words) p
  let b := if cur.enable then cur.beginFrom from_ else from_
  s.modTmPort p fun q => { q with plans := kept ++ [{ list := l, words, begin_ := b, start := l.beginFrom b }] }

/-- The entry that runs at a place within the cycle, and what is left of it. -/
def entryAt : Nat → Nat → List (Nat × Nat) → Nat × Nat
  | i, _, [] => (i, 0)
  | i, x, (_, n) :: r => if x < n ∨ r = [] then (i, n - x) else entryAt (i + 1) (x - n) r

/-- GATE_ENTRY_ADVANCE (R528, R532): the entry that runs has ended and the next one runs, of the next cycle after the
last; past B of a list that takes over, the last entry holds until S. -/
def execGateEntryAdvance (port : Nat) (s : State) : Res :=
  whenWorking s <|
    let q := s.tmPort port
    if !q.oper.enable || decide (s.now < q.entryEnd) then .next s
    else match q.plans with
      | g :: _ =>
        if g.begin_ ≤ s.now then
          .next (s.modTmPort port fun q => { q with entry := q.oper.entries.length - 1, entryEnd := g.start })
        else
          let (i, left) := entryAt 0 (q.oper.into s.now) q.oper.segs
          .next (s.modTmPort port fun q => { q with entry := i, entryEnd := min g.begin_ (s.now + left) })
      | [] =>
        let (i, left) := entryAt 0 (q.oper.into s.now) q.oper.segs
        .next (s.modTmPort port fun q => { q with entry := i, entryEnd := s.now + left })

/-- GATE_LIST_TAKEOVER (R34, R532): at S the new list is in effect, and its registers read so (R16). -/
def execGateListTakeover (port : Nat) (s : State) : Res :=
  whenWorking s <|
    match (s.tmPort port).plans with
    | g :: r =>
      if g.start ≤ s.now then
        let (i, left) := entryAt 0 (g.list.into s.now) g.list.segs
        .next (((s.applyWords .ream g.words).modTmPort port fun q => { q with
          oper := g.list, from_ := g.start, carried := q.openAt g.start, plans := r, entry := if g.list.enable then i else 0, entryEnd := s.now + left }).event 0x8003 1
          [.q port, .q (lo32 (shortStamp g.start)), .q (hi32 (shortStamp g.start))])
      else .next s
    | [] => .next s

/-! ### Pauses, slots and eligibility -/

/-- Whether a class of a port is paused (R354). -/
def State.classPaused (s : State) (p c : Nat) : Bool :=
  match s.fcMode p with
  | 1 => (s.port p).pauses.has 0
  | 2 => (List.range 8).any fun pr => (s.port p).pauses.has pr && (s.fld (F.portPfcMap_classes p pr)).testBit c
  | _ => false

/-- The release group of a copy's frame. -/
def State.groupOf (s : State) (c : Copy) : Nat :=
  match s.tm.frames.get? c.frame with
  | some f => match f.frame.d.rel with | some (g, _) => g | none => 0
  | none => 0

/-- A release group's state. -/
def State.relGroup (s : State) (g : Nat) : ReleaseSt := s.rel.groups.getD g ReleaseSt.init

/-- Whether a held copy's port is an aligned member of its group (R299); a group that is gone leaves it as it was then (R309). -/
def State.onSlots (s : State) (c : Copy) : Bool :=
  let g := s.groupOf c
  if (s.relGroup g).alive ∧ (s.relGroup g).gen = c.relGen then
    decide (s.rel.member.get? c.port = some g ∧ s.rel.align.getD c.port 0 = 1)
  else c.aligned

/-- The release copies that a port is kept free for: on an aligned member and not late (R298). -/
def State.slotsOf (s : State) (p : Nat) : List Copy :=
  (((s.queue qRelease).filter fun c => decide (c.port = p) && s.onSlots c) ++
    (s.queue (qHanded p)).filter (·.aligned)).filter fun c => !c.late

/-- When a release copy is to cross its port's ball (R296), by the delay in effect now. -/
def State.ballAt (s : State) (c : Copy) : Stamp := c.relTime - (s.cableAt c.port s.ream).2 * 256

/-- The hand-off time of a release copy (R298). -/
def State.handoffAt (s : State) (c : Copy) : Stamp := s.ballAt c - s.leadNs c.port * nsStamp

/-- Whether a start that takes a span ends before the commit point of the port's next reserved slot (R518). -/
def State.clearOfSlots (s : State) (p span : Nat) : Bool :=
  (s.slotsOf p).all fun c => decide (s.now + span < s.handoffAt c)

/-- A frame's governing stamp, for a copy. -/
def State.stampOf (s : State) (c : Copy) : Stamp :=
  match s.tm.frames.get? c.frame with
  | some f => f.frame.stamp
  | none => s.now

/-- The stamp whose S-class scheduling values a port uses for a copy (R522). -/
def State.schedStamp (s : State) (c : Copy) : Stamp := max (s.tmPort c.port).newest (s.stampOf c)

/-- Whether a head copy is eligible, the gate check apart (R518): its shapers as they stand once its stamp is taken in (R522). -/
def State.ready (s : State) (c : Copy) : Bool :=
  let t := s.schedStamp c
  let q := (s.dequeued c.port t).tmPort c.port
  let rc := s.classRate c.port c.cls t
  let rp := s.portRate c.port t
  !s.classPaused c.port c.cls && (q.shapers.getD c.cls ShaperSt.init).holds rc.1 rc.2 s.now &&
    q.shaper.holds rp.1 rp.2 s.now && s.clearOfSlots c.port (s.lineTime c.port c.len)

/-- Whether a head copy passes the gate check at an egress stamp, or starts in spite of it at an opening of its gate after one
whole cycle (R529, R530). -/
def State.gatePass (s : State) (c : Copy) (egress : Stamp) : Bool × Bool :=
  let q := s.tmPort c.port
  let ok := q.gateOpen c.cls egress (s.lineTime c.port c.len)
  let expired := match c.gateFailAt with
    | some t => q.openedSince c.cls egress (t + q.oper.span)
    | none => false
  (ok, !ok && expired)

/-- Whether a class's head copy can start at an egress stamp (R518, R530). -/
def State.eligible (s : State) (p c : Nat) (egress : Stamp) : Bool :=
  match s.queue (qPort p c) with
  | [] => false
  | x :: _ => s.ready x && ((s.gatePass x egress).1 || (s.gatePass x egress).2)

/-- Head copies that fail the gate check while they are otherwise eligible, marked with the time since when (R530). -/
def State.markGates (s : State) (p : Nat) (egress : Stamp) : State :=
  if !(s.tmPort p).oper.enable then s
  else (List.range 16).foldl (fun s c =>
    match s.queue (qPort p c) with
    | [] => s
    | x :: r =>
      let fails := s.ready x && !(s.gatePass x egress).1
      let since := if fails then some (x.gateFailAt.getD s.now) else none
      { s with tm := { s.tm with queues := s.tm.queues.set (qPort p c) ({ x with gateFailAt := since } :: r) } }) s

/-- Deficit weighted round robin (R519, R520): fuel, what is eligible, the head's scheduling length, the weight, deficits,
the class the round is at, and whether it has its quantum. Answers the class that may send; what it sends is subtracted then. -/
def drr (elig : Nat → Bool) (len : Nat → Int) (weight : Nat → Nat) :
    Nat → Table Int → Nat → Bool → Option (Nat × Table Int × Nat × Bool)
  | 0, _, _, _ => none
  | n + 1, d, c, granted =>
    let next := if c = 15 then 4 else c + 1
    if !elig c then drr elig len weight n d next false
    else
      let have_ := d.getD c 0 + (if granted then 0 else weight c * 256)
      if len c ≤ have_ then some (c, d.set c have_, c, true)
      else drr elig len weight n (d.set c have_) next false

/-- The weight of a weighted class for a governing stamp. -/
def State.weightOf (s : State) (p c : Nat) (t : Stamp) : Nat :=
  getBits (s.fldAt t (F.tmClassWeight_weight p ((c - 4) / 4))) (8 * ((c - 4) % 4)) 8

/-- The class that starts a frame: the lowest eligible strict class, else by deficit weighted round robin (R518, R519).
Answers the state with the round and the deficits as they stand then. -/
def State.pickClass (s : State) (p : Nat) (egress : Stamp) : Option (Nat × State) :=
  match (List.range 4).find? fun c => s.eligible p c egress with
  | some c => some (c, s)
  | none =>
    if (List.range 12).any fun i => s.eligible p (4 + i) egress then
      let head := fun c => (s.queue (qPort p c)).head?
      let q := s.tmPort p
      match drr (fun c => s.eligible p c egress)
          (fun c => match head c with | some x => s.schedLen p x.len (s.schedStamp x) | none => 1)
          (fun c => match head c with | some x => s.weightOf p c (s.schedStamp x) | none => 0)
          1024 q.deficits (max 4 q.round) q.granted with
      | some (c, d, r, g) => some (c, s.modTmPort p fun q => { q with deficits := d, round := r, granted := g })
      | none => none
    else none

end Sys2Proof.Machine
end

