-- ==== Sys2Proof/Machine/Traffic.lean ====
section
/-! DEFINITION. Admission by the traffic manager: copies per destination, R507 and its kin, merge and release admission, the
disposition, cut-through (R193, R237, R268 to R270, R286, R292, R302, R303, R339, R505 to R517, R533 to R536, R545, R841). -/

namespace Sys2Proof.Machine

/-! ### Cells -/

/-- The queues of an owner (R506). -/
def State.ownerQueues (s : State) (q : Nat) : List Nat :=
  if q < 2000 then (List.range 16).map fun c => qPort (q / 16) c
  else if qCrypto 0 ≤ q ∧ q ≤ qCrypto 34 then (List.range 35).map qCrypto
  else if 10000 ≤ q then
    match s.qm.wqs.get? (q - 10000) with
    | some w => (s.qm.wqs.entries.filter fun e => decide (e.2.fn = w.fn)).map fun e => qHost e.1
    | none => [q]
  else [q]

/-- On-die cells that an owner holds. -/
def State.ownerCells (s : State) (q : Nat) : Nat := (s.ownerQueues q).foldl (fun a x => a + s.queueCells x) 0

/-- Free on-die cells. -/
def State.freeCells (s : State) : Nat := 0x80000 - s.tm.used

/-- F of R507: free cells that no unfilled reserve holds. -/
def State.openTm (s : State) : Nat :=
  s.freeCells - s.portList.foldl (fun a p => a + (s.fld (F.tmPortCfg_rsvCells p) - s.ownerCells (qPort p 0))) 0

/-- R507 for a copy of `n` cells to a queue; `fresh` is whether it would take new cells. -/
def State.tmAdmits (s : State) (q c n : Nat) (fresh : Bool) : Bool :=
  let held := s.ownerCells q
  let f := s.openTm
  let rsv := if q < 2000 then s.fld (F.tmPortCfg_rsvCells (q / 16)) else 0
  let oalpha := if q < 2000 then s.fld (F.tmPortCfg_oalpha (q / 16)) else s.fld F.tmHostCfg_fnAlpha
  decide (held + n ≤ rsv) ||
    decide (s.queueCells q + n ≤ f * 2 ^ s.fld (F.tmClassCfg_alpha c) / 128 ∧ held + n ≤ f * 2 ^ oalpha / 128 ∧
      s.fld (F.tmClassCfg_floor c) + (if fresh then n else 0) ≤ f)

/-- The PFC priority of a frame (R516): the PCP of its outermost VLAN tag, or the port's default. -/
def State.pfcPrio (s : State) (x : PipeFrame) : Nat :=
  match (firstTag x.parsed).bind fun h => h.fields.find? (·.1 = Fld.pcp) with
  | some (_, v) => v % 8
  | none => s.fld (F.tmPortPfc_defaultPri x.frame.port)

/-- Cells held under R517 for a port. -/
def State.headroomUsed (s : State) (p : Nat) : Nat :=
  s.tm.queues.values.foldl (fun a l => l.foldl (fun a c =>
    if c.headroom && (match s.tm.frames.get? c.frame with | some f => decide (f.frame.port = p) | none => false) then a + c.n
    else a) a) 0

/-- A copy with nothing but its frame, queue and length. -/
def Copy.plain (q p c n len : Nat) : Copy :=
  { id := 0, frame := 0, queue := q, port := p, portCopy := false, cls := c, n, len, mirror := false, spilled := false,
    headroom := false, cut := false, relTime := 0, relGen := 0, aligned := false, late := false,
    gateFailAt := none, mergeSeq := 0, mergeFlags := 0, mark := 0, handed := 0 }

/-- A copy put at the end of its queue; the frame takes its on-die cells with its first copy that is not spilled (R505). -/
def State.putCopy (s : State) (x : PipeFrame) (c : Copy) : State :=
  let f := x.frame
  let held := s.tm.frames.get? f.id
  let pr := s.pfcPrio x
  let need := !c.spilled && c.n ≠ 0 && (match held with | some h => decide (h.onDie = 0) | none => true)
  let onDie := if need then c.n else match held with | some h => h.onDie | none => 0
  let c := { c with id := s.tm.nextCopy, frame := f.id, mark := s.liveMark }
  let s := { s with tm := { s.tm with
    nextCopy := s.tm.nextCopy + 1
    frames := s.tm.frames.set f.id { frame := f, parsed := x.parsed, first := x.first, n := cellsOf f.bytes.length, onDie, prio := pr }
    queues := s.tm.queues.set c.queue (s.queue c.queue ++ [c])
    hbmUsed := if c.spilled then s.tm.hbmUsed + c.n else s.tm.hbmUsed } }
  if need then s.takeCells f.port pr c.n else s

/-- What becomes of a destination: admitted with the disposition it brings, or refused with a drop code. -/
abbrev Verdict := Nat × State

/-- A refusal counted for its queue's owner (R508): its class queue of a port, or other owners. -/
def State.countRefusal (s : State) (q c : Nat) (t : Stamp) : State :=
  s.count (if q < 2000 then C.tmQDrop (q / 16) c else C.tmOwnerDrop) 1 t

/-- A copy to an on-die queue: R507, R517, R508, R509. `disp` is the disposition that its admission brings. -/
def State.tryCopy (s : State) (x : PipeFrame) (c : Copy) (disp : Nat) : Verdict :=
  let f := x.frame
  let fresh := match s.tm.frames.get? f.id with | some h => decide (h.onDie = 0) | none => true
  let ok := s.tmAdmits c.queue c.cls c.n fresh
  let xoff := decide (f.port < 96) && decide (s.pfcPrio x ∈ (s.port f.port).xoff)
  let room := xoff && decide (s.headroomUsed f.port + c.n ≤ s.fld (F.tmPortPfc_headroom f.port))
  if !ok && !room then
    let s := s.countRefusal c.queue c.cls f.stamp
    if xoff then
      (0x11, (s.count (C.tmPfcDrop f.port) 1 f.stamp).event 0x8005 2 [.q f.port, .q (s.pfcPrio x)])
    else (0x11, s)
  else if fresh && decide (s.freeCells < c.n) then (0x12, s.count C.tmNobufDrop 1 f.stamp)
  else (disp, s.putCopy x { c with headroom := !ok })

/-! ### Destinations -/

/-- Refused under R841, or for a WQ or context that cannot take it: DROP_POLICY. -/
def State.refuseDest (s : State) (t : Stamp) : Verdict := (0x10, s.count C.tmOwnerDrop 1 t)

/-- Whether a copy of a length is too long for an egress port (R339). -/
def State.tooLong (s : State) (p len : Nat) : Bool := decide (s.fld (F.portMacCfg_maxFrame p) < len + s.msecGrow p + 4)

/-- A copy to an egress port (R841, R339, R507). -/
def State.toPort (s : State) (x : PipeFrame) (p c len : Nat) (mirror : Bool) (disp : Nat) : Verdict :=
  let f := x.frame
  if !s.configured p then s.refuseDest f.stamp
  else if s.tooLong p len then
    (0x10, s.count (C.portTxOversizeDrop p) 1 f.stamp)
  else s.tryCopy x { Copy.plain (qPort p c) p c (cellsOf f.bytes.length) len with mirror, portCopy := !mirror } disp

/-- Whether a WQ's host receive queue spills (R512): it has held so many on-die cells since it was empty, or holds them now. -/
def State.spills (s : State) (wq : Nat) : Bool :=
  decide (wq ∈ s.tm.spilling ∨ s.fld F.tmHostCfg_spillCells ≤ s.queueCells (qHost wq))

/-- A host receive queue that holds so many on-die cells spills from then on until it is empty (R512). -/
def State.markSpill (s : State) (wq : Nat) : State :=
  if s.spills wq ∧ wq ∉ s.tm.spilling ∧ s.queue (qHost wq) ≠ [] then
    { s with tm := { s.tm with spilling := wq :: s.tm.spilling } }
  else s

/-- A copy of `n` cells that the HBM extension does not take (R513, R514): its drop code, counted. -/
def State.spillRefused (s : State) (wq c n : Nat) (t : Stamp) : Option Verdict :=
  let q := qHost wq
  let hbm := (s.queue q).foldl (fun a c => if c.spilled then a + c.n else a) 0
  let free := 0x2000000 - s.tm.hbmUsed
  let h := free - s.fld F.tmStoRsv_cells
  if h * 2 ^ s.fld F.tmHostCfg_hbmAlpha / 128 < hbm + n then some (0x11, s.countRefusal q c t)
  else if free < n then some (0x12, (s.count C.tmHbmDrop 1 t).event 0x8001 2 [.q wq])
  else none

/-- A copy to a host receive queue: on die, or past the spill threshold into the HBM extension (R512 to R514). -/
def State.toHost (s : State) (x : PipeFrame) (wq c len : Nat) (mirror : Bool) (disp : Nat) : Verdict :=
  let f := x.frame
  let n := cellsOf f.bytes.length
  let copy := { Copy.plain (qHost wq) 0 c n len with mirror }
  let (v, s) :=
    if s.spills wq then
      match s.spillRefused wq c n f.stamp with
      | some v => v
      | none => (disp, s.putCopy x { copy with spilled := true })
    else s.tryCopy x copy disp
  (v, s.markSpill wq)

/-- The member ports of a multicast group for a frame, without its ingress port; `none` for a group not in use (R841). -/
def State.mcastPorts (s : State) (g : Nat) (f : Frame) : Option (List Nat) :=
  if s.fldAt f.stamp (F.tmMcastCfg_valid g) = 1 then
    some ((List.range 96).filter fun p =>
      (s.fldAt f.stamp (F.tmMcastPorts_ports g (p / 32))).testBit (p % 32) && decide (p ≠ f.port))
  else none

/-- Copies to several ports, one after another. Answers FORWARDED when one was admitted, else the first refusal, and how
many were admitted. -/
def State.toPorts (s : State) (x : PipeFrame) (c len : Nat) (ps : List Nat) : Verdict × Nat :=
  ps.foldl (fun (a : Verdict × Nat) p =>
    let (v, s') := a.1.2.toPort x p c len false 0x01
    let code := if a.1.1 = 0 then v else if a.1.1 = 1 ∨ v = 1 then (if v = 1 then 1 else a.1.1) else a.1.1
    ((code, s'), if v = 1 then a.2 + 1 else a.2)) ((0, s), 0)

/-- A mirror session's copy (R841 and the text after R511). -/
def State.toMirror (s : State) (x : PipeFrame) (m : Nat) : Verdict :=
  let t := x.frame.stamp
  let trunc := s.fldAt t (F.tmMirrorCfg_trunc m)
  let len := if trunc = 0 then x.frame.bytes.length else min trunc x.frame.bytes.length
  let c := s.fldAt t (F.tmMirrorCfg_class m)
  let dest := s.fldAt t (F.tmMirrorDest_dest m)
  if s.fldAt t (F.tmMirrorDest_valid m) = 0 then s.refuseDest t
  else if s.fldAt t (F.tmMirrorDest_kind m) = 1 then s.toHost x dest c len true 0x05
  else s.toPort x dest c len true 0x05

/-- The punt queue's copy (R506). The management cores consume it at once (assumption 22), so its cells are free again. -/
def State.toPunt (s : State) (x : PipeFrame) : Verdict :=
  let (v, s') := s.tryCopy x (Copy.plain qPunt 0 x.frame.d.queueClass (cellsOf x.frame.bytes.length) x.frame.bytes.length) 0x04
  if v = 0x04 then
    match (s'.queue qPunt).getLast? with
    | some c => (v, (s'.unqueue c).releaseFrame x.frame.id)
    | none => (v, s')
  else (v, s')

/-- The descriptors of a merge group that wait, held or on their way (R286). -/
def State.mergeHeld (s : State) (g : Nat) : Nat := (s.merge g).held.length + (s.mrg.onWay.filter (·.1 = g)).length

/-- The compensated ingress stamp of a frame (R271). -/
def State.compensated (s : State) (f : Frame) : Int :=
  (f.stamp : Int) - (s.cableAt f.port f.ream).1 * 256

/-- A merge group's copy, and its descriptor on its way to the Deckle (R269, R270, R286, R339). -/
def State.toMerge (s : State) (x : PipeFrame) (g : Nat) : Verdict :=
  let f := x.frame
  let m := s.merge g
  if !m.alive then (0x10, s)
  else if m.destKind = 1 ∧ s.tooLong m.dest f.bytes.length then (0x10, s.count (C.portTxOversizeDrop m.dest) 1 f.stamp)
  else if s.fldAt f.stamp (F.mrgMaxHeld_count g) ≤ s.mergeHeld g ∨ 65536 ≤ s.heldDescs + s.mrg.onWay.length then
    (0x11, s.count (C.mrgRefused g) 1 f.stamp)
  else
    let id := s.tm.nextCopy
    let (v, s) := s.tryCopy x (Copy.plain (qMerge g) 0 f.d.queueClass (cellsOf f.bytes.length) f.bytes.length) 0x03
    if v = 0x03 then
      let d : Desc := { port := f.port, c := s.compensated f, stamp := f.stamp, ream := f.ream, copy := id, gran := 0, rank := 0 }
      (v, { s with mrg := { s.mrg with onWay := s.mrg.onWay ++ [(g, d)] } })
    else (v, s)

/-- The block period of a group speed, in units of 10^-2 ns (*Release groups and release times*). -/
def blockPeriod (speed : Nat) : Nat := ([640, 256, 512, 256, 128, 64, 32, 16] : List Nat).getD speed 640

/-- The first launch slot at or after a time, by code of speed and FEC mode (R292, R293). -/
def slotFrom (speed fec : Nat) (t : Stamp) : Stamp :=
  let per := blockPeriod speed
  let k := ceilDiv (t * 100) (65536 * per)
  (k + Config.slotSkip speed fec k) * per * 65536 / 100

/-- One release copy put into holding, or refused by a full one (R296, R298, R299, R533). -/
def State.holdCopy (s : State) (x : PipeFrame) (g : Nat) (r : Stamp) (p : Nat) : Verdict :=
  let f := x.frame
  if 262144 ≤ (s.queue qRelease).length then
    (0x11, (s.count C.tmRelFull 1 f.stamp).event 0x8004 2 [])
  else
    let c := { Copy.plain qRelease p f.d.queueClass (cellsOf f.bytes.length) f.bytes.length with
      portCopy := true, relTime := r, relGen := (s.relGroup g).gen }
    (0x01, s.putCopy x { c with late := decide (s.handoffAt c < s.now) })

/-- The copies of a release-timed frame (R292, R302, R303, R339, R841). -/
def State.toRelease (s : State) (x : PipeFrame) (g : Nat) (req : Stamp) (ps : List Nat) : Verdict × Nat :=
  let f := x.frame
  let len := f.bytes.length
  if !(s.relGroup g).alive then ((0x10, s), 0)
  else
    let s := (ps.filter fun p => !s.configured p).foldl (fun s _ => s.count C.tmOwnerDrop 1 f.stamp) s
    let ps := ps.filter s.configured
    let long := fun p => s.tooLong p len
    let s := (ps.filter long).foldl (fun s p => s.count (C.portTxOversizeDrop p) 1 f.stamp) s
    let ps := ps.filter fun p => !long p
    let r := slotFrom (s.relGroup g).speed (s.relGroup g).fec req
    if ps = [] then ((0x10, s), 0)
    else if s.now + s.fldAt f.stamp (F.relHorizon_us g) * usStamp < r then ((0x10, s.count (C.relFar g) 1 f.stamp), 0)
    else if r < s.now ∧ s.fldAt f.stamp (F.relGroupCfg_latePolicy g) = 1 then ((0x10, s), 0)
    else if (match s.tm.frames.get? f.id with | some h => decide (h.onDie = 0) | none => true) &&
        decide (s.freeCells < cellsOf len) then
      ((0x12, s.count C.tmNobufDrop 1 f.stamp), 0)
    else ps.foldl (fun (a : Verdict × Nat) p =>
      let (v, s') := a.1.2.holdCopy x g r p
      ((if a.1.1 = 1 then 1 else v, s'), if v = 1 then a.2 + 1 else a.2)) ((0, s), 0)

/-- The copies of a frame's primary destination, and how many port copies were admitted. -/
def State.toPrimary (s : State) (x : PipeFrame) (d : Dest) : Verdict × Nat :=
  let f := x.frame
  let ports := match d with
    | .port p => some [p]
    | .mcast g => s.mcastPorts g f
    | _ => none
  match d with
  | .host wq => (s.toHost x wq f.d.queueClass f.bytes.length false 0x02, 0)
  | .merge g => (s.toMerge x g, 0)
  | .storage c =>
    ((0x02, s.putCopy x { Copy.plain (qConn c) 0 f.d.queueClass 0 f.bytes.length with mirror := false }), 0)
  | .port _ | .mcast _ =>
    match ports with
    | none | some [] => (s.refuseDest f.stamp, 0)
    | some ps =>
      match f.d.rel with
      | some (g, req) => s.toRelease x g req ps
      | none => s.toPorts x f.d.queueClass f.bytes.length ps

/-- One destination of a frame, by its place in `Decision.named`. -/
def State.toNamed (s : State) (x : PipeFrame) (k : Nat) : Verdict × Nat :=
  match k with
  | 0 => match x.frame.d.dest with
    | some d => s.toPrimary x d
    | none => (s.refuseDest x.frame.stamp, 0)
  | 1 => (s.toPunt x, 0)
  | m => (s.toMirror x (m - 2), 0)

/-- The disposition of a frame from what became of its destinations in the order they were named (R193). -/
def dispositionOf (vs : List Nat) : Nat :=
  (([0x01, 0x03, 0x02, 0x04, 0x05] : List Nat).find? (· ∈ vs)).getD (vs.headD 0x10)

/-! ### Contexts -/

/-- The context that a handle names, when its tag is current, its type fits and it has not expired (R543, R545). -/
def State.heldCtx (s : State) (h : Nat) (types : List Nat) : Option Ctx :=
  if s.handleOf (handleIndex h) = h then
    (s.eng.ctxs.get? (handleIndex h)).bind fun c =>
      if c.info.type ∈ types ∧ c.state ≠ .expired then some c else none
  else none

/-- The context that a frame can newly go to: one that is going takes no new item (R577). -/
def State.usable (s : State) (h : Nat) (types : List Nat) : Option Ctx :=
  (s.heldCtx h types).bind fun c => if c.dying then none else some c

/-- The context that a frame goes to next: of its DECRYPT, or of its ENCRYPT (R425, R431). -/
def Frame.crypto (f : Frame) : Option (Nat × List Nat) :=
  match f.d.decrypt, f.d.encrypt with
  | some h, _ => some (h, [1, 4])
  | none, some h => some (h, [2, 3])
  | none, none => none

/-! ### The command -/

/-- Whether a WQ takes host-bound copies: a RECV WQ that is ACTIVE (R652, R679). -/
def State.wqTakes (s : State) (wq : Nat) : Bool :=
  match s.qm.wqs.get? wq with
  | some q => decide (q.kind = 1 ∧ q.state = .active)
  | none => false

/-- What a frame was accepted as by an engine, when its generation is no longer current (R574). -/
def State.staleItem (s : State) (f : Frame) : Option ItemSt :=
  f.item.bind fun i => if (s.fn i.fn).gen = i.gen then none else some i

/-- A host-bound copy discarded by the generation of its item (R574, R681). -/
def State.discardStale (s : State) (c : Copy) (i : ItemSt) : State :=
  let s := (s.count C.cryGenDiscard 1 (s.stampOf c)).event 0x900B 1 [.q i.fn, .q i.engine]
  (s.genReport (s.stampOf c) (c.queue - 10000) noEntry i.engine i.fn i.gen).dropCopy c 0x41

/-- A host-bound copy that its WQ cannot take discarded: by its item's generation, or as DELIVERY_FAILED (R574, R679). -/
def State.discardHost (s : State) (c : Copy) : State :=
  match (s.tm.frames.get? c.frame).bind fun f => s.staleItem f.frame with
  | some i => s.discardStale c i
  | none => s.dropCopy c 0x40

/-- Copies of a frame whose destination can take none discarded at once (R331, R194, R679 for a WQ that is gone, and
assumption 115 for a connection that is). -/
def State.discardLost (s : State) (frame : Nat) : State :=
  (s.copiesOf frame).foldl (fun s c =>
    if c.queue < 2000 then (if s.portTakes c.port then s else s.dropAtPort c)
    else if 10000 ≤ c.queue ∧ c.queue < 1000000 then (if s.wqTakes (c.queue - 10000) then s else s.discardHost c)
    else if qConn 0 ≤ c.queue ∧ s.eng.conns.has (c.queue - qConn 0) = false then (s.unqueue c).settleFrame c.frame
    else s) s

/-- Whether a frame's one copy goes cut-through (R535), judged before its admission. -/
def State.cutsThrough (s : State) (x : PipeFrame) : Bool :=
  let f := x.frame
  match f.d.named, f.d.dest with
  | [0], some (.port p) =>
    decide (s.fld F.tmCtrl_cutThroughEn = 1 ∧ s.fld (F.tmPortCfg_cutThrough p) = 1) && !f.crypted && f.d.rel.isNone &&
      decide (f.port < 96) && decide (s.speed f.port = s.speed p) && (s.queue (qPort p f.d.queueClass)).isEmpty &&
      decide ((s.port p).txUntil ≤ s.now) && decide ((s.port p).toSend = [])
  | _, _ => false

/-- A frame's one copy marked as cut-through when its class is eligible (R518, R535). -/
def State.markCut (s : State) (f : Frame) (was : Bool) : State :=
  match was, s.copiesOf f.id with
  | true, [c] =>
    if s.eligible c.port c.cls (s.now + s.leadNs c.port * nsStamp) then
      let s := { s with tm := { s.tm with queues := s.tm.queues.set c.queue [{ c with cut := true }] } }
      s.count (C.tmCutThrough c.port) 1 f.stamp
    else s
  | _, _ => s

/-- The input queue of an engine (R506); what waits for a role that no engine holds waits apart. -/
def engineQueue (engine : Nat) : Nat := qCrypto (min engine 34)

/-- A frame admitted to the input queue of its context's engine (R506, R507, R545, R546), or dropped. -/
def State.toCrypto (s : State) (x : PipeFrame) (h : Nat) (types : List Nat) : State :=
  let f := x.frame
  match s.usable h types with
  | none => (s.count C.cryBadContext 1 f.stamp).dropInSlice f 0x10
  | some k =>
    let n := cellsOf f.bytes.length
    let engine := roleEngine s.eng.cryRoles (handleIndex h % 32)
    let item := some ⟨k.fn, (s.fn k.fn).gen, engine⟩
    let x' := { x with frame := { f with item, cells := if f.d.decrypt.isSome then f.cells else 0 } }
    let (v, s) := s.tryCopy x' (Copy.plain (engineQueue engine) 0 f.d.queueClass n f.bytes.length) 0
    if v = 0 then (if f.d.decrypt.isSome then s else s.freeSlice f) else s.dropInSlice f v

/-- TM_ADMISSION (R507): the next frame that left its last pass, or that a crypto engine handed back. -/
def execTmAdmission (s : State) : Res :=
  whenWorking s <|
    match s.tm.input with
    | [] => .next s
    | x :: rest =>
      let f := x.frame
      let s := { s with tm := { s.tm with input := rest } }
      if s.ldg.refusing && s.isRecorded f.ream f.d.ledgerClass then
        .next ((s.bumpAt F.ldgRefused_count 1 f.stamp).dropInSlice f 0x17)
      else match f.crypto with
        | some (h, types) => .next (s.toCrypto x h types)
        | none =>
          let cut := s.cutsThrough x
          let (vs, left, s) := f.d.named.foldl (fun (a : List Nat × Nat × State) k =>
            let ((v, s'), n) := a.2.2.toNamed x k
            (a.1 ++ [v], a.2.1 + n, s')) ([], 0, s)
          let disp := dispositionOf vs
          let send := match f.origin with | .send .. => true | _ => false
          let s := s.formLeaf f disp (decide (disp < 0x10) || send)
          let s := ((s.freeSlice f).settled f disp left).markCut f cut
          .next ((s.discardLost f.id).forget f.id)

end Sys2Proof.Machine
end

