-- ==== Sys2Proof/Machine/Egress.lean ====
section
/-! DEFINITION. Egress: MACsec on transmit, release hand-off, the start of a frame at a port, and delivery to host receive
queues (R136, R141, R298 to R301, R338, R340 to R349, R358, R510, R511, R518 to R524, R530, R534, R574, R659 to R662). -/

namespace Sys2Proof.Machine

/-! ### The frame on the wire -/

/-- One bit step of the IEEE 802.3 CRC, reflected. -/
def crcStep (c : Nat) : Nat := if c % 2 = 1 then (c / 2) ^^^ 0xEDB88320 else c / 2

/-- The FCS of a frame (R338), in transmission order. -/
def fcs (b : Bytes) : Bytes :=
  let c := b.foldl (fun c x => (List.range 8).foldl (fun c _ => crcStep c) (c ^^^ x.toNat)) 0xFFFFFFFF
  le 4 (c ^^^ 0xFFFFFFFF)

/-- A frame protected under an SA (R340, IEEE 802.1AE): SecTAG after the source address, the rest encrypted or only
authenticated, then the ICV. `rd` reads the port's fields as they stood when the frame came to it (R15). -/
def protect (rd : FieldRef → Nat) (p : Nat) (a : SaSt) (b : Bytes) : Bytes :=
  let suite := rd (F.portMsecCfg_suite p)
  let sci := rd (F.portMsecSciH_sci p) * 2 ^ 32 + rd (F.portMsecSciL_sci p)
  let withSci := decide (rd (F.portMsecCfg_includeSci p) = 1)
  let only := decide (rd (F.portMsecCfg_protectOnly p) = 1)
  let data := b.drop 12
  let tci := (if withSci then 0x20 else 0) + (if only then 0 else 0x0C) + rd (F.portMsecCfg_encAn p)
  let tag := be 2 0x88E5 ++ be 1 tci ++ be 1 (if data.length < 48 then data.length else 0) ++ be 4 a.pn ++
    (if withSci then be 8 sci else [])
  let nonce := a.nonce suite sci a.pn
  let head := b.take 12 ++ tag
  if only then head ++ data ++ fitBytes 16 (Config.seal suite a.key nonce (head ++ data) [])
  else head ++ fitBytes (data.length + 16) (Config.seal suite a.key nonce head data)

/-- MACsec on transmit (R340 to R342, R348, R349): the bytes as the MAC gets them; `none` for a frame that would need a PN
that its SA does not have. `mark` orders the frame's coming to the port among the writes of L-class fields (R15). -/
def State.msecTx (s : State) (p : Nat) (b : Bytes) (t : Stamp) (mark : Nat) : Option Bytes × State :=
  let rd := s.fldSince mark
  if rd (F.portMsecCfg_txEn p) = 0 ∨ msecBypass rd p (etherType b) then (some b, s)
  else
    let an := rd (F.portMsecCfg_encAn p)
    let xpn := decide (2 ≤ rd (F.portMsecCfg_suite p))
    match (s.port p).txSas.get? an with
    | none => (none, s)
    | some a =>
      if (if xpn then 2 ^ 64 else 2 ^ 32) ≤ a.pn then
        if a.dry then (none, s)
        else
          (none, (s.modPort p fun x => { x with txSas := x.txSas.set an { a with dry := true } }).event 0x1006 3 [])
      else
        let w := protect rd p a b
        let low := decide ((if xpn then 0xC000000000000000 else 0xC0000000) ≤ a.pn + 1) && !a.warned
        let s := s.modPort p fun x => { x with txSas := x.txSas.set an { a with pn := a.pn + 1, warned := a.warned || low } }
        let s := s.count (C.portTxMsecProtected p) 1 t
        (some w, if low then s.event 0x1005 1 [.q p, .q an] else s)

/-- Preamble and SFD (R338). -/
def preamble : Bytes := List.replicate 7 0x55 ++ [0xD5]

/-- The bytes of a copy. -/
def Copy.bytes (c : Copy) (f : Frame) : Bytes := f.bytes.take c.len

/-- The time that a frame takes on the line: preamble and SFD, frame with FCS, minimum gap. -/
def State.wireTime (s : State) (p : Nat) (w : Bytes) : Nat := bitTime ((w.length + 20) * 8) (s.speed p)

/-- Whether a buffer cell's error strikes a copy as it leaves (R511): the copy is discarded. -/
def State.cellFault (s : State) (c : Copy) : State :=
  let t := s.stampOf c
  ((s.count C.tmCellErr 1 t).event 0x8006 3 []).dropCopy c 0x40

/-- A copy launched on a port with an egress stamp (R109, R338, R349, R505, R666), or discarded for want of a PN. Answers
whether it was launched. -/
def State.launch (s : State) (p : Nat) (c : Copy) (egress : Stamp) (late : Bool) : Bool × State :=
  match s.tm.frames.get? c.frame with
  | none => (false, s.unqueue c)
  | some f =>
    let t := f.frame.stamp
    let ptp := c.ptp f.frame
    let b := c.bytes f.frame
    let mark := if c.queue = qHanded p then c.handed else s.liveMark
    match s.msecTx p (match ptp with | some m => s.ptpStamped m b egress | none => b) t mark with
    | (none, s) => (false, s.dropAtPort c)
    | (some b, s) =>
      let b := b ++ zeros (60 - b.length)
      let w := b ++ fcs b
      let s := (s.count (C.portTxFrames p) 1 t).count (C.portTxOctets p) w.length t
      let s := (s.addRate p 0 w.length).emit (.frame p egress (preamble ++ w))
      let s := s.endTx p (s.now + s.wireTime p w) (some (f.frame, c.mirror))
      let s := if c.portCopy then s.settleSend c.frame (some egress) late else s
      let s := (s.unqueue c).settleFrame c.frame
      (true, match ptp with | some m => s.ptpLaunched m egress | none => s)

/-! ### Release copies -/

/-- The code of a port's speed (R309). -/
def State.speedCode (s : State) (p : Nat) : Nat := (([10, 25, 50, 100, 200, 400, 800, 1600] : List Nat).idxOf? (s.speed p)).getD 0

/-- The first slot of its port that a late copy can take when the earliest instant it can cross the ball is `t` (R300), as an
instant at the ball and as compensated time. -/
def State.lateSlot (s : State) (c : Copy) (t : Stamp) : Stamp × Stamp :=
  let cable := (s.cableAt c.port s.ream).2 * 256
  let r := slotFrom (s.speedCode c.port) (s.fld (F.portMode_fec c.port)) (t + cable)
  (r - cable, r)

/-- What a late copy that is sent or dropped leaves behind (R300, R301): event, leaf, counter. -/
def State.markLate (s : State) (c : Copy) (slot : Stamp) (counter : Nat) : State :=
  let g := s.groupOf c
  let s := s.event 0x7012 1 [.q g, .q c.port, .q ((slot - c.relTime) / nsStamp)]
  let s := s.count counter 1 (s.stampOf c)
  match s.tm.frames.get? c.frame with
  | some f => s.lateOutcome f.frame 0x42
  | none => s

/-- A release copy handed off to its port, in its slot or late. -/
def State.toLaunch (s : State) (c : Copy) (onTime : Bool) : State :=
  let s := s.unqueue c
  let q := qHanded c.port
  let handed := if c.queue = q then c.handed else s.liveMark
  let c := { c with queue := q, aligned := c.aligned || onTime, late := !onTime, handed }
  { s with tm := { s.tm with queues := s.tm.queues.set q (s.queue q ++ [c]) } }

/-- A copy found late (R299): kept for the first slot it can take, or discarded, as the group's policy in the frame's epoch
says (R300, R301). -/
def State.judgeLate (s : State) (c : Copy) : State :=
  let g := s.groupOf c
  if s.fldAt (s.stampOf c) (F.relGroupCfg_latePolicy g) = 1 then
    let slot := (s.lateSlot c (s.now + s.leadNs c.port * nsStamp)).2
    let s := s.markLate c slot (C.relLateDrop g)
    let s := if c.portCopy then s.settleSend c.frame none false else s
    (s.unqueue c).settleFrame c.frame
  else
    s.toLaunch c false

/-- The held copy of a port with the earliest hand-off time. -/
def State.firstHeld (s : State) (p : Nat) : Option Copy :=
  ((s.queue qRelease).filter (·.port = p)).foldl (fun (a : Option Copy) c =>
    match a with
    | none => some c
    | some b => if s.handoffAt c < s.handoffAt b then some c else some b) none

/-- RELEASE_HANDOFF (R298, R299, R331): at its hand-off time a copy goes to its port, is discarded with a port that takes
none, or is late. -/
def execReleaseHandoff (port : Nat) (s : State) : Res :=
  whenWorking s <|
    match s.firstHeld port with
    | none => .next s
    | some c =>
      if s.now < s.handoffAt c then .next s
      else if !s.portTakes port then .next (s.dropAtPort c)
      else
        let taken := (s.slotsOf port).any fun x => decide (x.relTime = c.relTime ∧ x.id < c.id)
        if c.late || s.classPaused port c.cls || taken || !s.onSlots c then .next (s.judgeLate c)
        else .next (s.toLaunch c true)

/-! ### The start of a frame -/

/-- A generated pause frame that can start: the first one waiting, unless it would overlap a reserved slot (R358). -/
def State.pauseDue (s : State) (p : Nat) : Option (Option Nat × Nat) :=
  if s.clearOfSlots p (bitTime (84 * 8) (s.speed p)) then (s.port p).toSend.head? else none

/-- A pause frame sent and counted (R357, R371). -/
def State.startPause (s : State) (p : Nat) (x : Option Nat × Nat) : State :=
  let s := s.emit (.pause p x.1 x.2)
  let s := s.count1 (match x.1 with | some pr => C.portTxPfc p pr | none => C.portTxPause p)
  (s.modPort p fun y => { y with toSend := y.toSend.drop 1 }).endTx p (s.now + bitTime (84 * 8) (s.speed p)) none

/-- A release copy that was handed off starts (R296, R300, R534): at its slot, or, late, at the first slot it can take. The port
shaper counts its line time. -/
def State.startRelease (s : State) (p : Nat) (c : Copy) (egress : Stamp) (cellError : Bool) : State :=
  if s.classPaused p c.cls then s.judgeLate c
  else if !c.late && decide (s.ballAt c < egress) then s.judgeLate c
  else if cellError then s.cellFault c
  else
    let g := s.groupOf c
    let t := s.stampOf c
    let (ball, slot) := if c.late then s.lateSlot c egress else (s.ballAt c, c.relTime)
    let len : Int := (c.len + s.msecGrow p + 24 : Nat)
    let rate := s.portRate p (s.schedStamp c)
    let s := s.dequeued p (s.schedStamp c)
    let s := if c.late then s.markLate c slot (C.relLate g) else s.count (C.relLaunched g) 1 t
    let (sent, s) := s.launch p c ball c.late
    if sent then s.modTmPort p fun q => { q with shaper := q.shaper.spend rate.1 rate.2 s.now len } else s

/-- A class's head copy starts (R519 to R522, R530). -/
def State.startClass (s : State) (p c : Nat) (egress : Stamp) (cellError : Bool) : State :=
  match s.queue (qPort p c) with
  | [] => s
  | x :: _ =>
    let st := s.schedStamp x
    let s := if (s.gatePass x egress).2 then
        (s.count (C.tmGateOverrun p) 1 (s.stampOf x)).event 0x8002 2 [.q p, .q c]
      else s
    let len := s.schedLen p x.len st
    let rc := s.classRate p c st
    let rp := s.portRate p st
    let s := s.dequeued p st
    if cellError then s.cellFault x
    else
      let (sent, s) := s.launch p x egress false
      if sent then s.modTmPort p fun q => { q with
        deficits := if c < 4 ∨ !q.deficits.has c then q.deficits else q.deficits.set c (q.deficits.getD c 0 - len)
        shapers := q.shapers.set c ((q.shapers.getD c ShaperSt.init).spend rc.1 rc.2 s.now len)
        shaper := q.shaper.spend rp.1 rp.2 s.now len }
      else s

/-- The release copy that can start at a port: the first one handed off, but for late copies that a pause holds or that would
overlap a reserved slot (R298, R300). -/
def State.releaseDue (s : State) (p : Nat) : Option Copy :=
  (s.queue (qHanded p)).find? fun c => !(c.late && (s.classPaused p c.cls || !s.clearOfSlots p (s.lineTime p c.len)))

/-- PORT_TRANSMIT_START (R518): at a frame boundary the first source that can start wins, and the MAC fixes the egress stamp
(R141). `symbol` is the symbol of the word launched at `tLaunch` on `lane` that carries the SFD's first bit. -/
def execPortTransmitStart (port : Nat) (tLaunch : Stamp) (lane symbol : Nat) (cellError : Bool) (s : State) : Res :=
  whenWorking s <|
    if !s.configured port || !s.portTakes port || (s.port port).remoteFault || decide (s.now < (s.port port).txUntil) ||
        !decide (port ≤ lane ∧ lane < port + s.lanesOf port) || !s.launchable (dieOf lane) (s.rateOf port) tLaunch then .next s
    else
      let egress := s.egressStamp (s.rateOf port) lane tLaunch symbol
      let s := s.settleSa port
      match s.pauseDue port with
      | some x => .next (s.startPause port x)
      | none =>
        match s.releaseDue port with
        | some c => .next (s.startRelease port c egress cellError)
        | none =>
          let s := s.markGates port egress
          match s.pickClass port egress with
          | some (c, s) => .next (s.startClass port c egress cellError)
          | none => .next s

/-! ### Host receive queues -/

/-- A byte string cut into pieces: fuel, piece length. -/
def pieces : Nat → Nat → Bytes → List Bytes
  | 0, _, _ => []
  | k + 1, n, b => if b.length ≤ n then [b] else b.take n :: pieces k n (b.drop n)

/-- Whether the head copy of a host receive queue can be written now: its function may issue requests (R607), and as many
receive buffers are posted as it needs (R660, R661). -/
def State.deliverable (s : State) (wq : Nat) : Bool :=
  match s.qm.wqs.get? wq, s.queue (qHost wq) with
  | some q, c :: _ =>
    s.mayIssue q.fn && s.hif.dlUp && !q.suspended && decide (q.state = .active) && decide (q.bufSize ≠ 0) &&
      decide (max 1 (ceilDiv c.len q.bufSize) ≤ q.posted.length) &&
      (decide (q.fn = 0) ||
        (let r := s.vfRxRate q.fn c.mark; (s.tm.vfRx.getD q.fn ShaperSt.init).holds r.1 r.2 s.now))
  | _, _ => false

/-- The first number of a list at or after a turn, else the least: round robin. -/
def nextTurn (turn : Nat) (l : List Nat) : Option Nat :=
  let least := fun (l : List Nat) => l.foldl (fun (a : Option Nat) x =>
    match a with | none => some x | some y => some (min x y)) none
  match least (l.filter fun x => decide (turn ≤ x)) with
  | some x => some x
  | none => least l

/-- The WQ that round robin serves next in the host direction: among functions, then among a function's WQs. -/
def State.hostTurn (s : State) : Option Nat :=
  let ready := s.qm.wqs.entries.filter fun e => s.deliverable e.1
  (nextTurn s.tm.fnTurn (ready.map fun e => e.2.fn)).bind fun fn =>
    nextTurn (s.tm.wqTurn.getD fn 0) ((ready.filter fun e => decide (e.2.fn = fn)).map (·.1))

/-- FLAGS of a RECV write-back but MORE (R662). -/
def recvFlags (c : Copy) (f : Frame) (recorded : Bool) : Nat :=
  c.mergeFlags % 4 + f.engFlags + (if c.mirror then 0x80 else 0) + (if recorded then 0x200 else 0)

/-- A copy's bytes written into posted buffers, and the entries that wait for the leaf index (R605, R659, R660, R663). -/
def State.fillBuffers (s : State) (wq : Nat) (q : WqSt) (c : Copy) (x : TmFrame) : State :=
  let f := x.frame
  let b := c.bytes f
  let ps := pieces (b.length + 1) q.bufSize b
  let place := s.ldg.placed.get? f.id
  let recorded := match place with | some p => p.recorded | none => false
  let group := match f.d.dest with | some (.merge g) => if c.mergeSeq ≠ 0 then g else 0xFF | _ => 0xFF
  let used := (ps.zip q.posted)
  let s := used.foldl (fun (s : State) e => s.dmaTo q.fn (s.wqVector q) .frameData e.2.2 e.1) s
  let entries := used.zipIdx.map fun (e : (Bytes × Word × Nat) × Nat) =>
    { wq, idx := e.1.2.1, gen := (s.fn q.fn).gen, len := e.1.1.length, more := decide (e.2 + 1 < used.length),
      frameLen := b.length, leaf := f.leaf (match place with | some p => p.disp | none => 0x02) recorded, mergeGroup := group, flags := recvFlags c f recorded, firstCode := x.first,
      cls := c.cls, ream := (match place with | some p => p.ream | none => f.ream),
      recorded, mergeSeq := c.mergeSeq : RecvSt }
  (s.modWq wq fun q => { q with posted := q.posted.drop used.length }).modQm fun m => { m with recvs := m.recvs ++ entries }

end Sys2Proof.Machine
end

