-- ==== Sys2Proof/Machine/Arbiter.lean ====
section
/-! DEFINITION. The order in which the host island serves what it writes to the host (R66, assumption 111), and the delivery of
host-bound frames (R510, R511, R523, R659). Head blocks come first, then ledger records and headers within their share of the link,
then frames and storage read data by weighted round robin; notifications, MSI-X messages and admin write-backs never wait. -/

namespace Sys2Proof.Machine

/-! ### What waits -/

/-- Whether a head block waits that can be written now (R650). -/
def State.headBlockDue (s : State) : Bool := s.qm.wqs.values.any fun q => q.hbWaiting && s.mayIssue q.fn

/-- A ring set by number. -/
def State.ringSet (s : State) (i : Nat) : RingSet := s.ldg.sets.getD i RingSet.init

/-- Whether a Ream before one is not sealed. -/
def State.olderOpen (s : State) (ream : Nat) : Bool :=
  s.ldg.ended.any (fun r => decide (r.num < ream)) || (match s.ldg.cur with | some c => decide (c.num < ream) | none => false)

/-- Whether the host takes ledger data now: the link carries requests (R620), and the PF may issue them (R607). -/
def State.hostTakes (s : State) : Bool := s.hif.dlUp && !s.hif.silenced && s.mayIssue 0

/-- Whether a record waits for one of its ledger port in an earlier Ream that its own ring set, another one, has not taken (R225,
assumption 132). -/
def State.heldBack (s : State) (x : RecSt) : Bool :=
  s.ldg.records.any fun (y : RecSt) => decide (y.set ≠ x.set ∧ y.leaf.port = x.leaf.port ∧ y.ream < x.ream)

/-- Free slots of a ring (R230). -/
def ringRoom (prod cons : Word) (log2 : Nat) : Nat := 2 ^ log2 - (prod - cons).toNat

/-- Headers that a destination can take now: released, none before it still to be released, and owed to it. -/
def State.headersFor (s : State) (set : Nat) (arch : Bool) : List HdrSt :=
  (s.ldg.headers.takeWhile (·.released)).filter fun h => decide ((set, arch) ∈ h.owed)

/-- Whether a ring set has a record or a header that can be written to its ring now (R225, R230, R233). -/
def State.ringDue (s : State) (set : Nat) : Bool :=
  let r := s.ringSet set
  r.enabled && decide (r.dest ≠ 1) && s.hostTakes &&
    ((decide (0 < ringRoom r.recProd r.recCons r.recLog2) && s.ldg.records.any fun (x : RecSt) =>
        decide (x.set = set) && !x.hostDone && !s.olderOpen x.ream && !s.heldBack x && (s.recordIndex x).isSome) ||
      (decide (0 < ringRoom r.hdrProd r.hdrCons r.hdrLog2) && !(s.headersFor set false).isEmpty))

/-- Whether ledger records or headers wait that can be written now. -/
def State.ledgerDue (s : State) : Bool := (List.range 4).any s.ringDue

/-- Whether a segment waits that can bring storage read data. -/
def State.storageDue (s : State) : Bool :=
  s.eng.conns.entries.any fun e => e.2.outstanding.any (fun x => decide (x.args.dir = 2)) && !(s.queue (qConn e.1)).isEmpty

/-- Whether a frame's write-back waits that can be written now (R663). -/
def State.writebackDue (s : State) : Bool := s.qm.recvs.any fun e => (s.leafIndexOf e.leaf.frame).isSome

/-- Whether a host-bound frame or a frame's write-back waits. -/
def State.frameDue (s : State) : Bool := s.hostTurn.isSome || s.writebackDue

/-! ### Shares -/

/-- What is left of the strict share of records and headers, in units of `polUnit` to the byte: it grows with 25 % of the usable
link rate, up to 16 KiB. -/
def State.ledgerCredit (s : State) : Int :=
  min (16384 * polUnit) (s.hif.ledgerCredit + Config.linkKbps s.hif.rate s.hif.width / 4 * (s.now - s.hif.ledgerAt : Nat))

/-- Bytes of records or headers written. -/
def State.ledgerServed (s : State) (bytes : Nat) : State :=
  { s with hif := { s.hif with ledgerCredit := s.ledgerCredit - bytes * polUnit, ledgerAt := s.now } }

/-- Whether records and headers are within their strict share. -/
def State.ledgerStrict (s : State) : Bool := decide (0 ≤ s.ledgerCredit)

/-- Whether frames are served before storage read data: by the bytes of each since both wait, to the weights of `HIF_ARB`. -/
def State.frameFirst (s : State) : Bool :=
  decide (s.hif.arbFrame * max 1 (s.fld F.hifArb_storageWeight) ≤ s.hif.arbStorage * max 1 (s.fld F.hifArb_frameWeight))

/-- Bytes of a frame or its write-back, or of storage read data, written: they count while the other kind waits too. -/
def State.linkServed (s : State) (frame : Bool) (bytes : Nat) : State :=
  if frame then
    (if s.storageDue then { s with hif := { s.hif with arbFrame := s.hif.arbFrame + bytes } }
     else { s with hif := { s.hif with arbFrame := 0, arbStorage := 0 } })
  else if s.frameDue then { s with hif := { s.hif with arbStorage := s.hif.arbStorage + bytes } }
  else { s with hif := { s.hif with arbFrame := 0, arbStorage := 0 } }

/-- Whether records and headers may be written now. -/
def State.ledgerTurn (s : State) : Bool :=
  !s.headBlockDue && ((!s.frameDue && !s.storageDue) || s.ledgerStrict)

/-- Whether what comes first leaves the link to frames and storage read data now. -/
def State.restTurn (s : State) : Bool := !s.headBlockDue && !(s.ledgerDue && s.ledgerStrict)

/-- Whether a host-bound frame, or a frame's write-back, may be written now. -/
def State.frameMay (s : State) : Bool := s.restTurn && (!s.storageDue || s.frameFirst)

/-- Whether storage read data may be written now. -/
def State.storageMay (s : State) : Bool := s.restTurn && (!s.frameDue || !s.frameFirst)

/-- HOST_DELIVERY (R66, R510, R511, R523, R659): the head copy of the host receive queue whose turn it is. -/
def execHostDelivery (wq : Nat) (cellError : Bool) (s : State) : Res :=
  whenWorking s <|
    if s.hostTurn ≠ some wq ∨ !s.frameMay then .next s
    else match s.qm.wqs.get? wq, s.queue (qHost wq) with
      | some q, c :: _ =>
        let rate := s.vfRxRate q.fn c.mark
        let len := s.vfLen c.len c.mark
        let spend := fun (s : State) =>
          if q.fn = 0 then s
          else { s with tm := { s.tm with
            vfRx := s.tm.vfRx.set q.fn ((s.tm.vfRx.getD q.fn ShaperSt.init).spend rate.1 rate.2 s.now len) } }
        let s := { s with tm := { s.tm with fnTurn := q.fn + 1, wqTurn := s.tm.wqTurn.set q.fn (wq + 1) } }
        if cellError then .next (s.cellFault c)
        else match s.tm.frames.get? c.frame with
          | some x =>
            match s.staleItem x.frame with
            | some i => .next (s.discardStale c i)
            | none => .next (((((spend s).fillBuffers wq q c x).unqueue c).settleFrame c.frame).linkServed true c.len)
          | none => .next (s.unqueue c)
      | _, _ => .next s

end Sys2Proof.Machine
end

