-- ==== Sys2Proof/Machine/Image.lean ====
section
/-! DEFINITION. A bank image as the device reads it: its header (R442), payload matchers and extractors (R401), the limits that R422
and *Stages and lookups* set to its stage programs, and the ranges of what its actions and templates hold (R425, R446). -/

namespace Sys2Proof

open Sys2Proof.Machine

/-! ### The header (R6, R442) -/

/-- The 64 bytes of the header. -/
def BankImage.header (i : BankImage) : Bytes := (i.head ++ zeros 64).take 64

/-- A little-endian field of the header. -/
def BankImage.field (i : BankImage) (off len : Nat) : Nat := leNat (bytesAt i.header off len)

/-- The fields of the header. -/
def BankImage.magic (i : BankImage) : Nat := i.field 0 4
def BankImage.version (i : BankImage) : Nat := i.field 4 2
def BankImage.device (i : BankImage) : Nat := i.field 6 2
def BankImage.bankId (i : BankImage) : Nat := i.field 8 8
def BankImage.length (i : BankImage) : Nat := i.field 16 4
def BankImage.sections (i : BankImage) : Nat := i.field 20 4
def BankImage.signerId (i : BankImage) : Nat := i.field 24 8

end Sys2Proof

namespace Sys2Proof.Machine

/-- A header: of a bank image, or of a base image, whose header has the same shape (*Base image contents*). -/
def imageHeader (magic bankId length sections signerId : Nat) : Bytes :=
  le 4 magic ++ le 2 1 ++ le 2 0x9640 ++ le 8 bankId ++ le 4 length ++ le 4 sections ++ le 8 signerId ++ zeros 32

/-! ### Matchers and extractors -/

/-- The anchor that a byte names (*Payload matching and extraction*). -/
def anchorOf (v : Nat) : Option Anchor := [Anchor.frame, .outerL3, .innerL3, .innerL4, .payload][v]?

/-- The common first bytes of an entry (R401): anchor, width up to `most`, offset up to 511, reserved bytes 0. -/
def entryHead (b : Bytes) (most : Nat) : Option (Anchor × Nat × Nat) :=
  let width := leNat (bytesAt b 1 1)
  let offset := leNat (bytesAt b 2 2)
  if width ≤ most ∧ offset ≤ 511 ∧ leNat (bytesAt b 4 4) = 0 then
    (anchorOf (leNat (bytesAt b 0 1))).map fun a => (a, width, offset)
  else none

/-- A matcher entry of 40 bytes (R401). -/
def readMatcher (b : Bytes) : Option Matcher :=
  (entryHead b 16).map fun (anchor, width, offset) =>
    { anchor, width, offset, value := bytesAt b 8 16, mask := bytesAt b 24 16 }

/-- An extractor entry of 8 bytes (R401). -/
def readExtractor (b : Bytes) : Option Extractor :=
  (entryHead b 8).map fun (anchor, width, offset) => { anchor, width, offset }

/-- `n` entries of `len` bytes each, from an offset on; `none` when one holds a value out of range. -/
def readEntries {α : Type} (read : Bytes → Option α) (b : Bytes) (at0 len n : Nat) : Option (List α) :=
  (List.range n).mapM fun k => read (bytesAt b (at0 + len * k) len)

/-- Entries 0 to 63 and the extractors after them (R401). -/
def readMatching (b : Bytes) : Option (List Matcher × List Extractor) :=
  match readEntries readMatcher b 0 40 64, readEntries readExtractor b 2560 8 8 with
  | some m, some x => some (m, x)
  | _, _ => none

/-- The width of a key selector. -/
def keyWidth (g : Stage) : Nat := g.key.foldl (fun a e => a + e.2) 0

/-- The widest key that a lookup kind takes (R422); the others have their keys fixed. -/
def keyLimit : LookupKind → Option Nat
  | .index => some 16
  | .exact => some 384
  | .ternary => some 640
  | .none | .fdbDst | .fdbSrc | .lpm4 | .lpm6 => none

/-! ### Ranges (R420, R425, R446) -/

/-- Whether a metadata field is one that R420 names: levels 0 to 3, PATTERN_0 to PATTERN_63, PK_0 to PK_7, 24 stages, 16 mirror
sessions, S0 to S7. -/
def metaFits : MetaField → Bool
  | .hdr level _ _ _ | .hdrValid level _ _ => decide (level < 4)
  | .pattern k => decide (k < 64)
  | .pk j | .pkValid j | .scratch j => decide (j < 8)
  | .hit g | .actionIndex g | .hitDest g => decide (g < 24)
  | .mirrorSet m => decide (m < 16)
  | _ => true

/-- Whether a predicate tests such fields. -/
def predFits : Pred → Bool
  | .always => true
  | .test f _ _ => metaFits f
  | .both a b | .either a b => predFits a && predFits b
  | .neither a => predFits a

/-- Whether a FORWARD names an egress port or a multicast group. -/
def forwardFits : Dest → Bool
  | .port n => decide (n < 96)
  | .mcast g => decide (g < 4096)
  | .host _ | .merge _ | .storage _ => false

/-- Whether an action's operands are in range (R425); an index of COUNT or POLICE may lie beyond the slice's (R439). -/
def actionFits (b : Bank) : Action → Bool
  | .forward d => forwardFits d
  | .toHost wq => decide (wq < 131072)
  | .punt r => decide (r < 65536)
  | .mirror m => decide (m < 16)
  | .encapsulate t => decide (t < b.templates.length)
  | .decapsulate l t => decide (1 ≤ l ∧ l ≤ 3 ∧ t.length = 14)
  | .encrypt h | .decrypt h => decide (h < 2 ^ 32)
  | .setQueue c | .ledgerClass c | .mergeGroup c => decide (c < 16)
  | .releaseTime g t => decide (g < 16) && (match t with
    | .offsetNs _ => true
    | .pk j => decide (j < 8))
  | .rewrite e => decide (e < b.edits.length)
  | .setMeta dst src => metaFits src && (match dst with
    | .vrf => true
    | .scratch i => decide (i < 8))
  | .forwardHit | .drop | .recirculate | .count _ | .police .. => true

/-- Whether an edit's operands are in range (R425). -/
def editFits : EditOp → Bool
  | .setDa b | .setSa b => decide (b.length = 6)
  | .pushVlan tpid tci => decide (tpid < 65536 ∧ tci < 65536)
  | .setDscp v => decide (v < 64)
  | .setPcp v => decide (v < 8)
  | .popVlan | .decTtl => true

/-- Whether an edit template pushes and pops up to 2 VLAN tags (R425). -/
def editsFit (l : List EditOp) : Bool :=
  l.all editFits && decide ((l.filter fun e => match e with | .pushVlan .. => true | _ => false).length ≤ 2 ∧
    (l.filter (· = .popVlan)).length ≤ 2)

/-- Whether an image's copy of an S-class word is of a register of HBX or PIPE and holds no reserved value (R19, R441). -/
def sFieldFits (e : Nat × Word) : Bool :=
  match findRow regTable (0x2000000 + e.1) with
  | some (r, _) => decide (e.1 < 0x20000) && r.fields.all fun f => decide (f.cls ≠ .staged) || f.ok (getBits e.2.toNat f.lo f.width)
  | none => false

/-- Whether a row's value, mask and action have the widths of its record (R459). -/
def imageRowFits (r : ImageRow) : Bool := decide (r.region < 8 ∧ r.value < 2 ^ 640 ∧ r.mask < 2 ^ 640 ∧ r.action < 2 ^ 32)

/-- Whether a stage program keeps its limits: key width (R422), lists of up to 8 actions, operands in range. -/
def stageFits (b : Bank) (g : Stage) : Bool :=
  (match keyLimit g.kind with
    | some n => decide (keyWidth g ≤ n)
    | none => true) && decide (g.hitList.length ≤ 8 ∧ g.missList.length ≤ 8) && predFits g.pred &&
    (g.key.all fun e => metaFits e.1) && g.hitList.all (actionFits b) && g.missList.all (actionFits b) &&
    (match g.kind with
      | .exact => decide (g.table < 16)
      | .index => decide (g.table < b.indexTables.length)
      | _ => true)

/-- The stages of a bank that use one of the given kinds. -/
def stagesOf (b : Bank) (l : List LookupKind) : Nat := (b.stages.filter fun g => decide (g.kind ∈ l)).length

/-- Whether a bank keeps R422 (24 stages, the stages of each kind, one TERNARY stage for each of 8 regions) and every value that it
holds is in range: action lists, up to 4,096 templates of up to 128 bytes, edits, exception codes, its copy of S-class fields and its
rows. -/
def bankFits (b : Bank) : Bool :=
  let regions := (b.stages.filter (·.kind = .ternary)).map (·.table)
  decide (b.stages.length ≤ 24) && b.stages.all (stageFits b) && b.actions.all (fun l => l.all (actionFits b)) &&
    decide (b.templates.length ≤ 4096) && b.templates.all (fun t => decide (t.bytes.length ≤ 128)) && b.edits.all editsFit &&
    b.drops.all (fun c => decide (c < 256)) && b.sFields.all sFieldFits && b.rows.all imageRowFits &&
    decide (stagesOf b [.fdbDst] ≤ 2) && decide (stagesOf b [.fdbSrc] ≤ 1) && decide (stagesOf b [.exact] ≤ 4) &&
    decide (stagesOf b [.lpm4, .lpm6] ≤ 2) && decide (regions.Nodup) && regions.all fun r => decide (r < 8)

/-- The bank of an image, its matchers and extractors as their bytes give them; `none` when a section holds a value out of range
or breaks R422 (R446). -/
def readImage (i : BankImage) : Option Bank :=
  match readMatching i.matching with
  | some (matchers, extractors) => if bankFits i.bank then some { i.bank with bankId := i.bankId, matchers, extractors } else none
  | none => none

end Sys2Proof.Machine
end

