-- ==== Sys2Proof/Machine/Layout.lean ====
section
/-! DEFINITION. The bytes of what the store holds in flash: superblocks, journal records and checkpoints, little-endian but for the
byte strings that are hash inputs or outputs (R6, R211, R697, R699, R700). -/

namespace Sys2Proof.Machine

/-- CRC-32C. -/
def crc32c (b : Bytes) : Bytes :=
  let step := fun (c : Nat) => if c % 2 = 1 then (c / 2) ^^^ 0x82F63B78 else c / 2
  le 4 ((b.foldl (fun c x => (List.range 8).foldl (fun c _ => step c) (c ^^^ x.toNat)) 0xFFFFFFFF) ^^^ 0xFFFFFFFF)

/-- SM3-HMAC (RFC 2104) under the store key. -/
def storeMac (b : Bytes) : Bytes :=
  let key := (Config.storeKey ++ zeros 64).take 64
  sm3 (key.map (· ^^^ 0x5C) ++ sm3 (key.map (· ^^^ 0x36) ++ b))

/-! ### Checkpoints (R211, R212) -/

/-- A checkpoint up to its CRC. -/
def Ckpt.body (k : Ckpt) : Bytes :=
  le 4 0x574D434B ++ zeros 4 ++ le 8 k.seq ++ le 8 k.ream ++ stampLe k.stop ++ le 4 k.epoch ++ le 8 k.reserved ++ le 8 k.keyId ++
    (k.root ++ zeros 32).take 32 ++ zeros 164

/-- The 256 bytes of a checkpoint. -/
def Ckpt.bytes (k : Ckpt) : Bytes := k.body ++ crc32c k.body

/-- The stamp that 12 bytes in host order hold (R75). -/
def stampOfLe (b : Bytes) : Stamp :=
  (leNat (bytesAt b 6 6) * 1000000000 + leNat (bytesAt b 2 4)) * 65536 + leNat (bytesAt b 0 2)

/-- The checkpoint that 256 bytes of flash hold, where MAGIC and CRC are valid (R212). -/
def Ckpt.ofBytes (b : Bytes) : Option Ckpt :=
  if b.length = 256 ∧ bytesAt b 0 4 = le 4 0x574D434B ∧ bytesAt b 252 4 = crc32c (b.take 252) then
    some { seq := leNat (bytesAt b 8 8), ream := leNat (bytesAt b 16 8), stop := stampOfLe (bytesAt b 24 12)
           epoch := leNat (bytesAt b 36 4), reserved := leNat (bytesAt b 40 8), keyId := leNat (bytesAt b 48 8)
           root := bytesAt b 56 32 }
  else none

/-- What is left of a checkpoint of which a reset let only the first `n` bytes be programmed: erased flash reads 0xFF. -/
def tornBytes (b : Bytes) (n : Nat) : Bytes := b.take n ++ List.replicate (b.length - n) 0xFF

/-! ### Regions (R694) -/

/-- The regions of a flash device. -/
inductive FlashRegion where
  | superblocksA | superblocksB | firmwareA | firmwareB | baseA | baseB | journal | events | checkpoints | wear
  deriving DecidableEq, Repr

/-- Where a region begins. -/
def FlashRegion.offset : FlashRegion → Nat
  | .superblocksA => 0
  | .superblocksB => 0x10000
  | .firmwareA => 0x20000
  | .firmwareB => 0x1020000
  | .baseA => 0x2020000
  | .baseB => 0x3820000
  | .journal => 0x5020000
  | .events => 0x9020000
  | .checkpoints => 0xB020000
  | .wear => 0xC020000

/-- How many bytes a region takes. -/
def FlashRegion.size : FlashRegion → Nat
  | .superblocksA | .superblocksB => 0x10000
  | .firmwareA | .firmwareB => 0x1000000
  | .baseA | .baseB => 0x1800000
  | .journal => 0x4000000
  | .events => 0x2000000
  | .checkpoints => 0x1000000
  | .wear => 0x3FE0000

/-- The slot that a superblock, or an update of a target, names (R697, R713). -/
def slotRegion (target slot : Nat) : FlashRegion :=
  if target = 0 then (if slot = 0 then .firmwareA else .firmwareB) else if slot = 0 then .baseA else .baseB

/-- The pages of the journal ring. -/
def ringPages : Nat := FlashRegion.journal.size / 256

/-- The sectors of the journal ring. -/
def ringSectors : Nat := FlashRegion.journal.size / 0x10000

/-! ### Superblocks (R697) -/

/-- A superblock up to its MAC. -/
def Superblock.body (b : Superblock) : Bytes :=
  le 4 0x53424B46 ++ le 2 1 ++ zeros 2 ++ le 8 b.seq ++ le 1 b.fwSlot ++ le 1 b.baseSlot ++ zeros 2 ++ le 4 b.baseLen ++
    le 8 b.replayFrom ++ le 4 b.journalOffset ++ le 4 b.epochHwm ++ zeros 8 ++ (b.baseHash ++ zeros 32).take 32 ++
    (b.fwHash ++ zeros 32).take 32 ++ zeros 112

/-- The 256 bytes of a superblock. -/
def Superblock.bytes (b : Superblock) : Bytes := b.body ++ storeMac b.body

/-- The superblock that 256 bytes of flash hold, where MAGIC and MAC are valid (R698). -/
def Superblock.ofBytes (b : Bytes) : Option Superblock :=
  if b.length = 256 ∧ bytesAt b 0 4 = le 4 0x53424B46 ∧ bytesAt b 224 32 = storeMac (b.take 224) then
    some { seq := leNat (bytesAt b 8 8), fwSlot := leNat (bytesAt b 16 1), baseSlot := leNat (bytesAt b 17 1)
           baseLen := leNat (bytesAt b 20 4), replayFrom := leNat (bytesAt b 24 8), journalOffset := leNat (bytesAt b 32 4)
           epochHwm := leNat (bytesAt b 36 4), baseHash := bytesAt b 48 32, fwHash := bytesAt b 80 32 }
  else none

/-- The superblocks of a device, newest first, with one more. Successive ones go alternately into the two regions, here by the parity
of SEQ; a region of 256 slots that is full is erased as the next superblock reaches it (R697). -/
def addBlock (l : List Bytes) (b : Bytes) : List Bytes :=
  let side := fun (x : Bytes) => leNat (bytesAt x 8 8) % 2
  b :: (if FlashRegion.superblocksA.size / 256 ≤ (l.filter fun x => decide (side x = side b)).length then l.filter fun x => decide (side x ≠ side b) else l)

/-- The valid superblocks of both devices, highest SEQ first, each once (R698). -/
def validBlocks (l0 l1 : List Bytes) : List Superblock :=
  let put := fun (a : List Superblock) (b : Superblock) =>
    if b ∈ a then a else (a.filter fun x => decide (b.seq ≤ x.seq)) ++ b :: a.filter fun x => decide (x.seq < b.seq)
  ((l0 ++ l1).filterMap Superblock.ofBytes).foldl put []

/-- The highest SEQ of the valid superblocks of a device. -/
def topSeq (l : List Bytes) : Nat := (l.filterMap Superblock.ofBytes).foldl (fun n b => max n b.seq) 0

/-! ### Journal records (R699, R700) -/

/-- The record type (R700). -/
def JrnKind.type : JrnKind → Nat
  | .commit .. => 1
  | .bankImage _ => 2
  | .epochReserve _ => 3
  | .ledgerKey .. => 4
  | .keySelect _ => 4

/-- The pairs of BAR0 offset and value of one committed value: a policer's word comes with the `TM_POL_SEL` that selects it. -/
def commitPairs (e : Nat × Word) : Bytes :=
  if e.1 < 2 ^ 32 then le 4 e.1 ++ le 4 e.2.toNat
  else
    let k := e.1 - 2 ^ 32
    le 4 Reg.tmPolSel ++ le 4 (k / 8 % 0x4000 + k / 0x20000 * 2 ^ 16) ++ le 4 (Reg.tmPolSel + 4 * (k % 8)) ++ le 4 e.2.toNat

/-- The bytes of a bank image: its header, the sections, which only Caken and the device know, and the signature (R442). -/
def imageData (i : BankImage) : Bytes :=
  let n := i.length - 128
  (i.header ++ (Config.imageBytes i ++ zeros n).take n ++ (i.signature ++ zeros 64).take 64).take i.length

/-- The payload of a record (R700); the layout of keys, which the spec leaves to the device, is assumption 110's. -/
def JrnKind.payload : JrnKind → Bytes
  | .commit vals bankId _ => vals.flatMap commitPairs ++ le 8 bankId
  | .bankImage i => imageData i
  | .epochReserve hwm => le 4 hwm
  | .ledgerKey slot keyId pub wrapped cert => le 8 slot ++ le 8 keyId ++ wrapped ++ pub ++ cert
  | .keySelect slot => le 4 slot

/-- The length of a record's payload. -/
def JrnKind.len : JrnKind → Nat
  | .commit vals _ _ => vals.foldl (fun a e => a + (if e.1 < 2 ^ 32 then 8 else 16)) 8
  | .bankImage i => i.length
  | .epochReserve _ => 4
  | .ledgerKey _ _ pub wrapped cert => 16 + wrapped.length + pub.length + cert.length
  | .keySelect _ => 4

/-- A record's header up to its CRC. -/
def JrnRec.headBody (r : JrnRec) : Bytes :=
  le 4 0x4A524E4C ++ le 2 r.kind.type ++ le 1 ((if 0 ∈ r.devices then 1 else 0) + (if 1 ∈ r.devices then 2 else 0)) ++ zeros 1 ++
    le 8 r.seq ++ le 4 r.kind.len ++ le 4 (match r.kind with | .commit _ _ e => e | _ => 0) ++ zeros 4

/-- A record's header, payload and padding. -/
def JrnRec.head (r : JrnRec) : Bytes :=
  let p := r.kind.payload
  r.headBody ++ crc32c (r.headBody ++ p) ++ p ++ zeros ((16 - p.length % 16) % 16)

/-- A record's commit marker. -/
def JrnRec.marker (r : JrnRec) : Bytes :=
  let m := le 4 0x4A434D54 ++ zeros 4 ++ le 8 r.seq
  let p := r.kind.payload
  m ++ storeMac (r.headBody ++ crc32c (r.headBody ++ p) ++ p ++ m)

/-- The bytes of a record, from a page boundary of the ring on (R699). -/
def JrnRec.bytes (r : JrnRec) : Bytes := r.head ++ r.marker

/-- The pages that a record of `len` payload bytes takes (R699). -/
def recPages (len : Nat) : Nat := ceilDiv (32 + ceilDiv len 16 * 16 + 48) 256

end Sys2Proof.Machine
end

