-- ==== Sys2Proof/Machine/Merge.lean ====
section
/-! DEFINITION. The Deckle: merge fronts, emission, bypass, and MERGE_CONFIGURE; release groups and RELEASE_CONFIGURE (R268
to R295, R304 to R310, R680). -/

namespace Sys2Proof.Machine

/-- The state with a merge group changed. -/
def State.modMerge (s : State) (g : Nat) (f : MergeSt → MergeSt) : State :=
  { s with mrg := { s.mrg with groups := s.mrg.groups.set g (f (s.merge g)) } }

/-! ### WQ numbers that a destination names (R680) -/

/-- Whether a merge group or mirror session names a WQ number. -/
def State.namesWq (s : State) (wq : Nat) : Bool :=
  (s.mrg.groups.values.any fun m => m.alive && decide (m.destKind = 0 ∧ m.dest = wq)) ||
    (List.range 16).any fun m => decide (s.fld (F.tmMirrorDest_valid m) = 1 ∧ s.fld (F.tmMirrorDest_kind m) = 1 ∧
      s.fld (F.tmMirrorDest_dest m) = wq)

/-- Reservations that nothing names any more ended. -/
def State.pruneReserved (s : State) : State :=
  s.modQm fun q => { q with reserved := q.reserved.filter fun (e : Nat × Nat × Nat × Nat) => s.namesWq e.1 }

/-! ### Emission -/

/-- A quarter of a nanosecond in stamp units (R276). -/
def granuleSpan : Int := 16384

/-- The granule of a compensated stamp (R276). -/
def granuleOf (c : Int) : Int := c / granuleSpan

/-- The rank of a port among the members in effect for a Ream (R277). -/
def rankIn (ps : List Nat) (ream port : Nat) : Nat :=
  match ps.idxOf? port with
  | some i => (((i : Int) - ream) % ps.length).toNat
  | none => ps.length

/-- A descriptor with its key (R276, R277). -/
def State.keyed (s : State) (g : Nat) (d : Desc) : Desc :=
  let gran := granuleOf d.c
  let n := s.reamOf (gran * granuleSpan).toNat
  { d with gran, rank := rankIn ((s.merge g).cfgAt n).2 n d.port }

/-- The order of keys. -/
def keyLt (a b : Int × Nat) : Bool := decide (a.1 < b.1 ∨ (a.1 = b.1 ∧ a.2 < b.2))

/-- A descriptor's key. -/
def Desc.key (d : Desc) : Int × Nat := (d.gran, d.rank)

/-- A descriptor put in its place in key order, behind those of an equal key. -/
def insertDesc (d : Desc) : List Desc → List Desc
  | [] => [d]
  | x :: r => if keyLt d.key x.key then d :: x :: r else x :: insertDesc d r

/-- The flags of an emission (R281, R282), as in RECV FLAGS. -/
def flagLate : Nat := 1
def flagWindowed : Nat := 2

/-- The group that passed a copy on. -/
def State.mergedBy (s : State) (c : Copy) : Option Nat :=
  if c.mergeSeq = 0 then none
  else (s.tm.frames.get? c.frame).bind fun f => match f.frame.d.dest with | some (.merge g) => some g | _ => none

/-- The class that a merged copy queues in at its group's port: that of the group's copies that still wait there, so that none
overtakes another (R272, assumption 108), else its own. -/
def State.mergeClass (s : State) (g p own : Nat) : Nat :=
  ((List.range 16).find? fun c => (s.queue (qPort p c)).any fun x => decide (s.mergedBy x = some g)).getD own

/-- A merged copy passed to its group's destination, behind what waits there (R272). It meets no second admission, but a port that
it has become too long for refuses it (R339, assumption 109), and where its host queue spills the HBM extension takes it or not
(R512 to R514, assumption 130); its disposition stands, so it is DELIVERY_FAILED then. -/
def State.passCopy (s : State) (g id seq flags : Nat) : State :=
  let m := s.merge g
  match (s.queue (qMerge g)).find? (·.id = id) with
  | none => s
  | some c =>
    let cls := if m.destKind = 1 then s.mergeClass g m.dest c.cls else c.cls
    let q := if m.destKind = 1 then qPort m.dest cls else qHost m.dest
    let spilled := decide (m.destKind = 0) && s.wqTakes m.dest && s.spills m.dest
    let refused := if spilled then s.spillRefused m.dest c.cls c.n (s.stampOf c) else none
    let s := (match refused with | some v => v.2 | none => s).unqueue c
    let spilled := spilled && refused.isNone
    let c := { c with
      queue := q, cls, port := if m.destKind = 1 then m.dest else 0, mergeSeq := seq, mergeFlags := flags, spilled }
    let s := { s with tm := { s.tm with
      queues := s.tm.queues.set q (s.queue q ++ [c]), hbmUsed := if spilled then s.tm.hbmUsed + c.n else s.tm.hbmUsed } }
    if m.destKind = 1 then
      if !s.portTakes m.dest then s.dropAtPort c
      else if s.tooLong m.dest c.len then (s.count (C.portTxOversizeDrop m.dest) 1 (s.stampOf c)).dropCopy c 0x40
      else s
    else if !s.wqTakes m.dest then s.discardHost c
    else if refused.isSome then s.dropCopy c 0x40
    else (if spilled then s.settleFrame c.frame else s).markSpill m.dest

/-- The higher of a group's last key and a key emitted; a descriptor stamped before a step leaves it (R94, R281). -/
def State.lastAfter (s : State) (m : MergeSt) (d : Desc) : Option (Int × Nat) :=
  if d.ream < s.mrg.stepMark then m.lastKey
  else match m.lastKey with
    | some k => if keyLt d.key k then some k else some d.key
    | none => some d.key

/-- A descriptor emitted (R281, R282, R284): counted, numbered, its copy passed on; a LATE one with its leaf. -/
def State.emitDesc (s : State) (g : Nat) (d : Desc) (flags : Nat) : State :=
  let m := s.merge g
  let seq := m.seq + 1
  let late := flags.testBit 0
  let s := s.count (C.mrgEmitted g) 1 d.stamp
  let s := if flags.testBit 1 then s.count (C.mrgWindowed g) 1 d.stamp else s
  let s := s.modMerge g fun m => { m with seq, lastKey := s.lastAfter m d }
  let s := if late then
      let s := (s.count (C.mrgLate g) 1 d.stamp).event 0x7004 1 [.q g, .q d.port, .w seq]
      match (s.queue (qMerge g)).find? (·.id = d.copy) with
      | some c => match s.tm.frames.get? c.frame with
        | some f => s.lateOutcome f.frame 0x43
        | none => s
      | none => s
    else s
  s.passCopy g d.copy seq flags

/-- Every held descriptor of a group emitted in key order. -/
def State.emitAll (s : State) (g flags : Nat) : State :=
  let l := (s.merge g).held
  l.foldl (fun s d => s.emitDesc g d flags) (s.modMerge g fun m => { m with held := [] })

/-- The lowest gating port of a descriptor whose merge front has not passed its granule (R278, R279, R282). -/
def State.lagging (s : State) (g : Nat) (d : Desc) : Option Nat :=
  ((s.merge g).cfgAt d.ream).2.find? fun p => decide (s.mrg.fronts.getD p 0 < (d.gran + 1) * granuleSpan)

/-- Descriptors of a group emitted while the head is due (R279 to R282): fuel. -/
def State.drainGroup (g : Nat) : Nat → State → State
  | 0, s => s
  | n + 1, s =>
    match (s.merge g).held with
    | [] => s
    | h :: r =>
      let pop := fun (s : State) => s.modMerge g fun m => { m with held := r }
      match s.lagging g h with
      | none => State.drainGroup g n ((pop s).emitDesc g h 0)
      | some p =>
        if h.c + ((s.merge g).cfgAt h.ream).1 * nsStamp ≤ s.now then
          let s := pop (s.modMerge g fun m => { m with lagPort := some p })
          State.drainGroup g n (s.emitDesc g h flagWindowed)
        else s

/-- A group evaluated. -/
def State.evalGroup (s : State) (g : Nat) : State := State.drainGroup g ((s.merge g).held.length + 1) s

/-- Every group evaluated. -/
def State.evalGroups (s : State) : State := (List.range 16).foldl State.evalGroup s

/-- DESTROY commands whose last descriptor on its way has been emitted complete (R305). -/
def State.finishDestroys (s : State) : State :=
  let done := s.mrg.waits.filter fun w => w.applied && !(s.mrg.onWay.any (·.1 = w.group))
  let s := { s with mrg := { s.mrg with waits := s.mrg.waits.filter fun (w : GroupWait) =>
    !(w.applied && !(s.mrg.onWay.any (·.1 = w.group))) } }
  done.foldl (fun s w => s.adminDone w.token stSuccess [(48, le 8 w.applyReam)]) s

/-- DECKLE_DESCRIPTOR_ARRIVAL (R276 to R284, R289, R305, R94): the next descriptor of a group on its way. -/
def execDeckleDescriptorArrival (group : Nat) (s : State) : Res :=
  whenWorking s <|
    match takeFirst (fun (e : Nat × Desc) => decide (e.1 = group)) s.mrg.onWay with
    | none => .next s
    | some ((_, d), rest) =>
      let d := s.keyed group d
      let s := { s with mrg := { s.mrg with onWay := rest } }
      let m := s.merge group
      let s := if d.port ∈ (m.cfgAt d.ream).2 then s else s.count (C.mrgNonmember group) 1 d.stamp
      let before := match m.lastKey with | some k => keyLt d.key k | none => false
      if !m.alive then
        .next (s.emitDesc group d (if before || s.mrg.bypass || decide (d.ream < s.mrg.stepMark) then flagLate else flagWindowed)).finishDestroys
      else if s.mrg.bypass || decide (d.ream < s.mrg.stepMark) || before then .next (s.emitDesc group d flagLate)
      else
        let s := s.modMerge group fun m => { m with held := insertDesc d m.held }
        let s := { s with mrg := { s.mrg with heldHwm := max s.mrg.heldHwm s.heldDescs } }
        .next (s.evalGroup group)

/-- A time at a port's ball compensated by its ingress delay in a Ream (R271). -/
def State.atSource (s : State) (p ream : Nat) (t : Stamp) : Int := (t : Int) - (s.cableAt p ream).1 * 256

/-- The merge front of a port, computed afresh (R273, R275, R753): its progress front, its oldest frame without a disposition, and
its oldest descriptor that has not reached the Deckle. -/
def State.freshFront (s : State) (p : Nat) : Int :=
  let held := (s.ldg.undecided.values.filter fun l => decide (l.port = p ∧ s.mrg.stepMark ≤ l.ream)).map fun l =>
    s.atSource p l.ream l.stamp
  let coming := (s.mrg.onWay.filter fun e => decide (e.2.port = p ∧ s.mrg.stepMark ≤ e.2.ream)).map fun e => e.2.c
  (held ++ coming).foldl min (s.atSource p (s.reamOf (s.portFront p)) (s.portFront p))

/-- MERGE_FRONT_UPDATE (R273 to R275, R279): a slice's merge fronts reach the Deckle; none moves back. -/
def execMergeFrontUpdate (slice : Nat) (s : State) : Res :=
  whenWorking s <|
    let ps := s.portList.filter fun p => decide (sliceOf p = slice)
    let s := ps.foldl (fun (s : State) p =>
      let f := s.freshFront p
      { s with mrg := { s.mrg with fronts := s.mrg.fronts.modify p f (max f) } }) s
    .next s.evalGroups

/-- DECKLE_WINDOW_EXPIRY (R279, R282). -/
def execDeckleWindowExpiry (group : Nat) (s : State) : Res := whenWorking s (.next (s.evalGroup group))

/-- The Deckle with its sides as they are (R287, R289): the side in service decides; with none, bypass. -/
def State.deckleSides (s : State) : State :=
  let a := s.up .deckleSide 0 0
  let b := s.up .deckleSide 0 1
  let s := { s with mrg := { s.mrg with activeB := if s.mrg.activeB then b || !a else !a && b } }
  if a || b then { s with mrg := { s.mrg with bypass := false } }
  else if s.mrg.bypass then s
  else
    let s := ({ s with mrg := { s.mrg with bypass := true } }).event 0x7002 3 []
    (List.range 16).foldl (fun s g => s.emitAll g flagLate) s

/-- A Deckle side that leaves service by a fault (R287, R289). -/
def State.deckleLeaves (s : State) (side : Nat) (second : Bool) : State :=
  let u : UnitRef := (.deckleSide, 0, side)
  let s := s.eventWith 0x7001 (errInfo 2 0xFF (some u)) [.q side]
  (s.unitFault u second).deckleSides

/-- DECKLE_SIDE_FAULT (R287, R289). -/
def execDeckleSideFault (side : Nat) (s : State) : Res :=
  whenWorking s <|
    let st := (s.unit .deckleSide 0 side).state
    if 2 ≤ side ∨ st = .outOfService ∨ st = .testing then .next s
    else
      let u : UnitRef := (.deckleSide, 0, side)
      let second := s.recordOpen u
      let (cls, s) := s.detect 2 7 (some u) .none false false
      .next (if cls = 3 then s else s.deckleLeaves side second)

/-- Held descriptors stamped before a step emitted, and fronts and keys begun anew (R94). `ream` is the first Ream after
the step. -/
def State.stepDeckle (s : State) (ream : Nat) : State :=
  let s := (List.range 16).foldl (fun s g => s.emitAll g flagWindowed) s
  { s with mrg := { s.mrg with
    stepMark := ream, fronts := .empty, groups := s.mrg.groups.map fun _ m => { m with lastKey := none } } }

/-! ### Merge groups -/

/-- The ports that a member register array selects. -/
def State.memberPorts (s : State) (word : Nat → FieldRef) : List Nat :=
  (List.range 96).filter fun p => (s.fld (word (p / 32))).testBit (p % 32)

/-- The words of a member list. -/
def memberWord (ps : List Nat) (w : Nat) : Nat :=
  (List.range 32).foldl (fun a i => if 32 * w + i ∈ ps then a + 2 ^ i else a) 0

/-- The staged shadow of a register set. -/
def State.stageWord (s : State) (a v : Nat) : State :=
  { s with regs := { s.regs with shadow := s.regs.shadow.set a (BitVec.ofNat 32 v) } }

/-- A group as its commands see it: a pending CREATE counts, a pending DESTROY does not. -/
def groupLive (waits : List GroupWait) (g : Nat) (alive : Bool) : Bool :=
  waits.foldl (fun (a : Bool) w =>
    if w.group = g then (match w.op with | .create => true | .destroy => false | .redirect => a) else a) alive

/-- A command that waits for its Ream boundary, at least 2 µs away (R305). -/
def State.waitFor (s : State) (r : AdminRef) (op : GroupOp) (g : Nat) (m : Option MergeArgs) (l : Option ReleaseArgs) :
    GroupWait :=
  { token := s.tok r, op, merge := m, release := l, group := g, at_ := s.now + 2 * usStamp, applied := false, applyReam := 0 }

/-- Whether the member bits name first lanes of configured ports only (R308). -/
def State.membersOk (s : State) (ps : List Nat) : Bool := ps.all fun p => s.configured p

/-- Whether window, limit and members are in range (R304, R308). -/
def State.mergeFieldsOk (s : State) (a : MergeArgs) : Bool :=
  decide (100 ≤ a.windowNs ∧ a.windowNs ≤ 20000 ∧ 1 ≤ a.maxHeld ∧ a.maxHeld ≤ 65536) && s.membersOk a.members

/-- Whether DEST_KIND and DEST are in range (R304). -/
def destOk (kind dest : Nat) : Bool := decide ((kind = 0 ∧ dest < 131072) ∨ (kind = 1 ∧ dest < 96))

/-- MERGE_CREATE (R304, R305, R308). -/
def execMergeCreate (r : AdminRef) (a : MergeArgs) (s : State) : Res :=
  runAdmin true false r s fun s =>
    if ¬(a.group < 16) ∨ !destOk a.destKind a.dest ∨ !s.mergeFieldsOk a then failWith s stInvalidField
    else if groupLive s.mrg.waits a.group (s.merge a.group).alive then failWith s stExists
    else ({ s with mrg := { s.mrg with waits := s.mrg.waits ++ [s.waitFor r .create a.group (some a) none] } }, none)

/-- MERGE_DESTROY (R305, R308). -/
def execMergeDestroy (r : AdminRef) (group : Nat) (s : State) : Res :=
  runAdmin true false r s fun s =>
    if ¬(group < 16) then failWith s stInvalidField
    else if !groupLive s.mrg.waits group (s.merge group).alive then failWith s stNotFound
    else ({ s with mrg := { s.mrg with waits := s.mrg.waits ++ [s.waitFor r .destroy group none none] } }, none)

/-- MERGE_STAGE (R306, R308). -/
def execMergeStage (r : AdminRef) (a : MergeArgs) (s : State) : Res :=
  runAdmin true false r s fun s =>
    if ¬(a.group < 16) ∨ !s.mergeFieldsOk a then failWith s stInvalidField
    else if !groupLive s.mrg.waits a.group (s.merge a.group).alive then failWith s stNotFound
    else
      let s := (s.stageWord (Reg.mrgWindow a.group) a.windowNs).stageWord (Reg.mrgMaxHeld a.group) a.maxHeld
      let s := (List.range 3).foldl (fun s w => s.stageWord (Reg.mrgMembers a.group w) (memberWord a.members w)) s
      (s, some (stSuccess, [(48, le 8 0)]))

/-- MERGE_REDIRECT (R307, R308). -/
def execMergeRedirect (r : AdminRef) (group destKind dest : Nat) (s : State) : Res :=
  runAdmin true false r s fun s =>
    if ¬(group < 16) ∨ !destOk destKind dest then failWith s stInvalidField
    else if !groupLive s.mrg.waits group (s.merge group).alive then failWith s stNotFound
    else
      let a : MergeArgs := { group, destKind, dest, windowNs := 0, maxHeld := 0, members := [] }
      ({ s with mrg := { s.mrg with waits := s.mrg.waits ++ [s.waitFor r .redirect group (some a) none] } }, none)

/-- A merge group created from the first Ream on that its command names. -/
def State.createMerge (s : State) (a : MergeArgs) (ream : Nat) : State :=
  let s := (s.setReg (Reg.mrgWindow a.group) a.windowNs).setReg (Reg.mrgMaxHeld a.group) a.maxHeld
  let s := (List.range 3).foldl (fun s w => s.setReg (Reg.mrgMembers a.group w) (memberWord a.members w)) s
  s.modMerge a.group fun m => { MergeSt.init with
    alive := true, destKind := a.destKind, dest := a.dest, hist := [(ream, a.windowNs, a.members)], lagPort := m.lagPort }

/-- Ports that ceased to be configured since the last boundary leave every member set (R323). -/
def State.leaveSets (s : State) : State :=
  let stay := fun (w : Nat) (v : Nat) => (List.range 32).foldl (fun a i =>
    if v.testBit i ∧ 32 * w + i ∉ s.mrg.left then a + 2 ^ i else a) 0
  let s := if s.mrg.left = [] then s
    else (List.range 16).foldl (fun (s : State) g => (List.range 3).foldl (fun (s : State) w =>
      (s.setReg (Reg.mrgMembers g w) (stay w (s.reg (Reg.mrgMembers g w)))).setReg (Reg.relMembers g w)
        (stay w (s.reg (Reg.relMembers g w)))) s) s
  { s with mrg := { s.mrg with left := [] } }

/-- One pending merge operation applied at the boundary that begins a Ream (R305, R307). -/
def State.applyMerge (s : State) (w : GroupWait) (ream : Nat) : State :=
  match w.op, w.merge with
  | .create, some a =>
    ((s.createMerge a ream).event 0x7003 1 []).adminDone w.token stSuccess [(48, le 8 ream)]
  | .redirect, some a =>
    (s.modMerge w.group fun m => { m with destKind := a.destKind, dest := a.dest }).pruneReserved.adminDone w.token
      stSuccess [(48, le 8 ream)]
  | .destroy, _ =>
    let s := (s.emitAll w.group flagWindowed).modMerge w.group fun m => { m with alive := false }
    let s := s.event 0x7003 1 []
    ({ s with mrg := { s.mrg with
      waits := s.mrg.waits ++ [{ w with applied := true, applyReam := ream }] } }).pruneReserved.finishDestroys
  | _, none => s

/-- Merge groups at the boundary that begins a Ream: ports that are configured no longer leave (R323), windows and member
sets of the new Ream are in effect (R278, R304), and pending operations apply. -/
def State.mergeBoundary (s : State) (ream : Nat) (start : Stamp) : State :=
  let due := s.mrg.waits.filter fun w => decide (w.at_ ≤ start) && !w.applied
  let s := { s with mrg := { s.mrg with waits := s.mrg.waits.filter fun (w : GroupWait) => !(decide (w.at_ ≤ start) && !w.applied) } }
  let s := due.foldl (fun s w => s.applyMerge w ream) s
  let s := (List.range 16).foldl (fun (s : State) g =>
    if !(s.merge g).alive then s
    else
      let ps := (s.memberPorts (F.mrgMembers_ports g)).filter s.configured
      let s := (List.range 3).foldl (fun s w => s.setReg (Reg.mrgMembers g w) (memberWord ps w)) s
      let w := s.fld (F.mrgWindow_ns g)
      if (s.merge g).cfgAt ream = (w, ps) then s
      else s.modMerge g fun m => { m with hist := (ream, w, ps) :: m.hist }) s
  s.evalGroups

/-! ### Release groups -/

/-- Every word that a register holds or is to hold: in effect, waiting for its boundary, armed, staged. -/
def State.wordsOf (s : State) (a : Nat) : List Word :=
  [s.regs.cells.getD a 0] ++ (s.regs.reamWait.get? a).toList ++ (s.regs.armed.get? a).toList ++ (s.regs.shadow.get? a).toList

/-- Ports that are members of another release group, current or staged (R310). -/
def State.releaseTaken (s : State) (p g : Nat) : Bool :=
  (List.range 16).any fun h => decide (h ≠ g) &&
    ((groupLive s.rel.waits h (s.relGroup h).alive &&
        (s.wordsOf (Reg.relMembers h (p / 32))).any fun w => w.toNat.testBit (p % 32)) ||
      s.rel.waits.any fun w => decide (w.group = h) && (match w.release with | some a => decide (p ∈ a.members) | none => false))

/-- Whether the fields that CREATE and STAGE share are in range (R309, R310). -/
def State.releaseFieldsOk (s : State) (a : ReleaseArgs) : Bool :=
  decide (a.group < 16 ∧ a.latePolicy ≤ 1 ∧ 1 ≤ a.horizonUs ∧ a.horizonUs ≤ 100000) && s.membersOk a.members &&
    a.members.all fun p => !s.releaseTaken p a.group

/-- RELEASE_CREATE (R309, R310). -/
def execReleaseCreate (r : AdminRef) (a : ReleaseArgs) (s : State) : Res :=
  runAdmin true false r s fun s =>
    if !s.releaseFieldsOk a ∨ ¬(a.speed ≤ 7 ∧ a.fec ≤ 2) then failWith s stInvalidField
    else if groupLive s.rel.waits a.group (s.relGroup a.group).alive then failWith s stExists
    else ({ s with rel := { s.rel with waits := s.rel.waits ++ [s.waitFor r .create a.group none (some a)] } }, none)

/-- RELEASE_DESTROY (R309). -/
def execReleaseDestroy (r : AdminRef) (group : Nat) (s : State) : Res :=
  runAdmin true false r s fun s =>
    if ¬(group < 16) then failWith s stInvalidField
    else if !groupLive s.rel.waits group (s.relGroup group).alive then failWith s stNotFound
    else ({ s with rel := { s.rel with waits := s.rel.waits ++ [s.waitFor r .destroy group none none] } }, none)

/-- RELEASE_STAGE (R306, R309, R310). -/
def execReleaseStage (r : AdminRef) (a : ReleaseArgs) (s : State) : Res :=
  runAdmin true false r s fun s =>
    if !s.releaseFieldsOk a then failWith s stInvalidField
    else if !groupLive s.rel.waits a.group (s.relGroup a.group).alive then failWith s stNotFound
    else
      let s := (s.stageWord (Reg.relGroupCfg a.group) (2 * a.latePolicy)).stageWord (Reg.relHorizon a.group) a.horizonUs
      let s := (List.range 3).foldl (fun s w => s.stageWord (Reg.relMembers a.group w) (memberWord a.members w)) s
      (s, some (stSuccess, [(48, le 8 0)]))

/-- Held copies of a release group that is about to go, each with its port's membership as it is now: they launch as planned
(R309). -/
def State.keepSlots (s : State) (g : Nat) : State :=
  { s with tm := { s.tm with queues := s.tm.queues.set qRelease ((s.queue qRelease).map fun (c : Copy) =>
    if s.groupOf c = g then { c with aligned := s.onSlots c } else c) } }

/-- One pending release operation applied at a boundary (R305, R309). -/
def State.applyRelease (s : State) (w : GroupWait) (ream : Nat) : State :=
  let s : State := match w.op, w.release with
    | .create, some a =>
      let s := (s.setReg (Reg.relGroupCfg a.group) (2 * a.latePolicy)).setReg (Reg.relHorizon a.group) a.horizonUs
      let s := (List.range 3).foldl (fun (s : State) w => s.setReg (Reg.relMembers a.group w) (memberWord a.members w)) s
      let x : ReleaseSt := { alive := true, gen := (s.relGroup a.group).gen + 1, speed := a.speed, fec := a.fec }
      { s with rel := { s.rel with groups := s.rel.groups.set a.group x } }
    | .destroy, _ =>
      let s := if s.queue qRelease = [] then s else s.keepSlots w.group
      { s with rel := { s.rel with groups := s.rel.groups.modify w.group ReleaseSt.init fun (x : ReleaseSt) => { x with alive := false } } }
    | _, _ => s
  s.adminDone w.token stSuccess [(48, le 8 ream)]

/-- A member's alignment set, with its event (R291, R295). -/
def State.setAlign (s : State) (p a : Nat) : State :=
  if s.rel.align.getD p 0 = a then s
  else
    let s := { s with rel := { s.rel with align := if a = 0 then s.rel.align.erase p else s.rel.align.set p a } }
    if a = 3 then s.event 0x7010 2 [.q p] else if a = 2 then s.event 0x7011 1 [] else s

/-- Membership and alignment of one port at the boundary that begins a Ream (R290, R291, R295, R323). -/
def State.refreshMember (s : State) (p ream : Nat) : State :=
  let group := if s.configured p then
      (List.range 16).find? fun g => (s.relGroup g).alive && (s.fld (F.relMembers_ports g (p / 32))).testBit (p % 32)
    else none
  match group with
  | none => ({ s with rel := { s.rel with member := s.rel.member.erase p } }).setAlign p 0
  | some g =>
    let joined := decide (s.rel.member.get? p ≠ some g)
    let s := { s with rel := { s.rel with member := s.rel.member.set p g } }
    if !s.relMatches p then s.setAlign p 3
    else if joined then s.setAlign p (if (s.port p).link then 2 else 0)
    else if s.rel.align.getD p 0 = 1 ∧ (s.cableAt p ream).2 ≠ (s.cableAt p (ream - 1)).2 then s.setAlign p 2
    else s

/-- Release groups at the boundary that begins a Ream. -/
def State.releaseBoundary (s : State) (ream : Nat) (start : Stamp) : State :=
  let due : List GroupWait := s.rel.waits.filter fun w => decide (w.at_ ≤ start)
  let s := { s with rel := { s.rel with waits := s.rel.waits.filter fun (w : GroupWait) => !decide (w.at_ ≤ start) } }
  let s := due.foldl (fun (s : State) w => s.applyRelease w ream) s
  let s := (List.range 16).foldl (fun (s : State) g =>
    let ps := (s.memberPorts (F.relMembers_ports g)).filter s.configured
    (List.range 3).foldl (fun (t : State) w => t.setReg (Reg.relMembers g w) (memberWord ps w)) s) s
  (List.range 96).foldl (fun s p => s.refreshMember p ream) s

end Sys2Proof.Machine
end

