-- ==== Sys2Proof/Machine/Coherent.lean ====
section
/-! DEFINITION. Coherent state: commits, bank drain, staged images (R24 to R34, R441 to R455), journal records as they are
started (R699 to R702), and counter snapshots (R35 to R44). -/

namespace Sys2Proof.Machine

/-! ### Ream boundaries (R34, R197, R259) -/

/-- A Ream length in stamp units (R259). -/
def reamSpan (code : Nat) : Nat :=
  usStamp * (match code with
    | 0 => 100 | 1 => 125 | 2 => 200 | 3 => 250 | 4 => 500 | 5 => 1000 | 6 => 2000 | 7 => 4000 | 8 => 5000
    | 9 => 10000 | 10 => 20000 | 11 => 25000 | 12 => 50000 | _ => 100000)

/-- The Ream length in effect. -/
def State.reamSpan (s : State) : Nat := Sys2Proof.Machine.reamSpan (s.fld F.ldgCtrl_reamLen)

/-- The first Ream boundary after a time: every length divides a second (R197). -/
def nextBoundary (span t : Nat) : Stamp := (t / span + 1) * span

/-- The number of the Ream that begins at the first boundary at or after a time in the Ream in progress or after it. -/
def State.reamFrom (s : State) (t : Stamp) : Nat :=
  match s.ldg.cur with
  | some c => c.num + (ceilDiv t s.reamSpan - c.start / s.reamSpan)
  | none => 0

/-! ### Journal records (R699 to R702) -/

/-- The flash devices in service that hold the store (R685, R696). -/
def State.flashUp (s : State) : List Nat := (if s.nvm.mirror then [0, 1] else [0]).filter fun d => s.up .flash 0 d

/-- Pages of the journal ring that no record since REPLAY_FROM takes. -/
def State.freePages (s : State) : Nat := ringPages - s.nvm.usedPages

/-- A record taken up for writing, with the next SEQ (R699, R701). -/
def State.jrnStart (s : State) (k : JrnKind) (why : JrnPurpose) : State :=
  let pages := recPages k.len
  let r : JrnRec := { kind := k, seq := s.nvm.nextSeq, page := 0, pages, devices := s.flashUp, headerOk := [], markerOk := [] }
  { s with nvm := { s.nvm with
    writing := s.nvm.writing ++ [(r, why)], nextSeq := s.nvm.nextSeq + 1, usedPages := s.nvm.usedPages + pages } }

/-- Whether a reservation of epochs is being written. -/
def State.reserving (s : State) : Bool :=
  s.nvm.writing.any fun (e : JrnRec × JrnPurpose) => decide (e.2 = JrnPurpose.epoch)

/-- EPOCH_RESERVE: a new block of 1,024 epochs when fewer than 256 remain (R28). -/
def State.reserveEpochs (s : State) : State :=
  let k : JrnKind := .epochReserve (min 0xFFFFFFFF (s.coh.hwm + 1024))
  if s.reserving ∨ 0xFFFFFFFF ≤ s.coh.hwm ∨ 256 ≤ s.coh.hwm - s.coh.assigned ∨ s.freePages < recPages k.len then s
  else s.jrnStart k .epoch

/-! ### Banks and staged values -/

/-- The state with the bank of a tag replaced in every slice. -/
def State.setBank (s : State) (tag : Bool) (b : Option Bank) : State :=
  if tag then { s with flow := { s.flow with bank1 := b } } else { s with flow := { s.flow with bank0 := b } }

/-- The S-class words that a staged image brings for HBX and PIPE in each slice (R441, R448). -/
def imageWords (b : Bank) : Table Word :=
  (List.range 8).foldl (fun t n => b.sFields.foldl (fun (t : Table Word) e => t.set (0x2000000 + n * 0x100000 + e.1) e.2) t)
    .empty

/-- The rows of a slice whose region is IMAGE (R485). -/
def State.imageRow (s : State) (n row : Nat) : Bool :=
  match s.regionOf n row with
  | some r => decide (s.fld (F.fdbTcamRegion_kind n r) = 1)
  | none => false

/-- A bank's bit cleared in every IMAGE row of a slice; rows of no bank are free (R489). -/
def State.dropRows (s : State) (n : Nat) (tag : Bool) : State :=
  s.modTabs n fun t => { t with
    tern := (t.tern.map fun row (x : TernRow) =>
      if s.imageRow n row ∧ x.banks.testBit (b2n tag) then { x with banks := x.banks - 2 ^ b2n tag } else x).filter
        fun row (x : TernRow) => !(s.imageRow n row && decide (x.banks = 0)) }

/-- The inactive bank's bit added to every IMAGE row of the bank in effect (R488). -/
def State.copyRows (s : State) (n : Nat) : State :=
  let act := b2n s.coh.bankTag
  s.modTabs n fun t => { t with
    tern := t.tern.map fun row (x : TernRow) =>
      if s.imageRow n row ∧ x.banks.testBit act ∧ ¬x.banks.testBit (1 - act) then { x with banks := x.banks + 2 ^ (1 - act) }
      else x }

/-- One image row written to the lowest free row of its region (R487). -/
def State.placeRow (s : State) (n : Nat) (r : ImageRow) : Option State :=
  let lo := s.fld (F.fdbTcamRegion_base n r.region)
  let free := (List.range (s.fld (F.fdbTcamRegion_size n r.region))).find? fun i => !(s.tabs n).tern.has (lo + i)
  free.map fun i => s.modTabs n fun t => { t with
    tern := t.tern.set (lo + i) { banks := 2 ^ (1 - b2n s.coh.bankTag), action := r.action, value := r.value, mask := r.mask } }

/-- The rows of an image written in a slice, in order. -/
def State.placeRows (s : State) (n : Nat) (rows : List ImageRow) : Option State :=
  rows.foldl (fun (o : Option State) r => o.bind fun s => s.placeRow n r) (some s)

/-- The rows of an image written in every slice; nothing where a region runs out. -/
def State.loadRows (s : State) (rows : List ImageRow) : Option State :=
  (List.range 8).foldl (fun (o : Option State) n => o.bind fun s => (s.dropRows n (!s.coh.bankTag)).placeRows n rows) (some s)

/-- Whether an image row names a region that is not IMAGE in some slice (R485). -/
def State.liveRow (s : State) (rows : List ImageRow) : Bool :=
  (List.range 8).any fun n => rows.any fun (x : ImageRow) =>
    decide (8 ≤ x.region ∨ s.fld (F.fdbTcamRegion_kind n x.region) = 0)

/-- The rows of a slice that the bank in effect has, and those of an image, together beyond the table (R446). -/
def State.rowsExceed (s : State) (rows : List ImageRow) : Bool :=
  (List.range 8).any fun n =>
    decide (32768 < rows.length + ((s.tabs n).tern.values.filter fun (x : TernRow) => x.banks.testBit (b2n s.coh.bankTag)).length)

/-- The offset of the header field of an image that CONFIG_STAGE refuses (R445, R446). -/
def headerFault (i : BankImage) (bufLen : Nat) : Option Nat :=
  if i.magic ≠ 0x524B4E42 then some 0
  else if i.version ≠ 1 then some 4
  else if i.device ≠ 0x9640 then some 6
  else if bufLen < i.length ∨ 0x1000000 < i.length then some 16
  else none

/-- A CONFIG_STAGE that fails, its event and write-back (R445). -/
def stageFail (s : State) (status errOff loadUs : Nat) : AdminRes :=
  (s.event 0x5002 2 [.q status, .q errOff], some (status, [(40, le 4 errOff), (44, le 4 loadUs)]))

/-- No item of an image rejected (R445). -/
def noItem : Nat := 0xFFFFFFFF

/-- The staged bank EMPTY (R447). -/
def State.stageEmpty (s : State) : State := { s with coh := { s.coh with staged := 2, image := none } }

/-- CONFIG_STAGE (R445 to R448, R422, R401, R485, R487). Where the sections begin only Caken and the device know: the offset of
an item rejected in one is a free value (assumption 114). -/
def execConfigStage (r : AdminRef) (kind bufLen : Nat) (image : BankImage) (s : State) : Res :=
  runAdmin true false r s fun s =>
    let installed := match s.nvm.base with | some b => decide (image.signerId ∈ b.signers) | none => false
    if kind ≠ 0 then stageFail s stInvalidField noItem 0
    else if s.coh.phase ≠ .idle ∨ s.coh.draining ≠ [] then stageFail s stBusy noItem 0
    else match headerFault image bufLen with
      | some off => stageFail s stInvalidField off 0
      | none =>
        if !installed || !image.sigOk then stageFail s stAuthFailed noItem 0
        else match image.badOffset, readImage image with
          | some off, _ => stageFail s.stageEmpty stInvalidField off image.loadUs
          | none, none => stageFail (s.draw (2 ^ 32)).2.stageEmpty stInvalidField (s.draw (2 ^ 32)).1 image.loadUs
          | none, some bank =>
            if s.liveRow image.bank.rows then
              stageFail (s.draw (2 ^ 32)).2.stageEmpty stInvalidField (s.draw (2 ^ 32)).1 image.loadUs
            else match (if s.rowsExceed image.bank.rows then none else s.loadRows image.bank.rows) with
              | none => stageFail s.stageEmpty stNoResource noItem image.loadUs
              | some s =>
                let s := s.setBank (!s.coh.bankTag) (some bank)
                let s := { s with coh := { s.coh with staged := 1, image := some image } }
                (s.event 0x5001 1 [.w image.bankId],
                  some (stSuccess, [(32, le 8 image.bankId), (40, le 4 noItem), (44, le 4 image.loadUs)]))

/-! ### CONFIG_COMMIT -/

/-- Whether S/Ream-class values are staged (R33). -/
def State.reamStaged (s : State) : Bool := s.regs.shadow.keys.any fun a => decide (clsMask .ream a ≠ 0)

/-- Persistent commits that completed within the preceding second (R452). -/
def State.recentPersist (s : State) : Nat := (s.coh.persistTimes.filter fun t => decide (s.now < t + secStamp)).length

/-- The BANK_ID that a commit puts in effect: that of the staged image, else of the bank in effect (R450). -/
def State.nextBankId (s : State) : Nat :=
  match s.coh.image with
  | some i => i.bankId
  | none => match s.bank s.coh.bankTag with | some b => b.bankId | none => 0

/-- The policers whose staged parameters lie outside the limits of R527, as slice * 2^14 + index. -/
def State.polRefused (s : State) : List Nat :=
  (s.regs.polShadow.keys.map (· / 8)).eraseDups.filter fun q =>
    let w := fun i => ((s.regs.polShadow.get? (q * 8 + i)).getD (s.regs.pol.getD (q * 8 + i) 0)).toNat
    !decide (1 ≤ w 1 ∧ w 1 ≤ w 2 ∧ 64 ≤ w 3 ∧ 64 ≤ w 4)

/-- The staged policer words that a commit applies (R527). -/
def State.polTaken (s : State) : Table Word :=
  let bad := s.polRefused
  s.regs.polShadow.filter fun k _ => decide (k / 8 ∉ bad)

/-- The NOTICE entries for the policers that a commit refuses (R527). -/
def State.polNotices (s : State) : State :=
  s.polRefused.foldl (fun (s : State) q => s.event 0xB021 1 [.q (q / 0x4000), .q (q % 0x4000)]) s

/-- The COMMIT record of the staged values (R700): policer values are numbered from 2^32 on. -/
def State.commitRecord (s : State) : JrnKind :=
  .commit (s.regs.shadow.entries ++ s.polTaken.entries.map fun e => (e.1 + 2 ^ 32, e.2)) s.nextBankId (s.coh.assigned + 1)

/-- The pages that the records of a persistent commit take. -/
def State.commitPages (s : State) : Nat :=
  recPages s.commitRecord.len + (match s.coh.image with | some i => recPages (JrnKind.len (.bankImage i)) | none => 0)

/-- The units start loading their shadows (R29). -/
def State.startArming (s : State) (persistent : Bool) (t : Option AdminTok) : State :=
  { s with coh := { s.coh with phase := .arming, persistent, token := t } }

/-- CONFIG_COMMIT (R26, R27, R32, R33, R447, R449, R451, R452, R702). -/
def execConfigCommit (r : AdminRef) (flags : Nat) (s : State) : Res :=
  runAdmin true false r s fun s =>
    if 2 ≤ flags ∨ s.coh.staged = 2 then failWith s stInvalidField
    else if s.coh.phase ≠ .idle ∨ s.coh.draining ≠ [] then failWith s stCommitPending
    else if s.reamStaged && s.coh.reamPending then failWith s stCommitPending
    else if flags = 1 ∧ 200 ≤ s.recentPersist then failWith s stBusy
    else if 0xFFFFFFFF ≤ s.coh.assigned then failWith s stNoResource
    else if flags = 0 then (s.startArming false (some (s.tok r)), none)
    else if s.freePages < 1024 + s.commitPages then (s.event 0xB009 2 [], some (stNoResource, []))
    else
      let k := s.commitRecord
      let s := match s.coh.image with | some i => s.jrnStart (.bankImage i) .commit | none => s
      let s := s.jrnStart k .commit
      ({ s with coh := { s.coh with phase := .journal, persistent := true, token := some (s.tok r) } }, none)

/-- The bank that a commit puts in effect made ready: the staged image, or a copy of the bank in effect (R450, R488). -/
def State.readyBank (s : State) : State :=
  if s.coh.staged = 1 then s
  else (List.range 8).foldl (fun s n => (s.dropRows n (!s.coh.bankTag)).copyRows n) (s.setBank (!s.coh.bankTag) (s.bank s.coh.bankTag))

/-- COMMIT_UNITS_ARMED: T_c and the next epoch (R26, R29), the shadows loaded into the units (R34, R448; R527), the command
complete (R449). No epoch beyond the persisted mark is assigned (R28): the units wait for the reservation. -/
def execCommitUnitsArmed (s : State) : Res :=
  whenWorking s <|
    if s.coh.phase ≠ .arming then .next s
    else if s.coh.hwm ≤ s.coh.assigned then .next s.reserveEpochs
    else
      let tc := s.now + 2 * usStamp
      let bankId := s.nextBankId
      let ream := s.reamStaged
      let pol := s.polTaken
      let s := s.readyBank.polNotices
      let own := match s.coh.image with | some i => imageWords i.bank | none => .empty
      let sWords := s.regs.shadow.filter fun a _ => decide (clsMask .staged a ≠ 0)
      let rWords := s.regs.shadow.filter fun a _ => decide (clsMask .ream a ≠ 0)
      let t := s.coh.token
      let persist := s.coh.persistent
      let s := { s with
        regs := { s.regs with
          armed := own.overlay sWords, shadow := .empty, polArmed := pol, polShadow := .empty
          reamWait := s.regs.reamWait.overlay rWords }
        coh := { s.coh with
          phase := .armed, tc, assigned := s.coh.assigned + 1, token := none, persistent := false, staged := 0, image := none
          reamPending := s.coh.reamPending || ream
          reamTc := if ream then tc else s.coh.reamTc
          persistTimes := if persist then s.now :: s.coh.persistTimes.filter fun t => decide (s.now < t + secStamp)
            else s.coh.persistTimes } }
      let s := if persist then s.count1 C.nvmPcommits else s
      let apply := if ream then s.reamFrom tc else 0
      .next ((s.doneIf t stSuccess [(24, le 4 s.coh.assigned), (32, stampLe tc), (48, le 8 apply), (56, le 8 bankId)]).reserveEpochs)

/-- COMMIT_TIME_REACHED: the epoch, the bank and every S-class value of the commit take effect (R25, R30, R34), and every
slice drains its old bank (R31). -/
def execCommitTimeReached (s : State) : Res :=
  whenWorking s <|
    if s.coh.phase ≠ .armed ∨ s.now < s.coh.tc then .next s
    else
      let armed := s.regs.armed
      let gen : RegGen :=
        { tc := s.coh.tc, epoch := s.coh.epoch, cells := armed.map fun a _ => s.regs.cells.getD a 0
          pol := s.regs.polArmed.map fun a _ => s.regs.pol.getD a 0 }
      let s := s.applyWords .staged armed
      let s := { s with
        regs := { s.regs with
          hist := gen :: s.regs.hist, armed := .empty, polArmed := .empty
          pol := s.regs.polArmed.entries.foldl (fun (t : Table Word) (e : Nat × Word) => setCell t e.1 e.2) s.regs.pol }
        coh := { s.coh with
          phase := .idle, effTc := s.coh.tc, prevEpoch := s.coh.epoch, epoch := s.coh.assigned
          bankTag := !s.coh.bankTag, draining := List.range 8 } }
      .next s.pruneReserved

/-- Whether a slice has drained its old bank (R31). -/
def State.sliceDrained (s : State) (n : Nat) : Bool :=
  decide (n ∈ s.coh.draining) && decide (s.inflight n (!s.coh.bankTag) = 0) &&
    s.portList.all fun p => decide (sliceOf p ≠ n ∨ s.coh.effTc ≤ s.portFront p)

/-- BANK_DRAIN_COMPLETE (R31, R489). -/
def execBankDrainComplete (slice : Nat) (s : State) : Res :=
  whenWorking s <|
    if !s.sliceDrained slice then .next s
    else
      let s := s.dropRows slice (!s.coh.bankTag)
      let s := { s with coh := { s.coh with draining := s.coh.draining.erase slice } }
      let s := s.event 0x5003 1 [.q slice, .q s.coh.prevEpoch]
      .next (if s.coh.draining.isEmpty then s.setBank (!s.coh.bankTag) none else s)

/-! ### CONFIG_ABORT and CONFIG_READ -/

/-- Every staged shadow discarded and the staged bank NONE (R17, R453). -/
def State.discardStaged (s : State) : State :=
  let s := if s.coh.staged = 0 then s
    else (List.range 8).foldl (fun s n => s.dropRows n (!s.coh.bankTag)) (s.setBank (!s.coh.bankTag) none)
  { s with
    regs := { s.regs with shadow := .empty, polShadow := .empty }
    coh := { s.coh with staged := 0, image := none } }

/-- CONFIG_ABORT (R17, R453). -/
def execConfigAbort (r : AdminRef) (s : State) : Res :=
  runAdmin true false r s fun s => (s.discardStaged, some (stSuccess, []))

/-- The write-back of CONFIG_READ (R454). -/
def State.readWb (s : State) (value : Nat) : List (Nat × Bytes) :=
  let inEffect := match s.bank s.coh.bankTag with | some b => b.bankId | none => 0
  let staged := match s.coh.image with | some i => i.bankId | none => 0
  [(28, le 4 value), (32, le 8 inEffect), (40, le 8 staged), (48, le 4 s.coh.epoch), (52, le 1 s.coh.staged)]

/-- Whether an address is one of the policer registers that stage a value (R542). -/
def isPolicerReg (a : Nat) : Bool :=
  decide (a = Reg.tmPolCir ∨ a = Reg.tmPolPir ∨ a = Reg.tmPolCbs ∨ a = Reg.tmPolPbs ∨ a = Reg.tmPolCfg)

/-- The staged shadow of a register, its value in effect where nothing is staged (R16). -/
def State.stagedView (s : State) (a : Nat) : Nat :=
  let mask := clsMask .staged a + clsMask .ream a
  if isPolicerReg a then
    match s.regs.polShadow.get? (s.polKey + (a - Reg.tmPolSel) / 4) with
    | some w => w.toNat
    | none => s.view a
  else match s.regs.shadow.get? a with
    | some w => mergeBits (s.view a) w.toNat mask
    | none => s.view a

/-- CONFIG_READ with WHAT STAGED (R16, R454, R455). -/
def execConfigReadStaged (r : AdminRef) (addr : Nat) (s : State) : Res :=
  runAdmin true false r s fun s =>
    if clsMask .staged addr = 0 ∧ clsMask .ream addr = 0 then failWith s stInvalidField
    else (s, some (stSuccess, s.readWb (s.stagedView addr)))

/-- CONFIG_READ with WHAT IN_EFFECT (R16, R454, R455). -/
def execConfigReadInEffect (r : AdminRef) (addr : Nat) (s : State) : Res :=
  runAdmin true false r s fun s =>
    if clsMask .staged addr = 0 ∧ clsMask .ream addr = 0 then failWith s stInvalidField
    else (s, some (stSuccess, s.readWb (s.view addr)))

/-- CONFIG_READ with WHAT BANKS (R454). -/
def execConfigReadBanks (r : AdminRef) (s : State) : Res :=
  runAdmin true false r s fun s => (s, some (stSuccess, s.readWb 0))

/-! ### Counter snapshots (R35 to R44) -/

/-- The counter map of the store (R43): pairs of `_LO` offsets, or 0 and the key of a PIPE pair. -/
def State.counterMap (s : State) : List (Nat × Nat) :=
  match s.nvm.base with
  | some b => b.counterMap
  | none => []

/-- SNAPSHOT_COUNTERS (R35, R37, R41, R42, R44). -/
def execSnapshotCounters (r : AdminRef) (flags bufLen : Nat) (s : State) : Res :=
  runAdmin true false r s fun s =>
    if 2 ≤ flags ∨ (bufLen ≠ 0 ∧ bufLen < 16 * s.counterMap.length) then failWith s stInvalidField
    else if s.snap.phase ≠ .idle then failWith s stBusy
    else ({ s with snap :=
      { phase := .armed, ts := s.now + 2 * usStamp, seq := s.snap.seq + 1, clearing := decide (flags = 1),
        token := some (s.tok r), bufLen } }, none)

/-- Whether every counter can be latched (R38): every port's front has passed T_s, and no port, slice, engine, queue of the traffic
manager, merge or release holding has a frame stamped before it, which they might still count, nor has one no disposition. -/
def State.latchReady (s : State) : Bool :=
  let old := fun (f : Frame) => decide (f.stamp < s.snap.ts)
  decide (s.snap.ts ≤ s.now) && s.portList.all (fun p => decide (s.snap.ts ≤ s.portFront p) && !(s.port p).fifo.any old) &&
    s.ldg.undecided.values.all (fun l => decide (s.snap.ts ≤ l.stamp)) &&
    !(s.tm.frames.values.any fun f => old f.frame) && s.portList.all (fun p => !((s.port p).txCopy.any fun x => old x.1)) &&
    (List.range 8).all fun n => !(s.sliceFrames n).any old

/-- A table with the side accumulators added (R39). -/
def addSide (v side : Table DWord) : Table DWord :=
  side.entries.foldl (fun (t : Table DWord) e => t.set e.1 (t.getD e.1 0 + e.2)) v

/-- PIPE pairs with their side accumulators added (R39). -/
def addPairSide (v side : Table PairCtr) : Table PairCtr :=
  side.entries.foldl (fun (t : Table PairCtr) e =>
    let p := t.getD e.1 PairCtr.init
    t.set e.1 ⟨p.pkts + e.2.pkts, p.bytes + e.2.bytes⟩) v

/-- Every counter latched (R39). -/
def Counters.latch (c : Counters) (clearing : Bool) : Counters :=
  { c with
    latched := c.value
    value := if clearing then c.side else addSide c.value c.side
    side := .empty
    pairLatched := c.pair
    pair := if clearing then c.pairSide else addPairSide c.pair c.pairSide
    pairSide := .empty }

/-- The counters that are fields of a register. -/
def counterFields : List FieldRef :=
  [F.glbBcastStatus_rejected, F.tbTodRxOk_count, F.tbTodRxErr_count, F.ldgMissing_count, F.ldgHdrLost_count,
    F.ldgInflight_count, F.ldgCarried_count, F.ldgRefused_count] ++
  (List.range 4).map F.tbEvtOvf_ovf ++
  (List.range 20).flatMap fun i => [F.clkIslEvents_failovers i, F.clkIslEvents_forced i, F.clkIslEvents_safe i]

/-- One of them latched (R39). -/
def State.latchField (s : State) (clearing : Bool) (f : FieldRef) : State :=
  let v := s.fld f
  let side := s.ctr.fieldSide.getD f.key 0
  let s := { s with ctr := { s.ctr with fieldLatched := s.ctr.fieldLatched.set f.key v } }
  s.setFld f (saturate f.width (if clearing then side else v + side))

/-- Every one of them latched. -/
def State.latchFields (s : State) (clearing : Bool) : State :=
  let s := counterFields.foldl (fun (s : State) f => s.latchField clearing f) s
  { s with ctr := { s.ctr with fieldSide := .empty } }

/-- Every counter of what no command carries as it stands when the snapshot looks at it. -/
def State.settleLines (s : State) : State :=
  ([C.hifTxOctets, C.hifRxOctets] ++ s.portList.flatMap portLines).foldl (fun (s : State) a => s.settleLine a) s

/-- The snapshot complete, its command with it (R42). -/
def State.snapDone (s : State) (count : Nat) : State :=
  let t := s.snap.token
  let s := { s with snap := { s.snap with phase := .idle, token := none } }
  s.doneIf t stSuccess [(32, stampLe s.snap.ts), (48, le 8 s.snap.seq), (56, le 8 count)]

/-- COUNTER_LATCH (R36, R38, R39, R44). -/
def execCounterLatch (s : State) : Res :=
  whenWorking s <|
    if s.snap.phase ≠ .armed ∨ !s.latchReady then .next s
    else
      let s := s.settleLines
      let s := { s with ctr := s.ctr.latch s.snap.clearing }.latchFields s.snap.clearing
      if s.snap.bufLen = 0 then .next (s.snapDone 0) else .next { s with snap := { s.snap with phase := .writing } }

/-- A latched counter: one with words of its own, or those in the fields of a register. -/
def State.latchedCount (s : State) (a : Nat) : Nat :=
  if (findCtr ctrTable a).isSome then (s.ctr.latched.getD a 0).toNat
  else (counterFields.filter fun f => decide (f.addr = a)).foldl (fun n f => n + s.ctr.fieldLatched.getD f.key 0 * 2 ^ f.lo) 0

/-- The 16 bytes of an entry of the counter map (R43). -/
def State.mapPair (s : State) (e : Nat × Nat) : Bytes :=
  if e.1 = 0 then
    let p := s.ctr.pairLatched.getD e.2 PairCtr.init
    le 8 p.pkts.toNat ++ le 8 p.bytes.toNat
  else le 8 (s.latchedCount e.1) ++ le 8 (s.latchedCount e.2)

/-- SNAPSHOT_BUFFER_WRITTEN (R43). -/
def execSnapshotBufferWritten (s : State) : Res :=
  whenWorking s <|
    if s.snap.phase ≠ .writing then .next s
    else
      let buf := match s.snap.token with | some t => t.ref.buf | none => 0
      let s := s.dma 0 .snapshot buf (s.counterMap.flatMap s.mapPair)
      .next (s.snapDone s.counterMap.length)

end Sys2Proof.Machine
end

