-- ==== Sys2Proof/Machine/Crypto.lean ====
section
/-! DEFINITION. Crypto contexts and engines (R543 to R560, R571 to R579): the transforms of the 34 crypto engines, the
context commands, and engine faults. -/

namespace Sys2Proof.Machine

/-! ### The context store -/

/-- The state with a context replaced. -/
def State.setCtx (s : State) (i : Nat) (k : Ctx) : State :=
  { s with eng := { s.eng with ctxs := s.eng.ctxs.set i k } }

/-- A context read by its engine for a frame: from the cache or from HBM (*The context store*). -/
def State.touchCtx (s : State) (i : Nat) (t : Stamp) : State :=
  let s := s.count (if i ∈ s.eng.cached then C.cryCacheHit else C.cryCacheMiss) 1 t
  { s with eng := { s.eng with cached := (i :: s.eng.cached.erase i).take 65536 } }

/-- The items that wait for the crypto engines, queue by queue. -/
def State.cryptoItems (s : State) : List Copy := (List.range 35).flatMap fun e => s.queue (qCrypto e)

/-- Whether an item in the crypto island holds a context (R577). -/
def State.ctxBusy (s : State) (i : Nat) : Bool :=
  s.cryptoItems.any fun c =>
    match s.tm.frames.get? c.frame with
    | some x => (match x.frame.crypto with | some (h, _) => decide (handleIndex h = i) | none => false)
    | none => false

/-- An index of the store given up: its tag goes on (R543). -/
def State.freeIndex (s : State) (i : Nat) : State :=
  { s with eng := { s.eng with
    ctxs := s.eng.ctxs.erase i, conns := s.eng.conns.erase i, cached := s.eng.cached.erase i
    tags := s.eng.tags.set i ((s.eng.tags.getD i 0 + 1) % 8192) } }

/-- Contexts that are going and that no item holds any more destroyed, and their commands completed (R577). -/
def State.endContexts (s : State) : State :=
  (s.eng.ctxs.entries.filter fun e => e.2.dying).foldl (fun (s : State) e =>
    if s.ctxBusy e.1 then s
    else (s.freeIndex e.1).doneIf e.2.token stSuccess
      [(24, le 8 e.2.packets), (32, le 8 e.2.bytes), (40, le 8 e.2.authFail), (48, le 8 e.2.replayDrop)]) s

/-- Contexts and connections of a function (R544). -/
def State.fnCtxs (s : State) (f : Nat) : Nat :=
  (s.eng.ctxs.values.filter (·.fn = f)).length + (s.eng.conns.values.filter (·.fn = f)).length

/-- Whether the store and a function's quota have room for one more. -/
def State.ctxRoom (s : State) (f : Nat) : Bool :=
  decide (s.fnCtxs f < s.ctxQuota f) && decide (s.eng.ctxs.size + s.eng.conns.size < 524288)

/-- An unused index of the store. -/
def State.newIndex (s : State) : Nat × State := s.pickFree 524288 (s.eng.ctxs.keys ++ s.eng.conns.keys)

/-! ### IPsec ESP -/

/-- ESN of a context. -/
def Ctx.esn (k : Ctx) : Bool := k.info.flags.testBit 1

/-- Tunnel mode of a context. -/
def Ctx.tunnel (k : Ctx) : Bool := k.info.flags.testBit 0

/-- UDP encapsulation of a context. -/
def Ctx.udp (k : Ctx) : Bool := k.info.flags.testBit 2

/-- The key bytes that an IPsec algorithm uses (R547). -/
def Ctx.espKey (k : Ctx) : Bytes := if k.info.alg = 0 then k.info.key.take 16 else k.info.key

/-- The associated data of ESP: SPI and sequence number, 64 bits under ESN. -/
def Ctx.espAad (k : Ctx) (seq : Nat) : Bytes := be 4 k.info.spi ++ (if k.esn then be 8 seq else be 4 seq)

/-- ESP header, IV, ciphertext and ICV for a payload (R549): monotonic padding to a multiple of 4 bytes. -/
def Ctx.espSeal (k : Ctx) (iv payload : Bytes) (nh : Nat) : Bytes :=
  let pad := (4 - (payload.length + 2) % 4) % 4
  let text := payload ++ ((List.range pad).map fun i => BitVec.ofNat 8 (i + 1)) ++ be 1 pad ++ be 1 nh
  be 4 k.info.spi ++ be 4 (k.seq % 2 ^ 32) ++ iv ++
    fitBytes (text.length + k.info.icvLen) (Config.seal (16 + k.info.alg) k.espKey (k.info.salt ++ iv) (k.espAad k.seq) text)

/-- Where a frame's Ethernet header with its tags ends. -/
def etherEnd (c : ParseCfg) (b : Bytes) : Nat := afterTags c.tpids b 2 12 + 2

/-- Whether a header stays before ESP in transport mode (RFC 4303, section 3.1.1): IPv6 hop-by-hop, routing, fragment. -/
def staysBefore (h : Hdr) : Bool :=
  decide (h.kind = .ext) && h.fields.any fun e => decide (e.1 = Fld.extType ∧ e.2 ∈ [0, 43, 44])

/-- Where ESP goes in transport mode, and the byte that names what follows. -/
def espPlace (p : Parsed) (h : Hdr) : Nat × Nat :=
  if h.kind = .ipv4 then (h.start + h.len, h.start + 9)
  else (((p.hdrs.dropWhile (· ≠ h)).drop 1).takeWhile staysBefore).foldl (fun _ e => (e.start + e.len, e.start))
    (h.start + 40, h.start + 6)

/-- The lengths of an IP header at `p` set for a frame that ends with its packet, with an IPv4 checksum to match. -/
def fixIp (b : Bytes) (v4 : Bool) (p n : Nat) : Bytes :=
  if v4 then fixIpv4 (putBytes b (p + 2) (be 2 (b.length - p))) p n else putBytes b (p + 4) (be 2 (b.length - p - 40))

/-- The end of the packet that an IP header declares. -/
def ipEnd (b : Bytes) (h : Hdr) : Nat :=
  min b.length (h.start + (if h.kind = .ipv4 then num b (h.start + 2) 2 else 40 + num b (h.start + 4) 2))

/-- The outbound transform (R549): the frame after it, and the bytes it protects. `iv`, `ident` and `nh` are free: the IV,
the outer identification, and the next header of what is no IP packet right behind the Ethernet header in tunnel mode, or of a
frame that holds none. -/
def espOut (c : ParseCfg) (k : Ctx) (iv : Bytes) (ident nh : Nat) (b : Bytes) : Bytes × Nat :=
  let p := parse c b
  let ip := outerIp p
  if k.tunnel then
    let start := etherEnd c b
    let ip := ip.filter fun h => decide (h.start = start)
    let stop := match ip with | some h => ipEnd b h | none => b.length
    let inner := bytesAt b start (stop - start)
    let nh := match ip with | some h => if h.kind = .ipv4 then 4 else 41 | none => nh
    let v4 := !k.info.flags.testBit 3
    let n := if v4 then 20 else 40
    let w := b.take (start - 2) ++ be 2 (if v4 then 0x0800 else 0x86DD) ++ fitBytes k.info.hdrLen k.info.hdr ++
      k.espSeal iv inner nh
    let w := if k.udp then putBytes (putBytes w (start + n + 4) (be 2 (w.length - start - n))) (start + n + 6) [0, 0] else w
    (fixIp (if v4 then putBytes w (start + 4) (be 2 ident) else w) v4 start n, inner.length)
  else
    match ip with
    | some h =>
      let (at0, name) := espPlace p h
      let payload := bytesAt b at0 (ipEnd b h - at0)
      let esp := k.espSeal iv payload (num b name 1)
      let w := b.take at0 ++
        (if k.udp then be 2 4500 ++ be 2 4500 ++ be 2 (esp.length + 8) ++ [0, 0] else []) ++ esp
      (fixIp (putBytes w name (be 1 (if k.udp then 17 else 50))) (decide (h.kind = .ipv4)) h.start h.len, payload.length)
    | none =>
      let start := etherEnd c b
      let payload := b.drop start
      (b.take start ++ k.espSeal iv payload nh, payload.length)

/-- Where a frame carries ESP: the ESP header, the IP header before it, where ESP begins with its UDP header, and the byte that
names what follows there. -/
def espAt (p : Parsed) : Option (Hdr × Hdr × Nat × Nat) :=
  (p.hdrs.find? (·.kind = .esp)).bind fun e =>
    let before := p.hdrs.takeWhile (· ≠ e)
    ((before.filter fun h => decide (h.kind = .ipv4 ∨ h.kind = .ipv6)).getLast?).map fun ip =>
      let start := match before.getLast? with
        | some l => if l.kind = .udp then l.start else e.start
        | none => e.start
      let name := match (before.filter fun h => decide (h.kind = .ext ∧ ip.start < h.start)).getLast? with
        | some x => x.start
        | none => if ip.kind = .ipv4 then ip.start + 9 else ip.start + 6
      (e, ip, start, name)

/-- The sequence number of an inbound frame, its upper half as RFC 4303 Appendix A recovers it (R551). -/
def Ctx.espSeq (k : Ctx) (low : Nat) : Nat :=
  if !k.esn then low
  else
    let w := max 1 k.info.replayWin
    let tl := k.high % 2 ^ 32
    let th := k.high / 2 ^ 32
    if w - 1 ≤ tl then (if tl + 1 - w ≤ low then th else (th + 1) % 2 ^ 32) * 2 ^ 32 + low
    else (if 2 ^ 32 + tl + 1 - w ≤ low then (th + 2 ^ 32 - 1) % 2 ^ 32 else th) * 2 ^ 32 + low

/-- The replay pre-check (R552). -/
def Ctx.fresh? (k : Ctx) (seq : Nat) : Bool :=
  decide (k.info.replayWin = 0) || (decide (k.high < seq + k.info.replayWin) && decide (seq ∉ k.seen))

/-- The window after a frame was verified (R552). -/
def Ctx.receive (k : Ctx) (seq : Nat) : Ctx :=
  let high := max k.high seq
  { k with high, seen := (seq :: k.seen).filter fun x => decide (high < x + k.info.replayWin) }

/-- What ESP carries in a frame: the plaintext that decryption gives, its padding and trailer still on. `none` for a frame
without ESP or too short for it. -/
def Ctx.espOpen (k : Ctx) (b : Bytes) (x : Hdr × Hdr × Nat × Nat) (seq : Nat) : Option Bytes :=
  let (e, ip, _) := x
  let stop := ipEnd b ip
  if stop < e.start + 16 + k.info.icvLen + 2 then none
  else
    let iv := bytesAt b (e.start + 8) 8
    let text := bytesAt b (e.start + 16) (stop - e.start - 16)
    some (fitBytes (text.length - k.info.icvLen)
      (Config.unseal (16 + k.info.alg) k.espKey (k.info.salt ++ iv) (k.espAad seq) text))

/-- The frame after an inbound transform (R553): in tunnel mode the inner packet follows the Ethernet header, which ends at
`ether`. -/
def Ctx.espIn (k : Ctx) (b : Bytes) (x : Hdr × Hdr × Nat × Nat) (ether : Nat) (plain : Bytes) : Bytes :=
  let (_, ip, start, name) := x
  let n := plain.length
  let nh := (plain.getD (n - 1) 0).toNat
  let payload := plain.take (n - 2 - (plain.getD (n - 2) 0).toNat)
  if k.tunnel then
    let type := if nh = 4 then be 2 0x0800 else if nh = 41 then be 2 0x86DD else bytesAt b (ether - 2) 2
    b.take (ether - 2) ++ type ++ payload
  else
    let w := b.take start ++ payload
    fixIp (putBytes w name (be 1 nh)) (decide (ip.kind = .ipv4)) ip.start ip.len

/-- A context after it has protected or opened `n` bytes (R547, R550): soft lifetime, hard lifetime, sequence numbers. -/
def State.useCtx (s : State) (h : Nat) (k : Ctx) (n : Nat) : State :=
  let bytes := k.bytes + n
  let esp := decide (k.info.type ≤ 2)
  let soft := esp && decide (k.info.softBytes ≠ 0 ∧ k.info.softBytes ≤ bytes) && !k.softDone
  let spent := (esp && decide (k.info.hardBytes ≠ 0 ∧ k.info.hardBytes ≤ bytes)) ||
    (decide (k.info.type = 2) && decide (2 ^ (if k.esn then 64 else 32) ≤ k.seq))
  let s := s.setCtx (handleIndex h) { k with
    packets := k.packets + 1, bytes, softDone := k.softDone || soft
    state := if spent then .expired else k.state }
  let s := if soft then s.event 0x9003 1 [.q h] else s
  if spent then s.event 0x9004 2 [] else s

/-! ### Items of an engine -/

/-- The next item of an engine: the head of its input queue (R546). -/
def State.engineHead (s : State) (engine : Nat) : Option (Copy × TmFrame × Nat) :=
  match s.queue (qCrypto engine) with
  | c :: _ => (s.tm.frames.get? c.frame).bind fun x => x.frame.crypto.map fun h => (c, x, h.1)
  | [] => none

/-- The engine that an item belongs to by the roles as they are. -/
def State.itemEngine (s : State) (c : Copy) : Nat :=
  match (s.tm.frames.get? c.frame).bind fun x => x.frame.crypto with
  | some (h, _) => roleEngine s.eng.cryRoles (handleIndex h % 32)
  | none => 34

/-- Items whose role passed to another engine moved behind what waits there (R546, R571, R573). -/
def State.moveItems (s : State) : State :=
  let moved := s.cryptoItems.filter fun c => decide (engineQueue (s.itemEngine c) ≠ c.queue)
  moved.foldl (fun (s : State) c =>
    let q := engineQueue (s.itemEngine c)
    let rest := (s.queue c.queue).filter (·.id ≠ c.id)
    let t := if rest.isEmpty then s.tm.queues.erase c.queue else s.tm.queues.set c.queue rest
    { s with tm := { s.tm with queues := t.set q (t.getD q [] ++ [{ c with queue := q }]) } }) s

/-- An item taken out of its engine's input queue; its frame has no disposition yet. -/
def State.takeItem (s : State) (c : Copy) : State := (s.unqueue c).releaseFrame c.frame

/-- An item whose frame is dropped (R437, R545, R556): DROP_POLICY. -/
def State.dropItem (s : State) (c : Copy) (f : Frame) : State := (s.takeItem c).dropInSlice f 0x10

/-- A buffer cell's error strikes an item as it leaves for its engine (R511, R739): its frame, which has no disposition yet, is
dropped with DROP_NO_BUFFER. -/
def State.itemFault (s : State) (c : Copy) (f : Frame) : State :=
  (((s.count C.tmCellErr 1 f.stamp).event 0x8006 3 []).takeItem c).dropInSlice f 0x12

/-- A frame handed back after an inbound transform, for another pass (R432, R553). -/
def State.itemAgain (s : State) (c : Copy) (f : Frame) : State :=
  (s.takeItem c).modSlice f.slice fun y => { y with recirc := y.recirc ++ [f.again] }

/-- A frame handed back after an outbound transform, for admission (R437), with the generation that the engine accepted it under
(R574). -/
def State.itemOut (s : State) (c : Copy) (x : TmFrame) (bytes : Bytes) : State :=
  let f := { x.frame with bytes, crypted := true, d := { x.frame.d with encrypt := none } }
  let s := s.takeItem c
  { s with tm := { s.tm with
    input := s.tm.input ++ [{ frame := f, parsed := x.parsed, first := x.first, malformed := 0, follower := false }] } }

/-- The next item of an engine processed under its context, when the context is of a type (R511, R543, R545, R546, R571). -/
def runItem (e : EngineTurn) (type : Nat) (s : State) (body : Copy → TmFrame → Nat → Ctx → State → State) : Res :=
  whenWorking s <|
    match s.engineHead e.engine with
    | none => .next s
    | some (c, x, h) =>
      if e.cellError then .next (s.itemFault c x.frame).endContexts
      else match s.heldCtx h (match x.frame.crypto with | some (_, ts) => ts | none => []) with
      | none => .next (((s.count C.cryBadContext 1 x.frame.stamp).dropItem c x.frame).endContexts)
      | some k => if k.info.type ≠ type then .next s else .next ((body c x h k (s.touchCtx (handleIndex h) x.frame.stamp)).endContexts)

/-- IPSEC_OUTBOUND (R549, R550). A frame that the transform would make too long is dropped, its context as it was (R436,
assumption 113). -/
def execIpsecOutbound (engine : EngineTurn) (s : State) : Res :=
  runItem engine 2 s fun c x h k s =>
    let f := x.frame
    let (iv, s) := s.drawBytes 8
    let (ident, s) := s.draw 65536
    let (nh, s) := s.draw 256
    let (b, n) := espOut (s.parseCfg f.slice f) k iv ident nh f.bytes
    if maxEdited < b.length then (s.count (C.pipeTooLong f.slice) 1 f.stamp).dropItem c f
    else
    (s.useCtx h { k with seq := k.seq + 1 } n).itemOut c x b

/-- IPSEC_INBOUND (R551 to R553): replay pre-check, verification, window. `icvOk` is the verdict of the ICV. -/
def execIpsecInbound (engine : EngineTurn) (icvOk : Bool) (s : State) : Res :=
  runItem engine 1 s fun c x h k s =>
    let f := x.frame
    let i := handleIndex h
    let place := espAt (parse (s.parseCfg f.slice f) f.bytes)
    let seq := match place with | some (e, _, _) => k.espSeq (num f.bytes (e.start + 4) 4) | none => 0
    if place.isSome && !k.fresh? seq then
      ((s.count C.cryReplayDrop 1 f.stamp).setCtx i { k with replayDrop := k.replayDrop + 1 }).dropItem c f
    else match place.bind fun p => (k.espOpen f.bytes p seq).map fun t => (p, t) with
      | some (p, plain) =>
        if icvOk then
          let b := k.espIn f.bytes p (etherEnd (s.parseCfg f.slice f) f.bytes) plain
          (s.useCtx h (k.receive seq) plain.length).itemAgain c { f with
            bytes := b, mark := if k.tunnel then none else f.mark, engFlags := if f.engFlags.testBit 6 then f.engFlags else f.engFlags + 64 }
        else ((s.count C.cryAuthFail 1 f.stamp).setCtx i { k with authFail := k.authFail + 1 }).dropItem c f
      | none => ((s.count C.cryAuthFail 1 f.stamp).setCtx i { k with authFail := k.authFail + 1 }).dropItem c f

/-! ### TLS 1.3 records -/

/-- Whole TLS records of a payload (R554): header, plaintext and inner type, 16 bytes for the tag. -/
def tlsRecords : Nat → Bytes → Option (List Bytes)
  | _, [] => some []
  | 0, _ => none
  | n + 1, b =>
    let len := beNat (bytesAt b 3 2)
    if b.length < 5 + len ∨ len < 17 then none
    else (tlsRecords n (b.drop (5 + len))).map (b.take (5 + len) :: ·)

/-- The key bytes that a TLS algorithm uses (R547). -/
def tlsKey (alg : Nat) (key : Bytes) : Bytes := if alg = 0 ∨ alg = 3 then key.take 16 else key

/-- The nonce of a record (RFC 8446, section 5.3). -/
def tlsNonce (iv : Bytes) (n : Nat) : Bytes := xorBytes (zeros 4 ++ be 8 n) (fitBytes 12 iv)

/-- A record encrypted in place, with its tag. -/
def tlsSeal (alg n : Nat) (key iv r : Bytes) : Bytes :=
  r.take 5 ++ fitBytes (r.length - 5)
    (Config.seal (32 + alg) (tlsKey alg key) (tlsNonce iv n) (r.take 5) (bytesAt r 5 (r.length - 21)))

/-- The numbers and keys of consecutive records: from the map where it holds them, else after one another (R555). -/
def tlsNumber (k : Ctx) : Nat → Nat → Bytes → Bytes → List Bytes → List (Nat × Nat × Bytes × Bytes)
  | _, _, _, _, [] => []
  | seq, n, key, iv, r :: rs =>
    let e := (k.map.find? fun e => decide (e.1 = seq)).getD (seq, n, key, iv)
    e :: tlsNumber k ((seq + r.length) % 2 ^ 32) (e.2.1 + 1) e.2.2.1 e.2.2.2 rs

/-- The TCP sequence number, payload offset and payload of a frame. -/
def tcpPart (c : ParseCfg) (b : Bytes) : Option (Nat × Nat × Bytes) :=
  let p := parse c b
  (p.hdrs.find? (·.kind = .tcp)).map fun h =>
    let at0 := h.start + h.len
    (num b (h.start + 4) 4, at0, bytesAt b at0 (p.bound - at0))

/-- TLS_TX (R554 to R556). -/
def execTlsTx (engine : EngineTurn) (s : State) : Res :=
  runItem engine 3 s fun c x h k s =>
    let f := x.frame
    let bad := (s.count C.cryTlsTxBad 1 f.stamp).dropItem c f
    match tcpPart (s.parseCfg f.slice f) f.bytes with
    | none => bad
    | some (seq, at0, payload) =>
      match tlsRecords payload.length payload with
      | none | some [] => bad
      | some rs =>
        let new := decide (seq = k.tcpSeq)
        if !new && !(k.map.any fun e => decide (e.1 = seq)) then bad
        else
          let es := if new then tlsNumber { k with map := [] } seq k.recordNo k.key k.iv rs else tlsNumber k seq 0 k.key k.iv rs
          let w := (rs.zip es).flatMap fun e => tlsSeal k.info.alg e.2.2.1 e.2.2.2.1 e.2.2.2.2 e.1
          let k := if new then { k with
              tcpSeq := (seq + payload.length) % 2 ^ 32, recordNo := k.recordNo + rs.length
              map := (es.reverse ++ k.map).take 64 } else k
          (s.useCtx h k payload.length).itemOut c x (putBytes f.bytes at0 w)

/-- What the pass of a payload under a receive context gives: the context, the bytes, the flags. -/
structure TlsPass where
  k : Ctx
  out : Bytes
  flags : Nat
  halted : Bool
  failed : Bool
  deriving DecidableEq, Repr

/-- A flag of the write-back set. -/
def TlsPass.flag (x : TlsPass) (i : Nat) : Nat := if x.flags.testBit i then x.flags else x.flags + 2 ^ i

/-- Payload bytes through a receive context (R557, R560): fuel, tag verdicts and inner types of the records that end here. A
record's bytes before its tag are decrypted in place; the tag is judged when its last byte passes. -/
def tlsReceive : Nat → List Bool → List Nat → Bytes → TlsPass → TlsPass
  | 0, _, _, b, x => { x with out := x.out ++ b }
  | n + 1, oks, types, b, x =>
    let k := x.k
    if b = [] then x
    else if x.halted then { x with out := x.out ++ b }
    else if k.header.length < 5 then
      let t := b.take (5 - k.header.length)
      let header := k.header ++ t
      let k := { k with
        header, left := beNat (bytesAt header 3 2), body := [], tcpSeq := (k.tcpSeq + t.length) % 2 ^ 32 }
      tlsReceive n oks types (b.drop t.length) { x with k, out := x.out ++ t }
    else
      let t := b.take k.left
      let text := k.body.length + k.left - 16
      let body := k.body ++ t
      let plain := fitBytes body.length
        (Config.unseal (32 + k.info.alg) (tlsKey k.info.alg k.key) (tlsNonce k.iv k.recordNo) k.header (body.take text))
      let part := (plain.take text ++ body.drop text).drop k.body.length
      let left := k.left - t.length
      let k := { k with body, left, tcpSeq := (k.tcpSeq + t.length) % 2 ^ 32 }
      let x := { x with k, out := x.out ++ part.take t.length ++ zeros (t.length - part.length) }
      if left ≠ 0 then x
      else
        let k := { k with header := [], body := [], recordNo := k.recordNo + 1 }
        if oks.headD false then
          let hs := decide (types.headD 0 = 0x16)
          tlsReceive n (oks.drop 1) (types.drop 1) (b.drop t.length)
            { x with k := if hs then { k with state := .keyWait } else k, flags := x.flag 3, halted := hs }
        else tlsReceive n (oks.drop 1) (types.drop 1) (b.drop t.length)
          { x with
            k := { k with state := .failed, authFail := k.authFail + 1 }, flags := x.flag 4, halted := true, failed := true }

/-- A frame that passes a receive context unmodified (R559, R560). -/
def State.tlsPassthru (s : State) (c : Copy) (f : Frame) : State :=
  (s.count C.cryTlsPassthru 1 f.stamp).itemAgain c { f with
    engFlags := if f.engFlags.testBit 5 then f.engFlags else f.engFlags + 32 }

/-- A receive context as a frame of `len` payload bytes from a TCP sequence on finds it (R579): a state that waits for a frame that
starts at or contains its sequence is taken up. Answers the context and how many bytes of the frame lie before that. -/
def Ctx.takeUp (k : Ctx) (seq len : Nat) : Ctx × Nat :=
  match k.next with
  | none => (k, 0)
  | some n =>
    let ahead := (n.seq + 2 ^ 32 - seq) % 2 ^ 32
    if ahead = 0 ∨ ahead < len then
      let k := { k with
        next := none, state := if k.state = .expired then k.state else .active
        tcpSeq := n.seq, recordNo := n.recordNo, key := n.key, iv := n.iv }
      (if n.resumed then k else { k with left := 0, header := [], body := [] }, ahead)
    else (k, 0)

/-- TLS_RX (R557, R559, R560, R579). -/
def execTlsRx (engine : EngineTurn) (tagsOk : List Bool) (innerTypes : List Nat) (s : State) : Res :=
  runItem engine 4 s fun c x h k s =>
    let f := x.frame
    let i := handleIndex h
    match tcpPart (s.parseCfg f.slice f) f.bytes with
    | none => s.tlsPassthru c f
    | some (seq, at0, payload) =>
      let (k, skip) := k.takeUp seq payload.length
      let ahead := (k.tcpSeq + 2 ^ 32 - seq) % 2 ^ 32
      if k.state ≠ .active then s.tlsPassthru c f
      else if ahead = skip then
        let start : TlsPass := { k, out := [], flags := 4, halted := false, failed := false }
        let r := tlsReceive (2 * payload.length + 2) tagsOk innerTypes (payload.drop skip) start
        let w := putBytes f.bytes (at0 + skip) r.out
        let s := s.useCtx h r.k (payload.length - skip)
        let s := if r.failed then s.event 0x9005 2 [] else s
        s.itemAgain c { f with bytes := w, engFlags := f.engFlags - f.engFlags % 32 + f.engFlags % 4 + r.flags }
      else if ahead < 2 ^ 31 then s.tlsPassthru c f
      else ((s.setCtx i { k with state := .resyncWait }).event 0x9006 1 []).tlsPassthru c f

/-! ### Commands -/

/-- Whether the fields of a crypto context record are in range (R547, R548). -/
def ctxRecOk (r : CtxRec) : Bool :=
  r.rsvOk && if r.type = 1 ∨ r.type = 2 then
    let n := if r.flags.testBit 0 then (if r.flags.testBit 3 then 40 else 20) + (if r.flags.testBit 2 then 8 else 0) else 0
    decide (r.alg ≤ 2 ∧ r.flags < 16) &&
      (if r.alg = 2 then decide (r.icvLen = 16) else decide (r.icvLen = 8 ∨ r.icvLen = 12 ∨ r.icvLen = 16)) &&
      decide (r.hdrLen = n) && (r.flags.testBit 1 || decide (r.seq < 2 ^ 32)) &&
      (if r.type = 1 then decide (r.replayWin = 0 ∨ (32 ≤ r.replayWin ∧ r.replayWin ≤ 4096 ∧ r.replayWin % 32 = 0))
        else true)
  else decide (r.type = 3 ∨ r.type = 4) && decide (r.alg ≤ 3)

/-- A new context from its record; an inbound SEQ counts as received (R547). -/
def newCtx (fn : Nat) (gen : BitVec 16) (r : CtxRec) : Ctx :=
  { fn, gen, info := r, state := .active, seq := r.seq, high := r.seq, seen := if r.type = 1 then [r.seq] else [], tcpSeq := r.tcpSeq, recordNo := r.recordNo,
    key := r.key, iv := r.iv, map := [], next := none, left := 0, header := [], body := [], packets := 0, bytes := 0,
    authFail := 0, replayDrop := 0, softDone := false, dying := false, token := none }

/-- CONTEXT_CREATE (R543, R544, R546 to R548, R576). -/
def execContextCreate (r : AdminRef) (bufLen : Nat) (rec : CtxRec) (s : State) : Res :=
  runAdmin false false r s fun s =>
    if bufLen < 128 ∨ !ctxRecOk rec then failWith s stInvalidField
    else if !s.ctxRoom r.fn then failWith s stNoResource
    else
      let (i, s) := s.newIndex
      let s := s.setCtx i (newCtx r.fn (s.fn r.fn).gen rec)
      (s, some (stSuccess, [(24, le 4 (s.handleOf i)), (28, le 1 (i % 32))]))

/-- The function that owns what a handle names, when the handle is current. -/
def State.ownerOf (s : State) (h : Nat) : Option Nat :=
  let i := handleIndex h
  if s.handleOf i ≠ h then none
  else match s.eng.ctxs.get? i with
    | some k => if k.dying then none else some k.fn
    | none => (s.eng.conns.get? i).map (·.fn)

/-- CONTEXT_DESTROY (R577): the queue is released, and the command completes once no item holds the context (R637). -/
def execContextDestroy (r : AdminRef) (handle : Nat) (s : State) : Res :=
  runAdmin false false r s fun s =>
    match s.ownerOf handle with
    | none => failWith s stNotFound
    | some f =>
      if f ≠ r.fn then failWith s stNotPermitted
      else match s.eng.ctxs.get? (handleIndex handle) with
        | none => failWith s stBusy
        | some k =>
          let s := (s.adminRelease r).setCtx (handleIndex handle) { k with dying := true, token := some (s.tok r) }
          (s.endContexts, none)

/-- CONTEXT_UPDATE_KEY on a context (R578, R838): its checks, and the new context. -/
def updateKey (r : AdminRef) (handle : Nat) (bad : Bool) (s : State) (f : Ctx → Ctx) (from_ : Ctx → Nat) : Res :=
  runAdmin false false r s fun s =>
    let k := s.eng.ctxs.get? (handleIndex handle)
    if bad then failWith s stInvalidField
    else match s.ownerOf handle, k with
      | none, _ => failWith s stNotFound
      | some _, none => failWith s stInvalidField
      | some o, some k =>
        if k.info.type < 3 then failWith s stInvalidField
        else if o ≠ r.fn then failWith s stNotPermitted
        else (s.setCtx (handleIndex handle) (f k), some (stSuccess, [(40, le 4 (from_ k))]))

/-- A context that is to go on under a state from a TCP sequence on (R579): a receive context takes it up with its first frame; on a
transmit context frames from there on use it, and map entries from there on are gone. -/
def Ctx.restart (k : Ctx) (seq n : Nat) (key iv : Bytes) : Ctx :=
  if k.info.type = 4 then { k with next := some ⟨seq, n, key, iv, false⟩ }
  else { k with
    tcpSeq := seq, recordNo := n, key, iv
    map := k.map.filter fun e => decide (2 ^ 31 ≤ (e.1 + 2 ^ 32 - seq) % 2 ^ 32) }

/-- UPDATE_KEY_NEW_KEY (R578, R579): a new key and IV, RECORD 0, from TCP_SEQ on TLS_TX and from the expected sequence on
TLS_RX. -/
def execUpdateKeyNewKey (r : AdminRef) (handle bufLen tcpSeq : Nat) (key iv : Bytes) (s : State) : Res :=
  let start := fun (k : Ctx) => if k.info.type = 3 then tcpSeq else k.tcpSeq
  updateKey r handle (decide (bufLen < 48)) s (fun k => k.restart (start k) 0 key iv) start

/-- UPDATE_KEY_RESYNC (R578, R579): TCP_SEQ and RECORD, same key. -/
def execUpdateKeyResync (r : AdminRef) (handle tcpSeq recordNo : Nat) (s : State) : Res :=
  updateKey r handle false s (fun k => k.restart tcpSeq recordNo k.key k.iv) fun _ => tcpSeq

/-- UPDATE_KEY_RESUME (R578, R579): a receive context goes on after KEY_WAIT. -/
def execUpdateKeyResume (r : AdminRef) (handle : Nat) (s : State) : Res :=
  updateKey r handle false s
    (fun k => if k.info.type = 4 then { k with next := some ⟨k.tcpSeq, k.recordNo, k.key, k.iv, true⟩ } else k) fun k => k.tcpSeq

/-! ### Engine faults -/

/-- The roles of an engine given to others (R571, R573): to the first spare in service's reserve, else to the engines that
hold roles, ascending, one each. Answers the table and whether a spare took over. -/
def passRoles (t : Table Nat) (n engine : Nat) (spare : Option Nat) : Table Nat :=
  let mine := (List.range n).filter fun r => decide (roleEngine t r = engine)
  match spare with
  | some e => mine.foldl (fun t r => t.set r e) t
  | none =>
    let left := (((List.range n).map (roleEngine t)).filter fun e => decide (e ≠ engine ∧ e ≠ 255)).eraseDups
    let sorted := (List.range 64).filter fun e => decide (e ∈ left)
    if sorted = [] then mine.foldl (fun t r => t.set r 255) t
    else mine.zipIdx.foldl (fun t e => t.set e.1 (sorted.getD (e.2 % sorted.length) 255)) t

/-- A spare engine of a kind: OUT_OF_SERVICE and never failed (REASON SPARE). -/
def State.spareEngine (s : State) (k : UnitKind) : Option Nat :=
  (List.range (kindUnits k)).find? fun e => decide ((s.unit k 0 e).state = .outOfService ∧ (s.unit k 0 e).reason = 6)

/-- An engine leaves its roles to a spare or to the engines that survive, with the events of R573. -/
def State.leaveRoles (s : State) (storage : Bool) (engine : Nat) : State :=
  let k := if storage then UnitKind.stoEngine else .cryEngine
  let n := if storage then 16 else 32
  let t := if storage then s.eng.stoRoles else s.eng.cryRoles
  let holds := (List.range n).any fun r => decide (roleEngine t r = engine)
  let spare := if holds then s.spareEngine k else none
  let t' := passRoles t n engine spare
  let role := spareRole t n engine 0xFF
  let s := match spare with | some e => s.moveUnit k 0 e .inService 0 | none => s
  let s := { s with eng := if storage then { s.eng with stoRoles := t' } else { s.eng with cryRoles := t' } }
  let s := if storage then s else s.moveItems
  let s := s.event (if storage then 0x9007 else 0x9001) 2 [.q engine, .q role]
  if holds && spare.isNone then s.event (if storage then 0x9008 else 0x9002) 3 [] else s

/-- A crypto or storage engine that leaves service by a fault (R571 to R573). -/
def State.engineLeaves (s : State) (storage : Bool) (engine : Nat) (second : Bool) : State :=
  (s.leaveRoles storage engine).unitFault (if storage then .stoEngine else .cryEngine, 0, engine) second

/-- ENGINE_FAULT (R571 to R573): a UCU of the engine. Its items wait in its queue, and are restarted by the engine that takes
their role. -/
def execEngineFault (storage : Bool) (engine : Nat) (s : State) : Res :=
  whenWorking s <|
    let k := if storage then UnitKind.stoEngine else .cryEngine
    let st := (s.unit k 0 engine).state
    if kindUnits k ≤ engine ∨ ¬(st = .inService ∨ st = .draining ∨ st = .rejoining) then .next s
    else
      let u : UnitRef := (k, 0, engine)
      let second := s.recordOpen u
      let (cls, s) := s.detect 2 9 (some u) .none false false
      .next (if cls = 3 then s else s.engineLeaves storage engine second)

end Sys2Proof.Machine
end

