-- ==== Sys2Proof/Machine/Storage.lean ====
section
/-! DEFINITION. Storage connections (R561 to R570, R580 to R582): TCP, the NVMe/TCP initiator, STO_CMD. PDU and header layouts
are those of the standards that the spec names (assumption 14). -/

namespace Sys2Proof.Machine

/-! ### PDUs -/

/-- HDGST of a connection. -/
def Conn.hdgst (c : Conn) : Bool := c.info.flags.testBit 0

/-- DDGST of a connection. -/
def Conn.ddgst (c : Conn) : Bool := c.info.flags.testBit 1

/-- A PDU: type, flags, header behind the common one, data; with the digests of the connection. -/
def Conn.pdu (c : Conn) (type flags : Nat) (head data : Bytes) : Bytes :=
  let hlen := 8 + head.length
  let hd := if c.hdgst then 4 else 0
  let dd := if c.ddgst ∧ data ≠ [] then 4 else 0
  let w := be 1 type ++ be 1 (flags + b2n c.hdgst + (if dd = 4 then 2 else 0)) ++ be 1 hlen ++
    be 1 (if data = [] then 0 else hlen + hd) ++ le 4 (hlen + hd + data.length + dd) ++ head
  w ++ (if c.hdgst then crc32c w else []) ++ data ++ (if dd = 4 then crc32c data else [])

/-- ICReq. -/
def Conn.icReq (c : Conn) : Bytes :=
  be 1 0 ++ be 1 0 ++ be 1 128 ++ be 1 0 ++ le 4 128 ++ le 2 0 ++ be 1 0 ++ be 1 (c.info.flags % 4) ++ zeros 116

/-- H2CTermReq, its fatal error status free. -/
def termReq (fes : Nat) : Bytes := be 1 2 ++ be 1 0 ++ be 1 24 ++ be 1 0 ++ le 4 24 ++ le 2 fes ++ zeros 14

/-- A submission queue entry. -/
def sqe (opc cid : Nat) (nsid : Bytes) (inCapsule : Bool) (len : Nat) (cdw : Bytes) : Bytes :=
  be 1 opc ++ be 1 0x40 ++ le 2 cid ++ nsid ++ zeros 16 ++ zeros 8 ++ le 4 len ++ zeros 3 ++
    be 1 (if inCapsule then 0x01 else 0x5A) ++ fitBytes 24 cdw

/-- The Fabrics Connect capsule; its 1,024 bytes of data come from host memory. -/
def Conn.connectCapsule (c : Conn) (data : Bytes) : Bytes :=
  c.pdu 4 0 (sqe 0x7F 0 (be 1 1 ++ zeros 3) true 1024 (le 2 0 ++ le 2 c.info.qid ++ le 2 (c.info.sqsize - 1))) data

/-- The capsule of a STO_CMD. -/
def Conn.capsule (c : Conn) (cid : Nat) (a : StoArgs) (data : Bytes) : Bytes :=
  c.pdu 4 0 (sqe a.nvmeOpc cid (le 4 a.nsid) (decide (data ≠ [])) a.dataLen a.cdw) data

/-- H2CData. -/
def Conn.h2cData (c : Conn) (cid ttag off : Nat) (last : Bool) (data : Bytes) : Bytes :=
  c.pdu 6 (if last then 4 else 0) (le 2 cid ++ le 2 ttag ++ le 4 off ++ le 4 data.length ++ zeros 4) data

/-! ### TCP -/

/-- A connection by its index. -/
def State.conn (s : State) (i : Nat) : Option Conn := s.eng.conns.get? i

/-- The state with a connection changed, if it exists. -/
def State.modConn (s : State) (i : Nat) (f : Conn → Conn) : State :=
  match s.conn i with
  | some c => { s with eng := { s.eng with conns := s.eng.conns.set i (f c) } }
  | none => s

/-- A segment built and put to the slice of the connection's port as an injected frame (R563). Flags are those of the TCP
header, and `resent` is the stamp of what made the device send it. Timestamps, TTL, identification and flow label are open and free;
a SYN offers the connection's window scale, and carries its window unscaled (RFC 7323). -/
def State.segment (s : State) (i : Nat) (c : Conn) (flags seq : Nat) (payload : Bytes) : State :=
  let (times, s) := s.drawBytes 8
  let (ip, s) := s.drawBytes 8
  let syn := (flags / 2).testBit 0
  let stampOpt := be 1 8 ++ be 1 10 ++ times
  let opts := if syn then be 2 0x0204 ++ be 2 c.info.mss ++ be 2 0x0402 ++ stampOpt ++ be 2 0x0103 ++ be 2 (0x300 + c.scale)
    else be 2 0x0101 ++ stampOpt
  let k := opts.length / 4
  let scale := if syn then 0 else c.scale
  let v6 := c.info.flags.testBit 2
  let win := min 65535 ((c.info.rcvBufKib * 1024 - s.connHeld i) / 2 ^ scale)
  let tcp := be 2 c.info.localPort ++ be 2 c.info.remotePort ++ be 4 seq ++ be 4 c.rcvNxt ++ be 1 ((5 + k) * 16) ++
    be 1 flags ++ be 2 win ++ be 2 0 ++ be 2 0 ++ opts ++ payload
  let addrs := if v6 then be 16 c.info.localIp ++ be 16 c.info.remoteIp else be 4 c.info.localIp ++ be 4 c.info.remoteIp
  let sumIn := addrs ++ be 4 6 ++ be 4 tcp.length ++ tcp ++ (if tcp.length % 2 = 1 then [0] else [])
  let tcp := putBytes tcp 16 (be 2 (65535 - onesSum sumIn (sumIn.length / 2) 0))
  let head := be 6 c.info.peerMac ++ be 6 c.info.localMac ++
    (if c.info.vlan ≠ 0 then be 2 0x8100 ++ be 2 c.info.vlan else []) ++ be 2 (if v6 then 0x86DD else 0x0800)
  let p := head.length
  let frame :=
    if v6 then head ++ be 1 0x60 ++ ip.take 3 ++ be 2 tcp.length ++ be 1 6 ++ bytesAt ip 3 1 ++ addrs ++ tcp
    else fixIpv4 (head ++ be 1 0x45 ++ ip.take 1 ++ be 2 (tcp.length + 20) ++ bytesAt ip 1 2 ++ be 2 0 ++ bytesAt ip 3 1 ++
      be 1 6 ++ be 2 0 ++ addrs ++ tcp) p 20
  let n := sliceOf c.info.port
  let f := { s.newFrame n injectionPort (.storage i) s.now frame (frame.length + 4) with admClass := c.info.cls }
  let s := { (s.modSlice n fun y => { y with injWait := y.injWait ++ [f] }) with nextFrame := s.nextFrame + 1 }
  s.modConn i fun c => { c with adv := win * 2 ^ scale }

/-- A segment that takes sequence space sent and kept until it is acknowledged. -/
def State.sendSeg (s : State) (i : Nat) (syn fin : Bool) (payload : Bytes) : State :=
  match s.conn i with
  | none => s
  | some c =>
    let s := s.segment i c ((if syn then 2 else 0) + b2n fin + (if c.step = 0 ∧ syn then 0 else 16) +
      (if payload = [] then 0 else 8)) c.sndNxt payload
    let t := s.now
    s.modConn i fun c => { c with
      sndNxt := (c.sndNxt + payload.length + b2n syn + b2n fin) % 2 ^ 32
      rtoAt := if c.unacked = [] then t + c.rto else c.rtoAt
      unacked := c.unacked ++ [⟨c.sndNxt, syn, fin, payload, some t⟩] }

/-- Buffered bytes sent as far as the peer's window and the congestion window go, in segments of at most MSS: fuel. -/
def State.pump : Nat → Nat → State → State
  | 0, _, s => s
  | n + 1, i, s =>
    match s.conn i with
    | none => s
    | some c =>
      let flight := (c.sndNxt + 2 ^ 32 - c.sndUna) % 2 ^ 32
      let k := min c.info.mss (min c.sndBuf.length (min c.sndWnd c.reno.cwnd - flight))
      if k = 0 then s
      else
        let s := s.modConn i fun c => { c with sndBuf := c.sndBuf.drop k }
        State.pump n i (s.sendSeg i false false (c.sndBuf.take k))

/-- Bytes of the stream sent. -/
def State.sendBytes (s : State) (i : Nat) (b : Bytes) : State :=
  let s := s.modConn i fun c => { c with sndBuf := c.sndBuf ++ b }
  State.pump (match s.conn i with | some c => c.sndBuf.length + 1 | none => 0) i s

/-- An acknowledgement alone. -/
def State.sendAck (s : State) (i : Nat) : State :=
  match s.conn i with
  | some c => s.segment i c 16 c.sndNxt []
  | none => s

/-- A TCP reset. -/
def State.sendRst (s : State) (i : Nat) : State :=
  match s.conn i with
  | some c => s.segment i c 20 c.sndNxt []
  | none => s

/-- The timeout after a round-trip sample (RFC 6298), between 1 ms and 1 s: smoothed time and variation, timeout. -/
def rttUpdate (old : Option (Nat × Nat)) (r : Nat) : (Nat × Nat) × Nat :=
  let n := match old with
    | none => (r, r / 2)
    | some (srtt, var) => ((7 * srtt + r) / 8, (3 * var + (max srtt r - min srtt r)) / 4)
  (n, max msStamp (min secStamp (n.1 + 4 * n.2)))

/-! ### Congestion (*Storage over NVMe/TCP*: NewReno, RFC 5681 and RFC 6582; assumption 94) -/

/-- Bytes in flight. -/
def Conn.flight (c : Conn) : Nat := (c.sndNxt + 2 ^ 32 - c.sndUna) % 2 ^ 32

/-- The congestion state of a new connection. -/
def NewReno.start (mss : Nat) : NewReno :=
  { cwnd := (if 2190 < mss then 2 else if 1095 < mss then 3 else 4) * mss, ssthresh := 2 ^ 30, dups := 0, recover := none }

/-- The oldest segment sent again on account of something stamped `t` (R36); it gives no round-trip sample any more. -/
def State.resend (s : State) (t : Stamp) (i : Nat) : State :=
  match s.conn i with
  | none => s
  | some c =>
    match c.unacked with
    | [] => s
    | g :: r =>
      let s := (s.count C.stoRetx 1 t).segment i c ((if g.syn then 2 else 0) + b2n g.fin + (if c.step = 0 ∧ g.syn then 0 else 16) +
        (if g.payload = [] then 0 else 8)) g.seq g.payload
      s.modConn i fun c => { c with unacked := { g with sent := none } :: r }

/-- The congestion state after an acknowledgement of `d` new bytes, `full` when it covers what a fast recovery waits for. -/
def Conn.renoAcked (c : Conn) (d : Nat) (full : Bool) : NewReno :=
  let m := c.info.mss
  let x := c.reno
  match x.recover with
  | some _ =>
    if full then { x with cwnd := min x.ssthresh (max (c.flight - d) m + m), dups := 0, recover := none }
    else { x with cwnd := x.cwnd - d + (if m ≤ d then m else 0) }
  | none => { x with dups := 0, cwnd := x.cwnd + (if x.cwnd < x.ssthresh then min d m else max 1 (m * m / max 1 x.cwnd)) }

/-- A duplicate acknowledgement: the third starts a fast recovery, each further one lets a segment more go. -/
def Conn.renoDup (c : Conn) : NewReno :=
  let m := c.info.mss
  let x := c.reno
  match x.recover with
  | some _ => { x with cwnd := x.cwnd + m }
  | none =>
    if x.dups + 1 < 3 then { x with dups := x.dups + 1 }
    else
      let t := max (c.flight / 2) (2 * m)
      { cwnd := t + 3 * m, ssthresh := t, dups := 3, recover := some c.sndNxt }

/-- The congestion state after a retransmission timeout. -/
def Conn.renoTimeout (c : Conn) : NewReno :=
  let m := c.info.mss
  { cwnd := m, ssthresh := if c.retx = 0 then max (c.flight / 2) (2 * m) else c.reno.ssthresh, dups := 0, recover := none }

/-- What an acknowledgement means for congestion, before it is taken in: a duplicate one has no data and changes no window. The oldest
segment is sent again as a fast recovery starts and at each partial acknowledgement in it. -/
def State.congestion (s : State) (t : Stamp) (i a window : Nat) (bare : Bool) : State :=
  match s.conn i with
  | none => s
  | some c =>
    let d := (a + 2 ^ 32 - c.sndUna) % 2 ^ 32
    if c.flight < d then s
    else if d = 0 then
      if bare ∧ window = c.sndWnd ∧ c.unacked ≠ [] then
        let x := c.renoDup
        let s := s.modConn i fun c => { c with reno := x }
        if c.reno.recover.isNone ∧ x.recover.isSome then s.resend t i else s
      else s
    else
      let full := match c.reno.recover with
        | some r => decide ((r + 2 ^ 32 - c.sndUna) % 2 ^ 32 ≤ d)
        | none => false
      let x := c.renoAcked d full
      s.modConn i fun c => { c with reno := x }

/-- The oldest segment sent again after an acknowledgement that was taken in, where a fast recovery goes on. -/
def State.partialAck (s : State) (t : Stamp) (i a una : Nat) : State :=
  match s.conn i with
  | some c => if a ≠ una ∧ c.sndUna = a ∧ c.reno.recover.isSome then s.resend t i else s
  | none => s

/-- An acknowledgement taken in: segments wholly covered leave, the timer starts again, a sample is taken (RFC 6298). -/
def Conn.acked (c : Conn) (a window : Nat) (now : Stamp) : Conn :=
  let d := (a + 2 ^ 32 - c.sndUna) % 2 ^ 32
  if (c.sndNxt + 2 ^ 32 - c.sndUna) % 2 ^ 32 < d then c
  else if d = 0 then { c with sndWnd := window }
  else
    let gone := fun (g : SegSt) =>
      decide ((g.seq + g.payload.length + b2n g.syn + b2n g.fin + 2 ^ 32 - c.sndUna) % 2 ^ 32 ≤ d)
    let sample := (c.unacked.find? gone).bind (·.sent)
    let c := match sample with
      | some t =>
        let (r, rto) := rttUpdate c.rtt (now - t)
        { c with rtt := some r, rto }
      | none => c
    { c with sndUna := a, sndWnd := window, unacked := c.unacked.filter fun g => !gone g, retx := 0, rtoAt := now + c.rto }

/-! ### The life of a connection -/

/-- The key of a connection's flow entry: addresses and ports as a received frame carries them (R561, assumption 17). -/
def connKey (r : ConnRec) : Bytes :=
  let a := if r.flags.testBit 2 then 16 else 4
  be a r.remoteIp ++ be a r.localIp ++ be 2 r.remotePort ++ be 2 r.localPort

/-- The engine that holds a connection's role (R546). -/
def State.connEngine (s : State) (i : Nat) : Nat := roleEngine s.eng.stoRoles (i % 16)

/-- A storage entry completed, or its result discarded by its generation (R567, R574). -/
def State.stoDone (s : State) (t : Stamp) (i : Nat) (st : StoSt) (status : Nat) (wb : List (Nat × Bytes)) : State :=
  let fn := match s.conn i with | some c => c.fn | none => 0
  let w := st.work
  if (s.fn fn).gen ≠ st.gen then
    let s := (s.count C.stoGenDiscard 1 t).event 0x900B 1 [.q fn, .q (s.connEngine i)]
    s.genReport t w.wq w.idx.toNat (0x40 + s.connEngine i) fn st.gen
  else (s.count C.stoCmds 1 t).workDone w.wq w.idx status wb

/-- Every outstanding entry of a connection completed with a status. -/
def State.stoAll (s : State) (t : Stamp) (i : Nat) (status : Nat) : State :=
  match s.conn i with
  | none => s
  | some c =>
    let s := (c.outstanding.filter fun x => decide (x.err = 0)).foldl (fun (s : State) x => s.stoDone t i x status []) s
    s.modConn i fun c => { c with outstanding := [] }

/-- How many entries of a connection are outstanding. -/
def Conn.open_ (c : Conn) : Nat := (c.outstanding.filter fun x => decide (x.err = 0)).length

/-- The write-back of STORAGE_CONNECT (R580). -/
def State.connectWb (s : State) (i : Nat) (c : Conn) (reason : Nat) : List (Nat × Bytes) :=
  [(24, le 4 (s.handleOf i)), (28, le 1 (i % 16)), (32, le 2 c.cntlid), (36, le 1 reason)]

/-- A connection's held frames discarded; they form no leaf, since R194 names no such outcome (assumption 115). -/
def State.dropHeld (s : State) (i : Nat) : State :=
  (s.queue (qConn i)).foldl (fun (s : State) c => (s.unqueue c).settleFrame c.frame) s

/-- What a ring set's archive held of records and headers returned to staging. -/
def State.archReturn (s : State) (set : Nat) : State :=
  { s with ldg := { s.ldg with
    records := s.ldg.records.map fun (x : RecSt) => if x.set = set then { x with archCid := none } else x
    headers := s.ldg.headers.map fun (h : HdrSt) => { h with archBusy := h.archBusy.filter (· ≠ set) } } }

/-- A ring set whose archive connection is gone. -/
def State.archGone (s : State) (set : Nat) : State :=
  let s := s.archReturn set
  let r := s.ldg.sets.getD set RingSet.init
  let s := { s with ldg := { s.ldg with sets := s.ldg.sets.set set { r with conn := none, archUp := false, disabling := none } } }
  s.doneIf r.disabling stSuccess []

/-- A connection closed: its flow entry, its storage reserve and its index are given up; the commands that wait for it
complete (R562, R581, R582). -/
def State.closeConn (s : State) (i reason : Nat) : State :=
  match s.conn i with
  | none => s
  | some c =>
    let (_, _, s) := s.deleteFlow (15, flowKeyNum (connKey c.info))
    let s := s.dropHeld i
    let wb := s.connectWb i c reason
    let s := { s with eng := { s.eng with rsvUsed := s.eng.rsvUsed - c.info.rcvBufKib } }
    let s := s.freeIndex i
    let s := match c.archive with
      | some k => s.archGone k
      | none => s
    (s.doneIf c.connectTok stStorageError wb).doneIf c.discTok stSuccess [(24, le 4 c.aborted)]

/-- A connection closed with FIN once nothing is outstanding while it drains (R581). -/
def State.drained (s : State) (i : Nat) : State :=
  match s.conn i with
  | some c => if c.state = .draining ∧ c.open_ = 0 then (s.sendSeg i false true []).closeConn i 9 else s
  | none => s

/-! ### The archive connection (R245, R254, R569, R570) -/

/-- An archive Write failed (R245, R266). -/
def State.archFailed (s : State) (set : Nat) : State :=
  ({ s with ldg := { s.ldg with sets := s.ldg.sets.modify set RingSet.init fun r => { r with archErr := true } } }).event 0x300F 2 []

/-- The commands that a connection has issued, of either kind. -/
def Conn.cids (c : Conn) : List Nat := c.outstanding.map (·.cid) ++ c.archOps.map (·.cid)

/-- The command capsule of an archive Write: NVMe Write with FUA (R569). -/
def Conn.archCapsule (c : Conn) (set : RingSet) (o : ArchOp) : Bytes :=
  let blocks := o.data.length / 4096 * set.lbaBlk
  c.pdu 4 0 (sqe 1 o.cid (le 4 set.nsid) false o.data.length (le 8 o.lba ++ le 4 (blocks - 1 + 2 ^ 30))) []

/-- A ring set's archive takes nothing more: what it held of records and headers returns to staging, and a DISABLE_SET that
waits for it completes (R254). -/
def State.archQuiet (s : State) (set : Nat) : State :=
  let r := s.ldg.sets.getD set RingSet.init
  let ops := match r.conn.bind s.conn with | some c => c.archOps | none => []
  if r.enabled || ops.any (fun o => !o.failed) then s
  else
    let s := match r.conn with
      | some i => s.modConn i fun c => { c with archOps := [] }
      | none => s
    let s := s.archReturn set
    let s := { s with ldg := { s.ldg with sets := s.ldg.sets.set set { r with disabling := none } } }
    s.doneIf r.disabling stSuccess []

/-- The archive connection of a ring set failed: its Writes failed with it, and the wait before the next attempt is 10 ms
before the first attempt and twice the last one after an attempt that failed (R245, R570). -/
def State.archDown (s : State) (set : Nat) (c : Conn) : State :=
  let s := if c.archOps.any (fun o => !o.failed) then s.archFailed set else s
  let now := s.now
  let last := (s.ldg.sets.getD set RingSet.init).backoff
  let wait := if last = 0 then 10 else min 1000 (2 * last)
  let s := { s with ldg := { s.ldg with sets := s.ldg.sets.modify set RingSet.init fun r =>
    { r with archUp := false, backoff := wait, retryAt := now + wait * msStamp } } }
  s.archQuiet set

/-- The archive connection of a ring set is up: event 0x900A where it was re-established, and every failed Write is issued once more
(R245, R570). -/
def State.archResume (s : State) (set i : Nat) : State :=
  let s := if (s.ldg.sets.getD set RingSet.init).backoff = 0 then s else s.event 0x900A 1 []
  let s := { s with ldg := { s.ldg with sets := s.ldg.sets.modify set RingSet.init fun r => { r with archUp := true, backoff := 0 } } }
  match s.conn i with
  | none => s
  | some c =>
    let r := s.ldg.sets.getD set RingSet.init
    let s := s.modConn i fun c => { c with archOps := c.archOps.map fun (o : ArchOp) => { o with failed := false } }
    c.archOps.foldl (fun (s : State) o => s.sendBytes i (c.archCapsule r o)) s

/-- A connection that fails (R564, R580): FAILED with a reason, every outstanding entry STORAGE_ERROR, event 0x9009; an archive
connection waits to reconnect (R570); a disconnect in progress ends. -/
def State.failConn (s : State) (t : Stamp) (i reason : Nat) : State :=
  match s.conn i with
  | none => s
  | some c =>
    let s := (s.count C.stoConnFail 1 t).event 0x9009 2 [.q (s.handleOf i), .q reason]
    let s := s.stoAll t i stStorageError
    let s := s.doneIf c.connectTok stStorageError (s.connectWb i c reason)
    let s := s.modConn i fun c => { c with
      state := .failed, reason, connectTok := none, unacked := [], sndBuf := []
      archOps := (c.archOps.filter fun (o : ArchOp) => !o.index).map fun (o : ArchOp) => { o with failed := true } }
    let s := match c.archive with
      | some k => s.archDown k c
      | none => s
    if c.discTok.isSome then s.closeConn i reason else s

/-! ### PDUs received -/

/-- The addresses of a data buffer from an offset on: contiguous, or by its list (R566). Answers pieces of address and
bytes. -/
def placeData (a : StoArgs) (off : Nat) (data : Bytes) : List (Nat × Bytes) :=
  if a.sglCount = 0 then [(a.addr + off, data)]
  else (a.sgl.foldl (fun (acc : Nat × List (Nat × Bytes)) e =>
    let lo := max off acc.1
    let hi := min (off + data.length) (acc.1 + e.len)
    (acc.1 + e.len, if lo < hi then acc.2 ++ [(e.addr + (lo - acc.1), bytesAt data (lo - off) (hi - lo))] else acc.2)) (0, [])).2

/-- The status field and its write-back (R566, R567). -/
def cqeWb (dw0 status : Nat) : List (Nat × Bytes) := [(56, le 4 dw0), (60, le 2 status)]

/-- A command that its controller answered leaves its connection, its entry completed (R565, R567). -/
def State.answer (s : State) (t : Stamp) (i : Nat) (x : StoSt) (dw0 status : Nat) : State :=
  let s := if x.err = 0 then s.stoDone t i x (if status = 0 then stSuccess else stStorageError) (cqeWb dw0 status) else s
  (s.modConn i fun c => { c with outstanding := c.outstanding.filter (·.cid ≠ x.cid) }).drained i

/-- Everything buffered sent at once, whatever the windows: fuel. -/
def State.pushAll : Nat → Nat → State → State
  | 0, _, s => s
  | n + 1, i, s =>
    match s.conn i with
    | none => s
    | some c =>
      let k := min c.info.mss c.sndBuf.length
      if k = 0 then s
      else
        let s := s.modConn i fun c => { c with sndBuf := c.sndBuf.drop k }
        State.pushAll n i (s.sendSeg i false false (c.sndBuf.take k))

/-- A malformed PDU or a header digest error (R564): H2CTermReq behind what waits, sent even through a closed window
(assumption 134), then FAILED. -/
def State.terminate (s : State) (t : Stamp) (i reason : Nat) : State :=
  let (fes, s) := s.draw 65536
  let s := s.modConn i fun c => { c with sndBuf := c.sndBuf ++ termReq fes }
  (State.pushAll (match s.conn i with | some c => c.sndBuf.length | none => 0) i s).failConn t i reason

/-- H2CData for an R2T, in PDUs of at most MAXH2CDATA: fuel. The data are the host buffer's, or an archive Write's (R240). -/
def State.sendPart : Nat → Nat → Nat → Nat → Nat → Bytes → State → State
  | 0, _, _, _, _, _, s => s
  | n + 1, i, cid, ttag, off, data, s =>
    match s.conn i with
    | none => s
    | some c =>
      let k := min data.length c.maxH2c
      let s := s.sendBytes i (c.h2cData cid ttag off (decide (k = data.length)) (data.take k))
      if k = data.length ∨ k = 0 then s else State.sendPart n i cid ttag (off + k) (data.drop k) s

/-- One PDU received (R564 to R567, R580). -/
def State.takePdu (s : State) (t : Stamp) (i : Nat) (p : Pdu) : State :=
  match s.conn i with
  | none => s
  | some c =>
    if c.state = .failed then s
    else match p with
      | .icResp ok maxH2c =>
        if c.step ≠ 1 then s.terminate t i 7
        else if !ok ∨ maxH2c < 4096 then s.failConn t i 3
        else
          let s := s.modConn i fun c => { c with step := 2, maxH2c }
          s.sendBytes i (c.connectCapsule (fitBytes 1024 c.info.connectData))
      | .icRespMalformed => s.terminate t i (if c.step = 1 then 3 else 7)
      | .connectResp status cntlid =>
        if c.step ≠ 2 then s.terminate t i 7
        else if status ≠ 0 then s.failConn t i 4
        else
          let s := s.modConn i fun c => { c with step := 3, cntlid, state := .established, connectTok := none }
          let s := s.doneIf c.connectTok stSuccess (s.connectWb i { c with cntlid } 0)
          match c.archive with
          | some k => s.archResume k i
          | none => s
      | .capsuleResp cid dw0 status =>
        match c.outstanding.find? (·.cid = cid) with
        | some x => s.answer t i x dw0 (status / 2 * 2)
        | none =>
          match c.archOps.find? (·.cid = cid) with
          | some o =>
            if !o.index then s
            else
              let s := s.modConn i fun c => { c with archOps := c.archOps.filter fun (o : ArchOp) => decide (o.cid ≠ cid) }
              let s := if status / 2 = 0 then s else s.archFailed (c.archive.getD 0)
              s.archQuiet (c.archive.getD 0)
          | none => s.terminate t i 7
      | .c2hData cid off data digestOk last success =>
        match c.outstanding.find? (·.cid = cid) with
        | none => s.terminate t i 7
        | some x =>
          if x.args.dir ≠ 2 ∨ x.args.dataLen < off + data.length then s.terminate t i 7
          else if !digestOk then
            let s := (s.count C.stoDdgstErr 1 t)
            if x.err ≠ 0 then (if last && success then s.answer t i x 0 0 else s)
            else
              let s := s.stoDone t i x stStorageError (cqeWb 0 0x0022)
              let s := s.modConn i fun c => { c with outstanding := c.outstanding.map fun (y : StoSt) =>
                if y.cid = cid then { y with err := 0x0022 } else y }
              if last && success then s.answer t i { x with err := 0x0022 } 0 0 else s.drained i
          else
            let s := if x.err = 0 ∧ (s.fn c.fn).gen = x.gen then
                (placeData x.args off data).foldl (fun (s : State) e => s.dma c.fn .storage e.1 e.2) s
              else s
            if last && success then s.answer t i x 0 0 else s
      | .r2t cid ttag off len =>
        match c.outstanding.find? (·.cid = cid) with
        | none =>
          match c.archOps.find? (·.cid = cid) with
          | some o =>
            if o.data.length < off + len then s.terminate t i 7
            else State.sendPart (len + 1) i cid ttag off (bytesAt o.data off len) s
          | none => s.terminate t i 7
        | some x =>
          if x.args.dir ≠ 1 ∨ x.args.dataLen < off + len then s.terminate t i 7
          else State.sendPart (len + 1) i cid ttag off (bytesAt (fitBytes x.args.dataLen x.args.data) off len) s
      | .c2hTermReq => s.failConn t i 6
      | .headerDigestError => (s.count C.stoHdgstErr 1 t).terminate t i 5
      | .malformed => s.terminate t i 7

/-- Bytes of storage read data that a segment completes. -/
def segReadBytes (seg : TcpSeg) : Nat :=
  seg.pdus.foldl (fun n p => match p with | .c2hData _ _ data .. => n + data.length | _ => n) 0

/-- STORAGE_SEGMENT_RECEIVED (R66, R561 to R565, R570, R572, R580): the segment at the head of a connection's queue. -/
def execStorageSegmentReceived (conn : Nat) (seg : TcpSeg) (s : State) : Res :=
  whenWorking s <|
    match s.conn conn with
    | none => .next s
    | some c =>
      if s.connEngine conn = 255 ∨ (segReadBytes seg ≠ 0 ∧ !s.storageMay) then .next s
      else
      let t := match (s.queue (qConn conn)).head? with | some h => s.stampOf h | none => s.now
      let s := match s.queue (qConn conn) with
        | h :: _ => (s.unqueue h).settleFrame h.frame
        | [] => s
      if c.state = .failed then .next s
      else if seg.rst then .next (s.failConn t conn 2)
      else
        let now := s.now
        let s := match seg.ack with
          | some a =>
            let bare := decide (seg.len = 0) && !seg.syn && !seg.fin
            let s := s.congestion t conn a.toNat seg.window bare
            (s.modConn conn fun c => c.acked a.toNat seg.window now).partialAck t conn a.toNat c.sndUna
          | none => s
        let s := s.modConn conn fun c => { c with rcvNxt := seg.upTo.toNat }
        let s := match s.conn conn with
          | some c =>
            if c.state = .connecting ∧ c.step = 0 ∧ seg.syn ∧ c.sndUna = c.sndNxt then
              (s.modConn conn fun c => { c with step := 1, scale := if seg.scaled then c.scale else 0 }).sendBytes conn c.icReq
            else s
          | none => s
        let s := if seg.syn ∨ seg.fin ∨ seg.len ≠ 0 then s.sendAck conn else s
        let s := seg.pdus.foldl (fun (s : State) p => s.takePdu t conn p) s
        let s := s.sendBytes conn []
        .next (if segReadBytes seg = 0 then s else s.linkServed false (segReadBytes seg))

/-- TCP_RTO_EXPIRY (R563, R564): the oldest segment sent again and the timeout doubled, or FAILED after eight in a row. -/
def execTcpRtoExpiry (conn : Nat) (s : State) : Res :=
  whenWorking s <|
    match s.conn conn with
    | none => .next s
    | some c =>
      match c.unacked with
      | [] => .next s
      | _ :: _ =>
        if s.now < c.rtoAt ∨ s.connEngine conn = 255 then .next s
        else if 8 ≤ c.retx + 1 then .next (s.failConn s.now conn 1)
        else
          let s := s.resend s.now conn
          let now := s.now
          .next (s.modConn conn fun c => { c with
            retx := c.retx + 1, rto := min secStamp (2 * c.rto), rtoAt := now + min secStamp (2 * c.rto), reno := c.renoTimeout })

/-! ### Commands -/

/-- Whether the fields of a connection record are in range (R580). -/
def State.connRecOk (s : State) (r : ConnRec) : Bool :=
  r.rsvOk && decide (r.queueKind ≤ 1 ∧ r.flags < 16 ∧ r.cls < 16 ∧ 536 ≤ r.mss ∧ r.mss ≤ 9176 ∧ r.vlan < 4096 ∧ 1 ≤ r.sqsize ∧
    r.sqsize ≤ 1024 ∧ 64 ≤ r.rcvBufKib ∧ r.rcvBufKib ≤ 16384) && s.configured r.port

/-- STORAGE_CONNECT (R544, R546, R561, R562, R580): the queue is released, and the command completes with the Connect
response. -/
def execStorageConnect (r : AdminRef) (bufLen : Nat) (rec : ConnRec) (s : State) : Res :=
  let archive := decide (rec.wq = 0xFFFFFFFF)
  runAdmin (archive && decide (1152 ≤ bufLen)) false r s fun s =>
    let wq := s.qm.wqs.get? rec.wq
    if bufLen < 1152 then failWith s stInvalidField
    else if !s.connRecOk rec || (match wq with | some q => decide (q.fn = r.fn ∧ q.kind ≠ 2) && !archive | none => false) then
      failWith s stInvalidField
    else if !archive && (match wq with | some q => decide (q.fn ≠ r.fn) | none => false) then failWith s stNotPermitted
    else if !archive && wq.isNone then failWith s stNotFound
    else if (flowOps.find s.flow.flow (15, flowKeyNum (connKey rec))).isSome then failWith s stExists
    else if !s.ctxRoom r.fn || decide (65536 ≤ s.eng.conns.size) ||
        decide (s.fld F.tmStoRsv_cells * 256 < (s.eng.rsvUsed + rec.rcvBufKib) * 1024) then failWith s stNoResource
    else
      let (i, s) := s.newIndex
      let (st, _, s') := s.insertFlow false
        { profile := 15, key := connKey rec, action := 0, hit := false, rseq := 0, conn := some i }
      if st ≠ stSuccess then failWith s stNoResource
      else
        let (iss, s) := s'.draw (2 ^ 32)
        let (scale, s) := s.draw 15
        let c : Conn := {
          fn := r.fn, gen := (s.fn r.fn).gen, info := rec, state := .connecting, reason := 0, step := 0, since := s.now, sndNxt := iss, sndUna := iss, sndWnd := 0, rcvNxt := 0, unacked := [], sndBuf := [], rtoAt := 0,
          rto := secStamp, retx := 0, rtt := none, cntlid := 0, maxH2c := 4096, outstanding := [],
          connectTok := some (s.tok r), discTok := none, discAt := 0, aborted := 0, archive := none, archOps := [], scale, adv := 0,
          reno := NewReno.start rec.mss }
        let s := { s with eng := { s.eng with
          conns := s.eng.conns.set i c, rsvUsed := s.eng.rsvUsed + rec.rcvBufKib } }
        ((s.adminRelease r).sendSeg i true false [], none)

/-- CONNECT_TIMEOUT (R580): 3 s without a Connect response. The reason is TCP_TIMEOUT before the SYN-ACK, ICRESP_BAD before
the ICResp, and open after that. -/
def execConnectTimeout (conn : Nat) (s : State) : Res :=
  whenWorking s <|
    match s.conn conn with
    | none => .next s
    | some c =>
      if c.state ≠ .connecting ∨ s.now < c.since + 3 * secStamp then .next s
      else if c.step = 0 then .next (s.failConn s.now conn 1)
      else if c.step = 1 then .next (s.failConn s.now conn 3)
      else
        let (x, s) := s.draw 10
        .next (s.failConn s.now conn x)

/-- A disconnect command's checks (R581): then its body on the connection. -/
def runDisconnect (r : AdminRef) (handle : Nat) (s : State) (body : Nat → Conn → State → AdminRes) : Res :=
  runAdmin false false r s fun s =>
    match s.ownerOf handle, s.conn (handleIndex handle) with
    | some f, some c =>
      if f ≠ r.fn then failWith s stNotPermitted
      else if c.archive.isSome then failWith s stBusy
      else body (handleIndex handle) c s
    | _, _ => failWith s stNotFound

/-- STORAGE_DISCONNECT without ABORT (R581): no new entry, up to 10 s for outstanding commands, then FIN. -/
def execStorageDisconnect (r : AdminRef) (handle : Nat) (s : State) : Res :=
  runDisconnect r handle s fun i c s =>
    if c.discTok.isSome then failWith s stBusy
    else
      let gone := decide (c.state = .failed ∧ (c.reason = 1 ∨ c.reason = 2))
      let now := s.now
      let t := s.tok r
      let s := (s.adminRelease r).modConn i fun c => { c with state := .draining, discTok := some t, discAt := now }
      (if gone then s.closeConn i 9 else s.drained i, none)

/-- Every outstanding entry ABORTED, a TCP reset, and the connection closed (R581, R582). -/
def State.abortConn (s : State) (i reason : Nat) : State :=
  match s.conn i with
  | none => s
  | some c =>
    let s := s.modConn i fun x => { x with aborted := c.open_ }
    ((s.stoAll s.now i stAborted).sendRst i).closeConn i reason

/-- STORAGE_DISCONNECT with ABORT (R581). -/
def execStorageDisconnectAbort (r : AdminRef) (handle : Nat) (s : State) : Res :=
  runDisconnect r handle s fun i c s =>
    ((s.adminRelease r).abortConn i 9, some (stSuccess, [(24, le 4 c.open_)]))

/-- DISCONNECT_TIMEOUT (R582). -/
def execDisconnectTimeout (conn : Nat) (s : State) : Res :=
  whenWorking s <|
    match s.conn conn with
    | none => .next s
    | some c =>
      if c.state ≠ .draining ∨ s.now < c.discAt + 10 * secStamp then .next s else .next (s.abortConn conn 9)

/-- The connections of a function at its reset (R575): results of their items discarded, a TCP reset, closed. -/
def State.resetConns (s : State) (fn : Nat) : State :=
  (s.eng.conns.entries.filter fun e => decide (e.2.fn = fn)).foldl (fun (s : State) e =>
    ((s.stoAll s.now e.1 stAborted).sendRst e.1).closeConn e.1 8) s

/-- Whether the fields of a STO_CMD entry keep the limits (R566, R567). -/
def stoOk (a : StoArgs) : Bool :=
  decide (a.dir ≤ 2 ∧ a.sglCount ≤ 255 ∧ a.dataLen ≤ 0x100000 ∧ a.nvmeOpc < 256) && decide (a.dir = 0 ↔ a.dataLen = 0) &&
    (decide (a.sglCount = 0) || (decide (a.sgl.foldl (fun n e => n + e.len) 0 = a.dataLen) && a.sgl.all (·.rsvOk)))

/-- The connection that a STO_CMD entry of a WQ names, when it is bound to the WQ (R567). -/
def State.boundConn (s : State) (w : WorkRef) (a : StoArgs) : Option Conn :=
  if s.handleOf (handleIndex a.conn) = a.conn then
    (s.conn (handleIndex a.conn)).bind fun c => if c.info.wq = w.wq then some c else none
  else none

/-- Whether an entry waits in its WQ: its connection issues no command now, or no engine holds its role (R546, R568, R581). -/
def State.stoWaits (s : State) (w : WorkRef) (a : StoArgs) : Bool :=
  match s.boundConn w a with
  | some c => decide (c.state = .connecting ∨ c.state = .draining ∨
      (c.state = .established ∧ (c.info.sqsize ≤ c.outstanding.length ∨ s.connEngine (handleIndex a.conn) = 255)))
  | none => false

/-- STO_CMD (R563, R566 to R568). In-capsule data, at most 8 KiB, are used where IOCCSZ allows, which is open. -/
def execStoCmd (w : WorkRef) (a : StoArgs) (s : State) : Res :=
  if w.rsvOk && stoOk a && s.stoWaits w a then whenWorking s (.next s)
  else runWork (some 2) w s fun q s =>
    let bad := s.workDone w.wq w.idx stBadEntry []
    if !stoOk a then bad
    else match s.boundConn w a with
      | none => bad
      | some c =>
        let i := handleIndex a.conn
        if c.state = .failed then s.workDone w.wq w.idx stStorageError []
        else
          let (cid, s) := s.pickFree 65536 c.cids
          let (x, s) := s.draw 2
          let inCapsule := decide (x = 1 ∧ a.dir = 1 ∧ a.dataLen ≤ 8192)
          let data := if inCapsule then fitBytes a.dataLen a.data else []
          let x : StoSt := { cid := cid, work := { w with reads := [], reading := false }, gen := (s.fn q.fn).gen, args := a, err := 0 }
          let s := s.modConn i fun c => { c with outstanding := c.outstanding ++ [x] }
          s.sendBytes i (c.capsule cid a data)

end Sys2Proof.Machine
end

