-- ==== Sys2Proof/Machine/Reams.lean ====
section
/-! DEFINITION. What a Ream boundary does (R149 to R163, R197 to R222, R249, R288), whether the clock or a step brings it,
and units that rejoin there. -/

namespace Sys2Proof.Machine

/-! ### Time quality (R88) -/

/-- The order of servo states in which a Ream records the lowest (R88). -/
def Quality.rank : Quality → Nat
  | .freeRun => 0
  | .acquiring => 1
  | .holdover => 2
  | .locked => 3

/-- The lower of two servo states. -/
def Quality.lower (a b : Quality) : Quality := if a.rank ≤ b.rank then a else b

/-! ### Roles and spares (R246, R249, R747) -/

/-- A role whose holder has left: the spare of the kind takes it where one stands by (R246, R747). -/
def State.giveToSpare (s : State) (k : UnitKind) (sl role : Nat) : State :=
  let n := kindSpare k
  let x := s.unit k sl n
  if x.state = .outOfService ∧ x.reason = 6 ∧ x.fault = false then
    (s.setUnit k sl n { x with role := some role }).moveUnit k sl n .inService 0
  else s

/-- The role that a unit below the first spare holds, or that a spare has taken. -/
def State.roleOf (s : State) (k : UnitKind) (sl n : Nat) : Option Nat :=
  if n < kindSpare k then some n else (s.unit k sl n).role

/-- The lowest role that no unit in service holds. -/
def State.vacantRole (s : State) (k : UnitKind) (sl : Nat) : Option Nat :=
  (List.range (kindSpare k)).find? fun r => !(s.up k sl r) && decide ((s.unit k sl (kindSpare k)).role ≠ some r)

/-- A unit goes IN_SERVICE at a fence, which its RETURN reports (R750, R751); a port begins to bring its link up. -/
def State.enterService (s : State) (u : UnitRef) (fence : Nat) : State :=
  let s := s.moveUnit u.1 u.2.1 u.2.2 .inService 0
  let s := s.setUnit u.1 u.2.1 u.2.2 { s.unit u.1 u.2.1 u.2.2 with fence }
  let s := if u.1 = .port then s.startLink u.2.2 else s
  s.serviceDone u stSuccess

/-- A unit with no free role becomes the spare of its kind (R249, R746). -/
def State.becomeSpare (s : State) (u : UnitRef) : State :=
  let s := s.setUnit u.1 u.2.1 u.2.2 { s.unit u.1 u.2.1 u.2.2 with role := none, fence := 0 }
  (s.moveUnit u.1 u.2.1 u.2.2 .outOfService 6).serviceDone u stSuccess

/-- A REJOINING SM3 engine, signer, builder side or Deckle side at a Ream boundary (R249, R288, R746, R747): it takes its role
back from the spare, takes a vacant one, or becomes the spare. -/
def State.rejoinUnit (s : State) (u : UnitRef) : State :=
  let (k, sl, n) := u
  match k with
  | .deckleSide => (s.enterService u s.ream).deckleSides
  | .builderSide =>
    let s := s.enterService u s.ream
    let active := if s.ldg.builderB then 1 else 0
    if s.up .builderSide 0 active then s else { s with ldg := { s.ldg with builderB := decide (n = 1) } }
  | _ =>
    let spare := kindSpare k
    if n < spare then
      let s := if (s.unit k sl spare).role = some n then s.becomeSpare (k, sl, spare) else s
      s.enterService u s.ream
    else
      match s.vacantRole k sl with
      | some r => (s.setUnit k sl n { s.unit k sl n with role := some r }).enterService u s.ream
      | none => s.becomeSpare u

/-- The units that rejoin at a Ream boundary and nowhere else (R249, R288). -/
def boundaryUnits : List UnitRef :=
  ((List.range 8).flatMap fun sl => (List.range 11).map fun n => (UnitKind.sm3Engine, sl, n)) ++
    (List.range 3).map (fun n => (UnitKind.signer, 0, n)) ++ (List.range 2).map (fun n => (UnitKind.builderSide, 0, n)) ++
    (List.range 2).map fun n => (UnitKind.deckleSide, 0, n)

/-- Every one of them that is REJOINING rejoins. -/
def State.rejoinAll (s : State) : State :=
  boundaryUnits.foldl (fun s u => if (s.unit u.1 u.2.1 u.2.2).state = .rejoining then s.rejoinUnit u else s) s

/-! ### Calibration (R149 to R154) -/

/-- Whether `STP_CAL_SET.STALE` holds (R154). -/
def State.staleNow (s : State) : Bool :=
  (List.range 4).any fun d =>
    !(s.die d).everApplied || (match (s.die d).doneAt with
      | some t => decide (t + s.fld F.stpCtrl_staleMs * msStamp < s.now)
      | none => true)

/-- STALE as it now is, with its event and its mark on the Ream in progress (R154, R227). -/
def State.checkStale (s : State) : State :=
  let stale := s.staleNow
  let s := if stale ∧ s.stp.stale = false then s.event 0x2011 2 [] else s
  { s with
    stp := { s.stp with stale }
    ldg := { s.ldg with cur := s.ldg.cur.map fun (c : ReamSt) => { c with stale := c.stale || stale } } }

/-- An applied value moved towards a result by at most a step (R151). -/
def toward (step : Nat) (cur goal : Int) : Int := cur + clamp (-(step : Int)) step (goal - cur)

/-- Two lists of applied values moved. -/
def towardAll (step : Nat) (cur goal : List Int) : List Int := cur.zipIdx.map fun e => toward step e.1 (goal.getD e.2 e.1)

/-- A die's applied values at a Ream boundary (R149, R151); `unit` is `STP_CTRL.MAX_STEP` in units of 2^-8 ns. -/
def DieCal.apply (d : DieCal) (unit : Nat) (start : Stamp) : DieCal :=
  let target := ((d.results.find? fun r => decide (r.1 < start)).map (·.2)).orElse fun _ => d.target
  let d := { d with results := d.results.filter fun r => decide (start ≤ r.1) }
  match target with
  | none => d
  | some g =>
    { d with
      target := some g, everApplied := true
      applied := { ofs := toward (256 * unit) d.applied.ofs g.ofs, rx := towardAll (4 * unit) d.applied.rx g.rx,
                   tx := towardAll (4 * unit) d.applied.tx g.tx } }

/-- CAL_APPLY (R145, R149 to R153) at the boundary that begins a Ream: a new offset correction moves the time copy by its change. -/
def State.calBoundary (s : State) (ream : Nat) (start : Stamp) : State :=
  let step := s.fld F.stpCtrl_maxStep
  let moved := (List.range 4).any fun d => decide (((s.die d).apply step start).applied ≠ (s.die d).applied)
  let dies := (List.range 4).foldl (fun (t : Table DieCal) d =>
    let x := (s.die d).apply step start
    let by_ := (x.applied.ofs - (s.die d).applied.ofs) * 65536
    t.set d { x with copy := ((x.copy : Int) + by_).toNat }) s.stp.dies
  let cals := (List.range 4).foldl (fun (t : Table (List (Nat × CalVals))) d =>
    let v := ((s.die d).apply step start).applied
    if v = (s.die d).applied then t else t.set d ((ream, v) :: t.getD d [])) s.stp.cals
  ({ s with stp := { s.stp with dies, cals, calSeq := if moved then (s.stp.calSeq + 1) % 2 ^ 31 else s.stp.calSeq } }).checkStale

/-! ### Cable delays (R156 to R163) -/

/-- A port's measured and configured cable delays at the boundary that begins a Ream (R159 to R163). -/
def State.cableBoundary (s : State) (p ream : Nat) : State :=
  let c := s.stp.cables.getD p CableSt.init
  let moved := match c.pending with
    | some v => decide (64 < (max v c.mean) - (min v c.mean))
    | none => false
  let mean := if moved then c.pending.getD c.mean else c.mean
  let c : CableSt := { c with mean, pending := none, inUse := decide (s.fld (F.stpPortCfg_cableSrc p) = 1) && c.valid }
  let s := { s with stp := { s.stp with cables := s.stp.cables.set p c } }
  let s := if moved then s.event 0x2012 1 [.q p, .r (0x320_0010 + p * 0x40)] else s
  let d := s.cableNow p
  if s.cableAt p ream = d then s
  else { s with stp := { s.stp with delays := s.stp.delays.set p ((ream, d.1, d.2) :: s.stp.delays.getD p []) } }

/-! ### S/Ream-class values (R34, R221, R222, R532) -/

/-- The port whose gate control list a register holds a part of (R539). -/
def gatePort (a : Nat) : Option Nat :=
  let b := Reg.tmGateCtrl 0 - 0x400
  if b ≤ a ∧ a < b + 96 * 0x4000 ∧ 0 < clsMask .ream a then some ((a - b) / 0x4000) else none

/-- The S/Ream-class values whose commit time has come put in effect; a new Ream length only where the boundary is that of a
TAI second, and a gate control list becomes pending (R34). -/
def State.applyReam (s : State) (start : Stamp) : State :=
  if s.coh.reamPending = false ∨ start < s.coh.reamTc then s
  else
    let words := s.regs.reamWait.filter fun a _ => (gatePort a).isNone
    let lists := s.regs.reamWait.filter fun a _ => (gatePort a).isSome
    let old := s.fld F.ldgCtrl_reamLen
    let s := s.applyWords .ream words
    let new := s.coh.lenWait.getD (s.fld F.ldgCtrl_reamLen)
    let keep := decide (new ≠ old ∧ start % secStamp ≠ 0)
    let s := s.setFld F.ldgCtrl_reamLen (if keep then old else new)
    let s := { s with
      regs := { s.regs with reamWait := .empty }
      coh := { s.coh with reamPending := keep, lenWait := if keep then some new else none } }
    let gates := (lists.keys.filterMap gatePort).eraseDups
    gates.foldl (fun (s : State) p => s.pendGates p start (lists.filter fun a _ => decide (gatePort a = some p))) s

/-- KEY_SELECTION_APPLY (R221, R222): at each boundary `LDG_CTRL.KEY_SEL` as committed selects its slot, unless it is empty.
Answers whether a key was selected; the selection persists (R700). -/
def State.applyKey (s : State) : Bool × State :=
  let want := s.fld F.ldgCtrl_keySel
  if want = s.ldg.keySel then (false, s)
  else if s.ldg.keys.has want then
    let s := { s with ldg := { s.ldg with keySel := want } }
    (true, (s.jrnStart (.keySelect want) .keySelect).event 0x3008 1 [])
  else (false, s.event 0x3009 3 [])

/-! ### Reams begin and end (R93, R197 to R214) -/

/-- The reservation in force (R210), none where no checkpoint is programmed. -/
def State.reservation (s : State) : Option Nat := s.ldg.newestCkpt.map (·.reserved)

/-- Whether a Ream number lies at or beyond the reservation in force (R210). -/
def State.reservedOut (s : State) (n : Nat) : Bool :=
  match s.reservation with
  | some r => decide (r ≤ n)
  | none => false

/-- RESERVATION_EXHAUSTED (R210). -/
def State.exhausted (s : State) : State := (s.event 0x3010 3 [.w (s.reservation.getD 0)]).fatal 0x3010

/-- The Ream in progress ends (R197, R200); `step` marks one that a step ends (R93). -/
def State.endReam (s : State) (stop : Stamp) (step : Bool) : State :=
  match s.ldg.cur with
  | none => s
  | some c =>
    let c : ReamSt := { c with
      stop := some stop, sealAt := stop + 20 * usStamp, step, epochLast := s.epochAt stop, stale := c.stale || s.stp.stale
      ports := (c.ports ++ s.portList).eraseDups }
    { s with ldg := { s.ldg with
      cur := none, ended := c :: s.ldg.ended, past := ⟨c.num, c.start, stop, s.tb.stepCount⟩ :: s.ldg.past } }

/-- The Ream with number `n` as it begins. -/
def State.newReam (s : State) (n : Nat) (start : Stamp) (keyNew boot genesis : Bool) : ReamSt :=
  { num := n, start, stop := none, sealAt := 0, step := false, boot, genesis, refuse := s.refuseMode, keyNew,
    quality := s.tb.quality, calSeq := s.stp.calSeq, stale := s.stp.stale, epochFirst := s.epochAt start,
    epochLast := s.epochAt start, mask := s.fld F.ldgRecClass_record, sets := s.ringSets, keySlot := s.ldg.keySel, ports := s.portList,
    frames := [], posts := [], missing := 0 }

/-- A Ream begins at a boundary (R198): values due apply, the Ream takes its record mask, mode, key, quality and calibration
set, and units rejoin. -/
def State.beginReam (s : State) (n : Nat) (start : Stamp) : State :=
  if s.reservedOut n then s.exhausted
  else
    let s := s.leaveSets.applyReam start
    let (keyNew, s) := s.applyKey
    let s := s.calBoundary n start
    let s := s.portList.foldl (fun (s : State) p => s.cableBoundary p n) s
    let s := { s with ldg := { s.ldg with cur := some (s.newReam n start keyNew false false) } }
    let s := ((s.checkRefuse).mergeBoundary n start).releaseBoundary n start
    s.rejoinAll

/-! ### A step of the time base (R93 to R95) -/

/-- A reading of the time base moved by a step. -/
def moveBy (d : Int) (t : Stamp) : Stamp := ((t : Int) + d).toNat

/-- Instants from which or until which something of the time side runs, moved with a step so that waits keep their length. -/
def State.moveTimeSide (s : State) (d : Int) : State :=
  let m := moveBy d
  { s with
    regs := { s.regs with
      hist := s.regs.hist.map fun (g : RegGen) => { g with tc := min g.tc (m s.now) }
      lives := s.regs.lives.map fun (w : LiveWrite) => { w with at_ := min w.at_ (m s.now) } }
    coh := { s.coh with effTc := min s.coh.effTc (m s.now), reamTc := m s.coh.reamTc, persistTimes := s.coh.persistTimes.map m }
    tb := { s.tb with
      srcs := s.tb.srcs.map fun _ (e : SrcSt) => { e with since := m e.since }
      pps := s.tb.pps.map fun _ (e : PpsSt) => { e with lastEdge := e.lastEdge.map m }
      hostAt := s.tb.hostAt.map m, holdoverAt := m s.tb.holdoverAt, lockedAt := m s.tb.lockedAt
      evtLast := s.tb.evtLast.map fun _ t => m t
      ppsRise := s.tb.ppsRise.map fun _ t => m t
      todDue := s.tb.todDue.map fun e => (m e.1, e.2)
      plan := s.tb.plan.map fun (p : IncrPlan) => { p with at_ := m p.at_ } }
    stp := { s.stp with
      dies := s.stp.dies.map fun _ (e : DieCal) =>
        { e with doneAt := e.doneAt.map m, passAt := e.passAt.map m, results := e.results.map fun r => (m r.1, r.2) }
      cables := s.stp.cables.map fun _ (e : CableSt) => { e with lastAt := m e.lastAt } }
    ldg := { s.ldg with
      ended := s.ldg.ended.map fun (r : ReamSt) => { r with sealAt := m r.sealAt }
      buckets := s.ldg.buckets.map fun _ e => (e.1, m e.2)
      fronts := s.ldg.fronts.map fun _ t => m t
      idleNext := s.ldg.idleNext.map fun _ t => m t
      lastRotate := s.ldg.lastRotate.map m, ckptAt := s.ldg.ckptAt.map m
      sets := s.ldg.sets.map fun _ (e : RingSet) => { e with modFirst := e.modFirst.map m, retryAt := m e.retryAt, indexAt := m e.indexAt } }
    mrg := { s.mrg with waits := s.mrg.waits.map fun (w : GroupWait) => { w with at_ := m w.at_ } }
    rel := { s.rel with waits := s.rel.waits.map fun (w : GroupWait) => { w with at_ := m w.at_ } } }

/-- The same for ports, lanes, slices and the traffic manager. -/
def State.moveDataSide (s : State) (d : Int) : State :=
  let m := moveBy d
  let sh := fun (x : ShaperSt) => { x with at_ := m x.at_ }
  { s with
    ports := s.ports.map fun _ (p : PortSt) => { p with
      drainUntil := m p.drainUntil, lastEnd := m p.lastEnd, txUntil := m p.txUntil, anFailAt := p.anFailAt.map m
      pauses := p.pauses.map fun _ (x : PauseSt) => { x with since := m x.since, until_ := m x.until_ }
      holdoffs := p.holdoffs.map fun _ t => m t
      refresh := p.refresh.map fun _ t => m t
      saOps := p.saOps.map fun (o : SaOp) => { o with at_ := m o.at_ } }
    lanes := s.lanes.map fun _ (l : LaneSt) => { l with movedAt := l.movedAt.map m }
    slices := s.slices.map fun _ (x : SliceSt) => { x with
      polAt := (x.polAt.map fun _ t => m t), polFrom := m x.polFrom, badWords := x.badWords.map fun e => (e.1, m e.2) }
    flow := { s.flow with slices := s.flow.slices.map fun _ (x : SliceTables) => { x with passAt := m x.passAt } }
    tm := { s.tm with
      ports := s.tm.ports.map fun _ (x : TmPort) =>
        { x with
          shapers := x.shapers.map fun _ y => sh y, shaper := sh x.shaper, entryEnd := 0
          from_ := m x.from_, carried := x.carried.map fun _ t => m t }
      queues := s.tm.queues.map fun _ (l : List Copy) => l.map fun (c : Copy) => { c with gateFailAt := c.gateFailAt.map m }
      vfRx := s.tm.vfRx.map fun _ x => sh x
      vfTx := s.tm.vfTx.map fun _ x => sh x } }

/-- The same for engines, the host side, management, clocks and power. -/
def State.moveHostSide (s : State) (d : Int) : State :=
  let m := moveBy d
  { s with
    eng := { s.eng with conns := s.eng.conns.map fun _ (c : Conn) => { c with
      since := m c.since, rtoAt := m c.rtoAt, discAt := m c.discAt
      unacked := c.unacked.map fun (x : SegSt) => { x with sent := x.sent.map m } } }
    hif := { s.hif with
      idleSince := m s.hif.idleSince, ledgerAt := m s.hif.ledgerAt, releasedAt := m s.hif.releasedAt
      reads := s.hif.reads.map fun _ (r : ReadSt) => { r with issued := m r.issued, due := m r.due }
      quarantined := s.hif.quarantined.map fun _ (r : ReadSt) => { r with issued := m r.issued, due := m r.due }
      widthAt := m s.hif.widthAt }
    qm := { s.qm with
      nrs := s.qm.nrs.map fun _ (n : NrSt) => { n with firstAt := n.firstAt.map m }
      vfResets := s.qm.vfResets.map fun _ (v : VfResetSt) => { v with since := m v.since } }
    mgt := { s.mgt with
      bootAt := m s.mgt.bootAt, unacked := s.mgt.unacked.map fun e => (e.1, m e.2)
      mbx := s.mgt.mbx.map fun _ (x : MbxSt) => { x with clearedAt := x.clearedAt.map m } }
    svc := s.svc.map fun _ (u : UnitSt) => { u with since := m u.since }
    nvm := { s.nvm with refreshedAt := m s.nvm.refreshedAt }
    pwr := { s.pwr with avsAt := m s.pwr.avsAt, hotAt := m s.pwr.hotAt }
    evr := { s.evr with refillAt := s.evr.refillAt.map fun _ (t : Stamp) => m t }
    tel := { s.tel with lastAt := m s.tel.lastAt }
    clk := { s.clk with islands := s.clk.islands.map fun _ (i : IslandSt) => { i with since := m i.since } }
    rst := { s.rst with warmAt := s.rst.warmAt.map m } }

/-- Every time copy moved by units of 2^-32 ns (R143, R144). -/
def State.moveCopies (s : State) (d : Int) : State :=
  (List.range 4).foldl (fun (s : State) k => s.modDie k fun x => { x with copy := ((x.copy : Int) + d).toNat }) s

/-- A step: the time base and the time copies set to a value in units of 2^-32 ns (R71, R93 to R95, R144, R152). A phase
correction in progress ends with it (assumption 104). -/
def State.stepTime (s : State) (time : Nat) : State :=
  let pre := s.now
  let n := s.ream + 1
  let running := s.ldg.cur.isSome
  let s := s.endReam pre true
  let s := if running then s.stepDeckle n else s
  let d := ((time / 65536 : Nat) : Int) - pre
  let s := ((s.moveTimeSide d).moveDataSide d).moveHostSide d
  let peak := (List.range 4).foldl (fun p k => max p (s.copyNow k)) s.stp.peak
  let s := ({ s with stp := { s.stp with peak } }).moveCopies ((time : Int) - s.tb.time)
  let s := { s with tb := { s.tb with time, stepWait := none, stepCount := s.tb.stepCount + 1 } }
  let s := s.setIncr s.tb.freq 0 0
  let s := s.event 0x2002 2 []
  if running then s.beginReam n s.now else s

end Sys2Proof.Machine
end

