-- ==== Sys2Proof/Machine/Flash.lean ====
section
/-! DEFINITION. A flash device's program and erase operations as they end (R695, R696). -/

namespace Sys2Proof.Machine

/-- Consecutive failures of a flash device. -/
def State.flashFailures (s : State) (d : Nat) : Nat := s.nvm.flashFails.getD d 0

/-- That count set. -/
def State.setFlashFailures (s : State) (d n : Nat) : State :=
  { s with nvm := { s.nvm with flashFails := (List.range 2).map fun k => if k = d then n else s.flashFailures k } }

/-- A flash device that leaves service by a fault (R696). -/
def State.flashLeaves (s : State) (d : Nat) (second : Bool) : State :=
  let u : UnitRef := (.flash, 0, d)
  (s.eventWith 0xB006 (errInfo 2 0xFF (some u)) []).unitFault u second

/-- An operation that a flash device failed (R696): the third in a row takes it out of service. -/
def State.flashFailed (s : State) (d : Nat) : State :=
  let n := s.flashFailures d + 1
  let s := (s.count1 C.nvmProgErr).setFlashFailures d n
  if n ≠ 3 then s
  else
    let u : UnitRef := (.flash, 0, d)
    let (cls, s) := s.detect 2 0xB (some u) .none false false
    if cls = 3 then s else s.flashLeaves d false

/-- One operation on a device that ended well or not. -/
def State.flashDid (s : State) (d : Nat) (ok : Bool) : State := if ok then s.setFlashFailures d 0 else s.flashFailed d

/-- Of the verdicts that an operation on both devices ended with, that of one. -/
def okOf (ok0 ok1 : Bool) (d : Nat) : Bool := if d = 0 then ok0 else ok1

/-- An operation on every device in service ended (R695): the devices that hold it, and the state. -/
def State.flashBoth (s : State) (ok0 ok1 : Bool) : List Nat × State :=
  let up := s.flashUp
  (up.filter (okOf ok0 ok1), up.foldl (fun (s : State) d => s.flashDid d (okOf ok0 ok1 d)) s)

end Sys2Proof.Machine
end

