-- ==== Sys2Proof/Machine/Seal.lean ====
section
/-! DEFINITION. The Watermark ledger from a Ream's end to its checkpoint: boundary, seal, roots, header, signature, reservation
(R180 to R214, R218 to R229, R235, R246 to R250). -/

namespace Sys2Proof.Machine

/-! ### The boundary -/

/-- REAM_BOUNDARY (R197, R198, R209): the Ream in progress ends at the boundary and the next begins there. -/
def execReamBoundary (s : State) : Res :=
  whenWorking s <|
    match s.ldg.cur with
    | none => .next s
    | some c =>
      let e := nextBoundary s.reamSpan c.start
      if s.now < e then .next s
      else
        let s := (s.endReam e false).beginReam (c.num + 1) e
        if s.ldg.ckptRetry ∧ s.ldg.ckptWaiting.isNone then
          .next { s with ldg := { s.ldg with ckptWaiting := s.ldg.lastReam } }
        else .next s

/-! ### Trees and roots (R185, R189 to R191) -/

/-- The frame leaves of a tree, in order. -/
def ReamSt.frameLeaves (r : ReamSt) (p : Nat) (recorded : Bool) : List Leaf :=
  r.frames.filter fun l => decide (l.port = p ∧ l.recorded = recorded)

/-- The leaves of a tree, post-disposition leaves behind the frames' (R189). -/
def ReamSt.leaves (r : ReamSt) (p : Nat) (recorded : Bool) : List Leaf :=
  r.frameLeaves p recorded ++ r.posts.filter fun l => decide (l.port = p ∧ l.recorded = recorded)

/-- The root of a tree. -/
def ReamSt.root (r : ReamSt) (p : Nat) (recorded : Bool) : Bytes := treeRoot ((r.leaves p recorded).map Leaf.hash)

/-- The root of a ledger port. -/
def ReamSt.portRoot (r : ReamSt) (p : Nat) : Bytes :=
  sm3 (0x03 :: (r.root p true ++ r.root p false ++ be 4 (r.leaves p true).length ++ be 4 (r.leaves p false).length))

/-- The ledger ports of a Ream, ascending (R180). -/
def ReamSt.ledgerPorts (r : ReamSt) : List Nat :=
  (List.range 97).filter fun p => decide (p = injectionPort ∨ p ∈ r.ports)

/-- The Ream root. -/
def ReamSt.reamRoot (r : ReamSt) (prev : Bytes) : Bytes :=
  sm3 (0x02 :: (be 8 r.num ++ prev ++ be 1 r.ledgerPorts.length ++ r.ledgerPorts.flatMap r.portRoot))

/-! ### Header and root sheet (R227 to R229) -/

/-- The port map. -/
def portMap (ports : List Nat) : Nat := ports.foldl (fun m p => m + 2 ^ (103 - p)) 0

/-- Bytes padded with zeros to a length. -/
def padTo (n : Nat) (b : Bytes) : Bytes := b ++ zeros (n - b.length)

/-- A Ream's header up to its signature (R227, R228). -/
def ReamSt.header (r : ReamSt) (flags link keyId : Nat) (prev root : Bytes) : Bytes :=
  let ports := r.ledgerPorts
  padTo 4032 (be 4 0x574D4852 ++ be 1 1 ++ be 1 ports.length ++ be 1 flags ++ be 1 r.quality.code ++ be 8 r.num ++
    be 8 link ++ stampBe r.start ++ stampBe (r.stop.getD 0) ++ be 4 (r.calSeq % 2 ^ 31 + b2n r.stale * 2 ^ 31) ++
    be 4 r.epochFirst ++ be 4 r.epochLast ++ be 13 (portMap ports) ++ be 1 0 ++ be 2 r.mask ++ be 8 keyId ++
    be 4 r.missing ++ prev ++ root ++
    ports.flatMap fun p => be 4 (r.leaves p true).length ++ be 4 (r.leaves p false).length ++ r.portRoot p)

/-- A Ream's root sheet (R229). -/
def ReamSt.sheet (r : ReamSt) : Bytes := padTo 8192 (r.ledgerPorts.flatMap fun p => r.root p true ++ r.root p false)

/-- FLAGS of a header before it is signed (R227). -/
def ReamSt.flags (r : ReamSt) (late : Bool) : Nat :=
  b2n r.step + 2 * b2n r.boot + 4 * b2n r.genesis + 8 * b2n r.refuse + 16 * b2n late + 32 * b2n r.keyNew

/-- A header marked UNSIGNED: bit 6 of its byte 6. -/
def markUnsigned (body : Bytes) : Bytes := body.take 6 ++ (body.getD 6 0 ||| 0x40) :: body.drop 7

/-! ### The seal (R200 to R205) -/

/-- A ledger port at the seal: its IN_FLIGHT leaves, or FRONT_LATE (R204, R205). Answers whether it is late. -/
def State.sealPort (s : State) (r : ReamSt) (p : Nat) : Bool × State :=
  if s.frontPassed r p then
    (false, (s.ldg.undecided.values.filter fun l => decide (l.port = p ∧ l.ream = r.num)).foldl
      (fun (s : State) l => s.inFlight r l) s)
  else (true, s.event 0x3004 3 [.q p, .w r.num])

/-- Every ledger port at the seal. -/
def State.sealPorts (s : State) (r : ReamSt) : Bool × State :=
  r.ledgerPorts.foldl (fun (a : Bool × State) p => let x := a.2.sealPort r p; (a.1 || x.1, x.2)) (false, s)

/-- A record's index as its Ream is sealed: a post-disposition leaf's place lies behind the frame leaves of its tree. -/
def sealIndex (r : ReamSt) (x : RecSt) : Nat :=
  match x.post with
  | some k => (r.frameLeaves x.leaf.port true).length + k
  | none => leafIndex r x.leaf

/-- The indices of a sealed Ream fixed, for the frames still in the device and for its records (R663). -/
def State.fixIndices (s : State) (r : ReamSt) : State :=
  { s with ldg := { s.ldg with
    placed := s.ldg.placed.map fun id (p : Placed) =>
      if p.ream = r.num ∧ p.index.isNone then
        { p with index := (r.frames.find? (·.frame = id)).map fun l => leafIndex r l }
      else p
    records := s.ldg.records.map fun (x : RecSt) =>
      if x.ream = r.num ∧ x.index.isNone then { x with index := some (sealIndex r x) } else x } }

/-- The destinations that every enabled ring set gives a header (R244). -/
def State.headerDests (s : State) : List (Nat × Bool) :=
  (s.ldg.sets.entries.filter (·.2.enabled)).flatMap fun e =>
    (if e.2.dest = 1 then [] else [(e.1, false)]) ++ if e.2.dest = 0 then [] else [(e.1, true)]

/-- The slots that the header reserve holds: 16 MiB of 12 KiB each (R226, R234). -/
def headerSlots : Nat := 1365

/-- What a checkpoint of a Ream holds, but its sequence number (R211). -/
def HdrSt.ckpt (h : HdrSt) : Ckpt :=
  { seq := 0, ream := h.ream, stop := h.stop, epoch := h.epoch, reserved := h.ream + 65536, keyId := h.keyId, root := h.root }

/-- A Ream whose header is released can be checkpointed; one that ends on a TAI second is (R208). -/
def State.checkpointable (s : State) (h : HdrSt) : State :=
  { s with ldg := { s.ldg with
    lastReam := some h.ckpt, ckptWaiting := if h.stop % secStamp = 0 then some h.ckpt else s.ldg.ckptWaiting } }

/-- A header released changed in its place. -/
def State.modHeader (s : State) (ream : Nat) (f : HdrSt → HdrSt) : State :=
  { s with ldg := { s.ldg with headers := s.ldg.headers.map fun (h : HdrSt) => if h.ream = ream then f h else h } }

/-- Headers that every destination has taken leave staging (R244). -/
def State.dropHeaders (s : State) : State :=
  { s with ldg := { s.ldg with headers := s.ldg.headers.filter fun (h : HdrSt) => !h.released || !decide (h.owed = []) } }

/-- A header released, unsigned or not: the newest one shows in `LDG_STATUS.UNSIGNED` (R263). -/
def State.noteReleased (s : State) (ream : Nat) (unsigned : Bool) : State :=
  if ream < s.ldg.lastReleased then s
  else { s with ldg := { s.ldg with lastReleased := ream, lastUnsigned := unsigned } }

/-- The SM2 signature of a message under the identifier 1234567812345678 (R7, R218): 64 bytes. -/
def sm2Sign (secret message random : Bytes) : Bytes :=
  (Config.sign secret ([0x31, 0x32, 0x33, 0x34, 0x35, 0x36, 0x37, 0x38, 0x31, 0x32, 0x33, 0x34, 0x35, 0x36, 0x37, 0x38] : Bytes)
    message random ++ zeros 64).take 64

/-- HEADER_UNSIGNED (R220): a header released without a signature. -/
def State.releaseUnsigned (s : State) (h : HdrSt) : State :=
  let s := s.modHeader h.ream fun h => { h with
    released := true, unsigned := true, body := markUnsigned h.body, sig := zeros 64, signer := none }
  let s := s.noteReleased h.ream true
  ((s.event 0x300E 3 []).checkpointable h).dropHeaders

/-- The signers in service. -/
def State.signersUp (s : State) : List Nat := (List.range 3).filter (s.up .signer 0)

/-- Headers that wait for a signature, oldest first. -/
def State.unsignedHeaders (s : State) : List HdrSt := s.ldg.headers.filter fun h => !h.released

/-- Whether a signer has a header in hand. -/
def State.signedFor (s : State) (h : HdrSt) : Bool :=
  match h.signer with
  | some n => s.working .signer 0 n
  | none => false

/-- Headers handed to the signers that have none (R218); all released where no signer is in service (R220). -/
def State.handOff (s : State) : State :=
  if s.signersUp = [] then (s.unsignedHeaders.filter fun h => !s.signedFor h).foldl (fun (s : State) h => s.releaseUnsigned h) s
  else s.signersUp.foldl (fun (s : State) n =>
    if s.unsignedHeaders.any fun h => decide (h.signer = some n) then s
    else match s.unsignedHeaders.find? fun h => !s.signedFor h with
      | some h => s.modHeader h.ream fun h => { h with signer := some n }
      | none => s) s

/-- A header put in the reserve, or discarded with its root kept in the chain (R235). -/
def State.addHeader (s : State) (h : HdrSt) : State :=
  if headerSlots ≤ s.ldg.headers.length then
    ((s.bump F.ldgHdrLost_count 1).event 0x300D 3 []).checkpointable h
  else
    let s := { s with ldg := { s.ldg with headers := s.ldg.headers ++ [h] } }
    ({ s with ldg := { s.ldg with stagingHwm := max s.ldg.stagingHwm s.stagingBytes } }).handOff

/-- The header of a sealed Ream. -/
def State.makeHeader (s : State) (r : ReamSt) (late : Bool) (root : Bytes) : HdrSt :=
  let key := s.ldg.keys.get? r.keySlot
  let keyId := match key with
    | some k => k.keyId
    | none => 0
  { ream := r.num, stop := r.stop.getD 0, body := r.header (r.flags late) s.ldg.prevNum keyId s.ldg.prevRoot root,
    sheet := r.sheet, root, keyId
    wrapped := (match key with | some k => k.wrapped | none => []), epoch := r.epochLast, signer := none, released := false, unsigned := false,
    sig := [], archBusy := [], owed := s.headerDests }

/-- REAM_SEAL (R185 to R191, R200 to R206, R227, R262): the oldest Ream that has ended and is due. -/
def execReamSeal (s : State) : Res :=
  whenWorking s <|
    match s.ldg.ended.getLast? with
    | none => .next s
    | some r =>
      if s.now < r.sealAt ∨ s.reservedOut r.num then .next s
      else
        let (late, s) := s.sealPorts r
        match s.openReam r.num with
        | none => .next s
        | some r =>
          let s := s.fixIndices r
          let root := r.reamRoot s.ldg.prevRoot
          let h := s.makeHeader r late root
          let s := { s with ldg := { s.ldg with
            ended := s.ldg.ended.dropLast, prevRoot := root, prevNum := r.num, sealedNum := r.num, sealedRoot := root
            frontLate := late } }
          let s := if 0 < r.missing then s.event 0x3001 2 [.w r.num, .q r.missing] else s
          .next (s.addHeader h)

/-! ### Signing (R218 to R220) -/

/-- A signer that leaves service by a fault (R219, R738): its role goes to the spare and its header to another signer. -/
def State.signerLeaves (s : State) (n : Nat) (second : Bool) : State :=
  let u : UnitRef := (.signer, 0, n)
  let role := s.roleOf .signer 0 n
  let s := (s.eventWith 0x300C (errInfo 2 0xFF (some u)) []).unitFault u second
  let s := match role with
    | some r => s.giveToSpare .signer 0 r
    | none => s
  s.handOff

/-- SIGNATURE_COMPLETE (R218, R219, R738): a signer releases its header with its signature, or fails the check and leaves
service, its header going to another signer. -/
def execSignatureComplete (signer : Nat) (ok : Bool) (s : State) : Res :=
  whenWorking s <|
    if !s.working .signer 0 signer ∨ 3 ≤ signer then .next s
    else
      match s.unsignedHeaders.find? fun h => decide (h.signer = some signer) with
      | none => .next s
      | some h =>
        if ok then
          let (random, s) := s.drawBytes 32
          let sig := sm2Sign (Config.unwrap h.wrapped) h.body random
          let s := s.modHeader h.ream fun h => { h with released := true, sig, signer := none }
          let s := s.noteReleased h.ream false
          .next ((s.checkpointable h).dropHeaders.handOff)
        else
          let u : UnitRef := (.signer, 0, signer)
          let second := s.recordOpen u
          let (cls, s) := s.detect 2 3 (some u) .none false false
          .next (if cls = 3 then s else s.signerLeaves signer second)

/-! ### Checkpoints (R208 to R211) -/

/-- Whether the Ream in progress is within 32,768 of the reservation of the last checkpoint, and the newest Ream would extend
it (R209). -/
def State.nearReservation (s : State) : Bool :=
  match s.ldg.cur, s.ldg.newestCkpt, s.ldg.lastReam with
  | some c, some k, some l => decide (k.reserved ≤ c.num + 32768 ∧ k.reserved < l.reserved)
  | _, _, _ => false

/-- CHECKPOINT_WRITE (R208, R209): a checkpoint that is due goes to the flash devices. -/
def execCheckpointWrite (s : State) : Res :=
  whenWorking s <|
    if s.ldg.ckptWriting.isSome then .next s
    else match (if s.ldg.ckptWaiting.isSome then s.ldg.ckptWaiting else if s.nearReservation then s.ldg.lastReam else none) with
      | none => .next s
      | some k =>
        let seq := s.ldg.ckptSeq + 1
        .next { s with ldg := { s.ldg with ckptSeq := seq, ckptWriting := some { k with seq }, ckptWaiting := none } }

/-- A checkpoint programmed in a device, newest first. -/
def State.putCkpt (s : State) (d : Nat) (k : Bytes) : State :=
  if d = 0 then { s with ldg := { s.ldg with ckpt0 := k :: s.ldg.ckpt0 } }
  else { s with ldg := { s.ldg with ckpt1 := k :: s.ldg.ckpt1 } }

/-- A checkpoint's programming ended in every device in service (R209, R210, R840). Answers whether one holds it. -/
def State.ckptDone (s : State) (k : Ckpt) (ok0 ok1 : Bool) : Bool × State :=
  let tried := s.flashUp.length
  let (held, s) := s.flashBoth ok0 ok1
  let s := if held.length < tried then s.event 0x3006 3 [] else s
  let s := held.foldl (fun (s : State) d => s.putCkpt d k.bytes) s
  if held = [] then (false, s)
  else (true, { s with ldg := { s.ldg with
    newestCkpt := some k, ckptOk0 := decide (0 ∈ held), ckptOk1 := decide (1 ∈ held), ckptAt := some s.now, ckptRetry := false } })

/-- CHECKPOINT_PROGRAM_COMPLETE (R209, R210, R264). -/
def execCheckpointProgramComplete (ok0 ok1 : Bool) (s : State) : Res :=
  whenWorking s <|
    match s.ldg.ckptWriting with
    | none => .next s
    | some k =>
      let near := s.nearReservation
      let s := { s with ldg := { s.ldg with ckptWriting := none } }
      let (held, s) := s.ckptDone k ok0 ok1
      let s := if near && !held then { s with ldg := { s.ldg with ckptRetry := true } } else s
      match s.ldg.cur with
      | some c => .next (if s.reservedOut c.num then s.exhausted else s)
      | none => .next s

/-! ### Faults of engines and of the Ream builder (R246 to R250) -/

/-- An SM3 engine that leaves service by a fault (R246). -/
def State.sm3Leaves (s : State) (slice engine : Nat) (second : Bool) : State :=
  let u : UnitRef := (.sm3Engine, slice, engine)
  let role := s.roleOf .sm3Engine slice engine
  let s := (s.eventWith 0x300A (errInfo 2 0xFF (some u)) [.q slice, .q engine]).unitFault u second
  match role with
  | some r => s.giveToSpare .sm3Engine slice r
  | none => s

/-- SM3_ENGINE_FAULT (R246, R247): the spare of the slice takes the engine's role; the work in progress starts again there. -/
def execSm3EngineFault (slice engine : Nat) (s : State) : Res :=
  whenWorking s <|
    let st := (s.unit .sm3Engine slice engine).state
    if 8 ≤ slice ∨ 11 ≤ engine ∨ st = .outOfService ∨ st = .testing then .next s
    else
      let u : UnitRef := (.sm3Engine, slice, engine)
      let second := s.recordOpen u
      let (cls, s) := s.detect 2 3 (some u) .none false false
      .next (if cls = 3 then s else s.sm3Leaves slice engine second)

/-- A builder side that leaves service by a fault (R248, R250): the other side goes on; with none left the device is FATAL. -/
def State.builderLeaves (s : State) (side : Nat) (second : Bool) : State :=
  let u : UnitRef := (.builderSide, 0, side)
  let s := (s.eventWith 0x300B (errInfo 2 0xFF (some u)) []).unitFault u second
  if s.up .builderSide 0 (1 - side) then { s with ldg := { s.ldg with builderB := decide (side = 0) } } else s.fatal 0x300B

/-- BUILDER_SIDE_FAULT (R248, R250). -/
def execBuilderSideFault (side : Nat) (s : State) : Res :=
  whenWorking s <|
    let st := (s.unit .builderSide 0 side).state
    if 2 ≤ side ∨ st = .outOfService ∨ st = .testing then .next s
    else
      let u : UnitRef := (.builderSide, 0, side)
      let second := s.recordOpen u
      let (cls, s) := s.detect 2 3 (some u) .none false false
      .next (if cls = 3 then s else s.builderLeaves side second)

end Sys2Proof.Machine
end

