-- ==== Sys2Proof/Machine/Rings.lean ====
section
/-! DEFINITION. Where the ledger's records and headers go: ring sets in host memory, the direct archive, LEDGER_CONFIGURE, and
the key commands (R216, R217, R224 to R234, R240 to R245, R251 to R257, R266 to R267, R569, R570). -/

namespace Sys2Proof.Machine

/-- The state with a ring set changed. -/
def State.modSet (s : State) (i : Nat) (f : RingSet → RingSet) : State :=
  { s with ldg := { s.ldg with sets := s.ldg.sets.set i (f (s.ringSet i)) } }

/-! ### Records and their order (R224, R225) -/

/-- A record's bytes (R224). -/
def recordBytes (ream index : Nat) (l : Leaf) : Bytes :=
  le 8 ream ++ le 4 index ++ be 1 l.port ++ be 1 l.disp ++ le 2 l.len ++ stampLe l.stamp ++ le 4 l.epoch ++ l.digest

/-- The order in which a ring set's records are written: Ream, ledger port, index (R225). -/
def recordBefore (a b : RecSt × Nat) : Bool :=
  decide (a.1.ream < b.1.ream ∨ (a.1.ream = b.1.ream ∧
    (a.1.leaf.port < b.1.leaf.port ∨ (a.1.leaf.port = b.1.leaf.port ∧ a.2 < b.2))))

/-- A record put in its place in that order. -/
def insertRecord (x : RecSt × Nat) : List (RecSt × Nat) → List (RecSt × Nat)
  | [] => [x]
  | y :: r => if recordBefore x y then x :: y :: r else y :: insertRecord x r

/-- A ring set's records that can be written now, in order, each with its index: those of a predicate whose index is fixed,
whose earlier Reams are sealed, and before which no record of their ledger port waits in another ring set (R225). -/
def State.writable (s : State) (set : Nat) (p : RecSt → Bool) : List (RecSt × Nat) :=
  (s.ldg.records.filter fun (x : RecSt) => decide (x.set = set) && p x && !s.olderOpen x.ream && !s.heldBack x).foldl
    (fun (l : List (RecSt × Nat)) x => match s.recordIndex x with
      | some i => insertRecord (x, i) l
      | none => l) []

/-- Whether every destination of its ring set has taken a record (R233, R244). -/
def RecSt.taken (x : RecSt) (dest : Nat) : Bool := (decide (dest = 1) || x.hostDone) && (decide (dest = 0) || x.archDone)

/-- Records that every destination of an enabled ring set has taken leave staging (R244). -/
def State.dropRecords (s : State) (set : Nat) : State :=
  let r := s.ringSet set
  { s with ldg := { s.ldg with records := s.ldg.records.filter fun (x : RecSt) => !(decide (x.set = set) && x.taken r.dest) } }

/-- Headers and records that have left staging end the refusal when they make room enough (R237). -/
def State.settleStaging (s : State) (set : Nat) : State := ((s.dropRecords set).dropHeaders).checkRefuse

/-! ### Rings in host memory (R226, R230 to R233) -/

/-- The tail block (R231, R232). -/
def State.writeTail (s : State) (set : Nat) : State :=
  let r := s.ringSet set
  s.dmaTo 0 (some r.vector) .tailBlock r.tailBase
    (le 4 r.recProd.toNat ++ le 4 r.hdrProd.toNat ++ le 8 r.sealedReam ++ le 4 r.missing ++ zeros 44)

/-- Entries written that the moderation counts (R266). -/
def State.moderate (s : State) (set n : Nat) : State :=
  let now := s.now
  s.modSet set fun r => { r with modEntries := r.modEntries + n, modFirst := some (r.modFirst.getD now) }

/-- One record written to its ring (R224, R230, R232). -/
def State.putRecord (s : State) (set : Nat) (x : RecSt × Nat) : State :=
  let r := s.ringSet set
  let s := s.dmaTo 0 (some r.vector) .ledger (r.recBase + r.recProd.toNat % 2 ^ r.recLog2 * 64) (recordBytes x.1.ream x.2 x.1.leaf)
  let s := s.modSet set fun r => { r with recProd := r.recProd + 1 }
  { s with ldg := { s.ldg with records := s.ldg.records.map fun (y : RecSt) =>
      if y = x.1 then { y with hostDone := true, index := some x.2 } else y } }

/-- RECORD_RING_WRITE (R224, R225, R230 to R233): staged records that can be written go to their ring while it has room, and
the tail block follows. -/
def execRecordRingWrite (set : Nat) (s : State) : Res :=
  whenWorking s <|
    let r := s.ringSet set
    if !r.enabled ∨ r.dest = 1 ∨ !s.hostTakes ∨ !s.ledgerTurn then .next s
    else
      let l := (s.writable set fun x => !x.hostDone).take (ringRoom r.recProd r.recCons r.recLog2)
      if l = [] then .next s
      else
        let s := l.foldl (fun (s : State) x => s.putRecord set x) s
        .next ((((s.writeTail set).moderate set l.length).settleStaging set).ledgerServed (64 * l.length))

/-- A header slot's bytes (R226). -/
def HdrSt.slot (h : HdrSt) : Bytes := h.body ++ h.sig ++ h.sheet

/-- A header taken by a destination. -/
def State.headerTaken (s : State) (ream set : Nat) (arch : Bool) : State :=
  s.modHeader ream fun h => { h with owed := h.owed.filter (· ≠ (set, arch)), archBusy := if arch then h.archBusy.filter (· ≠ set) else h.archBusy }

/-- One header written to its ring (R226, R231). -/
def State.putHeader (s : State) (set : Nat) (h : HdrSt) : State :=
  let r := s.ringSet set
  let s := s.dmaTo 0 (some r.vector) .ledger (r.hdrBase + r.hdrProd.toNat % 2 ^ r.hdrLog2 * 12288) h.slot
  (s.modSet set fun r => { r with hdrProd := r.hdrProd + 1, sealedReam := h.ream }).headerTaken h.ream set false

/-- HEADER_RING_WRITE (R226, R230 to R233). -/
def execHeaderRingWrite (set : Nat) (s : State) : Res :=
  whenWorking s <|
    let r := s.ringSet set
    if !r.enabled ∨ r.dest = 1 ∨ !s.hostTakes ∨ !s.ledgerTurn then .next s
    else
      let l := (s.headersFor set false).take (ringRoom r.hdrProd r.hdrCons r.hdrLog2)
      if l = [] then .next s
      else
        let s := l.foldl (fun (s : State) h => s.putHeader set h) s
        .next ((((s.writeTail set).moderate set l.length).settleStaging set).ledgerServed (12288 * l.length))

/-- A consumer index written, ignored where it would pass its producer (R233). -/
def consumerWrite (set : Nat) (header : Bool) (cons : Word) (s : State) : Res :=
  whenWorking s <|
    if 4 ≤ set then .next s
    else
      let r := s.ringSet set
      let f := if header then F.ldgRingHdrCons_cons set else F.ldgRingRecCons_cons set
      let (prod, old) := if header then (r.hdrProd, r.hdrCons) else (r.recProd, r.recCons)
      if prod - old < cons - old then .next (s.noticeAddr f.addr)
      else
        .next ((s.modSet set fun r => if header then { r with hdrCons := cons } else { r with recCons := cons }).setReg f.addr cons.toNat)

/-- LEDGER_RING_MODERATION (R266): the vector once the count or the timer is reached. -/
def execLedgerRingModeration (set : Nat) (s : State) : Res :=
  whenWorking s <|
    if 4 ≤ set then .next s
    else
      let r := s.ringSet set
      let due := match r.modFirst with
        | some t => decide (t + s.fld (F.ldgRingMod_timerUs set) * usStamp ≤ s.now)
        | none => false
      if r.modEntries = 0 ∨ !(due || decide (s.fld (F.ldgRingMod_count set) ≤ r.modEntries)) then .next s
      else .next ((s.modSet set fun r => { r with modEntries := 0, modFirst := none }).msix 0 r.vector)

/-! ### The direct archive (R240 to R245, R569) -/

/-- Blocks of 4 KiB in the record log, and slots of 12 KiB in the header log (R240 to R242). -/
def RingSet.recBlocks (r : RingSet) : Nat := r.recLbas / r.lbaBlk - 1
def RingSet.hdrSlots (r : RingSet) : Nat := (r.hdrLbas / r.lbaBlk - 1) / 3

/-- The next LBA of each log. -/
def RingSet.recNext (r : RingSet) : Nat := r.recLba + r.lbaBlk * (1 + r.recPos)
def RingSet.hdrNext (r : RingSet) : Nat := r.hdrLba + r.lbaBlk * (1 + 3 * r.hdrPos)

/-- A log's position moved on, and its wraps (R240). -/
def logNext (pos wraps size : Nat) : Nat × Nat := if pos + 1 < size then (pos + 1, wraps) else (0, wraps + 1)

/-- Writes that a connection can still issue (R568, R569). -/
def Conn.archRoom (c : Conn) : Nat := min (16 - c.archOps.length) (c.info.sqsize - c.cids.length)

/-- An archive Write issued. Answers its command identifier. -/
def State.archWrite (s : State) (set i : Nat) (header index : Bool) (lba ream count : Nat) (data : Bytes) : Nat × State :=
  match s.conn i with
  | none => (0, s)
  | some c =>
    let (cid, s) := s.pickFree 65536 c.cids
    let o : ArchOp := { cid, header, index, lba, ream, count, data, failed := false }
    let r := s.ringSet set
    (cid, ((s.modConn i fun c => { c with archOps := c.archOps ++ [o] }).sendBytes i (c.archCapsule r o)).count1 C.stoArchWrites)

/-- The records of the next block of the record log: 64 of one Ream, or the rest of a sealed one (R241). -/
def State.nextBlock (s : State) (set : Nat) : List (RecSt × Nat) :=
  let l := s.writable set fun x => !x.archDone && x.archCid.isNone
  match l with
  | [] => []
  | h :: _ =>
    let b := (l.takeWhile fun x => decide (x.1.ream = h.1.ream)).take 64
    if b.length = 64 ∨ (s.openReam h.1.ream).isNone then b else []

/-- A record marked as carried by a Write, when it is one of a block's. -/
def markArch (l : List (RecSt × Nat)) (cid : Nat) (y : RecSt) : RecSt :=
  match l.find? fun x => decide (x.1 = y) with
  | some x => { y with archCid := some cid, index := some x.2 }
  | none => y

/-- A block of records written to the archive (R241). -/
def State.archRecords (s : State) (set i : Nat) : State :=
  match s.nextBlock set with
  | [] => s
  | h :: rest =>
    let l := h :: rest
    let r := s.ringSet set
    let data := padTo 4096 (l.flatMap fun x => recordBytes x.1.ream x.2 x.1.leaf)
    let (pos, wraps) := logNext r.recPos r.recWraps r.recBlocks
    let (cid, s) := s.archWrite set i false false r.recNext h.1.ream l.length data
    let s := s.modSet set fun r => { r with recPos := pos, recWraps := wraps }
    { s with ldg := { s.ldg with records := s.ldg.records.map (markArch l cid) } }

/-- A header slot written to the archive (R242). -/
def State.archHeader (s : State) (set i : Nat) : State :=
  match (s.headersFor set true).find? fun h => decide (set ∉ h.archBusy) with
  | none => s
  | some h =>
    let r := s.ringSet set
    let (pos, wraps) := logNext r.hdrPos r.hdrWraps r.hdrSlots
    let s := (s.archWrite set i true false r.hdrNext h.ream 1 h.slot).2
    let s := s.modSet set fun r => { r with hdrPos := pos, hdrWraps := wraps }
    s.modHeader h.ream fun h => { h with archBusy := set :: h.archBusy }

/-- Writes issued while there is something to write and room for it: fuel. -/
def State.archFill : Nat → Nat → Nat → State → State
  | 0, _, _, s => s
  | n + 1, set, i, s =>
    match s.conn i with
    | none => s
    | some c =>
      if c.archRoom = 0 then s
      else
        let s := s.archHeader set i
        match s.conn i with
        | none => s
        | some c => State.archFill n set i (if c.archRoom = 0 then s else s.archRecords set i)

/-- What a ring set's archive can take now written to it. -/
def State.archIssue (s : State) (set : Nat) : State :=
  let r := s.ringSet set
  match r.conn with
  | some i => if r.enabled && r.archUp && decide (r.dest ≠ 0) then State.archFill 16 set i s else s
  | none => s

/-- The index block of a log (R243). -/
def indexBlock (next wraps newest : Nat) : Bytes := padTo 4096 (le 4 0x574D4149 ++ zeros 4 ++ le 8 next ++ le 8 wraps ++ le 8 newest)

/-- ARCHIVE_INDEX_WRITE (R243): both index blocks, once per second; what the archive can take besides is issued too. -/
def execArchiveIndexWrite (set : Nat) (s : State) : Res :=
  whenWorking s <|
    let r := s.ringSet set
    match r.conn with
    | none => .next s
    | some i =>
      if !r.enabled ∨ !r.archUp ∨ r.dest = 0 then .next s
      else
        let s := s.archIssue set
        let room := match s.conn i with
          | some c => c.archRoom
          | none => 0
        if s.now < r.indexAt ∨ room < 2 then .next s
        else
          let r := s.ringSet set
          let now := s.now
          let s := (s.archWrite set i false true r.recLba r.newestRec 0 (indexBlock r.recNext r.recWraps r.newestRec)).2
          let s := (s.archWrite set i true true r.hdrLba r.newestHdr 0 (indexBlock r.hdrNext r.hdrWraps r.newestHdr)).2
          .next (s.modSet set fun r => { r with indexAt := now + secStamp })

/-- A Write's data taken by the archive (R244, R569). -/
def State.archTaken (s : State) (set : Nat) (o : ArchOp) : State :=
  if o.header then
    (s.modSet set fun r => { r with newestHdr := max r.newestHdr o.ream }).headerTaken o.ream set true
  else
    let s := s.modSet set fun r => { r with newestRec := max r.newestRec o.ream }
    { s with ldg := { s.ldg with records := s.ldg.records.map fun (x : RecSt) =>
        if x.set = set ∧ x.archCid = some o.cid then { x with archDone := true, archCid := none } else x } }

/-- ARCHIVE_WRITE_COMPLETE (R243 to R245, R569): the Write at an LBA ends; what it carried leaves staging, or stays for the
connection's restoration. -/
def execArchiveWriteComplete (set lba : Nat) (ok : Bool) (s : State) : Res :=
  whenWorking s <|
    match (s.ringSet set).conn with
    | none => .next s
    | some i =>
      match (match s.conn i with | some c => c.archOps.find? fun (o : ArchOp) => decide (o.lba = lba) && !o.failed && !o.index | none => none) with
      | none => .next s
      | some o =>
        if ok then
          let s := s.modConn i fun c => { c with archOps := c.archOps.filter fun (x : ArchOp) => decide (x.cid ≠ o.cid) }
          let s := (s.archTaken set o).settleStaging set
          .next ((s.archIssue set).archQuiet set)
        else
          let s := s.modConn i fun c => { c with
            archOps := c.archOps.map fun (x : ArchOp) => if x.cid = o.cid then { x with failed := true } else x }
          .next ((s.archFailed set).archQuiet set)

/-- ARCHIVE_RECONNECT (R563, R570): the wait is over and the connection begins again with a new SYN. -/
def execArchiveReconnect (set : Nat) (s : State) : Res :=
  whenWorking s <|
    let r := s.ringSet set
    match r.conn with
    | none => .next s
    | some i =>
      match s.conn i with
      | none => .next s
      | some c =>
        if c.state ≠ .failed ∨ s.now < r.retryAt then .next s
        else
          let (iss, s) := s.draw (2 ^ 32)
          let (scale, s) := s.draw 15
          let now := s.now
          let s := s.modConn i fun c => { c with
            state := .connecting, reason := 0, step := 0, since := now, sndNxt := iss, sndUna := iss, sndWnd := 0, rcvNxt := 0
            unacked := [], sndBuf := [], rto := secStamp, retx := 0, rtt := none, scale, adv := 0, reno := NewReno.start c.info.mss }
          .next (s.sendSeg i true false [])

/-! ### LEDGER_CONFIGURE (R251 to R254) -/

/-- Whether the fields of ENABLE_SET are in range (R251, R253). -/
def State.ringArgsOk (s : State) (a : RingSetArgs) : Bool :=
  decide (a.set < 4 ∧ a.dest ≤ 2 ∧ 10 ≤ a.recLog2 ∧ a.recLog2 ≤ 24 ∧ 4 ≤ a.hdrLog2 ∧ a.hdrLog2 ≤ 12 ∧
    a.vector < (s.fn 0).vectors ∧ a.recBase % 4096 = 0 ∧ a.hdrBase % 4096 = 0 ∧ a.tailBase % 64 = 0)

/-- LEDGER_ENABLE_SET (R251, R253, R254): both ring indices start at 0. -/
def execLedgerEnableSet (r : AdminRef) (a : RingSetArgs) (s : State) : Res :=
  runAdmin true false r s fun s =>
    if !s.ringArgsOk a then failWith s stInvalidField
    else if (s.ringSet a.set).enabled then failWith s stBusy
    else
      let s := s.modSet a.set fun x => { x with
        enabled := true, dest := a.dest, recLog2 := a.recLog2, hdrLog2 := a.hdrLog2, vector := a.vector, recBase := a.recBase
        hdrBase := a.hdrBase, tailBase := a.tailBase, recProd := 0, recCons := 0, hdrProd := 0, hdrCons := 0, sealedReam := 0
        missing := 0, modEntries := 0, modFirst := none }
      let s := (s.setReg (F.ldgRingRecCons_cons a.set).addr 0).setReg (F.ldgRingHdrCons_cons a.set).addr 0
      (s.settleStaging a.set, some (stSuccess, []))

/-- Whether two LBA ranges overlap. -/
def lbasOverlap (a n b m : Nat) : Bool := decide (a < b + m ∧ b < a + n)

/-- LEDGER_ARCHIVE (R240, R243, R252, R253): an archive connection and its regions bound to a ring set. The LBA size is the
namespace's, 512 or 4,096 bytes. -/
def execLedgerArchive (r : AdminRef) (a : ArchiveArgs) (s : State) : Res :=
  runAdmin true false r s fun s =>
    let (big, s) := s.draw 2
    let blk := if big = 1 then 1 else 8
    if 4 ≤ a.set ∨ a.recLbas % blk ≠ 0 ∨ a.hdrLbas % blk ≠ 0 ∨ a.recLbas < 2 * blk ∨ a.hdrLbas < 4 * blk ∨
        lbasOverlap a.recLba a.recLbas a.hdrLba a.hdrLbas then failWith s stInvalidField
    else match s.ownerOf a.conn, s.conn (handleIndex a.conn) with
      | some _, some c =>
        let i := handleIndex a.conn
        if c.info.wq ≠ 0xFFFFFFFF then failWith s stNotPermitted
        else if (s.ringSet a.set).enabled ∨ (c.archive.isSome ∧ c.archive ≠ some a.set) then failWith s stBusy
        else
          let s := match (s.ringSet a.set).conn with
            | some old => s.modConn old fun c => { c with archive := none }
            | none => s
          let s := s.modConn i fun c => { c with archive := some a.set }
          let now := s.now
          (s.modSet a.set fun x => { x with
              conn := some i, nsid := a.nsid, recLba := a.recLba, recLbas := a.recLbas, hdrLba := a.hdrLba, hdrLbas := a.hdrLbas
              lbaBlk := blk, recPos := 0, hdrPos := 0, recWraps := 0, hdrWraps := 0, newestRec := 0, newestHdr := 0
              archUp := decide (c.state = .established), backoff := if c.state = .failed then 10 else 0
              retryAt := now + 10 * msStamp, indexAt := now },
            some (stSuccess, []))
      | _, _ => failWith s stNotFound

/-- LEDGER_DISABLE_SET (R253, R254): complete once the archive takes nothing more. -/
def execLedgerDisableSet (r : AdminRef) (set : Nat) (s : State) : Res :=
  runAdmin true false r s fun s =>
    if 4 ≤ set then failWith s stInvalidField
    else if !(s.ringSet set).enabled then (s, some (stSuccess, []))
    else
      let t := s.tok r
      let s := s.modSet set fun x => { x with enabled := false, disabling := some t }
      let s := { s with ldg := { s.ldg with headers := s.ldg.headers.map fun (h : HdrSt) =>
        { h with owed := h.owed.filter fun (d : Nat × Bool) => decide (d.1 ≠ set) } } }
      ((s.dropHeaders).archQuiet set, none)

/-! ### Keys (R215 to R217, R223, R255 to R257) -/

/-- A key's certificate up to its signature (R217). -/
def State.certBody (s : State) (slot keyId : Nat) (pub : Bytes) : Bytes :=
  let prev := match s.ldg.keys.get? s.ldg.keySel with
    | some k => k.keyId
    | none => 0
  be 4 0x574D4B43 ++ be 1 1 ++ be 1 slot ++ be 2 0 ++ be 8 keyId ++ pub ++ stampBe s.now ++ be 1 s.tb.quality.code ++ zeros 3 ++
    be 8 prev ++ sm3 Config.identityKey

/-- A new key for a slot (R215 to R217): the private key comes from the device's random source, and the identity key signs the
certificate. -/
def State.newKey (s : State) (slot : Nat) : KeySlot × State :=
  let (secret, s) := s.drawBytes 32
  let (random, s) := s.drawBytes 32
  let pub := (Config.publicOf secret ++ zeros 64).take 64
  let keyId := beNat ((sm3 pub).take 8)
  let body := s.certBody slot keyId pub
  ({ keyId, pub, wrapped := Config.wrap secret, cert := body ++ sm2Sign Config.identitySecret body random }, s)

/-- LEDGER_ROTATE_KEY (R255, R256): it completes once the key is in the store. -/
def execLedgerRotateKey (r : AdminRef) (slot bufLen : Nat) (s : State) : Res :=
  runAdmin true false r s fun s =>
    let f := F.ldgCtrl_keySel
    let staged := getBits (s.stagedView f.addr) f.lo f.width
    let waits := [s.regs.armed.get? f.addr, s.regs.reamWait.get? f.addr].any fun w => match w with
      | some w => decide (getBits w.toNat f.lo f.width = slot)
      | none => false
    let recent := match s.ldg.lastRotate with
      | some t => decide (s.now < t + 10 * secStamp)
      | none => false
    if 4 ≤ slot ∨ bufLen < 200 then failWith s stInvalidField
    else if slot = s.ldg.keySel ∨ slot = staged ∨ waits = true then failWith s stNotPermitted
    else if recent then failWith s stBusy
    else
      let (k, s) := s.newKey slot
      let t := s.tok r
      (s.jrnStart (.ledgerKey slot k.keyId k.pub k.wrapped k.cert) (.rotateKey t slot k.keyId bufLen), none)

/-- The key that LEDGER_EXPORT_KEY names: by slot, or by KEY_ID with SLOT 0xFF (R257). -/
def State.exportedKey (s : State) (slot keyId : Nat) : Option KeySlot :=
  if slot = 0xFF then s.ldg.keys.values.find? (·.keyId = keyId) else s.ldg.keys.get? slot

/-- LEDGER_EXPORT_KEY (R257). -/
def execLedgerExportKey (r : AdminRef) (slot keyId bufLen : Nat) (s : State) : Res :=
  runAdmin true false r s fun s =>
    if bufLen < 200 ∨ (4 ≤ slot ∧ slot ≠ 0xFF) then failWith s stInvalidField
    else match s.exportedKey slot keyId with
      | none => failWith s stNotFound
      | some k => (s.dma 0 .writeBack r.buf k.cert, some (stSuccess, []))

end Sys2Proof.Machine
end

