-- ==== Sys2Proof/Machine/Nvm.lean ====
section
/-! DEFINITION. The configuration store in flash: journal records as they are written, compaction, refresh, image updates, NVM
commands (R694 to R716, R726, R727, R749). -/

namespace Sys2Proof.Machine

/-! ### The journal ring (R699 to R702, R706, R711) -/

/-- Physical sectors of the journal pool (R711). -/
def poolSectors : Nat := (FlashRegion.journal.size + FlashRegion.wear.size) / 0x10000

/-- The free physical sector with the lowest erase count. -/
def State.freeSector (s : State) : Nat :=
  let used := s.nvm.jrnMap.values
  let best := (List.range poolSectors).foldl (fun (b : Option (Nat × Nat)) p =>
    if p ∈ used then b
    else
      let n := s.nvm.eraseJournal.getD p 0
      match b with
      | some x => if n < x.2 then some (p, n) else b
      | none => some (p, n)) none
  match best with
  | some x => x.1
  | none => 0

/-- Whether a record has pages in a logical sector of the ring. -/
def JrnRec.inSector (r : JrnRec) (logical : Nat) : Bool :=
  decide (r.page / 256 = logical ∨ (logical * 256 + ringPages - r.page) % ringPages < r.pages)

/-- The writer reaches a logical sector: it maps to the free physical sector with the lowest erase count, erased (R711); what the ring
held there is gone. -/
def State.reachSector (s : State) (logical : Nat) : State :=
  let s := { s with nvm := { s.nvm with
    jrnMap := s.nvm.jrnMap.erase logical, journal := s.nvm.journal.filter fun r => !r.inSector logical } }
  let p := s.freeSector
  { s with nvm := { s.nvm with
    jrnMap := s.nvm.jrnMap.set logical p, eraseJournal := s.nvm.eraseJournal.modify p 0 (· + 1) } }

/-- The writer advanced by a record's pages over the ring of 1,024 sectors of 256 pages. -/
def State.advanceWriter (s : State) (pages : Nat) : State :=
  let first := ceilDiv s.nvm.jrnPos 256
  let last := ceilDiv (s.nvm.jrnPos + pages) 256
  let s := (List.range (last - first)).foldl (fun (s : State) k => s.reachSector ((first + k) % ringSectors)) s
  { s with nvm := { s.nvm with jrnPos := (s.nvm.jrnPos + pages) % ringPages } }

/-- A record in the ring, at the page that the writer has come to. -/
def State.appendRecord (s : State) (r : JrnRec) : State :=
  let page := s.nvm.jrnPos
  let s := s.advanceWriter r.pages
  { s with nvm := { s.nvm with journal := s.nvm.journal ++ [{ r with page }] } }

/-- The first SEQ that the base slot in effect does not contain. -/
def State.replayFrom (s : State) : Nat :=
  match s.nvm.active with
  | some b => b.replayFrom
  | none => 1

/-- The first record in the ring from a SEQ on. -/
def State.firstFrom (s : State) (seq : Nat) : Option JrnRec := s.nvm.journal.find? fun r => decide (seq ≤ r.seq)

/-- The ring offset of the first record from a SEQ on, or of the next record to write (R697). -/
def State.offsetFrom (s : State) (seq : Nat) : Nat :=
  256 * (match s.firstFrom seq with
    | some r => r.page
    | none => s.nvm.jrnPos)

/-- Pages of the ring from the first record from a SEQ on up to the writer, and those that records being written will take. -/
def State.pagesFrom (s : State) (seq : Nat) : Nat :=
  (match s.firstFrom seq with
    | some r =>
      let n := (s.nvm.jrnPos + ringPages - r.page) % ringPages
      if n = 0 then ringPages else n
    | none => 0) +
    s.nvm.writing.foldl (fun (a : Nat) (e : JrnRec × JrnPurpose) => a + e.1.pages) 0

/-- Records since REPLAY_FROM. -/
def State.liveRecords (s : State) : List JrnRec := s.nvm.journal.filter fun r => decide (s.replayFrom ≤ r.seq)

/-! ### Records as they finish (R28, R701) -/

/-- Whether the admin command that a token stands for is still open. -/
def State.tokLive (s : State) (t : AdminTok) : Bool :=
  let f := s.fn t.ref.fn
  decide (f.gen = t.gen ∧ f.admin.setup = t.setup ∧ t.ref.idx ∈ f.admin.opened)

/-- A rotated key in its slot, and LEDGER_ROTATE_KEY complete (R255, R256). -/
def State.keyStored (s : State) (t : AdminTok) (slot keyId bufLen : Nat) (pub wrapped cert : Bytes) : State :=
  let s := { s with ldg := { s.ldg with keys := s.ldg.keys.set slot { keyId, pub, wrapped, cert }, lastRotate := some s.now } }
  let s := s.event 0x3007 1 [.q slot, .w keyId]
  let s := if s.tokLive t ∧ cert.length ≤ bufLen then s.dma t.ref.fn .writeBack t.ref.buf cert else s
  s.adminDone t stSuccess [(24, le 8 keyId)]

/-- What follows a record that is written. -/
def State.recordWritten (s : State) (r : JrnRec) (why : JrnPurpose) : State :=
  match r.kind, why with
  | .commit _ _ _, .commit => s.startArming true s.coh.token
  | .epochReserve n, _ => { s with coh := { s.coh with hwm := max s.coh.hwm n } }
  | .ledgerKey slot keyId pub wrapped cert, .rotateKey t _ _ bufLen => s.keyStored t slot keyId bufLen pub wrapped cert
  | _, _ => s

/-- What follows a record that no flash device in service can hold: its command fails, and a commit ends with nothing
armed. -/
def State.recordLost (s : State) (why : JrnPurpose) : State :=
  match why with
  | .commit =>
    let t := s.coh.token
    let s := { s with
      coh := { s.coh with phase := .idle, persistent := false, token := none }
      nvm := { s.nvm with writing := s.nvm.writing.filter fun (e : JrnRec × JrnPurpose) => decide (e.2 ≠ JrnPurpose.commit) } }
    s.doneIf t stInternalError []
  | .rotateKey t _ _ _ => s.adminDone t stInternalError []
  | _ => s

/-- JOURNAL_WRITE_COMPLETE (R28, R696, R701, R711): the record being written is programmed, or not, in each device in service
that does not hold it; its marker follows once every device in service does. A device that fails is tried again until it
leaves service. -/
def execJournalWriteComplete (ok0 ok1 : Bool) (s : State) : Res :=
  whenWorking s <|
    match s.nvm.writing with
    | [] => .next s
    | (r, why) :: rest =>
      let tried := s.flashUp.filter fun d => decide (d ∉ r.headerOk)
      let good := tried.filter (okOf ok0 ok1)
      let s := tried.foldl (fun (s : State) d => s.flashDid d (okOf ok0 ok1 d)) s
      let held := r.headerOk ++ good
      let up := s.flashUp
      if up = [] then
        let s := ({ s with nvm := { s.nvm with writing := rest } }).recordLost why
        .next { s with nvm := { s.nvm with usedPages := s.pagesFrom s.replayFrom } }
      else if up.all (fun d => decide (d ∈ held)) then
        let r : JrnRec := { r with devices := up, headerOk := up, markerOk := up }
        let s := { s with nvm := { s.nvm with writing := rest } }
        .next ((s.appendRecord r).recordWritten r why)
      else .next { s with nvm := { s.nvm with writing := ({ r with headerOk := held }, why) :: rest } }

/-! ### What records do to a base (R700, R703, R707, R708) -/

/-- Register values replaced by newer ones. -/
def mergeWords (old new : List (Nat × Word)) : List (Nat × Word) :=
  old.filter (fun e => !new.any fun n => decide (n.1 = e.1)) ++ new

/-- A base image as it stands while records are applied to it, and the bank image of the COMMIT record that directly follows. -/
abbrev Merging := BaseImage × Option BankImage

/-- One record applied (R700, R707). A BANK_IMAGE is that of a COMMIT that directly follows it and names its BANK_ID (assumption 128). -/
def applyRecord (m : Merging) (r : JrnRec) : Merging :=
  match r.kind with
  | .bankImage i => (m.1, some i)
  | .commit vals bankId epoch =>
    let image := m.2.filter fun i => decide (i.bankId = bankId)
    let own := match image with
      | some i => (imageWords i.bank).entries
      | none => []
    ({ m.1 with bank := image.getD m.1.bank, regs := mergeWords (mergeWords m.1.regs own) vals, epoch }, none)
  | .keySelect slot =>
    let a := F.ldgCtrl_keySel.addr
    let old := match m.1.regs.find? (·.1 = a) with
      | some e => e.2.toNat
      | none => 0
    ({ m.1 with regs := mergeWords m.1.regs [(a, BitVec.ofNat 32 (putBits old F.ldgCtrl_keySel.lo 2 slot))] }, none)
  | _ => (m.1, none)

/-- The key slots once a record has been applied (R700). -/
def applyKeys (t : Table KeySlot) (r : JrnRec) : Table KeySlot :=
  match r.kind with
  | .ledgerKey slot keyId pub wrapped cert => t.set slot { keyId, pub, wrapped, cert }
  | _ => t

/-- Whether a record applies, where some devices are readable (R704). -/
def JrnRec.applies (r : JrnRec) (readable : List Nat) : Bool :=
  r.devices.all fun d => decide (d ∉ readable) || decide (d ∈ r.markerOk)

/-- A base with every record applied that does; one that is ignored parts the records before it from those behind it. -/
def mergeRecords (b : BaseImage) (l : List JrnRec) (readable : List Nat) : BaseImage :=
  (l.foldl (fun (m : Merging) r => if r.applies readable then applyRecord m r else (m.1, none)) (b, none)).1

/-! ### Compaction (R708 to R710, R726) -/

/-- The base slot that is not in effect. -/
def State.otherBase (s : State) : Nat :=
  match s.nvm.active with
  | some b => 1 - b.baseSlot
  | none => 1

/-- A slot's content set in some devices (R695); the slot of device `d` has the key `2 * d + slot`. -/
def putSlot {α : Type} (t : Table α) (devices : List Nat) (slot : Nat) (x : Option α) : Table α :=
  devices.foldl (fun (t : Table α) d => match x with
    | some v => t.set (2 * d + slot) v
    | none => t.erase (2 * d + slot)) t

/-- The content of a base slot set. -/
def State.putBase (s : State) (devices : List Nat) (slot : Nat) (b : Option BaseImage) : State :=
  { s with nvm := { s.nvm with bases := putSlot s.nvm.bases devices slot b } }

/-- A base slot erased in every device in service. -/
def State.eraseSlot (s : State) (slot : Nat) : State :=
  let s := s.putBase s.flashUp slot none
  { s with nvm := { s.nvm with eraseBase := s.nvm.eraseBase.set slot (s.nvm.eraseBase.getD slot 0 + 1) } }

/-- The superblock in effect replaced by its successor (R697). -/
def State.newSuperblock (s : State) (f : Superblock → Superblock) : State :=
  match s.nvm.active with
  | none => s
  | some b =>
    let b := { f b with seq := b.seq + 1, epochHwm := s.coh.hwm }
    let put := fun (d : Nat) (l : List Bytes) => if d ∈ s.flashUp then addBlock l b.bytes else l
    { s with nvm := { s.nvm with sb0 := put 0 s.nvm.sb0, sb1 := put 1 s.nvm.sb1, active := some b } }

/-- Whether compaction is due (R708); an update that is open holds it back, since both write inactive slots. -/
def State.compactDue (s : State) : Bool :=
  (decide (ringPages * 3 < s.nvm.usedPages * 4) || decide (50000 < s.liveRecords.length) || s.nvm.compactAsked) &&
    !s.nvm.compacting && decide (s.nvm.upd.phase ≠ 1) && s.nvm.active.isSome && s.nvm.base.isSome

/-- The SEQ of the active superblock. -/
def State.sbSeq (s : State) : Nat :=
  match s.nvm.active with
  | some b => b.seq
  | none => 0

/-- COMPACTION_START (R708, R726): S is fixed and the inactive base slot erased. -/
def execCompactionStart (s : State) : Res :=
  whenWorking s <|
    if !s.compactDue then .next s
    else
      let last := match s.nvm.journal.getLast? with
        | some r => max r.seq (s.replayFrom - 1)
        | none => s.replayFrom - 1
      let s := s.eraseSlot s.otherBase
      let s := { s with nvm := { s.nvm with compacting := true, compactSeq := last, compactFailed := false, compactAsked := false } }
      match s.nvm.compactToken with
      | some (t, false) =>
        .next (({ s with nvm := { s.nvm with compactToken := none } }).adminDone t stSuccess [(24, le 8 s.sbSeq)])
      | _ => .next s

/-- The command that waits for step 4 completed (R726). -/
def State.compactDone (s : State) (status : Nat) : State :=
  match s.nvm.compactToken with
  | some (t, _) =>
    ({ s with nvm := { s.nvm with compactToken := none } }).adminDone t status [(24, le 8 s.sbSeq)]
  | none => s

/-- The header of a compacted image (*Base image contents*): BANK_ID and SECTIONS as in the image it came from. -/
def compactHead (b : BaseImage) (len : Nat) : Bytes :=
  imageHeader 0x42415345 (leNat (bytesAt b.head 8 8)) len (leNat (bytesAt b.head 20 4)) 0

/-- COMPACTION_COMPLETE (R708, R710): the merged image read back; a superblock names it, or compaction stops. -/
def execCompactionComplete (mergedLen : Nat) (hashOk : Bool) (s : State) : Res :=
  whenWorking s <|
    if !s.nvm.compacting then .next s
    else
      let s := { s with nvm := { s.nvm with compacting := false } }
      match s.nvm.base with
      | none => .next s
      | some b =>
        if FlashRegion.baseA.size < mergedLen ∨ !hashOk then
          let s := { s with nvm := { s.nvm with compactFailed := true } }
          .next ((s.event 0xB008 3 []).compactDone stInternalError)
        else
          let upTo := s.nvm.compactSeq
          let (hash, s) := s.drawBytes 32
          let (imageLen, s) := s.draw (mergedLen + 1)
          let merged := mergeRecords b (s.liveRecords.filter fun r => decide (r.seq ≤ upTo)) [0, 1]
          let merged : BaseImage := { merged with
            head := compactHead b imageLen, ownerOk := false, macOk := true, deviceSectionOk := true, len := mergedLen, hash
            keys := s.ldg.keys.entries, keySel := some s.ldg.keySel }
          let slot := s.otherBase
          let s := s.putBase s.flashUp slot (some merged)
          let off := s.offsetFrom (upTo + 1)
          let s := s.newSuperblock fun b => { b with
            baseSlot := slot, baseLen := mergedLen, replayFrom := upTo + 1, journalOffset := off, baseHash := hash }
          let s := { s with nvm := { s.nvm with base := some merged, usedPages := s.pagesFrom (upTo + 1) } }
          let s := (s.count1 C.nvmCompactions).event 0xB007 1 [.w s.sbSeq]
          .next (s.compactDone stSuccess)

/-- NVM_COMPACT (R726). -/
def execNvmCompact (r : AdminRef) (flags : Nat) (s : State) : Res :=
  runAdmin true false r s fun s =>
    if 2 ≤ flags then failWith s stInvalidField
    else if s.nvm.compacting ∨ s.nvm.compactToken.isSome then failWith s stBusy
    else if s.nvm.base.isNone then failWith s stInternalError
    else
      let t := s.tok r
      ({ s with nvm := { s.nvm with compactAsked := true, compactToken := some (t, decide (flags = 1)) } }, none)

/-- NVM_STATUS (R727). -/
def execNvmStatus (r : AdminRef) (s : State) : Res :=
  runAdmin true true r s fun s =>
    let compact := if s.nvm.compacting then 1 else if s.nvm.compactFailed then 2 else 0
    let wear := s.nvm.eraseJournal.values
    (s, some (stSuccess, [(16, le 1 (s.unit .flash 0 0).state.code ++ le 1 (s.unit .flash 0 1).state.code ++ le 1 compact ++
      le 1 s.mgt.stage.code ++ le 4 (s.nvm.usedPages / 4) ++ le 8 s.sbSeq ++ le 8 s.lastSeq ++ le 4 s.liveRecords.length ++
      le 4 s.coh.hwm ++ le 4 (s.nvm.eraseBase.foldl max 0) ++ le 4 (wear.foldl max 0) ++
      le 4 (wear.foldl (· + ·) 0 / poolSectors) ++ le 2 s.recentPersist)]))

/-! ### Flash devices (R696, R712, R749) -/

/-- FLASH_OPERATION_FAILED (R696): a device has failed three operations in a row. -/
def execFlashOperationFailed (dev : Nat) (s : State) : Res :=
  whenWorking s <|
    if dev ∈ s.flashUp then .next ((s.setFlashFailures dev 2).flashFailed dev) else .next s

/-- FLASH_REFRESH (R712), once every 24 h: every structure that fails its check rewritten from the mirror. -/
def execFlashRefresh (failing : List Nat) (s : State) : Res :=
  whenWorking s <|
    if s.now < s.nvm.refreshedAt + 86400 * secStamp then .next s
    else
      let s := { s with nvm := { s.nvm with refreshedAt := s.now } }
      if s.flashUp.length < 2 then .next s
      else .next (failing.foldl (fun (s : State) _ => (s.count1 C.nvmRefresh).event 0xB00C 2 []) s)

/-- The slots of a device copied from the other one. -/
def copySlots {α : Type} (t : Table α) (dev : Nat) : Table α :=
  [0, 1].foldl (fun (x : Table α) slot => putSlot x [dev] slot (t.get? (2 * (1 - dev) + slot))) t

/-- FLASH_RESYNC_COMPLETE (R749): the device that was behind at boot holds the store. -/
def execFlashResyncComplete (dev : Nat) (s : State) : Res :=
  whenWorking s <|
    if s.nvm.bootSkewed ≠ some dev then .next s
    else
      let s := { s with
        nvm := { s.nvm with
          bootSkewed := none
          sb0 := if dev = 0 then s.nvm.sb1 else s.nvm.sb0
          sb1 := if dev = 0 then s.nvm.sb1 else s.nvm.sb0
          fw := copySlots s.nvm.fw dev
          bases := copySlots s.nvm.bases dev
          journal := s.nvm.journal.map fun (r : JrnRec) =>
            { r with headerOk := [0, 1], markerOk := if r.markerOk = [] then [] else [0, 1] } }
        ldg := if dev = 0 then { s.ldg with ckpt0 := s.ldg.ckpt1 } else { s.ldg with ckpt1 := s.ldg.ckpt0 } }
      .next (s.moveUnit .flash 0 dev .inService 0)

/-! ### The update window (R713 to R716) -/

/-- The state with the update changed. -/
def State.modUpd (s : State) (f : UpdateSt → UpdateSt) : State := { s with nvm := { s.nvm with upd := f s.nvm.upd } }

/-- RW bits of NVM_UPD_CTRL stored as written (R730). -/
def State.putUpdCtrl (s : State) (data : Word) : State := s.setReg Reg.nvmUpdCtrl (data.toNat % 16 / 4 * 4)

/-- The firmware slot that is not in effect. -/
def State.otherFw (s : State) : Nat :=
  match s.nvm.active with
  | some b => 1 - b.fwSlot
  | none => 1

/-- The content of a firmware slot set. -/
def State.putFw (s : State) (devices : List Nat) (slot : Nat) (f : Option FirmwareInfo) : State :=
  { s with nvm := { s.nvm with fw := putSlot s.nvm.fw devices slot f } }

/-- The results of `NVM_UPD_STATUS.RESULT` (R730). -/
def updOk : Nat := 0
def updSignature : Nat := 1
def updSvn : Nat := 2
def updLength : Nat := 3
def updProgram : Nat := 4
def updBusy : Nat := 5
def updAborted : Nat := 6

/-- UPDATE_OPEN (R713). -/
def execUpdateOpen (data : Word) (s : State) : Res :=
  whenWorking s <|
    if !s.mgt.fwRuns ∧ !s.mgt.updateOpen then .next s
    else if s.nvm.compacting ∨ s.nvm.upd.phase = 1 then .next ((s.putUpdCtrl data).modUpd fun u => { u with result := updBusy })
    else
      let s := s.putUpdCtrl data
      let target := data.toNat / 4 % 2
      let s := if target = 0 then s.putFw s.flashUp s.otherFw none else s.eraseSlot s.otherBase
      .next (s.modUpd fun _ => { UpdateSt.init with phase := 1, target, devices := s.flashUp })

/-- The size of a target's slot (R694). -/
def slotSize (target : Nat) : Nat := (slotRegion target 0).size

/-- UPDATE_WINDOW_PROGRAM (R714): the write of the window's last word. -/
def execUpdateWindowProgram (last : Word) (s : State) : Res :=
  whenWorking s <|
    let u := s.nvm.upd
    if u.phase ≠ 1 ∨ u.busy ∨ slotSize u.target ≤ u.offset then .next s
    else .next (s.modUpd fun u => { u with busy := true, window := u.window.set 1023 last })

/-- An update ended by ABORT (R716). -/
def State.abortUpdate (s : State) : State :=
  let s := s.modUpd fun u => { u with phase := 0, busy := false, abortWaiting := false, result := updAborted }
  s.event 0xB00B 1 [.q s.nvm.upd.target, .q updAborted]

/-- UPDATE_PROGRAM_COMPLETE (R695, R696, R714, R716): the window is programmed, or not, in each device in service that holds those
before it. One that no device holds leaves the offset and gives RESULT PROGRAM (assumption 129). -/
def execUpdateProgramComplete (ok : FlashOk) (s : State) : Res :=
  whenWorking s <|
    if !s.nvm.upd.busy then .next s
    else
      let done := okOf ok.flash0 ok.flash1
      let tried := s.flashUp.filter fun d => decide (d ∈ s.nvm.upd.devices)
      let good := tried.filter done
      let s := tried.foldl (fun (s : State) d => s.flashDid d (done d)) s
      let s := s.modUpd fun u =>
        if good ≠ [] then
          { u with busy := false, offset := u.offset + 4096, programmed := u.programmed + 4096, window := .empty, devices := good }
        else { u with busy := false, result := updProgram, window := .empty }
      .next (if s.nvm.upd.abortWaiting then s.abortUpdate else s)

/-- RESULT of the check of a firmware image (R688, R715). -/
def State.fwResult (s : State) (fw : Option FirmwareInfo) : Nat :=
  match fw with
  | some f => if !f.deviceOk || !f.sigOk then updSignature else if f.svn < s.mgt.fusedMin then updSvn else updOk
  | none => updSignature

/-- RESULT of the check of a base image under the owner key (R691, R715). -/
def baseResult (base : Option BaseImage) : Nat :=
  match base with
  | some b => if b.ownerOk && b.sectionsOk then updOk else updSignature
  | none => updSignature

/-- UPDATE_CLOSE (R715): the image checked and, with ACTIVATE, named by a superblock. -/
def execUpdateClose (data : Word) (fw : Option FirmwareInfo) (base : Option BaseImage) (s : State) : Res :=
  whenWorking s <|
    let u := s.nvm.upd
    if u.phase ≠ 1 ∨ u.busy then .next s
    else
      let s := s.putUpdCtrl data
      let len := s.fld F.nvmUpdLen_bytes
      let result :=
        if u.result = updProgram then updProgram
        else if u.programmed < len ∨ len = 0 then updLength
        else if u.target = 0 then s.fwResult fw
        else baseResult base
      let s := s.modUpd fun u => { u with phase := 3, result }
      let s :=
        if result ≠ updOk then s
        else if u.target = 0 then s.putFw u.devices s.otherFw fw
        else s.putBase u.devices s.otherBase (base.map fun b => { b with
          deviceSectionOk := true, keys := s.ldg.keys.entries, keySel := some s.ldg.keySel })
      let s :=
        if result ≠ updOk ∨ data.toNat / 8 % 2 = 0 then s
        else if u.target = 0 then
          let slot := s.otherFw
          let hash := match fw with
            | some f => f.hash
            | none => []
          s.newSuperblock fun b => { b with fwSlot := slot, fwHash := hash }
        else
          let slot := s.otherBase
          let next := s.nvm.nextSeq
          let off := s.offsetFrom next
          let hash := match base with
            | some b => b.hash
            | none => []
          let s := s.newSuperblock fun b => { b with
            baseSlot := slot, baseLen := len, replayFrom := next, journalOffset := off, baseHash := hash }
          { s with nvm := { s.nvm with usedPages := s.pagesFrom next } }
      .next (s.event 0xB00B 1 [.q u.target, .q result])

/-- UPDATE_ABORT (R716). -/
def execUpdateAbort (s : State) : Res :=
  whenWorking s <|
    if s.nvm.upd.phase ≠ 1 then .next s
    else if s.nvm.upd.busy then .next (s.modUpd fun u => { u with abortWaiting := true })
    else .next s.abortUpdate

end Sys2Proof.Machine
end

