-- ==== Sys2Proof/Machine/ConfigSpace.lean ====
section
/-! DEFINITION. What the configuration space of a function reads, and what of it a reset keeps (R589, R590, R592, R593, R619).
Layouts of capabilities are those of the PCI Express base specification, which the spec names. -/

namespace Sys2Proof.Machine

/-! ### Capabilities in effect -/

/-- Whether a capability table offers a capability to the PF, or to the VFs (*Configuration space*). -/
def capOffered (c : CapTable) (k : CapKind) (vf : Bool) : Bool :=
  match k with
  | .sriov => c.sriov && !vf
  | .doe => c.doe && !vf
  | .ats => c.ats
  | .tph => c.tph
  | .serial | .dataLink | .phys16 | .margining | .phys32 | .phys64 | .phys128 => !vf
  | .pm | .msix | .pcie | .aer | .ari => true

/-- Whether a capability stands in the first 256 bytes. -/
def capLegacy (k : CapKind) : Bool := decide (k = .pm ∨ k = .msix ∨ k = .pcie)

/-- The capability's ID; that of the 128.0 GT/s one is not given. -/
def capId (k : CapKind) : Nat :=
  match k with
  | .pm => 0x01
  | .pcie => 0x10
  | .msix => 0x11
  | .aer => 0x01
  | .serial => 0x03
  | .ari => 0x0E
  | .ats => 0x0F
  | .sriov => 0x10
  | .tph => 0x17
  | .dataLink => 0x25
  | .phys16 => 0x26
  | .margining => 0x27
  | .phys32 => 0x2A
  | .doe => 0x2E
  | .phys64 => 0x31
  | .phys128 => Config.phys128Id

/-- The capabilities of the PF or of the VFs in the order of their chain, with their offsets (R589). -/
def capChain (c : CapTable) (vf : Bool) : List (CapKind × Nat) :=
  (c.layout.filter fun e => decide (e.2.1 = vf) && capOffered c e.1 vf).map fun e => (e.1, e.2.2)

/-- The fallback table (R592). -/
def fallbackCaps : CapTable :=
  { layout := Config.fallbackLayout, pfVectors := 1, vfTable := 0, vfOffset := 1, vfStride := 1, subsystem := 0, sriov := false,
    ats := false, tph := false, doe := false }

/-- The capability table in effect; the fallback table while there is none. -/
def State.capsNow (s : State) : CapTable := s.hif.caps.getD fallbackCaps

/-- The chain of a function. -/
def State.chainOf (s : State) (fn : Nat) : List (CapKind × Nat) := capChain s.capsNow (decide (fn ≠ 0))

/-- Whether a configuration offset lies `within` a capability of a function. -/
def State.capAt (s : State) (fn offset : Nat) (k : CapKind) (within : Nat) : Bool :=
  (s.chainOf fn).any fun e => decide (e = (k, offset - within) ∧ within ≤ offset)

/-- Vectors of a function's MSI-X table (R624). -/
def State.tableSize (s : State) (fn : Nat) : Nat := if fn = 0 then s.capsNow.pfVectors else s.capsNow.vfTable

/-! ### What a Function Level Reset keeps (R590) -/

/-- The dwords that keep their contents: the sticky fields of AER, and the fields of the link. -/
def State.stickyCfg (s : State) (fn offset : Nat) : Bool :=
  ([8, 0xC, 0x14, 0x18] : List Nat).any (fun d => s.capAt fn offset .aer d) ||
    ([8, 0x10, 0x30] : List Nat).any fun d => s.capAt fn offset .pcie d

/-- The configuration space of a function after a reset; of Device Control only Max_Payload_Size stays. -/
def State.cfgKept (s : State) (fn : Nat) : Table Word :=
  ((s.fn fn).cfg.filter fun o _ => s.stickyCfg fn o).map fun o w => if s.capAt fn o .pcie 8 then w &&& 0xE0 else w

/-- A function with the configuration bits cleared that a Function Level Reset clears. -/
def FnSt.cleared (cfg : Table Word) (f : FnSt) : FnSt :=
  { f with
    admin := { AdminQ.init with setup := f.admin.setup + 1 }, busMaster := false, d3hot := false, roEnable := true,
    idoEnable := false, atsEnable := false, tphEnable := false, tphExt := false, cplTimeout := 0, mrrs := 512, maskAll := false,
    msixEnable := false, vecUnmasked := [], vecPending := [], devErr := 0, status := 0, cfg }

/-! ### Reading -/

/-- Whether a non-posted request of a function is outstanding or quarantined (R619). -/
def State.transactionsPending (s : State) (fn : Nat) : Bool :=
  (s.hif.reads.values ++ s.hif.quarantined.values).any fun r => decide (r.fn = fn)

/-- A dword of the BARs (R593): each is 64-bit, its base writable down to its size. The VFs' BARs are those of the SR-IOV
capability, and their own read 0. -/
def barDword (fn offset v : Nat) : Nat :=
  if fn ≠ 0 then 0
  else match offset with
    | 0x10 => v / 0x10000000 * 0x10000000 + 4
    | 0x18 => v / 0x1000000 * 0x1000000 + 0xC
    | 0x20 => v / 0x10000 * 0x10000 + 4
    | _ => v

/-- A dword of the VF BARs in the SR-IOV capability (R593): 64 KiB for each VF in VF BAR0 and VF BAR4; VF BAR2 is not offered. -/
def vfBarDword (within v : Nat) : Nat :=
  match within with
  | 0x24 => v / 0x10000 * 0x10000 + 0xC
  | 0x34 => v / 0x10000 * 0x10000 + 4
  | 0x28 | 0x38 => v
  | _ => 0

/-- The code of the Max_Read_Request_Size in effect. -/
def mrrsCode (n : Nat) : Nat := ((List.range 6).find? fun k => decide (128 * 2 ^ k = n)).getD 0

/-- The fields of the PCI Express capability that the device fixes or holds itself, put into the rest of a dword. -/
def State.pcieFixed (s : State) (fn within w : Nat) : Nat :=
  let f := s.fn fn
  match within with
  | 0 => putBits w 16 8 2
  | 4 => putBits (putBits w 0 3 2) 28 1 1
  | 8 => putBits (putBits (putBits (putBits (putBits w 4 1 (b2n f.roEnable)) 12 3 (mrrsCode f.mrrs)) 15 1 0) 16 4 f.devErr) 21 1
      (b2n (s.transactionsPending fn))
  | 0x10 => putBits (putBits (putBits w 16 4 s.hif.rate) 20 6 s.hif.width) 30 2 0
  | 0x24 => putBits w 0 5 0xF
  | 0x28 => putBits (putBits w 0 4 f.cplTimeout) 8 1 (b2n f.idoEnable)
  | _ => w

/-- The same of the SR-IOV capability. -/
def State.sriovFixed (s : State) (within w : Nat) : Nat :=
  let c := s.capsNow
  match within with
  | 8 => putBits (putBits (putBits w 0 1 (b2n s.hif.vfEnable)) 3 1 (b2n s.hif.vfMse)) 4 1 (b2n s.hif.ari)
  | 0xC => 0x10001000
  | 0x10 => putBits w 0 16 s.hif.numVfs
  | 0x14 => c.vfOffset + c.vfStride * 65536
  | 0x18 => 0x96410000
  | _ => if 0x24 ≤ within ∧ within < 0x3C then vfBarDword within w else w

/-- The same of the other capabilities. -/
def State.capFixed (s : State) (fn : Nat) (k : CapKind) (within w : Nat) : Nat :=
  let f := s.fn fn
  match k, within with
  | .pm, 0 => putBits w 27 5 0
  | .pm, 4 => putBits w 0 2 (if f.d3hot then 3 else 0)
  | .aer, 4 => f.aerUnc
  | .aer, 0x10 => f.aerCor
  | .aer, 0x18 => putBits (putBits w 5 1 1) 7 1 1
  | .msix, 0 => putBits (putBits (putBits w 16 11 (s.tableSize fn - 1)) 30 1 (b2n f.maskAll)) 31 1 (b2n f.msixEnable)
  | .msix, 4 => 4
  | .msix, 8 => 0x8004
  | .ats, 4 => putBits (putBits w 0 6 0x20) 31 1 (b2n f.atsEnable)
  | .tph, 4 => putBits (putBits w 8 1 1) 9 2 2
  | .tph, 8 => putBits w 8 2 (if f.tphExt then 3 else b2n f.tphEnable)
  | .serial, 4 => s.mgt.serial % 2 ^ 32
  | .serial, 8 => s.mgt.serial / 2 ^ 32
  | .pcie, _ => s.pcieFixed fn within w
  | .sriov, _ => s.sriovFixed within w
  | _, _ => w

/-- The header of a capability: its ID and where the next of its list stands (R589). -/
def capHeader (chain : List (CapKind × Nat)) (k : CapKind) (offset w : Nat) : Nat :=
  let list := chain.filter fun e => capLegacy e.1 == capLegacy k
  let next := match (list.dropWhile fun e => decide (e.2 ≠ offset)).drop 1 with
    | e :: _ => e.2
    | [] => 0
  if capLegacy k then putBits (putBits w 0 8 (capId k)) 8 8 next else putBits (putBits w 0 16 (capId k)) 20 12 next

/-- The capability of a function that an offset lies in: the last that begins at or before it. -/
def State.capOf (s : State) (fn offset : Nat) : Option (CapKind × Nat) :=
  (s.chainOf fn).foldl (fun (a : Option (CapKind × Nat)) e =>
    if offset < e.2 ∨ (offset < 0x100) ≠ (e.2 < 0x100) then a
    else match a with
      | some b => if e.2 < b.2 then a else some e
      | none => some e) none

/-- The reset value of a dword that the host may write: the masks and severities of AER are not 0. -/
def State.cfgReset (s : State) (fn offset : Nat) : Word :=
  if s.capAt fn offset .aer 8 then 0x00400000
  else if s.capAt fn offset .aer 0xC then 0x00462030
  else if s.capAt fn offset .aer 0x14 then 0x00002000
  else 0

/-- What a dword of the configuration space reads (R589, R590, R593, R619). -/
def State.configRead (s : State) (fn offset : Nat) : Nat :=
  let f := s.fn fn
  let held := (f.cfg.getD offset (s.cfgReset fn offset)).toNat
  let stored := mergeBits (Config.configWord fn offset) held (Config.configRw fn offset)
  if offset = 0 then 0x1E6B + (if fn = 0 then 0x9640 else 0x9641) * 65536
  else if offset = 4 then putBits (putBits (putBits stored 1 1 (b2n f.memEnable)) 2 1 (b2n f.busMaster)) 16 16 (f.status ||| 0x10)
  else if offset = 8 then putBits stored 8 24 0x020000
  else if 0x10 ≤ offset ∧ offset < 0x28 then barDword fn offset held
  else if offset = 0x2C then s.capsNow.subsystem
  else if offset = 0x34 then match (s.chainOf fn).find? (capLegacy ·.1) with
    | some e => e.2
    | none => 0
  else match s.capOf fn offset with
    | none => stored
    | some (k, at_) =>
      let w := s.capFixed fn k (offset - at_) (if k = .sriov ∧ 0x24 ≤ offset - at_ then held else stored)
      if offset = at_ then capHeader (s.chainOf fn) k offset w else w

end Sys2Proof.Machine
end

