-- ==== Sys2Proof/Machine/Queues.lean ====
section
/-! DEFINITION. Functions, queues and doorbells (R622 to R683): fetching, doorbells, the admin queue, work queues, notification
rings, SEND and RECV, VF reset. -/

namespace Sys2Proof.Machine

/-! ### Fetching (R587, R644) -/

/-- How many entries of a list one request reads: consecutive ones from the slot of the first to the end of the ring, of its page or
of the size in effect at most. Ring size, entries that fit. -/
def runLength (size : Nat) : Nat → List Word → Nat
  | 0, _ => 0
  | _, [] => 0
  | _ + 1, [_] => 1
  | k + 1, i :: j :: l => if j = i + 1 ∧ (i.toNat + 1) % size ≠ 0 then 1 + runLength size k (j :: l) else 1

/-- Requests that fetch entries of a ring: fuel, function, item, base, size, entries (R587, R630). -/
def State.fetchReads : Nat → Nat → ReadItem → Nat → Nat → List Word → State → State
  | 0, _, _, _, _, _, s => s
  | _, _, _, _, _, [], s => s
  | k + 1, fn, item, base, size, i :: l, s =>
    let addr := base + i.toNat % size * 64
    let n := runLength size (min ((s.fn 0).mrrs / 64) (64 - addr / 64 % 64)) (i :: l)
    if !s.tagRoom then s
    else State.fetchReads k fn item base size ((i :: l).drop n) (s.issueRead fn item i addr (n * 64))

/-- Indices from one on: count, first. -/
def indexRange (n : Nat) (h : Word) : List Word := (List.range n).map fun i => h + BitVec.ofNat 32 i

/-- The posted entries of a WQ that have not started, as far as the device looks ahead. -/
def WqSt.ahead (q : WqSt) : List Word := q.reread ++ indexRange (min 64 (q.prod - q.next).toNat) q.next

/-- Bytes that outstanding reads of an item are to bring. -/
def State.onOrder (s : State) (item : ReadItem) : Nat :=
  (s.hif.reads.values.filter fun r => decide (r.item = item)).foldl (fun a r => a + r.need) 0

/-- Posted entries of a WQ fetched ahead, up to 32 that have not started (R644), receive buffers that wait among them. -/
def State.fetchWq (s : State) (w : Nat) : State :=
  match s.qm.wqs.get? w with
  | none => s
  | some q =>
    let held := q.fetched + s.onOrder (.fetch w) / 64
    if q.state ≠ .active ∨ !s.mayIssue q.fn then s
    else State.fetchReads 32 q.fn (.fetch w) q.base (2 ^ q.log2) ((q.ahead.drop held).take (32 - held - q.posted.length)) s

/-- Posted entries of an admin queue fetched ahead. -/
def State.fetchAdmin (s : State) (fn : Nat) : State :=
  let a := (s.fn fn).admin
  let held := a.fetched + s.onOrder (.adminFetch fn) / 64
  if a.state ≠ .active ∨ !s.mayIssue fn then s
  else State.fetchReads 32 fn (.adminFetch fn) a.base 64 (((indexRange (a.prod - a.next).toNat a.next).drop held).take (32 - held)) s

/-! ### ERROR -/

/-- A WQ in ERROR (R652): no further fetch, its head block due, the copies of its host queue discarded (R194). -/
def State.wqError (s : State) (w status : Nat) (idx : Word) : State :=
  match s.qm.wqs.get? w with
  | none => s
  | some q =>
    if q.state ≠ .active then s
    else
      let s := (s.modWq w fun q => { q with
        state := .error, errStatus := status, errIndex := idx, fetched := 0, hbWaiting := true }).event 0xA010 2
          [.q q.fn, .q w, .q status]
      (s.queue (qHost w)).foldl State.discardHost s

/-- An admin queue in ERROR (R633), its head block written. -/
def State.adminError (s : State) (fn status : Nat) (idx : Word) : State :=
  (s.modFn fn fun f =>
    { f with admin := { f.admin with state := .error, errStatus := status, errIndex := idx, fetched := 0 } }).adminHb fn

/-! ### Doorbells (R596 to R598, R628 to R633) -/

/-- A request that the device answers with Unsupported Request (R598), reported under AER (R610). -/
def State.unsupportedReq (s : State) (fn : Nat) : State :=
  (((s.emit (.unsupported fn)).reportAer fn aerAdvisory (some 20) false).detect 1 0xA none .none false false).2

/-- A request of the host or a completion comes over the link, which is not idle then (R608), with its payload. -/
def State.touch (s : State) (octets : Nat) : State :=
  { s with hif := { s.hif with idleSince := s.now, l1 := false, rxOctets := s.hif.rxOctets + octets } }

/-- Whether a function decodes requests to its BARs (R598). -/
def State.fnDecodes (s : State) (fn : Nat) : Bool :=
  (s.fn fn).memEnable && (decide (fn = 0) || decide (fn ∈ s.hif.enabledVfs))

/-- A request to PF BAR0: served by a PF that decodes it (R598). -/
def viaBar0 (octets : Nat) (s : State) (k : State → Res) : Res :=
  if !s.hif.dlUp then .next s
  else
    let s := s.touch octets
    if !s.fnDecodes 0 then .next (s.unsupportedReq 0) else k s

/-- A doorbell discarded under R629. -/
def State.doorbellIgnored (s : State) (fn off : Nat) : State :=
  (s.count1 C.qmDbIgnored).event 0xA012 1 [.q fn, .q off]

/-- A doorbell that reaches a function: refused by one that does not decode it, discarded unless the write covers it whole
(R596). -/
def runDoorbell (fn off covered : Nat) (s : State) (body : State → State) : Res :=
  whenWorking s <|
    if 4096 < fn ∨ !s.hif.dlUp then .next s
    else
      let s := s.touch covered
      if !s.fnDecodes fn then .next (s.unsupportedReq fn)
      else if covered < 8 then .next ((s.count1 C.hifBadAccess).event 0xA009 1 [.q off])
      else .next (body s)

/-- The local index that a doorbell offset names within an array of doorbells (R628). -/
def doorbellIndex (off base n : Nat) : Option Nat :=
  if base ≤ off ∧ off < base + 8 * n ∧ off % 8 = 0 then some ((off - base) / 8) else none

/-- The WQ of a function with a local index. -/
def State.localWq (s : State) (fn i : Nat) : Option (Nat × WqSt) :=
  s.qm.wqs.entries.find? fun e => decide (e.2.fn = fn ∧ e.2.localIdx = i)

/-- The NR of a function with a local index. -/
def State.localNr (s : State) (fn i : Nat) : Option (Nat × NrSt) :=
  s.qm.nrs.entries.find? fun e => decide (e.2.fn = fn ∧ e.2.localIdx = i)

/-- The WQ that a doorbell offset names: `none` for an offset without a WQ doorbell, `some none` for a WQ that is not there. -/
def State.doorbellWq (s : State) (fn off : Nat) : Option (Option (Nat × WqSt)) :=
  (doorbellIndex off 0x1000 (if fn = 0 then 65536 else 2048)).map (s.localWq fn)

/-- The NR that a doorbell offset names. -/
def State.doorbellNr (s : State) (fn off : Nat) : Option (Option (Nat × NrSt)) :=
  (doorbellIndex off (if fn = 0 then 0x100000 else 0x8000) (if fn = 0 then 65536 else 2048)).map (s.localNr fn)

/-- Fetched entries of a WQ that have not started discarded, each to be read again (R645): receive buffers that wait are among
them. -/
def State.invalidateWq (s : State) (w : Nat) : State :=
  let s := s.modWq w fun q => { q with
    reread := q.posted.map (·.1) ++ q.reread
    opened := q.opened.filter fun i => !(q.posted.any fun e => decide (e.1 = i))
    posted := [], fetched := 0 }
  (s.orphan fun i => decide (i = .fetch w)).count1 C.qmInvalidate

/-- A WQ doorbell (R629, R632, R633, R645, R653). -/
def State.wqDoorbell (s : State) (fn off v : Nat) (wq : Option (Nat × WqSt)) : State :=
  match wq with
  | none => s.doorbellIgnored fn off
  | some (w, q) =>
    if getBits v 32 31 ≠ 0 ∨ q.state ≠ .active then s.doorbellIgnored fn off
    else
      let s := if v.testBit 63 then s.invalidateWq w else s
      let p := BitVec.ofNat 32 v
      if 2 ^ q.log2 - (q.prod - q.head).toNat < (p - q.prod).toNat then
        (s.count1 C.qmOverpost).wqError w stOverpost q.prod
      else (s.modWq w fun q => { q with prod := p }).fetchWq w

/-- Fetched admin entries that have not started discarded (R645). -/
def State.invalidateAdmin (s : State) (fn : Nat) : State :=
  let s := s.modFn fn fun f => { f with admin := { f.admin with fetched := 0 } }
  (s.orphan fun i => decide (i = .adminFetch fn)).count1 C.qmInvalidate

/-- An admin doorbell with SETUP 0 (R629, R632, R633, R645). -/
def State.adminPost (s : State) (fn v : Nat) : State :=
  let a := (s.fn fn).admin
  if getBits v 32 30 ≠ 0 ∨ a.state ≠ .active then s.doorbellIgnored fn 0
  else
    let s := if v.testBit 63 then s.invalidateAdmin fn else s
    let p := BitVec.ofNat 32 v
    if 64 - (a.prod - a.head).toNat < (p - a.prod).toNat then (s.count1 C.qmOverpost).adminError fn stOverpost a.prod
    else (s.modFn fn fun f => { f with admin := { f.admin with prod := p } }).fetchAdmin fn

/-- Every outstanding entry of an admin queue in ERROR completed with ABORTED in its ring, and its head block written (R636). -/
def State.abortAdmin (s : State) (fn : Nat) : State :=
  let a := (s.fn fn).admin
  let out := (indexRange (a.prod - a.head).toNat a.head).filter (· ∉ a.finished)
  let s := out.foldl (fun (s : State) i => s.writeBack fn none (a.base + i.toNat % 64 * 64) stAborted []) s
  let s := (s.modFn fn fun f => { f with admin := { f.admin with head := a.prod } }).adminHb fn
  if a.head = a.prod then s else s.msix fn 0

/-- Whether a read is for an admin queue: a fetch, or what one of its commands reads. -/
def ofAdmin (fn : Nat) (i : ReadItem) : Bool :=
  match i with
  | .adminFetch f => decide (f = fn)
  | .admin r => decide (r.fn = fn)
  | _ => false

/-- Whether a read is for a WQ. -/
def ofWq (w : Nat) (i : ReadItem) : Bool :=
  match i with
  | .fetch v => decide (v = w)
  | .work r => decide (r.wq = w)
  | _ => false

/-- An admin doorbell with SETUP 1 (R629, R635, R636): the queue configured, or torn down by a BASE of 0. -/
def State.adminSetup (s : State) (fn v : Nat) : State :=
  let a := (s.fn fn).admin
  let base := getBits v 13 49 * 8192
  if v % 8192 ≠ 0 ∨ v.testBit 63 ∨ (a.state = .active ∧ a.prod ≠ a.head) ∨ (a.state = .free ∧ base = 0) then
    s.doorbellIgnored fn 0
  else
    let s := if a.state = .error then s.abortAdmin fn else s
    let st : QState := if base = 0 then .free else .active
    let new : AdminQ := { AdminQ.init with setup := a.setup + 1, base := base, state := st }
    let s := s.modFn fn fun f => { f with admin := new }
    let s := s.orphan (ofAdmin fn)
    s.event 0xA011 1 [.q fn]

/-- The ring's interrupt armed (R675): entries not consumed count as written now, and moderation values take effect. -/
def State.arm (s : State) (n : Nat) : State :=
  let now := s.now
  (s.modNr n fun r => { r with
    armed := true, sinceArm := r.used, firstAt := if r.used = 0 then none else some now,
    liveCount := r.modCount, liveTimerUs := r.modTimerUs }).nrRaise n

/-- An NR doorbell (R629, R672 to R675). -/
def State.nrDoorbell (s : State) (fn off v : Nat) (nr : Option (Nat × NrSt)) : State :=
  match nr with
  | none => s.doorbellIgnored fn off
  | some (n, r) =>
    let c := BitVec.ofNat 32 v
    if getBits v 32 31 ≠ 0 ∨ r.used < (c - r.cons).toNat then s.doorbellIgnored fn off
    else
      let s := (s.modNr n fun r => { r with cons := c }).nrServe n r
      if v.testBit 63 then s.arm n else s

/-- A whole doorbell written: the offset says which it is (R628, R629). -/
def State.doorbell (s : State) (fn off v : Nat) : State :=
  if off = 0 then (if v.testBit 62 then s.adminSetup fn v else s.adminPost fn v)
  else match s.doorbellWq fn off, s.doorbellNr fn off with
    | some wq, _ => s.wqDoorbell fn off v wq
    | none, some nr => s.nrDoorbell fn off v nr
    | none, none => s.count1 C.qmDbIgnored

/-- A doorbell's value with bit 63, INVALIDATE or ARM, set. -/
def withTop (v : DWord) : Nat := v.toNat % 2 ^ 63 + 2 ^ 63

/-- WQ_DOORBELL (R628, R629, R632, R633). -/
def execWqDoorbell (fn off : Nat) (value : DWord) (covered : Nat) (s : State) : Res :=
  runDoorbell fn off covered s fun s => s.doorbell fn off value.toNat

/-- WQ_INVALIDATE (R645): a WQ or admin doorbell with INVALIDATE set; an admin doorbell has SETUP 0. -/
def execWqInvalidate (fn off : Nat) (value : DWord) (s : State) : Res :=
  let v := withTop value
  runDoorbell fn off 8 s fun s => s.doorbell fn off (if off = 0 then putBits v 62 1 0 else v)

/-- ADMIN_DOORBELL with SETUP 0 (R632). -/
def execAdminDoorbell (fn off : Nat) (value : DWord) (covered : Nat) (s : State) : Res :=
  runDoorbell fn off covered s fun s => s.doorbell fn off value.toNat

/-- ADMIN_SETUP (R635, R636): SETUP 1 with a BASE. -/
def execAdminSetup (fn : Nat) (value : DWord) (s : State) : Res :=
  runDoorbell fn 0 8 s fun s => s.doorbell fn 0 (putBits value.toNat 62 1 1)

/-- ADMIN_TEARDOWN (R635, R636): SETUP 1 with BASE 0. -/
def execAdminTeardown (fn : Nat) (value : DWord) (s : State) : Res :=
  runDoorbell fn 0 8 s fun s => s.doorbell fn 0 (putBits (putBits value.toNat 13 49 0) 62 1 1)

/-- NR_DOORBELL (R672 to R674). -/
def execNrDoorbell (fn off : Nat) (value : DWord) (covered : Nat) (s : State) : Res :=
  runDoorbell fn off covered s fun s => s.doorbell fn off value.toNat

/-- NR_ARM (R675): an NR doorbell with ARM. -/
def execNrArm (fn off : Nat) (value : DWord) (s : State) : Res :=
  runDoorbell fn off 8 s fun s => s.doorbell fn off (withTop value)

/-- NR_MODERATION_TIMER (R675). -/
def execNrModerationTimer (nr : Nat) (s : State) : Res := whenWorking s (.next (s.nrRaise nr))

/-- HEAD_BLOCK_WRITE (R649 to R652, R669 to R671, R676): the head block of a WQ that waits, then its notification. -/
def execHeadBlockWrite (wq : Nat) (s : State) : Res :=
  whenWorking s <|
    match s.qm.wqs.get? wq with
    | none => .next s
    | some q =>
      if !q.hbWaiting || !s.mayIssue q.fn then .next s
      else
        let s := s.dmaTo q.fn (s.wqVector q) .headBlock q.headBlock
          (headBlock q.head (if q.state = .error then 1 else 0) q.errStatus (s.fn q.fn).gen q.errIndex)
        .next ((s.modWq wq fun q => { q with hbWaiting := false }).notify wq)

/-! ### Simple admin commands -/

/-- How many values the field has that selects the operation of an opcode: SET_OP, OP or MODE of the opcodes that have several rows
here (R114, R250, R304, R309, R559, R654, R749). -/
def opCount (opcode : Nat) : Option Nat :=
  (([(0x06, 3), (0x30, 3), (0x38, 4), (0x39, 3), (0x42, 3), (0x50, 3), (0x60, 2)] : List (Nat × Nat)).find? (·.1 = opcode)).map (·.2)

/-- UNKNOWN_ADMIN_OPCODE (R639), and an operation that an opcode does not have, which is a reserved value (R19). -/
def execUnknownAdminOpcode (r : AdminRef) (what : OpcodeOp) (s : State) : Res :=
  let opcode := what.opcode
  let known := [0x00, 0x01, 0x02, 0x03, 0x04, 0x05, 0x06, 0x08, 0x09, 0x10, 0x11, 0x12, 0x13, 0x14, 0x20, 0x21, 0x22,
    0x23, 0x24, 0x30, 0x31, 0x32, 0x38, 0x39, 0x40, 0x41, 0x42, 0x48, 0x49, 0x50, 0x58, 0x60, 0x61, 0x62, 0x70, 0x71]
  if opcode ∈ known then
    match opCount opcode with
    | some n => if what.op < n then whenWorking s (.next s)
      else runAdmin (decide (opcode ∉ [0x06, 0x42])) false r s fun s => failWith s stInvalidField
    | none => whenWorking s (.next s)
  else runAdmin false true { r with rsvOk := true } s fun s => failWith s stInvalidOpcode

/-- NOP (R639). -/
def execNop (r : AdminRef) (s : State) : Res := runAdmin false true r s fun s => (s, some (stSuccess, []))

/-- IDENTIFY (R627). -/
def execIdentify (r : AdminRef) (s : State) : Res :=
  runAdmin false true r s fun s =>
    let f := s.fn r.fn
    let ctx := if r.fn = 0 then s.ctxQuota 0 - s.fnCtxs 0 else f.contexts
    let map := match s.nvm.base with | some b => if r.fn = 0 then b.counterMap.length else 0 | none => 0
    (s, some (stSuccess, [(16, le 2 r.fn), (18, le 2 f.gen.toNat), (20, le 4 (s.wqQuota r.fn)), (24, le 4 (s.nrQuota r.fn)),
      (28, le 2 f.vectors), (30, le 2 (s.view 0 % 65536)), (32, le 4 ctx), (36, le 4 map), (40, le 4 s.coh.epoch),
      (44, le 4 s.mgt.fwVersion.toNat), (48, le 8 s.mgt.serial)]))

/-! ### Work queues (R654 to R658, R680) -/

/-- WQs that count against a function's quota: those in use and those reserved to it (R680). -/
def State.heldWqs (s : State) (f : Nat) : Nat := s.fnWqs f + (s.qm.reserved.filter fun e => decide (e.2.1 = f)).length

/-- The NR that a command names for a WQ of a function: a status, or the global number to bind (R655, R656). -/
def State.nrFor (s : State) (fn nr : Nat) : Nat × Option Nat :=
  if nr = 0xFFFFFFFF then (stSuccess, none)
  else match s.localNr fn nr with
    | none => (stInvalidField, none)
    | some (n, r) => if r.report then (stNotPermitted, none) else (stSuccess, some n)

/-- The reserved number that a new WQ takes (R680): the lowest of its TYPE, with its local index. -/
def State.reservedFor (s : State) (fn type : Nat) : Option (Nat × Nat) :=
  ((s.qm.reserved.filter fun e => decide (e.2.1 = fn ∧ e.2.2.2 = type)).foldl (fun (a : Option (Nat × Nat)) e =>
    match a with
    | none => some (e.1, e.2.2.1)
    | some b => if e.1 < b.1 then some (e.1, e.2.2.1) else some b) none)

/-- Whether the fields of CREATE_WQ are in range and aligned (R654). -/
def wqArgsOk (a : WqArgs) : Bool :=
  decide (a.type ≤ 2 ∧ 6 ≤ a.log2Size ∧ a.log2Size ≤ 16 ∧ a.base % 4096 = 0 ∧ a.headBlock % 64 = 0) &&
    (if a.type = 1 then decide (256 ≤ a.bufSize ∧ a.bufSize ≤ 16384 ∧ a.bufSize % 64 = 0) else decide (a.bufSize = 0))

/-- A new work queue: ACTIVE, both indices 0. -/
def newWq (fn localIdx : Nat) (a : WqArgs) (nr : Option Nat) : WqSt :=
  { fn, localIdx, kind := a.type, log2 := a.log2Size, nr, base := a.base, headBlock := a.headBlock, bufSize := a.bufSize,
    prod := 0, head := 0, next := 0, opened := [], finished := [], state := .active, errStatus := 0, errIndex := 0,
    suspended := false, fetched := 0, hbWaiting := false, marks := .empty, nrPending := false, posted := [], reread := [] }

/-- The global and the local index of a new WQ: those of a reserved number that comes back (R680), else unused ones. -/
def State.newWqNumbers (s : State) (fn : Nat) (back : Option (Nat × Nat)) : Nat × Nat × State :=
  match back with
  | some x => (x.1, x.2, s)
  | none =>
    let (g, s) := s.pickFree 131072 (s.qm.wqs.keys ++ s.qm.reserved.map fun e => e.1)
    let mine := (s.qm.wqs.values.filter fun (q : WqSt) => decide (q.fn = fn)).map fun (q : WqSt) => q.localIdx
    let kept := (s.qm.reserved.filter fun e => decide (e.2.1 = fn)).map fun e => e.2.2.1
    let (i, s) := s.pickFree (if fn = 0 then 65536 else 2048) (mine ++ kept)
    (g, i, s)

/-- CREATE_WQ (R654, R655, R680). -/
def execCreateWq (r : AdminRef) (a : WqArgs) (s : State) : Res :=
  runAdmin false false r s fun s =>
    let (st, nr) := s.nrFor r.fn a.nr
    let back := s.reservedFor r.fn a.type
    if !wqArgsOk a || decide (st = stInvalidField) then failWith s stInvalidField
    else if st = stNotPermitted then failWith s stNotPermitted
    else if back.isNone && (decide (s.wqQuota r.fn ≤ s.heldWqs r.fn) ||
        decide (131072 ≤ s.qm.wqs.size + s.qm.reserved.length)) then failWith s stNoResource
    else
      let (g, i, s) := s.newWqNumbers r.fn back
      let q := newWq r.fn i a nr
      let s := s.modQm fun m => { m with wqs := m.wqs.set g q, reserved := m.reserved.filter (·.1 ≠ g) }
      let s := s.dmaTo r.fn (s.wqVector q) .headBlock a.headBlock (headBlock 0 0 0 (s.fn r.fn).gen 0)
      (s, some (stSuccess, [(48, le 4 g), (52, le 4 i)]))

/-- A WQ freed (R658, R680): its number reserved while a merge group or mirror session names it. -/
def State.freeWq (s : State) (w : Nat) (q : WqSt) : State :=
  let keep := if s.namesWq w then [(w, q.fn, q.localIdx, q.kind)] else []
  s.modQm fun m => { m with
    wqs := m.wqs.erase w
    reserved := m.reserved ++ keep
    nrs := m.nrs.map fun _ r => { r with order := r.order.erase w } }

/-- The connections that take their commands from a WQ. -/
def State.connsOf (s : State) (w : Nat) : List Nat :=
  (s.eng.conns.entries.filter fun e => decide (e.2.info.wq = w)).map (·.1)

/-- What a RECV entry that holds frame data leaves behind when it cannot complete: one post-disposition leaf per copy, none for a
mirror copy (R194). -/
def State.lostRecv (s : State) (e : RecvSt) (disp : Nat) : State :=
  if e.more ∨ e.flags.testBit 7 then s else s.postLeaf e.leaf disp

/-- SEND frames of some WQs that have not entered a slice gone, with no leaf (R658). -/
def State.dropSends (s : State) (mine : Nat → Bool) : State :=
  let gone := fun (f : Frame) => match f.origin with
    | .send w _ _ _ => mine w
    | _ => false
  { s with slices := s.slices.map fun _ y => { y with injWait := y.injWait.filter fun f => !gone f } }

/-- The items of a WQ in the crypto engines leave them (R658): a frame bound for the WQ goes on as it is, and its copy finds the WQ
gone. -/
def State.leaveEngines (s : State) (w : Nat) : State :=
  (s.cryptoItems.foldl (fun (s : State) c =>
    match s.tm.frames.get? c.frame with
    | some x => if x.frame.d.dest = some (.host w) ∧ x.frame.d.encrypt.isSome then s.itemOut c x x.frame.bytes else s
    | none => s) s).endContexts

/-- DESTROY_WQ on a WQ (R658). -/
def State.destroyWq (s : State) (w : Nat) (q : WqSt) : State :=
  let s := ((s.modWq w fun q => { q with state := .destroying }).orphan (ofWq w)).leaveEngines w
  let s := if q.kind = 2 then (s.connsOf w).foldl (fun (s : State) i => s.abortConn i 9) s else s
  let left := match s.qm.wqs.get? w with | some q => q.opened.length | none => 0
  let s := s.count C.qmAborted (q.opened.length - left) s.now
  let s := (s.queue (qHost w)).foldl State.discardHost s
  let s := (s.qm.recvs.filter (·.wq = w)).foldl (fun (s : State) e => s.lostRecv e 0x40) s
  let s := s.dropSends fun v => decide (v = w)
  let s := s.modQm fun m => { m with sends := m.sends.filter (·.wq ≠ w), recvs := m.recvs.filter (·.wq ≠ w) }
  match s.qm.wqs.get? w with
  | none => s
  | some q =>
    let out := (indexRange (q.prod - q.head).toNat q.head).filter (· ∉ q.finished)
    let s := out.foldl (fun (s : State) i =>
      (s.writeBack q.fn (s.wqVector q) (q.base + i.toNat % 2 ^ q.log2 * 64) stAborted []).count1 C.qmAborted) s
    let s := s.dmaTo q.fn (s.wqVector q) .headBlock q.headBlock
      (headBlock q.prod 2 q.errStatus (s.fn q.fn).gen q.errIndex)
    let s := s.modWq w fun q => { q with head := q.prod, hbWaiting := false }
    (if q.head = q.prod ∧ !q.hbWaiting then s else s.notify w).freeWq w q

/-- DESTROY_WQ (R658). -/
def execDestroyWq (r : AdminRef) (index : Nat) (s : State) : Res :=
  runAdmin false false r s fun s =>
    match s.localWq r.fn index with
    | none => failWith s stNotFound
    | some (w, q) => (s.destroyWq w q, some (stSuccess, []))

/-- MODIFY_WQ's checks on a WQ (R656): then its body. -/
def modifyWq (r : AdminRef) (index : Nat) (s : State) (body : Nat → WqSt → State → AdminRes) : Res :=
  runAdmin false false r s fun s =>
    match s.localWq r.fn index with
    | none => failWith s stNotFound
    | some (w, q) => if q.state = .error then failWith s stNotPermitted else body w q s

/-- MODIFY_WQ_SET_NR (R656, R657): a pending notification moves to the new ring. -/
def execModifyWqSetNr (r : AdminRef) (index nr : Nat) (s : State) : Res :=
  runAdmin false false r s fun s =>
    let (st, new) := s.nrFor r.fn nr
    if st = stInvalidField then failWith s stInvalidField
    else if st = stNotPermitted then failWith s stNotPermitted
    else match s.localWq r.fn index with
      | none => failWith s stNotFound
      | some (w, q) =>
        if q.state = .error then failWith s stNotPermitted
        else if q.nr = new then (s, some (stSuccess, []))
        else
          let s := s.modQm fun m => { m with nrs := m.nrs.map fun _ r => { r with order := r.order.erase w } }
          let s := s.modWq w fun q => { q with nr := new, nrPending := false }
          (if q.nrPending ∧ !q.hbWaiting then s.notify w else s, some (stSuccess, []))

/-- MODIFY_WQ_SUSPEND (R656). -/
def execModifyWqSuspend (r : AdminRef) (index : Nat) (s : State) : Res :=
  modifyWq r index s fun w _ s => (s.modWq w fun q => { q with suspended := true }, some (stSuccess, []))

/-- MODIFY_WQ_RESUME (R656). -/
def execModifyWqResume (r : AdminRef) (index : Nat) (s : State) : Res :=
  modifyWq r index s fun w _ s => (s.modWq w fun q => { q with suspended := false }, some (stSuccess, []))

/-- Whether the fields of CREATE_NR are in range (R667). -/
def nrArgsOk (a : NrArgs) : Bool :=
  decide (2 ≤ a.log2Size ∧ a.log2Size ≤ 16 ∧ 1 ≤ a.modCount ∧ a.modCount ≤ 256 ∧ a.modTimerUs ≤ 1000 ∧ a.base % 4096 = 0)

/-- CREATE_NR (R624, R667, R668). -/
def execCreateNr (r : AdminRef) (a : NrArgs) (s : State) : Res :=
  runAdmin a.report false r s fun s =>
    if !nrArgsOk a then failWith s stInvalidField
    else if a.report ∧ s.reportRing.isSome then failWith s stExists
    else if (s.fn r.fn).vectors ≤ a.vector ∨ s.nrQuota r.fn ≤ s.fnNrs r.fn ∨ 65536 ≤ s.qm.nrs.size then
      failWith s stNoResource
    else
      let (g, s) := s.pickFree 65536 s.qm.nrs.keys
      let (i, s) := s.pickFree (if r.fn = 0 then 65536 else 2048) ((s.qm.nrs.values.filter (·.fn = r.fn)).map (·.localIdx))
      let n : NrSt := { fn := r.fn, localIdx := i, log2 := a.log2Size, report := a.report, vector := a.vector,
                        modCount := a.modCount, modTimerUs := a.modTimerUs, liveCount := a.modCount,
                        liveTimerUs := a.modTimerUs, base := a.base, prod := 0, cons := 0, armed := false, sinceArm := 0,
                        firstAt := none, overflowed := false, carryOvf := false, order := [] }
      (s.modQm fun m => { m with nrs := m.nrs.set g n }, some (stSuccess, [(48, le 4 g), (52, le 4 i)]))

/-- DESTROY_NR (R668). -/
def execDestroyNr (r : AdminRef) (index : Nat) (s : State) : Res :=
  runAdmin false false r s fun s =>
    match s.localNr r.fn index with
    | none => failWith s stNotFound
    | some (n, _) =>
      if s.qm.wqs.values.any fun q => decide (q.nr = some n) then failWith s stBusy
      else (s.modQm fun m => { m with
          nrs := m.nrs.erase n, wqs := m.wqs.map fun _ q => { q with marks := q.marks.erase n } }, some (stSuccess, []))

/-- VF_SET_RESOURCES (R623, R625, R626). -/
def execVfSetResources (r : AdminRef) (vf vectors maxWq maxNr contexts : Nat) (s : State) : Res :=
  runAdmin true false r s fun s =>
    if vf = 0 ∨ 4096 < vf ∨ vectors = 0 ∨ 2048 < vectors ∨ 2048 < maxWq ∨ 2048 < maxNr ∨ 524288 < contexts then
      failWith s stInvalidField
    else if s.heldWqs vf ≠ 0 ∨ s.fnNrs vf ≠ 0 ∨ s.fnCtxs vf ≠ 0 ∨ (s.fn vf).resetting then failWith s stBusy
    else
      let others := fun (q : FnSt → Nat) => s.vfSum q - q (s.fn vf)
      if 131072 < others (·.maxWq) + maxWq + s.heldWqs 0 ∨ 65536 < others (·.maxNr) + maxNr + s.fnNrs 0 ∨
          65536 < others (·.vectors) + vectors + (s.fn 0).vectors ∨
          524288 < others (·.contexts) + contexts + s.fnCtxs 0 then failWith s stNoResource
      else (s.modFn vf fun f => { f with vectors, maxWq, maxNr, contexts }, some (stSuccess, []))

/-! ### SEND and RECV (R659 to R666) -/

/-- WORK_NOP (R642, R643): a NOP entry, or one of an opcode that R642 does not have. The opcodes that have commands of their own do
nothing here. -/
def execWorkNop (e : PlainEntry) (s : State) : Res :=
  let w := e.ref
  if e.opcode = 0x10 ∨ e.opcode = 0x11 ∨ e.opcode = 0x30 then whenWorking s (.next s)
  else runWork none w s fun _ s => s.workDone w.wq w.idx (if e.opcode = 0 then stSuccess else stBadEntry) []

/-- Whether the fields of a SEND entry keep the limits (R664). -/
def State.sendOk (s : State) (a : SendArgs) : Bool :=
  decide (14 ≤ a.length ∧ a.length ≤ 16379 ∧ a.cls ≤ 15 ∧ (a.relGroup ≤ 15 ∨ a.relGroup = 0xFF) ∧ a.frame.length = a.length) &&
    s.configured a.port

/-- Whether a VF's transmit shaper lets a SEND entry start (R523). -/
def State.vfTxHolds (s : State) (w : WorkRef) : Bool :=
  match s.qm.wqs.get? w.wq with
  | some q => decide (q.fn = 0) || (let r := s.vfTxRate q.fn; (s.tm.vfTx.getD q.fn ShaperSt.init).holds r.1 r.2 s.now)
  | none => true

/-- SEND (R378, R523, R664, R665, R753): the frame waits at the slice that owns PORT. -/
def execSend (w : WorkRef) (a : SendArgs) (s : State) : Res :=
  if !s.vfTxHolds w then whenWorking s (.next s)
  else runWork (some 0) w s fun q s =>
    let n := sliceOf a.port
    if !s.sendOk a then s.workDone w.wq w.idx stBadEntry []
    else if !s.up .slice 0 n then s.workDone w.wq w.idx stBusy []
    else
      let f := s.newFrame n injectionPort (.send w.wq w.idx q.fn a.port) s.now a.frame (max a.length 60 + 4)
      let rel := if a.relGroup = 0xFF then none else some (a.relGroup, fullStamp a.reqTime s.now)
      let f := { f with admClass := a.cls, d := { f.d with rel } }
      let e : SendSt := { wq := w.wq, idx := w.idx, gen := (s.fn q.fn).gen, frame := f.id, settled := false, left := 0,
                          copies := 0, stamp := 0, late := false, epoch := 0, disposition := 0 }
      let rate := s.vfTxRate q.fn
      let len := s.vfLen a.length s.liveMark
      let s := { (s.modSlice n fun y => { y with injWait := y.injWait ++ [f] }) with nextFrame := s.nextFrame + 1 }
      let s := s.modQm fun m => { m with sends := m.sends ++ [e] }
      if q.fn = 0 then s
      else { s with tm := { s.tm with
        vfTx := s.tm.vfTx.set q.fn ((s.tm.vfTx.getD q.fn ShaperSt.init).spend rate.1 rate.2 s.now len) } }

/-- SEND_COMPLETE (R663, R664, R666): the entry's write-back once its port copies are gone and its leaf index is fixed. -/
def execSendComplete (w : WorkRef) (s : State) : Res :=
  whenWorking s <|
    match s.qm.sends.find? fun e => decide (e.wq = w.wq ∧ e.idx = w.idx) with
    | none => .next s
    | some e =>
      match s.ldg.placed.get? e.frame, s.leafIndexOf e.frame with
      | some p, some i =>
        if !e.settled ∨ e.left ≠ 0 then .next s
        else
          let wb := [(32, if e.copies = 0 then zeros 12 else stampLe e.stamp), (44, le 4 e.epoch), (48, le 8 p.ream),
            (56, le 4 i), (60, le 1 (b2n e.late + 2 * b2n (decide (e.copies = 0)) + 4 * b2n p.recorded)),
            (61, le 1 e.disposition), (62, le 2 e.copies)]
          let s := s.modQm fun m => { m with sends := m.sends.filter fun x => !decide (x.wq = w.wq ∧ x.idx = w.idx) }
          .next ((s.workDone w.wq w.idx stSuccess wb).forget e.frame)
      | _, _ => .next s

/-- Whether a receive queue holds as many entries as it can (R644): 32, but as many as the next frame fills where it needs more. -/
def State.recvFull (s : State) (w : WorkRef) : Bool :=
  match s.qm.wqs.get? w.wq, s.queue (qHost w.wq) with
  | some q, c :: _ => decide (max 32 (ceilDiv c.len q.bufSize) ≤ q.posted.length)
  | some q, [] => decide (32 ≤ q.posted.length)
  | none, _ => false

/-- RECV (R644, R646, R659): a receive buffer posted; the entry is not held while 32 wait. -/
def execRecv (w : WorkRef) (addr : Nat) (s : State) : Res :=
  if s.recvFull w then whenWorking s (.next s)
  else runWork (some 1) w s fun _ s =>
    if addr % 64 ≠ 0 then s.workDone w.wq w.idx stBadEntry []
    else s.modWq w.wq fun q => { q with posted := q.posted ++ [(w.idx, addr)] }

/-- The write-back of a RECV entry (R285, R662). -/
def recvWb (e : RecvSt) (index : Nat) : List (Nat × Bytes) :=
  [(16, le 2 e.len), (18, le 1 e.leaf.port), (19, le 1 e.mergeGroup), (20, le 2 (e.flags + 0x100 * b2n e.more)),
    (22, le 1 e.firstCode), (23, le 1 e.cls), (24, stampLe e.leaf.stamp), (36, le 4 e.leaf.epoch), (40, le 8 e.ream),
    (48, le 4 index), (52, le 2 e.frameLen), (54, le 2 0), (56, le 8 e.mergeSeq)]

/-- RECV_WRITEBACK (R574, R662, R663): once the leaf index is fixed. -/
def execRecvWriteback (wq idx : Nat) (s : State) : Res :=
  whenWorking s <|
    match s.qm.recvs.find? fun e => decide (e.wq = wq ∧ e.idx.toNat = idx) with
    | none => .next s
    | some e =>
      match s.leafIndexOf e.leaf.frame with
      | none => .next s
      | some i =>
        if !s.frameMay then .next s
        else
        let s := s.modQm fun m => { m with recvs := m.recvs.filter fun x => !decide (x.wq = wq ∧ x.idx.toNat = idx) }
        .next (((s.workDone wq e.idx stSuccess (recvWb e i)).forget e.leaf.frame).linkServed true 64)

/-! ### Function reset (R677 to R682) -/

/-- Everything of a function in the queue structures gone, with nothing written to host memory; its host queues' copies and the
entries that hold frame data leave the leaf `disp` (R618, R678). `report` is whether discarded entries are reported. -/
def State.dropFunction (s : State) (fn disp : Nat) (old : BitVec 16) (report : Bool) : State :=
  let mine := s.qm.wqs.entries.filter fun e => decide (e.2.fn = fn)
  let s := { s with hif := { s.hif with
    waiting := s.hif.waiting.filter fun x => decide (x.1 ≠ fn)
    reads := s.hif.reads.map fun _ r => if r.fn = fn then { r with need := 0 } else r
    starting := s.hif.starting.filter fun d => decide (d.fn ≠ fn) } }
  let s := mine.foldl (fun (s : State) e => (s.queue (qHost e.1)).foldl (fun (s : State) c => s.dropCopy c disp) s) s
  let recvs := s.qm.recvs.filter fun e => mine.any fun m => decide (m.1 = e.wq)
  let s := recvs.foldl (fun (s : State) e =>
    let s := s.lostRecv e disp
    if report then s.genReport s.now e.wq e.idx.toNat hostIslandEngine fn old else s) s
  let sends := s.qm.sends.filter fun e => mine.any fun m => decide (m.1 = e.wq)
  let s := sends.foldl (fun (s : State) e =>
    if report then s.genReport s.now e.wq e.idx.toNat hostIslandEngine fn old else s) s
  let s := s.dropSends fun w => mine.any fun m => decide (m.1 = w)
  let s := s.modQm fun m => { m with
    sends := m.sends.filter fun e => !(mine.any fun x => decide (x.1 = e.wq))
    recvs := m.recvs.filter fun e => !(mine.any fun x => decide (x.1 = e.wq)) }
  let s := mine.foldl (fun (s : State) e => s.freeWq e.1 e.2) s
  let cfg := s.cfgKept fn
  (s.modQm fun m => { m with nrs := m.nrs.filter fun _ r => decide (r.fn ≠ fn) }).modFn fn (FnSt.cleared cfg)

/-- A VF reset begun (R575, R616, R678, R679): steps 1 to 5. -/
def State.startVfReset (s : State) (vf : Nat) (token : Option AdminTok) : State :=
  if (s.fn vf).resetting then s
  else
    let old := (s.fn vf).gen
    let s := s.modFn vf fun f => { f with gen := f.gen + 1, resetting := true }
    let s := (s.count1 C.qmVfResets).event 0xA013 1 [.q vf, .q (old + 1).toNat]
    let s := s.modQm fun m => { m with vfResets := m.vfResets.set vf { oldGen := old, token, since := s.now } }
    let s := s.dropFunction vf 0x41 old true
    let s := { s with eng := { s.eng with ctxs := s.eng.ctxs.map fun _ (k : Ctx) =>
      if k.fn = vf then { k with dying := true, token := none } else k } }
    (s.endContexts).resetConns vf

/-- VF_RESET (R637, R677): the queue is released, and the command completes with the reset. -/
def execVfReset (r : AdminRef) (vf : Nat) (s : State) : Res :=
  runAdmin true false r s fun s =>
    if vf = 0 ∨ 4096 < vf then failWith s stInvalidField
    else if (s.fn vf).resetting then failWith s stBusy
    else ((s.adminRelease r).startVfReset vf (some (s.tok r)), none)

/-- Whether a frame is an engine's item of a function and generation (R574). -/
def Frame.itemOf (f : Frame) (fn : Nat) (gen : BitVec 16) : Bool :=
  match f.item with
  | some i => decide (i.fn = fn ∧ i.gen = gen)
  | none => false

/-- Whether an item of an old generation is still in the device (R678): in the crypto island, on its way through a slice, a merge group
or to a host queue, or in a context. -/
def State.itemsLeft (s : State) (vf : Nat) (gen : BitVec 16) : Bool :=
  ((List.range 8).any fun n => (s.sliceFrames n).any fun f => f.itemOf vf gen) ||
    (s.tm.input.any fun x => x.frame.itemOf vf gen) ||
    (s.tm.queues.entries.any fun e => (decide (10000 ≤ e.1 ∧ e.1 < 1000000) || decide (qMerge 0 ≤ e.1 ∧ e.1 ≤ qCrypto 34)) &&
      e.2.any fun c => match s.tm.frames.get? c.frame with | some x => x.frame.itemOf vf gen | none => false) ||
    s.eng.ctxs.values.any fun k => decide (k.fn = vf ∧ k.gen = gen)

/-- VF_RESET_COMPLETE (R677, R678): step 7. -/
def execVfResetComplete (vf : Nat) (s : State) : Res :=
  whenWorking s <|
    match s.qm.vfResets.get? vf with
    | none => .next s
    | some x =>
      if s.itemsLeft vf x.oldGen then .next s
      else
        let s := s.modQm fun m => { m with vfResets := m.vfResets.erase vf }
        let s := (s.modFn vf fun f => { f with resetting := false }).event 0xA014 1 []
        .next (s.doneIf x.token stSuccess [(18, le 2 (s.fn vf).gen.toNat)])

end Sys2Proof.Machine
end

