-- ==== Sys2Proof/Machine/HostLink.lean ====
section
/-! DEFINITION. The host link (R585 to R621): training, configuration space, device reads, ATS, link errors, Function Level
Resets, link power. Layouts of capabilities are those of the PCI Express base specification, which the spec names. -/

namespace Sys2Proof.Machine

/-- The state with the host link changed. -/
def State.modHif (s : State) (f : HostLink → HostLink) : State := { s with hif := f s.hif }

/-! ### Functions start or stop issuing requests (R607) -/

/-- A write that waited, marked by the translations that the cache holds now (R601, R602). -/
def State.remark (s : State) (o : Out) : Out :=
  match o with
  | .dma fn k addr data ro ido _ tph => .dma fn k addr data ro ido (s.translated fn addr) tph
  | _ => o

/-- Writes that waited for a function sent, or discarded by its generation. -/
def State.flushWaiting (s : State) (fn : Nat) : State :=
  if !s.mayIssue fn then s
  else
    let mine := s.hif.waiting.filter fun e => decide (e.1 = fn)
    let s := s.modHif fun h => { h with waiting := h.waiting.filter fun (e : Nat × BitVec 16 × Out) => decide (e.1 ≠ fn) }
    mine.foldl (fun (s : State) e => if e.2.1 = (s.fn fn).gen then s.post fn (s.remark e.2.2) else s) s

/-- Entries of a function that are posted fetched. -/
def State.fetchAll (s : State) (fn : Nat) : State :=
  let mine := s.qm.wqs.entries.filter fun e => decide (e.2.fn = fn)
  mine.foldl (fun (s : State) e => s.fetchWq e.1) (s.fetchAdmin fn)

/-- A function whose right to issue requests may have changed. -/
def State.resumeFn (s : State) (fn : Nat) : State := ((s.flushWaiting fn).fetchAll fn).issueMore

/-- Pending Bits of vectors that may send now (R676). -/
def State.sendPending (s : State) (fn : Nat) : State :=
  let f := s.fn fn
  if !f.msixEnable || f.maskAll then s
  else
    let go := f.vecPending.filter fun v => decide (v ∈ f.vecUnmasked)
    let s := s.modFn fn fun f => { f with vecPending := f.vecPending.filter fun v => decide (v ∉ go) }
    go.foldl (fun (s : State) v => s.msix fn v) s

/-! ### Reads (R602, R610 to R615) -/

/-- Invalidations answered whose translations no outstanding read uses (R602). -/
def State.answerAts (s : State) : State :=
  let busy := fun (e : Nat × Nat) => s.hif.reads.values.any fun r => decide (r.fn = e.1 ∧ r.page = some e.2)
  let done := s.hif.atsPending.filter fun e => !busy e
  let s := s.modHif fun h => { h with atsPending := h.atsPending.filter busy }
  done.foldl (fun (s : State) e => s.emit (.atsInvalidateDone e.1 e.2)) s

/-- A storage entry whose host data could not be read: complete at once, its command still with its controller. -/
def State.failSto (s : State) (w : WorkRef) (status : Nat) : State :=
  match s.eng.conns.entries.find? fun e => e.2.outstanding.any fun x => decide (x.work = w ∧ x.err = 0) with
  | none => s
  | some (i, c) =>
    match c.outstanding.find? fun x => decide (x.work = w ∧ x.err = 0) with
    | none => s
    | some x =>
      let s := s.stoDone s.now i x status []
      (s.modConn i fun c => { c with
        outstanding := c.outstanding.map fun (y : StoSt) => if y.cid = x.cid then { y with err := status } else y }).drained i

/-- A work entry that cannot go on: one that is starting, a receive buffer that waits, or a STO_CMD under way. -/
def State.failEntry (s : State) (w : WorkRef) (status : Nat) : State :=
  let waits := match s.qm.wqs.get? w.wq with
    | some q => q.posted.any fun e => decide (e.1 = w.idx)
    | none => false
  if s.begun (workItem w) then (s.orphan fun i => decide (i = workItem w)).workDone w.wq w.idx status []
  else if waits then
    (s.modWq w.wq fun q => { q with posted := q.posted.filter fun e => decide (e.1 ≠ w.idx) }).workDone w.wq w.idx status []
  else if s.workReady w then (s.workTake w).workDone w.wq w.idx status []
  else s.failSto w status

/-- An admin command that cannot go on: one that is starting, or has started. -/
def State.failCommand (s : State) (r : AdminRef) (status : Nat) : State :=
  let s := if s.begun (adminItem r) then s.orphan fun i => decide (i = adminItem r)
    else if s.adminReady r then s.adminTake r else s
  s.adminDone (s.tok r) status []

/-- What an item's read that failed does to it (R603, R610, R613, R652): a fetch puts its queue in ERROR at the first entry that it was
to bring; an entry or a command completes with the status. -/
def State.failItem (s : State) (item : ReadItem) (idx : Word) (status : Nat) : State :=
  match item with
  | .fetch w => s.wqError w status idx
  | .adminFetch fn => if (s.fn fn).admin.state = .active then s.adminError fn status idx else s
  | .work w => s.failEntry { w with reads := [], reading := false } status
  | .admin r => s.failCommand { r with reading := false } status
  | .translation _ _ => s

/-- The first entry that a fetch is to bring; that of the queue where none is out. -/
def State.fetchIdx (s : State) (item : ReadItem) : Word :=
  match s.hif.reads.values.find? fun r => decide (r.item = item ∧ r.need ≠ 0) with
  | some r => r.idx
  | none => match item with
    | .fetch w => match s.qm.wqs.get? w with | some q => (q.ahead.drop q.fetched).headD q.next | none => 0
    | .adminFetch fn => (s.fn fn).admin.next
    | _ => 0

/-- The item of an error record. -/
def itemErr (item : ReadItem) : ErrItem :=
  match item with
  | .work w => .work w
  | .admin r => .admin r
  | _ => .none

/-- Whether a read is the fetch of an entry. -/
def isFetch (item : ReadItem) : Bool :=
  match item with
  | .fetch _ | .adminFetch _ => true
  | _ => false

/-- A UCI of the host island reported under AER (R610): the function, the code, what an advisory error really is. -/
def State.linkUci (s : State) (fn aer : Nat) (under : Option Nat) (item : ErrItem) : State :=
  ((s.reportAer fn aer under false).detect 1 0xA none item true false).2

/-- An Unexpected Completion (R610): discarded. -/
def State.unexpected (s : State) : State := s.linkUci 0 aerAdvisory (some 16) .none

/-- The bit of a correctable link error in the Correctable Error Status. -/
def corrBit : CorrErr → Nat
  | .receiver => 0
  | .badTlp => 6
  | .badDllp => 7
  | .replayRollover => 8
  | .replayTimeout => 12

/-- A fetch that came: its entries are held (R644). -/
def State.fetched (s : State) (r : ReadSt) : State :=
  match r.item with
  | .fetch w => (s.modWq w fun q => { q with fetched := q.fetched + r.need / 64 }).fetchWq w
  | .adminFetch fn =>
    (s.modFn fn fun f => { f with admin := { f.admin with fetched := f.admin.fetched + r.need / 64 } }).fetchAdmin fn
  | _ => s

/-- A poisoned completion of an outstanding read (R610): the read fails; the rest of its completions are absorbed. -/
def State.poisonRead (s : State) (tag : Nat) (r : ReadSt) (bytes : Nat) : State :=
  let s := s.modHif fun h => { h with reads :=
    if r.len ≤ r.got + bytes then h.reads.erase tag else h.reads.set tag { r with need := 0, got := r.got + bytes } }
  let s := s.linkUci r.fn aerAdvisory (some 12) (itemErr r.item)
  (if r.need = 0 then s else s.failItem r.item r.idx stInternalError).answerAts

/-- A read times out (R611 to R613, R615): its tag is held. -/
def State.timeOut (s : State) (tag : Nat) (r : ReadSt) : State :=
  let s := s.modHif fun h => { h with
    reads := h.reads.erase tag, quarantined := h.quarantined.set tag r, lastTimeout := some (r.fn, tag, isFetch r.item) }
  let s := (s.count1 C.hifCplTimeout).event 0xA005 2 [.q r.fn, .q tag]
  let s := s.linkUci r.fn 0x0E none (itemErr r.item)
  (if r.need = 0 then s else s.failItem r.item r.idx stHostReadTimeout).answerAts

/-- A completion of no outstanding read (R610, R614, R615): late, or unexpected. -/
def State.strayCompletion (s : State) (tag bytes : Nat) : State :=
  match s.hif.quarantined.get? tag with
  | some r =>
    let s := s.modHif fun h => { h with quarantined :=
      if r.len ≤ r.got + bytes then h.quarantined.erase tag else h.quarantined.set tag { r with got := r.got + bytes } }
    ((s.count1 C.hifLateCpl).unexpected).event 0xA006 1 []
  | none => s.unexpected

/-- A completion for a tag, after the timeout of its read where that has come (R612). -/
def State.completion (s : State) (tag bytes : Nat) (poisoned : Bool) : State :=
  let s := if poisoned then s.count1 C.hifPoisonRx else s
  match s.hif.reads.get? tag with
  | some r =>
    if poisoned then s.poisonRead tag r bytes
    else if r.got + bytes < r.len then s.modHif fun h => { h with reads := h.reads.set tag { r with got := r.got + bytes } }
    else
      let s := s.modHif fun h => { h with reads := h.reads.erase tag }
      if r.need = 0 then s.answerAts else (s.fetched r).answerAts
  | none => s.strayCompletion tag bytes

/-- A read that has come to its timeout timed out: a completion in the same clock is late (R612). -/
def State.settleTag (s : State) (tag : Nat) : State :=
  match s.hif.reads.get? tag with
  | some r => if r.due ≤ s.now then s.timeOut tag r else s
  | none => s

/-- READ_COMPLETION (R610, R612, R614, R615). -/
def execReadCompletion (tag bytes : Nat) (poisoned : Bool) (s : State) : Res :=
  whenWorking s <|
    if !s.hif.dlUp then .next s
    else .next ((((s.touch bytes).settleTag tag).completion tag bytes poisoned).issueMore)

/-- COMPLETION_TIMEOUT (R611 to R613, R615): an outstanding read of a function times out. -/
def execCompletionTimeout (fn tag : Nat) (s : State) : Res :=
  whenWorking s <|
    match s.hif.reads.get? tag with
    | some r => if r.fn ≠ fn ∨ s.now < r.due then .next s else .next ((s.timeOut tag r).issueMore)
    | none => .next s

/-- TAG_QUARANTINE_EXPIRY (R615). -/
def execTagQuarantineExpiry (tag : Nat) (s : State) : Res :=
  whenWorking s <|
    match s.hif.quarantined.get? tag with
    | some r =>
      if s.now < r.issued + 2 * (r.due - r.issued) then .next s
      else .next ((s.modHif fun h => { h with quarantined := h.quarantined.erase tag }).issueMore)
    | none => .next s

/-! ### ATS (R601 to R603) -/

/-- ATS_INVALIDATE (R602). -/
def execAtsInvalidate (fn page : Nat) (s : State) : Res :=
  whenWorking s <|
    if !s.hif.dlUp then .next s
    else
      let s := (s.touch 8).count1 C.hifAtsInval
      .next (s.modHif fun h => { h with
        atc := h.atc.filter (· ≠ (fn, page)), atsPending := h.atsPending ++ [(fn, page)] }).answerAts

/-- ATS_TRANSLATION_COMPLETION (R601, R603): the translation is cached, one of the others giving way where the cache is full; a
refusal fails the item that needed it. The request for it is no longer outstanding. -/
def execAtsTranslationCompletion (fn page : Nat) (granted : Bool) (item : ReadItem) (s : State) : Res :=
  whenWorking s <|
    if !s.hif.dlUp ∨ !(s.fn fn).atsEnable then .next s
    else
      let s := ((s.touch 8).readsDone (.translation fn page)).2
      if granted then
        if (fn, page) ∈ s.hif.atc then .next s.issueMore
        else
          let (k, s) := s.draw 16384
          let held := if s.hif.atc.length < 16384 then s.hif.atc else s.hif.atc.eraseIdx k
          .next (s.modHif fun h => { h with atc := (fn, page) :: held }).issueMore
      else .next (((s.event 0xA00A 2 []).failItem item (s.fetchIdx item) stNotPermitted).issueMore)

/-! ### Function Level Resets (R616 to R620) -/

/-- A Function Level Reset of a VF (R616). -/
def State.vfFlr (s : State) (vf : Nat) : State := ((s.count1 C.hifFlr).event 0xA007 1 [.q vf]).startVfReset vf none

/-- VF_FLR (R616). -/
def execVfFlr (vf : Nat) (s : State) : Res :=
  whenWorking s <| .next (if vf ∈ s.hif.enabledVfs then s.vfFlr vf else s)

/-- A ring set that serves the host disabled as under R254; a DISABLE_SET that waits keeps its effect (R618). -/
def State.dropRingSet (s : State) (set : Nat) : State :=
  let r := s.ringSet set
  if !r.enabled ∨ r.dest = 1 then s
  else
    let s := s.modSet set fun x => { x with enabled := false, modEntries := 0, modFirst := none }
    let s := { s with ldg := { s.ldg with headers := s.ldg.headers.map fun (h : HdrSt) =>
      { h with owed := h.owed.filter fun (d : Nat × Bool) => decide (d.1 ≠ set) } } }
    (s.dropHeaders).archQuiet set

/-- Whether staged values belong to a commit that is accepted and not yet ARMED (R453). -/
def State.committing (s : State) : Bool := decide (s.coh.phase = .journal ∨ s.coh.phase = .arming)

/-- The actions of a PF Function Level Reset (R617, R618): the generation goes on first, so that results of items and of
commands accepted before are discarded. -/
def State.resetPf (s : State) : State :=
  let old := (s.fn 0).gen
  let s := s.modFn 0 fun f => { f with gen := f.gen + 1 }
  let s := s.hif.enabledVfs.foldl (fun (s : State) v => s.startVfReset v none) s
  let s := s.modHif fun h => { h with vfEnable := false, enabledVfs := [], numVfs := 0, vfMse := false }
  let s := (List.range 4).foldl (fun (s : State) k => s.dropRingSet k) s
  let s := if s.committing then s else s.discardStaged
  let bound := s.eng.conns.entries.filter fun e => match s.qm.wqs.get? e.2.info.wq with
    | some q => decide (q.fn = 0)
    | none => false
  let s := bound.foldl (fun (s : State) e => s.abortConn e.1 9) s
  let s := s.dropFunction 0 0x40 old false
  s.modFn 0 fun f => { f with memEnable := false }

/-- A Function Level Reset of the PF (R617). -/
def State.pfFlr (s : State) : State := ((s.count1 C.hifFlr).event 0xA007 1 [.q 0]).resetPf

/-- PF_FLR (R17, R617, R618). -/
def execPfFlr (s : State) : Res :=
  whenWorking s <|
    if !s.hif.dlUp then .next s else .next s.pfFlr

/-! ### The link (R585 to R588, R620) -/

/-- Widths of the link. -/
def linkWidths : List Nat := [1, 2, 4, 8, 16]

/-- HOST_LINK_UP (R585, R588): rate 1 to 7 as `HIF_STATUS.RATE` encodes it. -/
def execHostLinkUp (rate width : Nat) (flit : Bool) (s : State) : Res :=
  whenLive s <|
    if s.hif.dlUp ∨ rate = 0 ∨ 7 < rate ∨ width ∉ linkWidths ∨ (6 ≤ rate ∧ flit = false) then .next s
    else
      let slow := decide (rate < 7 ∨ width < 16)
      let now := s.now
      let s := s.modHif fun h => { h with
        dlUp := true, rate, width, flit, l0pWidth := width, l1 := false, degraded := slow, idleSince := now, widthAt := now }
      let s := s.event 0xA001 1 [.r 0x600_0000]
      .next (if slow then s.event 0xA003 2 [] else s)

/-- The link leaves DL_Active (R620). -/
def State.linkLost (s : State) : State :=
  let s := (s.count1 C.hifLinkDown).event 0xA002 2 []
  let s := s.modHif fun h => { h with dlUp := false, rate := 0, width := 0, flit := false, l0pWidth := 0, l1 := false, degraded := false }
  s.resetPf

/-- HOST_LINK_DOWN (R620). -/
def execHostLinkDown (s : State) : Res := whenWorking s <| .next (if s.hif.dlUp then s.linkLost else s)

/-- PERST (R620, R793, R796): the host island is reset; its capability table applies once the link is up again. The pulse is one
event. -/
def execPerst (s : State) : Res :=
  whenWorking s <|
    let s := if s.hif.dlUp then s.linkLost else s.resetPf
    let s := s.modQm fun q => { q with fns := q.fns.map fun _ (f : FnSt) => { f with devErr := 0, aerUnc := 0, aerCor := 0 } }
    let now := s.now
    .next (s.modHif fun h => { h with
      ready := false, fallback := false, reads := .empty, quarantined := .empty, starting := [], atc := [], atsPending := []
      lastTimeout := none, waiting := [], releasedAt := now, aspm := false })

/-- HOST_LINK_ERROR (R610). -/
def execHostLinkError (e : LinkErr) (s : State) : Res :=
  whenWorking s <|
    if !s.hif.dlUp then .next s
    else
      let s := s.touch 0
      let fatalLink := fun (aer : Nat) => let s := ((s.reportAer 0 aer none true).detect 2 0xA none .none true true).2; s.linkLost
      .next (match e with
        | .correctable e => ((s.reportAer 0 (0x100 + corrBit e) none false).detect 0 0xA none .none false false).2
        | .poisonedData tag | .poisonedFetch tag => ((s.settleTag tag).completion tag 0 true).issueMore
        | .poisonedWrite => (s.count1 C.hifPoisonRx).linkUci 0 aerAdvisory (some 12) .none
        | .unexpectedCompletion => s.unexpected
        | .asCompleter abort => s.linkUci 0 aerAdvisory (some (if abort then 15 else 20)) .none
        | .ecrc => fatalLink 0x13
        | .malformedTlp => fatalLink 0x12
        | .receiverOverflow => fatalLink 0x11
        | .flowControl => fatalLink 0x0D
        | .dataLinkProtocol => fatalLink 0x04
        | .internalError => (s.detect 3 0xA none .none false false).2)

/-! ### Configuration space (R589 to R592, R599, R600, R619) -/

/-- A capability table applied: configuration requests are answered from here on (R589, R591). -/
def State.applyCaps (s : State) (c : CapTable) (fallback : Bool) : State :=
  let s := s.modHif fun h => { h with ready := true, fallback, caps := some c }
  s.modFn 0 fun f => { f with vectors := c.pfVectors }

/-- CAPABILITY_TABLE_APPLY (R589, R591): once per boot, or once the link is up again after PERST_N. -/
def execCapabilityTableApply (s : State) : Res :=
  whenWorking s <|
    match s.nvm.base with
    | some b => .next (if s.hif.ready ∨ s.mgt.stage = .recovery then s else s.applyCaps b.caps false)
    | none => .next s

/-- The fallback table applied. -/
def State.applyFallback (s : State) : State := (s.applyCaps fallbackCaps true).event 0xA004 3 []

/-- FALLBACK_TABLE_APPLY (R592): 900 ms after the later release without a valid table. -/
def execFallbackTableApply (s : State) : Res :=
  whenWorking s <|
    if s.hif.ready ∨ s.now < s.hif.releasedAt + 900 * msStamp then .next s else .next s.applyFallback

/-- VF Enable cleared: every VF is reset and answers no more. -/
def State.disableVfs (s : State) : State :=
  let s := s.hif.enabledVfs.foldl (fun (s : State) v => s.startVfReset v none) s
  s.modHif fun h => { h with vfEnable := false, enabledVfs := [] }

/-- Memory Space Enable of the VFs (R598). -/
def State.setVfMse (s : State) (on : Bool) : State :=
  let s := s.modHif fun h => { h with vfMse := on }
  s.hif.enabledVfs.foldl (fun (s : State) v => s.modFn v fun f => { f with memEnable := on }) s

/-- A field with the bits cleared in which a 1 is written (RW1C). -/
def clearBits (old v : Nat) : Nat := old - (old &&& v)

/-- The routing ID of a VF relative to its PF's. -/
def vfRid (c : CapTable) (v : Nat) : Nat := c.vfOffset + (v - 1) * c.vfStride

/-- VF Enable set (R599, R600): VFs 1 to NumVFs answer, or without ARI those within functions 0 to 7 of the PF's bus. -/
def State.enableVfs (s : State) : State :=
  let all := (List.range s.hif.numVfs).map (· + 1)
  let on := all.filter fun v => s.hif.ari || decide (vfRid s.capsNow v < 8)
  let s := s.modHif fun h => { h with vfEnable := true, enabledVfs := on }
  let mse := s.hif.vfMse
  let s := on.foldl (fun (s : State) v => s.modFn v fun f => { f with memEnable := mse }) s
  if on.length < all.length then s.event 0xA008 2 [] else s

/-- The SR-IOV control fields written: VF Enable, VF Memory Space Enable, ARI Capable Hierarchy (R590, R598 to R600). VF Enable stays 0
with more VFs than TotalVFs. -/
def State.vfControl (s : State) (enable mse ari : Bool) : State :=
  let s := (s.modHif fun h => { h with ari }).setVfMse mse
  if enable then (if s.hif.vfEnable ∨ 4096 < s.hif.numVfs then s else s.enableVfs)
  else if s.hif.vfEnable then s.disableVfs else s

/-- A dword written to the configuration space of a function (R587, R590, R598, R599, R601, R604, R605, R607, R611, R616, R617). -/
def State.configWrite (s : State) (fn offset : Nat) (v : Nat) : State :=
  let s := s.modFn fn fun f => { f with cfg := setCell f.cfg offset (BitVec.ofNat 32 v) }
  if offset = 4 then
    (s.modFn fn fun f => { f with
      memEnable := if fn = 0 then v.testBit 1 else f.memEnable, busMaster := v.testBit 2
      status := clearBits f.status (getBits v 16 16) }).resumeFn fn
  else if s.capAt fn offset .pcie 8 then
    let s := s.modFn fn fun f => { f with
      roEnable := v.testBit 4, mrrs := min 4096 (128 * 2 ^ getBits v 12 3), devErr := clearBits f.devErr (getBits v 16 4) }
    if v.testBit 15 then (if fn = 0 then s.pfFlr else s.vfFlr fn) else s
  else if s.capAt fn offset .pcie 0x10 then
    if fn = 0 then s.modHif fun h => { h with aspm := v.testBit 1 } else s
  else if s.capAt fn offset .pcie 0x28 then
    s.modFn fn fun f => { f with cplTimeout := v % 16, idoEnable := v.testBit 8 }
  else if s.capAt fn offset .pm 4 then
    (s.modFn fn fun f => { f with d3hot := decide (v % 4 = 3) }).resumeFn fn
  else if s.capAt fn offset .msix 0 then
    (s.modFn fn fun f => { f with msixEnable := v.testBit 31, maskAll := v.testBit 30 }).sendPending fn
  else if s.capAt fn offset .ats 4 then s.modFn fn fun f => { f with atsEnable := v.testBit 31 }
  else if s.capAt fn offset .tph 8 then
    s.modFn fn fun f => { f with tphEnable := v.testBit 8, tphExt := decide (getBits v 8 2 = 3) }
  else if s.capAt fn offset .sriov 8 then s.vfControl (v.testBit 0) (v.testBit 3) (v.testBit 4)
  else if s.capAt fn offset .sriov 0x10 then
    if s.hif.vfEnable then s else s.modHif fun h => { h with numVfs := v % 65536 }
  else if s.capAt fn offset .aer 4 then s.modFn fn fun f => { f with aerUnc := clearBits f.aerUnc v }
  else if s.capAt fn offset .aer 0x10 then s.modFn fn fun f => { f with aerCor := clearBits f.aerCor v }
  else s

/-- CONFIG_REQUEST (R589 to R591, R598, R742). -/
def execConfigRequest (fn offset : Nat) (write : Option Word) (s : State) : Res :=
  whenLive s <|
    if !s.hif.dlUp then .next s
    else
      let s := s.touch (if write.isSome then 4 else 0)
      if !s.hif.ready then .next (s.emit (.retryStatus fn))
      else if fn ≠ 0 ∧ fn ∉ s.hif.enabledVfs then .next (s.unsupportedReq fn)
      else match write with
        | some w => .next (if s.evr.fatal then s else s.configWrite fn offset w.toNat)
        | none => .next (s.emit (.config fn offset (s.configRead fn offset)))

/-- VF_ENABLE (R599, R600): a configuration write that sets VF Enable, with the other fields of the control that it writes. -/
def execVfEnable (ari mse : Bool) (s : State) : Res :=
  whenWorking s <|
    if !s.hif.dlUp ∨ !s.hif.ready ∨ !s.capsNow.sriov then .next s else .next ((s.touch 4).vfControl true mse ari)

/-! ### BAR4 (R593, R598, R676) -/

/-- Pending Bits of 32 vectors from one on. -/
def pendingWord (l : List Nat) (first : Nat) : Nat :=
  (List.range 32).foldl (fun n k => n + (if first + k ∈ l then 2 ^ k else 0)) 0

/-- What a dword of BAR4 reads: the MSI-X table at 0, the Pending Bits at 0x8000. -/
def State.msixRead (s : State) (fn offset : Nat) : Nat :=
  let f := s.fn fn
  let n := s.tableSize fn
  let w := (f.vecTable.getD (offset / 4) 0).toNat
  if offset < 16 * n then (if offset % 16 = 12 then putBits w 0 1 (b2n (decide (offset / 16 ∉ f.vecUnmasked))) else w)
  else if 0x8000 ≤ offset ∧ offset < 0x8000 + 8 * ceilDiv n 64 then pendingWord f.vecPending ((offset - 0x8000) * 8)
  else 0

/-- A dword of the MSI-X table written: the address, the data, or the mask and steering tag of a vector. One unmasked sends the message of
its Pending Bit (R676). Pending Bits are read-only. -/
def State.msixWrite (s : State) (fn offset : Nat) (v : Word) : State :=
  let vec := offset / 16
  if 16 * s.tableSize fn ≤ offset then s
  else if offset % 16 ≠ 12 then
    s.modFn fn fun f => { f with vecTable := setCell f.vecTable (offset / 4) (if offset % 16 = 0 then v &&& 0xFFFFFFFC else v) }
  else
    (s.modFn fn fun f => { f with
      vecTable := setCell f.vecTable (offset / 4) (v &&& 0xFFFF0000)
      vecUnmasked := if v.toNat.testBit 0 then f.vecUnmasked.erase vec
        else if vec ∈ f.vecUnmasked then f.vecUnmasked else vec :: f.vecUnmasked }).sendPending fn

/-- MSIX_VECTOR_UNMASK (R593, R598, R676): an access of the host to BAR4. -/
def execMsixVectorUnmask (fn : Nat) (a : MsixAccess) (s : State) : Res :=
  whenLive s <|
    if 4096 < fn ∨ !s.hif.dlUp then .next s
    else
      let s := s.touch (match a with | .write _ _ => 4 | .read _ => 0)
      if !s.fnDecodes fn then .next (s.unsupportedReq fn)
      else match a with
        | .write offset v => .next (if s.evr.fatal then s else s.msixWrite fn offset v)
        | .read offset => .next (s.emit (.bar4Data fn offset (s.msixRead fn offset)))

/-! ### Link power (R608, R609) -/

/-- Whether ledger output waits for a host ring. -/
def State.ledgerWaits (s : State) : Bool :=
  (List.range 4).any fun k =>
    (s.ringSet k).enabled && decide ((s.ringSet k).dest ≠ 1) &&
      (s.ldg.records.any (fun x => decide (x.set = k) && !x.hostDone) || s.ldg.headers.any fun h => decide ((k, false) ∈ h.owed))

/-- Whether a host queue holds a copy. -/
def State.hostCopies (s : State) : Bool :=
  s.tm.queues.entries.any fun e => decide (10000 ≤ e.1 ∧ e.1 < 1000000) && !e.2.isEmpty

/-- Whether any queue to the host waits: frames and their write-backs, ledger output, storage read data, head blocks, or what the host
island holds (R609). -/
def State.hostWaits (s : State) : Bool :=
  s.hostCopies || s.ledgerWaits || s.storageDue || s.writebackDue || s.headBlockDue || !s.hif.waiting.isEmpty

/-- L1_ENTRY (R608). -/
def execL1Entry (s : State) : Res :=
  whenWorking s <|
    if !s.hif.dlUp ∨ !s.hif.aspm ∨ s.hif.l1 ∨ s.now < s.hif.idleSince + s.fld F.hifPmCfg_l1IdleUs * usStamp ∨
        s.hif.reads.size ≠ 0 ∨ s.hostCopies ∨ s.ledgerWaits then .next s
    else .next (((s.modHif fun h => { h with l1 := true }).count1 C.hifL1Entries).emit .l1Request)

/-- L0P_WIDTH_CHANGE (R609): the full width as soon as any queue waits, else half the width after 100 µs in which each direction
used less than `L0P_LOW_PCT` of it, all of them since the width last changed. `utilisation` is the higher of the two over those
100 µs, in percent of the width in use. -/
def execL0pWidthChange (utilisation : Nat) (s : State) : Res :=
  whenWorking s <|
    if !s.hif.dlUp then .next s
    else
      let may := s.hif.aspm && decide (s.fld F.hifPmCfg_l0pEn = 1)
      let low := decide (utilisation < s.fld F.hifPmCfg_l0pLowPct ∧ s.hif.widthAt + 100 * usStamp ≤ s.now)
      let w := if s.hostWaits then s.hif.width
        else if may && low then max 1 (s.hif.l0pWidth / 2) else s.hif.l0pWidth
      let now := s.now
      if w = s.hif.l0pWidth then .next s
      else .next (((s.modHif fun h => { h with l0pWidth := w, widthAt := now }).count1 C.hifL0pChanges).emit (.linkWidth w))

end Sys2Proof.Machine
end

