-- ==== Sys2Proof/Machine/Mgmt.lean ====
section
/-! DEFINITION. Mailboxes (R717 to R723, R729), management over MCTP with its PLDM sensors (R724), and the SPDM responder (R725).
Message layouts are those of the DMTF specifications that the spec names. -/

namespace Sys2Proof.Machine

/-! ### Mailboxes (R717 to R723) -/

/-- The identities of *Mailboxes*: host PF 0x01, BMC 0x02, management cores 0x10 to 0x1F. -/
def idHost : Nat := 0x01
def idBmc : Nat := 0x02

/-- A channel, when it is bound (R718). -/
def State.mbx (s : State) (c : Nat) : Option MbxSt := s.mgt.mbx.get? c

/-- The state with a channel changed. -/
def State.modMbx (s : State) (c : Nat) (f : MbxSt → MbxSt) : State :=
  match s.mbx c with
  | some m => { s with mgt := { s.mgt with mbx := s.mgt.mbx.set c (f m) } }
  | none => s

/-- A refused access (R719). -/
def State.mbxRefused (s : State) (agent c : Nat) : State := s.event 0xB00A 1 [.q c, .q agent]

/-- A channel's 64 bytes. -/
def MbxSt.bytes (m : MbxSt) : Bytes := (List.range 16).flatMap fun w => le 4 (m.data.getD w 0).toNat

/-- Vendor-defined MCTP messages of Caken's command numbers (message type 0x7E). -/
def vendorMsg (cmd : Nat) (body : Bytes) : Out := .mctp 0x7E (be 2 0x1E6B ++ be 1 cmd ++ body)

/-- A wake event for a channel's receiver (R723). -/
def State.mbxWake (s : State) (c : Nat) (m : MbxSt) : State :=
  if m.receiver = idHost then s.msix 0 m.vector
  else if m.receiver = idBmc then s.emit (vendorMsg 2 (be 1 c ++ m.bytes))
  else s.emit (.wake m.receiver c)

/-- A data word written by a channel's sender (R719 to R721). -/
def State.mbxWrite (s : State) (agent c w : Nat) (v : Word) : State :=
  match s.mbx c with
  | none => s.mbxRefused agent c
  | some m =>
    if m.sender ≠ agent then s.mbxRefused agent c
    else if m.full then s.modMbx c fun m => { m with overrun := true }
    else s.modMbx c fun m => { m with data := (m.data ++ List.replicate (16 - m.data.length) 0).set w v }

/-- FULL of a channel, cleared now (R722, R723). -/
def State.mbxClear (s : State) (c : Nat) : State :=
  s.modMbx c fun m => { m with full := false, clearedAt := if m.full then some s.now else m.clearedAt }

/-- The CFG_CLK cycle of an instant, at 400 MHz. -/
def cfgCycle (t : Stamp) : Nat := t * 2 / (5 * nsStamp)

/-- FULL as a RING finds it: a RING in the CFG_CLK cycle in which FULL is cleared arrives while FULL (R721). -/
def MbxSt.fullAt (m : MbxSt) (now : Stamp) : Bool := m.full || m.clearedAt.any fun t => decide (cfgCycle t = cfgCycle now)

/-- RING written by an agent (R719 to R721, R723). -/
def State.mbxRung (s : State) (agent c : Nat) : State :=
  match s.mbx c with
  | none => s.mbxRefused agent c
  | some m =>
    if m.sender ≠ agent then s.mbxRefused agent c
    else if m.fullAt s.now then s.modMbx c fun m => { m with overrun := true }
    else (s.modMbx c fun m => { m with full := true }).mbxWake c m

/-- What a management core has put into the 16 data words before it rings: the firmware's, and free. -/
def State.coreWords (s : State) (agent c : Nat) : State :=
  match s.mbx c with
  | none => s
  | some m =>
    if agent < 0x10 ∨ m.sender ≠ agent ∨ m.full then s
    else
      let (b, s) := s.drawBytes 64
      s.modMbx c fun m => { m with data := (List.range 16).map fun w => BitVec.ofNat 32 (wordAt b w) }

/-- MBX_RING (R719 to R721, R723). -/
def execMbxRing (agent channel : Nat) (s : State) : Res :=
  whenWorking s <| .next ((s.coreWords agent channel).mbxRung agent channel)

/-- A data word read by an agent (R719): a refused read gives 0. -/
def State.mbxRead (s : State) (agent c w : Nat) : Nat × State :=
  match s.mbx c with
  | none => (0, s.mbxRefused agent c)
  | some m =>
    if m.receiver ≠ agent then (0, s.mbxRefused agent c)
    else ((m.data.getD w 0).toNat, if w = 15 then s.mbxClear c else s)

/-- MBX_DATA15_READ (R719, R722): a read of data word 15, which clears FULL. -/
def execMbxData15Read (agent channel : Nat) (s : State) : Res :=
  whenLive s <|
    let (v, s) := s.mbxRead agent channel 15
    .next (if agent = idHost then s.emit (.readData (Reg.mbxData channel 15) v) else s)

/-- MBX_SEND (R719, R721, R723): a message of the BMC, applied as 16 data words and RING. It answers SUCCESS, or BUSY under
R721; the encoding of the answer is not given. -/
def execMbxSend (channel : Nat) (data : List Word) (s : State) : Res :=
  whenWorking s <|
    let busy : Bool := match s.mbx channel with
      | some m => m.fullAt s.now && decide (m.sender = idBmc)
      | none => false
    let ok : Bool := match s.mbx channel with
      | some m => !m.fullAt s.now && decide (m.sender = idBmc)
      | none => false
    let s := (data.take 16).zipIdx.foldl (fun (s : State) e => s.mbxWrite idBmc channel e.2 e.1) s
    let s := s.mbxRung idBmc channel
    let (x, s) := s.draw 256
    .next (s.emit (vendorMsg 1 (be 1 (if ok then stSuccess else if busy then stBusy else x))))

/-- MBX_DELIVER_SENT (R723): the last byte of a message to the BMC has been sent. -/
def execMbxDeliverSent (channel : Nat) (s : State) : Res :=
  whenWorking s <|
    match s.mbx channel with
    | some m => .next (if m.receiver = idBmc then s.mbxClear channel else s)
    | none => .next s

/-! ### MCTP control (*Management over MCTP*, DSP0236) -/

/-- A message of the management endpoint, once firmware runs. -/
def whenManaged (s : State) (k : State → State) : Res :=
  whenLive s <| if s.mgt.stage = .rom then .next s else .next (k s)

/-- A control response: command code, completion code, data. -/
def State.mctpAnswer (s : State) (cmd cc : Nat) (data : Bytes) : State := s.emit (.mctp 0x00 (be 1 cmd ++ be 1 cc ++ data))

/-- SET_ENDPOINT_ID: operation 0 or 1 sets an endpoint ID, 2 resets it, 3 sets the discovered flag. -/
def execSetEndpointId (op eid : Nat) (s : State) : Res :=
  whenManaged s fun s =>
    if 4 ≤ op ∨ (op < 2 ∧ (eid < 8 ∨ 255 ≤ eid)) then s.mctpAnswer 0x01 0x02 []
    else
      let new := if op < 2 then some eid else if op = 2 then none else s.mgt.eid
      let s := { s with mgt := { s.mgt with eid := new } }
      s.mctpAnswer 0x01 0x00 (be 1 0 ++ be 1 (new.getD 0) ++ be 1 0)

/-- GET_ENDPOINT_ID: a simple endpoint with a dynamic ID. -/
def execGetEndpointId (s : State) : Res :=
  whenManaged s fun s => s.mctpAnswer 0x02 0x00 (be 1 (s.mgt.eid.getD 0) ++ be 1 0 ++ be 1 0)

/-- GET_ENDPOINT_UUID. -/
def execGetEndpointUuid (s : State) : Res := whenManaged s fun s => s.mctpAnswer 0x03 0x00 Config.uuid

/-- The message types that the endpoint supports (*Management over MCTP*). -/
def mctpTypes : List Nat := [0x00, 0x01, 0x05, 0x7E]

/-- GET_MCTP_VERSION_SUPPORT. -/
def execGetMctpVersionSupport (msgType : Nat) (s : State) : Res :=
  whenManaged s fun s =>
    if msgType = 0xFF ∨ msgType ∈ mctpTypes then s.mctpAnswer 0x04 0x00 (Config.mctpVersions msgType)
    else s.mctpAnswer 0x04 0x80 []

/-- GET_MESSAGE_TYPE_SUPPORT. -/
def execGetMessageTypeSupport (s : State) : Res :=
  whenManaged s fun s => s.mctpAnswer 0x05 0x00 (be 1 mctpTypes.length ++ mctpTypes.flatMap (be 1))

/-- GET_VENDOR_DEFINED_MSG_SUPPORT: one set, PCI vendor 0x1E6B, its version free. -/
def execGetVendorDefinedMsgSupport (selector : Nat) (s : State) : Res :=
  whenManaged s fun s =>
    if selector ≠ 0 then s.mctpAnswer 0x06 0x02 []
    else
      let (v, s) := s.drawBytes 2
      s.mctpAnswer 0x06 0x00 (be 1 0xFF ++ be 1 0 ++ be 2 0x1E6B ++ v)

/-! ### PLDM (*Management over MCTP*, R724) -/

/-- A PLDM response: type, command, completion code, data. -/
def State.pldmAnswer (s : State) (type cmd cc : Nat) (data : Bytes) : State :=
  s.emit (.mctp 0x01 (be 1 type ++ be 1 cmd ++ be 1 cc ++ data))

/-- GET_TID. -/
def execGetTid (s : State) : Res := whenManaged s fun s => s.pldmAnswer 0 0x02 0 (be 1 Config.tid)

/-- GET_PLDM_VERSION. -/
def execGetPldmVersion (pldmType : Nat) (s : State) : Res :=
  whenManaged s fun s =>
    if pldmType = 0 ∨ pldmType = 2 then s.pldmAnswer 0 0x03 0 (Config.pldmVersions pldmType) else s.pldmAnswer 0 0x03 0x83 []

/-- GET_PLDM_TYPES: types 0 and 2. -/
def execGetPldmTypes (s : State) : Res := whenManaged s fun s => s.pldmAnswer 0 0x04 0 (le 8 0x05)

/-- The commands of a PLDM type that the device answers. -/
def pldmCommands (type : Nat) : List Nat := if type = 0 then [0x02, 0x03, 0x04, 0x05] else [0x04, 0x11, 0x21, 0x50, 0x51]

/-- GET_PLDM_COMMANDS. -/
def execGetPldmCommands (pldmType : Nat) (s : State) : Res :=
  whenManaged s fun s =>
    if pldmType = 0 ∨ pldmType = 2 then
      s.pldmAnswer 0 0x05 0 (le 32 ((pldmCommands pldmType).foldl (fun m c => m + 2 ^ c) 0))
    else s.pldmAnswer 0 0x05 0x83 []

/-- A numeric sensor's value in the readings of a record (*Management over MCTP*). -/
def sensorValue (x : Sensors) (sensor : Nat) : Option Int :=
  if 1 ≤ sensor ∧ sensor ≤ 16 then some (x.temps.getD (sensor - 1) 0)
  else if 32 ≤ sensor ∧ sensor ≤ 42 then some (x.railMv.getD (sensor - 32) 0)
  else if 48 ≤ sensor ∧ sensor ≤ 58 then some (x.railCurrent.getD (sensor - 48) 0)
  else if sensor = 64 then some x.powerDeciW
  else none

/-- The numeric sensors. -/
def numericSensors : List Nat :=
  (List.range 16).map (· + 1) ++ (List.range 11).map (· + 32) ++ (List.range 11).map (· + 48) ++ [64]

/-- A sensor's upper threshold: 1 warning, 2 critical, 3 fatal; the PLDM section's, else for temperatures the defaults of Tj
110, 118 and 130 °C in units of 1/16 °C. -/
def State.threshold (s : State) (sensor level : Nat) : Option Int :=
  match s.nvm.base.bind fun b => b.pldm.find? fun e => decide (e.1 = sensor * 4 + level) with
  | some e => some e.2
  | none =>
    if 1 ≤ sensor ∧ sensor ≤ 16 then some (16 * (match level with | 1 => 110 | 2 => 118 | _ => 130)) else none

/-- The upper thresholds that a value has reached. -/
def State.sensorLevel (s : State) (sensor : Nat) (v : Int) : Nat :=
  ([1, 2, 3].filter fun l => match s.threshold sensor l with | some t => decide (t ≤ v) | none => false).foldl max 0

/-- A level as a PLDM sensor state: normal, upper warning, upper critical, upper fatal. -/
def pldmState (level : Nat) : Nat := if level = 0 then 1 else 7 + level

/-- The readings before the newest record's. -/
def State.oldSensors (s : State) : Sensors :=
  match s.tel.ring with
  | _ :: r :: _ => r.sensors
  | _ => s.tel.sensors

/-- A sensor's state bytes and reading: present state, previous state, event state, value. -/
def State.sensorBytes (s : State) (sensor : Nat) (v : Int) : Bytes :=
  let new := pldmState (s.sensorLevel sensor v)
  let old := pldmState (s.sensorLevel sensor ((sensorValue s.oldSensors sensor).getD v))
  be 1 new ++ be 1 old ++ be 1 new ++ le 2 (twos 16 v)

/-- GET_SENSOR_READING: from the newest telemetry record; 16-bit values, signed for temperatures. -/
def execGetSensorReading (sensor : Nat) (s : State) : Res :=
  whenManaged s fun s =>
    match sensorValue s.tel.sensors sensor with
    | none => s.pldmAnswer 2 0x11 0x80 []
    | some v => s.pldmAnswer 2 0x11 0 (be 1 (if sensor ≤ 16 then 3 else 2) ++ be 1 0 ++ be 1 1 ++ s.sensorBytes sensor v)

/-- The thermal state: 0 normal, 1 throttling, 2 tripped. -/
def State.thermal (s : State) : Nat := if s.pwr.tripped then 2 else if s.pwr.throttled then 1 else 0

/-- GET_STATE_SENSOR_READINGS: state sensor 80. -/
def execGetStateSensorReadings (sensor : Nat) (s : State) : Res :=
  whenManaged s fun s =>
    if sensor ≠ 80 then s.pldmAnswer 2 0x21 0x80 []
    else s.pldmAnswer 2 0x21 0 (be 1 1 ++ be 1 0 ++ be 1 s.thermal ++ be 1 s.thermal ++ be 1 s.thermal)

/-- Platform data records: one for each sensor. -/
def pdrCount : Nat := 40

/-- GET_PDR_REPOSITORY_INFO: state, records, size; times and sizes of the repository are free. -/
def execGetPdrRepositoryInfo (s : State) : Res :=
  whenManaged s fun s =>
    let (b, s) := s.drawBytes 26
    let (c, s) := s.drawBytes 9
    s.pldmAnswer 2 0x50 0 (be 1 0 ++ b ++ le 4 pdrCount ++ c)

/-- GET_PDR: the record, and the handle of the next. -/
def execGetPdr (record : Nat) (s : State) : Res :=
  whenManaged s fun s =>
    let n := if record = 0 then 1 else record
    if pdrCount < n then s.pldmAnswer 2 0x51 0x82 []
    else
      let d := Config.pdr n
      s.pldmAnswer 2 0x51 0 (le 4 (if n = pdrCount then 0 else n + 1) ++ le 4 0 ++ be 1 5 ++ le 2 d.length ++ d)

/-- SET_EVENT_RECEIVER (R724). -/
def execSetEventReceiver (enable : Bool) (eid : Nat) (s : State) : Res :=
  whenManaged s fun s =>
    let s := { s with mgt := { s.mgt with
      receiver := if enable then some eid else none, unacked := if enable then s.mgt.unacked else [] } }
    s.pldmAnswer 2 0x04 0 []

/-- A PlatformEventMessage with a sensorEvent of a sensor (R724). -/
def State.sensorEvent (s : State) (sensor : Nat) : State :=
  match sensorValue s.tel.sensors sensor with
  | some v =>
    s.emit (.mctp 0x01 (be 1 2 ++ be 1 0x0A ++ be 1 1 ++ be 1 Config.tid ++ be 1 0 ++ le 2 sensor ++ be 1 2 ++
      (s.sensorBytes sensor v).take 2 ++ be 1 3 ++ le 2 (twos 16 v)))
  | none => s

/-- PLDM_EVENT_REPEAT (R724): once every second until it is acknowledged. -/
def execPldmEventRepeat (sensor : Nat) (s : State) : Res :=
  whenManaged s fun s =>
    if s.mgt.receiver.isSome ∧ s.mgt.unacked.any (fun e => decide (e.1 = sensor ∧ e.2 + secStamp ≤ s.now)) then
      let now := s.now
      let s := { s with mgt := { s.mgt with
        unacked := s.mgt.unacked.map fun (e : Nat × Stamp) => if e.1 = sensor then (sensor, now) else e } }
      s.sensorEvent sensor
    else s

/-- PLDM_EVENT_ACK (R724). -/
def execPldmEventAck (sensor : Nat) (s : State) : Res :=
  whenManaged s fun s =>
    { s with mgt := { s.mgt with unacked := s.mgt.unacked.filter fun (e : Nat × Stamp) => decide (e.1 ≠ sensor) } }

/-! ### SPDM (*SPDM and attestation*, R725; DSP0274 1.3) -/

/-- The SPDM state of a transport. -/
def State.spdmOf (s : State) (doe : Bool) : Nat := (if doe then s.mgt.spdmDoe else s.mgt.spdmMctp).progress

/-- The SPDM state of a transport set. -/
def State.setSpdm (s : State) (doe : Bool) (n : Nat) : State :=
  if doe then { s with mgt := { s.mgt with spdmDoe := ⟨n⟩ } } else { s with mgt := { s.mgt with spdmMctp := ⟨n⟩ } }

/-- A response: version 1.3, code, two parameters, data. -/
def State.spdmSend (s : State) (doe : Bool) (code p1 p2 : Nat) (data : Bytes) : State :=
  s.emit (.spdm doe (be 1 0x13 ++ be 1 code ++ be 1 p1 ++ be 1 p2 ++ data))

/-- An ERROR response: 0x01 invalid request, 0x04 unexpected request. -/
def State.spdmError (s : State) (doe : Bool) (e : Nat) : State := s.spdmSend doe 0x7F e 0 []

/-- A request that needs the transport's negotiation to have come so far; DOE answers through a PF whose capability table
offers it, while configuration writes are served (R742). -/
def runSpdm (doe : Bool) (need : Nat) (s : State) (body : State → State) : Res :=
  whenManaged s fun s =>
    let offered := match s.hif.caps with
      | some c => c.doe && s.hif.dlUp && s.hif.ready
      | none => false
    if doe && (!offered || s.evr.fatal) then s
    else if s.spdmOf doe < need then s.spdmError doe 0x04
    else body s

/-- GET_VERSION: the negotiation begins anew. -/
def execGetVersion (doe : Bool) (s : State) : Res :=
  runSpdm doe 0 s fun s =>
    (s.setSpdm doe 1).emit (.spdm doe (be 1 0x10 ++ be 1 0x04 ++ be 2 0 ++ be 1 0 ++ be 1 1 ++ le 2 0x1300))

/-- GET_CAPABILITIES: certificates, challenge, measurements with signature; no sessions, no chunking. -/
def execGetCapabilities (doe : Bool) (s : State) : Res :=
  runSpdm doe 1 s fun s =>
    let (ct, s) := s.draw 32
    (s.setSpdm doe (max 2 (s.spdmOf doe))).spdmSend doe 0x61 0 0 (be 1 0 ++ be 1 ct ++ be 2 0 ++ le 4 0x16 ++ le 4 4096 ++ le 4 4096)

/-- NEGOTIATE_ALGORITHMS: SM2 P-256 and SM3-256, each when the requester offers it. -/
def execNegotiateAlgorithms (doe sm2 sm3 : Bool) (s : State) : Res :=
  runSpdm doe 2 s fun s =>
    if sm2 && sm3 then
      (s.setSpdm doe 3).spdmSend doe 0x63 0 0
        (le 2 36 ++ be 1 1 ++ be 1 0 ++ le 4 0x80 ++ le 4 0x200 ++ le 4 0x40 ++ zeros 16)
    else s.spdmError doe 0x01

/-- GET_DIGESTS: slot 0 only. -/
def execGetDigests (doe : Bool) (s : State) : Res :=
  runSpdm doe 3 s fun s => s.spdmSend doe 0x01 0 0x01 (sm3 Config.certChain)

/-- GET_CERTIFICATE: a portion of the chain of slot 0. -/
def execGetCertificate (doe : Bool) (slot offset length : Nat) (s : State) : Res :=
  runSpdm doe 3 s fun s =>
    let chain := Config.certChain
    if slot ≠ 0 ∨ chain.length ≤ offset then s.spdmError doe 0x01
    else
      let p := (chain.drop offset).take (min length 4096)
      s.spdmSend doe 0x02 0 0 (le 2 p.length ++ le 2 (chain.length - offset - p.length) ++ p)

/-- The measurement block of an index (R725): raw values little-endian, epochs and banks read at the request. -/
def State.measurement (s : State) (i : Nat) : Option (Bool × Bytes) :=
  let bankId := fun (t : Bool) => match s.bank t with | some b => b.bankId | none => 0
  match i with
  | 1 => some (false, Config.romHash)
  | 2 => some (false, s.mgt.fwHash)
  | 3 => some (true, le 2 s.mgt.fwSvn ++ le 2 s.mgt.fusedMin)
  | 4 => some (false, match s.nvm.active with | some b => b.baseHash | none => zeros 32)
  | 5 => some (true, le 8 s.nvm.lastReplayed)
  | 6 => some (true, le 4 s.coh.epoch ++ le 8 (bankId false) ++ le 8 (bankId true))
  | 7 => some (true, match s.ldg.keys.get? s.ldg.keySel with | some k => be 8 k.keyId | none => zeros 8)
  | 8 => some (true, le 1 s.mgt.bootSel ++ le 1 (b2n s.nvm.mirror) ++ s.mgt.ownerHash)
  | _ => none

/-- A block in the DMTF measurement format. -/
def State.measBlock (s : State) (i : Nat) : Bytes :=
  match s.measurement i with
  | some (raw, v) => be 1 i ++ be 1 1 ++ le 2 (v.length + 3) ++ be 1 (if raw then 0x80 else 0) ++ le 2 v.length ++ v
  | none => []

/-- CHALLENGE: the digest of the chain, a free nonce, the measurement summary and 64 free signature bytes. -/
def execChallenge (doe : Bool) (slot : Nat) (nonce : Bytes) (s : State) : Res :=
  runSpdm doe 3 s fun s =>
    if slot ≠ 0 ∨ nonce.length ≠ 32 then s.spdmError doe 0x01
    else
      let (n, s) := s.drawBytes 32
      let (sig, s) := s.drawBytes 64
      s.spdmSend doe 0x03 0 0x01
        (sm3 Config.certChain ++ n ++ sm3 ((List.range 8).flatMap fun i => s.measBlock (i + 1)) ++ le 2 0 ++ sig)

/-- GET_MEASUREMENTS (R725): index 0 asks how many blocks there are, 0xFF for all of them. -/
def execGetMeasurements (doe signed : Bool) (index : Nat) (nonce : Bytes) (s : State) : Res :=
  runSpdm doe 3 s fun s =>
    if (8 < index ∧ index ≠ 0xFF) ∨ (signed ∧ nonce.length ≠ 32) then s.spdmError doe 0x01
    else
      let l := if index = 0 then [] else if index = 0xFF then (List.range 8).map (· + 1) else [index]
      let rec_ := l.flatMap fun i => s.measBlock i
      let (n, s) := s.drawBytes 32
      let (sig, s) := if signed then s.drawBytes 64 else ([], s)
      s.spdmSend doe 0x60 (if index = 0 then 8 else 0) 0
        (be 1 l.length ++ le 3 rec_.length ++ rec_ ++ n ++ le 2 0 ++ sig)

end Sys2Proof.Machine
end

