-- ==== Sys2Proof/Machine/Faults.lean ====
section
/-! DEFINITION. Errors and their containment (R731 to R740, R755), service states (R746 to R753), the event recorder's readers
and EVENT_CLEAR (R759 to R769), and telemetry (R724, R770, R771). -/

namespace Sys2Proof.Machine

/-! ### What an error strikes (R739) -/

/-- A frame in a slice taken out of its flow. -/
def State.pullFrame (s : State) (n id : Nat) : Option Frame × State :=
  let x := s.slice n
  let all := x.admitted ++ x.injected ++ x.recirc ++ x.couch.map (·.frame) ++ x.orphans.map (·.frame) ++ x.pipe.map (·.frame) ++
    s.tm.input.map (·.frame)
  match all.find? (·.id = id) with
  | none => (none, s)
  | some f =>
    let s := s.modSlice n fun x => { x with
      admitted := x.admitted.filter (·.id ≠ id), injected := x.injected.filter (·.id ≠ id)
      recirc := x.recirc.filter (·.id ≠ id), couch := x.couch.filter (·.frame.id ≠ id)
      orphans := x.orphans.filter (·.frame.id ≠ id), pipe := x.pipe.filter (·.frame.id ≠ id) }
    (some f, ({ s with tm := { s.tm with input := s.tm.input.filter (·.frame.id ≠ id) } }).checkRejoin n)

/-- Whether a copy is a frame on its way through the crypto complex, which has no disposition yet. -/
def Copy.inCrypto (c : Copy) : Bool := decide (qCrypto 0 ≤ c.queue ∧ c.queue ≤ qCrypto 34)

/-- A copy that an error struck taken out of its flow: a crypto item as a frame, an admitted copy into a queue of its own. -/
def State.strikeCopy (s : State) (c : Copy) : State :=
  if c.inCrypto then
    match s.tm.frames.get? c.frame with
    | some f => ((s.takeItem c).modSlice f.frame.slice fun x => { x with struck := x.struck ++ [f.frame] }).endContexts
    | none => s.unqueue c
  else
    let s := s.unqueue c
    let c := { c with queue := qStruck }
    { s with tm := { s.tm with
      hbmUsed := if c.spilled then s.tm.hbmUsed + c.n else s.tm.hbmUsed
      queues := s.tm.queues.set qStruck (s.queue qStruck ++ [c]) } }

/-- A copy by its number. -/
def State.copyOf (s : State) (id : Nat) : Option Copy :=
  (s.tm.queues.values.flatMap fun (l : List Copy) => l).find? (·.id = id)

/-- A crypto item named as the frame that it is. -/
def State.itemNamed (s : State) (i : ErrItem) : ErrItem :=
  match i with
  | .copy id =>
    match s.copyOf id with
    | some c =>
      match s.tm.frames.get? c.frame with
      | some f => if c.inCrypto then .frame f.frame.slice c.frame else i
      | none => i
    | none => i
  | _ => i

/-- A record in staging that is bad: discarded and counted as missing, its leaf kept (R236, R739). -/
def State.loseRecord (s : State) (set : Nat) : State :=
  match s.ldg.records.find? (·.set = set) with
  | none => s
  | some r =>
    let s := s.modReam r.ream fun c => { c with missing := c.missing + 1 }
    let s := { s with ldg := { s.ldg with
      records := s.ldg.records.erase r
      sets := s.ldg.sets.modify set RingSet.init fun r => { r with missing := (r.missing + 1) % 2 ^ 32 } } }
    (s.bump F.ldgMissing_count 1).checkRefuse

/-- A work entry that fails (R739). -/
def State.failWork (s : State) (w : WorkRef) : State :=
  match s.qm.wqs.get? w.wq with
  | none => s
  | some q =>
    if q.kind = 2 then s.failItem (.work w) 0 stStorageError
    else if s.workReady w then s.failItem (.work w) 0 stInternalError
    else
      let s := s.modQm fun m => { m with
        sends := m.sends.filter fun x => !decide (x.wq = w.wq ∧ x.idx = w.idx)
        recvs := m.recvs.filter fun x => !decide (x.wq = w.wq ∧ x.idx = w.idx) }
      let s := s.modWq w.wq fun q => { q with posted := q.posted.filter (·.1 ≠ w.idx) }
      s.workDone w.wq w.idx stInternalError []

/-- An item that a UCI strikes: a frame or copy is held for its record, any other item fails at once (R734, R739). -/
def State.strike (s : State) (i : ErrItem) : State :=
  match i with
  | .none | .slot _ => s
  | .frame n id =>
    match s.pullFrame n id with
    | (some f, s) => s.modSlice n fun x => { x with struck := x.struck ++ [f] }
    | (none, s) => (s.copiesOf id).foldl State.strikeCopy s
  | .copy id =>
    match s.copyOf id with
    | some c => s.strikeCopy c
    | none => s
  | .work w => s.failWork w
  | .admin r =>
    if r.idx ∈ (s.fn r.fn).admin.opened then s.adminDone (s.tok r) stInternalError [] else s.failItem (.admin r) 0 stInternalError
  | .record set => s.loseRecord set

/-- The containment that a record waits for: frames without a disposition are dropped, admitted copies fail (R739). -/
def State.contain (s : State) (i : ErrItem) : State :=
  let drop := fun (s : State) (f : Frame) =>
    (s.modSlice f.slice fun x => { x with struck := x.struck.filter (·.id ≠ f.id) }).dropInSlice f 0x12
  match i with
  | .frame _ id =>
    let s := (((List.range 8).flatMap fun n => (s.slice n).struck).filter (·.id = id)).foldl drop s
    ((s.queue qStruck).filter (·.frame = id)).foldl (fun (s : State) c => s.dropCopy c 0x40) s
  | .copy id => ((s.queue qStruck).filter (·.id = id)).foldl (fun (s : State) c => s.dropCopy c 0x40) s
  | _ => s

/-- A CE counted for telemetry (R732). -/
def State.countCe (s : State) (hbm : Bool) : State :=
  { s with tel := if hbm then { s.tel with hbmCe := s.tel.hbmCe + 1 } else { s.tel with sramCe := s.tel.sramCe + 1 } }

/-- A unit that leaves service by an error of its own: what its kind does then. -/
def State.leaveByError (s : State) (u : UnitRef) (second : Bool) : State :=
  let (k, sl, n) := u
  if (s.unit k sl n).state = .outOfService ∨ (s.unit k sl n).state = .testing then s
  else match k with
    | .parseLane => s.laneLeaves sl n second
    | .sm3Engine => s.sm3Leaves sl n second
    | .builderSide => s.builderLeaves n second
    | .signer => s.signerLeaves n second
    | .deckleSide => s.deckleLeaves n second
    | .cryEngine => s.engineLeaves false n second
    | .stoEngine => s.engineLeaves true n second
    | .flash => s.flashLeaves n second
    | .port => (s.portOff n).unitFault u second
    | .slice => s

/-- ERROR_DETECTED (R731 to R737, R739, R741). -/
def execErrorDetected (e : ErrArgs) (s : State) : Res :=
  whenWorking s <|
    match e.unit with
    | some a =>
      match unitOf a with
      | none => .next s
      | some u =>
        let second := s.recordOpen u
        let item := s.itemNamed e.item
        let (cls, s) := s.detect e.cls e.source (some u) item false false
        .next (if cls = 0 then s.countCe e.hbm else if cls = 1 then s.strike item
          else if cls = 2 then s.leaveByError u second else s)
    | none =>
      let item := s.itemNamed e.item
      let (cls, s) := s.detect e.cls e.source none item false false
      .next (if cls = 0 then s.countCe e.hbm else if cls = 1 then s.strike item else s)

/-- ERROR_RECORD_CLOSE (R733, R734): the oldest record closes, its containment complete. -/
def execErrorRecordClose (s : State) : Res :=
  whenWorking s <|
    match s.evr.records with
    | [] => .next s
    | r :: rest =>
      let s := { s with evr := { s.evr with records := rest } }
      .next (if r.cls = 1 then s.contain r.item else s)

/-! ### Patrol (R755) -/

/-- The source number of the subsystem that holds a structure. -/
def patrolSource : PatrolTarget → Nat
  | .fdb .. | .flow .. => 6
  | .ruleWord .. => 5
  | .context .. => 9
  | .bufferCell .. => 8
  | .staging .. => 3

/-- Whether a structure lies in HBM. -/
def State.patrolHbm (s : State) (t : PatrolTarget) : Bool :=
  match t with
  | .flow .. | .context .. | .staging .. => true
  | .bufferCell id => s.tm.queues.values.any fun l => l.any fun c => decide (c.id = id) && c.spilled
  | .fdb .. | .ruleWord .. => false

/-- What a bad word of a structure brings about. A rule-bank word, LPM route or ternary row is rewritten from the copy in HBM at a free
instant within 20 µs, and lookups that read it miss until then. -/
def State.patrolAct (s : State) (t : PatrolTarget) : State :=
  match t with
  | .fdb n slot =>
    if (s.tabs n).fdb.has slot then
      (s.modTabs n fun t => { t with fdb := t.fdb.erase slot }).count1 (C.fdbAged n)
    else s
  | .flow slot =>
    match s.flow.flow.get? slot with
    | some e => (s.deleteFlow (flowOps.key e)).2.2
    | none => s
  | .ruleWord n w =>
    let (d, s) := s.draw (20 * usStamp)
    s.modSlice n fun x => { x with badWords := x.badWords.filter (fun e => decide (s.now < e.2)) ++ [(w, s.now + d + 1)] }
  | .context i =>
    match s.eng.ctxs.get? i with
    | some k => s.setCtx i { k with state := .expired }
    | none => s
  | .bufferCell id =>
    match s.copyOf id with
    | some c =>
      match s.tm.frames.get? c.frame with
      | some f => if c.inCrypto then (s.itemFault c f.frame).endContexts else s.cellFault c
      | none => s
    | none => s
  | .staging set => s.loseRecord set

/-- PATROL_READ (R738, R754, R755): a word that is bad, corrected and written back, or handled as a UCI. -/
def execPatrolRead (t : PatrolTarget) (correctable : Bool) (s : State) : Res :=
  whenWorking s <|
    if correctable then .next ((s.detect 0 (patrolSource t) none .none false false).2.countCe (s.patrolHbm t))
    else
      let item := match t with | .flow slot => ErrItem.slot slot | _ => .none
      let (cls, s) := s.detect 1 (patrolSource t) none item false false
      .next (if cls = 3 then s else s.patrolAct t)

/-! ### Service states (R746 to R753) -/

/-- Whether a unit holds work (R746, R751). -/
def State.holdsWork (s : State) (u : UnitRef) : Bool :=
  let (k, sl, n) := u
  match k with
  | .port => (s.port n).txCopy.isSome && decide (s.now < (s.port n).txUntil)
  | .slice =>
    decide (s.sliceFrames n ≠ []) || decide ((s.slice n).struck ≠ []) || decide ((s.slice n).injWait ≠ []) ||
      (List.range 12).any fun i => decide ((s.port (12 * n + i)).fifo ≠ [])
  | .signer => s.unsignedHeaders.any fun h => decide (h.signer = some n)
  | .parseLane => (s.slice sl).couch.any (·.lane = n)
  | .flash => decide (s.nvm.writing ≠ []) || s.ldg.ckptWriting.isSome || s.nvm.upd.busy
  | .cryEngine | .stoEngine | .sm3Engine | .builderSide | .deckleSide => false

/-- The roles of an engine. -/
def State.engineRoles (s : State) (storage : Bool) (n : Nat) : List Nat :=
  (List.range (if storage then 16 else 32)).filter fun r =>
    decide (roleEngine (if storage then s.eng.stoRoles else s.eng.cryRoles) r = n)

/-- Whether another engine can take an engine's roles. -/
def State.engineRelief (s : State) (storage : Bool) (n : Nat) : Bool :=
  let k := if storage then UnitKind.stoEngine else .cryEngine
  let t := if storage then s.eng.stoRoles else s.eng.cryRoles
  (s.spareEngine k).isSome ||
    (List.range (if storage then 16 else 32)).any fun r => decide (roleEngine t r ≠ n ∧ roleEngine t r ≠ 255)

/-- An engine that drains hands its roles over as soon as there is one to take them. -/
def State.handEngine (s : State) (storage : Bool) (n : Nat) : State :=
  if s.engineRelief storage n ∨ s.engineRoles storage n = [] then s.leaveRoles storage n else s

/-- What a unit does as it begins to drain (R331, R385, R387, R573). -/
def State.beginDrain (s : State) (u : UnitRef) : State :=
  let (k, sl, n) := u
  match k with
  | .port => s.flushPort n true
  | .parseLane => if n ∈ (s.slice sl).roles then (s.vacateLane sl n true).2 else s
  | .cryEngine => s.handEngine false n
  | .stoEngine => s.handEngine true n
  | .slice | .signer | .sm3Engine | .builderSide | .deckleSide | .flash => s

/-- Whether the roles of a unit that drains are held elsewhere (R746). -/
def State.roleGone (s : State) (u : UnitRef) : Bool :=
  match u.1 with
  | .cryEngine => decide (s.engineRoles false u.2.2 = [])
  | .stoEngine => decide (s.engineRoles true u.2.2 = [])
  | _ => true

/-- What follows as a drained unit leaves service: its role to the spare, its side to the other, its event. -/
def State.afterDrain (s : State) (u : UnitRef) (role : Option Nat) : State :=
  let (k, sl, n) := u
  let left := fun (s : State) (code : Nat) (snap : List Snap) => s.eventWith code (errInfo 2 0xFF (some u)) snap
  match k with
  | .port => s.portOff n
  | .parseLane => left s 0x4001 [.q sl, .q n]
  | .sm3Engine =>
    let s := left s 0x300A [.q sl, .q n]
    match role with | some r => s.giveToSpare .sm3Engine sl r | none => s
  | .signer =>
    let s := left s 0x300C []
    (match role with | some r => s.giveToSpare .signer 0 r | none => s).handOff
  | .builderSide =>
    let s := left s 0x300B []
    { s with ldg := { s.ldg with builderB := decide (n = 0) } }
  | .deckleSide => (left s 0x7001 [.q n]).deckleSides
  | .flash => left s 0xB006 []
  | .slice | .cryEngine | .stoEngine => s

/-- A unit that drains leaves service once it holds no work, and TAKE_OUT completes (R746, R751). -/
def State.checkDrained (s : State) (u : UnitRef) : State :=
  let (k, sl, n) := u
  if (s.unit k sl n).state ≠ .draining ∨ s.holdsWork u ∨ !s.roleGone u then s
  else
    let role := s.roleOf k sl n
    let s := s.setUnit k sl n { s.unit k sl n with role := none, fence := 0 }
    ((s.moveUnit k sl n .outOfService 1).afterDrain u role).serviceDone u stSuccess

/-- Whether a unit exists for SERVICE_STATE: a port only while it is configured (R320, R752). -/
def State.serviceUnit (s : State) (a : UnitArgs) : Option UnitRef :=
  match unitOf a with
  | some (.port, sl, n) => if s.configured n then some (.port, sl, n) else none
  | some (.flash, sl, n) => if n = 1 ∧ s.nvm.mirror = false then none else some (.flash, sl, n)
  | x => x

/-- STATE, REASON and FENCE of a unit (R750). -/
def State.serviceWb (s : State) (u : UnitRef) : List (Nat × Bytes) :=
  (s.unit u.1 u.2.1 u.2.2).wb

/-- A SERVICE_STATE command on a unit: names a unit, is permitted, and finds the unit at rest (R752). -/
def runService (r : AdminRef) (a : UnitArgs) (s : State) (denied : State → UnitRef → Bool)
    (body : State → UnitRef → AdminRes) : Res :=
  runAdmin true false r s fun s =>
    match s.serviceUnit a with
    | none => failWith s stInvalidField
    | some u =>
      let st := (s.unit u.1 u.2.1 u.2.2).state
      if denied s u then (s, some (stNotPermitted, s.serviceWb u))
      else if st = .draining ∨ st = .testing ∨ st = .rejoining then (s, some (stBusy, s.serviceWb u))
      else body s u

/-- SERVICE_STATE_QUERY (R750 to R752). -/
def execServiceStateQuery (r : AdminRef) (u : UnitArgs) (s : State) : Res :=
  runService r u s (fun _ _ => false) fun s u => (s, some (stSuccess, s.serviceWb u))

/-- Whether TAKE_OUT of a unit would leave no builder side, Deckle side or flash device (R752). -/
def State.lastOfPair (s : State) (u : UnitRef) : Bool :=
  let (k, _, n) := u
  match k with
  | .builderSide | .deckleSide => s.up k 0 n && !s.up k 0 (1 - n)
  | .flash => s.up .flash 0 n && decide (s.flashUp.filter (· ≠ n) = [])
  | _ => false

/-- SERVICE_STATE_TAKE_OUT (R746, R750 to R753). -/
def execServiceStateTakeOut (r : AdminRef) (u : UnitArgs) (s : State) : Res :=
  runService r u s State.lastOfPair fun s u =>
    let (k, sl, n) := u
    let x := s.unit k sl n
    if x.state ≠ .inService then (s, some (stSuccess, s.serviceWb u))
    else if k = .slice ∧ (s.portList.any fun p => decide (sliceOf p = n ∧ (s.unit .port 0 p).state ≠ .outOfService)) then
      (s, some (stBusy, s.serviceWb u))
    else
      let s := s.setUnit k sl n { x with token := some (s.tok r), fence := 0 }
      (((s.moveUnit k sl n .draining 0).beginDrain u).checkDrained u, none)

/-- UNIT_DRAIN_COMPLETE (R746, R751, R753). -/
def execUnitDrainComplete (u : UnitArgs) (s : State) : Res :=
  whenWorking s <|
    match unitOf u with
    | none => .next s
    | some u =>
      let (k, sl, n) := u
      if (s.unit k sl n).state ≠ .draining then .next s
      else
        let s := if k = .cryEngine ∧ !s.roleGone u then s.handEngine false n
          else if k = .stoEngine ∧ !s.roleGone u then s.handEngine true n
          else s
        .next (s.checkDrained u)

/-- A port that can't leave OUT_OF_SERVICE: an invalid mode, or lanes that overlap (R321). -/
def State.modeRefused (s : State) (n : Nat) : State :=
  let x := s.unit .port 0 n
  let s := s.setUnit .port 0 n { x with reason := 5, fence := 0 }
  let s := (s.moveUnit .port 0 n .outOfService 5).modPort n fun p => { p with modeErr := true }
  (s.event 0x1009 3 []).serviceDone (.port, 0, n) stInvalidField

/-- Whether a configured port's mode lets it leave OUT_OF_SERVICE (R319, R321). -/
def State.modeFits (s : State) (n : Nat) : Bool := s.modeOk n && !s.modeOverlap n

/-- SERVICE_STATE_RETURN (R319 to R321, R746, R750 to R753). A port without a test goes to REJOINING at once (R320). -/
def execServiceStateReturn (r : AdminRef) (u : UnitArgs) (s : State) : Res :=
  runService r u s (fun _ u => decide (u.1 = .flash)) fun s u =>
    let (k, sl, n) := u
    let x := s.unit k sl n
    if x.state = .inService then (s, some (stSuccess, s.serviceWb u))
    else if k = .port ∧ !s.up .slice 0 (sliceOf n) then (s, some (stBusy, s.serviceWb u))
    else
      let s := s.setUnit k sl n { x with token := some (s.tok r), fence := 0 }
      if k = .port ∧ !s.modeFits n then (s.modeRefused n, none)
      else
        let s := s.moveUnit k sl n .testing 0
        if k = .port then
          let s := s.modPort n fun p => { p with prbsErr := false }
          (if s.fld (F.portCtrl_test n) = 0 then s.moveUnit .port 0 n .rejoining 0 else s, none)
        else (s, none)

/-- The first ternary region of a slice that overlaps another or goes beyond the last row (R503). -/
def State.badRegion (s : State) (n : Nat) : Option Nat :=
  let base := fun r => s.fld (F.fdbTcamRegion_base n r)
  let size := fun r => s.fld (F.fdbTcamRegion_size n r)
  (List.range 8).find? fun r => decide (size r ≠ 0) && (decide (32768 < base r + size r) ||
    (List.range 8).any fun q => decide (q ≠ r ∧ size q ≠ 0 ∧ base q < base r + size r ∧ base r < base q + size q))

/-- A unit that passed its self-test (R746, R748): it waits for the fence of its kind; a lane asks for its role at once. -/
def State.testPassed (s : State) (u : UnitRef) : State :=
  let (k, sl, n) := u
  let s := s.setUnit k sl n { s.unit k sl n with fault := false, fence := s.ream }
  let s := s.moveUnit k sl n .rejoining 0
  if k = .parseLane then s.rejoinLane sl n else s

/-- A unit that failed it. -/
def State.testFailed (s : State) (u : UnitRef) : State :=
  let (k, sl, n) := u
  let s := (s.moveUnit k sl n .outOfService 4).eventWith 0xB011 (errInfo 2 0xFF (some u)) []
  s.serviceDone u stInternalError

/-- SELF_TEST_COMPLETE (R503, R746, R748, R751, R753). -/
def execSelfTestComplete (u : UnitArgs) (pass : Bool) (s : State) : Res :=
  whenWorking s <|
    match unitOf u with
    | none => .next s
    | some u =>
      let (k, sl, n) := u
      if (s.unit k sl n).state ≠ .testing then .next s
      else
        let s := if k = .port ∧ s.fld (F.portCtrl_test n) = 2 then s.modPort n fun p => { p with prbsErr := !pass } else s
        match (if k = .slice then s.badRegion n else none) with
        | some r => .next ((s.event 0x6005 3 [.q n, .q r]).testFailed u)
        | none => .next (if pass then s.testPassed u else s.testFailed u)

/-! ### Fences (R748) -/

/-- The role that a returning engine takes: its own, or for a spare one that an engine holds beside another (R573, R747). -/
def State.roleFor (s : State) (storage : Bool) (n : Nat) : Option Nat :=
  let count := if storage then 16 else 32
  let t := if storage then s.eng.stoRoles else s.eng.cryRoles
  if n < count then some n
  else (List.range count).find? fun r =>
    decide (roleEngine t r = 255) || decide (2 ≤ (s.engineRoles storage (roleEngine t r)).length)

/-- An engine rejoins: it takes its role, and a spare that holds no role any more stands by again (R746, R747). -/
def State.rejoinEngine (s : State) (storage : Bool) (n : Nat) : State :=
  let k := if storage then UnitKind.stoEngine else .cryEngine
  let count := if storage then 16 else 32
  match s.roleFor storage n with
  | none => s.becomeSpare (k, 0, n)
  | some r =>
    let t := if storage then s.eng.stoRoles else s.eng.cryRoles
    let old := roleEngine t r
    let t := t.set r n
    let s := { s with eng := if storage then { s.eng with stoRoles := t } else { s.eng with cryRoles := t } }
    let s := if storage then s else s.moveItems
    let s := if count ≤ old ∧ old ≠ 255 ∧ s.engineRoles storage old = [] then s.becomeSpare (k, 0, old) else s
    s.enterService (k, 0, n) s.ream

/-- UNIT_FENCE_REACHED (R288, R320, R321, R386, R387, R746 to R753). -/
def execUnitFenceReached (u : UnitArgs) (s : State) : Res :=
  whenWorking s <|
    match unitOf u with
    | none => .next s
    | some u =>
      let (k, sl, n) := u
      let x := s.unit k sl n
      if x.state ≠ .rejoining then .next s
      else match k with
        | .port =>
          if s.modeFits n then
            .next ((s.modPort n fun p => { p with modeErr := false }).enterService u 0)
          else .next (s.modeRefused n)
        | .slice => if s.coh.phase = .armed ∨ s.coh.draining ≠ [] then .next s else .next (s.enterService u 0)
        | .cryEngine => if s.ream = x.fence then .next s else .next (s.rejoinEngine false n)
        | .stoEngine => if s.ream = x.fence then .next s else .next (s.rejoinEngine true n)
        | .parseLane => .next ((s.rejoinLane sl n).checkRejoin sl)
        | .signer | .sm3Engine | .builderSide | .deckleSide => if s.ream = x.fence then .next s else .next (s.rejoinUnit u)
        | .flash => .next s

/-! ### The event recorder (R759 to R769) -/

/-- EVENT_PERSIST (R760, R769): an entry of WARNING or above, or one that carries CLEAR_RECORD, is in the event region. -/
def execEventPersist (seq : Nat) (s : State) : Res :=
  whenWorking s <|
    match s.evr.ring.find? (·.seq = seq) with
    | none => .next s
    | some e =>
      if e.persisted ∨ (e.sev < 2 ∧ !e.clearRec) ∨ s.flashUp = [] ∨ !s.evr.flashOk then .next s
      else
        .next (({ s with evr := { s.evr with
          ring := s.evr.ring.map fun (x : EvEntry) => if x.seq = seq then x.persist else x
          region := (e.persist :: s.evr.region).take 262144 } }).count1 C.evrPersisted)

/-- When the last refill interval of a code ended; intervals follow one another from the start of the time base (R759). -/
def State.refilledAt (s : State) (code : Nat) : Stamp := s.evr.refillAt.getD code s.mgt.bootAt

/-- EVENT_BUCKET_REFILL (R759): a refill interval of a code has passed, and its bucket has a token more. -/
def execEventBucketRefill (code : Nat) (s : State) : Res :=
  whenWorking s <|
    match s.evr.cfg.find? (·.code = code) with
    | none => .next s
    | some c =>
      let span := max 1 c.refillMs * msStamp
      let last := s.refilledAt code
      let n := s.evr.spent.getD code 0
      if s.now < last + span then .next s
      else
        .next { s with evr := { s.evr with
          refillAt := s.evr.refillAt.set code (last + (s.now - last) / span * span)
          spent := if n ≤ 1 then s.evr.spent.erase code else s.evr.spent.set code (n - 1) } }

/-- The SEQ that a write of `EVR_SEL_L32` selects. -/
def State.evrSeq (s : State) (lo : Word) : Nat := s.fld F.evrSelH32_seq * 2 ^ 32 + lo.toNat

/-- EVR_SELECT_ON_DIE (R763): the write of `EVR_SEL_L32` with `EVR_CTRL.SRC` 0. -/
def execEvrSelectOnDie (lo : Word) (s : State) : Res :=
  whenWorking s <|
    if s.fld F.evrCtrl_src ≠ 0 then .next s
    else
      .next ({ s with evr := { s.evr with selValid := true, selBusy := false, selSeq := s.evrSeq lo, selSrc := 0 } }.setReg
        Reg.evrSelL32 lo.toNat)

/-- EVR_SELECT_REGION (R764): the same with SRC 1 starts a copy from the event region. -/
def execEvrSelectRegion (lo : Word) (s : State) : Res :=
  whenWorking s <|
    if s.fld F.evrCtrl_src ≠ 1 then .next s
    else
      .next ({ s with evr := { s.evr with
        selValid := true, selBusy := true, selSeq := s.evrSeq lo, selSrc := 1, copy := none } }.setReg Reg.evrSelL32 lo.toNat)

/-- EVR_COPY_COMPLETE (R764). -/
def execEvrCopyComplete (s : State) : Res :=
  whenWorking s <|
    if !s.evr.selBusy then .next s
    else
      .next { s with evr := { s.evr with
        selBusy := false
        copy := if s.flashUp = [] then none else s.evr.region.find? (·.seq = s.evr.selSeq) } }

/-- ALERT_ACK (R762): a write of 1 to `EVR_ALERT.ACK`. -/
def execAlertAck (s : State) : Res :=
  whenWorking s <|
    .next (if s.evr.alert then ({ s with evr := { s.evr with alert := false } }).emit (.alert false) else s)

/-- A new `EVR_NONCE` (R766). -/
def State.newNonce (s : State) : State :=
  let (n, s) := s.draw (2 ^ 64)
  { s with evr := { s.evr with nonce := BitVec.ofNat 64 n } }

/-- The status of EVENT_CLEAR (R768). -/
def State.clearStatus (s : State) (bufLen : Nat) (t : ClearToken) : Nat :=
  if bufLen < 128 ∨ t.magic ≠ 0x4556434C ∨ t.version ≠ 1 ∨ 1 < t.scope then stInvalidField
  else if t.keyId ∉ s.evr.clearKeys ∨ t.serial ≠ s.mgt.serial ∨ t.sigOk = false then stAuthFailed
  else if t.nonce ≠ s.evr.nonce then stGenerationStale
  else stSuccess

/-- A successful clear (R769): the number of entries removed and the SEQ of the record of it. -/
def State.clearEvents (s : State) (t : ClearToken) : Nat × Nat × State :=
  let goes := fun (e : EvEntry) => decide (e.seq ≤ t.clearThrough) && !e.clearRec
  let gone := s.evr.ring.filter goes ++ if t.scope = 1 then s.evr.region.filter goes else []
  let s := { s with evr := { s.evr with
    ring := s.evr.ring.filter fun e => !goes e
    region := if t.scope = 1 then s.evr.region.filter fun e => !goes e else s.evr.region
    spent := s.evr.spent.erase 0xB015 } }
  let seq := s.evr.nextSeq
  ((gone.map (·.seq)).eraseDups.length, seq,
    s.eventWith 0xB015 { EvInfo.plain 1 with clear := true } [.w t.keyId, .w t.clearThrough])

/-- EVENT_CLEAR (R765 to R769). The nonce is new after each one that completes. -/
def execEventClear (r : AdminRef) (bufLen : Nat) (token : ClearToken) (s : State) : Res :=
  let run := fun (s : State) => runAdmin true false r s fun s =>
    let st := s.clearStatus bufLen token
    if st ≠ stSuccess then (s, some (st, []))
    else
      let (n, seq, s) := s.clearEvents token
      (s, some (st, [(24, le 8 n), (32, le 8 seq)]))
  whenWorking s <|
    if !s.adminReady r ∨ r.reading then run s
    else match run s with
      | .next t => .next t.newNonce
      | x => x

/-! ### Telemetry (R724, R770, R771) -/

/-- A port's rate over an interval, in units of 0.1 Gb/s. -/
def rate100 (octets span : Nat) : Nat := if span = 0 then 0 else min 0xFFFF (octets * 80 * 65536 / span)

/-- The 512 bytes of a telemetry record (R770). -/
def State.telRecord (s : State) (x : Sensors) (seq span : Nat) : Bytes :=
  le 8 seq ++ stampLe s.now ++ le 1 s.tb.quality.code ++ le 1 s.thermal ++ le 2 x.powerDeciW ++
    le 4 (s.view Reg.tbPhaseOffset) ++ le 4 (s.view Reg.tbFreqOffset) ++
    ((List.range 16).flatMap fun i => le 2 (twos 16 (x.temps.getD i 0))) ++
    ((List.range 11).flatMap fun i => le 2 (x.railMv.getD i 0)) ++ zeros 2 ++
    ((List.range 11).flatMap fun i => le 2 (x.railCurrent.getD i 0)) ++ zeros 2 ++
    le 4 s.tel.sramCe ++ le 4 s.tel.hbmCe ++ le 4 s.tel.uncorrected ++ zeros 4 ++
    ((List.range 96).flatMap fun p =>
      let (rx, tx) := if s.configured p then s.tel.rates.getD p (0, 0) else (0, 0)
      le 2 (rate100 rx span) ++ le 2 (rate100 tx span))

/-- A sensor that has crossed a threshold reported to the event receiver (R724). -/
def State.senseCross (s : State) (old : Sensors) (sensor : Nat) : State :=
  match sensorValue s.tel.sensors sensor with
  | none => s
  | some v =>
    let before := match sensorValue old sensor with
      | some o => s.sensorLevel sensor o
      | none => 0
    if s.mgt.receiver.isNone ∨ s.sensorLevel sensor v = before then s
    else
      let s := s.sensorEvent sensor
      { s with mgt := { s.mgt with unacked := s.mgt.unacked.filter (fun e => decide (e.1 ≠ sensor)) ++ [(sensor, s.now)] } }

/-- The sensors as the power registers show them (R798): power, and the highest Tj with its sensor and its high-water mark. -/
def State.sensed (s : State) (x : Sensors) : State :=
  let best := (List.range 16).foldl (fun (a : Int × Nat) i =>
    let t := x.temps.getD i 0
    if i = 0 ∨ a.1 < t then (t, i) else a) (0, 0)
  { s with pwr := { s.pwr with
    deciW := x.powerDeciW, tjMax := best.1, tjSensor := best.2, tjHwm := max s.pwr.tjHwm best.1
    hotAt := if 113 * 16 < best.1 then s.now else s.pwr.hotAt } }

/-- TELEMETRY_RECORD (R770, R724): every 10 ms ± 0.1 ms once firmware runs. -/
def execTelemetryRecord (sensors : Sensors) (s : State) : Res :=
  whenWorking s <|
    if s.mgt.stage = .rom ∨ (s.tel.ring ≠ [] ∧ s.now < s.tel.lastAt + 9900 * usStamp) then .next s
    else
      let old := s.tel.sensors
      let seq := s.tel.nextSeq
      let s := s.sensed sensors
      let r : TelRec := { seq, stamp := s.now, bytes := s.telRecord sensors seq (s.now - s.tel.lastAt), sensors }
      let s := { s with tel := { s.tel with
        ring := (r :: s.tel.ring).take 1024, nextSeq := seq + 1, sramCe := 0, hbmCe := 0, uncorrected := 0, rates := .empty
        lastAt := s.now, sensors } }
      .next (numericSensors.foldl (fun (s : State) n => s.senseCross old n) s)

/-- TEL_SELECT (R771): the write of `TEL_SEL_L32`. -/
def execTelSelect (lo : Word) (s : State) : Res :=
  whenWorking s <|
    let seq := s.fld F.telSelH32_seq * 2 ^ 32 + lo.toNat
    .next ({ s with tel := { s.tel with sel := s.tel.ring.find? (·.seq = seq) } }.setReg Reg.telSelL32 lo.toNat)

end Sys2Proof.Machine
end

