-- ==== Sys2Proof/Machine/TimeBase.lean ====
section
/-! DEFINITION. The time base, its servo and sources, steps, time outputs, event inputs and PTP (R69 to R134, R837). -/

namespace Sys2Proof.Machine

/-! ### The increment (R70, R87, R124) -/

/-- Increments per edge that `TB_SLEW_LIMIT.PPB` permits away from the estimate of true frequency (R87). -/
def State.slewLimit (s : State) : Int := (nominal * s.fld F.tbSlewLimit_ppb) / 1000000000

/-- The LOCKED time spent so far at the present frequency put on record (R86). -/
def State.noteLocked (s : State) : State :=
  if s.tb.quality = .locked then
    { s with tb := { s.tb with lockedRuns := (s.now - s.tb.lockedAt, s.tb.freq) :: s.tb.lockedRuns, lockedAt := s.now } }
  else s

/-- A new estimate of true frequency; a slew in progress goes on. -/
def State.setFreq (s : State) (freq : Int) : State :=
  if freq = s.tb.freq then s else (s.noteLocked).setIncr freq s.tb.slew s.tb.phaseLeft

/-- A slew per edge that removes a phase: towards it, by at least one unit (R119), within the limit and no more than what is
left. -/
def slewFor (limit law left : Int) : Int :=
  let most := min limit (left.natAbs : Int)
  let size := clamp (min 1 most) most (law.natAbs : Int)
  if 0 < left then size else -size

/-- A phase to be removed at the slew limit (R91), in units of 2^-32 ns; what announced increments have still to remove is part of
it. -/
def State.slewHard (s : State) (phase : Int) : State :=
  let left := phase - s.tb.covered
  s.setIncr s.tb.freq (slewFor s.slewLimit (if 0 < left then s.slewLimit else -s.slewLimit) left) left

/-- A phase to be removed at a rate of the servo's own within the limit (R87). -/
def State.slewPhase (s : State) (phase : Int) : State :=
  let left := phase - s.tb.covered
  let law := Config.servoSlew left s.free
  { s with free := s.free + 1 }.setIncr s.tb.freq (slewFor s.slewLimit law left) left

/-- One edge of the time-base clock (R70): the increment, which the time copies take too (R143), four times over while
TIME_MERGE runs from the safe clock (R792), and the end of a phase correction. It goes on in FATAL (R744). -/
def State.edge (s : State) : State :=
  if !s.tb.running || s.timeDead then s
  else
    let k : Nat := if (s.island 13).safe then 4 else 1
    let s := s.takePlan
    let s := { s with tb := { s.tb with
      time := s.tb.time + k * s.tb.incr, covered := s.tb.covered + k * (s.tb.slew - s.tb.slewNow) } }
    let s := s.moveCopies (k * s.tb.incr : Nat)
    if s.tb.slew = 0 then s
    else
      let left := s.tb.phaseLeft - k * s.tb.slew
      if left = 0 ∨ (0 < left ∧ s.tb.slew < 0) ∨ (left < 0 ∧ 0 < s.tb.slew) then s.setIncr s.tb.freq 0 0
      else s.setIncr s.tb.freq (slewFor s.slewLimit s.tb.slew left) left

/-! ### Servo states (R86, R88, R837) -/

/-- The frequency averaged over the newest part of the LOCKED time on record: what is left of 600 s, runs, sum, time. -/
def meanFreq : Nat → List (Nat × Int) → Int → Nat → Int × Nat
  | _, [], sum, span => (sum, span)
  | left, (d, f) :: r, sum, span =>
    if left = 0 then (sum, span) else meanFreq (left - min left d) r (sum + f * (min left d : Nat)) (span + min left d)

/-- The frequency of HOLDOVER (*Servo states*). -/
def State.holdFreq (s : State) : Int :=
  let (sum, span) := meanFreq (600 * secStamp) s.tb.lockedRuns 0 0
  if span = 0 then s.tb.freq else (2 * sum + span) / (2 * (span : Int))

/-- E_L: the largest absolute offset among the last LOCK_COUNT (R837), in stamp units. -/
def State.lockError (s : State) : Nat := (s.tb.recent.take (s.fld F.tbLockCfg_lockCount)).foldl max 0

/-- EST_ERROR_NS (R837). -/
def State.estError (s : State) : Nat :=
  match s.tb.quality with
  | .freeRun | .acquiring => 0xFFFFFFFF
  | .locked => min 0xFFFFFFFE (ceilDiv s.lockError nsStamp)
  | .holdover =>
    let t := s.now - s.tb.holdoverAt
    let e := 2 * secStamp * secStamp * s.tb.eL + 2 * secStamp * s.tb.timeSec.y * t + s.tb.timeSec.d * t * t
    min 0xFFFFFFFE (ceilDiv e (2 * secStamp * secStamp * nsStamp))

/-- HOLDOVER_S (R100, R120). -/
def State.holdoverS (s : State) : Nat := if s.tb.quality = .holdover then (s.now - s.tb.holdoverAt) / secStamp else 0

/-- A PPS output driven low (R96, R97). -/
def State.ppsLow (s : State) (n : Nat) : State :=
  if n ∈ s.tb.ppsHigh then ({ s with tb := { s.tb with ppsHigh := s.tb.ppsHigh.erase n } }).emit (.ppsOut n false) else s

/-- SERVO_STATE_CHANGE (R86): the state, its event, the Ream's quality (R88), the frequency of HOLDOVER, and PPS_QUALIFIED
outputs held low (R97). -/
def State.servoTo (s : State) (q : Quality) : State :=
  let old := s.tb.quality
  if old = q then s
  else
    let s := s.noteLocked
    let s := { s with
      tb := { s.tb with
        quality := q, everLocked := s.tb.everLocked || decide (q = Quality.locked), inRun := 0, outRun := 0, stepWait := none
        eL := if q = Quality.holdover then s.lockError else s.tb.eL
        holdoverAt := if q = Quality.holdover then s.now else s.tb.holdoverAt
        lockedAt := if q = Quality.locked then s.now else s.tb.lockedAt }
      ldg := { s.ldg with cur := s.ldg.cur.map fun (c : ReamSt) => { c with quality := c.quality.lower q } } }
    let s := s.event 0x2001 1 [.q old.code, .q q.code]
    let s := if q = .holdover then s.setIncr s.holdFreq 0 0 else s
    if q = .freeRun ∨ q = .acquiring then
      (List.range 2).foldl (fun (s : State) n => if s.fld (F.tbPpsOutCtrl_mode n) = 2 then s.ppsLow n else s) s
    else s

/-! ### Sources (R80 to R85) -/

/-- An entry of the source table. -/
def State.src (s : State) (n : Nat) : SrcSt := s.tb.srcs.getD n SrcSt.init

/-- A PPS input. -/
def State.pps (s : State) (i : Nat) : PpsSt := s.tb.pps.getD i PpsSt.init

/-- The state with a PPS input changed. -/
def State.modPps (s : State) (i : Nat) (f : PpsSt → PpsSt) : State :=
  { s with tb := { s.tb with pps := s.tb.pps.set i (f (s.pps i)) } }

/-- TYPE of a source entry. -/
def State.srcType (s : State) (n : Nat) : Nat := s.fld (F.tbSrcCfg_type n)

/-- TYPE of the active source, 0 when none. -/
def State.activeType (s : State) : Nat := match s.tb.active with | some a => s.srcType a | none => 0

/-- Whether an entry meets the rule of its type (R81 to R84, R102). -/
def State.srcMeets (s : State) (n : Nat) : Bool :=
  match s.srcType n with
  | 1 => (s.pps 0).ok && (s.pps 0).todOk
  | 2 => (s.pps 0).ok
  | 3 => (s.pps 1).ok
  | 4 => s.tb.slave.isSome
  | 5 => s.tb.hostAt.isSome
  | _ => false

/-- Whether an entry takes part in selection: qualified, enabled, and the forced one where one is forced (R80). -/
def State.candidate (s : State) (n : Nat) : Bool :=
  (s.src n).qualified && decide (s.fld (F.tbSrcCfg_enable n) = 1) &&
    decide (s.fld F.tbCtrl_forceSrc = 0 ∨ s.fld F.tbCtrl_forceIdx = n)

/-- Whether entry `a` ranks higher than entry `b` (R85). -/
def State.outranks (s : State) (a b : Nat) : Bool :=
  let pa := s.fld (F.tbSrcCfg_priority a)
  let pb := s.fld (F.tbSrcCfg_priority b)
  decide (pa < pb ∨ (pa = pb ∧ a < b))

/-- The highest-priority candidate (R80). -/
def State.bestSource (s : State) : Option Nat :=
  (List.range 16).foldl (fun (b : Option Nat) n =>
    if !s.candidate n then b
    else match b with
      | none => some n
      | some m => if s.outranks n m then some n else b) none

/-- TB_UTC as the parent gives it while the slave port's PTP source is active (R112). -/
def State.parentUtc (s : State) : State :=
  match s.tb.slave with
  | none => s
  | some p =>
    let q := s.tb.ptp.getD p PtpSt.init
    if s.activeType = 4 ∧ q.announced then
      ((s.setFld F.tbUtc_offset (twos 16 q.utcOffset)).setFld F.tbUtc_leap61 (b2n q.leap61)).setFld F.tbUtc_leap59 (b2n q.leap59)
    else s

/-- The active source changed, with what R86 and R112 make of it. The counts of consecutive offsets start again (assumption
102). -/
def State.activate (s : State) (n : Option Nat) : State :=
  if s.tb.active = n then s
  else
    let s := ({ s with tb := { s.tb with active := n, inRun := 0, outRun := 0, stepWait := none } }).parentUtc
    match n, s.tb.quality with
    | none, .acquiring => s.servoTo .freeRun
    | none, .locked => s.servoTo .holdover
    | some _, .freeRun => s.servoTo .acquiring
    | some _, .holdover => s.servoTo .acquiring
    | _, _ => s

/-- The active source while it stays a candidate, else the best one (R80, R85). -/
def State.selectSource (s : State) : State :=
  match s.tb.active with
  | some a => if s.candidate a then s else s.activate s.bestSource
  | none => s.activate s.bestSource

/-- Qualification of every entry as its rule now says, with REASON and event of each disqualified one (R81 to R84), and the
selection. -/
def State.refreshSources (s : State) (reason : Nat) : State :=
  let s := (List.range 16).foldl (fun (s : State) n =>
    let e := s.src n
    let ok := s.srcMeets n
    if ok = e.qualified then s
    else if ok then
      { s with tb := { s.tb with srcs := s.tb.srcs.set n { e with qualified := true, since := s.now } } }
    else
      let s := { s with tb := { s.tb with srcs := s.tb.srcs.set n { e with qualified := false, reason } } }
      s.event 0x2003 2 []) s
  s.selectSource

/-! ### Offsets (R86, R90, R91) -/

/-- Whether an automatic step is permitted (R89, R90). -/
def State.mayStep (s : State) : Bool :=
  let mode := s.fld F.tbCtrl_autoStep
  decide (s.tb.quality = .acquiring ∧ (mode = 2 ∨ (mode = 1 ∧ s.tb.everLocked = false)))

/-- An offset measured, in stamp units (R86, R87, R90, R91): `own` that the servo itself corrects frequency and phase, as it
does for every source but HOST, whose host gives the corrections: one that is still to be slewed stands (R119). -/
def State.measure (s : State) (off : Int) (own : Bool) : State :=
  let s := { s with tb := { s.tb with offset := off, recent := (off.natAbs :: s.tb.recent).take 255 } }
  if s.tb.quality ≠ .acquiring ∧ s.tb.quality ≠ .locked then s
  else
    let far := decide (s.tb.quality = .acquiring ∧ s.fld F.tbStepThresh_ns * nsStamp < off.natAbs)
    let step := far && s.mayStep
    let s :=
      if step then s
      else if far then s.slewHard (if own ∨ s.tb.phaseLeft + s.tb.covered = 0 then -off * 65536 else s.tb.phaseLeft + s.tb.covered)
      else if !own then s
      else
        let f := clamp (-(nominal / 2000)) (nominal / 2000) (Config.servoFreq s.tb.freq off s.free)
        (({ s with free := s.free + 1 }).setFreq f).slewPhase (-off * 65536)
    if s.tb.quality = .acquiring then
      let run := if off.natAbs ≤ s.fld F.tbLockCfg_lockThresh * 16384 then s.tb.inRun + 1 else 0
      let s := { s with tb := { s.tb with inRun := run, stepWait := if step then some ⟨-off⟩ else none } }
      if s.fld F.tbLockCfg_lockCount ≤ run then s.servoTo .locked else s
    else
      let run := if s.fld F.tbUnlockThresh_thresh * 16384 < off.natAbs then s.tb.outRun + 1 else 0
      let s := { s with tb := { s.tb with outRun := run } }
      if s.fld F.tbLockCfg_unlockCount ≤ run then s.servoTo .acquiring else s

/-- An offset of a source type measured, if an entry of that type is the active source. -/
def State.measureFor (s : State) (type : Nat) (off : Nat → Int) : State :=
  match s.tb.active with
  | some a => if s.srcType a = type then s.measure (off a) (decide (type ≠ 5)) else s
  | none => s

/-- The input delay of an entry (R129), in stamp units. -/
def State.srcDelay (s : State) (n : Nat) : Int := signed 32 (s.fld (F.tbSrcDelay_delay n)) * 256

/-- The second nearest to a stamp. -/
def nearestSecond (t : Int) : Int := (t + secStamp / 2) / secStamp

/-! ### PPS and time of day (R81, R82, R99 to R103) -/

/-- Ten microseconds, the tolerance of R81. -/
def ppsSlack : Nat := 10 * usStamp

/-- What an edge is to the edges before it (R81): whether its spacing qualifies, and the REASON of the disqualification that a
spacing which does not would give. -/
def ppsSpacing (e : PpsSt) (t : Stamp) : Bool × Nat :=
  match e.lastEdge with
  | none => (true, 0)
  | some l =>
    let gap := t - l
    if secStamp ≤ gap + ppsSlack ∧ gap ≤ secStamp + ppsSlack then (true, 0)
    else (false, if gap ≤ 11 * secStamp / 10 then 2 else 1)

/-- The seconds of the last edge, as its message or the edge before it gives them (R102). -/
def PpsSt.seconds (e : PpsSt) : Option Nat := e.named.orElse fun _ => e.prevSeconds.map (· + 1)

/-- An edge without an accepted message settled as the next one comes (R102). -/
def State.settleTod (s : State) : State :=
  let e := s.pps 0
  match e.lastEdge, e.named with
  | some t, none =>
    let s := s.modPps 0 fun e => { e with missing := e.missing + 1, namedRun := 0, todOk := e.todOk && decide (e.missing < 3) }
    let s := s.refreshSources 3
    match e.seconds with
    | some sec => s.measureFor 1 fun a => (t : Int) - s.srcDelay a - (sec * secStamp : Nat)
    | none => s
  | _, _ => s

/-- PPS_IN_EDGE (R81, R82, R102, R104). -/
def execPpsInEdge (input : Nat) (stamp : Stamp) (highNs : Nat) (s : State) : Res :=
  whenTimed s <|
    if !s.tb.running ∨ 2 ≤ input ∨ highNs < 100 then .next s
    else
      let s := if input = 0 then s.settleTod else s
      let e := s.pps input
      let (good, why) := ppsSpacing e stamp
      let run := if good then e.run + 1 else 1
      let ok := if good then e.ok || decide (3 ≤ run) else false
      let s := s.modPps input fun e => { e with
        run, ok, lastEdge := some stamp, prevSeconds := e.seconds, named := none
        namedRun := if good then e.namedRun else 0, todOk := e.todOk && good }
      let s := s.refreshSources why
      .next (s.measureFor (input + 2) fun a =>
        let t := (stamp : Int) - s.srcDelay a
        t - nearestSecond t * secStamp)

/-- PPS_EDGE_TIMEOUT (R81). -/
def execPpsEdgeTimeout (source : Nat) (s : State) : Res :=
  whenTimed s <|
    match (s.pps source).lastEdge with
    | none => .next s
    | some t =>
      if 2 ≤ source ∨ s.now ≤ t + 11 * secStamp / 10 then .next s
      else .next ((s.modPps source fun e => { e with run := 0, ok := false, namedRun := 0, todOk := false }).refreshSources 1)

/-- One bit of a CRC-16 with polynomial 0x1021. -/
def crc16Step (c : Nat) : Nat := if 0x8000 ≤ c then (c * 2 % 0x10000) ^^^ 0x1021 else c * 2

/-- The CRC of a time-of-day message (R100). -/
def crc16 (b : Bytes) : Nat :=
  b.foldl (fun c x => (List.range 8).foldl (fun c _ => crc16Step c) (c ^^^ (x.toNat * 256))) 0xFFFF

/-- Whether a received message has the form of R100. -/
def todForm (m : Bytes) : Bool :=
  decide (m.length = 32) && decide (bytesAt m 0 4 = [0xA7, 0x5E, 0x01, 32]) && decide (crc16 (m.take 30) = beNat (bytesAt m 30 2))

/-- TOD_RX_MESSAGE (R101 to R103). -/
def execTodRxMessage (msg : Bytes) (stopEnd : Stamp) (s : State) : Res :=
  whenTimed s <|
    if !s.tb.running ∨ s.fld F.tbTodCtrl_rxEn = 0 then .next s
    else
      let e := s.pps 0
      match e.lastEdge with
      | none => .next (s.bump F.tbTodRxErr_count 1)
      | some t =>
        if !todForm msg ∨ stopEnd < t + 10 * msStamp ∨ t + 900 * msStamp < stopEnd ∨ e.named.isSome then
          .next (s.bump F.tbTodRxErr_count 1)
        else
          let sec := beNat (bytesAt msg 4 6)
          let s := s.bump F.tbTodRxOk_count 1
          let follows := decide (e.prevSeconds = some (sec - 1) ∧ 0 < sec)
          let run := if follows then e.namedRun + 1 else 1
          let wrong := decide ((s.tb.quality = .locked ∨ s.tb.quality = .holdover) ∧ (sec : Int) ≠ nearestSecond t)
          let s := s.modPps 0 fun e => { e with
            named := some sec, missing := 0, namedRun := if wrong then 0 else run
            todOk := if wrong then false else e.todOk || (decide (3 ≤ run) && e.ok) }
          if wrong then .next ((s.event 0x2004 3 []).refreshSources 4)
          else
            let s := s.refreshSources 0
            .next (s.measureFor 1 fun a => (t : Int) - s.srcDelay a - (sec * secStamp : Nat))

/-! ### Lost and reverted sources -/

/-- PTP_SLAVE_LOST (R83). -/
def execPtpSlaveLost (leftSlave : Bool) (s : State) : Res :=
  whenTimed s <|
    match s.tb.slave with
    | none => .next s
    | some p =>
      let q := s.tb.ptp.getD p PtpSt.init
      let s := { s with tb := { s.tb with
        slave := none
        ptp := s.tb.ptp.set p (if leftSlave then { PtpSt.init with meanPath := q.meanPath } else { q with syncWaiting := false }) } }
      .next (s.refreshSources 5)

/-- HOST_SOURCE_TIMEOUT (R84). -/
def execHostSourceTimeout (s : State) : Res :=
  whenTimed s <|
    match s.tb.hostAt with
    | some t => if s.now < t + 2 * secStamp then .next s
      else .next (({ s with tb := { s.tb with hostAt := none } }).refreshSources 6)
    | none => .next s

/-- REVERTIVE_SWITCH (R85). -/
def execRevertiveSwitch (source : Nat) (s : State) : Res :=
  whenTimed s <|
    match s.tb.active with
    | some a =>
      if s.fld F.tbCtrl_revertive = 1 ∧ source < 16 ∧ s.candidate source ∧ s.outranks source a ∧
          (s.src source).since + 10 * secStamp ≤ s.now then .next (s.activate (some source))
      else .next s
    | none => .next s

/-- HOLDOVER_EXPIRED (R86). -/
def execHoldoverExpired (s : State) : Res :=
  whenTimed s <|
    if s.tb.quality = .holdover ∧ s.tb.holdoverAt + s.fld F.tbHoldoverLimit_seconds * secStamp ≤ s.now then
      .next (s.servoTo .freeRun)
    else .next s

/-! ### Steps (R89 to R95, R113 to R115) -/

/-- Whether a commit or snapshot holds a step back (R92). -/
def State.stepHeld (s : State) : Bool :=
  decide (s.coh.phase = .armed ∨ s.snap.phase = .armed) || !s.coh.draining.isEmpty

/-- A time base moved by stamp units, its finer fraction kept; it never reads less than 0. -/
def State.timePlus (s : State) (d : Int) : Nat := ((s.tb.time : Int) + d * 65536).toNat

/-- TIME_STEP_AUTO (R89, R90, R92). -/
def execTimeStepAuto (s : State) : Res :=
  whenWorking s <|
    match s.tb.stepWait with
    | none => .next s
    | some w =>
      if !s.tb.running ∨ !s.mayStep ∨ s.stepHeld then .next s else .next (s.stepTime (s.timePlus w.delta))

/-- TIME_SET (R92, R114, R115, R838): what forbids it, else the step to a value in units of 2^-32 ns. -/
def State.timeSet (s : State) (bad : Bool) (time : Nat) : AdminRes :=
  if bad then failWith s stInvalidField
  else if s.tb.quality = .locked ∨ s.tb.quality = .holdover then failWith s stNotPermitted
  else if s.stepHeld then failWith s stBusy
  else
    let pre := s.now
    (s.stepTime time, some (stSuccess, [(48, stampLe pre)]))

/-- TIME_SET with MODE ABSOLUTE. -/
def execTimeSetAbsolute (r : AdminRef) (seconds nanoseconds fraction : Nat) (s : State) : Res :=
  runAdmin true false r s fun s =>
    s.timeSet (decide (1000000000 ≤ nanoseconds))
      ((seconds % 2 ^ 48 * 1000000000 + nanoseconds) * 2 ^ 32 + fraction % 65536 * 65536)

/-- TIME_SET with MODE RELATIVE. -/
def execTimeSetRelative (r : AdminRef) (delta : Int) (s : State) : Res :=
  runAdmin true false r s fun s => s.timeSet false (s.timePlus delta)

/-! ### TIME_ADJUST and TIME_STATUS (R116 to R120) -/

/-- A frequency offset in units of 0.001 ppb, as increment. -/
def freqOf (f : Int) : Int := (nominal * f + 500000000000) / 1000000000000

/-- A change of HINT goes to the event recorder; the spec gives that entry no code and no severity, so they are free. -/
def State.noteHint (s : State) (hint : Nat) : State :=
  if s.tb.hint = hint then s
  else
    let s := { s with tb := { s.tb with hint } }
    let (code, s) := s.draw 0x1000
    let (sev, s) := s.draw 4
    s.event (0x2000 + code) sev [.q hint]

/-- The phase correction still to be slewed, in units of 2^-16 ns (assumption 124). -/
def State.remaining (s : State) : Nat := twos 64 ((s.tb.phaseLeft + s.tb.covered) / 65536)

/-- The largest frequency correction of TIME_ADJUST, 500 ppm in units of 10^-12 (R117). -/
def maxFreq : Nat := 500000000

/-- A TIME_ADJUST has come: the HOST sources have their evidence (R84), and a change of HINT is recorded (R838). -/
def State.hostSpoke (s : State) (hint : Nat) : State :=
  (({ s with tb := { s.tb with hostAt := some s.now } }).noteHint hint).refreshSources 0

/-- Whether the active source has TYPE HOST. -/
def State.onHostSource (s : State) : Bool :=
  match s.tb.active with
  | some a => decide (s.srcType a = 5)
  | none => false

/-- The corrections that MODE names, and the offset that the HOST source measures (R116 to R118). -/
def State.hostAdjusts (s : State) (mode : Nat) (freq phase offset : Int) : State :=
  let s := if mode.testBit 0 then s.setFreq (freqOf freq) else s
  let s := if mode.testBit 1 then s.slewPhase (phase * 65536) else s
  if s.onHostSource then s.measure offset false else s

/-- TIME_ADJUST (R84, R116 to R119, R838). -/
def execTimeAdjust (r : AdminRef) (mode hint : Nat) (freq phase offset : Int) (s : State) : Res :=
  runAdmin true false r s fun s =>
    let host := (List.range 16).any fun n => decide (s.fld (F.tbSrcCfg_enable n) = 1 ∧ s.srcType n = 5)
    if 4 ≤ mode ∨ 2 ≤ hint ∨ maxFreq < freq.natAbs then failWith s stInvalidField
    else if s.tb.quality ≠ .freeRun ∧ host = false then failWith s stNotPermitted
    else
      let q := s.tb.quality
      let s := s.hostSpoke hint
      if q = .freeRun ∨ s.onHostSource = true then
        let s := s.hostAdjusts mode freq phase offset
        (s, some (stSuccess, [(48, le 8 s.remaining)]))
      else (s, some (stSuccess, [(48, le 8 0)]))

/-- The frequency reference of the selected PLL, 0xFF when it is on the crystal (R77, R120). While TIME_MERGE runs from the
safe clock it stays that of the PLL selected last (assumption 103). -/
def State.frefIdx (s : State) : Nat := (if (s.island 13).selB then s.tb.pllBRef else s.tb.pllARef).getD 0xFF

/-- TIME_STATUS (R120). -/
def execTimeStatus (r : AdminRef) (s : State) : Res :=
  runAdmin true false r s fun s =>
    (s, some (stSuccess, [(16,
      le 1 s.tb.quality.code ++ le 1 (s.tb.active.getD 0xFF) ++ le 1 s.activeType ++ le 1 s.frefIdx ++
      le 4 s.tb.stepCount ++ stampLe s.now ++ le 4 (s.view Reg.tbFreqOffset) ++ le 4 (s.view Reg.tbPhaseOffset) ++
      le 4 s.holdoverS ++ le 4 s.estError ++ le 2 (s.fld F.tbUtc_offset) ++ le 1 s.leapBits ++ le 1 s.clockClass ++
      le 8 s.remaining)]))

/-! ### Time outputs (R96 to R100) -/

/-- Whether a PPS output runs (R96, R97). -/
def State.ppsRuns (s : State) (n : Nat) : Bool :=
  match s.fld (F.tbPpsOutCtrl_mode n) with
  | 1 => true
  | 2 => decide (s.tb.quality = .locked ∨ s.tb.quality = .holdover)
  | _ => false

/-- How long a PPS output stays high (R96). -/
def State.ppsWidth (s : State) (n : Nat) : Nat := s.fld (F.tbPpsOutCtrl_widthUs n) * usStamp

/-- PPS_OUT_RISE (R96, R97): at a second boundary minus the advance, once; the edge that TOD_TXD follows starts a message. -/
def execPpsOutRise (n : Nat) (s : State) : Res :=
  whenTimed s <|
    let adv := s.fld (F.tbPpsOutAdv_adv n) * 256
    let sec := (s.now + adv) / secStamp
    let rise := sec * secStamp - adv
    let done : Bool := match s.tb.ppsRise.get? n with | some t => decide (rise ≤ t) | none => false
    if 2 ≤ n ∨ !s.tb.running ∨ !s.ppsRuns n ∨ done ∨ rise + s.ppsWidth n ≤ s.now then .next s
    else
      let s := { s with tb := { s.tb with
        ppsRise := s.tb.ppsRise.set n rise
        ppsHigh := if n ∈ s.tb.ppsHigh then s.tb.ppsHigh else n :: s.tb.ppsHigh
        todDue := if s.fld F.tbTodCtrl_txEn = 1 ∧ s.fld F.tbTodCtrl_txSel = n then some (rise + 100 * msStamp, sec)
          else s.tb.todDue } }
      .next (s.emit (.ppsOut n true))

/-- PPS_OUT_FALL (R96). -/
def execPpsOutFall (n : Nat) (s : State) : Res :=
  whenTimed s <|
    match s.tb.ppsRise.get? n with
    | some t => if s.now < t + s.ppsWidth n then .next s else .next (s.ppsLow n)
    | none => .next s

/-- The time-of-day message for a second (R100), before its CRC. -/
def State.todBody (s : State) (sec : Nat) : Bytes :=
  [0xA7, 0x5E, 0x01, 32] ++ be 6 sec ++ be 2 (s.fld F.tbUtc_offset) ++ be 1 s.leapBits ++ be 1 s.tb.quality.code ++
    be 1 s.activeType ++ be 1 s.clockClass ++ be 1 s.clockAccuracy ++ be 1 0 ++ be 4 s.holdoverS ++ be 4 s.estError ++
    be 2 s.tb.todSeq ++ be 2 0

/-- TOD_TX_MESSAGE (R99, R100). -/
def execTodTxMessage (s : State) : Res :=
  whenTimed s <|
    match s.tb.todDue with
    | none => .next s
    | some (t, sec) =>
      if s.now < t then .next s
      else
        let body := s.todBody sec
        let off := decide (s.fld F.tbTodCtrl_txEn = 0)
        let s := { s with tb := { s.tb with todDue := none, todSeq := if off then s.tb.todSeq else (s.tb.todSeq + 1) % 65536 } }
        .next (if off then s else s.emit (.tod (body ++ be 2 (crc16 body))))

/-! ### Event inputs and the latch (R104 to R107, R123) -/

/-- EVT_IN_EDGE (R104 to R106). -/
def execEvtInEdge (n : Nat) (stamp : Stamp) (widthNs : Nat) (falling : Bool) (s : State) : Res :=
  whenTimed s <|
    if 4 ≤ n ∨ !s.tb.running ∨ !(s.fld F.tbEvtCtrl_enable).testBit n ∨ (s.fld F.tbEvtCtrl_edge).testBit n ≠ falling then .next s
    else
      let near : Bool := match s.tb.evtLast.get? n with | some t => decide (stamp < t + 100 * nsStamp) | none => false
      if near ∨ widthNs < 10 then .next (s.bump (F.tbEvtOvf_ovf n) 1)
      else
        let s := { s with tb := { s.tb with evtLast := s.tb.evtLast.set n stamp } }
        let l := s.tb.evt.getD n []
        if 64 ≤ l.length then .next ((s.bump (F.tbEvtOvf_ovf n) 1).event 0x2005 2 [.q n])
        else .next { s with tb := { s.tb with evt := s.tb.evt.set n (l ++ [stamp]) } }

/-- EVT_POP (R107). -/
def execEvtPop (n : Nat) (s : State) : Res :=
  whenWorking s <|
    if 4 ≤ n then .next s
    else match s.tb.evt.getD n [] with
      | [] => .next (s.setFld (F.tbEvtStatus_emptyPop n) 1)
      | t :: r =>
        let s := { s with tb := { s.tb with evt := s.tb.evt.set n r } }
        let sec := t / secStamp
        .next ((((s.setFld (F.tbEvtSecH_secH n) (hi32 sec)).setFld (F.tbEvtSecL_secL n) (lo32 sec)).setFld
          (F.tbEvtNs_ns n) (t / nsStamp % 1000000000)).setFld (F.tbEvtFrac_frac n) (t % nsStamp))

/-- TIME_LATCH (R123). -/
def execTimeLatch (s : State) : Res :=
  whenWorking s <|
    let t := s.now
    let sec := t / secStamp
    .next ((((s.setReg Reg.tbTimeSecH (hi32 sec % 65536)).setReg Reg.tbTimeSecL (lo32 sec)).setReg Reg.tbTimeNs
      (t / nsStamp % 1000000000)).setReg Reg.tbTimeFrac (t % nsStamp))

/-! ### PTP (R83, R108 to R112, R161) -/

/-- delayAsymmetry of a port, in units of 2^-16 ns. -/
def State.asymmetry (s : State) (p : Nat) : Int :=
  match s.tb.timeSec.asymmetry.find? fun (e : Nat × Int) => decide (e.1 = p) with
  | some e => e.2
  | none => 0

/-- A Sync exchange complete (R108): the offset from the parent, for the slave port's active source. -/
def State.syncDone (s : State) (p : Nat) : State :=
  let q := s.tb.ptp.getD p PtpSt.init
  if s.tb.slave = some p then s.measureFor 4 fun _ => q.t2 - q.t1 - s.asymmetry p - q.meanPath else s

/-- The state with a port's cable measurement replaced. -/
def State.setCable (s : State) (p : Nat) (c : CableSt) : State :=
  { s with stp := { s.stp with cables := s.stp.cables.set p c } }

/-- An accepted meanLinkDelay of a port (R161): the average of the last 16 waits for a Ream boundary. -/
def State.linkDelay (s : State) (p : Nat) (d : Int) : State :=
  let c := s.stp.cables.getD p CableSt.init
  let meas := (d :: c.meas).take 16
  let mean := ((meas.foldl (fun (a b : Int) => a + b) 0) / (256 * meas.length)).toNat
  let c : CableSt := { c with meas, pending := some mean, valid := true, lastAt := s.now }
  (s.modPtp p fun q => { q with meanPath := d }).setCable p c

/-- The answer of the device to a message: the request's sequence number, source and correction go with it. -/
def ptpAnswer (m : PtpMsg) (port : Nat) (kind : PtpMsgKind) (oneStep : Bool) : PtpTx :=
  { port, kind, oneStep, seq := m.seq, at_ := m.rxStamp, corr := m.correction, requester := m.source, logInterval := none,
    dataSet := m.dataSet }

/-- Whether a kind of message is an event message, which is stamped. -/
def isPtpEvent (k : PtpMsgKind) : Bool := decide (ptpType k < 4)

/-- PTP_MESSAGE (R83, R108, R109, R112, R161): an event message has the stamp that its frame took at the ball (R164); one that no
frame brought is none. Assumption 125 has what the spec leaves open of a slave port. -/
def execPtpMessage (port : Nat) (m : PtpMsg) (s : State) : Res :=
  whenWorking s <|
    if !s.configured port ∨ !(s.port port).link ∨ !s.tb.running ∨
        (isPtpEvent m.kind = true ∧ (port, m.rxStamp) ∉ s.tb.ptpRx) then .next s
    else
      let s := if isPtpEvent m.kind then { s with tb := { s.tb with ptpRx := s.tb.ptpRx.erase (port, m.rxStamp) } } else s
      let s := if m.slave ∧ s.tb.slave.isNone then (({ s with tb := { s.tb with slave := some port } }).refreshSources 0).parentUtc
        else s
      let q := s.tb.ptp.getD port PtpSt.init
      match m.kind with
      | .announce =>
        .next (s.modPtp port fun q => { q with
          announced := true, utcOffset := m.utcOffset, leap61 := m.leap61, leap59 := m.leap59 }).parentUtc
      | .sync =>
        let s := s.modPtp port fun q => { q with
          t1 := m.origin + m.correction, t2 := m.rxStamp, syncCorr := m.correction, syncWaiting := m.twoStep }
        .next (if m.twoStep then s else s.syncDone port)
      | .followUp =>
        if !q.syncWaiting then .next s
        else .next ((s.modPtp port fun q => { q with t1 := m.origin + q.syncCorr + m.correction, syncWaiting := false }).syncDone port)
      | .delayReq => .next (s.sendPtp (ptpAnswer m port .delayResp false))
      | .delayResp =>
        if !q.delayWaiting then .next s
        else .next (s.modPtp port fun q => { q with
          meanPath := ((q.t2 - q.t1) + ((m.response : Int) - m.correction - q.t3)) / 2, delayWaiting := false })
      | .pdelayReq =>
        .next (s.sendPtp (ptpAnswer m port .pdelayResp (!s.twoStep port)))
      | .pdelayResp =>
        if !q.pdWaiting then .next s
        else if m.twoStep then
          .next (s.modPtp port fun q => { q with pdT2 := m.response, pdT4 := m.rxStamp, pdCorr := m.correction })
        else .next ((s.modPtp port fun q => { q with pdWaiting := false }).linkDelay port
          (((m.rxStamp : Int) - q.pdT1 - m.correction) / 2))
      | .pdelayRespFollowUp =>
        if !q.pdWaiting then .next s
        else .next ((s.modPtp port fun q => { q with pdWaiting := false }).linkDelay port
          (((q.pdT4 - q.pdT1) - ((m.origin : Int) - q.pdT2) - q.pdCorr - m.correction) / 2))
      | .management => .next (s.sendPtp (ptpAnswer m port .management false))

/-- The message that an interval sends. -/
def ptpKindOf (k : PtpKind) : PtpMsgKind :=
  match k with
  | .sync => .sync
  | .announce => .announce
  | .delayReq => .delayReq
  | .pdelayReq => .pdelayReq

/-- PTP_MESSAGE_INTERVAL (R72, R109, R111): the message enters the slice of its port; its transmission fixes its event stamp. -/
def execPtpMessageInterval (port : Nat) (kind : PtpKind) (logInterval : Nat) (s : State) : Res :=
  whenWorking s <|
    if !s.configured port ∨ !(s.port port).link ∨ !s.tb.running then .next s
    else
      let s := { s with tb := { s.tb with ptpSeq := s.tb.ptpSeq.modify port 0 (fun n => (n + 1) % 65536) } }
      .next (s.sendPtp { port, kind := ptpKindOf kind, oneStep := !s.twoStep port, seq := s.tb.ptpSeq.getD port 0, at_ := 0, corr := 0,
                         requester := [], logInterval := some logInterval, dataSet := 0 })

end Sys2Proof.Machine
end

