-- ==== Sys2Proof/Machine/Clocks.lean ====
section
/-! DEFINITION. Clocks and their failovers (R77 to R79, R774 to R792), adaptive voltage, thermal limits (R800 to R806), and the
test access port (R820 to R822). -/

namespace Sys2Proof.Machine

/-! ### Switches between PLLs (R785 to R790) -/

/-- The islands (R779). -/
def islandCount : Nat := 20

/-- The state with an island changed. -/
def State.modIsland (s : State) (i : Nat) (f : IslandSt → IslandSt) : State :=
  { s with clk := { s.clk with islands := s.clk.islands.set i (f (s.island i)) } }

/-- Whether a PLL of an island is locked. -/
def pllLocked (x : IslandSt) (b : Bool) : Bool := if b then x.lockB else x.lockA

/-- The lock of a PLL set. The first PLL that has relocked is the one that an island on the safe clock moves to (R790). -/
def setLock (x : IslandSt) (b v : Bool) : IslandSt :=
  let x := if b then { x with lockB := v } else { x with lockA := v }
  { x with standby := if v then x.standby.or (some b) else if x.standby = some b then none else x.standby }

/-- A switch started towards a PLL, or towards the safe clock where that PLL is unlocked (R785, R788). -/
def startSwitch (x : IslandSt) (target hw dead : Bool) (now : Stamp) : IslandSt :=
  { x with standby := none, switching := true, hw, target, toSafe := !pllLocked x target, since := now, lossOfEdges := dead }

/-- What follows a switch that has ended: an island on the safe clock moves to the first PLL that has relocked (R790). -/
def State.leaveSafe (s : State) (i : Nat) : State :=
  let x := s.island i
  let now := s.now
  match x.standby with
  | some b => if !x.safe ∨ x.switching then s else s.modIsland i fun x => startSwitch x b true false now
  | none => s

/-- A switch completed by the multiplexer (R786) or forced by the watchdog (R787): counters, SEL, SAFE, SEL_REQ and events
(R788, R789). -/
def State.endSwitch (s : State) (i : Nat) (forced : Bool) : State :=
  let x := s.island i
  let s := s.modIsland i fun x => { x with
    switching := false, hw := false, toSafe := false, lossOfEdges := false, forced := x.forced || forced
    selB := if x.toSafe then x.selB else x.target, safe := x.toSafe }
  let s := s.bump (if forced then F.clkIslEvents_forced i else F.clkIslEvents_failovers i) 1
  let s := if x.hw then s.setFld (F.clkIslCtrl_selReq i) (b2n (s.island i).selB) else s
  let s := if forced then s.event 0xB031 2 [] else s
  let s := if x.hw ∧ !forced ∧ !x.toSafe then s.event 0xB030 1 [.q i, .q (b2n x.target)] else s
  let s := if x.toSafe ∧ !x.safe then s.bump (F.clkIslEvents_safe i) 1 else s
  let s := if x.toSafe ≠ x.safe then s.event 0xB032 3 [] else s
  s.leaveSafe i

/-- PLL_LOSS_OF_LOCK (R785, R788). -/
def execPllLossOfLock (island : Nat) (pllB : Bool) (s : State) : Res :=
  whenLive s <|
    if islandCount ≤ island then .next s
    else
      let now := s.now
      .next (s.modIsland island fun x =>
        let x := setLock x pllB false
        if x.switching then { x with toSafe := x.toSafe || decide (x.target = pllB) }
        else if !x.safe ∧ x.selB = pllB then startSwitch x (!pllB) true false now
        else x)

/-- CLOCK_ACTIVITY_LOST (R785): the selected clock has stopped, so only the watchdog can end the switch. -/
def execClockActivityLost (island : Nat) (s : State) : Res :=
  whenLive s <|
    if islandCount ≤ island then .next s
    else
      let now := s.now
      .next (s.modIsland island fun x =>
        if x.safe then x
        else if x.switching then { x with lossOfEdges := true, hw := true }
        else startSwitch x (!x.selB) true true now)

/-- CLOCK_SEL_REQUEST (R785, R789). -/
def execClockSelRequest (island : Nat) (pllB : Bool) (s : State) : Res :=
  whenWorking s <|
    if islandCount ≤ island then .next s
    else
      let x := s.island island
      if x.switching ∧ x.hw then .next s
      else if !pllLocked x pllB then .next (s.noticeAddr (Reg.clkIslCtrl island))
      else
        let now := s.now
        let s := s.setFld (F.clkIslCtrl_selReq island) (b2n pllB)
        if x.switching ∨ (!x.safe ∧ x.selB = pllB) then .next s
        else .next (s.modIsland island fun x => startSwitch x pllB false false now)

/-- CLOCK_SWITCH_COMPLETE (R786, R788). -/
def execClockSwitchComplete (island : Nat) (s : State) : Res :=
  whenLive s <|
    let x := s.island island
    if islandCount ≤ island ∨ !x.switching ∨ x.lossOfEdges then .next s else .next (s.endSwitch island false)

/-- SWITCH_WATCHDOG (R787, R788): 480 ns after the switch started, less up to a tenth of it on the ring PLL (R777); without a time base nothing tells the time. -/
def execSwitchWatchdog (island : Nat) (s : State) : Res :=
  whenLive s <|
    let x := s.island island
    if islandCount ≤ island ∨ !x.switching ∨ (s.tb.running ∧ s.now < x.since + (if s.clk.onRing then 432 else 480) * nsStamp) then .next s
    else .next (s.endSwitch island true)

/-- PLL_RELOCKED (R790). -/
def execPllRelocked (island : Nat) (pllB : Bool) (s : State) : Res :=
  whenLive s <|
    if islandCount ≤ island ∨ pllLocked (s.island island) pllB then .next s
    else .next (((s.modIsland island fun x => setLock x pllB true).event 0xB033 1 []).leaveSafe island)

/-! ### Crystal and frequency references (R77 to R79, R776 to R778) -/

/-- CRYSTAL_LOST (R777). -/
def execCrystalLost (s : State) : Res :=
  whenLive s <|
    if !s.mgt.oscRunning ∨ !s.clk.xtalRunning then .next s
    else .next (({ s with clk := { s.clk with xtalRunning := false, onRing := true } }).event 0xB038 2 [])

/-- CRYSTAL_RESTORED (R777). -/
def execCrystalRestored (s : State) : Res :=
  whenLive s <|
    if !s.mgt.oscRunning ∨ s.clk.xtalRunning then .next s
    else .next { s with clk := { s.clk with xtalRunning := true, onRing := false } }

/-- TYPE of an entry of the frequency-reference table. -/
def State.frefType (s : State) (n : Nat) : Nat := s.fld (F.tbFrefCfg_type n)

/-- Whether an entry can be the reference of a PLL (R77). -/
def State.frefUsable (s : State) (n : Nat) : Bool :=
  (s.tb.frefs.getD n ⟨false⟩).qualified && decide (s.fld (F.tbFrefCfg_enable n) = 1 ∧ s.frefType n ≠ 0)

/-- The highest-priority reference that can be used among those a test admits, the lower index before the higher. -/
def State.bestFref (s : State) (p : Nat → Bool) : Option Nat :=
  (List.range 8).foldl (fun (b : Option Nat) n =>
    if !(s.frefUsable n && p n) then b
    else match b with
      | none => some n
      | some m => if s.fld (F.tbFrefCfg_priority n) < s.fld (F.tbFrefCfg_priority m) then some n else b) none

/-- PLL A on the best reference and PLL B on the next (R77). -/
def State.assignFrefs (s : State) : State :=
  let a := s.bestFref fun _ => true
  let b := s.bestFref fun n => decide (some n ≠ a)
  { s with tb := { s.tb with pllARef := a, pllBRef := if a.isNone then none else b } }

/-- The entries that an input of the frequency references has, where `n` is an entry, or 8 and 9 for ETHREF0 and ETHREF1,
which are references of the PLL pairs too (R778). -/
def State.frefEntries (s : State) (n : Nat) : List Nat :=
  let t := if n = 8 then 3 else if n = 9 then 4 else s.frefType n
  if t = 3 ∨ t = 4 then (List.range 8).filter fun k => decide (s.frefType k = t ∨ k = n) else [n]

/-- QUALIFIED of a reference set. -/
def State.setFref (s : State) (n : Nat) (ok : Bool) : State :=
  let t := if n = 8 then 3 else if n = 9 then 4 else s.frefType n
  { s with
    tb := { s.tb with frefs := (s.frefEntries n).foldl (fun (f : Table FrefSt) k => if k < 8 then f.set k ⟨ok⟩ else f) s.tb.frefs }
    clk := { s.clk with
      ethref0 := if t = 3 then ok else s.clk.ethref0, ethref1 := if t = 4 then ok else s.clk.ethref1 } }

/-- An entry whose TYPE has been set: QUALIFIED is that of its input, as far as it is known (R77, R78). -/
def State.retypeFref (s : State) (n : Nat) : State :=
  let ok := match s.frefType n with
    | 3 => s.clk.ethref0
    | 4 => s.clk.ethref1
    | _ => false
  { s with tb := { s.tb with frefs := s.tb.frefs.set n ⟨ok⟩ } }

/-- The entries of TYPE 3 and 4 given what is known of their inputs, as after a load of all of them. -/
def State.carryFrefs (s : State) : State :=
  (List.range 8).foldl (fun (s : State) n => if s.frefType n = 3 ∨ s.frefType n = 4 then s.retypeFref n else s) s

/-- Whether a reference is qualified. -/
def State.frefOk (s : State) (n : Nat) : Bool :=
  if n = 8 then s.clk.ethref0 else if n = 9 then s.clk.ethref1 else (s.tb.frefs.getD n ⟨false⟩).qualified

/-- FREF_QUALIFIED (R77, R78). -/
def execFrefQualified (n : Nat) (s : State) : Res :=
  whenLive s <|
    if 10 ≤ n ∨ s.frefOk n then .next s else .next (s.setFref n true).assignFrefs

/-- A PLL of TIME_MERGE whose reference is gone: it takes the next one in priority order, and its loss of lock makes the
island fail over where it is selected (R79, R785). -/
def State.pllLosesRef (s : State) (b : Bool) : State :=
  let partner := if b then s.tb.pllARef else s.tb.pllBRef
  let next := s.bestFref fun n => decide (some n ≠ partner)
  let now := s.now
  let s := if b then { s with tb := { s.tb with pllBRef := next } } else { s with tb := { s.tb with pllARef := next } }
  s.modIsland 13 fun x =>
    let x := setLock x b false
    if x.switching then { x with toSafe := x.toSafe || decide (x.target = b) }
    else if !x.safe ∧ x.selB = b then startSwitch x (!b) true false now
    else x

/-- FREF_DISQUALIFIED (R78, R79). -/
def execFrefDisqualified (n : Nat) (s : State) : Res :=
  whenLive s <|
    if 10 ≤ n ∨ !s.frefOk n then .next s
    else
      let gone := s.frefEntries n
      let held := fun (r : Option Nat) => match r with
        | some k => decide (k ∈ gone)
        | none => false
      let a := held s.tb.pllARef
      let b := held s.tb.pllBRef
      let s := (s.setFref n false).event 0x2003 2 []
      let s := if a then s.pllLosesRef false else s
      .next (if b then s.pllLosesRef true else s)

/-! ### Adaptive voltage (R800 to R802) -/

/-- An AVSBus transaction that fails (R802): the third in a row ends the commanding. -/
def State.avsFailed (s : State) : State :=
  let n := s.pwr.avsFails + 1
  let s := { s with pwr := { s.pwr with avsFails := n, avsOk := s.pwr.avsOk && decide (n < 3) } }
  if n = 3 then s.event 0xB037 3 [] else s

/-- VDD_CORE commanded one 5 mV step up or down, within the fused minimum and 0.80 V (R800). -/
def State.avsStep (s : State) (up ack : Bool) : State :=
  let mv := if up then s.pwr.mv + 5 else s.pwr.mv - 5
  if 800 < mv ∨ mv < s.pwr.minMv then s
  else
    let s := s.emit (.avs mv)
    if ack then { s with pwr := { s.pwr with mv, avsFails := 0 } } else s.avsFailed

/-- Whether a span has passed since the last AVSBus transaction that the clock of R800 or R802 brought; without a time base nothing
tells the time. -/
def State.avsDue (s : State) (span : Nat) : Bool := !s.tb.running || decide (s.pwr.avsAt + span ≤ s.now)

/-- The instant of that transaction noted. -/
def State.avsNow (s : State) : State := { s with pwr := { s.pwr with avsAt := s.now } }

/-- AVS_ADJUST (R800, R802), every 1 ms. -/
def execAvsAdjust (below above ack : Bool) (s : State) : Res :=
  whenLive s <|
    if !s.clk.tableApplied ∨ !s.pwr.avsOk ∨ !s.avsDue msStamp then .next s
    else if below then .next (s.avsNow.avsStep true ack)
    else if above then .next (s.avsNow.avsStep false ack)
    else .next s.avsNow

/-- AVS_MARGIN_ALARM (R800). -/
def execAvsMarginAlarm (ack : Bool) (s : State) : Res :=
  whenLive s <| if !s.clk.tableApplied ∨ !s.pwr.avsOk then .next s else .next (s.avsStep true ack)

/-- AVS_RETRY (R802), every 1 s. -/
def execAvsRetry (ack : Bool) (s : State) : Res :=
  whenLive s <|
    if !s.clk.tableApplied ∨ s.pwr.avsOk ∨ !s.avsDue secStamp then .next s
    else
      let s := s.avsNow.emit (.avs s.pwr.mv)
      .next (if ack then { s with pwr := { s.pwr with avsOk := true, avsFails := 0 } } else s)

/-! ### Thermal limits (R803 to R806) -/

/-- A sensor's Tj as the hottest, where it is (R809). -/
def State.noteTj (s : State) (sensor : Nat) (tj : Int) : State :=
  { s with pwr := { s.pwr with
    tjMax := max s.pwr.tjMax tj, tjSensor := if s.pwr.tjMax < tj then sensor - 1 else s.pwr.tjSensor
    tjHwm := max s.pwr.tjHwm tj, hotAt := if 113 * 16 < tj then s.now else s.pwr.hotAt } }

/-- THERMAL_THROTTLE (R803). The 100 ms that end a throttle begin anew where it holds already. -/
def execThermalThrottle (sensor : Nat) (tj : Int) (s : State) : Res :=
  whenLive s <|
    if sensor = 0 ∨ 16 < sensor ∨ tj < 118 * 16 then .next s
    else if s.pwr.throttled then .next (s.noteTj sensor tj)
    else
      let s := s.noteTj sensor tj
      let s := { s with pwr := { s.pwr with throttled := true } }
      .next (((s.setFld F.pwrTherm_throttleSticky 1).event 0xB034 2 [.q sensor, .q (twos 16 tj)]).count1 C.pwrThrottle)

/-- THROTTLE_END (R803): every sensor has stayed at or below Tj 113 °C for 100 ms. -/
def execThrottleEnd (s : State) : Res :=
  whenLive s <|
    if !s.pwr.throttled ∨ (s.tb.running ∧ s.now < s.pwr.hotAt + 100 * msStamp) then .next s
    else .next (({ s with pwr := { s.pwr with throttled := false } }).event 0xB035 1 [])

/-- THERMAL_TRIP (R804, R806): every island but AON gated, the time base stopped, PPS held low. Whether the management island
still writes the entry is free. -/
def execThermalTrip (sensor : Nat) (tj : Int) (s : State) : Res :=
  whenLive s <|
    if sensor = 0 ∨ 16 < sensor ∨ tj < 130 * 16 then .next s
    else
      let s := (s.noteTj sensor tj).setFld F.pwrTherm_tripSticky 1
      let (x, s) := s.draw 2
      let s := if x = 0 then s else s.eventWith 0xB036 (EvInfo.plain 4) []
      let s := (((s.ppsLow 0).ppsLow 1).synceLow 0).synceLow 1
      .next (({ s with
        pwr := { s.pwr with tripped := true }
        tb := { s.tb with running := false }
        evr := { s.evr with stopped := true } }).emit .thermtrip)

/-! ### Test access port (R820 to R822) -/

/-- An instruction in the instruction register. -/
def State.setIr (s : State) (ir : TapIr) : State := { s with tap := { s.tap with ir } }

/-- An instruction of those that take the balls from the device: from its effect on, nothing else is assured until the next
power-on reset (R822). -/
def State.takeBalls (s : State) (ir : TapIr) : State := { s.setIr ir with assured := false }

/-- TAP_RESET (R821). -/
def execTapReset (s : State) : Res := .next (s.setIr .idcode)

/-- EXTEST (R820, R822). -/
def execExtest (s : State) : Res := .next (s.takeBalls .extest)

/-- EXTEST_PULSE (R820, R822). -/
def execExtestPulse (s : State) : Res := .next (s.takeBalls .extestPulse)

/-- EXTEST_TRAIN (R820, R822). -/
def execExtestTrain (s : State) : Res := .next (s.takeBalls .extestTrain)

/-- CLAMP (R820, R822). -/
def execClamp (s : State) : Res := .next (s.takeBalls .clamp)

/-- HIGHZ (R820, R822). -/
def execHighz (s : State) : Res := .next (s.takeBalls .highz)

/-- The IDCODE register (*Test access port*). -/
def State.idcode (s : State) : Nat := getBits (s.view 0) 8 4 * 2 ^ 28 + 0x09640B4B

/-- IDCODE (R820): the register is shifted out, least significant bit first. -/
def execIdcode (s : State) : Res := .next ((s.setIr .idcode).emit (.tap (le 4 s.idcode)))

/-- SAMPLE/PRELOAD (R820): a snapshot of the balls is shifted out, whose length and content the spec does not give. -/
def execSamplePreload (s : State) : Res :=
  let (n, s) := s.draw 4096
  let (b, s) := s.drawBytes n
  .next (({ s.setIr .samplePreload with tap := { ir := .samplePreload, preloaded := true } }).emit (.tap b))

/-- The codes of the instructions other than BYPASS (R820). -/
def tapCodes : List Byte := [0x00, 0x01, 0x02, 0x08, 0x09, 0x0E, 0x0F]

/-- BYPASS, and every value that is not listed (R820). -/
def execBypass (ir : Byte) (s : State) : Res := .next (if ir ∈ tapCodes then s else s.setIr .bypass)

end Sys2Proof.Machine
end

