-- ==== Sys2Proof/Machine/Boot.lean ====
section
/-! DEFINITION. Resets (R793 to R796, R815 to R819) and boot: firmware, clock table, base image and journal, time base and ledger,
units, SERVICE (R684 to R693, R698, R703 to R707, R213, R214, R223, R749, R774, R779 to R782, R840). -/

namespace Sys2Proof.Machine

/-! ### Resets -/

/-- A record whose programming a reset cut short: nothing of it, its header alone, its marker in one device, or all of it, as
far as it had come (*Flash layout*). -/
def State.cutRecord (s : State) : State :=
  match s.nvm.writing with
  | [] => s
  | (r, _) :: _ =>
    let (x, s) := s.draw 4
    if x = 0 then s
    else
      let marks := if x = 1 then [] else if x = 2 then r.devices.take 1 else r.devices
      s.appendRecord { r with headerOk := r.devices, markerOk := marks }

/-- A checkpoint whose programming a reset cut short: each device holds as many of its bytes as had been programmed. -/
def State.cutCkpt (s : State) : State :=
  match s.ldg.ckptWriting with
  | none => s
  | some k =>
    let (x, s) := s.draw 257
    let (y, s) := s.draw 257
    let s := if x = 0 then s else s.putCkpt 0 (tornBytes k.bytes x)
    if y = 0 then s else s.putCkpt 1 (tornBytes k.bytes y)

/-- The store as flash holds it, with what is only in the device gone. -/
def Nvm.kept (n : Nvm) : Nvm :=
  { Nvm.init with
    sb0 := n.sb0, sb1 := n.sb1, journal := n.journal, jrnPos := n.jrnPos, jrnMap := n.jrnMap
    fw := n.fw, bases := n.bases, eraseBase := n.eraseBase, eraseJournal := n.eraseJournal }

/-- What every reset of the whole device leaves (R793): flash, fuses, and what has left the block; everything else as after a
power-on reset. The count of boots that raises the fused minimum (R690) goes on only from a boot that reached SERVICE. -/
def State.restart (s : State) : State :=
  let s := [0, 1].foldl (fun (s : State) n => (s.ppsLow n).synceLow n) s
  let s := if s.evr.alert then s.emit (.alert false) else s
  let s := (s.cutRecord).cutCkpt
  { State.reset with
    pending := s.pending, out := s.out, free := s.free, nextFrame := s.nextFrame
    stp := { Stamping.init with factoryRx := s.stp.factoryRx, factoryTx := s.stp.factoryTx }
    ldg := { Ledger.init with ckpt0 := s.ldg.ckpt0, ckpt1 := s.ldg.ckpt1 }
    nvm := s.nvm.kept
    mgt := { Mgmt.init with
      serial := s.mgt.serial, ownerHash := s.mgt.ownerHash, fusedMin := s.mgt.fusedMin, fwHash := s.mgt.fwHash
      raiseMinRun := if s.mgt.stage = BootStage.service then s.mgt.raiseMinRun else 0 }
    evr := { Recorder.init with
      region := s.evr.region, nextSeq := max 1 s.evr.reservedEnd, reservedEnd := s.evr.reservedEnd } }

/-- POWER_ON_RESET (R793, R794, R808). TRIP_STICKY is kept while VDD_AON is up (R804, R809). -/
def execPowerOnReset (pwrOk : Bool) (s : State) : Res :=
  let trip := s.fld F.pwrTherm_tripSticky
  let fatal := s.evr.fatal
  let min := s.pwr.minMv
  let s := s.restart
  .next (({ s with
    pwr := { PowerSt.init with pwrOk, minMv := min }
    rst := { ResetSt.init with cause := if pwrOk then 0 else 1, fromFatal := fatal } }).setFld F.pwrTherm_tripSticky trip)

/-- PWRON_RESET_RELEASE (R684, R685, R774, R815, R817): the straps are sampled. -/
def execPwronResetRelease (straps : Word) (s : State) : Res :=
  if !s.assured then .fault .rulesSuspended
  else if !s.rst.held then .next s
  else
    let w := straps.toNat % 128
    let mirror := w.testBit 5
    let s := { s with
      rst := { s.rst with held := false }
      mgt := { s.mgt with released := true, straps := BitVec.ofNat 32 w, bootSel := w / 8 % 4 }
      nvm := { s.nvm with mirror }
      pwr := { s.pwr with pwrOk := true } }
    .next (if mirror then s else s.setUnit .flash 0 1 { UnitSt.init with state := .outOfService })

/-- OSC_WAIT_ELAPSED (R774, R776). -/
def execOscWaitElapsed (s : State) : Res :=
  whenLive s <|
    if !s.mgt.released ∨ s.mgt.oscRunning then .next s
    else .next { s with mgt := { s.mgt with oscRunning := true }, clk := { s.clk with xtalRunning := true } }

/-- WARM_RESET_REQUEST (R742, R795). -/
def execWarmResetRequest (data : Word) (s : State) : Res :=
  whenLive s <|
    if !data.toNat.testBit 16 then .next s
    else if data.toNat % 65536 ≠ 0x5741 then .next (s.noticeAddr Reg.rstCtrl)
    else if s.rst.warmAt.isSome then .next s
    else .next { s with rst := { s.rst with warmAt := some (s.now + 10 * usStamp) } }

/-- WARM_RESET (R793, R795): everything but AON. -/
def execWarmReset (s : State) : Res :=
  whenLive s <|
    match s.rst.warmAt with
    | none => .next s
    | some t =>
      if s.tb.running ∧ s.now < t then .next s
      else
        let old := s
        let therm := s.reg Reg.pwrTherm
        let s := s.restart
        let s := { s with
          mgt := { s.mgt with released := true, oscRunning := true, bootSel := old.mgt.bootSel, straps := old.mgt.straps }
          nvm := { s.nvm with mirror := old.nvm.mirror }
          pwr := { old.pwr with avsAt := 0, hotAt := 0 }
          clk := { s.clk with xtalRunning := old.clk.xtalRunning, onRing := old.clk.onRing }
          rst := { held := false, cause := 2, fromFatal := old.evr.fatal, warmCount := old.rst.warmCount + 1, warmAt := none } }
        let s := s.setReg Reg.pwrTherm therm
        .next (if s.nvm.mirror then s else s.setUnit .flash 0 1 { UnitSt.init with state := .outOfService })

/-! ### The clock table (R779 to R782) -/

/-- The default clock of an island: MHz and CFG_DIV (R779). -/
def defaultClock (i : Nat) : Nat × Nat :=
  if i < 4 then (1333, 2)
  else if i < 13 then (2000, 1)
  else match i with
    | 13 => (1600, 1)
    | 14 => (1800, 1)
    | 15 => (1600, 1)
    | 16 => (1200, 2)
    | 17 => (1000, 2)
    | 18 => (1200, 2)
    | _ => (1500, 1)

/-- An island's row of a clock table: MHz, CFG_DIV, and whether gating is disabled. -/
def clockOf (rows : List ClockRow) (i : Nat) : Nat × Nat × Bool :=
  match rows.find? (·.island = i) with
  | some r => (r.mhz, r.cfgDiv, r.gateDis)
  | none => ((defaultClock i).1, (defaultClock i).2, false)

/-- CFG_DIV as `CLK_ISL_FREQ` encodes it. -/
def divCode (d : Nat) : Nat := if d = 1 then 0 else if d = 2 then 1 else 2

/-- R781, with TIME_MERGE as R780 leaves it. -/
def clocksOk (rows : List ClockRow) : Bool :=
  let mhz := fun i => if i = 13 then 1600 else (clockOf rows i).1
  let div := fun i => (clockOf rows i).2.1
  (List.range 20).all fun i =>
    decide (div i = 1 ∨ div i = 2 ∨ div i = 4) &&
    (if i = 19 then decide (800 ≤ mhz i) else decide (4 * 400 ≤ mhz i * div i)) &&
    (if 4 ≤ i ∧ i < 12 then decide (9 * mhz i ≤ 10 * mhz 14) else true) &&
    (if i = 18 then decide (mhz i = 1200) else true) &&
    (if i = 15 ∨ i = 16 then decide (div i ≤ 2) else true)

/-- The clock table applied: every island on its PLL A, both PLLs locked, AVS closed (R780, R782, R784, R800). -/
def State.applyClocks (s : State) (rows : List ClockRow) : State :=
  let s := (List.range 20).foldl (fun (s : State) i =>
    let (mhz, div, gate) := clockOf rows i
    let x : IslandSt := { IslandSt.init with
      lockA := true, lockB := true, mhz := if i = 13 then 1600 else mhz, cfgDiv := divCode div }
    let s := { s with clk := { s.clk with islands := s.clk.islands.set i x } }
    s.setFld (F.clkIslCtrl_gateDis i) (b2n gate)) s
  let s := if (clockOf rows 13).1 = 1600 then s else s.event 0xB039 2 []
  { s with
    clk := { s.clk with tableApplied := true }
    pwr := { s.pwr with avsOk := true, avsFails := 0 }
    assured := s.assured && clocksOk rows }

/-! ### Firmware (R684, R686, R688, R689, R698, R749) -/

/-- The slots of every device as they are read at boot: what the model has seen written to one, else what the command says it holds;
nothing when the command says that it can't be read. -/
def slotRead {α : Type} (known : Table α) (a b : SlotRead α) : Table α :=
  [(0, a.flash0), (1, b.flash0), (2, a.flash1), (3, b.flash1)].foldl (fun (t : Table α) (e : Nat × Option α) =>
    match e.2 with
    | some x => t.set e.1 (t.getD e.1 x)
    | none => t.erase e.1) known

/-- A slot as it is read (R695): from FLASH0 unless its check fails there, else from FLASH1. -/
def State.readSlot {α : Type} (s : State) (t : Table α) (ok : α → Bool) (slot : Nat) : Option α :=
  ((if s.nvm.mirror then [slot, 2 + slot] else [slot]).filterMap t.get?).find? ok

/-- The superblock that a device leaves the factory with. -/
def factoryBlock : Superblock :=
  { seq := 1, fwSlot := 0, baseSlot := 0, baseLen := 0, replayFrom := 1, journalOffset := 0, epochHwm := 0,
    baseHash := zeros 32, fwHash := zeros 32 }

/-- Whether the boot ROM starts an image (R688). -/
def State.fwValid (s : State) (f : FirmwareInfo) : Bool := decide (s.fwResult (some f) = updOk)

/-- Whether a base slot is valid (R691): its image, every section that the device requires, and its device section. -/
def baseValid (b : BaseImage) : Bool := (b.ownerOk || b.macOk) && b.sectionsOk && b.deviceSectionOk

/-- The newest superblock whose base slot is valid, with its base (R692). -/
def State.chooseBase (s : State) : Option (Superblock × BaseImage) :=
  s.nvm.found.foldl (fun (o : Option (Superblock × BaseImage)) b =>
    match o with
    | some x => some x
    | none =>
      (s.readSlot s.nvm.bases baseValid b.baseSlot).map fun i => (b, i)) none

/-- RECOVERY entered (R686, R689). -/
def State.enterRecovery (s : State) : State :=
  let s := { s with mgt := { s.mgt with stage := .recovery } }
  ((s.applyFallback).event 0xB005 3 []).assertAlert

/-- The device that is behind stays REJOINING until it holds the store (R749). -/
def State.checkSkew (s : State) : State :=
  let t0 := topSeq s.nvm.sb0
  let t1 := topSeq s.nvm.sb1
  match (if t0 < t1 then [0] else if t1 < t0 then [1] else []) with
  | [d] =>
    if !s.nvm.mirror then s
    else
      ({ s with nvm := { s.nvm with bootSkewed := some d } }).setUnit .flash 0 d { UnitSt.init with state := .rejoining }
  | _ => s

/-- The superblocks as the boot ROM finds them in both regions of both devices: the valid one with the highest SEQ is active (R698);
a blank store holds the one of the factory. -/
def State.scanBlocks (s : State) : State :=
  if s.nvm.sb0 = [] ∧ s.nvm.sb1 = [] then
    let b := factoryBlock
    { s with nvm := { s.nvm with
      sb0 := [b.bytes], sb1 := if s.nvm.mirror then [b.bytes] else [], found := [b], active := some b } }
  else
    let l := validBlocks s.nvm.sb0 (if s.nvm.mirror then s.nvm.sb1 else [])
    { s with nvm := { s.nvm with found := l, active := l.head? } }

/-- FIRMWARE_START (R684, R686, R688, R689, R698, R749, R766, R780): the slots are read, firmware starts from one of them, and
the clock table applies. -/
def execFirmwareStart (slotA slotB : SlotRead FirmwareInfo) (baseA baseB : SlotRead BaseImage) (s : State) : Res :=
  whenWorking s <|
    if !s.mgt.oscRunning ∨ s.mgt.stage ≠ .rom then .next s
    else
      let s := { s with nvm := { s.nvm with
        fw := slotRead s.nvm.fw slotA slotB, bases := slotRead s.nvm.bases baseA baseB } }
      let s := ((s.scanBlocks).checkSkew).newNonce
      let s := { s with evr := { s.evr with flashOk := decide (s.flashUp ≠ []) } }
      let named := match s.nvm.active with
        | some b => b.fwSlot
        | none => 0
      let get := fun (n : Nat) => s.readSlot s.nvm.fw s.fwValid n
      match (get named).map (fun f => (named, f)), (get (1 - named)).map (fun f => (1 - named, f)) with
      | none, none => .next ({ s with mgt := { s.mgt with updateOpen := true } }).enterRecovery
      | first, second =>
        match (first.orElse fun _ => second) with
        | none => .next s
        | some (slot, f) =>
          let s := if slot = named then s else s.event 0xB002 3 []
          let s := { s with mgt := { s.mgt with
            fwRuns := true, fwSlot := slot, fwVersion := f.version, fwSvn := f.svn, fwRaiseMin := f.raiseMin, fwHash := f.hash
            raiseMinRun := if f.hash = s.mgt.fwHash then s.mgt.raiseMinRun else 0 } }
          if s.mgt.bootSel = 1 ∨ s.mgt.bootSel = 3 then .next (s.enterRecovery.applyClocks [])
          else
            let rows := match s.chooseBase with
              | some (_, b) => b.clocks
              | none => []
            .next (({ s with mgt := { s.mgt with stage := .clocks } }).applyClocks rows)

/-! ### Replay (R703 to R707) -/

/-- Records from a SEQ on, as far as they follow one another and a device that can be read holds their header (R703, R706). -/
def replayRun (readable : List Nat) : Nat → List JrnRec → List JrnRec
  | _, [] => []
  | seq, r :: rest =>
    if r.seq < seq then replayRun readable seq rest
    else if r.seq = seq ∧ r.headerOk.any (fun d => decide (d ∈ readable)) then r :: replayRun readable (seq + 1) rest
    else []

/-- A record ignored at replay (R705). -/
def State.ignoreRecord (s : State) (r : JrnRec) : State := (s.count1 C.nvmIgnored).event 0xB004 2 [.w r.seq]

/-- The epochs that a record puts on record (R28, R700). -/
def recEpoch (r : JrnRec) : Nat :=
  match r.kind with
  | .epochReserve n => n
  | .commit _ _ e => e
  | _ => 0

/-- The bits of a register that the store loads (R13); read-only ones that the state holds outside the register file are not
kept there. -/
def storeMask (r : RegRow) : Nat :=
  (r.fields.filter fun f => f.store && (decide (f.acc ≠ .ro) || decide (r.base = Reg.tbFrefCtrl ∨ r.base = Reg.mgtMctp ∨
    r.base = Reg.clkCfg))).foldl (fun m f => m + f.mask) 0

/-- One value of the store loaded (R13, R839); a policer's is numbered from 2^32 on. -/
def State.loadReg (s : State) (e : Nat × Word) : State :=
  if 2 ^ 32 ≤ e.1 then
    { s with regs := { s.regs with
      pol := setCell s.regs.pol (e.1 - 2 ^ 32) e.2, polStore := setCell s.regs.polStore (e.1 - 2 ^ 32) e.2 } }
  else
    let s := { s with regs := { s.regs with store := setCell s.regs.store e.1 e.2 } }
    match findRow regTable e.1 with
    | none => s
    | some (r, is) =>
      if s.answers r.perPort is then s.setReg e.1 (e.2.toNat &&& storeMask r) else s

/-- The values of the store: port modes first, since they decide which ports are configured (R839). -/
def State.loadRegs (s : State) (l : List (Nat × Word)) : State :=
  let modes := l.filter fun e => (rowIndex (Reg.portMode 0) [(0x10000, 96)] e.1).isSome
  l.foldl (fun (s : State) e => s.loadReg e) (modes.foldl (fun (s : State) e => s.loadReg e) s)

/-- Merge and release groups that the store holds: `MRG_GROUP_CFG` and `REL_GROUP_CFG`. Their window and members apply from the
first Ream on. -/
def State.loadGroups (s : State) : State :=
  (List.range 16).foldl (fun (s : State) g =>
    let m := (s.regs.store.getD (Reg.mrgGroupCfg g) 0).toNat
    let r := (s.regs.store.getD (Reg.relGroupCfg g) 0).toNat
    let s := if m.testBit 0 then
        s.modMerge g fun _ => { MergeSt.init with alive := true, destKind := m / 2 % 2, dest := m / 256 % 2 ^ 17 }
      else s
    if r.testBit 0 then
      let x : ReleaseSt := { alive := true, gen := 1, fec := r / 4 % 4, speed := r / 16 % 8 }
      { s with rel := { s.rel with groups := s.rel.groups.set g x } }
    else s) s

/-- Whether an identity can be bound (R718). -/
def idDefined (n : Nat) : Bool := decide (n = idHost ∨ n = idBmc ∨ (0x10 ≤ n ∧ n ≤ 0x1F))

/-- The mailbox bindings of the store (R717, R718). -/
def State.bindMailboxes (s : State) (l : List MbxBind) : State :=
  l.foldl (fun (s : State) b =>
    if b.channel < 64 ∧ idDefined b.sender ∧ idDefined b.receiver ∧ b.sender ≠ b.receiver then
      let m : MbxSt := { MbxSt.init with sender := b.sender, receiver := b.receiver, vector := b.vector }
      { s with mgt := { s.mgt with mbx := s.mgt.mbx.set b.channel m } }
    else s) s

/-- The rule bank of the base loaded as bank 0 of every slice with its rows (R443, R693, R487); without a valid one (R485,
R422 and R401 included, assumption 114) the slices hold none. Answers whether they hold one. -/
def State.loadBank (s : State) (slot : Nat) (i : BankImage) : Bool × State :=
  let bad := fun (s : State) => let x := s.draw (2 ^ 32); (false, x.2.event 0xB003 3 [.q slot, .q x.1])
  match readImage i with
  | none => bad s
  | some bank =>
  if !i.sigOk || s.liveRow i.bank.rows then bad s
  else
    let s := { s with
      flow := { s.flow with bank0 := some bank }
      coh := { s.coh with bankTag := true } }
    match s.loadRows i.bank.rows with
    | some s => (true, { s with coh := { s.coh with bankTag := false } })
    | none => bad { s with coh := { s.coh with bankTag := false }, flow := { s.flow with bank0 := none } }

/-! ### Time base and ledger (R73, R212 to R214, R223, R840) -/

/-- The checkpoint that boot uses: the valid one with the highest CKPT_SEQ (R212). -/
def State.bootCkpt (s : State) (readable : List Nat) : Option Ckpt :=
  let found := (if 0 ∈ readable then s.ldg.ckpt0 else []) ++ (if 1 ∈ readable then s.ldg.ckpt1 else [])
  (found.filterMap Ckpt.ofBytes).foldl (fun (o : Option Ckpt) k =>
    match o with
    | some x => some (if x.seq < k.seq then k else x)
    | none => some k) none

/-- The boot checkpoint (R840). Answers whether boot goes on. -/
def State.bootCheckpoint (s : State) (k : Ckpt) (ok0 ok1 : Bool) : Bool × State :=
  let s := { s with ldg := { s.ldg with ckptSeq := k.seq + 1, newestCkpt := some k } }
  let (held, s) := s.ckptDone { k with seq := k.seq + 1, reserved := k.reserved + 65536 } ok0 ok1
  if held then (true, s) else (false, s.exhausted)

/-- The time base started in FREE_RUN (R73). What was timed from the release of PWRON_RST_N counts from here. -/
def State.startTime (s : State) (start : Stamp) : State :=
  { s with
    tb := { s.tb with running := true, time := start * 65536 }
    stp := { s.stp with dies := (List.range 4).foldl (fun (t : Table DieCal) d => t.set d { s.die d with copy := start * 65536 }) s.stp.dies }
    hif := { s.hif with releasedAt := start, ledgerAt := start, idleSince := start, widthAt := start }
    mgt := { s.mgt with bootAt := start }
    ldg := { s.ldg with ckptAt := s.ldg.ckptAt.map fun _ => start }
    nvm := { s.nvm with refreshedAt := start }
    pwr := { s.pwr with avsAt := start, hotAt := start }
    tel := { s.tel with lastAt := start }
    flow := { s.flow with
      slices := (List.range 8).foldl (fun (t : Table SliceTables) n =>
        let x : SliceTables := { s.tabs n with passAt := start }
        t.set n x) s.flow.slices } }

/-- The key that signs from boot on: that of the selected slot, or a new one where the slot is empty or its key can't be unwrapped
(R223). Answers whether the key is new. -/
def State.bootKey (s : State) (keyOk : Bool) : Bool × State :=
  let slot := s.fld F.ldgCtrl_keySel
  let s := { s with ldg := { s.ldg with keySel := slot } }
  let had := s.ldg.keys.has slot
  if had ∧ keyOk then (false, s)
  else
    let (k, s) := s.newKey slot
    let s := { s with ldg := { s.ldg with keys := s.ldg.keys.set slot k } }
    let s := s.jrnStart (.ledgerKey slot k.keyId k.pub k.wrapped k.cert) .keySelect
    let s := s.event 0x3007 1 [.q slot, .w k.keyId]
    (true, if had then s.event 0x3009 3 [] else s)

/-- The first Ream (R207, R213, R214). -/
def State.firstReam (s : State) (k : Option Ckpt) (keyNew : Bool) (start : Stamp) : State :=
  let n := match k with
    | some c => c.reserved + 1
    | none => 1
  let link := match k with
    | some c => c.ream
    | none => 0
  let root := match k with
    | some c => c.root
    | none => zeros 32
  let s := if k.isSome then s.event 0x3005 1 [.w link, .w n] else s
  let s := s.portList.foldl (fun (s : State) p => s.cableBoundary p n) s
  let s := { s with ldg := { s.ldg with
    running := true, prevNum := link, prevRoot := root, cur := some (s.newReam n start keyNew k.isSome k.isNone) } }
  ((s.checkRefuse).mergeBoundary n start).releaseBoundary n start

/-- The time base and the ledger as boot starts them. Answers whether boot goes on. -/
def State.startLedger (s : State) (readable : List Nat) (ok0 ok1 keyOk : Bool) : Bool × State :=
  let k := s.bootCkpt readable
  let (on, s) := match k with
    | some c => s.bootCheckpoint c ok0 ok1
    | none => (true, s)
  if !on then (false, s)
  else
    let start := match k with
      | some c => c.stop + 2 * secStamp
      | none => 0
    let s := s.startTime start
    let (keyNew, s) := s.bootKey keyOk
    (true, s.firstReam k keyNew start)

/-! ### STORE_REPLAY -/

/-- The ring read from a superblock's JOURNAL_OFFSET on, whatever boots from it: where the next record goes and its SEQ, the epoch
high-water mark, the ledger keys of the device section and of the records that apply. Answers the records that follow one
another. -/
def State.scanRing (s : State) (sb : Superblock) (readable : List Nat) : List JrnRec × State :=
  let run := replayRun readable sb.replayFrom s.nvm.journal
  let good := run.filter (·.applies readable)
  let (next, page) := match run.getLast? with
    | some r => (r.seq + 1, r.page + r.pages)
    | none => (sb.replayFrom, sb.journalOffset / 256)
  let section_ := match s.readSlot s.nvm.bases baseValid sb.baseSlot with
    | some b => b.keys
    | none => []
  let keys := section_.foldl (fun (t : Table KeySlot) e => t.set e.1 e.2) .empty
  let hwm := max sb.epochHwm ((good.map recEpoch).foldl max 0)
  (run, { s with
    nvm := { s.nvm with
      nextSeq := next, journal := s.nvm.journal.filter (·.seq < next), jrnPos := (page / 256 + 1) * 256 % ringPages
      lastReplayed := match good.getLast? with
        | some r => r.seq
        | none => 0 }
    ldg := { s.ldg with keys := good.foldl applyKeys keys }
    coh := { s.coh with assigned := hwm, hwm } })

/-- The base with the records that apply, every record that does not, and the next SEQ (R703 to R706). -/
def State.replay (s : State) (sb : Superblock) (b : BaseImage) (readable : List Nat) : BaseImage × State :=
  let (run, s) := s.scanRing sb readable
  let s := (run.filter fun r => !r.applies readable).foldl (fun (s : State) r => s.ignoreRecord r) s
  let keySel := match b.keySel with
    | some n =>
      let a := F.ldgCtrl_keySel.addr
      let old := match b.regs.find? (·.1 = a) with
        | some e => e.2.toNat
        | none => 0
      [(a, BitVec.ofNat 32 (putBits old F.ldgCtrl_keySel.lo F.ldgCtrl_keySel.width n))]
    | none => []
  let m := mergeRecords { b with regs := mergeWords b.regs keySel } run readable
  let hwm := max s.coh.hwm m.epoch
  let s := { s with coh := { s.coh with epoch := m.epoch, prevEpoch := m.epoch, assigned := hwm, hwm } }
  (m, { s with nvm := { s.nvm with usedPages := s.pagesFrom sb.replayFrom } })

/-- Everything that the base and its records configure (R13, R443, R693, R717 and *Base image contents*): the rule bank's copy of
S-class fields with the bank alone, under the values of REGISTERS. -/
def State.configureFrom (s : State) (slot : Nat) (b : BaseImage) : State :=
  let (held, s) := (s.loadRegs b.regs).loadBank slot b.bank
  let own := (imageWords b.bank.bank).entries.filter fun e => !b.regs.any fun (x : Nat × Word) => decide (x.1 = e.1)
  let s := (if held then s.loadRegs own else s).loadGroups.bindMailboxes b.mailbox
  let s := b.macsec.foldl (fun (s : State) p => s.modPort p fun x => { x with mka := true }) s
  let s := b.serdes.foldl (fun (s : State) e =>
    { s with lanes := s.lanes.modify e.1 LaneSt.init fun (l : LaneSt) => { l with preset := e.2, txEq := e.2 } }) s
  ({ s with
    evr := { s.evr with cfg := b.events, clearKeys := b.clearKeys }
    tb := { s.tb with timeSec := b.time } }).carryFrefs.assignFrefs.refreshSynce

/-- Ports, gates and policers as the store has them: gate lists in effect (R539), buckets full from now on (R527). -/
def State.startTraffic (s : State) : State :=
  let s := s.portList.foldl (fun (s : State) p => s.modTmPort p fun q => { q with oper := s.gateRegs p, from_ := s.now }) s
  (List.range 8).foldl (fun (s : State) n => s.modSlice n fun x => { x with polFrom := s.copyNow (n / 2) }) s

/-- The ports that the store configures taken IN_SERVICE (R319 to R321). -/
def State.startPorts (s : State) : State :=
  s.portList.foldl (fun (s : State) p => if s.modeFits p then (s.moveUnit .port 0 p .inService 0).startLink p else s.modeRefused p) s

/-- STORE_REPLAY (R13, R28, R73, R212 to R214, R223, R443, R691 to R693, R703 to R707, R717, R840): the journal replayed over the
base and every unit configured by it; in RECOVERY, and where no base slot is valid, time base and ledger alone start. -/
def execStoreReplay (readable0 readable1 ckptOk0 ckptOk1 keyOk : Bool) (s : State) : Res :=
  whenWorking s <|
    if !s.mgt.fwRuns ∨ s.tb.running then .next s
    else
      let readable := (if readable0 then [0] else []) ++ (if readable1 ∧ s.nvm.mirror then [1] else [])
      let scanned := fun (s : State) => match s.nvm.active with
        | some b => (s.scanRing b readable).2
        | none => s
      if s.mgt.stage = .recovery then .next ((scanned s).startLedger readable ckptOk0 ckptOk1 keyOk).2
      else
        let named := match s.nvm.active with
          | some b => b.baseSlot
          | none => 0
        let bad := fun (s : State) => let x := s.draw (2 ^ 32); x.2.event 0xB003 3 [.q named, .q x.1]
        match s.chooseBase with
        | none =>
          let s := scanned { bad s with mgt := { s.mgt with stage := .store } }
          .next (s.startLedger readable ckptOk0 ckptOk1 keyOk).2
        | some (sb, b) =>
          let s := if s.nvm.active = some sb then s else bad s
          let (m, s) := s.replay sb b readable
          let s := { s with
            nvm := { s.nvm with active := some { sb with seq := s.sbSeq }, base := some b }
            mgt := { s.mgt with stage := .store, baseSlot := sb.baseSlot, baseOwner := b.ownerOk } }
          let s := s.configureFrom sb.baseSlot m
          let (on, s) := s.startLedger readable ckptOk0 ckptOk1 keyOk
          if !on then .next s
          else .next (({ s with mgt := { s.mgt with stage := .units } }).startTraffic.startPorts).reserveEpochs

/-! ### SERVICE (R687, R690) -/

/-- Whether a port has brought its link up or been IN_SERVICE for 1 s (R687). -/
def State.portSettled (s : State) (p : Nat) : Bool :=
  decide (p ∈ s.mgt.settled) || (s.up .port 0 p && decide ((s.unit .port 0 p).since + secStamp ≤ s.now))

/-- The ports that the store configures. -/
def State.bootPorts (s : State) : List Nat :=
  (List.range 96).filter fun p => decide (getBits (s.regs.store.getD (Reg.portMode p) 0).toNat 0 3 ≠ 0)

/-- BOOT_SERVICE_REACHED (R687, R690): the time from the release of PWRON_RST_N to the start of the time base is free. -/
def execBootServiceReached (s : State) : Res :=
  whenWorking s <|
    if s.mgt.stage ≠ .units ∨ !s.bootPorts.all s.portSettled then .next s
    else
      let (x, s) := s.draw 65536
      let ms := min 0xFFFF (x + (s.now - s.mgt.bootAt) / msStamp)
      let n := s.mgt.raiseMinRun + 1
      let s := { s with mgt := { s.mgt with
        stage := .service, bootMs := ms, raiseMinRun := n
        fusedMin := if s.mgt.fwRaiseMin ∧ 3 ≤ n then max s.mgt.fusedMin s.mgt.fwSvn else s.mgt.fusedMin } }
      .next (s.event 0xB001 1 [.r Reg.mgtBootMs])

end Sys2Proof.Machine
end

