-- ==== Sys2Proof/Machine/Regs.lean ====
section
/-! DEFINITION. Accesses to PF BAR0 (R8 to R19, R45 to R55, R593 to R595): writes by access code and change class, broadcast and
group windows, reads that clear, and accesses that no block decodes. -/

namespace Sys2Proof.Machine

/-! ### Who is written -/

/-- The unit whose service state an H-class field of a register waits for (R18), where it has one: lanes that are not the first
lane of a configured port are OUT_OF_SERVICE (R320). -/
def State.haltUnit (s : State) (base n : Nat) : Option UnitRef :=
  if base < 0x2000000 then (if s.configured n then some (.port, 0, n) else none) else some (.slice, 0, n)

/-- Whether H-class fields of a register can be written. -/
def State.halted (s : State) (base n : Nat) : Bool :=
  match s.haltUnit base n with
  | some u => decide ((s.unit u.1 u.2.1 u.2.2).state = .outOfService)
  | none => true

/-- The bits of a register that commands of their own write; a write of the register does what those commands do. -/
def ownBits (base : Nat) : Nat :=
  if base = Reg.portCtrl 0 then 4
  else if base = Reg.evrAlert then 8
  else if base = Reg.clkIslCtrl 0 then 1
  else if base = Reg.nvmUpdCtrl then 3
  else if base = Reg.portMsecSaCmd 0 ∨ base = Reg.tbTimeLatch ∨ base = Reg.tbEvtPop 0 ∨ base = Reg.ldgRingRecCons 0 ∨
      base = Reg.ldgRingHdrCons 0 ∨ base = Reg.evrSelL32 ∨ base = Reg.telSelL32 ∨ base = Reg.mbxCtrl 0 ∨ base = Reg.rstCtrl then
    0xFFFFFFFF
  else 0

/-! ### One field (R11, R14, R16, R19) -/

/-- The WARNING of a reserved value (R19). -/
def State.warnReserved (s : State) (f : RegField) (a v : Nat) : State := if f.ok v then s else s.event 0xB022 2 [.q a]

/-- A value of a field as it is taken (R19): a reserved one becomes the reset value, which the store gives where the Reset column
reads "store"; `loaded` is the word that the store loaded. -/
def RegField.taken (f : RegField) (loaded : Word) (v : Nat) : Nat :=
  if f.ok v then v else if f.store then getBits loaded.toNat f.lo f.width else f.reset

/-- A 1 written to a W1C field (R11). -/
def State.clearField (s : State) (base i : Nat) (f : RegField) (a : Nat) : State :=
  if base = Reg.portMsecSaStatus 0 then s.modPort i fun x => { x with saErr := false }
  else if base = Reg.ldgRingStatus 0 then s.modSet i fun r => { r with archErr := false }
  else if base = Reg.qmNrState then s.modNr (s.fld F.qmNrSel_nr) fun r => { r with overflowed := false }
  else if base = Reg.mbxStatus 0 then s.modMbx i fun m => { m with overrun := false }
  else if base = Reg.clkIslStatus 0 then s.modIsland i fun x => { x with forced := false }
  else s.setReg a (putBits (s.reg a) f.lo f.width 0)

/-- A value staged in the shadow of a register (R14), or in those of the policers that `TM_POL_SEL` selects (R542). -/
def State.stageField (s : State) (f : RegField) (a v : Nat) : State :=
  if isPolicerReg a then
    let w := (a - Reg.tmPolSel) / 4
    let n := s.fld F.tmPolSel_slice
    (if n = 15 then List.range 8 else [n]).foldl (fun (s : State) n =>
      let k := n * 0x20000 + s.fld F.tmPolSel_index * 8 + w
      let old := (s.regs.polShadow.getD k (s.regs.pol.getD k 0)).toNat
      let v := f.taken (s.regs.polStore.getD k 0) v
      { s with regs := { s.regs with polShadow := s.regs.polShadow.set k (BitVec.ofNat 32 (putBits old f.lo f.width v)) } }) s
  else
    let old := match s.regs.shadow.get? a with
      | some x => x.toNat
      | none => s.reg a
    s.stageWord a (putBits old f.lo f.width (f.taken (s.regs.store.getD a 0) v))

/-- A value put in effect at once. `QM_NR_MOD` is the moderation of the selected ring, from its next arming on. -/
def State.putField (s : State) (base : Nat) (f : RegField) (a v : Nat) : State :=
  if base = Reg.qmNrMod then
    s.modNr (s.fld F.qmNrSel_nr) fun r => if f.lo = 0 then { r with modTimerUs := v } else { r with modCount := v }
  else s.setReg a (putBits (s.reg a) f.lo f.width v)

/-- Whether a register holds a cable delay (R158). -/
def isCableReg (base : Nat) : Bool :=
  decide (base = Reg.stpCableRx 0 ∨ base = Reg.stpCableTx 0 ∨ base = Reg.stpCableAdj 0)

/-- One field written. Answers whether its unit refused it (R18). -/
def State.writeField (s : State) (r : RegRow) (i a w : Nat) (f : RegField) : Bool × State :=
  let v := getBits w f.lo f.width
  if ownBits r.base / 2 ^ f.lo % 2 = 1 then (false, s.warnReserved f a v)
  else match f.acc with
    | .ro | .rc => (false, s)
    | .w1c => (false, if v = 0 then s else s.clearField r.base i f a)
    | .wo => (false, s.putField r.base f a v)
    | .rw =>
      if f.cls = .halt ∧ !s.halted r.base i then (true, s)
      else if isCableReg r.base ∧ !f.ok v then (false, s.noticeAddr a)
      else
        let s := s.warnReserved f a v
        (false, if f.cls = .staged ∨ f.cls = .ream then s.stageField f a v
          else s.putField r.base f a (f.taken (s.regs.store.getD a 0) v))

/-- A write noted for what entered its block before it (R15), where it changed L-class fields. -/
def State.noteLive (s : State) (a old : Nat) : State :=
  let m := clsMask .live a
  if s.reg a &&& m = old &&& m then s
  else { s with regs := { s.regs with lives := ⟨s.now, a, BitVec.ofNat 32 old⟩ :: s.regs.lives } }

/-! ### What a written register brings about -/

/-- Whether an offset is one of a port number's registers or counters that R839 governs. -/
def perPortOf (n a : Nat) : Bool :=
  match findRow regTable a with
  | some (r, is) => r.perPort && decide (is.headD 0 = n)
  | none =>
    match findCtr ctrTable a with
    | some c => c.perPort && decide (((rowIndex c.base c.dims a).getD []).headD 0 = n)
    | none => false

/-- A port number becomes configured (R180, R839): its registers take their reset values and those of the store, its counters 0. -/
def State.portAppears (s : State) (n : Nat) : State :=
  let other := fun a => !perPortOf n a
  let s := { s with
    regs := { s.regs with cells := s.regs.cells.filter fun a _ => other a }
    ctr := { s.ctr with
      value := s.ctr.value.filter fun a _ => other a, side := s.ctr.side.filter fun a _ => other a
      high := s.ctr.high.filter fun a _ => other a, latched := s.ctr.latched.filter fun a _ => other a }
    ldg := { s.ldg with cur := s.ldg.cur.map fun (c : ReamSt) => { c with ports := if n ∈ c.ports then c.ports else c.ports ++ [n] } } }
  let s := (s.regs.store.entries.filter fun e => perPortOf n e.1).foldl (fun (s : State) e => s.loadReg e) s
  let s := s.modPort n fun x => { x with
    saErr := false, prbsErr := false, modeErr := false, localFault := false, remoteFault := false, pauses := .empty
    holdoffs := .empty, xoff := [], refresh := .empty, toSend := [], txSas := .empty, rxSas := .empty, saOps := [] }
  { s with stp := { s.stp with cables := s.stp.cables.erase n }, tm := { s.tm with ports := s.tm.ports.set n { TmPort.init with oper := s.gateRegs n, from_ := s.now } } }

/-- A port number ceases to be configured: staged shadows of it are discarded (R839), and it is to leave its member sets (R323). -/
def State.portVanishes (s : State) (n : Nat) : State :=
  let other := fun a => !perPortOf n a
  let left := if n ∈ s.mrg.left then s.mrg.left else n :: s.mrg.left
  { s with
    mrg := { s.mrg with left }
    tm := { s.tm with ports := s.tm.ports.modify n TmPort.init fun (t : TmPort) => { t with plans := [] } }
    ctr := { s.ctr with high := s.ctr.high.filter fun a _ => other a }
    regs := { s.regs with
      shadow := s.regs.shadow.filter fun a _ => other a, armed := s.regs.armed.filter fun a _ => other a
      reamWait := s.regs.reamWait.filter fun a _ => other a } }

/-- A new TYPE of a time-source entry: the entry is qualified anew by the rule of its type (R80). -/
def State.retypeSource (s : State) (n : Nat) : State :=
  (({ s with tb := { s.tb with srcs := s.tb.srcs.set n SrcSt.init } }).refreshSources 0).parentUtc

/-- What follows a register's write: `old` is the word before. -/
def State.afterWrite (s : State) (base i a old : Nat) : State :=
  let now := s.reg a
  if base = Reg.portMode 0 then
    if old % 8 = 0 ∧ now % 8 ≠ 0 then s.portAppears i
    else if old % 8 ≠ 0 ∧ now % 8 = 0 then s.portVanishes i
    else s
  else if base = Reg.tbCtrl then s.selectSource
  else if base = Reg.tbSrcCfg 0 then
    if getBits old (F.tbSrcCfg_type 0).lo (F.tbSrcCfg_type 0).width = s.srcType i then s.selectSource else s.retypeSource i
  else if base = Reg.tbFrefCfg 0 then (if old % 8 = now % 8 then s else s.retypeFref i).assignFrefs
  else if base = (F.portFcCfg_mode 0).addr then s.refitPause i (decide (old % 4 ≠ now % 4))
  else if base = F.stpCtrl_staleMs.addr then s.checkStale
  else if base = (F.tbSynceOut_port 0).addr then s.refreshSynce
  else if base = Reg.tbPpsOutCtrl 0 then (if s.ppsRuns i then s else s.ppsLow i)
  else s

/-! ### One dword (R10, R45, R46, R62 to R65, R112, R719) -/

/-- Bits of a group mask that select units of a kind (R65). -/
def groupUnits (kind : Nat) : Nat :=
  match kind with
  | 0 => 96
  | 1 => 8
  | 2 => 34
  | 3 => 17
  | _ => 3

/-- OP CLOSE by a write of `NVM_UPD_CTRL`: what the slot holds once its windows are programmed is a free value. -/
def State.closeWritten (s : State) (d : Word) : State :=
  match execUpdateClose d (Config.programmedFw s.free) (Config.programmedBase s.free) { s with free := s.free + 1 } with
  | .next t => t
  | _ => s

/-- What the fields of `ownBits` do when their register is written: what their own command does, the register and its unit being
those of the write. A host write to `PORT_MSEC_SA_CMD` that names no operation is refused while MKA runs (R350). -/
def State.ownWrite (s : State) (base i w : Nat) : State :=
  let go := fun (r : Res) => match r with
    | .next t => t
    | _ => s
  let d := BitVec.ofNat 32 w
  if base = Reg.portCtrl 0 then (if w.testBit 2 then go (execPortRetrain i s) else s)
  else if base = Reg.portMsecSaCmd 0 then
    if w / 64 % 4 = 1 then go (execMsecSaInstall i (w % 4) (w.testBit 2) ⟨w / 8 % 8, none⟩ s)
    else if w / 64 % 4 = 2 then go (execMsecSaRemove i (w % 4) (w.testBit 2) (w / 8 % 8) s)
    else if (s.port i).mka then s.event 0x1008 1 [] else s
  else if base = Reg.tbTimeLatch then (if w.testBit 0 then go (execTimeLatch s) else s)
  else if base = Reg.tbEvtPop 0 then (if w.testBit 0 then go (execEvtPop i s) else s)
  else if base = Reg.ldgRingRecCons 0 then go (consumerWrite i false d s)
  else if base = Reg.ldgRingHdrCons 0 then go (consumerWrite i true d s)
  else if base = Reg.mbxCtrl 0 then (if w.testBit 0 then go (execMbxRing idHost i s) else s)
  else if base = Reg.nvmUpdCtrl then
    if w % 4 = 1 then go (execUpdateOpen d s)
    else if w % 4 = 2 then s.closeWritten d
    else if w % 4 = 3 then go (execUpdateAbort s)
    else s
  else if base = Reg.evrSelL32 then (if s.fld F.evrCtrl_src = 0 then go (execEvrSelectOnDie d s) else go (execEvrSelectRegion d s))
  else if base = Reg.evrAlert then (if w.testBit 3 then go (execAlertAck s) else s)
  else if base = Reg.telSelL32 then go (execTelSelect d s)
  else if base = Reg.clkIslCtrl 0 then go (execClockSelRequest i (w.testBit 0) s)
  else if base = Reg.rstCtrl then go (execWarmResetRequest d s)
  else s

/-- A write of one aligned dword to a register of one unit. Answers whether the unit refused an H-class field (R18). -/
def State.writeReg (s : State) (a w : Nat) : Bool × State :=
  match findRow regTable a with
  | none => (false, if decoded a then s else s.noticeAddr a)
  | some (r, is) =>
    let i := is.headD 0
    if !s.answers r.perPort is then (false, s)
    else if r.base = Reg.mbxData 0 0 then (false, s.mbxWrite idHost i (is.getD 1 0) (BitVec.ofNat 32 w))
    else if r.base = Reg.nvmUpdData 0 then
      (false, if s.nvm.upd.phase ≠ 1 ∨ s.nvm.upd.busy then s
        else if i = 1023 then
          (match execUpdateWindowProgram (BitVec.ofNat 32 w) s with
            | .next t => t
            | _ => s)
        else s.modUpd fun u => { u with window := u.window.set i (BitVec.ofNat 32 w) })
    else if r.base = Reg.tbUtc ∧ s.tb.slave.isSome ∧ s.activeType = 4 then (false, s.event 0x2006 1 [])
    else
      let w := if r.base = Reg.glbGrpMask 0 0 0 then w % 2 ^ (groupUnits i - 32 * is.getD 2 0) else w
      let old := s.reg a
      let (refused, s) := r.fields.foldl (fun (x : Bool × State) f =>
        let y := x.2.writeField r i a w f
        (x.1 || y.1, y.2)) (false, s)
      let s := (if refused then s.noticeAddr a else s).ownWrite r.base i w
      (refused, (s.noteLive a old).afterWrite r.base i a old)

/-- A broadcast or group window (*Instance, broadcast and group windows*): the kind of its units, its group, and the offset in the
unit's window. -/
structure Window where
  kind : Nat
  group : Option Nat
  off : Nat
  deriving DecidableEq, Repr

/-- The window that holds an address. -/
def windowOf (a : Nat) : Option Window :=
  if 0x1700000 ≤ a ∧ a < 0x1780000 then some ⟨0, some ((a - 0x1700000) / 0x10000), a % 0x10000⟩
  else if 0x17F0000 ≤ a ∧ a < 0x1800000 then some ⟨0, none, a % 0x10000⟩
  else if 0x2800000 ≤ a ∧ a < 0x2C00000 then some ⟨1, some ((a - 0x2800000) / 0x80000), a % 0x80000⟩
  else if 0x2F00000 ≤ a ∧ a < 0x2F80000 then some ⟨1, none, a % 0x80000⟩
  else none

/-- Where a unit's register is. -/
def Window.addr (x : Window) (n : Nat) : Nat :=
  if x.kind = 0 then 0x1000000 + n * 0x10000 + x.off else 0x2000000 + n * 0x100000 + x.off

/-- The members of a window, ascending (R47, R64). -/
def State.members (s : State) (x : Window) : List Nat :=
  let all := List.range (groupUnits x.kind)
  match x.group with
  | none => all
  | some g => all.filter fun n => (s.reg (Reg.glbGrpMask x.kind g (n / 32))).testBit (n % 32)

/-- A write to a broadcast or group window (R47, R49, R51). -/
def State.writeWindow (s : State) (x : Window) (a w : Nat) : State :=
  match s.members x with
  | [] => s.noticeAddr a
  | h :: t =>
    if !decoded (x.addr h) then s.noticeAddr a
    else
      let (n, s) := (h :: t).foldl (fun (y : Nat × State) m =>
        let z := y.2.writeReg (x.addr m) w
        (y.1 + b2n z.1, z.2)) (0, s)
      s.bump F.glbBcastStatus_rejected n

/-- A write of one aligned dword of BAR0. -/
def State.writeDword (s : State) (a w : Nat) : State :=
  match windowOf a with
  | some x => s.writeWindow x a w
  | none => (s.writeReg a w).2

/-- REGISTER_WRITE (R10 to R19, R595): every whole aligned dword in ascending order, every partial one discarded. `data` is the
payload as a little-endian number. A write that enables no byte does nothing, and is no write of fewer than 32 bits
(DESIGN CHOICE, assumption 101). -/
def execRegisterWrite (addr len data : Nat) (s : State) : Res :=
  whenWorking s <| viaBar0 len s fun s =>
    let first := addr / 4
    let count := ceilDiv (addr + len) 4 - first
    .next ((List.range (if len = 0 then 0 else count)).foldl (fun (s : State) k =>
      let a := 4 * (first + k)
      if addr ≤ a ∧ a + 4 ≤ addr + len then s.writeDword a (data / 256 ^ (a - addr) % 2 ^ 32) else s.noticeAddr a) s)

/-- LEDGER_CONSUMER_WRITE (R233, R267, R598): a host write of a consumer index. -/
def execLedgerConsumerWrite (set : Nat) (header : Bool) (cons : Word) (s : State) : Res :=
  whenWorking s <| viaBar0 4 s fun s => consumerWrite set header cons s

/-- BROADCAST_WRITE (R47, R49, R51). -/
def execBroadcastWrite (addr : Nat) (data : Word) (s : State) : Res :=
  whenWorking s <| viaBar0 4 s fun s =>
    match windowOf addr with
    | some x => .next (s.writeWindow x addr data.toNat)
    | none => .next s

/-! ### Reads -/

/-- The offset of `PIPE_CNT_PKT_LO` in a slice (R457). -/
def pipePktLo (n : Nat) : Nat := Reg.pipeCntIndex n + 8

/-- The pair that a slice's `PIPE_CNT_INDEX` selects, as a key of the pairs. -/
def State.pipeKey (s : State) (n : Nat) : Nat := n * 0x100000 + s.fld (F.pipeCntIndex_index n)

/-- What a read returns, with no effect on it. -/
def State.peek (s : State) (a : Nat) : Nat :=
  match rowIndex (pipePktLo 0) [(0x100000, 8)] a with
  | some is => lo32 (s.ctr.pair.getD (s.pipeKey (is.headD 0)) PairCtr.init).pkts.toNat
  | none => s.view a

/-- UNDECODED_ACCESS (R46, R597): an access to an address of BAR0 that no block decodes, or a read of a doorbell BAR, which returns
0. A write to a doorbell BAR is a doorbell, and no command of this row. -/
def execUndecodedAccess (at_ : BarAddr) (write : Bool) (s : State) : Res :=
  let addr := at_.addr
  whenLive s <|
    match at_.bar with
    | .doorbell fn =>
      if !s.hif.dlUp ∨ write then .next s
      else
        let s := s.touch 0
        .next (if s.fnDecodes fn then s.emit (.readData addr 0) else s.unsupportedReq fn)
    | .bar0 =>
      viaBar0 (if write then 4 else 0) s fun s =>
        let known : Bool := match windowOf addr with
          | some x => decoded (x.addr 0)
          | none => decoded addr
        if known ∨ (write ∧ s.evr.fatal) then .next s
        else
          let s := s.noticeAddr addr
          .next (if write then s else s.emit (.readData addr 0))

/-- The first mismatch since MISMATCH was cleared (R48, R62, R63). -/
def State.noteMismatch (s : State) (x : Window) (a : Nat) : State :=
  if s.fld F.glbBcastStatus_mismatch = 1 then s
  else ((s.setFld F.glbBcastStatus_mismatch 1).setFld F.glbBcastStatus_mismatchKind x.kind).setReg Reg.glbBcastMismatchAddr a

/-- A read of a broadcast or group window (R48, R51, R63). -/
def State.readWindow (s : State) (x : Window) (addr : Nat) : State :=
  match s.members x with
  | [] => (s.noticeAddr addr).emit (.readData addr 0)
  | h :: t =>
    if !decoded (x.addr h) then (s.noticeAddr addr).emit (.readData addr 0)
    else
      let s := (h :: t).foldl (fun (s : State) n => s.settleLine (x.addr n)) s
      let v := s.peek (x.addr h)
      let s := if t.all fun n => decide (s.peek (x.addr n) = v) then s else s.noteMismatch x addr
      s.emit (.readData addr v)

/-- A read of a counter's low word (R40, R53): the counter is cleared and its high word latched. -/
def State.readCounter (s : State) (addr : Nat) : State :=
  let s := s.settleLine addr
  let v := s.ctr.value.getD addr 0
  let s := { s with ctr := { s.ctr with
    value := s.ctr.value.erase addr, high := setCell s.ctr.high addr (BitVec.ofNat 32 (hi32 v.toNat)) } }
  s.emit (.readData addr (lo32 v.toNat))

/-- A read of a counter's low word in a window (R839): 0 where the port number has no port. -/
def State.readCounterOf (s : State) (c : CtrRow) (addr : Nat) : State :=
  if s.answers c.perPort ((rowIndex c.base c.dims addr).getD []) then s.readCounter addr else s.emit (.readData addr 0)

/-- The highest and lowest values that RC fields hold start again at the present value. -/
def State.restartMark (s : State) (base i : Nat) : State :=
  if base = Reg.hbxBufMinFree 0 then s.modSlice i fun x => { x with minFree := x.free }
  else if base = Reg.hbxCouch 0 then s.modSlice i fun x => { x with couchHwm := x.couch.length }
  else if base = Reg.fdbLearnQ 0 then s.modTabs i fun t => { t with learnHwm := t.learnQ.length }
  else if base = Reg.tmBufMinFree then { s with tm := { s.tm with minFree := 0x80000 - s.tm.used } }
  else if base = Reg.ldgStagingHwm then { s with ldg := { s.ldg with stagingHwm := s.stagingBytes } }
  else if base = Reg.mrgHeldHwm then { s with mrg := { s.mrg with heldHwm := s.heldDescs } }
  else if base = Reg.evrStatus then { s with evr := { s.evr with openHwm := s.evr.records.length } }
  else if base = Reg.pwrTjHwm then { s with pwr := { s.pwr with tjHwm := s.pwr.tjMax } }
  else s

/-- A read of a register (R11, R719): the value, and every RC field cleared in the same access. -/
def State.readRegister (s : State) (r : RegRow) (is : List Nat) (addr : Nat) : State :=
  if r.base = Reg.mbxData 0 0 then
    let (v, s) := s.mbxRead idHost (is.headD 0) (is.getD 1 0)
    s.emit (.readData addr v)
  else
    let s := if r.base / 0x1000000 = 1 then s.settleSa (is.headD 0) else s
    let v := s.view addr
    let rc := r.fields.filter fun f => decide (f.acc = .rc)
    let s := rc.foldl (fun (s : State) f => s.setReg addr (putBits (s.reg addr) f.lo f.width 0)) s
    (if rc = [] then s else s.restartMark r.base (is.headD 0)).emit (.readData addr v)

/-- A read of a slice's `PIPE_CNT_PKT_LO` (R457): the low packet count; the pair is cleared and its other three words are
latched. -/
def State.readPipe (s : State) (slice : Nat) : State :=
  let k := s.pipeKey slice
  let p := s.ctr.pair.getD k PairCtr.init
  let a := pipePktLo slice
  let s := ((s.setReg (a + 4) (hi32 p.pkts.toNat)).setReg (a + 8) (lo32 p.bytes.toNat)).setReg (a + 12) (hi32 p.bytes.toNat)
  let s := { s with ctr := { s.ctr with pair := s.ctr.pair.erase k } }
  s.emit (.readData a (lo32 p.pkts.toNat))

/-- A 32-bit read of BAR0, as what it names makes it act: a window, a PIPE pair, a register, either word of a counter (R54), or
nothing that any block decodes (R46). -/
def State.readDword (s : State) (a : Nat) : State :=
  match windowOf a, rowIndex (pipePktLo 0) [(0x100000, 8)] a, findRow regTable a, findCtr ctrTable a with
  | some x, _, _, _ => s.readWindow x a
  | none, some is, _, _ => s.readPipe (is.headD 0)
  | none, none, some (r, is), _ => s.readRegister r is a
  | none, none, none, some c =>
    s.readCounterOf c a
  | none, none, none, none => (if decoded a then s else s.noticeAddr a).emit (.readData a (s.view a))

/-- A read of another length (R594): Completer Abort, which is reported (R610). -/
def State.badLength (s : State) (addr : Nat) : State :=
  ((((s.count1 C.hifBadAccess).emit (.completerAbort addr)).reportAer 0 aerAdvisory (some 15) false).detect 1 0xA none .none
    false false).2

/-- A read of 4 bytes, of which `first` is what the read of the dword does, or the 64-bit read (R9): where it is aligned, two
reads with the lower address first. -/
def State.readSized (s : State) (addr : Nat) (wide : Bool) (first : State → State) : State :=
  if !wide then first s else if addr % 8 = 0 then (first s).readDword (addr + 4) else s.badLength addr

/-- BAR0_BAD_LENGTH_READ (R9, R594). -/
def execBar0BadLengthRead (addr len : Nat) (s : State) : Res :=
  whenLive s <| viaBar0 0 s fun s =>
    .next (if len = 4 ∨ len = 8 then s.readSized addr (decide (len = 8)) fun s => s.readDword addr else s.badLength addr)

/-- BROADCAST_READ (R48, R51, R63). -/
def execBroadcastRead (addr : Nat) (s : State) : Res :=
  whenLive s <| viaBar0 0 s fun s =>
    match windowOf addr with
    | none => .next s
    | some x => .next (s.readWindow x addr)

/-- COUNTER_LO_READ (R9, R40, R53, R55); the aligned 64-bit read takes the high word too. -/
def execCounterLoRead (rd : BarRead) (s : State) : Res :=
  whenLive s <| viaBar0 0 s fun s =>
    match findCtr ctrTable rd.addr with
    | none => .next s
    | some c => .next (s.readSized rd.addr rd.wide fun s => s.readCounterOf c rd.addr)

/-- RC_REGISTER_READ (R9, R11). -/
def execRcRegisterRead (rd : BarRead) (s : State) : Res :=
  whenLive s <| viaBar0 0 s fun s =>
    match findRow regTable rd.addr with
    | none => .next s
    | some (r, is) => .next (s.readSized rd.addr rd.wide fun s => s.readRegister r is rd.addr)

/-- PIPE_COUNTER_READ (R9, R457). -/
def execPipeCounterRead (rd : PipeRead) (s : State) : Res :=
  whenLive s <| viaBar0 0 s fun s =>
    if 8 ≤ rd.slice then .next s else .next (s.readSized (pipePktLo rd.slice) rd.wide fun s => s.readPipe rd.slice)

end Sys2Proof.Machine
end

