-- ==== Sys2Proof/Machine/Stamping.lean ====
section
/-! DEFINITION. Calender passes and measured cable delays (R145 to R163); stamps themselves are computed in Machine/Port.lean
and Machine/Egress.lean, and results apply in Machine/Reams.lean. -/

namespace Sys2Proof.Machine

/-- CALENDER_PASS (R146): a port die starts a pass on its pilot loop, 99 ms or more after it started the one before. -/
def execCalenderPass (die : Nat) (s : State) : Res :=
  whenWorking s <|
    let d := s.die die
    let due := d.passAt.all fun t => decide (t + 99 * msStamp ≤ s.now)
    if 4 ≤ die ∨ !s.tb.running ∨ d.inPass ∨ !due then .next s
    else .next (s.modDie die fun x => { x with inPass := true, passAt := some s.now })

/-- The first failure of a pass as rate and reason (R148); 2 ns are 2,048 units of a delta and 131,072 of the offset. -/
def passFailure (c : CalResult) : Option (Nat × Nat) :=
  let rate := (List.range 5).findSome? fun r =>
    if !c.locks.getD r false then some (r, 1)
    else if 2048 < (c.rx.getD r 0).natAbs then some (r, 2)
    else if 2048 < (c.tx.getD r 0).natAbs then some (r, 3)
    else none
  rate.orElse fun _ => if 131072 < c.ofs.natAbs then some (0xFF, 4) else none

/-- CALENDER_PASS_COMPLETE (R148, R149, R154): an accepted result waits for the first Ream boundary strictly later. -/
def execCalenderPassComplete (die : Nat) (result : CalResult) (s : State) : Res :=
  whenWorking s <|
    let d := s.die die
    if 4 ≤ die ∨ !d.inPass then .next s
    else
      let pilotFail := !((List.range 5).all fun r => result.locks.getD r false)
      match passFailure result with
      | some (rate, reason) =>
        let s := s.modDie die fun x => { x with inPass := false, rejects := x.rejects + 1, pilotFail }
        .next (s.event 0x2010 2 [.q die, .q rate, .q reason])
      | none =>
        .next (s.modDie die fun x => { x with
          inPass := false, pilotFail, doneAt := some s.now
          results := (s.now, { ofs := result.ofs, rx := (List.range 5).map fun r => result.rx.getD r 0,
                               tx := (List.range 5).map fun r => result.tx.getD r 0 }) :: x.results }).checkStale

/-- CAL_STALE (R154). -/
def execCalStale (s : State) : Res := whenWorking s (.next s.checkStale)

/-- CABLE_MEAS_TIMEOUT (R162). -/
def execCableMeasTimeout (port : Nat) (s : State) : Res :=
  whenWorking s <|
    let c := s.stp.cables.getD port CableSt.init
    if c.valid ∧ c.lastAt + 10 * secStamp ≤ s.now then
      .next ((s.setCable port { c with valid := false, pending := none }).event 0x2013 1 [])
    else .next s

end Sys2Proof.Machine
end

