-- ==== Sys2Proof/Machine/Dispatch.lean ====
section
/-! DEFINITION. The one dispatch: each command's arm is one direct call of its meaning. -/

namespace Sys2Proof.Machine

def exec (i : Instr) (s : State) : Host.Outcome State Fault Refusal :=
  match i with
  | .registerWrite addr len data => Sys2Proof.Machine.execRegisterWrite addr len data s
  | .undecodedAccess at_ write => Sys2Proof.Machine.execUndecodedAccess at_ write s
  | .bar0BadLengthRead addr len => Sys2Proof.Machine.execBar0BadLengthRead addr len s
  | .broadcastWrite addr data => Sys2Proof.Machine.execBroadcastWrite addr data s
  | .broadcastRead addr => Sys2Proof.Machine.execBroadcastRead addr s
  | .counterLoRead rd => Sys2Proof.Machine.execCounterLoRead rd s
  | .rcRegisterRead rd => Sys2Proof.Machine.execRcRegisterRead rd s
  | .pipeCounterRead rd => Sys2Proof.Machine.execPipeCounterRead rd s
  | .configCommit r flags => Sys2Proof.Machine.execConfigCommit r flags s
  | .commitUnitsArmed => Sys2Proof.Machine.execCommitUnitsArmed s
  | .commitTimeReached => Sys2Proof.Machine.execCommitTimeReached s
  | .bankDrainComplete slice => Sys2Proof.Machine.execBankDrainComplete slice s
  | .journalWriteComplete ok0 ok1 => Sys2Proof.Machine.execJournalWriteComplete ok0 ok1 s
  | .configStage r kind bufLen image => Sys2Proof.Machine.execConfigStage r kind bufLen image s
  | .configAbort r => Sys2Proof.Machine.execConfigAbort r s
  | .configReadStaged r addr => Sys2Proof.Machine.execConfigReadStaged r addr s
  | .configReadInEffect r addr => Sys2Proof.Machine.execConfigReadInEffect r addr s
  | .configReadBanks r => Sys2Proof.Machine.execConfigReadBanks r s
  | .snapshotCounters r flags bufLen => Sys2Proof.Machine.execSnapshotCounters r flags bufLen s
  | .counterLatch => Sys2Proof.Machine.execCounterLatch s
  | .snapshotBufferWritten => Sys2Proof.Machine.execSnapshotBufferWritten s
  | .portIdleMarker port => Sys2Proof.Machine.execPortIdleMarker port s
  | .ppsInEdge input stamp highNs => Sys2Proof.Machine.execPpsInEdge input stamp highNs s
  | .ppsEdgeTimeout source => Sys2Proof.Machine.execPpsEdgeTimeout source s
  | .todRxMessage msg stopEnd => Sys2Proof.Machine.execTodRxMessage msg stopEnd s
  | .ptpMessage port m => Sys2Proof.Machine.execPtpMessage port m s
  | .ptpSlaveLost leftSlave => Sys2Proof.Machine.execPtpSlaveLost leftSlave s
  | .hostSourceTimeout => Sys2Proof.Machine.execHostSourceTimeout s
  | .revertiveSwitch source => Sys2Proof.Machine.execRevertiveSwitch source s
  | .holdoverExpired => Sys2Proof.Machine.execHoldoverExpired s
  | .frefDisqualified n => Sys2Proof.Machine.execFrefDisqualified n s
  | .frefQualified n => Sys2Proof.Machine.execFrefQualified n s
  | .timeStepAuto => Sys2Proof.Machine.execTimeStepAuto s
  | .timeSetAbsolute r seconds nanoseconds fraction => Sys2Proof.Machine.execTimeSetAbsolute r seconds nanoseconds fraction s
  | .timeSetRelative r delta => Sys2Proof.Machine.execTimeSetRelative r delta s
  | .timeAdjust r mode hint freq phase offset => Sys2Proof.Machine.execTimeAdjust r mode hint freq phase offset s
  | .timeStatus r => Sys2Proof.Machine.execTimeStatus r s
  | .ppsOutRise n => Sys2Proof.Machine.execPpsOutRise n s
  | .ppsOutFall n => Sys2Proof.Machine.execPpsOutFall n s
  | .todTxMessage => Sys2Proof.Machine.execTodTxMessage s
  | .evtInEdge n stamp widthNs falling => Sys2Proof.Machine.execEvtInEdge n stamp widthNs falling s
  | .evtPop n => Sys2Proof.Machine.execEvtPop n s
  | .timeLatch => Sys2Proof.Machine.execTimeLatch s
  | .calenderPass die => Sys2Proof.Machine.execCalenderPass die s
  | .calenderPassComplete die result => Sys2Proof.Machine.execCalenderPassComplete die result s
  | .calStale => Sys2Proof.Machine.execCalStale s
  | .cableMeasTimeout port => Sys2Proof.Machine.execCableMeasTimeout port s
  | .reamBoundary => Sys2Proof.Machine.execReamBoundary s
  | .reamSeal => Sys2Proof.Machine.execReamSeal s
  | .signatureComplete signer ok => Sys2Proof.Machine.execSignatureComplete signer ok s
  | .recordRingWrite set => Sys2Proof.Machine.execRecordRingWrite set s
  | .headerRingWrite set => Sys2Proof.Machine.execHeaderRingWrite set s
  | .ledgerConsumerWrite set header cons => Sys2Proof.Machine.execLedgerConsumerWrite set header cons s
  | .ledgerRingModeration set => Sys2Proof.Machine.execLedgerRingModeration set s
  | .checkpointWrite => Sys2Proof.Machine.execCheckpointWrite s
  | .checkpointProgramComplete ok0 ok1 => Sys2Proof.Machine.execCheckpointProgramComplete ok0 ok1 s
  | .archiveWriteComplete set lba ok => Sys2Proof.Machine.execArchiveWriteComplete set lba ok s
  | .archiveIndexWrite set => Sys2Proof.Machine.execArchiveIndexWrite set s
  | .archiveReconnect set => Sys2Proof.Machine.execArchiveReconnect set s
  | .ledgerEnableSet r a => Sys2Proof.Machine.execLedgerEnableSet r a s
  | .ledgerArchive r a => Sys2Proof.Machine.execLedgerArchive r a s
  | .ledgerDisableSet r set => Sys2Proof.Machine.execLedgerDisableSet r set s
  | .ledgerRotateKey r slot bufLen => Sys2Proof.Machine.execLedgerRotateKey r slot bufLen s
  | .ledgerExportKey r slot keyId bufLen => Sys2Proof.Machine.execLedgerExportKey r slot keyId bufLen s
  | .sm3EngineFault slice engine => Sys2Proof.Machine.execSm3EngineFault slice engine s
  | .builderSideFault side => Sys2Proof.Machine.execBuilderSideFault side s
  | .deckleDescriptorArrival group => Sys2Proof.Machine.execDeckleDescriptorArrival group s
  | .mergeFrontUpdate slice => Sys2Proof.Machine.execMergeFrontUpdate slice s
  | .deckleWindowExpiry group => Sys2Proof.Machine.execDeckleWindowExpiry group s
  | .deckleSideFault side => Sys2Proof.Machine.execDeckleSideFault side s
  | .mergeCreate r a => Sys2Proof.Machine.execMergeCreate r a s
  | .mergeDestroy r group => Sys2Proof.Machine.execMergeDestroy r group s
  | .mergeStage r a => Sys2Proof.Machine.execMergeStage r a s
  | .mergeRedirect r group destKind dest => Sys2Proof.Machine.execMergeRedirect r group destKind dest s
  | .releaseCreate r a => Sys2Proof.Machine.execReleaseCreate r a s
  | .releaseDestroy r group => Sys2Proof.Machine.execReleaseDestroy r group s
  | .releaseStage r a => Sys2Proof.Machine.execReleaseStage r a s
  | .releaseHandoff port => Sys2Proof.Machine.execReleaseHandoff port s
  | .frameReceived port rx => Sys2Proof.Machine.execFrameReceived port rx s
  | .undecodableStart port => Sys2Proof.Machine.execUndecodableStart port s
  | .pauseExpiry port prio => Sys2Proof.Machine.execPauseExpiry port prio s
  | .pauseRefresh port prio => Sys2Proof.Machine.execPauseRefresh port prio s
  | .pfcWatchdogFire port prio => Sys2Proof.Machine.execPfcWatchdogFire port prio s
  | .pfcHoldoffEnd port prio => Sys2Proof.Machine.execPfcHoldoffEnd port prio s
  | .linkUp port anDone ltDone => Sys2Proof.Machine.execLinkUp port anDone ltDone s
  | .linkDown port loss => Sys2Proof.Machine.execLinkDown port loss s
  | .flushOnDownComplete port => Sys2Proof.Machine.execFlushOnDownComplete port s
  | .remoteFault port => Sys2Proof.Machine.execRemoteFault port s
  | .anNoCommonAbility port => Sys2Proof.Machine.execAnNoCommonAbility port s
  | .portRetrain port => Sys2Proof.Machine.execPortRetrain port s
  | .msecSaInstall port an rx place => Sys2Proof.Machine.execMsecSaInstall port an rx place s
  | .msecSaRemove port an rx sc => Sys2Proof.Machine.execMsecSaRemove port an rx sc s
  | .eqAdaptStep lane coef up => Sys2Proof.Machine.execEqAdaptStep lane coef up s
  | .portTransmitStart port tLaunch lane symbol cellError => Sys2Proof.Machine.execPortTransmitStart port tLaunch lane symbol cellError s
  | .gateEntryAdvance port => Sys2Proof.Machine.execGateEntryAdvance port s
  | .gateListTakeover port => Sys2Proof.Machine.execGateListTakeover port s
  | .headboxAdmission port => Sys2Proof.Machine.execHeadboxAdmission port s
  | .injectedFrameAdmission slice => Sys2Proof.Machine.execInjectedFrameAdmission slice s
  | .headboxDeal slice => Sys2Proof.Machine.execHeadboxDeal slice s
  | .parseComplete slice q => Sys2Proof.Machine.execParseComplete slice q s
  | .couchRelease slice q => Sys2Proof.Machine.execCouchRelease slice q s
  | .fragEntryTimeout slice key => Sys2Proof.Machine.execFragEntryTimeout slice key s
  | .orphanHoldExpiry slice q => Sys2Proof.Machine.execOrphanHoldExpiry slice q s
  | .parseLaneFault slice lane => Sys2Proof.Machine.execParseLaneFault slice lane s
  | .pipelinePass slice => Sys2Proof.Machine.execPipelinePass slice s
  | .learnRequestServe slice => Sys2Proof.Machine.execLearnRequestServe slice s
  | .agingVisit slice slot => Sys2Proof.Machine.execAgingVisit slice slot s
  | .tableSearch r a rec => Sys2Proof.Machine.execTableSearch r a rec s
  | .tableNext r a after => Sys2Proof.Machine.execTableNext r a after s
  | .tableInsert r a rec => Sys2Proof.Machine.execTableInsert r a rec s
  | .tableDelete r a rec => Sys2Proof.Machine.execTableDelete r a rec s
  | .tableFlushPort r a => Sys2Proof.Machine.execTableFlushPort r a s
  | .tmAdmission => Sys2Proof.Machine.execTmAdmission s
  | .hostDelivery wq cellError => Sys2Proof.Machine.execHostDelivery wq cellError s
  | .recvWriteback wq idx => Sys2Proof.Machine.execRecvWriteback wq idx s
  | .headBlockWrite wq => Sys2Proof.Machine.execHeadBlockWrite wq s
  | .nrModerationTimer nr => Sys2Proof.Machine.execNrModerationTimer nr s
  | .ipsecOutbound engine => Sys2Proof.Machine.execIpsecOutbound engine s
  | .ipsecInbound engine icvOk => Sys2Proof.Machine.execIpsecInbound engine icvOk s
  | .tlsTx engine => Sys2Proof.Machine.execTlsTx engine s
  | .tlsRx engine tagsOk innerTypes => Sys2Proof.Machine.execTlsRx engine tagsOk innerTypes s
  | .storageSegmentReceived conn seg => Sys2Proof.Machine.execStorageSegmentReceived conn seg s
  | .tcpRtoExpiry conn => Sys2Proof.Machine.execTcpRtoExpiry conn s
  | .engineFault storage engine => Sys2Proof.Machine.execEngineFault storage engine s
  | .contextCreate r bufLen rec => Sys2Proof.Machine.execContextCreate r bufLen rec s
  | .contextDestroy r handle => Sys2Proof.Machine.execContextDestroy r handle s
  | .updateKeyNewKey r handle bufLen tcpSeq key iv => Sys2Proof.Machine.execUpdateKeyNewKey r handle bufLen tcpSeq key iv s
  | .updateKeyResync r handle tcpSeq recordNo => Sys2Proof.Machine.execUpdateKeyResync r handle tcpSeq recordNo s
  | .updateKeyResume r handle => Sys2Proof.Machine.execUpdateKeyResume r handle s
  | .storageConnect r bufLen rec => Sys2Proof.Machine.execStorageConnect r bufLen rec s
  | .connectTimeout conn => Sys2Proof.Machine.execConnectTimeout conn s
  | .storageDisconnect r handle => Sys2Proof.Machine.execStorageDisconnect r handle s
  | .storageDisconnectAbort r handle => Sys2Proof.Machine.execStorageDisconnectAbort r handle s
  | .disconnectTimeout conn => Sys2Proof.Machine.execDisconnectTimeout conn s
  | .stoCmd w a => Sys2Proof.Machine.execStoCmd w a s
  | .hostLinkUp rate width flit => Sys2Proof.Machine.execHostLinkUp rate width flit s
  | .hostLinkDown => Sys2Proof.Machine.execHostLinkDown s
  | .perst => Sys2Proof.Machine.execPerst s
  | .hostLinkError e => Sys2Proof.Machine.execHostLinkError e s
  | .configRequest fn offset write => Sys2Proof.Machine.execConfigRequest fn offset write s
  | .capabilityTableApply => Sys2Proof.Machine.execCapabilityTableApply s
  | .fallbackTableApply => Sys2Proof.Machine.execFallbackTableApply s
  | .vfEnable ari mse => Sys2Proof.Machine.execVfEnable ari mse s
  | .readCompletion tag bytes poisoned => Sys2Proof.Machine.execReadCompletion tag bytes poisoned s
  | .completionTimeout fn tag => Sys2Proof.Machine.execCompletionTimeout fn tag s
  | .tagQuarantineExpiry tag => Sys2Proof.Machine.execTagQuarantineExpiry tag s
  | .atsInvalidate fn page => Sys2Proof.Machine.execAtsInvalidate fn page s
  | .atsTranslationCompletion fn page granted item => Sys2Proof.Machine.execAtsTranslationCompletion fn page granted item s
  | .vfFlr vf => Sys2Proof.Machine.execVfFlr vf s
  | .pfFlr => Sys2Proof.Machine.execPfFlr s
  | .l1Entry => Sys2Proof.Machine.execL1Entry s
  | .l0pWidthChange utilisation => Sys2Proof.Machine.execL0pWidthChange utilisation s
  | .wqDoorbell fn off value covered => Sys2Proof.Machine.execWqDoorbell fn off value covered s
  | .wqInvalidate fn off value => Sys2Proof.Machine.execWqInvalidate fn off value s
  | .nrDoorbell fn off value covered => Sys2Proof.Machine.execNrDoorbell fn off value covered s
  | .nrArm fn off value => Sys2Proof.Machine.execNrArm fn off value s
  | .adminDoorbell fn off value covered => Sys2Proof.Machine.execAdminDoorbell fn off value covered s
  | .adminSetup fn value => Sys2Proof.Machine.execAdminSetup fn value s
  | .adminTeardown fn value => Sys2Proof.Machine.execAdminTeardown fn value s
  | .unknownAdminOpcode r what => Sys2Proof.Machine.execUnknownAdminOpcode r what s
  | .nop r => Sys2Proof.Machine.execNop r s
  | .identify r => Sys2Proof.Machine.execIdentify r s
  | .createWq r a => Sys2Proof.Machine.execCreateWq r a s
  | .destroyWq r index => Sys2Proof.Machine.execDestroyWq r index s
  | .createNr r a => Sys2Proof.Machine.execCreateNr r a s
  | .destroyNr r index => Sys2Proof.Machine.execDestroyNr r index s
  | .modifyWqSetNr r index nr => Sys2Proof.Machine.execModifyWqSetNr r index nr s
  | .modifyWqSuspend r index => Sys2Proof.Machine.execModifyWqSuspend r index s
  | .modifyWqResume r index => Sys2Proof.Machine.execModifyWqResume r index s
  | .vfSetResources r vf vectors maxWq maxNr contexts => Sys2Proof.Machine.execVfSetResources r vf vectors maxWq maxNr contexts s
  | .vfReset r vf => Sys2Proof.Machine.execVfReset r vf s
  | .vfResetComplete vf => Sys2Proof.Machine.execVfResetComplete vf s
  | .workNop e => Sys2Proof.Machine.execWorkNop e s
  | .send w a => Sys2Proof.Machine.execSend w a s
  | .sendComplete w => Sys2Proof.Machine.execSendComplete w s
  | .recv w addr => Sys2Proof.Machine.execRecv w addr s
  | .serviceStateQuery r u => Sys2Proof.Machine.execServiceStateQuery r u s
  | .serviceStateTakeOut r u => Sys2Proof.Machine.execServiceStateTakeOut r u s
  | .serviceStateReturn r u => Sys2Proof.Machine.execServiceStateReturn r u s
  | .unitDrainComplete u => Sys2Proof.Machine.execUnitDrainComplete u s
  | .selfTestComplete u pass => Sys2Proof.Machine.execSelfTestComplete u pass s
  | .unitFenceReached u => Sys2Proof.Machine.execUnitFenceReached u s
  | .flashResyncComplete dev => Sys2Proof.Machine.execFlashResyncComplete dev s
  | .errorDetected e => Sys2Proof.Machine.execErrorDetected e s
  | .errorRecordClose => Sys2Proof.Machine.execErrorRecordClose s
  | .patrolRead t correctable => Sys2Proof.Machine.execPatrolRead t correctable s
  | .eventPersist seq => Sys2Proof.Machine.execEventPersist seq s
  | .eventBucketRefill code => Sys2Proof.Machine.execEventBucketRefill code s
  | .evrSelectOnDie lo => Sys2Proof.Machine.execEvrSelectOnDie lo s
  | .evrSelectRegion lo => Sys2Proof.Machine.execEvrSelectRegion lo s
  | .evrCopyComplete => Sys2Proof.Machine.execEvrCopyComplete s
  | .alertAck => Sys2Proof.Machine.execAlertAck s
  | .eventClear r bufLen token => Sys2Proof.Machine.execEventClear r bufLen token s
  | .telemetryRecord sensors => Sys2Proof.Machine.execTelemetryRecord sensors s
  | .pldmEventRepeat sensor => Sys2Proof.Machine.execPldmEventRepeat sensor s
  | .pldmEventAck sensor => Sys2Proof.Machine.execPldmEventAck sensor s
  | .telSelect lo => Sys2Proof.Machine.execTelSelect lo s
  | .mbxRing agent channel => Sys2Proof.Machine.execMbxRing agent channel s
  | .mbxData15Read agent channel => Sys2Proof.Machine.execMbxData15Read agent channel s
  | .mbxSend channel data => Sys2Proof.Machine.execMbxSend channel data s
  | .mbxDeliverSent channel => Sys2Proof.Machine.execMbxDeliverSent channel s
  | .setEndpointId op eid => Sys2Proof.Machine.execSetEndpointId op eid s
  | .getEndpointId => Sys2Proof.Machine.execGetEndpointId s
  | .getEndpointUuid => Sys2Proof.Machine.execGetEndpointUuid s
  | .getMctpVersionSupport msgType => Sys2Proof.Machine.execGetMctpVersionSupport msgType s
  | .getMessageTypeSupport => Sys2Proof.Machine.execGetMessageTypeSupport s
  | .getVendorDefinedMsgSupport selector => Sys2Proof.Machine.execGetVendorDefinedMsgSupport selector s
  | .getTid => Sys2Proof.Machine.execGetTid s
  | .getPldmVersion pldmType => Sys2Proof.Machine.execGetPldmVersion pldmType s
  | .getPldmTypes => Sys2Proof.Machine.execGetPldmTypes s
  | .getPldmCommands pldmType => Sys2Proof.Machine.execGetPldmCommands pldmType s
  | .getSensorReading sensor => Sys2Proof.Machine.execGetSensorReading sensor s
  | .getStateSensorReadings sensor => Sys2Proof.Machine.execGetStateSensorReadings sensor s
  | .getPdrRepositoryInfo => Sys2Proof.Machine.execGetPdrRepositoryInfo s
  | .getPdr record => Sys2Proof.Machine.execGetPdr record s
  | .setEventReceiver enable eid => Sys2Proof.Machine.execSetEventReceiver enable eid s
  | .getVersion doe => Sys2Proof.Machine.execGetVersion doe s
  | .getCapabilities doe => Sys2Proof.Machine.execGetCapabilities doe s
  | .negotiateAlgorithms doe sm2 sm3 => Sys2Proof.Machine.execNegotiateAlgorithms doe sm2 sm3 s
  | .getDigests doe => Sys2Proof.Machine.execGetDigests doe s
  | .getCertificate doe slot offset length => Sys2Proof.Machine.execGetCertificate doe slot offset length s
  | .challenge doe slot nonce => Sys2Proof.Machine.execChallenge doe slot nonce s
  | .getMeasurements doe signed index nonce => Sys2Proof.Machine.execGetMeasurements doe signed index nonce s
  | .nvmCompact r flags => Sys2Proof.Machine.execNvmCompact r flags s
  | .nvmStatus r => Sys2Proof.Machine.execNvmStatus r s
  | .compactionStart => Sys2Proof.Machine.execCompactionStart s
  | .compactionComplete mergedLen hashOk => Sys2Proof.Machine.execCompactionComplete mergedLen hashOk s
  | .flashOperationFailed dev => Sys2Proof.Machine.execFlashOperationFailed dev s
  | .flashRefresh failing => Sys2Proof.Machine.execFlashRefresh failing s
  | .updateOpen data => Sys2Proof.Machine.execUpdateOpen data s
  | .updateWindowProgram last => Sys2Proof.Machine.execUpdateWindowProgram last s
  | .updateProgramComplete ok => Sys2Proof.Machine.execUpdateProgramComplete ok s
  | .updateClose data fw base => Sys2Proof.Machine.execUpdateClose data fw base s
  | .updateAbort => Sys2Proof.Machine.execUpdateAbort s
  | .powerOnReset pwrOk => Sys2Proof.Machine.execPowerOnReset pwrOk s
  | .pwronResetRelease straps => Sys2Proof.Machine.execPwronResetRelease straps s
  | .oscWaitElapsed => Sys2Proof.Machine.execOscWaitElapsed s
  | .firmwareStart slotA slotB baseA baseB => Sys2Proof.Machine.execFirmwareStart slotA slotB baseA baseB s
  | .storeReplay readable0 readable1 ckptOk0 ckptOk1 keyOk => Sys2Proof.Machine.execStoreReplay readable0 readable1 ckptOk0 ckptOk1 keyOk s
  | .bootServiceReached => Sys2Proof.Machine.execBootServiceReached s
  | .warmResetRequest data => Sys2Proof.Machine.execWarmResetRequest data s
  | .warmReset => Sys2Proof.Machine.execWarmReset s
  | .crystalLost => Sys2Proof.Machine.execCrystalLost s
  | .crystalRestored => Sys2Proof.Machine.execCrystalRestored s
  | .pllLossOfLock island pllB => Sys2Proof.Machine.execPllLossOfLock island pllB s
  | .clockActivityLost island => Sys2Proof.Machine.execClockActivityLost island s
  | .clockSelRequest island pllB => Sys2Proof.Machine.execClockSelRequest island pllB s
  | .clockSwitchComplete island => Sys2Proof.Machine.execClockSwitchComplete island s
  | .switchWatchdog island => Sys2Proof.Machine.execSwitchWatchdog island s
  | .pllRelocked island pllB => Sys2Proof.Machine.execPllRelocked island pllB s
  | .avsAdjust below above ack => Sys2Proof.Machine.execAvsAdjust below above ack s
  | .avsMarginAlarm ack => Sys2Proof.Machine.execAvsMarginAlarm ack s
  | .avsRetry ack => Sys2Proof.Machine.execAvsRetry ack s
  | .thermalThrottle sensor tj => Sys2Proof.Machine.execThermalThrottle sensor tj s
  | .throttleEnd => Sys2Proof.Machine.execThrottleEnd s
  | .thermalTrip sensor tj => Sys2Proof.Machine.execThermalTrip sensor tj s
  | .tapReset => Sys2Proof.Machine.execTapReset s
  | .extest => Sys2Proof.Machine.execExtest s
  | .idcode => Sys2Proof.Machine.execIdcode s
  | .samplePreload => Sys2Proof.Machine.execSamplePreload s
  | .extestPulse => Sys2Proof.Machine.execExtestPulse s
  | .extestTrain => Sys2Proof.Machine.execExtestTrain s
  | .clamp => Sys2Proof.Machine.execClamp s
  | .highz => Sys2Proof.Machine.execHighz s
  | .bypass ir => Sys2Proof.Machine.execBypass ir s
  | .remoteFaultCleared port => Sys2Proof.Machine.execRemoteFaultCleared port s
  | .shaperCreditRestored k => Sys2Proof.Machine.execShaperCreditRestored k s
  | .ptpMessageInterval port kind logInterval => Sys2Proof.Machine.execPtpMessageInterval port kind logInterval s
  | .msixVectorUnmask fn a => Sys2Proof.Machine.execMsixVectorUnmask fn a s

end Sys2Proof.Machine
end

