-- ==== Sys2Proof/Safety.lean ====
section
/-! DEFINITION. What counts as a safe run: the block keeps serving commands, and the parts of its state keep the relations
that the spec's rules rest on. -/

namespace Sys2Proof.Machine

/-- The block is alive: its rules are assured, no power-on reset holds it, it is not in FACTORY_TEST and it has not tripped
(assumption 8). -/
structure Live (s : State) : Prop where
  assured : s.assured = true
  released : s.rst.held = false
  mission : s.mgt.bootSel ≠ 2
  cool : s.pwr.tripped = false

/-- The block serves commands: it is alive, and no FATAL error has stopped it (assumption 8). -/
structure Serving (s : State) : Prop where
  live : Live s
  sound : s.evr.fatal = false

/-- A frame arrives at a port (R23, R137, R139): the port receives, the SFD comes on one of its lanes, at a value that its die's time
copy has read, and, unless a step of the time base came between, after the last frame and the last idle marker. -/
structure Arrives (p : Nat) (rx : RxFrame) (s : State) : Prop where
  serving : Serving s
  receives : s.receives p = true
  first : p ≤ rx.lane
  last : rx.lane < p + s.lanesOf p
  latched : s.latched (dieOf rx.lane) rx.steps rx.tLatch = true
  apart : rx.steps ≠ 0 ∨ s.ldg.idleNext.getD p 0 ≤
    s.ingressStamp (s.reamTaken rx.steps rx.tLatch) (s.rateOf p) rx.lane rx.tLatch rx.bit + 100 * nsStamp

/-- An admin entry can start (R637, R607), with what it reads at hand, its reserved bytes are 0 and the boot has not ended in RECOVERY
(R686). -/
structure AdminStarts (r : AdminRef) (s : State) : Prop where
  serving : Serving s
  ready : s.adminReady r = true
  atHand : r.reading = false
  reserved : r.rsvOk = true
  stage : s.mgt.stage ≠ BootStage.recovery

/-- An admin entry of the PF that can start. -/
structure PfStarts (r : AdminRef) (s : State) : Prop where
  starts : AdminStarts r s
  pf : r.fn = 0

/-- A work entry of a queue of a type can start (R652, R656), with what it reads at hand, and its reserved bytes are 0. -/
structure WorkStarts (kind : Nat) (w : WorkRef) (q : WqSt) (s : State) : Prop where
  serving : Serving s
  ready : s.workReady w = true
  atHand : w.reading = false
  queue : s.qm.wqs.get? w.wq = some q
  type : q.kind = kind
  reserved : w.rsvOk = true

/-- The token under which an admin entry that starts now completes. -/
def State.token (s : State) (r : AdminRef) : AdminTok := (s.adminOpen r).tok r

/-- An admin command that has started on `s` completes on `t`, which holds its effect, with a status and a write-back (R641). -/
def ends (s : State) (r : AdminRef) (t : State) (status : Nat) (wb : List (Nat × Bytes)) : Res :=
  .next (t.adminDone (s.token r) status wb)

/-- The sources of time as their rules now say (R80 to R84): every entry is qualified when its rule is met and not otherwise, and
the active source, where there is one, takes part in selection. -/
structure Settled (s : State) : Prop where
  qualified : ∀ n < 16, (s.src n).qualified = s.srcMeets n
  active : ∀ n, s.tb.active = some n → s.candidate n = true

/-- A step of the time base (R71, R93, R197, R198) from `s` to `t`: it reads a value in units of 2^-32 ns, the Ream in progress ended at
the reading before it, and the next began at the reading after it. -/
structure Stepped (s t : State) (time : Nat) : Prop where
  reads : t.tb.time = time
  counted : t.tb.stepCount = s.tb.stepCount + 1
  steady : t.tb.freq = s.tb.freq ∧ t.tb.slew = 0 ∧ t.tb.phaseLeft = 0 ∧ t.tb.stepWait = none
  ended : ∀ c, s.ldg.cur = some c → ∃ r ∈ t.ldg.ended, r.num = c.num ∧ r.stop = some s.now ∧ r.step = true
  begun : ∀ c, s.ldg.cur = some c → s.reservedOut (c.num + 1) = false →
    ∃ n, t.ldg.cur = some n ∧ n.num = c.num + 1 ∧ n.start = t.now

/-- Commands that reset the whole device (R793). -/
def resets (c : Instr) : Bool :=
  match c with
  | .powerOnReset _ | .warmReset => true
  | _ => false

/-- Commands of the test access port (R820). -/
def ofTap (c : Instr) : Bool :=
  match c with
  | .tapReset | .extest | .extestPulse | .extestTrain | .clamp | .highz | .idcode | .samplePreload | .bypass _ => true
  | _ => false

/-- Commands of the management endpoint: MCTP control, PLDM and SPDM requests, and PLDM events (R724, R725). -/
def ofManagement (c : Instr) : Bool :=
  match c with
  | .setEndpointId .. | .getEndpointId | .getEndpointUuid | .getMctpVersionSupport .. | .getMessageTypeSupport
  | .getVendorDefinedMsgSupport .. | .getTid | .getPldmVersion .. | .getPldmTypes | .getPldmCommands .. | .getSensorReading ..
  | .getStateSensorReadings .. | .getPdrRepositoryInfo | .getPdr .. | .setEventReceiver .. | .pldmEventRepeat ..
  | .pldmEventAck .. | .getVersion .. | .getCapabilities .. | .negotiateAlgorithms .. | .getDigests .. | .getCertificate ..
  | .challenge .. | .getMeasurements .. => true
  | _ => false

/-- The transport of an SPDM request is there: DOE through a PF whose capability table offers it. -/
def State.spdmOpen (s : State) (doe : Bool) : Prop :=
  doe = true → s.evr.fatal = false ∧ s.hif.dlUp = true ∧ s.hif.ready = true ∧ ∃ c, s.hif.caps = some c ∧ c.doe = true

/-- Commands that the device serves in FATAL (R742, R744): reads, resets, clocks, power and thermal limits, test, the host
link, the management paths, and the time base with its sources and outputs. -/
def servedInFatal (c : Instr) : Bool :=
  match c with
  | .undecodedAccess .. | .bar0BadLengthRead .. | .broadcastRead .. | .counterLoRead .. | .rcRegisterRead ..
  | .pipeCounterRead .. | .pllLossOfLock .. | .clockActivityLost .. | .clockSwitchComplete .. | .switchWatchdog ..
  | .pllRelocked .. | .crystalLost | .crystalRestored | .frefQualified .. | .frefDisqualified .. | .avsAdjust ..
  | .avsMarginAlarm .. | .avsRetry .. | .thermalThrottle .. | .throttleEnd | .thermalTrip .. | .tapReset | .extest
  | .extestPulse | .extestTrain | .clamp | .highz | .idcode | .samplePreload | .bypass .. | .hostLinkUp ..
  | .configRequest .. | .msixVectorUnmask .. | .powerOnReset .. | .pwronResetRelease .. | .oscWaitElapsed | .warmResetRequest .. | .warmReset
  | .mbxData15Read .. | .setEndpointId .. | .getEndpointId | .getEndpointUuid | .getMctpVersionSupport ..
  | .getMessageTypeSupport | .getVendorDefinedMsgSupport .. | .getTid | .getPldmVersion .. | .getPldmTypes
  | .getPldmCommands .. | .getSensorReading .. | .getStateSensorReadings .. | .getPdrRepositoryInfo | .getPdr ..
  | .setEventReceiver .. | .pldmEventRepeat .. | .pldmEventAck .. | .getVersion .. | .getCapabilities ..
  | .negotiateAlgorithms .. | .getDigests .. | .getCertificate .. | .challenge .. | .getMeasurements .. | .ppsInEdge ..
  | .ppsEdgeTimeout .. | .todRxMessage .. | .ptpSlaveLost .. | .hostSourceTimeout | .revertiveSwitch .. | .holdoverExpired
  | .ppsOutRise .. | .ppsOutFall .. | .todTxMessage | .evtInEdge .. => true
  | _ => false

/-- FATAL, and no command waits that resets the device. -/
structure FatalHeld (s : State) : Prop where
  fatal : s.evr.fatal = true
  waits : ∀ c ∈ s.pending, resets c = false

/-- The power-on reset with nothing running: no time base, no ledger, no link, no host link; and no release waits. -/
structure Quiet (s : State) : Prop where
  held : s.rst.held = true
  time : s.tb.running = false
  ledger : s.ldg.running = false
  host : s.hif.dlUp = false
  links : ∀ p, (s.port p).link = false
  empty : s.tm.queues = Table.empty
  waits : ∀ c ∈ s.pending, ∀ w, c ≠ .pwronResetRelease w

end Sys2Proof.Machine
end

