-- ==== Sys2Proof/Certificates/Slice0/Obligations.lean ====
section
/-! DEFINITION. The statements for the provers. Where a command takes effect, its statement says which next state `exec` answers
under conditions on the state and the operands alone. -/

open Sys2Proof Sys2Proof.Machine

/-- A step takes the command at the front of the queue and runs it on the state with the queue's rest. On an empty queue a step is one
edge of the time base (the model's choice, assumption 1): the time grows by the increment, four times it while the time/merge island
runs on the safe clock, every die's time copy with it, by the newest increment announced for an instant that has come, else by the
one in effect; nothing happens while the time base does not run, or in FATAL with its cause in the time/merge island. -/
def Obligations.StepTakesFront : Prop :=
  (∀ (c : Instr) (rest : List Instr) (s : State), s.pending = c :: rest → step s = exec c (s.withPending rest)) ∧
  (∀ s : State, s.pending = [] → (s.tb.running = false ∨ s.timeDead = true) → step s = .next s) ∧
  ∀ s : State, s.pending = [] → s.tb.running = true → s.timeDead = false → s.tb.slew = 0 →
    ∃ k i u, k = (if (s.island 13).safe = true then 4 else 1) ∧ step s = .next u ∧
      ((∀ p ∈ s.tb.plan, s.now < p.at_) → i = s.tb.incr ∧ u.tb.plan = s.tb.plan) ∧
      (∀ p, (s.tb.plan.filter fun p => decide (p.at_ ≤ s.now)).getLast? = some p → i = p.incr ∧ ∀ q ∈ u.tb.plan, s.now < q.at_) ∧
      u.tb.time = s.tb.time + k * i ∧ u.tb.incr = i ∧
      u.tb = { s.tb with time := u.tb.time, incr := i, slewNow := u.tb.slewNow, plan := u.tb.plan, covered := u.tb.covered } ∧
      (∀ d < 4, (u.die d).copy = (s.die d).copy + k * i) ∧ u = { s with tb := u.tb, stp := u.stp }

/-- What the reset leaves: nothing waits, every counter 0 and every register cell at its reset value, no commit, epoch 0, no link,
no host link, admin queues FREE, ports and spares OUT_OF_SERVICE, roles 0 to 3 on lanes 0 to 3, the TAP on IDCODE; it is a quiet
power-on reset. -/
def Obligations.ResetState : Prop :=
  State.reset.pending = [] ∧ State.reset.rst.held = true ∧ State.reset.ctr.value = Table.empty ∧
  State.reset.regs.cells = Table.empty ∧ State.reset.coh.epoch = 0 ∧ State.reset.coh.phase = CommitPhase.idle ∧
  (∀ p, (State.reset.port p).link = false) ∧ State.reset.hif.dlUp = false ∧
  (∀ f, (State.reset.fn f).admin.state = QState.free ∧ (State.reset.fn f).gen = 0) ∧
  (∀ p, (State.reset.unit .port 0 p).state = Service.outOfService) ∧
  (∀ n, n < 8 → (State.reset.unit .parseLane n 4).state = Service.outOfService ∧ (State.reset.slice n).roles = [0, 1, 2, 3]) ∧
  (State.reset.unit .cryEngine 0 32).state = Service.outOfService ∧ (State.reset.unit .signer 0 2).state = Service.outOfService ∧
  State.reset.pwr.mv = 800 ∧ State.reset.tap.ir = TapIr.idcode ∧ State.reset.ldg.running = false ∧
  State.reset.tb.running = false ∧ State.reset.tb.incr = 0xA0000000 ∧ Quiet State.reset

/-- A quiet power-on reset stays one with every step, whatever commands come: time base, ledger, links and host link stay
down and no copy is queued until a release comes. -/
def Obligations.QuietKept : Prop := ∀ s t : State, Quiet s → step s = .next t → Quiet t

/-- FATAL stays with every step until a power-on or a warm reset comes. -/
def Obligations.FatalKept : Prop := ∀ s t : State, FatalHeld s → step s = .next t → FatalHeld t

/-- In FATAL a command that the device does not serve there changes nothing. -/
def Obligations.FatalServesOnly : Prop :=
  ∀ (c : Instr) (s : State), Live s → s.evr.fatal = true → servedInFatal c = false → exec c s = .next s

/-- After a thermal trip nothing but a power-on reset, its release and the test access port acts. -/
def Obligations.TripServesNothing : Prop :=
  ∀ (c : Instr) (s : State), s.assured = true → s.mgt.bootSel ≠ 2 → s.rst.held = false → s.pwr.tripped = true →
    ofTap c = false → (∀ b, c ≠ .powerOnReset b) → exec c s = .next s

/-- Once EXTEST, EXTEST_PULSE, EXTEST_TRAIN, CLAMP or HIGHZ has taken effect no rule is assured, and until a power-on reset every
command but that reset and the test access port's stops by name: nothing is said of what the device does. -/
def Obligations.RulesSuspended : Prop :=
  (∀ s : State, ∀ c ∈ [Instr.extest, .extestPulse, .extestTrain, .clamp, .highz], ∃ t, exec c s = .next t ∧ t.assured = false) ∧
  (∀ (c : Instr) (s : State), s.assured = false → ofTap c = false → (∀ b, c ≠ .powerOnReset b) →
    exec c s = .fault .rulesSuspended) ∧
  (∀ (c : Instr) (s t : State), s.assured = false → ofTap c = true → exec c s = .next t → t.assured = false) ∧
  ∀ (s : State) (b : Bool), ∃ t, exec (.powerOnReset b) s = .next t ∧ t.assured = true

/-- An event takes the next sequence number, carries the time, its code and severity, and asserts the alert when its severity
reaches `EVR_ALERT.SEV`; it changes nothing but the recorder, its counters and the alert. -/
def Obligations.EventEntry : Prop :=
  ∀ (s : State) (code sev : Nat) (snap : List Snap), s.evr.stopped = false → s.hasToken code = true →
    ∃ e : EvEntry, (s.event code sev snap).evr.ring = e :: s.evr.ring.filter (fun x => decide (s.evr.nextSeq < x.seq + 8192)) ∧ e.seq = s.evr.nextSeq ∧
      e.stamp = s.now ∧ e.code = code ∧ e.sev = sev ∧ (s.event code sev snap).evr.nextSeq = s.evr.nextSeq + 1 ∧
      (s.fld F.evrAlert_sev ≤ sev → (s.event code sev snap).evr.alert = true) ∧
      s.event code sev snap = { s with
        evr := (s.event code sev snap).evr, ctr := (s.event code sev snap).ctr, out := (s.event code sev snap).out }

/-- A completion of an admin entry: STATUS at byte 2 of its slot, then its write-back in order, each by a write of its
function; the head moves over every completed entry; nothing but the host link, the function and what has left changes. -/
def Obligations.AdminCompletion : Prop :=
  ∀ (s : State) (t : AdminTok) (st : Nat) (wb : List (Nat × Bytes)), (s.fn t.ref.fn).gen = t.gen →
    (s.fn t.ref.fn).admin.setup = t.setup → t.ref.idx ∈ (s.fn t.ref.fn).admin.opened →
    ((s.adminDone t st wb).fn t.ref.fn).admin.head =
        (advanceHead 65 (s.fn t.ref.fn).admin.head (t.ref.idx :: (s.fn t.ref.fn).admin.finished)).1 ∧
      ((s.adminDone t st wb).fn t.ref.fn).admin.opened = (s.fn t.ref.fn).admin.opened.erase t.ref.idx ∧
      s.adminDone t st wb = { s with
        out := (s.adminDone t st wb).out, hif := (s.adminDone t st wb).hif, qm := (s.adminDone t st wb).qm } ∧
      (s.hif.dlUp = true → s.hif.silenced = false → s.mayIssue t.ref.fn = true →
        (s.fn t.ref.fn).idoEnable = false → (s.fn t.ref.fn).atsEnable = false → (s.fn t.ref.fn).tphEnable = false →
        ∃ rest, (s.adminDone t st wb).out = s.out ++ Out.dma t.ref.fn .writeBack
          ((s.fn t.ref.fn).admin.base + t.ref.idx.toNat % 64 * 64 + 2) (le 1 st) (s.fn t.ref.fn).roEnable false false none :: rest)

/-- FRAME_RECEIVED: the frame takes the next number, and the port's last frame ends with it. A whole frame of legal length with a
good FCS, within MAX_FRAME, that is no pause frame, on a port without receive MACsec and with room, waits in the ingress FIFO with its
ingress stamp, its bytes without the FCS and their digest, and its leaf is undecided; the stamp of one that carries a PTP event message
is kept for the PTP instance.
A frame with a length, FCS or link error is queued nowhere; a port that does not receive takes nothing at all;
UNDECODABLE_START is only counted. -/
def Obligations.FrameReceived : Prop :=
  (∀ (s : State) (p : Nat) (rx : RxFrame), Arrives p rx s →
    let T := s.ingressStamp (s.reamTaken rx.steps rx.tLatch) (s.rateOf p) rx.lane rx.tLatch rx.bit
    64 ≤ rx.wire.length → rx.wire.length ≤ s.maxFrameAt p T → rx.fcsOk = true → rx.linkLost = false →
    pauseOpcode (rx.wire.take (rx.wire.length - 4)) = none → s.fldSince (s.liveMarkAt T) (F.portMsecCfg_rxEn p) = 0 →
    (s.port p).fifo.foldl (fun a f => a + f.wireLen) 0 < s.fifoBytes p →
    ∃ (t : State) (f : Frame), exec (.frameReceived p rx) s = .next t ∧ t.nextFrame = s.nextFrame + 1 ∧
      (t.port p).fifo = (s.port p).fifo ++ [f] ∧ f.id = s.nextFrame ∧ f.port = p ∧ f.slice = sliceOf p ∧
      f.stamp = T ∧ f.bytes = rx.wire.take (rx.wire.length - 4) ∧ f.ream = s.reamTaken rx.steps T ∧
      f.digest = sm3 f.bytes ∧ f.wireLen = rx.wire.length ∧
      (t.port p).lastEnd = (if rx.steps = 0 then T else s.now) + bitTime ((rx.wire.length + 1) * 8) (s.speed p) ∧
      t.ldg.undecided.get? f.id = some (f.leaf 0x20 false) ∧ ((s.port p).saOps = [] → t.regs = s.regs) ∧ t.slices = s.slices ∧
      t.tb = { s.tb with ptpRx := if ptpEvent f.bytes = true then s.tb.ptpRx ++ [(p, T)] else s.tb.ptpRx } ∧
      t.tm = s.tm ∧ t.qm = s.qm ∧ t.coh = s.coh ∧ t.out = s.out ∧ t.evr = s.evr ∧ ∀ q, q ≠ p → t.port q = s.port q) ∧
  (∀ (s : State) (p : Nat) (rx : RxFrame), Arrives p rx s →
    (rx.wire.length < 64 ∨ s.maxFrameAt p (s.ingressStamp (s.reamTaken rx.steps rx.tLatch) (s.rateOf p) rx.lane rx.tLatch rx.bit) < rx.wire.length ∨
      rx.fcsOk = false ∨ rx.linkLost = true) →
    ∃ t, exec (.frameReceived p rx) s = .next t ∧ (t.port p).fifo = (s.port p).fifo ∧ t.nextFrame = s.nextFrame + 1 ∧
      t.slices = s.slices ∧ t.tm = s.tm ∧ t.qm = s.qm) ∧
  (∀ (s : State) (p : Nat) (rx : RxFrame), Serving s → s.receives p = false → exec (.frameReceived p rx) s = .next s) ∧
  (∀ (s : State) (p : Nat), Serving s → s.receives p = true →
    exec (.undecodableStart p) s = .next (s.count1 (C.portRxPcsErr p))) ∧
  ∀ (s : State) (p : Nat), Serving s → s.receives p = false → exec (.undecodableStart p) s = .next s

/-- Pauses: one whose time has run out ends; an XOFF that still holds is sent again, and the next repeat is due
a refresh span later; a pause that has
lasted WD_MS is lifted for HOLDOFF_MS, counted and recorded; a hold-off that has run out ends. Before their time none of them
does anything. -/
def Obligations.PauseTimers : Prop :=
  ∀ (s : State) (p k : Nat), Serving s →
    (∀ q, (s.port p).pauses.get? k = some q →
      (q.until_ ≤ s.now → exec (.pauseExpiry p k) s = .next (s.modPort p fun x => { x with pauses := x.pauses.erase k })) ∧
      (s.now < q.until_ → exec (.pauseExpiry p k) s = .next s) ∧
      (s.fld (F.portFcWd_wdMs p) ≠ 0 → q.since + s.fld (F.portFcWd_wdMs p) * msStamp ≤ s.now →
        q.since + s.fld (F.portFcWd_wdMs p) * msStamp ≤ q.until_ →
        ∃ t, exec (.pfcWatchdogFire p k) s = .next t ∧ (t.port p).pauses = (s.port p).pauses.erase k ∧
          (t.port p).holdoffs.get? k = some (s.now + s.fld (F.portFcWd_holdoffMs p) * msStamp) ∧
          t = { s with ports := t.ports, ctr := t.ctr, evr := t.evr, out := t.out }) ∧
      (s.fld (F.portFcWd_wdMs p) = 0 → exec (.pfcWatchdogFire p k) s = .next s)) ∧
    (∀ t0, (s.port p).refresh.get? k = some t0 → t0 ≤ s.now → s.mayXoff p k = true →
      ∃ t, exec (.pauseRefresh p k) s = .next t ∧ (t.port p).refresh.get? k = some (t0 + s.refreshSpan p) ∧
        (t.port p).toSend =
          (s.port p).toSend ++ [(if s.fcMode p = 2 then some k else none, s.fld (F.portFcCfg_quanta p))] ∧
        t = { s with ports := t.ports }) ∧
    (∀ t0, (s.port p).holdoffs.get? k = some t0 → t0 ≤ s.now →
      exec (.pfcHoldoffEnd p k) s =
        .next ((s.modPort p fun x => { x with holdoffs := x.holdoffs.erase k }).event 0x1004 1 []))

/-- LINK_UP raises the link of a configured port that is IN_SERVICE, with negotiation and training done where they are
configured; LINK_DOWN and PORT_RETRAIN take it down; while a configured port negotiates without a common ability the link
stays down; REMOTE_FAULT and its end are kept apart from the link; the flush that a link loss began ends with its event.
PORT_IDLE_MARKER: 100 ns after a port's
last frame, with nothing in its FIFO, its front moves to the present time (never back), and the next marker is due 100 ns later. -/
def Obligations.LinkStates : Prop :=
  (∀ (s : State) (p : Nat), Serving s →
    (∀ an lt, s.configured p = true → s.up .port 0 p = true → (s.port p).link = false →
      (s.fld (F.portMode_an p) = 1 → an = true) → (s.fld (F.portMode_lt p) = 1 → lt = true) →
      ∃ t, exec (.linkUp p an lt) s = .next t ∧ (t.port p).link = true ∧ (t.port p).remoteFault = false ∧
        (t.port p).localFault = false ∧ (t.port p).anDone = an ∧ (t.port p).retrain = false ∧ t.tm = s.tm ∧ t.slices = s.slices ∧
        t.regs = s.regs) ∧
    (∀ locks signal cdr fault, s.configured p = true → (s.port p).link = true →
      ∃ t, exec (.linkDown p ⟨locks, signal, cdr, fault⟩) s = .next t ∧ (t.port p).link = false ∧ (t.port p).localFault = fault ∧
        t.coh = s.coh ∧ t.tb.time = s.tb.time ∧ t.mgt = s.mgt) ∧
    (s.configured p = true → ∃ t, exec (.portRetrain p) s = .next t ∧ (t.port p).link = false ∧ (t.port p).retrain = true ∧
      (t.port p).anDone = false) ∧
    (s.configured p = true → s.up .port 0 p = true → s.fld (F.portMode_an p) = 1 → (s.port p).link = false →
      ∃ t, exec (.anNoCommonAbility p) s = .next t ∧ (t.port p).anDone = false ∧ (t.port p).link = false ∧
        t = { s with ports := t.ports, lanes := t.lanes, ctr := t.ctr, evr := t.evr, out := t.out }) ∧
    ((s.port p).link = true → (s.port p).remoteFault = false →
      exec (.remoteFault p) s = .next ((s.modPort p fun x => { x with remoteFault := true }).event 0x100B 1 [])) ∧
    ((s.port p).remoteFault = true →
      exec (.remoteFaultCleared p) s = .next (s.modPort p fun x => { x with remoteFault := false })) ∧
    ((s.port p).flushing = true → exec (.flushOnDownComplete p) s =
      .next ((s.modPort p fun x => { x with flushing := false, flushCount := 0 }).event 0x6004 1
        [.q p, .q (s.port p).flushCount]))) ∧
  ∀ (s : State) (p : Nat), Serving s → s.configured p = true → s.ldg.idleNext.getD p 0 ≤ s.now → (s.port p).fifo = [] →
    ∃ t, exec (.portIdleMarker p) s = .next t ∧ t.front p = max (s.front p) s.now ∧
      t.ldg.idleNext.getD p 0 = s.now + 100 * nsStamp ∧ (∀ q, q ≠ p → t.front q = s.front q) ∧
      t = { s with ldg := t.ldg, ports := t.ports, regs := t.regs } ∧
      ((s.port p).saOps = [] → t.regs = s.regs ∧ ∀ q, t.port q = s.port q)

/-- A command on an SA waits for its frame boundary: the transmitter's own, or a receiver with its link up. At the boundary
MSEC_SA_INSTALL puts the key that the registers hold, or the firmware's, into the SA it names and clears those registers, and
MSEC_SA_REMOVE removes that SA. While MKA runs on a port the host's commands change nothing but an event, and one that names the
transmit SA in use is refused with ERR and event 0xB020. EQ_ADAPT_STEP moves one coefficient by one step. -/
def Obligations.MacsecAndAdaptation : Prop :=
  ∀ (s : State) (p an sc : Nat) (rx : Bool), Serving s →
    (s.configured p = true → (s.port p).mka = true → exec (.msecSaInstall p an rx ⟨sc, none⟩) s = .next (s.event 0x1008 1 []) ∧
      exec (.msecSaRemove p an rx sc) s = .next (s.event 0x1008 1 [])) ∧
    (s.configured p = true → (s.port p).mka = false → rx = false → an % 4 = s.fld (F.portMsecCfg_encAn p) →
      exec (.msecSaInstall p an rx ⟨sc, none⟩) s =
        .next ((s.modPort p fun x => { x with saErr := true }).noticeAddr (Reg.portMsecSaCmd p)) ∧
      exec (.msecSaRemove p an rx sc) s =
        .next ((s.modPort p fun x => { x with saErr := true }).noticeAddr (Reg.portMsecSaCmd p))) ∧
    (s.configured p = true → (s.port p).mka = false → an < 4 → sc < 8 → (rx = false → an ≠ s.fld (F.portMsecCfg_encAn p)) →
      (s.port p).saOps = [] → (if rx = true then (s.port p).link = false else (s.port p).txUntil ≤ s.now) →
      (∃ (t : State) (a : SaSt), exec (.msecSaInstall p an rx ⟨sc, none⟩) s = .next t ∧
        (if rx = true then (t.port p).rxSas.get? (sc * 4 + an) else (t.port p).txSas.get? an) = some a ∧
        a.key = s.wordsBe (Reg.portMsecKey p 0) (if s.fld (F.portMsecCfg_suite p) % 2 = 0 then 4 else 8) ∧ a.seen = [] ∧
        (t.port p).saOps = [] ∧ t = { s with ports := t.ports, regs := t.regs }) ∧
      ∃ t, exec (.msecSaRemove p an rx sc) s = .next t ∧ t = { s with ports := t.ports } ∧ (t.port p).saOps = [] ∧
        (if rx = true then (t.port p).rxSas = (s.port p).rxSas.erase (sc * 4 + an) else (t.port p).txSas = (s.port p).txSas.erase an)) ∧
    (s.configured p = true → (s.port p).mka = false → (rx = false → an % 4 ≠ s.fld (F.portMsecCfg_encAn p)) →
      (s.port p).saOps = [] → (if rx = true then (s.port p).link = true else s.now < (s.port p).txUntil) →
      (∃ t, exec (.msecSaInstall p an rx ⟨sc, none⟩) s = .next t ∧ t = { s with ports := t.ports } ∧
        (t.port p).saOps = [{ at_ := s.now, an := an % 4, rx, sc, install := true, mka := none }] ∧
        (t.port p).rxSas = (s.port p).rxSas ∧ (t.port p).txSas = (s.port p).txSas) ∧
      ∃ t, exec (.msecSaRemove p an rx sc) s = .next t ∧ t = { s with ports := t.ports } ∧
        (t.port p).saOps = [{ at_ := s.now, an := an % 4, rx, sc, install := false, mka := none }] ∧
        (t.port p).rxSas = (s.port p).rxSas ∧ (t.port p).txSas = (s.port p).txSas) ∧
    (∀ v : MkaSa, s.configured p = true → (s.port p).mka = true → an < 4 → sc < 8 →
      (rx = false → an ≠ s.fld (F.portMsecCfg_encAn p)) →
      (s.port p).saOps = [] → (if rx = true then (s.port p).link = false else (s.port p).txUntil ≤ s.now) →
      ∃ (t : State) (a : SaSt), exec (.msecSaInstall p an rx ⟨sc, (some v)⟩) s = .next t ∧ t = { s with ports := t.ports } ∧
        (if rx = true then (t.port p).rxSas.get? (sc * 4 + an) else (t.port p).txSas.get? an) = some a ∧ a.key = v.key) ∧
    (∀ lane coef up q, s.portOfLane lane = some q → (s.port q).link = true → s.fld (F.portLaneAdapt_freeze lane) = 0 →
      (∀ t0 ∈ (s.lanes.getD lane LaneSt.init).movedAt, t0 + usStamp ≤ s.now) →
      ∃ t, exec (.eqAdaptStep lane coef up) s = .next t ∧ t = { s with lanes := t.lanes } ∧
        (t.lanes.getD lane LaneSt.init).coefs.getD coef 0 =
          (s.lanes.getD lane LaneSt.init).coefs.getD coef 0 + (if up = true then 1 else -1) ∧
        (t.lanes.getD lane LaneSt.init).movedAt = some s.now)

/-- The slice's entry. HEADBOX_ADMISSION moves the oldest frame of a port's FIFO into its slice where R375 admits it and cells are
free, else drops it, with code 0x11 where R375 refuses it and 0x12 where cells are short, and the port's front moves over it; INJECTED_FRAME_ADMISSION stamps the injected frame that waits
longest with the time of its entry and the ledger class of that time, drops it where only cells are short, or leaves it waiting. -/
def Obligations.SliceEntry : Prop :=
  (∀ (s : State) (p : Nat) (f : Frame) (rest : List Frame), Serving s → (s.port p).fifo = f :: rest →
    s.working .slice 0 f.slice = true → s.mrg.stepMark ≤ f.ream →
    (s.admits f.slice f.pos (s.classOf f.slice f.pos f) (cellsOf f.bytes.length) = true →
      cellsOf f.bytes.length ≤ (s.slice f.slice).free →
      ∃ t, exec (.headboxAdmission p) s = .next t ∧ (t.port p).fifo = rest ∧ t.front p = max (s.front p) f.stamp ∧
        (t.slice f.slice).admitted = (s.slice f.slice).admitted ++
          [{ f with admClass := s.classOf f.slice f.pos f, cells := cellsOf f.bytes.length, entered := s.liveMark }] ∧
        (t.slice f.slice).cells.getD (f.pos * 16 + s.classOf f.slice f.pos f) 0 =
          (s.slice f.slice).cells.getD (f.pos * 16 + s.classOf f.slice f.pos f) 0 + cellsOf f.bytes.length ∧
        t = { s with ports := t.ports, slices := t.slices, ldg := t.ldg }) ∧
    (s.admits f.slice f.pos (s.classOf f.slice f.pos f) (cellsOf f.bytes.length) = false →
      ∃ t, exec (.headboxAdmission p) s = .next t ∧ (t.port p).fifo = rest ∧ t.front p = max (s.front p) f.stamp ∧
        t.slices = s.slices ∧ t.tm = s.tm ∧ t.qm = s.qm ∧
        ∀ r, s.openReam f.ream = some r → s.takesLeaf r = true → ∃ r', t.openReam f.ream = some r' ∧
          r'.frames = insertLeaf (f.leaf 0x11 (r.mask.testBit f.d.ledgerClass)) r.frames) ∧
    (s.admits f.slice f.pos (s.classOf f.slice f.pos f) (cellsOf f.bytes.length) = true →
      (s.slice f.slice).free < cellsOf f.bytes.length →
      ∃ t, exec (.headboxAdmission p) s = .next t ∧ (t.port p).fifo = rest ∧ t.front p = max (s.front p) f.stamp ∧
        t.slices = s.slices ∧ t.tm = s.tm ∧ t.qm = s.qm ∧
        ∀ r, s.openReam f.ream = some r → s.takesLeaf r = true → ∃ r', t.openReam f.ream = some r' ∧
          r'.frames = insertLeaf (f.leaf 0x12 (r.mask.testBit f.d.ledgerClass)) r.frames)) ∧
  ∀ (s : State) (n : Nat) (f : Frame) (rest : List Frame), Serving s → (s.slice n).injWait = f :: rest →
    s.working .slice 0 n = true →
    (s.admits n injPos f.admClass (cellsOf f.bytes.length) = true → cellsOf f.bytes.length ≤ (s.slice n).free →
      ∃ t g, exec (.injectedFrameAdmission n) s = .next t ∧ (t.slice n).injWait = rest ∧
        (t.slice n).injected = (s.slice n).injected ++ [g] ∧ g = { f with
          stamp := s.now, epoch := s.epochAt s.now, bank := s.bankAt s.now, ream := s.reamOf s.now,
          leafLen := f.bytes.length, digest := sm3 f.bytes, cells := cellsOf f.bytes.length, entered := s.liveMark,
          d := { f.d with
            ledgerClass := s.fld F.ldgInjClass_class
            rel := f.d.rel.map fun r => (r.1, fullStamp (shortStamp r.2) s.now) } } ∧
        t.ldg.undecided.get? f.id = some (g.leaf 0x20 false) ∧ t = { s with slices := t.slices, ldg := t.ldg }) ∧
    (s.admits n injPos f.admClass (cellsOf f.bytes.length) = true → (s.slice n).free < cellsOf f.bytes.length →
      ∃ t, exec (.injectedFrameAdmission n) s = .next t ∧ (t.slice n).injWait = rest ∧
        (t.slice n).injected = (s.slice n).injected ∧ t.tm = s.tm ∧ t.ports = s.ports) ∧
    (s.admits n injPos f.admClass (cellsOf f.bytes.length) = false → exec (.injectedFrameAdmission n) s = .next s)

/-- HEADBOX_DEAL: one slot deals one frame with the slice's next sequence number to the lane that R380 gives, recirculated frames
first, then injected frames within the share that held as they entered, else the oldest admitted one, whose epoch and bank its stamp decides. -/
def Obligations.DealOrder : Prop :=
  ∀ (s : State) (n : Nat), Serving s → (s.slice n).couch.length < 512 → (s.slice n).active ≠ 0 →
    (∀ f r, (s.slice n).recirc = f :: r →
      ∃ t, exec (.headboxDeal n) s = .next t ∧ (t.slice n).recirc = r ∧ (t.slice n).seq = (s.slice n).seq + 1 ∧
        (t.slice n).couch = (s.slice n).couch ++ [{
          q := (s.slice n).seq, stream := 13,
          lane := (s.slice n).laneFor (s.slice n).seq, frame := f, parsed := none }] ∧
        t = { s with slices := t.slices }) ∧
    (∀ f r, (s.slice n).recirc = [] → (s.slice n).injected = f :: r → (s.slice n).slot ≠ 0 →
      (s.slice n).injTaken < s.fldSince f.entered (F.hbxCtrl_injMax n) →
      ((s.slice n).injTaken < s.fldSince f.entered (F.hbxCtrl_injMin n) ∨ (s.slice n).admitted = []) →
      ∃ t, exec (.headboxDeal n) s = .next t ∧ (t.slice n).injected = r ∧ (t.slice n).seq = (s.slice n).seq + 1 ∧
        (t.slice n).injTaken = (s.slice n).injTaken + 1 ∧
        (t.slice n).couch = (s.slice n).couch ++ [{
          q := (s.slice n).seq, stream := injPos,
          lane := (s.slice n).laneFor (s.slice n).seq,
          frame := { f with sseq := (s.slice n).seq, epoch := s.epochAt f.stamp, bank := s.bankAt f.stamp }, parsed := none }] ∧
        t = { s with slices := t.slices, ldg := t.ldg }) ∧
    (∀ g r, (s.slice n).recirc = [] → (s.slice n).injected = [] → (s.slice n).admitted = g :: r →
      ∃ t, exec (.headboxDeal n) s = .next t ∧ (t.slice n).admitted = r ∧ (t.slice n).seq = (s.slice n).seq + 1 ∧
        (t.slice n).couch = (s.slice n).couch ++ [{
          q := (s.slice n).seq, stream := g.pos,
          lane := (s.slice n).laneFor (s.slice n).seq,
          frame := { g with sseq := (s.slice n).seq, epoch := s.epochAt g.stamp, bank := s.bankAt g.stamp }, parsed := none }] ∧
        t = { s with slices := t.slices, ldg := t.ldg })

/-- PARSE_COMPLETE hands the lane's result to the Couch; COUCH_RELEASE lets the first frame of its stream, once parsed, go on to
the pipeline when it has no fragmented header and its bank drops none of its codes; FRAG_ENTRY_TIMEOUT deletes an entry only once
the time base has passed its latest fragment by TIMEOUT_US; ORPHAN_HOLD_EXPIRY drops a held orphan only at its hold time. -/
def Obligations.ParseAndCouch : Prop :=
  ∀ (s : State) (n q : Nat), Serving s →
    (∃ t, exec (.parseComplete n q) s = .next t ∧ t = { s with slices := t.slices } ∧
      (t.slice n).couch.map (·.q) = (s.slice n).couch.map (·.q) ∧
      (∀ c ∈ (s.slice n).couch, c.q % 2 ^ 32 = q % 2 ^ 32 → c.parsed = none →
        { c with parsed := some (parse (s.parseCfg n c.frame) c.frame.bytes) } ∈ (t.slice n).couch) ∧
      ∀ c ∈ (s.slice n).couch, c.q % 2 ^ 32 ≠ q % 2 ^ 32 → c ∈ (t.slice n).couch) ∧
    (∀ c p b, (s.slice n).couch.find? (fun x => decide (x.q % 2 ^ 32 = q % 2 ^ 32)) = some c → c.parsed = some p →
      (∀ d ∈ (s.slice n).couch, d.stream = c.stream → c.q ≤ d.q) → p.frag = none → s.bank c.frame.bank = some b →
      (∀ x ∈ p.codes, x ∉ b.drops) → (s.slice n).rejoin = Table.empty →
      ∃ t y, exec (.couchRelease n q) s = .next t ∧ (t.slice n).couch = (s.slice n).couch.filter (·.q ≠ c.q) ∧
        (t.slice n).pipe = (s.slice n).pipe ++ [y] ∧ y.frame.bytes = c.frame.bytes ∧ y.frame.id = c.frame.id ∧ y.parsed = p ∧
        y.follower = false ∧ t = { s with slices := t.slices, ctr := t.ctr }) ∧
    (∀ key e, (s.slice n).frags.find? (fun (x : FragEntry) => decide (x.key = key ∧ x.gone = none)) = some e →
      (s.now ≤ e.latest + s.fld (F.hbxFragCfg_timeoutUs n) * usStamp → exec (.fragEntryTimeout n key) s = .next s) ∧
      (e.latest + s.fld (F.hbxFragCfg_timeoutUs n) * usStamp < s.now →
        ∃ t, exec (.fragEntryTimeout n key) s = .next t ∧
          (∀ x ∈ (t.slice n).frags, x.key = key → x.gone = some s.now) ∧
          (∀ x ∈ (s.slice n).frags, x.key ≠ key → x.gone = none → x ∈ (t.slice n).frags) ∧
          t = { s with slices := t.slices, ctr := t.ctr })) ∧
    (∀ c, (s.slice n).orphans.find? (fun x => decide (x.q % 2 ^ 32 = q % 2 ^ 32)) = some c →
      (s.now < c.frame.stamp + s.fldAt c.frame.stamp (F.hbxFragCfg_holdUs n) * usStamp →
        exec (.orphanHoldExpiry n q) s = .next s) ∧
      (c.frame.stamp + s.fldAt c.frame.stamp (F.hbxFragCfg_holdUs n) * usStamp ≤ s.now → c.frame.slice = n →
        ∃ t, exec (.orphanHoldExpiry n q) s = .next t ∧
          (t.slice n).orphans = (s.slice n).orphans.filter (fun x => decide (x.q ≠ c.q)) ∧
          t.ldg.undecided = s.ldg.undecided.erase c.frame.id ∧ t.tm = s.tm ∧ t.ports = s.ports ∧ t.coh = s.coh))

/-- PARSE_LANE_FAULT: the faulted lane leaves service for FAULT, the spare takes its role and enters service, and every frame dealt
to the old lane is dealt to the new one again with its original sequence, to be parsed again. -/
def Obligations.LaneRelief : Prop :=
  ∀ (s : State) (n l g : Nat), Serving s → n < 8 → l < 5 → (s.unit .parseLane n l).state = Service.inService →
    s.spareLane n = some g → g ≠ l → l ∈ (s.slice n).roles → (s.slice n).rejoin = Table.empty →
    s.recordOpen (.parseLane, n, l) = false → s.evr.records.length < 64 → (s.unit .parseLane n l).token = none →
    ∃ t, exec (.parseLaneFault n l) s = .next t ∧ (t.unit .parseLane n l).state = Service.outOfService ∧
      (t.unit .parseLane n l).reason = 2 ∧ (t.unit .parseLane n g).state = Service.inService ∧
      (t.slice n).roles = (s.slice n).roles.map (fun x => if x = l then g else x) ∧
      (t.slice n).couch = (s.slice n).couch.map (fun (c : CouchSt) => if c.lane = l then { c with lane := g, parsed := none } else c) ∧
      t.evr.records.length = s.evr.records.length + 1 ∧ t.ports = s.ports ∧ t.tm = s.tm ∧ t.qm = s.qm ∧ t.coh = s.coh ∧
      t.ldg = s.ldg

/-- PIPELINE_PASS takes the frame that waits longest. Without a rule bank it is dropped, DROP_POLICY; a bank whose stages name no
destination drops it too and counts it; in either case no copy is made, and ports, queues, time base and epoch stand. -/
def Obligations.PassTakesOldest : Prop :=
  ∀ (s : State) (n : Nat) (x : PipeFrame) (rest : List PipeFrame), Serving s → (s.slice n).pipe = x :: rest →
    (∃ t, exec (.pipelinePass n) s = .next t ∧ (t.slice n).pipe = rest ∧ t.ports = s.ports ∧ t.tb = s.tb ∧ t.coh = s.coh ∧
      t.eng = s.eng ∧ t.hif = s.hif ∧ t.tm.queues = s.tm.queues) ∧
    (s.bank x.frame.bank = none ∨ (∃ b, s.bank x.frame.bank = some b ∧ b.stages = [] ∧ x.frame.d.dest = none ∧
        x.frame.d.punt = none ∧ x.frame.d.mirrors = [] ∧ x.frame.d.drop = false ∧ x.frame.d.recirc = false ∧
        x.frame.d.decrypt = none ∧ x.frame.d.rewrites = [] ∧ x.frame.d.decap = none ∧ x.frame.d.encap = none) →
      ∃ t, exec (.pipelinePass n) s = .next t ∧ t.tm = s.tm ∧ t.flow = s.flow ∧
        ∀ r, s.openReam x.frame.ream = some r → s.takesLeaf r = true → ∃ r' l, t.openReam x.frame.ream = some r' ∧ l.disp = 0x10 ∧
          l.digest = x.frame.digest ∧ l.stamp = x.frame.stamp ∧ r'.frames = insertLeaf l r.frames)

/-- LEARN_REQUEST_SERVE takes the oldest learn request: an unknown address goes into a free candidate slot with the slice's learn
action as it stood then, where a lookup then finds it, and with no chain of at most eight relocations it goes nowhere; AGING_VISIT makes an entry not
used since the previous pass stale, removes one that was stale, and leaves a static one; an entry that a lookup of the same clock hit
is as the first of them found it, and once removed it is learned again from the port of the frame that hit it. -/
def Obligations.LearningAndAging : Prop :=
  (∀ (s : State) (n : Nat) (q : LearnReq) (rest : List LearnReq), Serving s → (s.tabs n).learnQ = q :: rest →
    (fdbOps n).find (s.tabs n).fdb (q.bd, q.mac) = none →
    (∀ i, ((fdbOps n).slots (q.bd, q.mac)).find? (fun i => !(s.tabs n).fdb.has i) = some i →
      ∃ t, exec (.learnRequestServe n) s = .next t ∧ (t.tabs n).learnQ = rest ∧
        (t.tabs n).fdb.get? i = some {
          bd := q.bd, mac := q.mac, static := false, stale := false, dest := q.port,
          action := s.fldSince q.mark (F.fdbLearnAction_index n), rseq := ((s.tabs n).rseq + 1) % 2 ^ 32, pass := (s.tabs n).pass } ∧
        (fdbOps n).find (t.tabs n).fdb (q.bd, q.mac) = some i ∧
        (∀ j, j ≠ i → (t.tabs n).fdb.get? j = (s.tabs n).fdb.get? j) ∧ (t.tabs n).log = (s.tabs n).log ∧
        t = { s with flow := t.flow, ctr := t.ctr }) ∧
    ((∀ e : FdbEntry, e.bd = q.bd → e.mac = q.mac → (fdbOps n).insert (s.fdb n) e = none) →
      ∃ t, exec (.learnRequestServe n) s = .next t ∧ (t.tabs n).learnQ = rest ∧ (t.tabs n).fdb = (s.tabs n).fdb ∧
        t = { s with flow := t.flow, ctr := t.ctr, evr := t.evr, out := t.out })) ∧
  ∀ (s : State) (n slot : Nat), Serving s →
    ((s.tabs n).visitPass (s.fld (F.fdbAgeCfg_scanS n)) slot s.now = none → exec (.agingVisit n slot) s = .next s) ∧
    ∀ pass at0 e, (s.tabs n).visitPass (s.fld (F.fdbAgeCfg_scanS n)) slot s.now = some (pass, at0) →
      (s.tabs n).fdb.get? slot = some e → e.pass ≠ pass →
      (s.hitsNow n e = [] → ∃ t, exec (.agingVisit n slot) s = .next t ∧ t = { s with flow := t.flow, ctr := t.ctr } ∧
        (t.tabs n) = { s.tabs n with
          pass := pass, passAt := at0, nextSlot := slot + 1,
          fdb := if e.static = true then (s.tabs n).fdb.set slot { e with pass := pass }
            else if e.stale = true then (s.tabs n).fdb.filter (fun _ x => !decide (x.bd = e.bd ∧ x.mac = e.mac))
            else (s.tabs n).fdb.set slot { e with pass := pass, stale := true } }) ∧
      ∀ h rest, s.hitsNow n e = h :: rest → e.static = false →
        ∃ t, exec (.agingVisit n slot) s = .next t ∧ t = { s with flow := t.flow, ctr := t.ctr, evr := t.evr, out := t.out } ∧
          (h.stale = false → (t.tabs n).fdb = (s.tabs n).fdb.set slot { e with pass := pass, stale := true }) ∧
          (h.stale = true → (t.tabs n).fdb = (s.tabs n).fdb.filter (fun _ x => !decide (x.bd = e.bd ∧ x.mac = e.mac)) ∧
            ∀ p, h.port = some p → s.fld (F.fdbCtrl_learnEn n) = 1 → noStation e.mac = false →
              (s.tabs n).learnQ.length < 1024 →
              ∃ q ∈ (t.tabs n).learnQ, q.bd = e.bd ∧ q.mac = e.mac ∧ q.port = p ∧ q.stamp = h.stamp)

/-- The FDB through the table commands, in one slice: TABLE_INSERT of a key the slice holds succeeds only with REPLACE, keeping its slot,
and of a new key makes at most eight relocations; TABLE_DELETE removes the key; TABLE_SEARCH answers its record; a key that is not
there is NOT_FOUND; TABLE_FLUSH_PORT removes exactly the port's entries of the kind asked for and answers how many. -/
def Obligations.FdbCommands : Prop :=
  ∀ (s : State) (r : AdminRef) (a : TableArgs) (rec : Bytes) (bd mac dest action : Nat) (static : Bool),
    PfStarts r s → tableArgsOk a = true → a.table = 0 → a.slice < 8 →
    (32 ≤ a.bufLen → readRecord 0 rec = some (.fdb bd mac static dest action) →
      (∀ i e, (fdbOps a.slice).find (s.tabs a.slice).fdb (bd, mac) = some i → (s.tabs a.slice).fdb.get? i = some e →
        (a.flags.testBit 0 = false →
          exec (.tableInsert r a rec) s =
            ends s r (s.adminOpen r) stExists (tableWb 0 0 (2 ^ a.slice))) ∧
        (a.flags.testBit 0 = true →
          exec (.tableInsert r a rec) s =
            ends s r ((s.adminOpen r).modTabs a.slice fun t => { t with
              fdb := t.fdb.set i { e with static := static, dest := dest, action := action } }) stSuccess (tableWb 1 0 0)) ∧
        (∃ u, exec (.tableDelete r a rec) s = ends s r u stSuccess (tableWb 1 0 0) ∧
          (u.tabs a.slice).fdb = (s.tabs a.slice).fdb.filter (fun _ x => !decide (x.bd = bd ∧ x.mac = mac)) ∧
          u = { s.adminOpen r with flow := u.flow, ctr := u.ctr, evr := u.evr, out := u.out }) ∧
        exec (.tableSearch r a rec) s =
          ends s r ((s.adminOpen r).dma r.fn .writeBack r.buf (fdbBytes i e)) stSuccess [(40, le 4 1)]) ∧
      ((fdbOps a.slice).find (s.tabs a.slice).fdb (bd, mac) = none →
        exec (.tableDelete r a rec) s =
          ends s r (s.adminOpen r) stNotFound (tableWb 0 0 (2 ^ a.slice)) ∧
        exec (.tableSearch r a rec) s = ends s r (s.adminOpen r) stNotFound [(45, le 1 (2 ^ a.slice))] ∧
        ∀ c moved, (fdbOps a.slice).insert (s.fdb a.slice)
            {
              bd := bd, mac := mac, static := static, stale := false, dest := dest, action := action, rseq := 0,
              pass := (s.tabs a.slice).pass } = some (c, moved) →
          moved ≤ 8 ∧ exec (.tableInsert r a rec) s =
            ends s r ((s.adminOpen r).setFdb a.slice c moved) stSuccess (tableWb 1 moved 0))) ∧
    (a.port < 96 →
      ∃ u, exec (.tableFlushPort r a) s = ends s r u stSuccess
          (tableWb ((s.tabs a.slice).fdb.size - (u.tabs a.slice).fdb.size) 0 0) ∧
        (u.tabs a.slice).fdb = (s.tabs a.slice).fdb.filter (fun _ e => !(decide (e.dest = a.port) &&
          (!a.flags.testBit 5 || decide (e.bd = a.bd)) &&
          (decide (a.flags / 8 % 4 = 2) || decide (a.flags / 8 % 4 = b2n e.static)))) ∧
        u = { s.adminOpen r with flow := u.flow, ctr := u.ctr, evr := u.evr, out := u.out })

/-- Table commands whose fields are out of range, their record's or their entry's, are INVALID_FIELD and change nothing; a route or ternary row is inserted once; a
TABLE_NEXT walk of the ternary rows answers them in row order from POS on and says when it is done. -/
def Obligations.RouteAndRowCommands : Prop :=
  ∀ (s : State) (r : AdminRef) (a : TableArgs), PfStarts r s →
    (∀ rec, (readRecord a.table rec = none ∨ a.bufLen < recordSize a.table) →
      exec (.tableInsert r a rec) s = ends s r (s.adminOpen r) stInvalidField [] ∧
      exec (.tableDelete r a rec) s = ends s r (s.adminOpen r) stInvalidField [] ∧
      exec (.tableSearch r a rec) s = ends s r (s.adminOpen r) stInvalidField []) ∧
    (tableArgsOk a = false → ∀ rec after, exec (.tableInsert r a rec) s = ends s r (s.adminOpen r) stInvalidField [] ∧
      exec (.tableDelete r a rec) s = ends s r (s.adminOpen r) stInvalidField [] ∧
      exec (.tableSearch r a rec) s = ends s r (s.adminOpen r) stInvalidField [] ∧
      exec (.tableNext r a after) s = ends s r (s.adminOpen r) stInvalidField [] ∧
      exec (.tableFlushPort r a) s = ends s r (s.adminOpen r) stInvalidField []) ∧
    (tableArgsOk a = true → a.slice < 8 → 176 ≤ a.bufLen →
      (∀ rec vrf len pfx action, a.table = 2 → readRecord 2 rec = some (.lpm false vrf len pfx action) →
        (s.tabs a.slice).lpm4.length < 524288 →
        (∀ x ∈ (s.tabs a.slice).lpm4, ¬(x.vrf = vrf ∧ x.len = len ∧ x.pfx = pfx)) →
        exec (.tableInsert r a rec) s = ends s r ((s.adminOpen r).modTabs a.slice fun t =>
          { t with lpm4 := t.lpm4 ++ [{ vrf := vrf, pfx := pfx, len := len, action := action }] }) stSuccess (tableWb 1 0 0)) ∧
      (∀ rec row banks action value mask g, a.table = 4 → readRecord 4 rec = some (.tern row banks action value mask) →
        s.regionOf a.slice row = some g →
        (s.fld (F.fdbTcamRegion_kind a.slice g) = 1 →
          exec (.tableInsert r a rec) s =
            ends s r (s.adminOpen r) stNotPermitted (tableWb 0 0 (2 ^ a.slice))) ∧
        (s.fld (F.fdbTcamRegion_kind a.slice g) ≠ 1 → (s.tabs a.slice).tern.has row = false →
          exec (.tableInsert r a rec) s = ends s r ((s.adminOpen r).modTabs a.slice fun t =>
            { t with tern := t.tern.set row { banks := banks, action := action, value := value, mask := mask } })
            stSuccess (tableWb 1 0 0)))) ∧
    (tableArgsOk a = true → a.table = 4 → a.slice < 8 → 1 ≤ a.maxRecords → a.maxRecords ≤ 64 →
      a.maxRecords * 176 ≤ a.bufLen → ∀ after,
      ((s.tabs a.slice).tern.entries.filter (fun e => decide (a.pos ≤ e.1))).length ≤ a.maxRecords →
      exec (.tableNext r a after) s = ends s r ((s.adminOpen r).dma r.fn .writeBack r.buf
          (((s.tabs a.slice).tern.entries.filter (fun e => decide (a.pos ≤ e.1))).flatMap fun e =>
            ternBytes e.1 ((s.regionOf a.slice e.1).getD 0) e.2)) stSuccess
        (walkWb ((s.tabs a.slice).tern.entries.filter (fun e => decide (a.pos ≤ e.1))).length 32768 0 true))

/-- GATE_ENTRY_ADVANCE does nothing while gates are not in use or the running entry has not ended; else it puts the entry in effect
that the cycle has come to, no longer than to the begin B of a list that waits, and past B of a list that waits it holds the last
entry until its S. GATE_LIST_TAKEOVER does nothing before S, and at S puts the list and its registers in effect, with event 0x8003.
SHAPER_CREDIT_RESTORED gives the transmit shaper of a VF whose credit was below 0 its grown credit once that is 0 or more, and leaves a
class shaper of a port that holds credit as it is. -/
def Obligations.GatesAndShapers : Prop :=
  ∀ (s : State) (p : Nat), Serving s →
    ((s.tmPort p).oper.enable = false → exec (.gateEntryAdvance p) s = .next s) ∧
    (s.now < (s.tmPort p).entryEnd → exec (.gateEntryAdvance p) s = .next s) ∧
    ((s.tmPort p).oper.enable = true → (s.tmPort p).entryEnd ≤ s.now →
      ((s.tmPort p).plans = [] → ∃ t, exec (.gateEntryAdvance p) s = .next t ∧ t = { s with tm := t.tm } ∧
        t.tm = { s.tm with ports := t.tm.ports } ∧ t.tmPort p = { s.tmPort p with
          entry := (entryAt 0 ((s.tmPort p).oper.into s.now) (s.tmPort p).oper.segs).1,
          entryEnd := s.now + (entryAt 0 ((s.tmPort p).oper.into s.now) (s.tmPort p).oper.segs).2 }) ∧
      (∀ g r, (s.tmPort p).plans = g :: r →
        (s.now < g.begin_ → ∃ t, exec (.gateEntryAdvance p) s = .next t ∧ t = { s with tm := t.tm } ∧
          t.tmPort p = { s.tmPort p with
            entry := (entryAt 0 ((s.tmPort p).oper.into s.now) (s.tmPort p).oper.segs).1,
            entryEnd := min g.begin_ (s.now + (entryAt 0 ((s.tmPort p).oper.into s.now) (s.tmPort p).oper.segs).2) }) ∧
        (g.begin_ ≤ s.now → ∃ t, exec (.gateEntryAdvance p) s = .next t ∧ t = { s with tm := t.tm } ∧
          t.tmPort p = { s.tmPort p with entry := (s.tmPort p).oper.entries.length - 1, entryEnd := g.start }))) ∧
    ((s.tmPort p).plans = [] → exec (.gateListTakeover p) s = .next s) ∧
    (∀ g r, (s.tmPort p).plans = g :: r →
      (s.now < g.start → exec (.gateListTakeover p) s = .next s) ∧
      (g.start ≤ s.now → ∃ t u : State, exec (.gateListTakeover p) s = .next t ∧ (t.tmPort p).oper = g.list ∧ (t.tmPort p).plans = r ∧
        (t.tmPort p).deficits = (s.tmPort p).deficits ∧ t.tm.queues = s.tm.queues ∧
        t = u.event 0x8003 1 [.q p, .q (lo32 (shortStamp g.start)), .q (hi32 (shortStamp g.start))] ∧
        u = { s with regs := (s.applyWords .ream g.words).regs, tm := u.tm })) ∧
    (∀ v, (s.tm.vfTx.getD v ShaperSt.init).credit < 0 → (s.vfTxRate v).1 ≠ 0 →
      0 ≤ (s.tm.vfTx.getD v ShaperSt.init).grown (s.vfTxRate v).1 (s.vfTxRate v).2 s.now →
      ∃ t, exec (.shaperCreditRestored (.vfTx v)) s = .next t ∧ (t.tm.vfTx.getD v ShaperSt.init).at_ = s.now ∧
        (t.tm.vfTx.getD v ShaperSt.init).credit =
          (s.tm.vfTx.getD v ShaperSt.init).grown (s.vfTxRate v).1 (s.vfTxRate v).2 s.now ∧
        t = { s with tm := { s.tm with vfTx := t.tm.vfTx } }) ∧
    (∀ c, 0 ≤ ((s.tmPort p).shapers.getD c ShaperSt.init).credit →
      exec (.shaperCreditRestored (.cls p c)) s = .next s)

/-- TM_ADMISSION: while the ledger refuses, a recorded frame is dropped as LEDGER_FULL; otherwise a frame for one egress port that
takes it, within the port's frame size and R507, waits at the end of its class queue. Its leaf says so (0x17 or FORWARDED 0x01)
where its Ream still takes leaves. -/
def Obligations.AdmissionToPort : Prop :=
  ∀ (s : State) (x : PipeFrame) (rest : List PipeFrame), Serving s → s.tm.input = x :: rest →
    (s.ldg.refusing = true → s.isRecorded x.frame.ream x.frame.d.ledgerClass = true →
      ∃ t, exec .tmAdmission s = .next t ∧ t.tm = { s.tm with input := rest } ∧
        ∀ r, s.openReam x.frame.ream = some r → s.takesLeaf r = true → ∃ r', t.openReam x.frame.ream = some r' ∧
          r'.frames = insertLeaf (x.frame.leaf 0x17 (r.mask.testBit x.frame.d.ledgerClass)) r.frames) ∧
    (s.ldg.refusing = false → ∀ p, x.frame.d.named = [0] → x.frame.d.dest = some (.port p) → x.frame.d.rel = none →
      x.frame.d.decrypt = none → x.frame.d.encrypt = none → x.frame.d.queueClass < 16 → s.configured p = true →
      s.portTakes p = true → s.tm.frames.get? x.frame.id = none → s.copiesOf x.frame.id = [] →
      s.tooLong p x.frame.bytes.length = false →
      s.tmAdmits (qPort p x.frame.d.queueClass) x.frame.d.queueClass (cellsOf x.frame.bytes.length) true = true →
      cellsOf x.frame.bytes.length ≤ s.freeCells →
      ∃ t c, exec .tmAdmission s = .next t ∧ t.tm.input = rest ∧
        t.queue (qPort p x.frame.d.queueClass) = s.queue (qPort p x.frame.d.queueClass) ++ [c] ∧ c.frame = x.frame.id ∧
        c.port = p ∧ c.cls = x.frame.d.queueClass ∧ c.len = x.frame.bytes.length ∧ c.mirror = false ∧
        (∀ q, q ≠ qPort p x.frame.d.queueClass → t.queue q = s.queue q) ∧
        ∀ r, s.openReam x.frame.ream = some r → s.takesLeaf r = true → ∃ r', t.openReam x.frame.ream = some r' ∧
          r'.frames = insertLeaf (x.frame.leaf 0x01 (r.mask.testBit x.frame.d.ledgerClass)) r.frames)

/-- RELEASE_HANDOFF leaves a copy in holding before its hand-off time, discards it when its port takes none, and hands it to the
port at its time when it is on an aligned member of its group as it was then, not late, in no paused class, and its slot is free. -/
def Obligations.HandOffAtItsTime : Prop :=
  ∀ (s : State) (p : Nat) (c : Copy), Serving s → s.firstHeld p = some c →
    (s.now < s.handoffAt c → exec (.releaseHandoff p) s = .next s) ∧
    (s.handoffAt c ≤ s.now → s.portTakes p = false → exec (.releaseHandoff p) s = .next (s.dropAtPort c)) ∧
    (s.handoffAt c ≤ s.now → s.portTakes p = true → c.late = false → s.classPaused p c.cls = false →
      (∀ x ∈ s.slotsOf p, ¬(x.relTime = c.relTime ∧ x.id < c.id)) → (s.relGroup (s.groupOf c)).alive = true →
      (s.relGroup (s.groupOf c)).gen = c.relGen →
      s.rel.member.get? p = some (s.groupOf c) → s.rel.align.getD p 0 = 1 → c.queue = qRelease → s.tm.queues.wf = true →
      ∃ t, exec (.releaseHandoff p) s = .next t ∧ t = { s with tm := t.tm } ∧
        t.queue (qHanded p) = s.queue (qHanded p) ++ [{ c with queue := qHanded p, aligned := true, handed := s.liveMark }] ∧
        t.queue qRelease = (s.queue qRelease).filter (·.id ≠ c.id))

/-- PORT_TRANSMIT_START: nothing starts on a port that takes none, in remote fault or busy; with no SA command waiting, a pause
frame that is due starts first; else, with no release copy handed off and no gates in use, the head of the lowest eligible strict
class leaves without MACsec, behind preamble and SFD, padded to 60 bytes and with its FCS, with the egress stamp of its launch, which a
PTP message of the device carries or leaves to the exchange. -/
def Obligations.TransmitStart : Prop :=
  ∀ (s : State) (p lane symbol : Nat) (tl : Stamp), Serving s →
    ((s.portTakes p = false ∨ (s.port p).remoteFault = true ∨ s.now < (s.port p).txUntil) →
      ∀ ce, exec (.portTransmitStart p tl lane symbol ce) s = .next s) ∧
    (s.configured p = true → s.portTakes p = true → (s.port p).remoteFault = false → (s.port p).txUntil ≤ s.now →
      p ≤ lane → lane < p + s.lanesOf p → s.launchable (dieOf lane) (s.rateOf p) tl = true → (s.port p).saOps = [] →
      (∀ x, s.pauseDue p = some x → ∀ ce, exec (.portTransmitStart p tl lane symbol ce) s = .next (s.startPause p x)) ∧
      (∀ egress c x rest f, egress = s.egressStamp (s.rateOf p) lane tl symbol →
        s.pauseDue p = none → s.queue (qHanded p) = [] → (s.tmPort p).oper.enable = false →
        (s.tmPort p).plans = [] → (List.range 4).find? (fun c => s.eligible p c egress) = some c →
        s.queue (qPort p c) = x :: rest → x.port = p → x.queue = qPort p c → s.tm.frames.get? x.frame = some f →
        s.fld (F.portMsecCfg_txEn p) = 0 →
        ∀ b, b = (match x.ptp f.frame with | some m => s.ptpStamped m (x.bytes f.frame) egress | none => x.bytes f.frame) →
        ∃ t, exec (.portTransmitStart p tl lane symbol false) s = .next t ∧
          t.out = s.out ++ [.frame p egress (preamble ++ (b ++ zeros (60 - b.length) ++ fcs (b ++ zeros (60 - b.length))))] ∧
          (t.port p).txCopy = some (f.frame, x.mirror) ∧ t.regs = s.regs ∧ t.coh = s.coh ∧ t.eng = s.eng ∧ t.evr = s.evr ∧
          (x.ptp f.frame = none → t.slices = s.slices ∧ t.tb = s.tb) ∧
          ∀ m, x.ptp f.frame = some m →
            (m.kind = .delayReq → (t.tb.ptp.getD m.port PtpSt.init).t3 = egress) ∧
            (m.kind = .pdelayReq → (t.tb.ptp.getD m.port PtpSt.init).pdT1 = egress) ∧
            (m.kind = .sync → m.oneStep = false → ∃ y ∈ (t.slice (sliceOf m.port)).injWait,
              y.origin = .ptp { m with kind := .followUp, at_ := egress })))

/-- HOST_DELIVERY: only the work queue whose turn it is delivers, and only while frames may use the link; then a copy that one posted
buffer holds is written there, page by page, the buffer is used, and its RECV entry waits for the frame's leaf index. -/
def Obligations.HostDelivery : Prop :=
  ∀ (s : State) (wq : Nat), Serving s →
    ((s.hostTurn ≠ some wq ∨ s.frameMay = false) → ∀ ce, exec (.hostDelivery wq ce) s = .next s) ∧
    ∀ q c rest i addr more x, s.hostTurn = some wq → s.frameMay = true → s.qm.wqs.get? wq = some q → s.queue (qHost wq) = c :: rest →
      c.queue = qHost wq → s.tm.frames.get? c.frame = some x → s.staleItem x.frame = none → c.len ≤ q.bufSize →
      q.posted = (i, addr) :: more → s.hif.silenced = false → s.hif.dlUp = true → s.mayIssue q.fn = true →
      ∃ t e ro ido tag, ∃ tr : Nat → Bool, exec (.hostDelivery wq false) s = .next t ∧
        t.out = s.out ++ (pageParts ((x.frame.bytes.take c.len).length / 4096 + 1) addr (x.frame.bytes.take c.len)).map
          (fun d => .dma q.fn .frameData d.1 d.2 ro ido (tr d.1) tag) ∧
        t.qm.wqs.get? wq = some { q with posted := more } ∧ t.qm.recvs = s.qm.recvs ++ [e] ∧ e.wq = wq ∧ e.idx = i ∧
        e.len = (x.frame.bytes.take c.len).length ∧ e.more = false ∧ e.leaf.frame = x.frame.id ∧
        t.slices = s.slices ∧ t.coh = s.coh ∧ t.eng = s.eng ∧ t.evr = s.evr

/-- The Deckle keeps key order: an arriving descriptor of a live group takes its place among those held while the head still lags within
its window, and leaves at once, taking the next sequence number and no other's place, in bypass or with a key before the last one
emitted; a group's one held descriptor that lags stays while its window runs, and is emitted, with the lagging port named, once it has
run out; merge fronts never move back and take what their slice has; a side that fails while both are in service gives way to the other,
with every held descriptor kept. -/
def Obligations.DeckleOrder : Prop :=
  ∀ (s : State) (g : Nat), Serving s →
    (∀ d rest, s.mrg.onWay = (g, d) :: rest → (s.merge g).alive = true →
      (s.mrg.bypass = false → s.mrg.stepMark ≤ d.ream → (∀ k ∈ (s.merge g).lastKey, keyLt (s.keyed g d).key k = false) →
        (∀ h ∈ (insertDesc (s.keyed g d) (s.merge g).held).head?, (s.lagging g h).isSome = true ∧
          (s.now : Int) < h.c + ((s.merge g).cfgAt h.ream).1 * nsStamp) →
        ∃ t, exec (.deckleDescriptorArrival g) s = .next t ∧ t.mrg.onWay = rest ∧
          (t.merge g) = { s.merge g with held := insertDesc (s.keyed g d) (s.merge g).held } ∧
          t = { s with mrg := t.mrg, ctr := t.ctr }) ∧
      ((s.mrg.bypass = true ∨ ∃ k ∈ (s.merge g).lastKey, keyLt (s.keyed g d).key k = true) →
        ∃ t, exec (.deckleDescriptorArrival g) s = .next t ∧ t.mrg.onWay = rest ∧
          (t.merge g) = { s.merge g with seq := (s.merge g).seq + 1, lastKey := s.lastAfter (s.merge g) (s.keyed g d) })) ∧
    (∀ h p, (s.merge g).held = [h] → s.lagging g h = some p →
      ((s.now : Int) < h.c + ((s.merge g).cfgAt h.ream).1 * nsStamp → exec (.deckleWindowExpiry g) s = .next s) ∧
      (h.c + ((s.merge g).cfgAt h.ream).1 * nsStamp ≤ (s.now : Int) →
        ∃ t, exec (.deckleWindowExpiry g) s = .next t ∧ (t.merge g) = { s.merge g with
          held := [], seq := (s.merge g).seq + 1, lastKey := s.lastAfter (s.merge g) h, lagPort := some p })) ∧
    (∀ slice, ∃ t, exec (.mergeFrontUpdate slice) s = .next t ∧
      (∀ p f, s.mrg.fronts.get? p = some f → f ≤ t.mrg.fronts.getD p 0) ∧
      (∀ p, sliceOf p ≠ slice → t.mrg.fronts.get? p = s.mrg.fronts.get? p) ∧
      ∀ p, s.configured p = true → sliceOf p = slice → s.freshFront p ≤ t.mrg.fronts.getD p 0) ∧
    (∀ side, side < 2 → s.up .deckleSide 0 0 = true → s.up .deckleSide 0 1 = true →
      s.recordOpen (.deckleSide, 0, side) = false → s.evr.records.length < 64 →
      (s.unit .deckleSide 0 side).token = none →
      ∃ t, exec (.deckleSideFault side) s = .next t ∧ (t.unit .deckleSide 0 side).state = Service.outOfService ∧
        t.mrg = { s.mrg with activeB := decide (side = 0), bypass := false } ∧
        t.tm = s.tm ∧ t.ldg = s.ldg ∧ t.qm = s.qm)

/-- The group commands with fields in range: CREATE, DESTROY and REDIRECT of a group that is there or not as they need wait for a Ream
boundary at least 2 µs away, changing nothing of the group; otherwise they end EXISTS or NOT_FOUND; STAGE of a group that is there
writes staged values only and answers APPLY_REAM 0, and STAGE of a release group that is not there ends NOT_FOUND. -/
def Obligations.GroupCommands : Prop :=
  ∀ (s : State) (r : AdminRef), PfStarts r s →
    (∀ a : MergeArgs, a.group < 16 →
      (s.mergeFieldsOk a = true → destOk a.destKind a.dest = true →
        (groupLive s.mrg.waits a.group (s.merge a.group).alive = true →
          exec (.mergeCreate r a) s = ends s r (s.adminOpen r) stExists []) ∧
        (groupLive s.mrg.waits a.group (s.merge a.group).alive = false →
          exec (.mergeCreate r a) s = .next { s.adminOpen r with mrg := { s.mrg with waits := s.mrg.waits ++ [{
            token := s.token r, op := .create, merge := some a, release := none, group := a.group,
            at_ := s.now + 2 * usStamp, applied := false, applyReam := 0 }] } })) ∧
      (groupLive s.mrg.waits a.group (s.merge a.group).alive = false →
        exec (.mergeDestroy r a.group) s = ends s r (s.adminOpen r) stNotFound [] ∧
        (destOk a.destKind a.dest = true →
          exec (.mergeRedirect r a.group a.destKind a.dest) s = ends s r (s.adminOpen r) stNotFound [])) ∧
      (groupLive s.mrg.waits a.group (s.merge a.group).alive = true →
        (∃ w : GroupWait, exec (.mergeDestroy r a.group) s =
            .next { s.adminOpen r with mrg := { s.mrg with waits := s.mrg.waits ++ [w] } } ∧ w.op = .destroy ∧
          w.group = a.group ∧ w.token = s.token r ∧ w.at_ = s.now + 2 * usStamp) ∧
        (destOk a.destKind a.dest = true → ∃ (w : GroupWait) (b : MergeArgs), exec (.mergeRedirect r a.group a.destKind a.dest) s =
            .next { s.adminOpen r with mrg := { s.mrg with waits := s.mrg.waits ++ [w] } } ∧ w.op = .redirect ∧
          w.group = a.group ∧ w.merge = some b ∧ b.destKind = a.destKind ∧ b.dest = a.dest ∧ w.at_ = s.now + 2 * usStamp) ∧
        (s.mergeFieldsOk a = true → ∃ u : State, exec (.mergeStage r a) s = ends s r u stSuccess [(48, le 8 0)] ∧
          u = { s.adminOpen r with regs := { s.regs with shadow := u.regs.shadow } } ∧
          u.regs.shadow.get? (Reg.mrgWindow a.group) = some (BitVec.ofNat 32 a.windowNs) ∧
          u.regs.shadow.get? (Reg.mrgMaxHeld a.group) = some (BitVec.ofNat 32 a.maxHeld)))) ∧
    (∀ a : ReleaseArgs, s.releaseFieldsOk a = true →
      (groupLive s.rel.waits a.group (s.relGroup a.group).alive = false →
        exec (.releaseDestroy r a.group) s = ends s r (s.adminOpen r) stNotFound [] ∧
        exec (.releaseStage r a) s = ends s r (s.adminOpen r) stNotFound [] ∧
        (a.speed ≤ 7 → a.fec ≤ 2 → ∃ w : GroupWait, exec (.releaseCreate r a) s =
            .next { s.adminOpen r with rel := { s.rel with waits := s.rel.waits ++ [w] } } ∧ w.op = .create ∧
          w.release = some a ∧ w.token = s.token r ∧ w.at_ = s.now + 2 * usStamp)) ∧
      (groupLive s.rel.waits a.group (s.relGroup a.group).alive = true →
        (a.speed ≤ 7 → a.fec ≤ 2 → exec (.releaseCreate r a) s = ends s r (s.adminOpen r) stExists []) ∧
        (∃ w : GroupWait, exec (.releaseDestroy r a.group) s =
            .next { s.adminOpen r with rel := { s.rel with waits := s.rel.waits ++ [w] } } ∧ w.op = .destroy ∧
          w.group = a.group ∧ w.token = s.token r ∧ w.at_ = s.now + 2 * usStamp) ∧
        ∃ u : State, exec (.releaseStage r a) s = ends s r u stSuccess [(48, le 8 0)] ∧
          u = { s.adminOpen r with regs := { s.regs with shadow := u.regs.shadow } } ∧
          u.regs.shadow.get? (Reg.relHorizon a.group) = some (BitVec.ofNat 32 a.horizonUs)))

/-- An engine works on the item at the head of its input queue, under the item's context, while no context is going.
IPSEC_OUTBOUND hands a frame that does not become too long back for admission and takes the next sequence number, and drops one that
would, its context kept; IPSEC_INBOUND drops a replay and a frame whose ICV is wrong, counting each in the context, and hands a verified
frame back for another pass with its window moved; TLS_TX drops a payload that is not whole records, and hands whole records at the
expected sequence back for admission; TLS_RX passes frames of a context that is not ACTIVE unmodified, and hands a frame at the expected
sequence, or at the one that a new state of the context waits for, back marked as handled. -/
def Obligations.CryptoItems : Prop :=
  ∀ (s : State) (e : Nat) (c : Copy) (x : TmFrame) (h : Nat) (ts : List Nat) (k : Ctx), Serving s →
    s.engineHead e = some (c, x, h) → x.frame.crypto = some (h, ts) → s.heldCtx h ts = some k →
    (∀ y ∈ s.eng.ctxs.entries, y.2.dying = false) → s.tm.queues.wf = true →
    (k.info.type = 2 → (∀ iv ident nh, iv.length = 8 →
        (espOut (s.parseCfg x.frame.slice x.frame) k iv ident nh x.frame.bytes).1.length ≤ maxEdited) →
      ∃ t y k', exec (.ipsecOutbound ⟨e, false⟩) s = .next t ∧ t.tm.input = s.tm.input ++ [y] ∧ y.frame.id = x.frame.id ∧
        y.frame.crypted = true ∧ y.frame.d.encrypt = none ∧ t.queue c.queue = (s.queue c.queue).filter (·.id ≠ c.id) ∧
        t.eng.ctxs.get? (handleIndex h) = some k' ∧ k'.seq = k.seq + 1 ∧ k'.packets = k.packets + 1 ∧ k'.key = k.key ∧
        (2 ^ (if k.esn = true then 64 else 32) ≤ k.seq + 1 → k'.state = CtxState.expired)) ∧
    (k.info.type = 2 → (∀ iv ident nh, iv.length = 8 →
        maxEdited < (espOut (s.parseCfg x.frame.slice x.frame) k iv ident nh x.frame.bytes).1.length) →
      ∃ t, exec (.ipsecOutbound ⟨e, false⟩) s = .next t ∧ t.tm.input = s.tm.input ∧ t.eng.ctxs = s.eng.ctxs ∧
        t.queue c.queue = (s.queue c.queue).filter (·.id ≠ c.id)) ∧
    (k.info.type = 1 → ∀ ok p seq, espAt (parse (s.parseCfg x.frame.slice x.frame) x.frame.bytes) = some p →
      seq = k.espSeq (num x.frame.bytes (p.1.start + 4) 4) →
      (k.fresh? seq = false →
        ∃ t, exec (.ipsecInbound ⟨e, false⟩ ok) s = .next t ∧
          t.eng.ctxs.get? (handleIndex h) = some { k with replayDrop := k.replayDrop + 1 } ∧ t.tm.input = s.tm.input ∧
          (∀ n, (t.slice n).recirc = (s.slice n).recirc) ∧
          t.queue c.queue = (s.queue c.queue).filter (·.id ≠ c.id)) ∧
      (k.fresh? seq = true → ok = false →
        ∃ t, exec (.ipsecInbound ⟨e, false⟩ ok) s = .next t ∧
          t.eng.ctxs.get? (handleIndex h) = some { k with authFail := k.authFail + 1 } ∧ t.tm.input = s.tm.input ∧
          ∀ n, (t.slice n).recirc = (s.slice n).recirc) ∧
      (k.fresh? seq = true → ok = true → ∀ plain, k.espOpen x.frame.bytes p seq = some plain →
        ∃ t g k', exec (.ipsecInbound ⟨e, false⟩ ok) s = .next t ∧
          (t.slice x.frame.slice).recirc = (s.slice x.frame.slice).recirc ++ [g] ∧ g.id = x.frame.id ∧
          g.pass = x.frame.pass + 1 ∧ g.d.decrypt = none ∧ g.bytes = k.espIn x.frame.bytes p (etherEnd (s.parseCfg x.frame.slice x.frame) x.frame.bytes) plain ∧
          t.eng.ctxs.get? (handleIndex h) = some k' ∧ k'.high = max k.high seq ∧ k'.packets = k.packets + 1 ∧
          k'.replayDrop = k.replayDrop ∧ k'.authFail = k.authFail)) ∧
    (k.info.type = 3 → ∀ seq at0 payload,
      tcpPart (s.parseCfg x.frame.slice x.frame) x.frame.bytes = some (seq, at0, payload) →
      (tlsRecords payload.length payload = none →
        ∃ t, exec (.tlsTx ⟨e, false⟩) s = .next t ∧ t.eng.ctxs = s.eng.ctxs ∧ t.tm.input = s.tm.input ∧
          t.queue c.queue = (s.queue c.queue).filter (·.id ≠ c.id)) ∧
      (∀ r rs, tlsRecords payload.length payload = some (r :: rs) → seq = k.tcpSeq →
        ∃ t y k', exec (.tlsTx ⟨e, false⟩) s = .next t ∧ t.tm.input = s.tm.input ++ [y] ∧ y.frame.id = x.frame.id ∧
          y.frame.crypted = true ∧ t.eng.ctxs.get? (handleIndex h) = some k' ∧
          k'.recordNo = k.recordNo + (r :: rs).length ∧ k'.tcpSeq = (seq + payload.length) % 2 ^ 32 ∧
          k'.packets = k.packets + 1)) ∧
    (k.info.type = 4 → ∀ oks types, (∀ seq at0 payload,
      tcpPart (s.parseCfg x.frame.slice x.frame) x.frame.bytes = some (seq, at0, payload) →
        (k.takeUp seq payload.length).1.state ≠ CtxState.active) →
      ∃ t g, exec (.tlsRx ⟨e, false⟩ oks types) s = .next t ∧ t.eng.ctxs = s.eng.ctxs ∧
        (t.slice x.frame.slice).recirc = (s.slice x.frame.slice).recirc ++ [g] ∧ g.bytes = x.frame.bytes ∧
        g.pass = x.frame.pass + 1) ∧
    (k.info.type = 4 → ∀ oks types seq at0 payload,
      tcpPart (s.parseCfg x.frame.slice x.frame) x.frame.bytes = some (seq, at0, payload) →
      ((k.next = none ∧ k.state = CtxState.active ∧ seq = k.tcpSeq) ∨
        (k.state ≠ CtxState.expired ∧ ∃ n, k.next = some n ∧ seq = n.seq) ∨
        ((k.takeUp seq payload.length).1.state = CtxState.active ∧
          ((k.takeUp seq payload.length).1.tcpSeq + 2 ^ 32 - seq) % 2 ^ 32 = (k.takeUp seq payload.length).2)) →
      ∃ t g, exec (.tlsRx ⟨e, false⟩ oks types) s = .next t ∧
        (t.slice x.frame.slice).recirc = (s.slice x.frame.slice).recirc ++ [g] ∧ g.id = x.frame.id ∧
        g.pass = x.frame.pass + 1 ∧ g.engFlags.testBit 2 = true)

/-- CONTEXT_CREATE gives an index that no context or connection has, with its current tag; CONTEXT_DESTROY of a context that no item
holds frees it, and its handle names nothing any more; the three forms of UPDATE_KEY set what R578 and R579 give them, on
a TLS_TX context at once and on a TLS_RX context as what its first frame takes up; only the owner
of a TLS context may do so. -/
def Obligations.ContextCommands : Prop :=
  ∀ (s : State) (r : AdminRef), AdminStarts r s →
    (∀ bufLen rec,
      ((bufLen < 128 ∨ ctxRecOk rec = false) → exec (.contextCreate r bufLen rec) s = ends s r (s.adminOpen r) stInvalidField []) ∧
      (128 ≤ bufLen → ctxRecOk rec = true → s.ctxRoom r.fn = false →
        exec (.contextCreate r bufLen rec) s = ends s r (s.adminOpen r) stNoResource []) ∧
      (128 ≤ bufLen → ctxRecOk rec = true → s.ctxRoom r.fn = true →
        ∃ i u, exec (.contextCreate r bufLen rec) s = ends s r u stSuccess [(24, le 4 (s.handleOf i)), (28, le 1 (i % 32))] ∧
          i < 524288 ∧ s.eng.ctxs.get? i = none ∧ s.eng.conns.get? i = none ∧
          u.eng.ctxs.get? i = some (newCtx r.fn (s.fn r.fn).gen rec) ∧
          (∀ j, j ≠ i → u.eng.ctxs.get? j = s.eng.ctxs.get? j) ∧
          u = { s.adminOpen r with eng := { s.eng with ctxs := u.eng.ctxs }, free := s.free + 1 })) ∧
    (∀ h, s.ownerOf h = none → exec (.contextDestroy r h) s = ends s r (s.adminOpen r) stNotFound []) ∧
    (∀ h o, s.ownerOf h = some o → o ≠ r.fn → exec (.contextDestroy r h) s = ends s r (s.adminOpen r) stNotPermitted []) ∧
    (∀ h k, s.ownerOf h = some r.fn → s.eng.ctxs.get? (handleIndex h) = some k → s.eng.ctxs.wf = true →
      (∀ y ∈ s.eng.ctxs.entries, y.2.dying = false) →
      (s.ctxBusy (handleIndex h) = false →
        ∃ t, exec (.contextDestroy r h) s = .next t ∧ t.eng.ctxs = s.eng.ctxs.erase (handleIndex h) ∧
          t.handleOf (handleIndex h) ≠ h ∧ t.tm = s.tm ∧ t.slices = s.slices) ∧
      (s.ctxBusy (handleIndex h) = true →
        ∃ t, exec (.contextDestroy r h) s = .next t ∧
          t.eng.ctxs.get? (handleIndex h) = some { k with dying := true, token := some (s.token r) } ∧ t.tm = s.tm)) ∧
    (∀ h k, s.ownerOf h = some r.fn → s.eng.ctxs.get? (handleIndex h) = some k →
      (∀ bufLen seq key iv, (bufLen < 48 ∨ k.info.type < 3) →
        exec (.updateKeyNewKey r h bufLen seq key iv) s = ends s r (s.adminOpen r) stInvalidField []) ∧
      (3 ≤ k.info.type →
        (∀ bufLen seq key iv, 48 ≤ bufLen → ∃ k', exec (.updateKeyNewKey r h bufLen seq key iv) s =
            ends s r ((s.adminOpen r).setCtx (handleIndex h) k') stSuccess
              [(40, le 4 (if k.info.type = 3 then seq else k.tcpSeq))] ∧
          (k.info.type = 3 → k'.key = key ∧ k'.iv = iv ∧ k'.recordNo = 0 ∧ k'.tcpSeq = seq ∧ k'.state = k.state ∧ k'.info = k.info ∧
            ∀ e ∈ k'.map, e ∈ k.map) ∧
          (k.info.type = 4 → k' = { k with next := some ⟨k.tcpSeq, 0, key, iv, false⟩ })) ∧
        (∀ seq n, ∃ k', exec (.updateKeyResync r h seq n) s =
            ends s r ((s.adminOpen r).setCtx (handleIndex h) k') stSuccess [(40, le 4 seq)] ∧
          (k.info.type = 3 → k'.key = k.key ∧ k'.iv = k.iv ∧ k'.recordNo = n ∧ k'.tcpSeq = seq ∧ k'.state = k.state ∧
            k'.info = k.info ∧ ∀ e ∈ k'.map, e ∈ k.map) ∧
          (k.info.type = 4 → k' = { k with next := some ⟨seq, n, k.key, k.iv, false⟩ })) ∧
        (k.info.type = 4 → exec (.updateKeyResume r h) s = ends s r ((s.adminOpen r).setCtx (handleIndex h)
          { k with next := some ⟨k.tcpSeq, k.recordNo, k.key, k.iv, true⟩ }) stSuccess [(40, le 4 k.tcpSeq)])))

/-- ENGINE_FAULT: a crypto or storage engine in service whose record is not open leaves for FAULT; the spare enters service and has
every role of it, and no other role changes hands; no item is lost: each
waits for the engine that has its role. -/
def Obligations.EngineRelief : Prop :=
  ∀ (s : State) (sto : Bool) (k : UnitKind) (e g : Nat), Serving s → k = (if sto = true then UnitKind.stoEngine else .cryEngine) →
    e < kindUnits k → (s.unit k 0 e).state = Service.inService → (s.unit k 0 e).token = none → s.spareEngine k = some g →
    (∃ r, r < (if sto = true then 16 else 32) ∧ roleEngine (if sto = true then s.eng.stoRoles else s.eng.cryRoles) r = e) →
    s.recordOpen (k, 0, e) = false → s.evr.records.length < 64 →
    ∃ t, exec (.engineFault sto e) s = .next t ∧ (t.unit k 0 e).state = Service.outOfService ∧ (t.unit k 0 e).reason = 2 ∧
      (t.unit k 0 g).state = Service.inService ∧
      (∀ r, r < (if sto = true then 16 else 32) →
        roleEngine (if sto = true then t.eng.stoRoles else t.eng.cryRoles) r =
          (let o := roleEngine (if sto = true then s.eng.stoRoles else s.eng.cryRoles) r; if o = e then g else o)) ∧
      t.tm = { s.tm with queues := t.tm.queues } ∧ (sto = true → t.tm = s.tm) ∧
      (sto = false → s.tm.queues.wf = true → (∀ i < 35, ∀ c ∈ s.queue (qCrypto i), c.queue = qCrypto i) →
        (s.cryptoItems.map (·.id)).Nodup → ∀ c ∈ s.cryptoItems,
          { c with queue := engineQueue (t.itemEngine c) } ∈ t.queue (engineQueue (t.itemEngine c))) ∧
      t.eng.ctxs = s.eng.ctxs ∧ t.eng.conns = s.eng.conns ∧ t.qm = s.qm

/-- Storage connections. STORAGE_CONNECT of a record in range, with a work queue of the function and room for it, sends a SYN from an
unused index; a segment that brings read data waits while the link goes to others; a plain segment without an acknowledgement moves the
receive sequence and is acknowledged when it holds data; a command answered with success leaves the connection and completes its entry;
a reset fails a connection; a retransmission timeout sends the oldest segment again with the timeout doubled, and the eighth in a row
fails the connection; a connect that got no SYN-ACK for 3 s fails. While no engine holds the connection's role it does nothing. -/
def Obligations.ConnectionLife : Prop :=
  (∀ (s : State) (r : AdminRef) (bufLen : Nat) (rec : ConnRec), AdminStarts r s →
    (bufLen < 1152 → exec (.storageConnect r bufLen rec) s = ends s r (s.adminOpen r) stInvalidField []) ∧
    ∀ q, 1152 ≤ bufLen → s.connRecOk rec = true → rec.wq ≠ 0xFFFFFFFF → s.qm.wqs.get? rec.wq = some q → q.fn = r.fn →
      q.kind = 2 → flowOps.find s.flow.flow (15, flowKeyNum (connKey rec)) = none →
      (∀ e, flowOps.key e = (15, flowKeyNum (connKey rec)) → (flowOps.insert s.flowTab e).isSome = true) →
      s.ctxRoom r.fn = true → s.eng.conns.size < 65536 →
      (s.eng.rsvUsed + rec.rcvBufKib) * 1024 ≤ s.fld F.tmStoRsv_cells * 256 →
      ∃ t i c f, exec (.storageConnect r bufLen rec) s = .next t ∧ s.conn i = none ∧ s.eng.ctxs.get? i = none ∧
        t.conn i = some c ∧ c.state = ConnState.connecting ∧ c.step = 0 ∧ c.info = rec ∧ c.fn = r.fn ∧
        c.connectTok = some (s.token r) ∧ c.unacked.map (fun g => (g.syn, g.fin)) = [(true, false)] ∧
        t.eng.rsvUsed = s.eng.rsvUsed + rec.rcvBufKib ∧
        (t.slice (sliceOf rec.port)).injWait = (s.slice (sliceOf rec.port)).injWait ++ [f] ∧ f.origin = .storage i) ∧
  ∀ (s : State) (i : Nat), Serving s → ∀ c, s.conn i = some c →
    (∀ seg, segReadBytes seg ≠ 0 → s.storageMay = false → exec (.storageSegmentReceived i seg) s = .next s) ∧
    (s.connEngine i = 255 → (∀ seg, exec (.storageSegmentReceived i seg) s = .next s) ∧ exec (.tcpRtoExpiry i) s = .next s) ∧
    (∀ seg, s.connEngine i ≠ 255 → c.state = ConnState.established → seg.rst = false → seg.syn = false → seg.fin = false → seg.ack = none →
      s.queue (qConn i) = [] → c.sndBuf = [] →
      (seg.pdus = [] → ∃ t w, exec (.storageSegmentReceived i seg) s = .next t ∧
        t.conn i = some { c with rcvNxt := seg.upTo.toNat, adv := w } ∧ w ≤ max c.adv (c.info.rcvBufKib * 1024) ∧
        (seg.len = 0 → w = c.adv ∧ (t.slice (sliceOf c.info.port)).injWait = (s.slice (sliceOf c.info.port)).injWait) ∧
        (seg.len ≠ 0 → ∃ f, f.origin = .storage i ∧ (t.slice (sliceOf c.info.port)).injWait =
          (s.slice (sliceOf c.info.port)).injWait ++ [f])) ∧
      (∀ cid dw0 x q, seg.len = 0 → seg.pdus = [.capsuleResp cid dw0 0] → c.outstanding.find? (·.cid = cid) = some x →
        x.err = 0 → (s.fn c.fn).gen = x.gen → s.qm.wqs.get? x.work.wq = some q → x.work.idx ∈ q.opened →
        ∃ t c' q', exec (.storageSegmentReceived i seg) s = .next t ∧ t.conn i = some c' ∧
          c'.outstanding = c.outstanding.filter (·.cid ≠ x.cid) ∧ t.qm.wqs.get? x.work.wq = some q' ∧
          q'.opened = q.opened.erase x.work.idx)) ∧
    (c.archive = none → c.discTok = none →
      (∀ seg, s.connEngine i ≠ 255 → c.state ≠ ConnState.failed → seg.rst = true → segReadBytes seg = 0 → ∃ t c', exec (.storageSegmentReceived i seg) s = .next t ∧
        t.conn i = some c' ∧ c'.state = ConnState.failed ∧ c'.reason = 2 ∧ c'.outstanding = []) ∧
      (c.state = ConnState.connecting → c.step = 0 → c.since + 3 * secStamp ≤ s.now →
        ∃ t c', exec (.connectTimeout i) s = .next t ∧ t.conn i = some c' ∧ c'.state = ConnState.failed ∧ c'.reason = 1) ∧
      (∀ g rest, s.connEngine i ≠ 255 → c.unacked = g :: rest → c.rtoAt ≤ s.now → 7 ≤ c.retx →
        ∃ t c', exec (.tcpRtoExpiry i) s = .next t ∧ t.conn i = some c' ∧ c'.state = ConnState.failed ∧ c'.reason = 1)) ∧
    (s.now < c.since + 3 * secStamp → exec (.connectTimeout i) s = .next s) ∧
    (∀ g rest, c.unacked = g :: rest →
      (s.now < c.rtoAt → exec (.tcpRtoExpiry i) s = .next s) ∧
      (s.connEngine i ≠ 255 → c.rtoAt ≤ s.now → c.retx < 7 → ∃ t f w, exec (.tcpRtoExpiry i) s = .next t ∧
        t.conn i = some { c with
          retx := c.retx + 1, rto := min secStamp (2 * c.rto), rtoAt := s.now + min secStamp (2 * c.rto)
          unacked := { g with sent := none } :: rest, reno := c.renoTimeout, adv := w } ∧
        (t.slice (sliceOf c.info.port)).injWait = (s.slice (sliceOf c.info.port)).injWait ++ [f] ∧ f.origin = .storage i))

/-- STORAGE_DISCONNECT of a connection with commands outstanding lets it drain; with ABORT, or 10 s after it began to drain, the
connection goes at once, and after ABORT its handle names nothing; a handle that names none, another function's or an archive connection
ends NOT_FOUND, NOT_PERMITTED or BUSY; STO_CMD issues its command on the established connection bound to its work queue, with an
unused command identifier, and waits while the connection issues none, and an entry that is ill-formed or names no such connection is a
bad entry. -/
def Obligations.DisconnectAndCommand : Prop :=
  (∀ (s : State) (r : AdminRef) (h : Nat), AdminStarts r s →
    (s.ownerOf h = none → exec (.storageDisconnect r h) s = ends s r (s.adminOpen r) stNotFound [] ∧
      exec (.storageDisconnectAbort r h) s = ends s r (s.adminOpen r) stNotFound []) ∧
    ∀ o c, s.ownerOf h = some o → s.conn (handleIndex h) = some c →
      (o ≠ r.fn → exec (.storageDisconnect r h) s = ends s r (s.adminOpen r) stNotPermitted [] ∧
        exec (.storageDisconnectAbort r h) s = ends s r (s.adminOpen r) stNotPermitted []) ∧
      (o = r.fn → c.archive.isSome = true → exec (.storageDisconnect r h) s = ends s r (s.adminOpen r) stBusy [] ∧
        exec (.storageDisconnectAbort r h) s = ends s r (s.adminOpen r) stBusy []) ∧
      (o = r.fn → c.archive = none →
        (c.discTok = none → c.state ≠ ConnState.failed → c.open_ ≠ 0 →
          ∃ t, exec (.storageDisconnect r h) s = .next t ∧ t.conn (handleIndex h) =
            some { c with state := .draining, discTok := some (s.token r), discAt := s.now } ∧ t.slices = s.slices) ∧
        (c.discTok.isSome = true → exec (.storageDisconnect r h) s = ends s r (s.adminOpen r) stBusy []) ∧
        (s.eng.conns.wf = true → ∃ u, exec (.storageDisconnectAbort r h) s = ends s r u stSuccess [(24, le 4 c.open_)] ∧
          u.conn (handleIndex h) = none ∧ u.handleOf (handleIndex h) ≠ h))) ∧
  (∀ (s : State) (i : Nat) (c : Conn), Serving s → s.conn i = some c →
    (c.state ≠ ConnState.draining ∨ s.now < c.discAt + 10 * secStamp → exec (.disconnectTimeout i) s = .next s) ∧
    (c.state = ConnState.draining → c.discAt + 10 * secStamp ≤ s.now → s.eng.conns.wf = true →
      ∃ t, exec (.disconnectTimeout i) s = .next t ∧ t.conn i = none)) ∧
  ∀ (s : State) (w : WorkRef) (q : WqSt) (a : StoArgs), WorkStarts 2 w q s →
    (stoOk a = false → exec (.stoCmd w a) s = .next ((s.workOpen w).workDone w.wq w.idx stBadEntry [])) ∧
    (stoOk a = true → s.boundConn w a = none →
      exec (.stoCmd w a) s = .next ((s.workOpen w).workDone w.wq w.idx stBadEntry [])) ∧
    (stoOk a = true → s.stoWaits w a = true → exec (.stoCmd w a) s = .next s) ∧
    (∀ c, stoOk a = true → s.boundConn w a = some c → c.state = ConnState.established →
      c.outstanding.length < c.info.sqsize → s.connEngine (handleIndex a.conn) ≠ 255 → c.cids.length < 65536 →
      ∃ t c' x, exec (.stoCmd w a) s = .next t ∧ t.conn (handleIndex a.conn) = some c' ∧
        c'.outstanding = c.outstanding ++ [x] ∧ x.work = { w with reads := [], reading := false } ∧ x.args = a ∧ x.err = 0 ∧ x.cid ∉ c.cids ∧ x.cid < 65536 ∧
        t.qm = (s.workOpen w).qm)

/-- Doorbells: the offset says which one a write is. One to a function that does not decode requests is answered Unsupported
Request, and one that a write does not cover whole is discarded; the producer index of an ACTIVE work queue within the
ring's room is taken, and one beyond it stops the queue with OVERPOST; INVALIDATE of a work queue drops what was fetched, receive buffers that wait among it; a consumer
index within what is used is taken, one beyond it ignored, and ARM arms the ring; the producer index of an ACTIVE admin queue within its
room is taken; SETUP with a base makes a FREE admin queue ACTIVE and empty, and with none an empty ACTIVE one FREE. -/
def Obligations.Doorbells : Prop :=
  ∀ (s : State) (fn off : Nat), Serving s → fn ≤ 4096 → s.hif.dlUp = true →
    (∀ v n, exec (.nrDoorbell fn off v n) s = exec (.wqDoorbell fn off v n) s ∧
      exec (.adminDoorbell fn off v n) s = exec (.wqDoorbell fn off v n) s) ∧
    (s.fnDecodes fn = false → ∀ v n, exec (.wqDoorbell fn off v n) s = .next ((s.touch n).unsupportedReq fn)) ∧
    (s.fnDecodes fn = true → ∀ v n, n < 8 →
      ∃ t, exec (.wqDoorbell fn off v n) s = .next t ∧
        t = { s.touch n with ctr := t.ctr, evr := t.evr, out := t.out }) ∧
    (s.fnDecodes fn = true →
      (∀ w q (v : DWord), s.doorbellWq fn off = some (some (w, q)) → s.qm.wqs.get? w = some q → q.state = QState.active →
        v.toNat < 2 ^ 32 →
        ((BitVec.ofNat 32 v.toNat - q.prod).toNat ≤ 2 ^ q.log2 - (q.prod - q.head).toNat →
          (∃ t, exec (.wqDoorbell fn off v 8) s = .next t ∧
            t.qm.wqs.get? w = some { q with prod := BitVec.ofNat 32 v.toNat } ∧
            t = { s with qm := { s.qm with wqs := t.qm.wqs }, hif := t.hif, free := t.free, out := t.out }) ∧
          ∃ t, exec (.wqInvalidate fn off v) s = .next t ∧ t.qm.wqs.get? w = some { q with
            prod := BitVec.ofNat 32 v.toNat, fetched := 0, posted := [], reread := q.posted.map (·.1) ++ q.reread
            opened := q.opened.filter fun i => !(q.posted.any fun e => decide (e.1 = i)) }) ∧
        (2 ^ q.log2 - (q.prod - q.head).toNat < (BitVec.ofNat 32 v.toNat - q.prod).toNat →
          ∃ t, exec (.wqDoorbell fn off v 8) s = .next t ∧ t.qm.wqs.get? w = some { q with
            state := .error, errStatus := stOverpost, errIndex := q.prod, fetched := 0, hbWaiting := true })) ∧
      (∀ n r (v : DWord), s.doorbellNr fn off = some (some (n, r)) → s.qm.nrs.get? n = some r → r.order = [] →
        (∀ e ∈ s.qm.wqs.entries, e.2.nr = some n → e.2.told n = true) → v.toNat < 2 ^ 32 →
        ((BitVec.ofNat 32 v.toNat - r.cons).toNat ≤ r.used → ∃ t, exec (.nrDoorbell fn off v 8) s = .next t ∧
          t.qm.nrs.get? n = some { r with cons := BitVec.ofNat 32 v.toNat } ∧ t = { s.touch 8 with qm := { s.qm with nrs := t.qm.nrs } }) ∧
        (r.used < (BitVec.ofNat 32 v.toNat - r.cons).toNat →
          exec (.nrDoorbell fn off v 8) s = .next ((s.touch 8).doorbellIgnored fn off)) ∧
        (BitVec.ofNat 32 v.toNat = r.prod → 1 ≤ r.modCount → ∃ t, exec (.nrArm fn off v) s = .next t ∧
          t.qm.nrs.get? n = some { r with
            cons := r.prod, armed := true, sinceArm := 0, firstAt := none, liveCount := r.modCount, liveTimerUs := r.modTimerUs }))) ∧
    (s.fnDecodes fn = true → ∀ v : DWord,
      (v.toNat < 2 ^ 32 → (s.fn fn).admin.state = QState.active →
        (BitVec.ofNat 32 v.toNat - (s.fn fn).admin.prod).toNat ≤
          64 - ((s.fn fn).admin.prod - (s.fn fn).admin.head).toNat →
        ∃ t, exec (.adminDoorbell fn 0 v 8) s = .next t ∧
          (t.fn fn).admin = { (s.fn fn).admin with prod := BitVec.ofNat 32 v.toNat } ∧ t.qm.wqs = s.qm.wqs) ∧
      (v.toNat % 8192 = 0 → v.toNat < 2 ^ 63 → getBits v.toNat 13 49 ≠ 0 → (s.fn fn).admin.state = QState.free →
        ∃ t, exec (.adminSetup fn v) s = .next t ∧ (t.fn fn).admin = { AdminQ.init with
          setup := (s.fn fn).admin.setup + 1, base := getBits v.toNat 13 49 * 8192, state := .active }) ∧
      (v.toNat % 8192 = 0 → v.toNat < 2 ^ 63 → (s.fn fn).admin.state = QState.active →
        (s.fn fn).admin.prod = (s.fn fn).admin.head →
        ∃ t, exec (.adminTeardown fn v) s = .next t ∧ (t.fn fn).admin = { AdminQ.init with
          setup := (s.fn fn).admin.setup + 1, base := 0, state := .free }))

/-- Notifications: an armed ring whose timer has run out raises its unmasked vector and is disarmed; the head block of a queue without a
notification ring that waits is written with the queue's head and state; unmasking a vector with its Pending Bit set sends its message; the
MSI-X table is written and read by the dword. -/
def Obligations.Notifications : Prop :=
  ∀ (s : State) (msg : Nat → Nat → Out), Serving s → s.hif.silenced = false → s.hif.dlUp = true →
    (∀ f v, msg f v = .msix f v (((s.fn f).vecTable.getD (4 * v) 0).toNat + 2 ^ 32 * ((s.fn f).vecTable.getD (4 * v + 1) 0).toNat)
      ((s.fn f).vecTable.getD (4 * v + 2) 0).toNat (s.fn f).idoEnable) →
    (∀ n r, s.qm.nrs.get? n = some r →
      (r.armed = false → exec (.nrModerationTimer n) s = .next s) ∧
      (r.sinceArm < r.liveCount → (∀ t ∈ r.firstAt, s.now < t + r.liveTimerUs * usStamp) →
        exec (.nrModerationTimer n) s = .next s) ∧
      (∀ t0, r.armed = true → r.firstAt = some t0 → t0 + r.liveTimerUs * usStamp ≤ s.now → s.mayIssue r.fn = true →
        (s.fn r.fn).msixEnable = true → (s.fn r.fn).maskAll = false → r.vector ∈ (s.fn r.fn).vecUnmasked →
        ∃ t, exec (.nrModerationTimer n) s = .next t ∧ t.out = s.out ++ [msg r.fn r.vector] ∧
          t.qm.nrs.get? n = some { r with armed := false, sinceArm := 0, firstAt := none } ∧ t.qm.wqs = s.qm.wqs)) ∧
    (∀ w q, s.qm.wqs.get? w = some q →
      (q.hbWaiting = false → exec (.headBlockWrite w) s = .next s) ∧
      (q.hbWaiting = true → s.mayIssue q.fn = true → q.nr = none → ∀ hb,
        hb = headBlock q.head (if q.state = .error then 1 else 0) q.errStatus (s.fn q.fn).gen q.errIndex →
        ∃ t ro ido tag, ∃ tr : Nat → Bool, exec (.headBlockWrite w) s = .next t ∧
        t.out = s.out ++ (pageParts (hb.length / 4096 + 1) q.headBlock hb).map
          (fun d => .dma q.fn .headBlock d.1 d.2 ro ido (tr d.1) tag) ∧ t.qm.wqs.get? w = some { q with hbWaiting := false })) ∧
    ∀ fn, fn ≤ 4096 →
      (s.fnDecodes fn = false → ∀ off w, exec (.msixVectorUnmask fn (.write off w)) s = .next ((s.touch 4).unsupportedReq fn) ∧
        exec (.msixVectorUnmask fn (.read off)) s = .next ((s.touch 0).unsupportedReq fn)) ∧
      (s.fnDecodes fn = true →
        (∀ off, exec (.msixVectorUnmask fn (.read off)) s = .next ((s.touch 0).emit (.bar4Data fn off (s.msixRead fn off)))) ∧
        (∀ off w, off < 16 * s.tableSize fn → off % 16 = 4 ∨ off % 16 = 8 → (s.fn fn).vecTable.wf = true →
          ∃ t, exec (.msixVectorUnmask fn (.write off w)) s = .next t ∧ (t.fn fn).vecTable.getD (off / 4) 0 = w ∧
            t = { s.touch 4 with qm := t.qm } ∧
            (t.fn fn) = { s.fn fn with vecTable := (t.fn fn).vecTable }) ∧
        ∀ (v : Nat) (w : Word), v < s.tableSize fn → w.toNat.testBit 0 = false → v ∈ (s.fn fn).vecPending → (s.fn fn).vecPending.Nodup →
          (∀ x ∈ (s.fn fn).vecPending, x ∈ (s.fn fn).vecUnmasked → x = v) →
          (s.fn fn).msixEnable = true → (s.fn fn).maskAll = false → s.mayIssue fn = true →
          ∃ t, exec (.msixVectorUnmask fn (.write (16 * v + 12) w)) s = .next t ∧ t.out = s.out ++ [msg fn v] ∧
            (t.fn fn).vecPending = (s.fn fn).vecPending.erase v ∧ v ∈ (t.fn fn).vecUnmasked)

/-- Admin commands on queues: NOP completes; an unknown opcode is INVALID_OPCODE, an operation that a known one does not have
INVALID_FIELD; IDENTIFY names function and generation; CREATE_WQ (without a ring) and CREATE_NR take an unused number and start empty;
DESTROY of what is not there is NOT_FOUND, of a ring in use BUSY, and of a queue or an unused ring frees it; MODIFY_WQ refuses a queue
in ERROR and else suspends, resumes or detaches it; VF_SET_RESOURCES needs fields in range and a VF without resources in use. -/
def Obligations.QueueCommands : Prop :=
  ∀ (s : State) (r : AdminRef), AdminStarts r s →
    exec (.nop r) s = ends s r (s.adminOpen r) stSuccess [] ∧
    (∀ op o, op = 0x07 ∨ op = 0x44 ∨ 0x72 ≤ op → exec (.unknownAdminOpcode r ⟨op, o⟩) s = ends s r (s.adminOpen r) stInvalidOpcode []) ∧
    (r.fn = 0 → ∀ op o n, opCount op = some n → n ≤ o →
      exec (.unknownAdminOpcode r ⟨op, o⟩) s = ends s r (s.adminOpen r) stInvalidField []) ∧
    (∃ wb, exec (.identify r) s = ends s r (s.adminOpen r) stSuccess wb ∧
      wb.take 2 = [(16, le 2 r.fn), (18, le 2 (s.fn r.fn).gen.toNat)]) ∧
    (∀ a : WqArgs, a.nr = 0xFFFFFFFF →
      (wqArgsOk a = false → exec (.createWq r a) s = ends s r (s.adminOpen r) stInvalidField []) ∧
      (wqArgsOk a = true → s.reservedFor r.fn a.type = none →
        (s.wqQuota r.fn ≤ s.heldWqs r.fn → exec (.createWq r a) s = ends s r (s.adminOpen r) stNoResource []) ∧
        (s.heldWqs r.fn < s.wqQuota r.fn → s.qm.wqs.size + s.qm.reserved.length < 131072 →
          ∃ g i u, exec (.createWq r a) s = ends s r u stSuccess [(48, le 4 g), (52, le 4 i)] ∧ s.qm.wqs.get? g = none ∧
            u.qm.wqs.get? g = some (newWq r.fn i a none) ∧ ∀ k, k ≠ g → u.qm.wqs.get? k = s.qm.wqs.get? k))) ∧
    (∀ i, s.localWq r.fn i = none →
      exec (.destroyWq r i) s = ends s r (s.adminOpen r) stNotFound [] ∧
      exec (.modifyWqSuspend r i) s = ends s r (s.adminOpen r) stNotFound [] ∧
      exec (.modifyWqResume r i) s = ends s r (s.adminOpen r) stNotFound [] ∧
      exec (.modifyWqSetNr r i 0xFFFFFFFF) s = ends s r (s.adminOpen r) stNotFound []) ∧
    (∀ i w q, s.localWq r.fn i = some (w, q) → s.qm.wqs.get? w = some q →
      (s.qm.wqs.wf = true → (q.kind = 2 → s.connsOf w = []) →
        ∃ u, exec (.destroyWq r i) s = ends s r u stSuccess [] ∧ u.qm.wqs.get? w = none) ∧
      (q.state = QState.error → exec (.modifyWqSuspend r i) s = ends s r (s.adminOpen r) stNotPermitted [] ∧
        exec (.modifyWqResume r i) s = ends s r (s.adminOpen r) stNotPermitted [] ∧
        exec (.modifyWqSetNr r i 0xFFFFFFFF) s = ends s r (s.adminOpen r) stNotPermitted []) ∧
      (q.state ≠ QState.error →
        (∃ u, exec (.modifyWqSuspend r i) s = ends s r u stSuccess [] ∧ u.qm.wqs.get? w = some { q with suspended := true } ∧
          u = { s.adminOpen r with qm := { (s.adminOpen r).qm with wqs := u.qm.wqs } }) ∧
        (∃ u, exec (.modifyWqResume r i) s = ends s r u stSuccess [] ∧ u.qm.wqs.get? w = some { q with suspended := false } ∧
          u = { s.adminOpen r with qm := { (s.adminOpen r).qm with wqs := u.qm.wqs } }) ∧
        (q.nr.isSome = true → ∃ u, exec (.modifyWqSetNr r i 0xFFFFFFFF) s = ends s r u stSuccess [] ∧
          u.qm.wqs.get? w = some { q with nr := none, nrPending := false }))) ∧
    (∀ a : NrArgs, (a.report = true → r.fn ≠ 0 → exec (.createNr r a) s = ends s r (s.adminOpen r) stNotPermitted []) ∧
      (a.report = false ∨ r.fn = 0 → nrArgsOk a = false → exec (.createNr r a) s = ends s r (s.adminOpen r) stInvalidField []) ∧
      (a.report = true → r.fn = 0 → nrArgsOk a = true → s.reportRing.isSome = true →
        exec (.createNr r a) s = ends s r (s.adminOpen r) stExists []) ∧
      (a.report = false ∨ (r.fn = 0 ∧ s.reportRing = none) → nrArgsOk a = true → a.vector < (s.fn r.fn).vectors → s.fnNrs r.fn < s.nrQuota r.fn →
        s.qm.nrs.size < 65536 →
        ∃ g i u n, exec (.createNr r a) s = ends s r u stSuccess [(48, le 4 g), (52, le 4 i)] ∧ s.qm.nrs.get? g = none ∧
          u.qm.nrs.get? g = some n ∧ n.fn = r.fn ∧ n.localIdx = i ∧ n.prod = 0 ∧ n.cons = 0 ∧ n.armed = false ∧
          n.vector = a.vector ∧ n.report = a.report ∧ n.log2 = a.log2Size ∧ n.base = a.base)) ∧
    (∀ i, s.localNr r.fn i = none → exec (.destroyNr r i) s = ends s r (s.adminOpen r) stNotFound []) ∧
    (∀ i n x, s.localNr r.fn i = some (n, x) →
      ((∃ q ∈ s.qm.wqs.values, q.nr = some n) → exec (.destroyNr r i) s = ends s r (s.adminOpen r) stBusy []) ∧
      ((∀ q ∈ s.qm.wqs.values, q.nr ≠ some n) → ∃ u, exec (.destroyNr r i) s = ends s r u stSuccess [] ∧
        u.qm.nrs = s.qm.nrs.erase n)) ∧
    (r.fn = 0 → ∀ vf vec mw mn mc,
      ((vf = 0 ∨ 4096 < vf ∨ vec = 0 ∨ 2048 < vec ∨ 2048 < mw ∨ 2048 < mn ∨ 524288 < mc) →
        exec (.vfSetResources r vf vec mw mn mc) s = ends s r (s.adminOpen r) stInvalidField []) ∧
      (1 ≤ vf → vf ≤ 4096 → 1 ≤ vec → vec ≤ 2048 → mw ≤ 2048 → mn ≤ 2048 → mc ≤ 524288 →
        ((s.heldWqs vf ≠ 0 ∨ (s.fn vf).resetting = true) →
          exec (.vfSetResources r vf vec mw mn mc) s = ends s r (s.adminOpen r) stBusy []) ∧
        (s.heldWqs vf = 0 → s.fnNrs vf = 0 → s.fnCtxs vf = 0 → (s.fn vf).resetting = false →
          s.vfSum (·.maxWq) + mw + s.heldWqs 0 ≤ 131072 → s.vfSum (·.maxNr) + mn + s.fnNrs 0 ≤ 65536 →
          s.vfSum (·.vectors) + vec + (s.fn 0).vectors ≤ 65536 → s.vfSum (·.contexts) + mc + s.fnCtxs 0 ≤ 524288 →
          exec (.vfSetResources r vf vec mw mn mc) s = ends s r ((s.adminOpen r).modFn vf fun f =>
            { f with vectors := vec, maxWq := mw, maxNr := mn, contexts := mc }) stSuccess [])))

/-- Work entries and VF resets: WORK_NOP completes, and an entry of an opcode that there is not is a bad entry; a SEND entry with fields in range puts its frame before its slice and waits, and is BUSY
while the slice is out of service; RECV posts an aligned buffer, and waits
while as many wait as can; SEND and RECV entries complete only once the leaf index is fixed; a VF
reset moves the generation of that function alone, and ends only once nothing of the old generation is left. An entry or a command
that starts with its reads still to come is open and waits for them. -/
def Obligations.WorkAndReset : Prop :=
  (∀ (s : State) (w : WorkRef) (k : Nat) (q : WqSt), WorkStarts k w q s →
    exec (.workNop ⟨w, 0⟩) s = .next ((s.workOpen w).workDone w.wq w.idx stSuccess []) ∧
    (∀ o, o ∉ [0, 0x10, 0x11, 0x30] → exec (.workNop ⟨w, o⟩) s = .next ((s.workOpen w).workDone w.wq w.idx stBadEntry [])) ∧
    (k = 0 → s.vfTxHolds w = true → ∀ a,
      (s.sendOk a = false → exec (.send w a) s = .next ((s.workOpen w).workDone w.wq w.idx stBadEntry [])) ∧
      (s.sendOk a = true → s.up .slice 0 (sliceOf a.port) = false →
        exec (.send w a) s = .next ((s.workOpen w).workDone w.wq w.idx stBusy [])) ∧
      (s.sendOk a = true → s.up .slice 0 (sliceOf a.port) = true → ∃ t f e, exec (.send w a) s = .next t ∧
        (t.slice (sliceOf a.port)).injWait = (s.slice (sliceOf a.port)).injWait ++ [f] ∧ f.bytes = a.frame ∧
        f.origin = .send w.wq w.idx q.fn a.port ∧ f.admClass = a.cls ∧ f.port = injectionPort ∧
        t.qm.sends = s.qm.sends ++ [e] ∧ e.wq = w.wq ∧ e.idx = w.idx ∧ e.frame = f.id ∧ e.settled = false ∧
        t.qm.wqs = (s.workOpen w).qm.wqs)) ∧
    (k = 1 → ∀ addr, (s.recvFull w = true → exec (.recv w addr) s = .next s) ∧ (s.recvFull w = false →
      (addr % 64 ≠ 0 → exec (.recv w addr) s = .next ((s.workOpen w).workDone w.wq w.idx stBadEntry [])) ∧
      (addr % 64 = 0 → exec (.recv w addr) s = .next ((s.workOpen w).modWq w.wq fun q =>
        { q with posted := q.posted ++ [(w.idx, addr)] }))))) ∧
  (∀ s : State, Serving s →
    (∀ w e, s.qm.sends.find? (fun e => decide (e.wq = w.wq ∧ e.idx = w.idx)) = some e →
      ((e.settled = false ∨ e.left ≠ 0 ∨ s.leafIndexOf e.frame = none) → exec (.sendComplete w) s = .next s) ∧
      (∀ q p i, e.settled = true → e.left = 0 → s.leafIndexOf e.frame = some i → s.ldg.placed.get? e.frame = some p →
        s.qm.wqs.get? w.wq = some q → w.idx ∈ q.opened →
        ∃ t q', exec (.sendComplete w) s = .next t ∧ t.qm.wqs.get? w.wq = some q' ∧ q'.opened = q.opened.erase w.idx ∧
          t.qm.sends = s.qm.sends.filter (fun x => !decide (x.wq = w.wq ∧ x.idx = w.idx)))) ∧
    (∀ wq idx e, s.qm.recvs.find? (fun e => decide (e.wq = wq ∧ e.idx.toNat = idx)) = some e →
      ((s.leafIndexOf e.leaf.frame = none ∨ s.frameMay = false) → exec (.recvWriteback wq idx) s = .next s) ∧
      (∀ q i, s.frameMay = true → s.leafIndexOf e.leaf.frame = some i → s.qm.wqs.get? wq = some q → e.idx ∈ q.opened →
        ∃ t q', exec (.recvWriteback wq idx) s = .next t ∧ t.qm.wqs.get? wq = some q' ∧ q'.opened = q.opened.erase e.idx ∧
          t.qm.recvs = s.qm.recvs.filter (fun x => !decide (x.wq = wq ∧ x.idx.toNat = idx)))) ∧
    (∀ vf, s.qm.vfResets.get? vf = none → exec (.vfResetComplete vf) s = .next s) ∧
    (∀ vf x, s.qm.vfResets.get? vf = some x →
      (s.itemsLeft vf x.oldGen = true → exec (.vfResetComplete vf) s = .next s) ∧
      (s.itemsLeft vf x.oldGen = false → ∃ t, exec (.vfResetComplete vf) s = .next t ∧ (t.fn vf).resetting = false ∧
        (t.fn vf).gen = (s.fn vf).gen ∧ t.qm.vfResets = s.qm.vfResets.erase vf))) ∧
  (∀ (s : State) (w : WorkRef) (q : WqSt), Serving s → s.workReady w = true → w.reading = true → s.qm.wqs.get? w.wq = some q →
    (s.begun (workItem w) = true → exec (.workNop ⟨w, 0⟩) s = .next s) ∧
    (s.begun (workItem w) = false → ∃ t q', exec (.workNop ⟨w, 0⟩) s = .next t ∧ t.begun (workItem w) = true ∧
      t.qm.wqs.get? w.wq = some q' ∧ q'.opened = w.idx :: q.opened ∧ q'.head = q.head ∧ t.tb = s.tb ∧ t.tm = s.tm ∧ t.coh = s.coh)) ∧
  (∀ (s : State) (r : AdminRef), Serving s → s.adminReady r = true → r.reading = true →
    (s.begun (adminItem r) = true → exec (.nop r) s = .next s) ∧
    (s.begun (adminItem r) = false → ∃ t, exec (.nop r) s = .next t ∧ t.begun (adminItem r) = true ∧
      (t.fn r.fn).admin.opened = r.idx :: (s.fn r.fn).admin.opened ∧ (t.fn r.fn).admin.head = (s.fn r.fn).admin.head ∧
      t.tb = s.tb ∧ t.tm = s.tm ∧ t.coh = s.coh)) ∧
  ∀ (s : State) (r : AdminRef) (vf : Nat), PfStarts r s →
    (vf = 0 ∨ 4096 < vf → exec (.vfReset r vf) s = ends s r (s.adminOpen r) stInvalidField []) ∧
    (1 ≤ vf → vf ≤ 4096 →
      ((s.fn vf).resetting = true → exec (.vfReset r vf) s = ends s r (s.adminOpen r) stBusy []) ∧
      ((s.fn vf).resetting = false → ∃ t, exec (.vfReset r vf) s = .next t ∧ (t.fn vf).gen = (s.fn vf).gen + 1 ∧
        (t.fn vf).resetting = true ∧ (∀ f, f ≠ vf → (t.fn f).gen = (s.fn f).gen) ∧ t.coh = s.coh ∧ t.tb = s.tb))

/-- The coherent commit. CONFIG_COMMIT refuses flags out of range and a second commit before the first has drained, else the units arm,
after the journal when it is persistent; COMMIT_UNITS_ARMED assigns T_c 2 µs ahead and the next epoch, never beyond the reserved ones;
COMMIT_TIME_REACHED puts epoch and bank in effect at T_c and not before, and, as the commits that it remembers were in effect by the last
T_c, gives every stamp from there on the epoch and bank that it had; the last
BANK_DRAIN_COMPLETE frees the old bank; CONFIG_ABORT discards what is staged and nothing in effect. -/
def Obligations.CommitProtocol : Prop :=
  (∀ (s : State) (r : AdminRef) (flags : Nat), PfStarts r s →
    ((2 ≤ flags ∨ s.coh.staged = 2) → exec (.configCommit r flags) s = ends s r (s.adminOpen r) stInvalidField []) ∧
    (flags < 2 → s.coh.staged ≠ 2 → (s.coh.phase ≠ .idle ∨ s.coh.draining ≠ []) →
      exec (.configCommit r flags) s = ends s r (s.adminOpen r) stCommitPending []) ∧
    (s.coh.staged ≠ 2 → s.coh.phase = .idle → s.coh.draining = [] → s.coh.reamPending = false → s.coh.assigned < 0xFFFFFFFF →
      exec (.configCommit r 0) s = .next { s.adminOpen r with
        coh := { s.coh with phase := .arming, persistent := false, token := some (s.token r) } } ∧
      (s.recentPersist < 200 → 1024 + s.commitPages ≤ s.freePages → ∃ t, exec (.configCommit r 1) s = .next t ∧
        t.coh = { s.coh with phase := .journal, persistent := true, token := some (s.token r) } ∧
        (∃ l x, t.nvm.writing = s.nvm.writing ++ l ++ [x] ∧ x.1.kind = s.commitRecord ∧ x.2 = .commit) ∧
        t = { s.adminOpen r with coh := t.coh, nvm := t.nvm })) ∧
    ∃ u, exec (.configAbort r) s = ends s r u stSuccess [] ∧ u.regs.shadow = Table.empty ∧ u.regs.polShadow = Table.empty ∧
      u.regs.cells = s.regs.cells ∧ u.coh = { s.coh with staged := 0, image := none } ∧
      u.bank s.coh.bankTag = s.bank s.coh.bankTag ∧ u = { s.adminOpen r with regs := u.regs, coh := u.coh, flow := u.flow }) ∧
  ∀ s : State, Serving s →
    (s.coh.phase ≠ .arming → exec .commitUnitsArmed s = .next s) ∧
    (s.coh.phase = .arming → s.coh.assigned < s.coh.hwm → ∃ t, exec .commitUnitsArmed s = .next t ∧ t.coh.phase = .armed ∧
      t.coh.tc = s.now + 2 * usStamp ∧ t.coh.assigned = s.coh.assigned + 1 ∧ t.coh.assigned ≤ t.coh.hwm ∧
      t.coh.epoch = s.coh.epoch ∧ t.coh.bankTag = s.coh.bankTag ∧ t.regs.cells = s.regs.cells ∧ t.regs.shadow = Table.empty ∧
      t.bank s.coh.bankTag = s.bank s.coh.bankTag ∧ t.slices = s.slices ∧ t.ports = s.ports) ∧
    ((s.coh.phase ≠ .armed ∨ s.now < s.coh.tc) → exec .commitTimeReached s = .next s) ∧
    (s.coh.phase = .armed → s.coh.tc ≤ s.now → ∃ t, exec .commitTimeReached s = .next t ∧ t.coh.phase = .idle ∧
      t.coh.epoch = s.coh.assigned ∧ t.coh.bankTag = (!s.coh.bankTag) ∧ t.coh.draining = List.range 8 ∧
      ((∀ g ∈ s.regs.hist, g.tc ≤ s.coh.effTc) →
        (∀ x, s.coh.effTc ≤ x → t.epochAt x = s.epochAt x ∧ t.bankAt x = s.bankAt x) ∧
        (s.coh.effTc ≤ s.coh.tc → ∀ g ∈ t.regs.hist, g.tc ≤ t.coh.effTc)) ∧ t.regs.armed = Table.empty ∧
      t.slices = s.slices ∧ t.ports = s.ports ∧ t.tm = s.tm ∧ t.flow = s.flow) ∧
    (∀ n, (s.sliceDrained n = false → exec (.bankDrainComplete n) s = .next s) ∧
      (s.sliceDrained n = true → ∃ t, exec (.bankDrainComplete n) s = .next t ∧ t.coh.draining = s.coh.draining.erase n ∧
        t.bank s.coh.bankTag = s.bank s.coh.bankTag ∧
        (s.coh.draining = [n] → t.bank (!s.coh.bankTag) = none) ∧ t.coh.epoch = s.coh.epoch ∧ t.slices = s.slices))

/-- CONFIG_STAGE refuses an image while a commit is pending, with a bad header, without a valid signature or with a section that breaks the
limits, with its event and the offset it stopped at, and loads a good one, whose rows find room, into the inactive bank of all slices,
leaving the active bank alone; CONFIG_READ answers the staged value or the value in effect of registers that can be staged only, and the
banks. -/
def Obligations.StageAndRead : Prop :=
  ∀ (s : State) (r : AdminRef), PfStarts r s →
    (∀ kind len (i : BankImage),
      (kind = 0 → (s.coh.phase ≠ .idle ∨ s.coh.draining ≠ []) → exec (.configStage r kind len i) s =
        ends s r ((s.adminOpen r).event 0x5002 2 [.q stBusy, .q noItem]) stBusy [(40, le 4 noItem), (44, le 4 0)]) ∧
      (kind = 0 → s.coh.phase = .idle → s.coh.draining = [] →
        (∀ off, headerFault i len = some off → exec (.configStage r kind len i) s =
          ends s r ((s.adminOpen r).event 0x5002 2 [.q stInvalidField, .q off]) stInvalidField [(40, le 4 off), (44, le 4 0)]) ∧
        (headerFault i len = none → i.sigOk = false → exec (.configStage r kind len i) s =
          ends s r ((s.adminOpen r).event 0x5002 2 [.q stAuthFailed, .q noItem]) stAuthFailed
            [(40, le 4 noItem), (44, le 4 0)]) ∧
        (∀ b off, headerFault i len = none → s.nvm.base = some b → i.signerId ∈ b.signers → i.sigOk = true →
          i.badOffset = some off → exec (.configStage r kind len i) s =
            ends s r ((s.adminOpen r).stageEmpty.event 0x5002 2 [.q stInvalidField, .q off]) stInvalidField
              [(40, le 4 off), (44, le 4 i.loadUs)]) ∧
        (∀ b, headerFault i len = none → s.nvm.base = some b → i.signerId ∈ b.signers → i.sigOk = true → i.badOffset = none →
          readImage i = none → ∃ u off, exec (.configStage r kind len i) s =
            ends s r u stInvalidField [(40, le 4 off), (44, le 4 i.loadUs)] ∧ u.coh.staged = 2 ∧ u.regs = s.regs) ∧
        (∀ b bank, headerFault i len = none → s.nvm.base = some b → i.signerId ∈ b.signers → i.sigOk = true → i.badOffset = none →
          readImage i = some bank → s.liveRow i.bank.rows = false →
          s.rowsExceed i.bank.rows = false → ((s.adminOpen r).loadRows i.bank.rows).isSome = true →
          ∃ u, exec (.configStage r kind len i) s =
              ends s r u stSuccess [(32, le 8 i.bankId), (40, le 4 noItem), (44, le 4 i.loadUs)] ∧
            u.bank (!s.coh.bankTag) = some bank ∧ u.bank s.coh.bankTag = s.bank s.coh.bankTag ∧ u.coh.staged = 1 ∧
            u.coh.image = some i ∧ u.coh.epoch = s.coh.epoch ∧ u.regs = s.regs))) ∧
    (∀ a, clsMask .staged a = 0 → clsMask .ream a = 0 →
      exec (.configReadStaged r a) s = ends s r (s.adminOpen r) stInvalidField [] ∧
      exec (.configReadInEffect r a) s = ends s r (s.adminOpen r) stInvalidField []) ∧
    (∀ a, (clsMask .staged a ≠ 0 ∨ clsMask .ream a ≠ 0) →
      exec (.configReadStaged r a) s =
        ends s r (s.adminOpen r) stSuccess ((s.adminOpen r).readWb ((s.adminOpen r).stagedView a)) ∧
      exec (.configReadInEffect r a) s =
        ends s r (s.adminOpen r) stSuccess ((s.adminOpen r).readWb ((s.adminOpen r).view a))) ∧
    ∃ wb, exec (.configReadBanks r) s = ends s r (s.adminOpen r) stSuccess wb ∧
      wb.drop 3 = [(48, le 4 s.coh.epoch), (52, le 1 s.coh.staged)]

/-- A counter snapshot: T_s is 2 µs ahead; counters are latched only once they are ready, with what came before T_s, and then every 64-bit
counter holds what came after T_s, with what came before it too unless the snapshot clears (counters of what no command carries count on
first, assumption 49); the buffer is written, and the snapshot ends. -/
def Obligations.CounterSnapshot : Prop :=
  (∀ (s : State) (r : AdminRef) (flags len : Nat), PfStarts r s →
    (2 ≤ flags → exec (.snapshotCounters r flags len) s = ends s r (s.adminOpen r) stInvalidField []) ∧
    (flags < 2 → (len = 0 ∨ 16 * s.counterMap.length ≤ len) →
      (s.snap.phase ≠ .idle → exec (.snapshotCounters r flags len) s = ends s r (s.adminOpen r) stBusy []) ∧
      (s.snap.phase = .idle → exec (.snapshotCounters r flags len) s = .next { s.adminOpen r with snap := {
        phase := .armed, ts := s.now + 2 * usStamp, seq := s.snap.seq + 1, clearing := decide (flags = 1),
        token := some (s.token r), bufLen := len } }))) ∧
  ∀ s : State, Serving s →
    ((s.snap.phase ≠ .armed ∨ s.latchReady = false) → exec .counterLatch s = .next s) ∧
    (s.snap.phase = .armed → s.latchReady = true → ∃ t, exec .counterLatch s = .next t ∧ t.ctr.latched = s.settleLines.ctr.value ∧
      (∀ a, lineCounter a = false → t.ctr.latched.getD a 0 = s.ctr.value.getD a 0) ∧
      (s.regs.cells.wf = true → ∀ f ∈ counterFields, t.ctr.fieldLatched.get? f.key = some (s.fld f)) ∧
      t.ctr.side = Table.empty ∧ (s.snap.clearing = true → t.ctr.value = s.ctr.side) ∧
      (s.snap.clearing = false → s.ctr.side.wf = true → ∀ a,
        t.ctr.value.getD a 0 = s.settleLines.ctr.value.getD a 0 + s.ctr.side.getD a 0) ∧
      t.snap.phase = (if s.snap.bufLen = 0 then .idle else .writing) ∧ t.coh = s.coh) ∧
    (s.snap.phase ≠ .writing → exec .snapshotBufferWritten s = .next s) ∧
    (∀ tok, s.snap.phase = .writing → s.snap.token = some tok → s.hif.dlUp = true → s.hif.silenced = false →
      s.mayIssue 0 = true → ∀ d, d = s.counterMap.flatMap s.mapPair →
        ∃ t rest ro ido tag, ∃ tr : Nat → Bool, exec .snapshotBufferWritten s = .next t ∧ t.snap.phase = .idle ∧
        t.out = s.out ++ (pageParts (d.length / 4096 + 1) tok.ref.buf d).map
          (fun x => .dma 0 .snapshot x.1 x.2 ro ido (tr x.1) tag) ++ rest ∧
        t.ctr = s.ctr ∧ t.regs = s.regs)

/-- Sources of time. An edge of a PPS input counts when it is high for 100 ns and adds to a run when it comes 1 s ± 10 µs after the edge
before it, three of which qualify the input; an edge that fails to come disqualifies it. A time-of-day message of the right form within
its window names the edge, and one that contradicts a locked time disqualifies the source; any other is counted as an error. A PTP
message, an event message with the stamp that its frame took at the ball, gives its port's exchange t1 and t2, the mean path or a link delay, an announcement its UTC offset, and TB_UTC that of the active
PTP source's parent; a request puts its answer before the port's slice; the first message that says so makes its port the slave. A lost
slave, a host silent for 2 s, a higher source qualified for 10 s with revertive selection, and holdover at its limit have their effect.
The time is not moved. All this goes on in FATAL, PTP messages apart, unless the cause lies in the time/merge island (the model's
reading, assumption 97). -/
def Obligations.TimeSources : Prop := ∀ s : State, Live s → s.timeDead = false →
  (∀ input stamp highNs,
    ((s.tb.running = false ∨ 2 ≤ input ∨ highNs < 100) → exec (.ppsInEdge input stamp highNs) s = .next s) ∧
    (s.tb.running = true → input < 2 → 100 ≤ highNs → ∃ t, exec (.ppsInEdge input stamp highNs) s = .next t ∧
      (t.pps input).lastEdge = some stamp ∧
      ((s.pps input).lastEdge = none → (t.pps input).run = (s.pps input).run + 1) ∧
      (∀ l, (s.pps input).lastEdge = some l → l + secStamp ≤ stamp + 10 * usStamp → stamp ≤ l + secStamp + 10 * usStamp →
        (t.pps input).run = (s.pps input).run + 1 ∧ (t.pps input).ok = ((s.pps input).ok || decide (3 ≤ (s.pps input).run + 1))) ∧
      (∀ l, (s.pps input).lastEdge = some l → (stamp + 10 * usStamp < l + secStamp ∨ l + secStamp + 10 * usStamp < stamp) →
        (t.pps input).run = 1 ∧ (t.pps input).ok = false) ∧
      Settled t ∧ t.tb.time = s.tb.time ∧ t = { s with
        tb := t.tb, regs := t.regs, ldg := t.ldg, evr := t.evr, ctr := t.ctr, out := t.out, free := t.free })) ∧
  (∀ input, ((s.pps input).lastEdge = none → exec (.ppsEdgeTimeout input) s = .next s) ∧
    ∀ l, (s.pps input).lastEdge = some l →
      ((2 ≤ input ∨ s.now ≤ l + 11 * secStamp / 10) → exec (.ppsEdgeTimeout input) s = .next s) ∧
      (input < 2 → l + 11 * secStamp / 10 < s.now → ∃ t, exec (.ppsEdgeTimeout input) s = .next t ∧ (t.pps input).run = 0 ∧
        (t.pps input).ok = false ∧ Settled t ∧ t.tb.time = s.tb.time)) ∧
  (∀ msg stop,
    ((s.tb.running = false ∨ s.fld F.tbTodCtrl_rxEn = 0) → exec (.todRxMessage msg stop) s = .next s) ∧
    (s.tb.running = true → s.fld F.tbTodCtrl_rxEn ≠ 0 →
      ((s.pps 0).lastEdge = none → exec (.todRxMessage msg stop) s = .next (s.bump F.tbTodRxErr_count 1)) ∧
      ∀ l, (s.pps 0).lastEdge = some l →
        ((todForm msg = false ∨ stop < l + 10 * msStamp ∨ l + 900 * msStamp < stop ∨ (s.pps 0).named.isSome = true) →
          exec (.todRxMessage msg stop) s = .next (s.bump F.tbTodRxErr_count 1)) ∧
        (todForm msg = true → l + 10 * msStamp ≤ stop → stop ≤ l + 900 * msStamp → (s.pps 0).named = none →
          ∃ t, exec (.todRxMessage msg stop) s = .next t ∧ (t.pps 0).named = some (beNat (bytesAt msg 4 6)) ∧
            (s.tb.slave = none → t.regs = (s.bump F.tbTodRxOk_count 1).regs) ∧ Settled t ∧ t.tb.time = s.tb.time ∧
            ((s.tb.quality = .locked ∨ s.tb.quality = .holdover) → (beNat (bytesAt msg 4 6) : Int) ≠ nearestSecond l →
              (t.pps 0).todOk = false)))) ∧
  (s.evr.fatal = false → ∀ port m,
    ((s.configured port = false ∨ (s.port port).link = false ∨ s.tb.running = false ∨
      (isPtpEvent m.kind = true ∧ (port, m.rxStamp) ∉ s.tb.ptpRx)) → exec (.ptpMessage port m) s = .next s) ∧
    (s.configured port = true → (s.port port).link = true → s.tb.running = true →
      (isPtpEvent m.kind = true → (port, m.rxStamp) ∈ s.tb.ptpRx) → ∃ t, exec (.ptpMessage port m) s = .next t ∧
      (m.slave = true → s.tb.slave = none → t.tb.slave = some port) ∧
      (m.kind = .announce → (t.tb.ptp.getD port PtpSt.init).utcOffset = m.utcOffset ∧
        (s.tb.slave = some port → s.activeType = 4 → s.regs.cells.wf = true → t.fld F.tbUtc_offset = twos 16 m.utcOffset)) ∧
      (m.kind = .sync → (t.tb.ptp.getD port PtpSt.init).t1 = m.origin + m.correction ∧
        (t.tb.ptp.getD port PtpSt.init).t2 = m.rxStamp) ∧
      (∀ q, s.tb.ptp.getD port PtpSt.init = q →
        (m.kind = .delayResp → q.delayWaiting = true → (t.tb.ptp.getD port PtpSt.init).meanPath =
          ((q.t2 - q.t1) + ((m.response : Int) - m.correction - q.t3)) / 2) ∧
        (m.kind = .pdelayResp → q.pdWaiting = true → m.twoStep = false →
          (t.stp.cables.getD port CableSt.init).meas.head? = some (((m.rxStamp : Int) - q.pdT1 - m.correction) / 2))) ∧
      (∀ answer, (m.kind = .delayReq ∧ answer = ptpAnswer m port .delayResp false ∨
          m.kind = .pdelayReq ∧ answer = ptpAnswer m port .pdelayResp (!s.twoStep port)) →
        ∃ f, f.origin = .ptp answer ∧ f.d.dest = some (.port port) ∧
          (t.slice (sliceOf port)).injWait = (s.slice (sliceOf port)).injWait ++ [f]) ∧
      t.tb.time = s.tb.time ∧ t.coh = s.coh ∧ t.qm = s.qm ∧ t.flow = s.flow ∧ t.tm = s.tm)) ∧
  (∀ left, (s.tb.slave = none → exec (.ptpSlaveLost left) s = .next s) ∧
    (s.tb.slave ≠ none → ∃ t, exec (.ptpSlaveLost left) s = .next t ∧ t.tb.slave = none ∧ Settled t ∧ t.tb.time = s.tb.time)) ∧
  (s.tb.hostAt = none → exec .hostSourceTimeout s = .next s) ∧
  (∀ a, s.tb.hostAt = some a → (s.now < a + 2 * secStamp → exec .hostSourceTimeout s = .next s) ∧
    (a + 2 * secStamp ≤ s.now → ∃ t, exec .hostSourceTimeout s = .next t ∧ t.tb.hostAt = none ∧ Settled t)) ∧
  (∀ n a, s.tb.active = some a →
    ((s.fld F.tbCtrl_revertive ≠ 1 ∨ s.candidate n = false ∨ s.outranks n a = false ∨ s.now < (s.src n).since + 10 * secStamp) →
      exec (.revertiveSwitch n) s = .next s) ∧
    (n < 16 → s.fld F.tbCtrl_revertive = 1 → s.candidate n = true → s.outranks n a = true →
      (s.src n).since + 10 * secStamp ≤ s.now →
      ∃ t, exec (.revertiveSwitch n) s = .next t ∧ t.tb.active = some n ∧ t.tb.time = s.tb.time)) ∧
  (s.tb.quality ≠ .holdover → exec .holdoverExpired s = .next s) ∧
  (s.tb.quality = .holdover → s.tb.holdoverAt + s.fld F.tbHoldoverLimit_seconds * secStamp ≤ s.now →
    ∃ t, exec .holdoverExpired s = .next t ∧ t.tb.quality = .freeRun ∧ t.tb.time = s.tb.time)

/-- Steps and corrections. An automatic step waits while a commit or a snapshot is armed, and else steps; TIME_SET refuses a bad value, a
locked time base and a commit or snapshot armed, and else steps and reports the reading before; TIME_ADJUST refuses ranges, and any servo
state but FREE_RUN without a HOST source, and in FREE_RUN sets the frequency it was given; TIME_STATUS reports state, source and time. -/
def Obligations.TimeCommands : Prop :=
  (∀ s : State, Serving s →
    ((s.tb.stepWait = none ∨ s.stepHeld = true) → exec .timeStepAuto s = .next s) ∧
    (∀ w, s.tb.stepWait = some w → s.tb.running = true → s.mayStep = true → s.stepHeld = false →
      ∃ t, exec .timeStepAuto s = .next t ∧ Stepped s t ((s.tb.time : Int) + w.delta * 65536).toNat)) ∧
  ∀ (s : State) (r : AdminRef), PfStarts r s →
    (∀ sec ns frac, 1000000000 ≤ ns → exec (.timeSetAbsolute r sec ns frac) s = ends s r (s.adminOpen r) stInvalidField []) ∧
    ((s.tb.quality = .locked ∨ s.tb.quality = .holdover) →
      (∀ sec ns frac, ns < 1000000000 → exec (.timeSetAbsolute r sec ns frac) s = ends s r (s.adminOpen r) stNotPermitted []) ∧
      ∀ d, exec (.timeSetRelative r d) s = ends s r (s.adminOpen r) stNotPermitted []) ∧
    (s.tb.quality ≠ .locked → s.tb.quality ≠ .holdover → s.stepHeld = true →
      (∀ sec ns frac, ns < 1000000000 → exec (.timeSetAbsolute r sec ns frac) s = ends s r (s.adminOpen r) stBusy []) ∧
      ∀ d, exec (.timeSetRelative r d) s = ends s r (s.adminOpen r) stBusy []) ∧
    (s.tb.quality ≠ .locked → s.tb.quality ≠ .holdover → s.stepHeld = false →
      (∀ sec ns frac, ns < 1000000000 → ∃ u, exec (.timeSetAbsolute r sec ns frac) s =
          ends s r u stSuccess [(48, stampLe s.now)] ∧
        Stepped (s.adminOpen r) u ((sec % 2 ^ 48 * 1000000000 + ns) * 2 ^ 32 + frac % 65536 * 65536)) ∧
      ∀ d, ∃ u, exec (.timeSetRelative r d) s = ends s r u stSuccess [(48, stampLe s.now)] ∧
        Stepped (s.adminOpen r) u ((s.tb.time : Int) + d * 65536).toNat) ∧
    (∀ mode hint freq phase offset,
      ((4 ≤ mode ∨ 2 ≤ hint ∨ 500000000 < freq.natAbs) →
        exec (.timeAdjust r mode hint freq phase offset) s = ends s r (s.adminOpen r) stInvalidField []) ∧
      (mode < 4 → hint < 2 → freq.natAbs ≤ 500000000 →
        (s.tb.quality ≠ .freeRun → (∀ n < 16, s.fld (F.tbSrcCfg_enable n) ≠ 1 ∨ s.srcType n ≠ 5) →
          exec (.timeAdjust r mode hint freq phase offset) s = ends s r (s.adminOpen r) stNotPermitted []) ∧
        (s.tb.quality = .freeRun → ∃ u, exec (.timeAdjust r mode hint freq phase offset) s =
            ends s r u stSuccess [(48, le 8 u.remaining)] ∧
          u.tb.hostAt = some s.now ∧ u.tb.hint = hint ∧ u.tb.time = s.tb.time ∧
          (mode.testBit 0 = true → u.tb.freq = freqOf freq) ∧ u.coh = s.coh ∧ u.flow = s.flow))) ∧
    ∃ b, exec (.timeStatus r) s = ends s r (s.adminOpen r) stSuccess [(16, b)] ∧ b.length = 48 ∧
      b.take 4 = le 1 s.tb.quality.code ++ le 1 (s.tb.active.getD 0xFF) ++ le 1 s.activeType ++ le 1 s.frefIdx ∧
      (b.drop 8).take 12 = stampLe s.now

/-- Time outputs and event inputs. A PPS output rises once at its second boundary less the advance, and falls after its width; the
time-of-day message of the edge, 32 bytes with its CRC, follows when it is due. An event input's edge is stored, unless it is short or near
the one before it or the FIFO is full, which the overflow count tells. EVT_POP moves the oldest edge into the registers, or sets
EMPTY_POP. TIME_LATCH reads the time at one instant. PTP_MESSAGE_INTERVAL puts a message with the next sequence number before the slice of
its port, bound for that port. Outputs and event inputs go on in FATAL unless its cause lies in the time/merge island. -/
def Obligations.TimeOutputs : Prop := ∀ s : State, Live s → s.timeDead = false →
  (∀ n sec rise, (s.now + s.fld (F.tbPpsOutAdv_adv n) * 256) / secStamp = sec →
    sec * secStamp - s.fld (F.tbPpsOutAdv_adv n) * 256 = rise →
    ((2 ≤ n ∨ s.tb.running = false ∨ s.ppsRuns n = false ∨ rise + s.ppsWidth n ≤ s.now ∨
      (∃ t, s.tb.ppsRise.get? n = some t ∧ rise ≤ t)) → exec (.ppsOutRise n) s = .next s) ∧
    (n < 2 → s.tb.running = true → s.ppsRuns n = true → s.now < rise + s.ppsWidth n →
      (∀ t, s.tb.ppsRise.get? n = some t → t < rise) →
      ∃ t, exec (.ppsOutRise n) s = .next t ∧ t.out = s.out ++ [.ppsOut n true] ∧ t.tb.ppsRise = s.tb.ppsRise.set n rise ∧
        n ∈ t.tb.ppsHigh ∧ (s.fld F.tbTodCtrl_txEn = 1 → s.fld F.tbTodCtrl_txSel = n →
          t.tb.todDue = some (rise + 100 * msStamp, sec)) ∧ t = { s with tb := t.tb, out := t.out })) ∧
  (∀ n t, s.tb.ppsRise.get? n = some t →
    (s.now < t + s.ppsWidth n → exec (.ppsOutFall n) s = .next s) ∧
    (t + s.ppsWidth n ≤ s.now → n ∈ s.tb.ppsHigh → exec (.ppsOutFall n) s = .next { s with
      tb := { s.tb with ppsHigh := s.tb.ppsHigh.erase n }, out := s.out ++ [.ppsOut n false] })) ∧
  (s.tb.todDue = none → exec .todTxMessage s = .next s) ∧
  (∀ t sec, s.tb.todDue = some (t, sec) → (s.now < t → exec .todTxMessage s = .next s) ∧
    (t ≤ s.now → s.fld F.tbTodCtrl_txEn ≠ 0 → ∃ m, todForm m = true ∧ (m.drop 4).take 6 = be 6 sec ∧
      exec .todTxMessage s = .next { s with
        tb := { s.tb with todDue := none, todSeq := (s.tb.todSeq + 1) % 65536 }, out := s.out ++ [.tod m] })) ∧
  (∀ n stamp width falling,
    ((4 ≤ n ∨ s.tb.running = false ∨ (s.fld F.tbEvtCtrl_enable).testBit n = false ∨ (s.fld F.tbEvtCtrl_edge).testBit n ≠ falling) →
      exec (.evtInEdge n stamp width falling) s = .next s) ∧
    (n < 4 → s.tb.running = true → (s.fld F.tbEvtCtrl_enable).testBit n = true →
      (s.fld F.tbEvtCtrl_edge).testBit n = falling →
      ((width < 10 ∨ ∃ t, s.tb.evtLast.get? n = some t ∧ stamp < t + 100 * nsStamp) →
        exec (.evtInEdge n stamp width falling) s = .next (s.bump (F.tbEvtOvf_ovf n) 1)) ∧
      (10 ≤ width → (∀ t, s.tb.evtLast.get? n = some t → t + 100 * nsStamp ≤ stamp) →
        ((s.tb.evt.getD n []).length < 64 → exec (.evtInEdge n stamp width falling) s = .next { s with tb := { s.tb with
          evtLast := s.tb.evtLast.set n stamp, evt := s.tb.evt.set n (s.tb.evt.getD n [] ++ [stamp]) } }) ∧
        (64 ≤ (s.tb.evt.getD n []).length → ∃ t, exec (.evtInEdge n stamp width falling) s = .next t ∧
          t.tb.evt = s.tb.evt ∧ t.regs = (s.bump (F.tbEvtOvf_ovf n) 1).regs)))) ∧
  (s.evr.fatal = false → ∀ n, n < 4 →
    (s.tb.evt.getD n [] = [] → exec (.evtPop n) s = .next (s.setFld (F.tbEvtStatus_emptyPop n) 1)) ∧
    (∀ e rest, s.regs.cells.wf = true → s.tb.evt.getD n [] = e :: rest → ∃ t, exec (.evtPop n) s = .next t ∧
      t.tb = { s.tb with evt := s.tb.evt.set n rest } ∧ t.fld (F.tbEvtSecH_secH n) = hi32 (e / secStamp) % 65536 ∧
      t.fld (F.tbEvtSecL_secL n) = lo32 (e / secStamp) ∧ t.fld (F.tbEvtNs_ns n) = e / nsStamp % 1000000000 ∧
      t.fld (F.tbEvtFrac_frac n) = e % nsStamp ∧ t = { s with tb := t.tb, regs := t.regs })) ∧
  (s.evr.fatal = false → s.regs.cells.wf = true → ∃ t, exec .timeLatch s = .next t ∧ t.reg Reg.tbTimeSecH = hi32 (s.now / secStamp) % 65536 ∧
    t.reg Reg.tbTimeSecL = lo32 (s.now / secStamp) ∧ t.reg Reg.tbTimeNs = s.now / nsStamp % 1000000000 ∧
    t.reg Reg.tbTimeFrac = s.now % nsStamp ∧ t = { s with regs := t.regs }) ∧
  (s.evr.fatal = false → ∀ port kind v,
    ((s.configured port = false ∨ (s.port port).link = false ∨ s.tb.running = false) →
      exec (.ptpMessageInterval port kind v) s = .next s) ∧
    (s.configured port = true → (s.port port).link = true → s.tb.running = true →
      ∃ t f, exec (.ptpMessageInterval port kind v) s = .next t ∧
        (t.slice (sliceOf port)).injWait = (s.slice (sliceOf port)).injWait ++ [f] ∧ f.id = s.nextFrame ∧
        f.origin = .ptp ⟨port, ptpKindOf kind, !s.twoStep port, t.tb.ptpSeq.getD port 0, 0, 0, [], some v, 0⟩ ∧ f.d.dest = some (.port port) ∧ f.d.named = [0] ∧
        t.tb.ptpSeq = s.tb.ptpSeq.modify port 0 (fun n => (n + 1) % 65536) ∧ t.tm = s.tm ∧ t.flow = s.flow ∧ t.out = s.out))

/-- Calibration and cable delays. A Calender pass starts on a die that is in none, 99 ms after the one before; its result is accepted only when every rate
locked and no delta exceeds 2 ns, and then waits, with the time of its completion, for a Ream boundary: the values applied do not change.
A result refused is counted and reported. Calibration gone stale is reported and marks the Ream in progress. A measured cable delay not
renewed for 10 s is not used any longer. -/
def Obligations.CalibrationPasses : Prop := ∀ s : State, Serving s →
  (∀ die, ((4 ≤ die ∨ s.tb.running = false ∨ (s.die die).inPass = true ∨ ∃ x, (s.die die).passAt = some x ∧ s.now < x + 99 * msStamp) →
      exec (.calenderPass die) s = .next s) ∧
    (die < 4 → s.tb.running = true → (s.die die).inPass = false → (∀ x, (s.die die).passAt = some x → x + 99 * msStamp ≤ s.now) →
      ∃ t, exec (.calenderPass die) s = .next t ∧ t.die die = { s.die die with inPass := true, passAt := some s.now } ∧
      (∀ d, d ≠ die → t.die d = s.die d) ∧ t = { s with stp := t.stp })) ∧
  (∀ die c, ((4 ≤ die ∨ (s.die die).inPass = false) → exec (.calenderPassComplete die c) s = .next s) ∧
    (die < 4 → (s.die die).inPass = true →
      ((∀ r < 5, c.locks.getD r false = true ∧ (c.rx.getD r 0).natAbs ≤ 2048 ∧ (c.tx.getD r 0).natAbs ≤ 2048) →
        c.ofs.natAbs ≤ 131072 → ∃ t v, exec (.calenderPassComplete die c) s = .next t ∧ (t.die die).results = (s.now, v) :: (s.die die).results ∧ v.ofs = c.ofs ∧
          v.rx.length = 5 ∧ (∀ r < 5, v.rx.getD r 0 = c.rx.getD r 0 ∧ v.tx.getD r 0 = c.tx.getD r 0) ∧
          (t.die die).doneAt = some s.now ∧ (t.die die).applied = (s.die die).applied ∧ (t.die die).inPass = false ∧
          t = { s with stp := t.stp, ldg := t.ldg, evr := t.evr, ctr := t.ctr, out := t.out }) ∧
      ((131072 < c.ofs.natAbs ∨ ∃ r < 5, c.locks.getD r false = false ∨ 2048 < (c.rx.getD r 0).natAbs ∨
          2048 < (c.tx.getD r 0).natAbs) → ∃ x k e, 1 ≤ k ∧ k ≤ 4 ∧
        exec (.calenderPassComplete die c) s = .next (({ s with stp := x }).event 0x2010 2 [.q die, .q e, .q k]) ∧
        x = { s.stp with dies := x.dies } ∧ (x.dies.getD die DieCal.init) = { s.die die with
          inPass := false, rejects := (s.die die).rejects + 1, pilotFail := (x.dies.getD die DieCal.init).pilotFail }))) ∧
  (∃ t, exec .calStale s = .next t ∧ t.stp = { s.stp with stale := t.stp.stale } ∧
    (t.stp.stale = true ↔ ∃ d < 4, (s.die d).everApplied = false ∨
      ∀ x, (s.die d).doneAt = some x → x + s.fld F.stpCtrl_staleMs * msStamp < s.now) ∧
    (∀ c, s.ldg.cur = some c → ∃ c', t.ldg.cur = some c' ∧ c'.stale = (c.stale || t.stp.stale)) ∧
    (t.stp.stale = true → s.stp.stale = false → t.evr = (s.event 0x2011 2 []).evr) ∧
    t = { s with stp := t.stp, ldg := t.ldg, evr := t.evr, ctr := t.ctr, out := t.out }) ∧
  ∀ port c, s.stp.cables.getD port CableSt.init = c →
    ((c.valid = false ∨ s.now < c.lastAt + 10 * secStamp) → exec (.cableMeasTimeout port) s = .next s) ∧
    (c.valid = true → c.lastAt + 10 * secStamp ≤ s.now → exec (.cableMeasTimeout port) s = .next (State.event { s with
      stp := { s.stp with cables := s.stp.cables.set port { c with valid := false, pending := none } } } 0x2013 1 []))

/-- The life of a Ream. At its boundary, and not before, it ends and the next number begins there; the oldest one that has ended is sealed once it is
due: its root chains the root before it, and its header enters the reserve in order while there is room and a signer. A signature releases
its header, signed with its Ream's key, and reserves 65,536 Reams for the next checkpoint; a failed one takes the signer out. A checkpoint
is in force only when a device holds it. -/
def Obligations.ReamLife : Prop := ∀ s : State, Serving s →
  (s.ldg.cur = none → exec .reamBoundary s = .next s) ∧
  (∀ c, s.ldg.cur = some c → (s.now < nextBoundary s.reamSpan c.start → exec .reamBoundary s = .next s) ∧
    (nextBoundary s.reamSpan c.start ≤ s.now → s.reservedOut (c.num + 1) = false → ∃ t n, exec .reamBoundary s = .next t ∧
      t.ldg.cur = some n ∧ n.num = c.num + 1 ∧ n.start = nextBoundary s.reamSpan c.start ∧ n.step = false ∧
      (∃ r ∈ t.ldg.ended, r.num = c.num ∧ r.stop = some (nextBoundary s.reamSpan c.start) ∧ r.step = false) ∧
      t.tb.time = s.tb.time ∧ t.coh.epoch = s.coh.epoch)) ∧
  ((s.ldg.ended = [] ∨ ∃ r, s.ldg.ended.getLast? = some r ∧ (s.now < r.sealAt ∨ s.reservedOut r.num = true)) →
    exec .reamSeal s = .next s) ∧
  (∀ l r, s.ldg.ended = l ++ [r] → (∀ x ∈ l, x.num ≠ r.num) → (∀ c, s.ldg.cur = some c → c.num ≠ r.num) → r.sealAt ≤ s.now →
    s.reservedOut r.num = false → ∃ t root d, exec .reamSeal s = .next t ∧ t.ldg.prevNum = r.num ∧ t.ldg.sealedNum = r.num ∧
      t.ldg.prevRoot = root ∧ t.ldg.sealedRoot = root ∧
      root = sm3 (0x02 :: (be 8 r.num ++ s.ldg.prevRoot ++ be 1 r.ledgerPorts.length ++ d)) ∧ t.ldg.ended.length = l.length ∧
      (s.ldg.headers.length < headerSlots → s.signersUp ≠ [] → ∃ h, t.ldg.headers.getLast? = some h ∧ h.ream = r.num ∧
        h.root = root ∧ h.released = false ∧ t.ldg.headers.length = s.ldg.headers.length + 1) ∧
      (headerSlots ≤ s.ldg.headers.length → t.ldg.headers = s.ldg.headers) ∧ t.tb = s.tb ∧ t.coh = s.coh ∧ t.flow = s.flow) ∧
  (∀ n, (3 ≤ n ∨ s.working .signer 0 n = false ∨ (∀ h ∈ s.ldg.headers, h.released = true ∨ h.signer ≠ some n)) →
    ∀ ok, exec (.signatureComplete n ok) s = .next s) ∧
  (∀ n h, n < 3 → s.up .signer 0 n = true → s.unsignedHeaders.find? (fun h => decide (h.signer = some n)) = some h →
    (∃ t, exec (.signatureComplete n true) s = .next t ∧ (s.ldg.lastReleased ≤ h.ream → t.ldg.lastUnsigned = false) ∧
      (∃ k, t.ldg.lastReam = some k ∧ k.ream = h.ream ∧ k.root = h.root ∧ k.reserved = h.ream + 65536) ∧
      (h.stop % secStamp = 0 → t.ldg.ckptWaiting = t.ldg.lastReam) ∧
      (∀ x ∈ t.ldg.headers, x.ream = h.ream → x.released = true ∧ x.signer = none ∧
        ∃ random, x.sig = sm2Sign (Config.unwrap h.wrapped) h.body random) ∧ t.tb = s.tb) ∧
    (s.recordOpen (.signer, 0, n) = false → s.evr.records.length < 64 → ∃ t, exec (.signatureComplete n false) s = .next t ∧
      (t.unit .signer 0 n).state = .outOfService)) ∧
  (s.ldg.ckptWriting.isSome = true → exec .checkpointWrite s = .next s) ∧
  (s.ldg.ckptWriting = none → s.ldg.ckptWaiting = none → s.nearReservation = false → exec .checkpointWrite s = .next s) ∧
  (∀ k, s.ldg.ckptWriting = none → s.ldg.ckptWaiting = some k → exec .checkpointWrite s = .next { s with ldg := { s.ldg with
    ckptSeq := s.ldg.ckptSeq + 1, ckptWriting := some { k with seq := s.ldg.ckptSeq + 1 }, ckptWaiting := none } }) ∧
  (∀ ok0 ok1, s.ldg.ckptWriting = none → exec (.checkpointProgramComplete ok0 ok1) s = .next s) ∧
  (∀ k, s.ldg.ckptWriting = some k → s.nvm.mirror = true → s.up .flash 0 0 = true → s.up .flash 0 1 = true →
    (∃ t, exec (.checkpointProgramComplete true true) s = .next t ∧ t.ldg.newestCkpt = some k ∧ t.ldg.ckptOk0 = true ∧
      t.ldg.ckptOk1 = true ∧ t.ldg.ckpt0 = k.bytes :: s.ldg.ckpt0 ∧ t.ldg.ckpt1 = k.bytes :: s.ldg.ckpt1 ∧ t.ldg.ckptWriting = none) ∧
    ∃ t, exec (.checkpointProgramComplete false false) s = .next t ∧ t.ldg.newestCkpt = s.ldg.newestCkpt ∧
      t.ldg.ckpt0 = s.ldg.ckpt0 ∧ t.ldg.ckpt1 = s.ldg.ckpt1 ∧ t.ldg.ckptWriting = none)

/-- Faults of the ledger's units. A unit that is out of service or under test has none. A fault of an SM3 engine takes it out of service, and
a standing-by spare takes its role with the ledger as it was; a fault of a side of the Ream builder takes it out, and the other side goes
on while it serves, with no other change to the ledger; with no side left the device is FATAL. -/
def Obligations.LedgerUnitFaults : Prop := ∀ s : State, Serving s →
  (∀ sl e, (8 ≤ sl ∨ 11 ≤ e ∨ (s.unit .sm3Engine sl e).state = .outOfService ∨ (s.unit .sm3Engine sl e).state = .testing) →
    exec (.sm3EngineFault sl e) s = .next s) ∧
  (∀ sl e, sl < 8 → e < 10 → (s.unit .sm3Engine sl e).state = .inService → s.recordOpen (.sm3Engine, sl, e) = false →
    s.evr.records.length < 64 →
    (s.unit .sm3Engine sl 10).state = .outOfService → (s.unit .sm3Engine sl 10).reason = 6 →
    (s.unit .sm3Engine sl 10).fault = false → ∃ t, exec (.sm3EngineFault sl e) s = .next t ∧
      (t.unit .sm3Engine sl e).state = .outOfService ∧ (t.unit .sm3Engine sl 10).state = .inService ∧
      (t.unit .sm3Engine sl 10).role = some e ∧ t.ldg = s.ldg ∧ t.evr.fatal = false ∧ t.tb = s.tb ∧ t.flow = s.flow) ∧
  (∀ x, (2 ≤ x ∨ (s.unit .builderSide 0 x).state = .outOfService ∨ (s.unit .builderSide 0 x).state = .testing) →
    exec (.builderSideFault x) s = .next s) ∧
  ∀ x, x < 2 → (s.unit .builderSide 0 x).state = .inService → s.recordOpen (.builderSide, 0, x) = false →
    (s.up .builderSide 0 (1 - x) = true → s.evr.records.length < 64 → ∃ t, exec (.builderSideFault x) s = .next t ∧
      (t.unit .builderSide 0 x).state = .outOfService ∧ t.ldg = { s.ldg with builderB := decide (x = 0) } ∧ t.evr.fatal = false) ∧
    (s.up .builderSide 0 (1 - x) = false → ∃ t, exec (.builderSideFault x) s = .next t ∧ t.evr.fatal = true ∧
      t.hif.silenced = true)

/-- Ledger data to the host and the archive. Records and headers go only to an enabled ring set that has the host as destination, while
the link carries requests, the ring has room and it is the ledger's turn on the link, each at its slot; the producer index moves on, and the records taken leave. A
consumer index that would pass its producer is ignored. Moderation raises the vector at its count or timer. What the archive has taken
advances its newest Ream, a Write that failed stays for the reconnection, the two index blocks are written once per second, and a failed
archive connection begins again when its wait is over. -/
def Obligations.RingsAndArchive : Prop := ∀ s : State, Serving s →
  ∀ parts : Nat → Bytes → List (Nat × Bytes), (∀ addr d, parts addr d = pageParts (d.length / 4096 + 1) addr d) →
  (∀ set r, s.ringSet set = r →
    ((r.enabled = false ∨ r.dest = 1 ∨ s.hostTakes = false ∨ s.ledgerTurn = false) → exec (.recordRingWrite set) s = .next s ∧
      exec (.headerRingWrite set) s = .next s) ∧
    (∀ l, (s.writable set fun x => !x.hostDone).take (ringRoom r.recProd r.recCons r.recLog2) = l →
      (l = [] → exec (.recordRingWrite set) s = .next s) ∧
      (∀ x l', r.enabled = true → r.dest ≠ 1 → s.hostTakes = true → s.ledgerTurn = true → s.mayIssue 0 = true → l = x :: l' →
        ∃ t rest ro ido tag, ∃ tr : Nat → Bool, exec (.recordRingWrite set) s = .next t ∧
          (t.ringSet set).recProd = r.recProd + BitVec.ofNat 32 l.length ∧ (t.ringSet set).hdrProd = r.hdrProd ∧
          t.out = s.out ++ (parts (r.recBase + r.recProd.toNat % 2 ^ r.recLog2 * 64) (recordBytes x.1.ream x.2 x.1.leaf)).map
            (fun d => .dma 0 .ledger d.1 d.2 ro ido (tr d.1) tag) ++ rest ∧
          (r.dest = 0 → ∀ y ∈ t.ldg.records, y.set = set → y.hostDone = false) ∧ t.tb = s.tb ∧ t.flow = s.flow ∧ t.coh = s.coh)) ∧
    (∀ l, (s.headersFor set false).take (ringRoom r.hdrProd r.hdrCons r.hdrLog2) = l →
      (l = [] → exec (.headerRingWrite set) s = .next s) ∧
      (∀ x l', r.enabled = true → r.dest ≠ 1 → s.hostTakes = true → s.ledgerTurn = true → s.mayIssue 0 = true → l = x :: l' →
        ∃ t rest ro ido tag, ∃ tr : Nat → Bool, exec (.headerRingWrite set) s = .next t ∧
          (t.ringSet set).hdrProd = r.hdrProd + BitVec.ofNat 32 l.length ∧ (t.ringSet set).recProd = r.recProd ∧
          (∀ h, l.getLast? = some h → (t.ringSet set).sealedReam = h.ream) ∧
          t.out = s.out ++ (parts (r.hdrBase + r.hdrProd.toNat % 2 ^ r.hdrLog2 * 12288) x.slot).map
            (fun d => .dma 0 .ledger d.1 d.2 ro ido (tr d.1) tag) ++ rest ∧
          t.tb = s.tb ∧ t.flow = s.flow ∧ t.coh = s.coh)) ∧
    (s.hif.dlUp = false → ∀ header cons, exec (.ledgerConsumerWrite set header cons) s = .next s) ∧
    (s.hif.dlUp = true → s.fnDecodes 0 = false → ∀ header cons, exec (.ledgerConsumerWrite set header cons) s =
      .next ((s.touch 4).unsupportedReq 0)) ∧
    (∀ cons, set < 4 → s.hif.dlUp = true → s.fnDecodes 0 = true →
      (r.recProd - r.recCons < cons - r.recCons → exec (.ledgerConsumerWrite set false cons) s =
        .next ((s.touch 4).noticeAddr (F.ldgRingRecCons_cons set).addr)) ∧
      (cons - r.recCons ≤ r.recProd - r.recCons → exec (.ledgerConsumerWrite set false cons) s = .next { s.touch 4 with
        ldg := { s.ldg with sets := s.ldg.sets.set set { r with recCons := cons } }
        regs := (s.setReg (F.ldgRingRecCons_cons set).addr cons.toNat).regs }) ∧
      (r.hdrProd - r.hdrCons < cons - r.hdrCons → exec (.ledgerConsumerWrite set true cons) s =
        .next ((s.touch 4).noticeAddr (F.ldgRingHdrCons_cons set).addr)) ∧
      (cons - r.hdrCons ≤ r.hdrProd - r.hdrCons → exec (.ledgerConsumerWrite set true cons) s = .next { s.touch 4 with
        ldg := { s.ldg with sets := s.ldg.sets.set set { r with hdrCons := cons } }
        regs := (s.setReg (F.ldgRingHdrCons_cons set).addr cons.toNat).regs })) ∧
    (set < 4 →
      (r.modEntries = 0 → exec (.ledgerRingModeration set) s = .next s) ∧
      (r.modEntries < s.fld (F.ldgRingMod_count set) →
        (∀ a, r.modFirst = some a → s.now < a + s.fld (F.ldgRingMod_timerUs set) * usStamp) →
        exec (.ledgerRingModeration set) s = .next s) ∧
      (r.modEntries ≠ 0 → (s.fld (F.ldgRingMod_count set) ≤ r.modEntries ∨
          ∃ a, r.modFirst = some a ∧ a + s.fld (F.ldgRingMod_timerUs set) * usStamp ≤ s.now) →
        ∃ t, exec (.ledgerRingModeration set) s = .next t ∧ t.ringSet set = { r with modEntries := 0, modFirst := none } ∧
          ((s.fn 0).msixEnable = true → (s.fn 0).maskAll = false → r.vector ∈ (s.fn 0).vecUnmasked → s.hostTakes = true →
            s.mayIssue 0 = true → t.out = s.out ++ [.msix 0 r.vector
              (((s.fn 0).vecTable.getD (4 * r.vector) 0).toNat + 2 ^ 32 * ((s.fn 0).vecTable.getD (4 * r.vector + 1) 0).toNat)
              ((s.fn 0).vecTable.getD (4 * r.vector + 2) 0).toNat (s.fn 0).idoEnable]) ∧
          ((s.fn 0).maskAll = true → t.out = s.out ∧ r.vector ∈ (t.fn 0).vecPending))) ∧
    (r.conn = none → exec (.archiveIndexWrite set) s = .next s ∧ exec (.archiveReconnect set) s = .next s ∧
      ∀ lba ok, exec (.archiveWriteComplete set lba ok) s = .next s) ∧
    ∀ i c, r.conn = some i → s.conn i = some c →
      (∀ lba o, c.archOps.find? (fun o => decide (o.lba = lba) && !o.failed && !o.index) = some o →
        (∃ t, exec (.archiveWriteComplete set lba true) s = .next t ∧
          (o.header = false → (t.ringSet set).newestRec = max r.newestRec o.ream) ∧
          (o.header = true → (t.ringSet set).newestHdr = max r.newestHdr o.ream)) ∧
        (r.enabled = true → ∃ t c', exec (.archiveWriteComplete set lba false) s = .next t ∧
          (t.ringSet set) = { r with archErr := true } ∧ t.conn i = some c' ∧
          (∃ x ∈ c'.archOps, x.cid = o.cid ∧ x.failed = true) ∧ t.ldg.records = s.ldg.records)) ∧
      (r.enabled = true → r.archUp = true → r.dest ≠ 0 → s.nextBlock set = [] →
        (∀ h ∈ s.headersFor set true, set ∈ h.archBusy) →
        (s.now < r.indexAt → exec (.archiveIndexWrite set) s = .next s) ∧
        (r.indexAt ≤ s.now → 2 ≤ c.archRoom → ∃ t c', exec (.archiveIndexWrite set) s = .next t ∧
          (t.ringSet set) = { r with indexAt := s.now + secStamp } ∧ t.conn i = some c' ∧
          c'.archOps.map (fun o => (o.header, o.index, o.lba, o.ream)) = c.archOps.map (fun o => (o.header, o.index, o.lba, o.ream)) ++
            [(false, true, r.recLba, r.newestRec), (true, true, r.hdrLba, r.newestHdr)])) ∧
      ((c.state ≠ .failed ∨ s.now < r.retryAt) → exec (.archiveReconnect set) s = .next s) ∧
      (c.state = .failed → r.retryAt ≤ s.now → ∃ t c' f, exec (.archiveReconnect set) s = .next t ∧ t.conn i = some c' ∧
        c'.state = .connecting ∧ c'.step = 0 ∧ c'.since = s.now ∧ c'.archOps = c.archOps ∧ c'.reno = NewReno.start c.info.mss ∧
        c'.unacked.map (fun g => (g.syn, g.fin)) = [(true, false)] ∧
        (t.slice (sliceOf c.info.port)).injWait = (s.slice (sliceOf c.info.port)).injWait ++ [f] ∧ f.origin = .storage i ∧
        t.ldg = s.ldg))

/-- Ring sets and keys by command. ENABLE_SET refuses fields out of range and a set already enabled, and starts its rings at 0; ARCHIVE binds a
connection of its own and two regions that do not overlap; DISABLE_SET of a set without an archive completes at once. A key rotation
writes a new key, its private key wrapped, under the KEY_ID of its public key, never in the slot that signs; EXPORT_KEY writes the certificate. -/
def Obligations.LedgerCommands : Prop := ∀ (s : State) (r : AdminRef), PfStarts r s →
  (∀ a : RingSetArgs,
    ((s.adminOpen r).ringArgsOk a = false → exec (.ledgerEnableSet r a) s = ends s r (s.adminOpen r) stInvalidField []) ∧
    ((s.adminOpen r).ringArgsOk a = true → (s.ringSet a.set).enabled = true →
      exec (.ledgerEnableSet r a) s = ends s r (s.adminOpen r) stBusy []) ∧
    ((s.adminOpen r).ringArgsOk a = true → (s.ringSet a.set).enabled = false → ∃ u x, exec (.ledgerEnableSet r a) s =
        ends s r u stSuccess [] ∧ u.ringSet a.set = x ∧ x.enabled = true ∧ x.dest = a.dest ∧ x.recLog2 = a.recLog2 ∧
      x.hdrLog2 = a.hdrLog2 ∧ x.vector = a.vector ∧ x.recBase = a.recBase ∧ x.hdrBase = a.hdrBase ∧ x.tailBase = a.tailBase ∧
      x.recProd = 0 ∧ x.recCons = 0 ∧ x.hdrProd = 0 ∧ x.hdrCons = 0 ∧ x.conn = (s.ringSet a.set).conn ∧
      (∀ n, n ≠ a.set → u.ringSet n = s.ringSet n) ∧ u.tb = s.tb ∧ u.coh = s.coh ∧ u.flow = s.flow)) ∧
  (∀ a : ArchiveArgs,
    ((4 ≤ a.set ∨ lbasOverlap a.recLba a.recLbas a.hdrLba a.hdrLbas = true ∨ a.recLbas < 2 ∨ a.hdrLbas < 4) →
      exec (.ledgerArchive r a) s = ends s r { s.adminOpen r with free := s.free + 1 } stInvalidField []) ∧
    (a.set < 4 → lbasOverlap a.recLba a.recLbas a.hdrLba a.hdrLbas = false → a.recLbas % 8 = 0 → a.hdrLbas % 8 = 0 →
      16 ≤ a.recLbas → 32 ≤ a.hdrLbas →
      ((s.ownerOf a.conn = none ∨ s.conn (handleIndex a.conn) = none) →
        exec (.ledgerArchive r a) s = ends s r { s.adminOpen r with free := s.free + 1 } stNotFound []) ∧
      ∀ o c, s.ownerOf a.conn = some o → s.conn (handleIndex a.conn) = some c →
        (c.info.wq ≠ 0xFFFFFFFF → exec (.ledgerArchive r a) s =
          ends s r { s.adminOpen r with free := s.free + 1 } stNotPermitted []) ∧
        (c.info.wq = 0xFFFFFFFF → ((s.ringSet a.set).enabled = true ∨ (c.archive.isSome = true ∧ c.archive ≠ some a.set)) →
          exec (.ledgerArchive r a) s = ends s r { s.adminOpen r with free := s.free + 1 } stBusy []) ∧
        (c.info.wq = 0xFFFFFFFF → (s.ringSet a.set).enabled = false → (c.archive = none ∨ c.archive = some a.set) →
          ∃ u x c', exec (.ledgerArchive r a) s = ends s r u stSuccess [] ∧ u.ringSet a.set = x ∧
            x.conn = some (handleIndex a.conn) ∧ x.nsid = a.nsid ∧ x.recLba = a.recLba ∧ x.recLbas = a.recLbas ∧ x.hdrLba = a.hdrLba ∧
            x.hdrLbas = a.hdrLbas ∧ x.recPos = 0 ∧ x.hdrPos = 0 ∧ x.recWraps = 0 ∧ x.hdrWraps = 0 ∧ x.enabled = false ∧
            u.conn (handleIndex a.conn) = some c' ∧ c'.archive = some a.set ∧ c'.state = c.state ∧ u.tb = s.tb))) ∧
  (∀ set, (4 ≤ set → exec (.ledgerDisableSet r set) s = ends s r (s.adminOpen r) stInvalidField []) ∧
    (set < 4 → (s.ringSet set).enabled = false → exec (.ledgerDisableSet r set) s = ends s r (s.adminOpen r) stSuccess []) ∧
    (set < 4 → (s.ringSet set).enabled = true →
      ((s.ringSet set).conn = none → ∃ u, exec (.ledgerDisableSet r set) s = ends s r u stSuccess [] ∧
        (u.ringSet set).enabled = false ∧ (u.ringSet set).disabling = none ∧
        (∀ h ∈ u.ldg.headers, ∀ d ∈ h.owed, d.1 ≠ set)) ∧
      (∀ i c o, (s.ringSet set).conn = some i → s.conn i = some c → o ∈ c.archOps → o.failed = false →
        ∃ t, exec (.ledgerDisableSet r set) s = .next t ∧ (t.ringSet set).enabled = false ∧
          (t.ringSet set).disabling = some (s.token r) ∧ t.qm = (s.adminOpen r).qm))) ∧
  (∀ slot len,
    ((4 ≤ slot ∨ len < 200) → exec (.ledgerRotateKey r slot len) s = ends s r (s.adminOpen r) stInvalidField []) ∧
    (200 ≤ len → slot < 4 → slot = s.ldg.keySel → exec (.ledgerRotateKey r slot len) s =
      ends s r (s.adminOpen r) stNotPermitted []) ∧
    (200 ≤ len → slot < 4 → slot ≠ s.ldg.keySel → s.regs.reamWait.get? F.ldgCtrl_keySel.addr = none → s.regs.armed.get? F.ldgCtrl_keySel.addr = none →
      slot ≠ getBits ((s.adminOpen r).stagedView F.ldgCtrl_keySel.addr) F.ldgCtrl_keySel.lo F.ldgCtrl_keySel.width →
      ((∃ t, s.ldg.lastRotate = some t ∧ s.now < t + 10 * secStamp) → exec (.ledgerRotateKey r slot len) s =
        ends s r (s.adminOpen r) stBusy []) ∧
      ((∀ t, s.ldg.lastRotate = some t → t + 10 * secStamp ≤ s.now) → ∃ t x pub wrapped cert, exec (.ledgerRotateKey r slot len) s = .next t ∧
        t.nvm.writing = s.nvm.writing ++ [(x, .rotateKey (s.token r) slot (beNat ((sm3 pub).take 8)) len)] ∧
        x.kind = .ledgerKey slot (beNat ((sm3 pub).take 8)) pub wrapped cert ∧
        (∃ secret, wrapped = Config.wrap secret ∧ pub = (Config.publicOf secret ++ zeros 64).take 64) ∧ pub.length = 64 ∧ x.seq = s.nvm.nextSeq ∧
        t.ldg = s.ldg ∧ t.qm = (s.adminOpen r).qm))) ∧
  ∀ slot id len,
    ((len < 200 ∨ (4 ≤ slot ∧ slot ≠ 0xFF)) → exec (.ledgerExportKey r slot id len) s =
      ends s r (s.adminOpen r) stInvalidField []) ∧
    (200 ≤ len → (slot < 4 ∨ slot = 0xFF) →
      (s.exportedKey slot id = none → exec (.ledgerExportKey r slot id len) s = ends s r (s.adminOpen r) stNotFound []) ∧
      (∀ k, s.exportedKey slot id = some k → exec (.ledgerExportKey r slot id len) s =
        ends s r ((s.adminOpen r).dma 0 .writeBack r.buf k.cert) stSuccess []))

/-- The configuration store. A record is written when every device in service holds it, and is then in the ring with its marker: only then does the
commit arm, the reservation of epochs hold or the key stand in its slot. Compaction starts when it is due, reads back the merged image, and
a superblock names it, or it stops with what is in effect left alone. NVM_COMPACT and NVM_STATUS answer as their rules say; a third
failure in a row takes a device out; a refresh, once in 24 hours, reports each structure; a device that was behind serves again once it holds the store. -/
def Obligations.StoreWrites : Prop :=
  (∀ s : State, Serving s →
    (∀ ok0 ok1, s.nvm.writing = [] → exec (.journalWriteComplete ok0 ok1) s = .next s) ∧
    (∀ r why rest, s.nvm.writing = (r, why) :: rest → s.nvm.mirror = true → s.up .flash 0 0 = true → s.up .flash 0 1 = true →
      r.headerOk = [] →
      (∃ t x, exec (.journalWriteComplete true true) s = .next t ∧ t.nvm.writing = rest ∧
        x ∈ t.nvm.journal ∧
        x = { r with page := s.nvm.jrnPos, devices := [0, 1], headerOk := [0, 1], markerOk := [0, 1] } ∧
        (∀ v b e, r.kind = .commit v b e → why = .commit → t.coh.phase = .arming ∧ t.coh.epoch = s.coh.epoch) ∧
        (∀ n, r.kind = .epochReserve n → t.coh = { s.coh with hwm := max s.coh.hwm n }) ∧
        (∀ slot id pub wrapped cert tok a b len, r.kind = .ledgerKey slot id pub wrapped cert → why = .rotateKey tok a b len →
          t.ldg.keys = s.ldg.keys.set slot ⟨id, pub, wrapped, cert⟩ ∧ t.ldg.lastRotate = some s.now) ∧ t.tb = s.tb ∧ t.regs = s.regs) ∧
      (s.flashFailures 1 < 2 → ∃ t, exec (.journalWriteComplete true false) s = .next t ∧
        t.nvm.writing = ({ r with headerOk := [0] }, why) :: rest ∧ t.nvm.journal = s.nvm.journal ∧
        t.flashFailures 1 = s.flashFailures 1 + 1 ∧ t.flashFailures 0 = 0 ∧ t.coh = s.coh ∧ t.ldg = s.ldg)) ∧
    (s.compactDue = false → exec .compactionStart s = .next s) ∧
    (s.compactDue = true → ∃ t, exec .compactionStart s = .next t ∧ t.nvm.compacting = true ∧ t.nvm.compactAsked = false ∧
      t.nvm.active = s.nvm.active ∧ t.nvm.base = s.nvm.base ∧ t.nvm.journal = s.nvm.journal ∧
      (s.nvm.bases.wf = true → ∀ d ∈ s.flashUp, t.nvm.bases.get? (2 * d + s.otherBase) = none) ∧
      (∀ k, (∀ d ∈ s.flashUp, k ≠ 2 * d + s.otherBase) → t.nvm.bases.get? k = s.nvm.bases.get? k) ∧
      t.nvm.fw = s.nvm.fw ∧ t.coh = s.coh ∧ t.ldg = s.ldg) ∧
    (∀ len ok, s.nvm.compacting = false → exec (.compactionComplete len ok) s = .next s) ∧
    (∀ len ok b a, s.nvm.compacting = true → s.nvm.base = some b → s.nvm.active = some a →
      ((0x1800000 < len ∨ ok = false) → ∃ t, exec (.compactionComplete len ok) s = .next t ∧ t.nvm.compacting = false ∧
        t.nvm.compactFailed = true ∧ t.nvm.active = some a ∧ t.nvm.base = some b ∧ t.nvm.sb0 = s.nvm.sb0 ∧ t.nvm.sb1 = s.nvm.sb1) ∧
      (len ≤ 0x1800000 → ok = true → ∃ t n m, exec (.compactionComplete len ok) s = .next t ∧ t.nvm.compacting = false ∧
        t.nvm.active = some n ∧ (0 ∈ s.flashUp → t.nvm.sb0 = addBlock s.nvm.sb0 n.bytes) ∧ (1 ∈ s.flashUp → t.nvm.sb1 = addBlock s.nvm.sb1 n.bytes) ∧
        n.seq = a.seq + 1 ∧ n.baseSlot = s.otherBase ∧
        n.baseLen = len ∧ n.replayFrom = s.nvm.compactSeq + 1 ∧ n.fwSlot = a.fwSlot ∧ n.epochHwm = s.coh.hwm ∧
        t.nvm.base = some m ∧ (∀ d ∈ s.flashUp, t.nvm.bases.get? (2 * d + s.otherBase) = some m) ∧ m.macOk = true ∧ m.len = len ∧ n.baseHash = m.hash ∧ t.coh = s.coh ∧ t.ldg = s.ldg)) ∧
    (∀ d, (d ∉ s.flashUp → exec (.flashOperationFailed d) s = .next s) ∧
      (d ∈ s.flashUp → s.recordOpen (.flash, 0, d) = false → s.evr.records.length < 64 →
        ∃ t, exec (.flashOperationFailed d) s = .next t ∧ (t.unit .flash 0 d).state = .outOfService ∧ t.coh = s.coh ∧
          t.ldg = s.ldg ∧ t.nvm.journal = s.nvm.journal)) ∧
    (∀ l, (s.now < s.nvm.refreshedAt + 86400 * secStamp → exec (.flashRefresh l) s = .next s) ∧
      (s.nvm.refreshedAt + 86400 * secStamp ≤ s.now → s.flashUp.length < 2 → exec (.flashRefresh l) s =
        .next { s with nvm := { s.nvm with refreshedAt := s.now } }) ∧
      (s.nvm.refreshedAt + 86400 * secStamp ≤ s.now → 2 ≤ s.flashUp.length → ∃ t, exec (.flashRefresh l) s = .next t ∧
        (s.snap.phase ≠ .armed → (t.ctr.value.getD C.nvmRefresh 0) =
          s.ctr.value.getD C.nvmRefresh 0 + BitVec.ofNat 64 l.length) ∧
        t = { s with nvm := { s.nvm with refreshedAt := s.now }, evr := t.evr, ctr := t.ctr, out := t.out })) ∧
    (∀ d, (s.nvm.bootSkewed ≠ some d → exec (.flashResyncComplete d) s = .next s) ∧
      (s.nvm.bootSkewed = some d → ∃ t, exec (.flashResyncComplete d) s = .next t ∧ (t.unit .flash 0 d).state = .inService ∧
        t.nvm.bootSkewed = none ∧
        (d = 0 → t.nvm.sb0 = s.nvm.sb1 ∧ t.nvm.sb1 = s.nvm.sb1) ∧ (d ≠ 0 → t.nvm.sb1 = s.nvm.sb0 ∧ t.nvm.sb0 = s.nvm.sb0) ∧ (∀ r ∈ t.nvm.journal, r.headerOk = [0, 1]) ∧
        (d = 0 → t.ldg.ckpt0 = s.ldg.ckpt1) ∧ (d ≠ 0 → t.ldg.ckpt1 = s.ldg.ckpt0) ∧ t.coh = s.coh))) ∧
  ∀ (s : State) (r : AdminRef), PfStarts r s →
    (∀ flags, 2 ≤ flags → exec (.nvmCompact r flags) s = ends s r (s.adminOpen r) stInvalidField []) ∧
    (∀ flags, flags < 2 → (s.nvm.compacting = true ∨ s.nvm.compactToken.isSome = true) →
      exec (.nvmCompact r flags) s = ends s r (s.adminOpen r) stBusy []) ∧
    (∀ flags, flags < 2 → s.nvm.compacting = false → s.nvm.compactToken = none → s.nvm.base.isSome = true →
      exec (.nvmCompact r flags) s = .next { s.adminOpen r with nvm := { s.nvm with
        compactAsked := true, compactToken := some (s.token r, decide (flags = 1)) } }) ∧
    ∃ b, exec (.nvmStatus r) s = ends s r (s.adminOpen r) stSuccess [(16, b)] ∧ b.length = 46 ∧
      b.take 2 = le 1 (s.unit .flash 0 0).state.code ++ le 1 (s.unit .flash 0 1).state.code ∧
      (b.drop 8).take 8 = le 8 s.sbSeq ∧ (b.drop 28).take 4 = le 4 s.coh.hwm

/-- The update window. OPEN is refused while one is open or compaction runs, and else empties the slot not in effect; a window of
4,096 bytes is programmed by its last word, one at a time and within the slot, and counts once a device holds it; CLOSE answers SIGNATURE, SVN, LENGTH or PROGRAM and leaves
what is in effect alone, or fills the slot of every device that holds the windows, which only ACTIVATE names in a superblock; ABORT ends the update when no program runs. -/
def Obligations.ImageUpdate : Prop := ∀ s : State, Serving s →
  (∀ w, s.mgt.fwRuns = true → (s.nvm.compacting = true ∨ s.nvm.upd.phase = 1) →
    ∃ t, exec (.updateOpen w) s = .next t ∧
      t = { s with nvm := { s.nvm with upd := { s.nvm.upd with result := 5 } }, regs := t.regs }) ∧
  (∀ w, s.mgt.fwRuns = true → s.nvm.compacting = false → s.nvm.upd.phase ≠ 1 → ∃ t, exec (.updateOpen w) s = .next t ∧
    t.nvm.upd.phase = 1 ∧ t.nvm.upd.offset = 0 ∧ t.nvm.upd.busy = false ∧ t.nvm.upd.target = w.toNat / 4 % 2 ∧
    t.nvm.upd.devices = s.flashUp ∧ t.nvm.active = s.nvm.active ∧ t.nvm.base = s.nvm.base ∧
    (w.toNat / 4 % 2 = 0 → s.nvm.fw.wf = true → (∀ d ∈ s.flashUp, t.nvm.fw.get? (2 * d + s.otherFw) = none) ∧
      t.nvm.bases = s.nvm.bases) ∧
    (w.toNat / 4 % 2 = 1 → s.nvm.bases.wf = true → (∀ d ∈ s.flashUp, t.nvm.bases.get? (2 * d + s.otherBase) = none) ∧
      t.nvm.fw = s.nvm.fw) ∧
    t = { s with nvm := t.nvm, regs := t.regs }) ∧
  (∀ w, ((s.nvm.upd.phase ≠ 1 ∨ s.nvm.upd.busy = true ∨ slotSize s.nvm.upd.target ≤ s.nvm.upd.offset) →
      exec (.updateWindowProgram w) s = .next s) ∧
    (s.nvm.upd.phase = 1 → s.nvm.upd.busy = false → s.nvm.upd.offset < slotSize s.nvm.upd.target →
      exec (.updateWindowProgram w) s = .next { s with nvm := { s.nvm with upd := { s.nvm.upd with
        busy := true, window := s.nvm.upd.window.set 1023 w } } })) ∧
  (∀ ok good, good = s.flashUp.filter (fun d => decide (d ∈ s.nvm.upd.devices) && if d = 0 then ok.flash0 else ok.flash1) →
    (s.nvm.upd.busy = false → exec (.updateProgramComplete ok) s = .next s) ∧
    (s.nvm.upd.busy = true → ∃ t, exec (.updateProgramComplete ok) s = .next t ∧ t.nvm.upd.busy = false ∧
      t.nvm.upd.offset = s.nvm.upd.offset + (if good = [] then 0 else 4096) ∧
      t.nvm.upd.programmed = s.nvm.upd.programmed + (if good = [] then 0 else 4096) ∧
      (good ≠ [] → t.nvm.upd.devices = good) ∧ (good = [] → s.nvm.upd.abortWaiting = false → t.nvm.upd.result = 4) ∧
      (s.nvm.upd.abortWaiting = true → t.nvm.upd.phase = 0 ∧ t.nvm.upd.result = 6) ∧
      (s.nvm.upd.abortWaiting = false → t.nvm.upd.phase = s.nvm.upd.phase) ∧ t.nvm.active = s.nvm.active ∧ t.regs = s.regs)) ∧
  (∀ w fw base, (s.nvm.upd.phase ≠ 1 ∨ s.nvm.upd.busy = true) → exec (.updateClose w fw base) s = .next s) ∧
  (∀ w fw base, s.nvm.upd.phase = 1 → s.nvm.upd.busy = false → ∃ t, exec (.updateClose w fw base) s = .next t ∧
    t.nvm.upd.phase = 3 ∧
    (s.nvm.upd.result = 4 → t.nvm.upd.result = 4) ∧
    (s.nvm.upd.result ≠ 4 → (s.nvm.upd.programmed < s.fld F.nvmUpdLen_bytes ∨ s.fld F.nvmUpdLen_bytes = 0) →
      t.nvm.upd.result = 3) ∧
    (s.nvm.upd.result ≠ 4 → s.fld F.nvmUpdLen_bytes ≠ 0 → s.fld F.nvmUpdLen_bytes ≤ s.nvm.upd.programmed →
      (∀ f, s.nvm.upd.target = 0 → fw = some f →
        ((f.deviceOk = false ∨ f.sigOk = false) → t.nvm.upd.result = 1) ∧
        (f.deviceOk = true → f.sigOk = true → f.svn < s.mgt.fusedMin → t.nvm.upd.result = 2) ∧
        (f.deviceOk = true → f.sigOk = true → s.mgt.fusedMin ≤ f.svn → t.nvm.upd.result = 0 ∧
          ∀ d ∈ s.nvm.upd.devices, t.nvm.fw.get? (2 * d + s.otherFw) = some f)) ∧
      (∀ b, s.nvm.upd.target = 1 → base = some b →
        ((b.ownerOk = false ∨ b.sectionsOk = false) → t.nvm.upd.result = 1) ∧
        (b.ownerOk = true → b.sectionsOk = true → t.nvm.upd.result = 0 ∧ ∀ d ∈ s.nvm.upd.devices,
          ∃ m, t.nvm.bases.get? (2 * d + s.otherBase) = some m ∧ m.bank = b.bank ∧ m.regs = b.regs ∧ m.hash = b.hash))) ∧
    ((t.nvm.upd.result ≠ 0 ∨ w.toNat / 8 % 2 = 0) → t.nvm.active = s.nvm.active ∧ t.nvm.sb0 = s.nvm.sb0 ∧ t.nvm.sb1 = s.nvm.sb1) ∧
    (∀ a, t.nvm.upd.result = 0 → w.toNat / 8 % 2 = 1 → s.nvm.active = some a → ∃ n, t.nvm.active = some n ∧
      (0 ∈ s.flashUp → t.nvm.sb0 = addBlock s.nvm.sb0 n.bytes) ∧ (1 ∈ s.flashUp → t.nvm.sb1 = addBlock s.nvm.sb1 n.bytes) ∧
      n.seq = a.seq + 1 ∧
      (s.nvm.upd.target = 0 → n.fwSlot = 1 - a.fwSlot ∧ n.baseSlot = a.baseSlot) ∧
      (s.nvm.upd.target ≠ 0 → n.baseSlot = 1 - a.baseSlot ∧ n.fwSlot = a.fwSlot ∧ n.replayFrom = s.nvm.nextSeq)) ∧
    t.nvm.base = s.nvm.base ∧ t.coh = s.coh ∧ t.ldg = s.ldg) ∧
  (s.nvm.upd.phase ≠ 1 → exec .updateAbort s = .next s) ∧
  (s.nvm.upd.phase = 1 → s.nvm.upd.busy = true →
    exec .updateAbort s = .next { s with nvm := { s.nvm with upd := { s.nvm.upd with abortWaiting := true } } }) ∧
  (s.nvm.upd.phase = 1 → s.nvm.upd.busy = false → ∃ t, exec .updateAbort s = .next t ∧ t.nvm.upd.phase = 0 ∧
    t.nvm.upd.result = 6 ∧ t.nvm.active = s.nvm.active ∧ t.regs = s.regs)

/-- The host link and its reads. Training to a rate and width that exist brings the link up, degraded below the full rate and 16 lanes; its loss, PERST_N and link
errors that end DL_Active reset the PF with it. A correctable error sets its AER bit. A read's completions add up and deliver what was read; a poisoned completion fails it, a
timeout quarantines its tag, a late completion is absorbed and an unexpected one discarded. L1 follows idleness, and the L0p width what waits
and how much the link was used. -/
def Obligations.LinkAndReads : Prop :=
  (∀ (s : State) (rate width : Nat) (flit : Bool), Live s →
    ((s.hif.dlUp = true ∨ rate = 0 ∨ 7 < rate ∨ width ∉ [1, 2, 4, 8, 16] ∨ (6 ≤ rate ∧ flit = false)) →
      exec (.hostLinkUp rate width flit) s = .next s) ∧
    (s.hif.dlUp = false → 1 ≤ rate → rate ≤ 7 → width ∈ [1, 2, 4, 8, 16] → (rate < 6 ∨ flit = true) →
      ∃ t, exec (.hostLinkUp rate width flit) s = .next t ∧ t.hif = { s.hif with
        dlUp := true, rate := rate, width := width, flit := flit, l0pWidth := width, l1 := false
        degraded := decide (rate < 7 ∨ width < 16), idleSince := s.now, widthAt := s.now } ∧
        t = { s with hif := t.hif, evr := t.evr, ctr := t.ctr, out := t.out })) ∧
  ∀ s : State, Serving s →
    (s.hif.dlUp = false → exec .hostLinkDown s = .next s ∧ (∀ e, exec (.hostLinkError e) s = .next s) ∧
      (∀ tag n p, exec (.readCompletion tag n p) s = .next s) ∧ exec .l1Entry s = .next s ∧
      ∀ low, exec (.l0pWidthChange low) s = .next s) ∧
    (s.hif.dlUp = true → ∃ t, exec .hostLinkDown s = .next t ∧ t.hif.dlUp = false ∧ t.hif.rate = 0 ∧ t.hif.width = 0 ∧
      t.hif.enabledVfs = [] ∧ (t.fn 0).memEnable = false ∧ (t.fn 0).busMaster = false ∧
      (0 ∉ s.hif.enabledVfs → (t.fn 0).gen = (s.fn 0).gen + 1) ∧ t.tb = s.tb ∧ (∀ p, (t.port p).link = (s.port p).link) ∧ t.coh.epoch = s.coh.epoch) ∧
    (∃ t, exec .perst s = .next t ∧ t.hif.dlUp = false ∧ t.hif.ready = false ∧ t.hif.reads = .empty ∧
      t.hif.quarantined = .empty ∧ t.hif.starting = [] ∧ t.hif.waiting = [] ∧ t.hif.atc = [] ∧ t.hif.aspm = false ∧ t.hif.releasedAt = s.now ∧ t.hif.enabledVfs = [] ∧
      (t.fn 0).memEnable = false ∧ (t.fn 0).devErr = 0 ∧ (t.fn 0).aerUnc = 0 ∧ (t.fn 0).aerCor = 0 ∧ t.tb = s.tb ∧
      (∀ p, (t.port p).link = (s.port p).link) ∧ t.coh.epoch = s.coh.epoch) ∧
    (s.hif.dlUp = true →
      (∀ e, ∃ t, exec (.hostLinkError (.correctable e)) s = .next t ∧ t.hif = (s.touch 0).hif ∧ t.qm.wqs = s.qm.wqs ∧ t.qm.nrs = s.qm.nrs ∧
        (t.fn 0).aerCor = (s.fn 0).aerCor ||| 2 ^ corrBit e ∧ Out.aer (0x100 + corrBit e) ∈ t.out ∧ t.evr.records = s.evr.records) ∧
      (∀ e ∈ [LinkErr.ecrc, .malformedTlp, .receiverOverflow, .flowControl, .dataLinkProtocol],
        ∃ t, exec (.hostLinkError e) s = .next t ∧ t.hif.dlUp = false) ∧
      (∃ t, exec (.hostLinkError .internalError) s = .next t ∧ t.evr.fatal = true) ∧
      (∀ e ∈ [LinkErr.poisonedWrite, .unexpectedCompletion, .asCompleter false, .asCompleter true], ∃ t,
        exec (.hostLinkError e) s = .next t ∧ t.qm.wqs = s.qm.wqs ∧ t.qm.nrs = s.qm.nrs ∧ t.hif.dlUp = true ∧ Out.aer 0x10D ∈ t.out) ∧
      (∀ tag r w q, s.hif.reads.get? tag = some r → s.now < r.due → r.need ≠ 0 → r.item = .fetch w → s.qm.wqs.get? w = some q →
        q.state = .active → ∀ e ∈ [LinkErr.poisonedData tag, .poisonedFetch tag], ∃ t q', exec (.hostLinkError e) s = .next t ∧
          t.qm.wqs.get? w = some q' ∧ q'.state = .error ∧ q'.errStatus = stInternalError ∧ q'.errIndex = r.idx) ∧
      (∀ tag r, s.hif.reads.get? tag = some r → r.due ≤ s.now → ∀ n p, ∃ t, exec (.readCompletion tag n p) s = .next t ∧
        t.hif.lastTimeout = some (r.fn, tag, isFetch r.item) ∧
        (∀ w q, r.need ≠ 0 → r.item = .fetch w → s.qm.wqs.get? w = some q → q.state = .active → ∃ q', t.qm.wqs.get? w = some q' ∧
          q'.state = .error ∧ q'.errStatus = stHostReadTimeout)) ∧
      ((∀ d ∈ s.hif.starting, d.left = []) → ∀ tag, s.hif.reads.get? tag = none → s.hif.quarantined.get? tag = none → ∀ n p,
        ∃ t, exec (.readCompletion tag n p) s = .next t ∧ t.qm.wqs = s.qm.wqs ∧ t.qm.nrs = s.qm.nrs ∧ t.hif.reads = s.hif.reads) ∧
      ((∀ d ∈ s.hif.starting, d.left = []) → ∀ tag r, s.hif.reads.get? tag = none → s.hif.quarantined.get? tag = some r → ∀ n p,
        ∃ t, exec (.readCompletion tag n p) s = .next t ∧ t.qm.wqs = s.qm.wqs ∧ t.qm.nrs = s.qm.nrs ∧ t.hif.reads = s.hif.reads ∧
          (r.len ≤ r.got + n → t.hif.quarantined = s.hif.quarantined.erase tag)) ∧
      (∀ tag r, s.hif.reads.get? tag = some r → s.now < r.due →
        (∀ n, (∀ d ∈ s.hif.starting, d.left = []) → r.got + n < r.len →
          exec (.readCompletion tag n false) s = .next { s with hif := { (s.touch n).hif with
            reads := s.hif.reads.set tag { r with got := r.got + n } } }) ∧
        (∀ n w q, r.len ≤ r.got + n → r.need ≠ 0 → r.item = .fetch w → s.qm.wqs.get? w = some q →
          ∃ t q', exec (.readCompletion tag n false) s = .next t ∧ t.qm.wqs.get? w = some q' ∧
            q'.fetched = q.fetched + r.need / 64 ∧ q'.prod = q.prod ∧ q'.head = q.head) ∧
        (∀ n w q, r.need ≠ 0 → r.item = .fetch w → s.qm.wqs.get? w = some q → q.state = .active →
          ∃ t q', exec (.readCompletion tag n true) s = .next t ∧ t.qm.wqs.get? w = some q' ∧ q'.state = .error ∧
            q'.errStatus = stInternalError ∧ q'.errIndex = r.idx)) ∧
      (s.hif.aspm = true → s.hif.l1 = false → s.hif.idleSince + s.fld F.hifPmCfg_l1IdleUs * usStamp ≤ s.now →
        s.hif.reads.size = 0 → s.hostCopies = false → s.ledgerWaits = false →
        ∃ t, exec .l1Entry s = .next t ∧ t.hif = { s.hif with l1 := true } ∧ t.out = s.out ++ [.l1Request] ∧
          t = { s with hif := t.hif, ctr := t.ctr, out := t.out }) ∧
      ((s.hif.aspm = false ∨ s.hif.l1 = true) → exec .l1Entry s = .next s) ∧
      (∀ u, s.hostWaits = false →
        ((s.hif.aspm = false ∨ s.fld F.hifPmCfg_l0pEn ≠ 1 ∨ s.fld F.hifPmCfg_l0pLowPct ≤ u ∨ s.now < s.hif.widthAt + 100 * usStamp) →
          exec (.l0pWidthChange u) s = .next s) ∧
        (s.hif.aspm = true → s.fld F.hifPmCfg_l0pEn = 1 → u < s.fld F.hifPmCfg_l0pLowPct → s.hif.widthAt + 100 * usStamp ≤ s.now →
          2 ≤ s.hif.l0pWidth → ∃ t, exec (.l0pWidthChange u) s = .next t ∧
            t.hif = { s.hif with l0pWidth := s.hif.l0pWidth / 2, widthAt := s.now } ∧
            t.out = s.out ++ [.linkWidth (s.hif.l0pWidth / 2)])) ∧
      (∀ u, s.hostWaits = true → s.hif.width ≠ s.hif.l0pWidth → ∃ t,
        exec (.l0pWidthChange u) s = .next t ∧ t.hif = { s.hif with l0pWidth := s.hif.width, widthAt := s.now } ∧
          t.out = s.out ++ [.linkWidth s.hif.width])) ∧
    (∀ tag fn, s.hif.reads.get? tag = none → exec (.completionTimeout fn tag) s = .next s) ∧
    (∀ tag r, s.hif.reads.get? tag = some r →
      (∀ fn, (r.fn ≠ fn ∨ s.now < r.due) → exec (.completionTimeout fn tag) s = .next s) ∧
      (r.due ≤ s.now → ∃ t, exec (.completionTimeout r.fn tag) s = .next t ∧
        t.hif.quarantined.get? tag = some r ∧ t.hif.lastTimeout = some (r.fn, tag, isFetch r.item) ∧
        (∀ w q, r.need ≠ 0 → r.item = .fetch w → s.qm.wqs.get? w = some q → q.state = .active → ∃ q', t.qm.wqs.get? w = some q' ∧
          q'.state = .error ∧ q'.errStatus = stHostReadTimeout))) ∧
    (∀ tag, s.hif.quarantined.get? tag = none → exec (.tagQuarantineExpiry tag) s = .next s) ∧
    ∀ tag r, s.hif.quarantined.get? tag = some r →
      (s.now < r.issued + 2 * (r.due - r.issued) → exec (.tagQuarantineExpiry tag) s = .next s) ∧
      ((∀ d ∈ s.hif.starting, d.left = []) → r.issued + 2 * (r.due - r.issued) ≤ s.now → exec (.tagQuarantineExpiry tag) s = .next { s with hif := { s.hif with
        quarantined := s.hif.quarantined.erase tag } })

/-- Functions and configuration space. A request is answered by Request Retry until a capability table applies; the table of the base
applies once, or the fallback after 900 ms without one. Reads name the device; writes set what the capability holds there. VF Enable makes
VFs 1 to NumVFs answer, those beyond function 7 only under ARI. A translation is cached or fails its item, and an invalidation is
answered once no read uses the page. A Function Level Reset takes a new generation. -/
def Obligations.ConfigAndFunctions : Prop := ∀ s : State, Serving s →
  (∀ fn off w, (s.hif.dlUp = false → exec (.configRequest fn off w) s = .next s) ∧
    (s.hif.dlUp = true → s.hif.ready = false → exec (.configRequest fn off w) s =
      .next { s.touch (if w.isSome = true then 4 else 0) with out := s.out ++ [.retryStatus fn] }) ∧
    (s.hif.dlUp = true → s.hif.ready = true → fn ≠ 0 → fn ∉ s.hif.enabledVfs →
      exec (.configRequest fn off w) s = .next ((s.touch (if w.isSome = true then 4 else 0)).unsupportedReq fn))) ∧
  (s.hif.dlUp = true → s.hif.ready = true → ∀ fn, (fn = 0 ∨ fn ∈ s.hif.enabledVfs) →
    (∀ off, exec (.configRequest fn off none) s = .next { s.touch 0 with out := s.out ++ [.config fn off (s.configRead fn off)] }) ∧
    s.configRead 0 0 = 0x96401E6B ∧ (fn ≠ 0 → s.configRead fn 0 = 0x96411E6B) ∧
    (∀ c, s.hif.caps = some c → s.configRead fn 0x2C = c.subsystem) ∧
    (∀ w : Word, ∃ t, exec (.configRequest fn 4 (some w)) s = .next t ∧ (t.fn fn).busMaster = w.toNat.testBit 2 ∧
      (fn = 0 → (t.fn 0).memEnable = w.toNat.testBit 1) ∧
      (t.fn fn).status = clearBits (s.fn fn).status (getBits w.toNat 16 16) ∧ t.tb = s.tb ∧ t.coh = s.coh) ∧
    (∀ (off : Nat) (w : Word), off ≠ 4 → s.capAt fn off .pcie 8 = true → w.toNat.testBit 15 = false →
      ∃ t, exec (.configRequest fn off (some w)) s = .next t ∧
      (t.fn fn).roEnable = w.toNat.testBit 4 ∧ (t.fn fn).mrrs = min 4096 (128 * 2 ^ getBits w.toNat 12 3) ∧
      (t.fn fn).devErr = clearBits (s.fn fn).devErr (getBits w.toNat 16 4) ∧ (∀ f, f ≠ fn → t.fn f = s.fn f) ∧ t = { s.touch 4 with qm := t.qm }) ∧
    (∀ (off : Nat) (w : Word), off ≠ 4 → s.capAt fn off .pcie 8 = true → w.toNat.testBit 15 = true → 0 ∉ s.hif.enabledVfs → (s.fn fn).resetting = false →
      ∃ t, exec (.configRequest fn off (some w)) s = .next t ∧ (t.fn fn).gen = (s.fn fn).gen + 1) ∧
    (∀ (off : Nat) (w : Word), off ≠ 4 → s.capAt fn off .sriov 8 = true →
      (∀ e ∈ [(CapKind.pcie, 8), (.pcie, 0x10), (.pcie, 0x28), (.pm, 4), (.msix, 0), (.ats, 4), (.tph, 8)],
        s.capAt fn off e.1 e.2 = false) →
      s.hif.vfEnable = true → w.toNat.testBit 0 = false → ∃ t, exec (.configRequest fn off (some w)) s = .next t ∧
        t.hif.vfEnable = false ∧ t.hif.enabledVfs = [])) ∧
  (s.nvm.base = none → exec .capabilityTableApply s = .next s) ∧
  (∀ b, s.nvm.base = some b →
    ((s.hif.ready = true ∨ s.mgt.stage = .recovery) → exec .capabilityTableApply s = .next s) ∧
    (s.hif.ready = false → s.mgt.stage ≠ .recovery → ∃ t, exec .capabilityTableApply s = .next t ∧
      t.hif = { s.hif with ready := true, fallback := false, caps := some b.caps } ∧ (t.fn 0).vectors = b.caps.pfVectors ∧
      t = { s with hif := t.hif, qm := t.qm })) ∧
  ((s.hif.ready = true ∨ s.now < s.hif.releasedAt + 900 * msStamp) → exec .fallbackTableApply s = .next s) ∧
  (s.hif.ready = false → s.hif.releasedAt + 900 * msStamp ≤ s.now → ∃ t c, exec .fallbackTableApply s = .next t ∧
    t.hif = { s.hif with ready := true, fallback := true, caps := some c } ∧ (t.fn 0).vectors = 1 ∧ c.sriov = false ∧
    c.ats = false ∧ c.tph = false ∧ c.doe = false) ∧
  (∀ c, s.hif.caps = some c → ∀ ari mse,
    ((s.hif.dlUp = false ∨ s.hif.ready = false ∨ c.sriov = false) → exec (.vfEnable ari mse) s = .next s) ∧
    (s.hif.dlUp = true → s.hif.ready = true → c.sriov = true →
      ((s.hif.vfEnable = true ∨ 4096 < s.hif.numVfs) → ∃ t, exec (.vfEnable ari mse) s = .next t ∧ t.hif.vfEnable = s.hif.vfEnable ∧
        t.hif.numVfs = s.hif.numVfs ∧ t.hif.enabledVfs = s.hif.enabledVfs ∧ t.tb = s.tb ∧ t.coh = s.coh) ∧
      (s.hif.vfEnable = false → s.hif.numVfs ≤ 4096 →
        ∃ t, exec (.vfEnable ari mse) s = .next t ∧ t.hif.vfEnable = true ∧ t.hif.numVfs = s.hif.numVfs ∧
          (∀ v, v ∈ t.hif.enabledVfs ↔ 1 ≤ v ∧ v ≤ s.hif.numVfs ∧ (ari = true ∨ c.vfOffset + (v - 1) * c.vfStride < 8)) ∧
          (∀ v ∈ t.hif.enabledVfs, (t.fn v).memEnable = mse) ∧ t.tb = s.tb ∧ t.coh = s.coh))) ∧
  (s.hif.dlUp = true → ∀ fn page,
    (∃ t, exec (.atsInvalidate fn page) s = .next t ∧ (fn, page) ∉ t.hif.atc ∧
      ((∀ r ∈ s.hif.reads.values, r.fn ≠ fn ∨ r.page ≠ some page) → Out.atsInvalidateDone fn page ∈ t.out) ∧
      ((∃ r ∈ s.hif.reads.values, r.fn = fn ∧ r.page = some page) → (fn, page) ∈ t.hif.atsPending) ∧ t.qm = s.qm) ∧
    (∀ item, (s.fn fn).atsEnable = false → ∀ g, exec (.atsTranslationCompletion fn page g item) s = .next s) ∧
    ((s.fn fn).atsEnable = true →
      (∀ item, ∃ t, exec (.atsTranslationCompletion fn page true item) s = .next t ∧ (fn, page) ∈ t.hif.atc ∧ t.qm = s.qm) ∧
      (∀ w q, s.qm.wqs.get? w = some q → q.state = .active → ∃ t q',
        exec (.atsTranslationCompletion fn page false (.fetch w)) s = .next t ∧ t.qm.wqs.get? w = some q' ∧
        q'.state = .error ∧ q'.errStatus = stNotPermitted ∧ t.hif.atc = s.hif.atc))) ∧
  (∀ v, (v ∉ s.hif.enabledVfs → exec (.vfFlr v) s = .next s) ∧
    (v ∈ s.hif.enabledVfs → (s.fn v).resetting = false → ∃ t x, exec (.vfFlr v) s = .next t ∧ (t.fn v).gen = (s.fn v).gen + 1 ∧
      (t.fn v).resetting = true ∧ t.qm.vfResets.get? v = some x ∧ x.oldGen = (s.fn v).gen ∧ x.token = none ∧
      (∀ f, f ≠ v → (t.fn f).gen = (s.fn f).gen))) ∧
  (s.hif.dlUp = false → exec .pfFlr s = .next s) ∧
  (s.hif.dlUp = true → ∃ t, exec .pfFlr s = .next t ∧ t.hif.dlUp = true ∧ t.hif.vfEnable = false ∧ t.hif.enabledVfs = [] ∧
    t.hif.numVfs = 0 ∧ (t.fn 0).memEnable = false ∧ (t.fn 0).busMaster = false ∧ (t.fn 0).admin.state = .free ∧
    (0 ∉ s.hif.enabledVfs → (t.fn 0).gen = (s.fn 0).gen + 1) ∧ (∀ e ∈ t.qm.nrs.entries, e.2.fn ≠ 0) ∧ t.tb = s.tb ∧
    (∀ p, (t.port p).link = (s.port p).link) ∧ t.coh.epoch = s.coh.epoch ∧ t.bank s.coh.bankTag = s.bank s.coh.bankTag)

/-- Mailboxes and telemetry. RING by an agent that is not the channel's sender is refused with its event; a full channel keeps its message and
records the overrun, as one does that is emptied in the same clock cycle; else it is full and its receiver is told. The receiver's read of word 15 empties it, and the other agent's reads 0. A
message of the BMC fills the 16 words and rings at once. A telemetry record of 512 bytes takes the next sequence number, no earlier than
9.9 ms after the one before it, and its counts start again; TEL_SELECT selects a record by its number. -/
def Obligations.MailboxesAndTelemetry : Prop := ∀ s : State, Serving s →
  (∀ agent c, (s.mbx c = none ∨ ∃ m, s.mbx c = some m ∧ m.sender ≠ agent) →
    exec (.mbxRing agent c) s = .next (s.event 0xB00A 1 [.q c, .q agent])) ∧
  ∀ cleared : MbxSt → MbxSt,
    (∀ m, cleared m = { m with full := false, clearedAt := if m.full = true then some s.now else m.clearedAt }) →
  (∀ c m, s.mbx c = some m →
    (m.full = true → exec (.mbxRing m.sender c) s = .next { s with
      mgt := { s.mgt with mbx := s.mgt.mbx.set c { m with overrun := true } } }) ∧
    (m.full = false → m.fullAt s.now = true → ∃ t m', exec (.mbxRing m.sender c) s = .next t ∧ t.mbx c = some m' ∧ m'.full = false ∧
      m'.overrun = true ∧ t = { s with mgt := t.mgt, free := t.free }) ∧
    (m.fullAt s.now = false → ∃ t m', exec (.mbxRing m.sender c) s = .next t ∧ t.mbx c = some m' ∧ m'.full = true ∧
      m'.receiver = m.receiver ∧ m'.overrun = m.overrun ∧
      (m.sender < 0x10 → m'.data = m.data ∧ (m.receiver = idBmc → t.out = s.out ++ [vendorMsg 2 (be 1 c ++ m.bytes)])) ∧
      (0x10 ≤ m.receiver → t.out = s.out ++ [.wake m.receiver c]) ∧ t = { s with
        mgt := t.mgt, qm := t.qm, hif := t.hif, out := t.out, free := t.free }) ∧
    (m.receiver = idHost → exec (.mbxData15Read idHost c) s = .next { s with
      mgt := { s.mgt with mbx := s.mgt.mbx.set c (cleared m) }
      out := s.out ++ [.readData (Reg.mbxData c 15) (m.data.getD 15 0).toNat] }) ∧
    (m.receiver ≠ idHost → exec (.mbxData15Read idHost c) s =
      .next ((s.event 0xB00A 1 [.q c, .q idHost]).emit (.readData (Reg.mbxData c 15) 0))) ∧
    (m.receiver ≠ idHost → exec (.mbxData15Read m.receiver c) s = .next { s with
      mgt := { s.mgt with mbx := s.mgt.mbx.set c (cleared m) } }) ∧
    (∀ data : List Word, m.sender = idBmc → data.length = 16 →
      (m.full = false → m.fullAt s.now = true → ∃ t, exec (.mbxSend c data) s = .next t ∧
        t.out.getLast? = some (vendorMsg 1 (be 1 stBusy))) ∧
      (m.fullAt s.now = false → ∃ t m', exec (.mbxSend c data) s = .next t ∧ t.mbx c = some m' ∧ m'.full = true ∧
        (∀ w < 16, m'.data.getD w 0 = data.getD w 0) ∧ t.out.getLast? = some (vendorMsg 1 (be 1 stSuccess))) ∧
      (m.full = true → ∃ t, exec (.mbxSend c data) s = .next t ∧ t.mbx c = some { m with overrun := true } ∧
        t.out.getLast? = some (vendorMsg 1 (be 1 stBusy)))) ∧
    (m.receiver = idBmc → exec (.mbxDeliverSent c) s = .next { s with
      mgt := { s.mgt with mbx := s.mgt.mbx.set c (cleared m) } }) ∧
    (m.receiver ≠ idBmc → exec (.mbxDeliverSent c) s = .next s)) ∧
  (∀ x, (s.mgt.stage = .rom ∨ (s.tel.ring ≠ [] ∧ s.now < s.tel.lastAt + 9900 * usStamp)) →
    exec (.telemetryRecord x) s = .next s) ∧
  (∀ x, s.mgt.stage ≠ .rom → (s.tel.ring = [] ∨ s.tel.lastAt + 9900 * usStamp ≤ s.now) →
    ∃ t r, exec (.telemetryRecord x) s = .next t ∧ t.tel.ring = (r :: s.tel.ring).take 1024 ∧ r.seq = s.tel.nextSeq ∧
      r.stamp = s.now ∧ r.bytes.length = 512 ∧ r.bytes.take 20 = le 8 s.tel.nextSeq ++ stampLe s.now ∧
      t.tel.nextSeq = s.tel.nextSeq + 1 ∧ t.tel.sramCe = 0 ∧ t.tel.hbmCe = 0 ∧ t.tel.uncorrected = 0 ∧ t.tel.lastAt = s.now ∧
      t.tel.sel = s.tel.sel ∧ t = { s with tel := t.tel, pwr := t.pwr, mgt := t.mgt, out := t.out }) ∧
  ∀ lo : Word, ∃ t, exec (.telSelect lo) s = .next t ∧
    t.tel = { s.tel with sel := s.tel.ring.find? (·.seq = s.fld F.telSelH32_seq * 2 ^ 32 + lo.toNat) } ∧
    t.regs = (s.setReg Reg.telSelL32 lo.toNat).regs ∧ t = { s with tel := t.tel, regs := t.regs }

/-- The management endpoint, once firmware runs, and in FATAL too but for DOE: what each MCTP control, PLDM and SPDM request answers and what
it sets. Layouts are those of the DMTF specifications (the model's choice: see the assumption log). An SPDM request that comes before its
negotiation is an unexpected one. A sensor event is sent again after a second until it is acknowledged. -/
def Obligations.ManagementEndpoint : Prop :=
  (∀ (s : State) (c : Instr), Live s → s.mgt.stage = .rom → ofManagement c = true → exec c s = .next s) ∧
  ∀ s : State, Live s → s.mgt.stage ≠ .rom →
    (∀ op eid, ((4 ≤ op ∨ (op < 2 ∧ (eid < 8 ∨ 255 ≤ eid))) → exec (.setEndpointId op eid) s =
        .next { s with out := s.out ++ [.mctp 0x00 [0x01, 0x02]] }) ∧
      (op < 2 → 8 ≤ eid → eid < 255 → exec (.setEndpointId op eid) s = .next { s with
        mgt := { s.mgt with eid := some eid }, out := s.out ++ [.mctp 0x00 ([0x01, 0x00, 0x00] ++ be 1 eid ++ [0x00])] }) ∧
      exec (.setEndpointId 2 eid) s = .next { s with
        mgt := { s.mgt with eid := none }, out := s.out ++ [.mctp 0x00 [0x01, 0x00, 0x00, 0x00, 0x00]] } ∧
      exec (.setEndpointId 3 eid) s = .next { s with
        out := s.out ++ [.mctp 0x00 ([0x01, 0x00, 0x00] ++ be 1 (s.mgt.eid.getD 0) ++ [0x00])] }) ∧
    exec .getEndpointId s = .next { s with out := s.out ++ [.mctp 0x00 ([0x02, 0x00] ++ be 1 (s.mgt.eid.getD 0) ++ [0, 0])] } ∧
    exec .getEndpointUuid s = .next { s with out := s.out ++ [.mctp 0x00 ([0x03, 0x00] ++ Config.uuid)] } ∧
    (∀ t, ((t = 0xFF ∨ t ∈ [0x00, 0x01, 0x05, 0x7E]) → exec (.getMctpVersionSupport t) s =
        .next { s with out := s.out ++ [.mctp 0x00 ([0x04, 0x00] ++ Config.mctpVersions t)] }) ∧
      (t ≠ 0xFF → t ∉ [0x00, 0x01, 0x05, 0x7E] → exec (.getMctpVersionSupport t) s =
        .next { s with out := s.out ++ [.mctp 0x00 [0x04, 0x80]] })) ∧
    exec .getMessageTypeSupport s = .next { s with out := s.out ++ [.mctp 0x00 [0x05, 0x00, 4, 0x00, 0x01, 0x05, 0x7E]] } ∧
    (∃ v, v.length = 2 ∧ exec (.getVendorDefinedMsgSupport 0) s = .next { s with
      free := s.free + 1, out := s.out ++ [.mctp 0x00 ([0x06, 0x00, 0xFF, 0x00, 0x1E, 0x6B] ++ v)] }) ∧
    (∀ n, n ≠ 0 → exec (.getVendorDefinedMsgSupport n) s = .next { s with out := s.out ++ [.mctp 0x00 [0x06, 0x02]] }) ∧
    exec .getTid s = .next { s with out := s.out ++ [.mctp 0x01 ([0x00, 0x02, 0x00] ++ be 1 Config.tid)] } ∧
    (∀ t, ((t = 0 ∨ t = 2) → exec (.getPldmVersion t) s =
        .next { s with out := s.out ++ [.mctp 0x01 ([0x00, 0x03, 0x00] ++ Config.pldmVersions t)] }) ∧
      (t ≠ 0 → t ≠ 2 → exec (.getPldmVersion t) s = .next { s with out := s.out ++ [.mctp 0x01 [0x00, 0x03, 0x83]] } ∧
        exec (.getPldmCommands t) s = .next { s with out := s.out ++ [.mctp 0x01 [0x00, 0x05, 0x83]] })) ∧
    exec (.getPldmCommands 0) s = .next { s with out := s.out ++ [.mctp 0x01 ([0x00, 0x05, 0x00] ++ le 32 0x3C)] } ∧
    exec (.getPldmCommands 2) s = .next { s with out := s.out ++ [.mctp 0x01 ([0x00, 0x05, 0x00] ++
      le 32 (2 ^ 0x04 + 2 ^ 0x11 + 2 ^ 0x21 + 2 ^ 0x50 + 2 ^ 0x51))] } ∧
    exec .getPldmTypes s = .next { s with out := s.out ++ [.mctp 0x01 [0x00, 0x04, 0x00, 5, 0, 0, 0, 0, 0, 0, 0]] } ∧
    (∀ n, (sensorValue s.tel.sensors n = none → exec (.getSensorReading n) s =
        .next { s with out := s.out ++ [.mctp 0x01 [0x02, 0x11, 0x80]] }) ∧
      ∀ v, sensorValue s.tel.sensors n = some v → ∃ size x y, size = (if n ≤ 16 then 3 else 2) ∧ x = pldmState (s.sensorLevel n v) ∧
        exec (.getSensorReading n) s = .next { s with out := s.out ++ [.mctp 0x01 ([0x02, 0x11, 0x00] ++ be 1 size ++ [0, 1] ++
          be 1 x ++ be 1 y ++ be 1 x ++ le 2 (twos 16 v))] }) ∧
    (∀ n, n ≠ 80 → exec (.getStateSensorReadings n) s = .next { s with out := s.out ++ [.mctp 0x01 [0x02, 0x21, 0x80]] }) ∧
    exec (.getStateSensorReadings 80) s = .next { s with out := s.out ++ [.mctp 0x01 ([0x02, 0x21, 0x00, 1, 0] ++
      be 1 s.thermal ++ be 1 s.thermal ++ be 1 s.thermal)] } ∧
    (∃ b c, b.length = 26 ∧ c.length = 9 ∧ exec .getPdrRepositoryInfo s = .next { s with
      free := s.free + 2, out := s.out ++ [.mctp 0x01 ([0x02, 0x50, 0x00, 0x00] ++ b ++ le 4 40 ++ c)] }) ∧
    (∀ n, 40 < n → exec (.getPdr n) s = .next { s with out := s.out ++ [.mctp 0x01 [0x02, 0x51, 0x82]] }) ∧
    (∀ n, 1 ≤ n → n ≤ 40 → exec (.getPdr n) s = .next { s with out := s.out ++ [.mctp 0x01 ([0x02, 0x51, 0x00] ++
      le 4 (if n = 40 then 0 else n + 1) ++ [0, 0, 0, 0, 5] ++ le 2 (Config.pdr n).length ++ Config.pdr n)] }) ∧
    exec (.getPdr 0) s = exec (.getPdr 1) s ∧
    (∀ eid, exec (.setEventReceiver true eid) s = .next { s with
        mgt := { s.mgt with receiver := some eid }, out := s.out ++ [.mctp 0x01 [0x02, 0x04, 0x00]] } ∧
      exec (.setEventReceiver false eid) s = .next { s with
        mgt := { s.mgt with receiver := none, unacked := [] }, out := s.out ++ [.mctp 0x01 [0x02, 0x04, 0x00]] }) ∧
    (∀ n, exec (.pldmEventAck n) s = .next { s with mgt := { s.mgt with unacked := s.mgt.unacked.filter (·.1 ≠ n) } } ∧
      ((s.mgt.receiver = none ∨ ∀ e ∈ s.mgt.unacked, e.1 ≠ n ∨ s.now < e.2 + secStamp) →
        exec (.pldmEventRepeat n) s = .next s) ∧
      (∀ e v, s.mgt.receiver.isSome = true → e ∈ s.mgt.unacked → e.1 = n → e.2 + secStamp ≤ s.now →
        sensorValue s.tel.sensors n = some v → ∃ t b, exec (.pldmEventRepeat n) s = .next t ∧ t.out = s.out ++ [.mctp 0x01 b] ∧
          b.take 2 = [0x02, 0x0A] ∧ (n, s.now) ∈ t.mgt.unacked ∧ t = { s with mgt := t.mgt, out := t.out })) ∧
    (∀ doe, doe = true → ¬ s.spdmOpen doe → ∀ c ∈ [Instr.getVersion doe, .getCapabilities doe, .negotiateAlgorithms doe true true,
      .getDigests doe, .getCertificate doe 0 0 1, .challenge doe 0 (zeros 32), .getMeasurements doe false 1 []], exec c s = .next s) ∧
    ∀ doe, s.spdmOpen doe →
      exec (.getVersion doe) s = .next ((s.setSpdm doe 1).emit (.spdm doe [0x10, 0x04, 0, 0, 0, 1, 0x00, 0x13])) ∧
      (s.spdmOf doe < 1 → exec (.getCapabilities doe) s = .next { s with out := s.out ++ [.spdm doe [0x13, 0x7F, 0x04, 0]] }) ∧
      (1 ≤ s.spdmOf doe → ∃ u x, exec (.getCapabilities doe) s = .next ((u.setSpdm doe (max 2 (s.spdmOf doe))).emit
        (.spdm doe ([0x13, 0x61, 0, 0, 0, x, 0, 0] ++ le 4 0x16 ++ le 4 4096 ++ le 4 4096))) ∧ u = { s with free := s.free + 1 }) ∧
      (s.spdmOf doe < 2 → ∀ a b, exec (.negotiateAlgorithms doe a b) s =
        .next { s with out := s.out ++ [.spdm doe [0x13, 0x7F, 0x04, 0]] }) ∧
      (2 ≤ s.spdmOf doe → exec (.negotiateAlgorithms doe true true) s = .next ((s.setSpdm doe 3).emit (.spdm doe ([0x13, 0x63, 0, 0] ++
          (le 2 36 ++ [1, 0] ++ le 4 0x80 ++ le 4 0x200 ++ le 4 0x40 ++ zeros 16)))) ∧
        ∀ a b, (a = false ∨ b = false) → exec (.negotiateAlgorithms doe a b) s =
          .next { s with out := s.out ++ [.spdm doe [0x13, 0x7F, 0x01, 0]] }) ∧
      (s.spdmOf doe < 3 → ∀ slot off len nonce signed i, ∀ c ∈ [Instr.getDigests doe, .getCertificate doe slot off len,
          .challenge doe slot nonce, .getMeasurements doe signed i nonce],
          exec c s = .next { s with out := s.out ++ [.spdm doe [0x13, 0x7F, 0x04, 0]] }) ∧
      (3 ≤ s.spdmOf doe →
        exec (.getDigests doe) s = .next { s with out := s.out ++ [.spdm doe ([0x13, 0x01, 0, 1] ++ sm3 Config.certChain)] } ∧
        (∀ slot off len, ∃ p, p = (Config.certChain.drop off).take (min len 4096) ∧
          exec (.getCertificate doe slot off len) s = .next { s with out := s.out ++ [.spdm doe (
            if slot ≠ 0 ∨ Config.certChain.length ≤ off then [0x13, 0x7F, 0x01, 0]
            else [0x13, 0x02, 0, 0] ++ le 2 p.length ++ le 2 (Config.certChain.length - off - p.length) ++ p)] }) ∧
        (∀ slot nonce, (slot ≠ 0 ∨ nonce.length ≠ 32) → exec (.challenge doe slot nonce) s =
          .next { s with out := s.out ++ [.spdm doe [0x13, 0x7F, 0x01, 0]] }) ∧
        (∀ nonce, nonce.length = 32 → ∃ n sig, n.length = 32 ∧ sig.length = 64 ∧ exec (.challenge doe 0 nonce) s = .next { s with
          free := s.free + 2, out := s.out ++ [.spdm doe ([0x13, 0x03, 0, 1] ++ (sm3 Config.certChain ++ n ++
            sm3 ((List.range 8).flatMap fun i => s.measBlock (i + 1)) ++ [0, 0] ++ sig))] }) ∧
        (∀ signed i nonce, ((8 < i ∧ i ≠ 0xFF) ∨ (signed = true ∧ nonce.length ≠ 32)) → exec (.getMeasurements doe signed i nonce) s =
          .next { s with out := s.out ++ [.spdm doe [0x13, 0x7F, 0x01, 0]] }) ∧
        (∀ signed i nonce l m, (i ≤ 8 ∨ i = 0xFF) → (signed = true → nonce.length = 32) →
          l = (if i = 0 then [] else if i = 0xFF then [1, 2, 3, 4, 5, 6, 7, 8] else [i]) → m = l.flatMap s.measBlock →
          ∃ n sig, n.length = 32 ∧ sig.length = (if signed = true then 64 else 0) ∧
            exec (.getMeasurements doe signed i nonce) s = .next { s with
              free := s.free + (if signed = true then 2 else 1)
              out := s.out ++ [.spdm doe ([0x13, 0x60] ++ be 1 (if i = 0 then 8 else 0) ++ [0] ++
                (be 1 l.length ++ le 3 m.length ++ m ++ n ++ [0, 0] ++ sig))] }) ∧
        (∀ b0 b1, s.bank false = some b0 → s.bank true = some b1 →
          s.measurement 6 = some (true, le 4 s.coh.epoch ++ le 8 b0.bankId ++ le 8 b1.bankId)) ∧
        s.measurement 3 = some (true, le 2 s.mgt.fwSvn ++ le 2 s.mgt.fusedMin) ∧
        (∀ k, s.ldg.keys.get? s.ldg.keySel = some k → s.measurement 7 = some (true, be 8 k.keyId)))

/-- Errors and the recorder. A corrected error is counted; an uncorrected one opens a record that its containment closes; one that no unit can
contain, a fatal one, or one more than 64 records makes the device FATAL, its host island silenced after its report, the alert asserted, its recorder
frozen; a second error
of a unit whose record is open takes it out of service. A patrol read corrects a word or removes what it spoiled; a bad rule-bank word is missed until it is rewritten. A WARNING reaches the event
region, buckets refill (intervals from the start of the time base: the model's choice, assumption 98), entries are selected and copied, the alert is acknowledged, and EVENT_CLEAR removes entries only under a valid
token, after which the nonce is new. -/
def Obligations.ErrorsAndRecorder : Prop :=
  (∀ s : State, Serving s →
    (∀ e u, e.unit = some u → unitOf u = none → exec (.errorDetected e) s = .next s) ∧
    (∀ e, e.unit = none → e.cls = 0 → ∃ t, exec (.errorDetected e) s = .next t ∧ t.evr.records = s.evr.records ∧
      (e.hbm = true → t.tel.hbmCe = s.tel.hbmCe + 1) ∧ (e.hbm = false → t.tel.sramCe = s.tel.sramCe + 1) ∧ t.evr.fatal = false ∧
      t = { s with evr := t.evr, ctr := t.ctr, out := t.out, tel := t.tel, free := t.free }) ∧
    (∀ e, e.unit = none → e.cls = 1 → e.item = .none → s.evr.records.length < 64 → ∃ t r, exec (.errorDetected e) s = .next t ∧
      t.evr.records = s.evr.records ++ [r] ∧ r.cls = 1 ∧ r.source = e.source ∧ r.unit = none ∧ t.evr.fatal = false ∧
      t.tel.uncorrected = s.tel.uncorrected + 1 ∧
      t = { s with evr := t.evr, ctr := t.ctr, out := t.out, tel := t.tel, free := t.free }) ∧
    (∀ e, e.unit = none → (2 ≤ e.cls ∨ (e.cls = 1 ∧ e.item = .none ∧ 64 ≤ s.evr.records.length)) →
      ∃ t, exec (.errorDetected e) s = .next t ∧ t.evr.fatal = true ∧ t.evr.stopped = true ∧ t.evr.frozen = true ∧
        t.hif.silenced = true ∧ t.evr.alert = true ∧
        ((s.up .flash 0 0 = true ∨ s.up .flash 0 1 = true) → ∀ x ∈ t.evr.ring, 2 ≤ x.sev → x.persisted = true) ∧ t.qm.wqs = s.qm.wqs ∧
        t.qm.nrs = s.qm.nrs ∧ Out.aer 0x16 ∈ t.out ∧ t.tm = s.tm ∧ t.ldg = s.ldg) ∧
    (∀ e u n, e.unit = some u → unitOf u = some (.port, 0, n) → e.cls = 1 → s.recordOpen (.port, 0, n) = true →
      s.evr.records.length < 64 → (s.unit .port 0 n).state = .inService → (s.port n).link = false →
      ∃ t, exec (.errorDetected e) s = .next t ∧ (t.unit .port 0 n).state = .outOfService ∧ (t.unit .port 0 n).reason = 3 ∧
        t.evr.fatal = false) ∧
    (s.evr.records = [] → exec .errorRecordClose s = .next s) ∧
    (∀ r rest, s.evr.records = r :: rest → (r.cls ≠ 1 ∨ r.item = .none) →
      exec .errorRecordClose s = .next { s with evr := { s.evr with records := rest } }) ∧
    (∀ r rest, s.evr.records = r :: rest → ∃ t, exec .errorRecordClose s = .next t ∧ t.evr.records = rest) ∧
    (∀ p, ∃ t, exec (.patrolRead p true) s = .next t ∧ t.evr.records = s.evr.records ∧ t.flow = s.flow ∧ t.eng = s.eng ∧ t.tm = s.tm ∧
      t.tel.sramCe + t.tel.hbmCe = s.tel.sramCe + s.tel.hbmCe + 1) ∧
    (s.evr.records.length < 64 →
      (∀ n slot, (s.tabs n).fdb.has slot = true → ∃ t, exec (.patrolRead (.fdb n slot) false) s = .next t ∧
        (t.tabs n).fdb = (s.tabs n).fdb.erase slot ∧ (∀ m, m ≠ n → t.tabs m = s.tabs m) ∧
        t.evr.records.length = s.evr.records.length + 1 ∧ t.eng = s.eng ∧ t.tm = s.tm) ∧
      (∀ n w, ∃ t e, exec (.patrolRead (.ruleWord n w) false) s = .next t ∧ (t.slice n).badWords.getLast? = some (w, e) ∧
        s.now < e ∧ e ≤ s.now + 20 * usStamp ∧ (∀ m, m ≠ n → t.slice m = s.slice m) ∧ t.flow = s.flow ∧ t.eng = s.eng ∧ t.tm = s.tm) ∧
      (∀ i k, s.eng.ctxs.get? i = some k → ∃ t, exec (.patrolRead (.context i) false) s = .next t ∧
        t.eng.ctxs = s.eng.ctxs.set i { k with state := .expired } ∧ t.flow = s.flow ∧ t.tm = s.tm)) ∧
    (∀ n, (s.evr.ring.find? (·.seq = n) = none → exec (.eventPersist n) s = .next s) ∧
      ∀ e, s.evr.ring.find? (·.seq = n) = some e →
        ((e.persisted = true ∨ (e.sev < 2 ∧ e.clearRec = false) ∨ s.flashUp = [] ∨ s.evr.flashOk = false) →
          exec (.eventPersist n) s = .next s) ∧
        (e.persisted = false → (2 ≤ e.sev ∨ e.clearRec = true) → s.flashUp ≠ [] → s.evr.flashOk = true →
          ∃ t, exec (.eventPersist n) s = .next t ∧ t.evr.region = ({ e with persisted := true } :: s.evr.region).take 262144 ∧
            (∀ x ∈ t.evr.ring, x.seq = n → x.persisted = true) ∧ t.evr.nextSeq = s.evr.nextSeq ∧
            t = { s with evr := t.evr, ctr := t.ctr })) ∧
    (∀ code, (s.evr.cfg.find? (·.code = code) = none → exec (.eventBucketRefill code) s = .next s) ∧
      ∀ c, s.evr.cfg.find? (·.code = code) = some c → 1 ≤ c.refillMs →
        (s.now < s.refilledAt code + c.refillMs * msStamp → exec (.eventBucketRefill code) s = .next s) ∧
        (s.refilledAt code + c.refillMs * msStamp ≤ s.now → ∃ t, exec (.eventBucketRefill code) s = .next t ∧
          (s.evr.spent.wf = true → t.evr.spent.getD code 0 = s.evr.spent.getD code 0 - 1) ∧
          (∀ d, d ≠ code → t.evr.spent.getD d 0 = s.evr.spent.getD d 0) ∧
          t.refilledAt code ≤ s.now ∧ s.now < t.refilledAt code + c.refillMs * msStamp ∧
          t = { s with evr := { s.evr with spent := t.evr.spent, refillAt := t.evr.refillAt } })) ∧
    (∀ (lo : Word) q, s.fld F.evrSelH32_seq * 2 ^ 32 + lo.toNat = q →
      (s.fld F.evrCtrl_src ≠ 0 → exec (.evrSelectOnDie lo) s = .next s) ∧
      (s.fld F.evrCtrl_src = 0 → exec (.evrSelectOnDie lo) s = .next { s with
        evr := { s.evr with selValid := true, selBusy := false, selSeq := q, selSrc := 0 }
        regs := (s.setReg Reg.evrSelL32 lo.toNat).regs }) ∧
      (s.fld F.evrCtrl_src ≠ 1 → exec (.evrSelectRegion lo) s = .next s) ∧
      (s.fld F.evrCtrl_src = 1 → exec (.evrSelectRegion lo) s = .next { s with
        evr := { s.evr with selValid := true, selBusy := true, selSeq := q, selSrc := 1, copy := none }
        regs := (s.setReg Reg.evrSelL32 lo.toNat).regs })) ∧
    (s.evr.selBusy = false → exec .evrCopyComplete s = .next s) ∧
    (s.evr.selBusy = true → s.flashUp ≠ [] → exec .evrCopyComplete s = .next { s with
      evr := { s.evr with selBusy := false, copy := s.evr.region.find? (·.seq = s.evr.selSeq) } }) ∧
    (s.evr.alert = false → exec .alertAck s = .next s) ∧
    (s.evr.alert = true → exec .alertAck s = .next { s with evr := { s.evr with alert := false }, out := s.out ++ [.alert false] })) ∧
  ∀ (s : State) (r : AdminRef) (len : Nat) (k : ClearToken), PfStarts r s →
    ((len < 128 ∨ k.magic ≠ 0x4556434C ∨ k.version ≠ 1 ∨ 1 < k.scope) → exec (.eventClear r len k) s =
      .next (((s.adminOpen r).adminDone (s.token r) stInvalidField []).newNonce)) ∧
    (128 ≤ len → k.magic = 0x4556434C → k.version = 1 → k.scope ≤ 1 →
      ((k.keyId ∉ s.evr.clearKeys ∨ k.serial ≠ s.mgt.serial ∨ k.sigOk = false) → exec (.eventClear r len k) s =
        .next (((s.adminOpen r).adminDone (s.token r) stAuthFailed []).newNonce)) ∧
      (k.keyId ∈ s.evr.clearKeys → k.serial = s.mgt.serial → k.sigOk = true →
        (k.nonce ≠ s.evr.nonce → exec (.eventClear r len k) s =
          .next (((s.adminOpen r).adminDone (s.token r) stGenerationStale []).newNonce)) ∧
        (k.nonce = s.evr.nonce → ∃ (u : State) (n : Nat), exec (.eventClear r len k) s = .next ((u.adminDone (s.token r)
            stSuccess [(24, le 8 n), (32, le 8 s.evr.nextSeq)]).newNonce) ∧
          (∀ x ∈ u.evr.ring, x.seq ≤ k.clearThrough → x.clearRec = true) ∧
          (∀ x ∈ s.evr.ring, (k.clearThrough < x.seq ∨ x.clearRec = true) → s.evr.nextSeq < x.seq + 8192 → x ∈ u.evr.ring) ∧
          (k.scope = 0 → u.evr.region = s.evr.region) ∧
          (k.scope = 1 → ∀ x ∈ u.evr.region, x ∈ s.evr.region ∧ (k.clearThrough < x.seq ∨ x.clearRec = true)) ∧
          (s.evr.stopped = false → s.evr.spent.wf = true → (∀ c ∈ s.evr.cfg, 0 < c.burst) → ∃ x ∈ u.evr.ring, x.code = 0xB015 ∧ x.clearRec = true ∧ x.seq = s.evr.nextSeq) ∧
          u = { s.adminOpen r with evr := u.evr, ctr := u.ctr, out := u.out })))

/-- Service states. SERVICE_STATE of a unit that does not exist is refused, of one in transition busy, and a query changes nothing. TAKE_OUT
drains a unit in service and takes it out when it holds no work, but never the last of a pair, nor a slice with a port in service; RETURN
tests a unit out of service, but no flash device and no port whose mode is not valid. A test passed leads to REJOINING, a failed one back
out; at its fence the unit is in service again. -/
def Obligations.ServiceStates : Prop :=
  (∀ (s : State) (r : AdminRef) (a : UnitArgs), PfStarts r s →
    (s.serviceUnit a = none → exec (.serviceStateQuery r a) s = ends s r (s.adminOpen r) stInvalidField [] ∧
      exec (.serviceStateTakeOut r a) s = ends s r (s.adminOpen r) stInvalidField [] ∧
      exec (.serviceStateReturn r a) s = ends s r (s.adminOpen r) stInvalidField []) ∧
    ∀ k sl n x, s.serviceUnit a = some (k, sl, n) → s.unit k sl n = x →
      ∃ wb, wb = [(24, le 1 x.state.code), (25, le 1 x.reason), (32, le 8 (if x.state = .inService then x.fence else 0))] ∧
      ((x.state = .draining ∨ x.state = .testing ∨ x.state = .rejoining) →
        exec (.serviceStateQuery r a) s = ends s r (s.adminOpen r) stBusy wb ∧
        (k ≠ .flash → exec (.serviceStateReturn r a) s = ends s r (s.adminOpen r) stBusy wb) ∧
        (s.lastOfPair (k, sl, n) = false → exec (.serviceStateTakeOut r a) s = ends s r (s.adminOpen r) stBusy wb)) ∧
      ((x.state = .inService ∨ x.state = .outOfService) →
        exec (.serviceStateQuery r a) s = ends s r (s.adminOpen r) stSuccess wb) ∧
      (s.lastOfPair (k, sl, n) = true → exec (.serviceStateTakeOut r a) s = ends s r (s.adminOpen r) stNotPermitted wb) ∧
      (x.state = .outOfService → exec (.serviceStateTakeOut r a) s = ends s r (s.adminOpen r) stSuccess wb) ∧
      (x.state = .inService → k = .slice → (∃ p ∈ s.portList, sliceOf p = n ∧ (s.unit .port 0 p).state ≠ .outOfService) →
        exec (.serviceStateTakeOut r a) s = ends s r (s.adminOpen r) stBusy wb) ∧
      (x.state = .inService → s.lastOfPair (k, sl, n) = false →
        (k = .slice → ∀ p ∈ s.portList, sliceOf p = n → (s.unit .port 0 p).state = .outOfService) →
        ∃ t, exec (.serviceStateTakeOut r a) s = .next t ∧
          ((t.unit k sl n).state = .draining ∨ (t.unit k sl n).state = .outOfService) ∧
          (k = .sm3Engine → (t.unit k sl n).state = .outOfService ∧ (t.unit k sl n).reason = 1 ∧
            (t.fn 0).admin.opened = ((s.adminOpen r).fn 0).admin.opened.erase r.idx)) ∧
      (k = .flash → exec (.serviceStateReturn r a) s = ends s r (s.adminOpen r) stNotPermitted wb) ∧
      (k ≠ .flash → x.state = .inService → exec (.serviceStateReturn r a) s = ends s r (s.adminOpen r) stSuccess wb) ∧
      (k ≠ .flash → k ≠ .port → x.state = .outOfService → ∃ t, exec (.serviceStateReturn r a) s = .next t ∧
        (t.unit k sl n).state = .testing ∧ (t.unit k sl n).token = some (s.token r)) ∧
      (k = .port → x.state = .outOfService → s.up .slice 0 (sliceOf n) = true →
        (s.modeFits n = true → ∃ t, exec (.serviceStateReturn r a) s = .next t ∧ (t.unit k sl n).token = some (s.token r) ∧
          (s.fld (F.portCtrl_test n) = 0 → (t.unit k sl n).state = .rejoining) ∧
          (s.fld (F.portCtrl_test n) ≠ 0 → (t.unit k sl n).state = .testing)) ∧
        (s.modeFits n = false → ∃ t, exec (.serviceStateReturn r a) s = .next t ∧ (t.unit .port 0 n).state = .outOfService ∧
          (t.unit .port 0 n).reason = 5 ∧ (t.port n).modeErr = true)) ∧
      (k = .port → x.state = .outOfService → s.up .slice 0 (sliceOf n) = false →
        exec (.serviceStateReturn r a) s = ends s r (s.adminOpen r) stBusy wb)) ∧
  ∀ (s : State) (a : UnitArgs), Serving s →
    (unitOf a = none → exec (.unitDrainComplete a) s = .next s ∧ (∀ ok, exec (.selfTestComplete a ok) s = .next s) ∧
      exec (.unitFenceReached a) s = .next s) ∧
    ∀ k sl n, unitOf a = some (k, sl, n) →
      ((s.unit k sl n).state ≠ .draining → exec (.unitDrainComplete a) s = .next s) ∧
      ((s.unit k sl n).state = .draining → s.holdsWork (k, sl, n) = false → s.roleGone (k, sl, n) = true →
        ∃ t, exec (.unitDrainComplete a) s = .next t ∧ (t.unit k sl n).state = .outOfService ∧ (t.unit k sl n).reason = 1) ∧
      ((s.unit k sl n).state = .draining → s.holdsWork (k, sl, n) = true → s.roleGone (k, sl, n) = true →
        exec (.unitDrainComplete a) s = .next s) ∧
      ((s.unit k sl n).state ≠ .testing → ∀ ok, exec (.selfTestComplete a ok) s = .next s) ∧
      ((s.unit k sl n).state = .testing →
        (k ≠ .parseLane → k ≠ .slice → ∃ t, exec (.selfTestComplete a true) s = .next t ∧ (t.unit k sl n).state = .rejoining ∧
          (t.unit k sl n).fence = s.ream) ∧
        (∃ t, exec (.selfTestComplete a false) s = .next t ∧ (t.unit k sl n).state = .outOfService ∧ (t.unit k sl n).reason = 4) ∧
        (k = .slice → s.badRegion n = none → ∃ t, exec (.selfTestComplete a true) s = .next t ∧
          (t.unit k sl n).state = .rejoining ∧ (t.unit k sl n).fence = s.ream) ∧
        (k = .parseLane → (s.slice sl).rejoin.has n = false → (s.slice sl).active < 4 →
          (s.coh.phase = .armed ∨ s.coh.draining ≠ []) → ∃ t, exec (.selfTestComplete a true) s = .next t ∧
          (t.unit k sl n).state = .rejoining ∧ (t.unit k sl n).fence = s.ream) ∧
        (k = .parseLane → (s.slice sl).rejoin.has n = false → 4 ≤ (s.slice sl).active →
          (∀ l ∈ (s.slice sl).lanes, (s.unit .parseLane sl l).role = none) → ∃ t, exec (.selfTestComplete a true) s = .next t ∧
          (t.unit k sl n).state = .outOfService ∧ (t.unit k sl n).reason = 6) ∧
        (k = .slice → s.badRegion n ≠ none → ∃ t, exec (.selfTestComplete a true) s = .next t ∧
          (t.unit k sl n).state = .outOfService ∧ (t.unit k sl n).reason = 4)) ∧
      ((s.unit k sl n).state ≠ .rejoining → exec (.unitFenceReached a) s = .next s) ∧
      ((s.unit k sl n).state = .rejoining →
        (k = .port → s.modeFits n = true → ∃ t, exec (.unitFenceReached a) s = .next t ∧ (t.unit k sl n).state = .inService) ∧
        (k = .port → s.modeFits n = false → ∃ t, exec (.unitFenceReached a) s = .next t ∧
          (t.unit k sl n).state = .outOfService ∧ (t.unit k sl n).reason = 5 ∧ (t.port n).modeErr = true) ∧
        (k = .flash → exec (.unitFenceReached a) s = .next s) ∧
        (k = .slice → (s.coh.phase = .armed ∨ s.coh.draining ≠ []) → exec (.unitFenceReached a) s = .next s) ∧
        (k = .slice → s.coh.phase ≠ .armed → s.coh.draining = [] → ∃ t, exec (.unitFenceReached a) s = .next t ∧
          (t.unit k sl n).state = .inService) ∧
        ((k = .sm3Engine ∨ k = .signer ∨ k = .builderSide ∨ k = .deckleSide ∨ k = .cryEngine ∨ k = .stoEngine) →
          s.ream = (s.unit k sl n).fence → exec (.unitFenceReached a) s = .next s) ∧
        ((k = .sm3Engine ∨ k = .signer ∨ k = .builderSide ∨ k = .deckleSide ∨ k = .cryEngine ∨ k = .stoEngine) →
          s.ream ≠ (s.unit k sl n).fence → (n < kindSpare k) → ∃ t, exec (.unitFenceReached a) s = .next t ∧
          (t.unit k sl n).state = .inService))

/-- Clocks, voltage, temperature and test. A PLL that loses lock while its island runs on it starts a switch to its partner, or to the safe
clock when that is unlocked, from which it moves to the first PLL that relocks; an island whose clock has stopped leaves the switch to the watchdog, 480 ns after it started, less a tenth of it on the ring PLL. A software switch
goes only to a locked PLL. References qualify and disqualify, and the PLLs follow. Voltage moves 5 mV at a time within its bounds, each
millisecond and on an alarm; the third failure in a row ends the commanding until a retry. A throttle ends 100 ms after the last heat. The trip stops the time base. A TAP instruction that takes the balls ends every assurance. -/
def Obligations.ClocksPowerAndTest : Prop :=
  (∀ s : State, Live s →
    (∀ i b x, s.island i = x →
      (20 ≤ i → exec (.pllLossOfLock i b) s = .next s ∧ exec (.clockActivityLost i) s = .next s ∧
        exec (.pllRelocked i b) s = .next s) ∧
      (i < 20 →
        (∃ t, exec (.pllLossOfLock i b) s = .next t ∧ pllLocked (t.island i) b = false ∧ t = { s with clk := t.clk } ∧
          (∀ j, j ≠ i → t.island j = s.island j) ∧
          (x.switching = false → x.safe = false → x.selB = b → (t.island i).switching = true ∧ (t.island i).hw = true ∧
            (t.island i).target = !b ∧ (t.island i).toSafe = !(pllLocked x (!b)) ∧ (t.island i).since = s.now) ∧
          (x.switching = false → (x.safe = true ∨ x.selB ≠ b) → (t.island i).switching = false)) ∧
        (∃ t, exec (.clockActivityLost i) s = .next t ∧ t = { s with clk := t.clk } ∧ (x.safe = true → t.island i = x) ∧
          (x.safe = false → (t.island i).switching = true ∧ (t.island i).lossOfEdges = true ∧ (t.island i).hw = true)) ∧
        (pllLocked x b = true → exec (.pllRelocked i b) s = .next s) ∧
        (pllLocked x b = false → ∃ t, exec (.pllRelocked i b) s = .next t ∧ pllLocked (t.island i) b = true ∧
          (x.safe = true → x.switching = false → (t.island i).switching = true ∧ (t.island i).hw = true) ∧
          (x.safe = false → (t.island i).switching = x.switching ∧ (t.island i).selB = x.selB) ∧ t.tb = s.tb ∧ t.regs = s.regs)) ∧
      ((x.switching = false ∨ x.lossOfEdges = true) → exec (.clockSwitchComplete i) s = .next s) ∧
      ((x.switching = false ∨ (s.tb.running = true ∧ s.now < x.since + (if s.clk.onRing then 432 else 480) * nsStamp)) →
        exec (.switchWatchdog i) s = .next s) ∧
      (i < 20 → x.switching = true → x.toSafe = false →
        (x.lossOfEdges = false → ∃ t, exec (.clockSwitchComplete i) s = .next t ∧ (t.island i).switching = false ∧
          (t.island i).selB = x.target ∧ (t.island i).safe = false ∧ (t.island i).forced = x.forced ∧ t.tb = s.tb) ∧
        ((s.tb.running = false ∨ x.since + (if s.clk.onRing then 432 else 480) * nsStamp ≤ s.now) → ∃ t, exec (.switchWatchdog i) s = .next t ∧
          (t.island i).switching = false ∧ (t.island i).selB = x.target ∧ (t.island i).safe = false ∧ (t.island i).forced = true)) ∧
      (i < 20 → x.switching = true → x.toSafe = true → x.lossOfEdges = false →
        (x.standby = none → ∃ t, exec (.clockSwitchComplete i) s = .next t ∧ (t.island i).switching = false ∧
          (t.island i).safe = true ∧ (t.island i).selB = x.selB) ∧
        ∀ c, x.standby = some c → ∃ t, exec (.clockSwitchComplete i) s = .next t ∧ (t.island i).switching = true ∧
          (t.island i).hw = true ∧ (t.island i).target = c ∧ (t.island i).safe = true ∧ (t.island i).selB = x.selB)) ∧
    ((s.mgt.oscRunning = false ∨ s.clk.xtalRunning = false) → exec .crystalLost s = .next s) ∧
    (s.mgt.oscRunning = true → s.clk.xtalRunning = true → exec .crystalLost s =
      .next (State.event { s with clk := { s.clk with xtalRunning := false, onRing := true } } 0xB038 2 [])) ∧
    ((s.mgt.oscRunning = false ∨ s.clk.xtalRunning = true) → exec .crystalRestored s = .next s) ∧
    (s.mgt.oscRunning = true → s.clk.xtalRunning = false → exec .crystalRestored s =
      .next { s with clk := { s.clk with xtalRunning := true, onRing := false } }) ∧
    (∀ n, ((10 ≤ n ∨ s.frefOk n = true) → exec (.frefQualified n) s = .next s) ∧
      (n < 10 → s.frefOk n = false → ∃ t, exec (.frefQualified n) s = .next t ∧ t.frefOk n = true ∧
        t.tb.pllARef = t.bestFref (fun _ => true) ∧ t = { s with tb := t.tb, clk := t.clk }) ∧
      ((10 ≤ n ∨ s.frefOk n = false) → exec (.frefDisqualified n) s = .next s) ∧
      (n < 10 → s.frefOk n = true → ∃ t, exec (.frefDisqualified n) s = .next t ∧ t.frefOk n = false ∧
        (n < 8 → t.tb.pllARef ≠ some n ∧ t.tb.pllBRef ≠ some n) ∧
        t = { s with tb := t.tb, clk := t.clk, evr := t.evr, ctr := t.ctr, out := t.out })) ∧
    ((s.clk.tableApplied = false ∨ s.pwr.avsOk = false) → (∀ b a k, exec (.avsAdjust b a k) s = .next s) ∧
      ∀ k, exec (.avsMarginAlarm k) s = .next s) ∧
    (s.tb.running = true → s.now < s.pwr.avsAt + msStamp → ∀ b a k, exec (.avsAdjust b a k) s = .next s) ∧
    (s.clk.tableApplied = true → s.pwr.avsOk = true → (s.tb.running = true → s.pwr.avsAt + msStamp ≤ s.now) →
      (∀ a, s.pwr.minMv ≤ s.pwr.mv + 5 → s.pwr.mv + 5 ≤ 800 → exec (.avsAdjust true a true) s = .next { s with
        pwr := { s.pwr with mv := s.pwr.mv + 5, avsFails := 0, avsAt := s.now }, out := s.out ++ [.avs (s.pwr.mv + 5)] }) ∧
      (800 < s.pwr.mv + 5 → ∀ a k, exec (.avsAdjust true a k) s = .next { s with pwr := { s.pwr with avsAt := s.now } }) ∧
      (s.pwr.minMv ≤ s.pwr.mv - 5 → s.pwr.mv - 5 ≤ 800 → exec (.avsAdjust false true true) s = .next { s with
        pwr := { s.pwr with mv := s.pwr.mv - 5, avsFails := 0, avsAt := s.now }, out := s.out ++ [.avs (s.pwr.mv - 5)] }) ∧
      (s.pwr.mv - 5 < s.pwr.minMv → ∀ k, exec (.avsAdjust false true k) s = .next { s with pwr := { s.pwr with avsAt := s.now } }) ∧
      ∀ k, exec (.avsAdjust false false k) s = .next { s with pwr := { s.pwr with avsAt := s.now } }) ∧
    (s.clk.tableApplied = true → s.pwr.avsOk = true →
      (s.pwr.minMv ≤ s.pwr.mv + 5 → s.pwr.mv + 5 ≤ 800 → exec (.avsMarginAlarm true) s = .next { s with
        pwr := { s.pwr with mv := s.pwr.mv + 5, avsFails := 0 }, out := s.out ++ [.avs (s.pwr.mv + 5)] }) ∧
      (800 < s.pwr.mv + 5 → ∀ k, exec (.avsMarginAlarm k) s = .next s) ∧
      (s.pwr.minMv ≤ s.pwr.mv + 5 → s.pwr.mv + 5 ≤ 800 → s.pwr.avsFails = 2 → ∃ t, exec (.avsMarginAlarm false) s = .next t ∧
        t.pwr = { s.pwr with avsFails := 3, avsOk := false })) ∧
    ((s.clk.tableApplied = false ∨ s.pwr.avsOk = true ∨ (s.tb.running = true ∧ s.now < s.pwr.avsAt + secStamp)) →
      ∀ k, exec (.avsRetry k) s = .next s) ∧
    (s.clk.tableApplied = true → s.pwr.avsOk = false → (s.tb.running = true → s.pwr.avsAt + secStamp ≤ s.now) →
      exec (.avsRetry true) s = .next { s with
        pwr := { s.pwr with avsOk := true, avsFails := 0, avsAt := s.now }, out := s.out ++ [.avs s.pwr.mv] } ∧
      exec (.avsRetry false) s = .next { s with pwr := { s.pwr with avsAt := s.now }, out := s.out ++ [.avs s.pwr.mv] }) ∧
    (∀ n tj, ((n = 0 ∨ 16 < n ∨ tj < 1888) → exec (.thermalThrottle n tj) s = .next s) ∧
      (1 ≤ n → n ≤ 16 → 1888 ≤ tj → s.pwr.throttled = false → ∃ t, exec (.thermalThrottle n tj) s = .next t ∧
        t.pwr.throttled = true ∧ t.fld F.pwrTherm_throttleSticky = 1 ∧ tj ≤ t.pwr.tjMax ∧ t.tb = s.tb ∧ t.clk = s.clk) ∧
      (1 ≤ n → n ≤ 16 → 1888 ≤ tj → s.pwr.throttled = true → exec (.thermalThrottle n tj) s = .next (s.noteTj n tj)) ∧
      ((n = 0 ∨ 16 < n ∨ tj < 2080) → exec (.thermalTrip n tj) s = .next s) ∧
      (1 ≤ n → n ≤ 16 → 2080 ≤ tj → ∃ t, exec (.thermalTrip n tj) s = .next t ∧ t.pwr.tripped = true ∧ t.tb.running = false ∧
        t.evr.stopped = true ∧ t.fld F.pwrTherm_tripSticky = 1 ∧ t.out.getLast? = some .thermtrip ∧ t.ports = s.ports)) ∧
    ((s.pwr.throttled = false ∨ (s.tb.running = true ∧ s.now < s.pwr.hotAt + 100 * msStamp)) →
      exec .throttleEnd s = .next s) ∧
    (s.pwr.throttled = true → (s.tb.running = true → s.pwr.hotAt + 100 * msStamp ≤ s.now) → exec .throttleEnd s =
      .next (State.event { s with pwr := { s.pwr with throttled := false } } 0xB035 1 []))) ∧
  (∀ s : State, Serving s → ∀ i b x, s.island i = x →
    ((20 ≤ i ∨ (x.switching = true ∧ x.hw = true)) → exec (.clockSelRequest i b) s = .next s) ∧
    (i < 20 → (x.switching = false ∨ x.hw = false) →
      (pllLocked x b = false → exec (.clockSelRequest i b) s = .next (s.noticeAddr (Reg.clkIslCtrl i))) ∧
      (pllLocked x b = true → ∃ t, exec (.clockSelRequest i b) s = .next t ∧
        t.regs = (s.setFld (F.clkIslCtrl_selReq i) (b2n b)).regs ∧
        ((x.switching = true ∨ (x.safe = false ∧ x.selB = b)) → t.clk = s.clk) ∧
        (x.switching = false → (x.safe = true ∨ x.selB ≠ b) → (t.island i).switching = true ∧ (t.island i).target = b ∧
          (t.island i).hw = false ∧ (t.island i).toSafe = false) ∧ t = { s with regs := t.regs, clk := t.clk }))) ∧
  ∀ s : State,
    exec .tapReset s = .next { s with tap := { s.tap with ir := .idcode } } ∧
    (∀ p ∈ [(Instr.extest, TapIr.extest), (.extestPulse, .extestPulse), (.extestTrain, .extestTrain), (.clamp, .clamp),
      (.highz, .highz)], exec p.1 s = .next { s with tap := { s.tap with ir := p.2 }, assured := false }) ∧
    exec .idcode s = .next { s with tap := { s.tap with ir := .idcode }, out := s.out ++ [.tap (le 4 s.idcode)] } ∧
    (∃ t b, exec .samplePreload s = .next t ∧ t.tap = ⟨.samplePreload, true⟩ ∧ t.out = s.out ++ [.tap b] ∧
      t = { s with tap := t.tap, out := t.out, free := t.free }) ∧
    (∀ ir, ir ∈ [(0x00 : Byte), 0x01, 0x02, 0x08, 0x09, 0x0E, 0x0F] → exec (.bypass ir) s = .next s) ∧
    ∀ ir, ir ∉ [(0x00 : Byte), 0x01, 0x02, 0x08, 0x09, 0x0E, 0x0F] →
      exec (.bypass ir) s = .next { s with tap := { s.tap with ir := .bypass } }

/-- Resets and boot. A power-on reset leaves everything at its reset value but flash, fuses, the fault-log region, what has left the block and
`TRIP_STICKY`; it is held until PWRON_RST_N is released, when the straps are sampled. A warm reset comes 10 µs after its request and keeps
power, straps and the sticky bits. Firmware starts from the slot that the superblock names, in either flash device, else from the other, else the device is in
RECOVERY. Replay takes the time and the Ream number from the newer checkpoint, and the store from the newest superblock whose base is
valid. SERVICE is reached when every configured port has settled. -/
def Obligations.ResetAndBoot : Prop :=
  (∀ (s : State) (ok : Bool), ∃ t, exec (.powerOnReset ok) s = .next t ∧ t.rst = ⟨true, if ok then 0 else 1, s.evr.fatal, 0, none⟩ ∧
    t.assured = true ∧ t.pending = s.pending ∧ t.coh = State.reset.coh ∧ t.tb = State.reset.tb ∧ t.hif = State.reset.hif ∧
    t.tm = State.reset.tm ∧ t.qm = State.reset.qm ∧ t.ports = State.reset.ports ∧ t.clk = State.reset.clk ∧ t.svc = State.reset.svc ∧
    t.evr.region = s.evr.region ∧ t.evr.fatal = false ∧ t.nvm.sb0 = s.nvm.sb0 ∧ t.nvm.sb1 = s.nvm.sb1 ∧
    t.mgt.fusedMin = s.mgt.fusedMin ∧
    (s.nvm.writing = [] → t.nvm.journal = s.nvm.journal) ∧ t.nvm.fw = s.nvm.fw ∧ t.nvm.bases = s.nvm.bases ∧ t.ldg.keys = Table.empty ∧ (s.ldg.ckptWriting = none → t.ldg.ckpt0 = s.ldg.ckpt0) ∧
    t.fld F.pwrTherm_tripSticky = s.fld F.pwrTherm_tripSticky) ∧
  (∀ (s : State) (w : Word), s.assured = true →
    (s.rst.held = false → exec (.pwronResetRelease w) s = .next s) ∧
    (s.rst.held = true → ∃ t, exec (.pwronResetRelease w) s = .next t ∧ t.rst = { s.rst with held := false } ∧
      t.mgt.released = true ∧ t.mgt.bootSel = w.toNat / 8 % 4 ∧ t.nvm.mirror = w.toNat.testBit 5 ∧
      (w.toNat.testBit 5 = false → (t.unit .flash 0 1).state = .outOfService) ∧ t.regs = s.regs ∧ t.coh = s.coh)) ∧
  (∀ s : State, Live s →
    ((s.mgt.released = false ∨ s.mgt.oscRunning = true) → exec .oscWaitElapsed s = .next s) ∧
    (s.mgt.released = true → s.mgt.oscRunning = false → exec .oscWaitElapsed s = .next { s with
      mgt := { s.mgt with oscRunning := true }, clk := { s.clk with xtalRunning := true } }) ∧
    (∀ w : Word, (w.toNat.testBit 16 = false → exec (.warmResetRequest w) s = .next s) ∧
      (w.toNat.testBit 16 = true → w.toNat % 65536 ≠ 0x5741 → exec (.warmResetRequest w) s = .next (s.noticeAddr Reg.rstCtrl)) ∧
      (w.toNat.testBit 16 = true → w.toNat % 65536 = 0x5741 → s.rst.warmAt = none → exec (.warmResetRequest w) s =
        .next { s with rst := { s.rst with warmAt := some (s.now + 10 * usStamp) } }) ∧
      (w.toNat.testBit 16 = true → w.toNat % 65536 = 0x5741 → s.rst.warmAt ≠ none → exec (.warmResetRequest w) s = .next s)) ∧
    (s.rst.warmAt = none → exec .warmReset s = .next s) ∧
    (∀ t0, s.rst.warmAt = some t0 → (s.tb.running = true → s.now < t0 → exec .warmReset s = .next s) ∧
      ((s.tb.running = false ∨ t0 ≤ s.now) → ∃ t, exec .warmReset s = .next t ∧
        t.rst = ⟨false, 2, s.evr.fatal, s.rst.warmCount + 1, none⟩ ∧ t.pwr = { s.pwr with avsAt := 0, hotAt := 0 } ∧ t.mgt.bootSel = s.mgt.bootSel ∧
        t.mgt.oscRunning = true ∧ t.mgt.stage = .rom ∧ t.evr.fatal = false ∧ t.evr.region = s.evr.region ∧ t.tb = State.reset.tb ∧
        t.coh = State.reset.coh ∧ t.hif = State.reset.hif ∧ t.reg Reg.pwrTherm = s.reg Reg.pwrTherm ∧ t.pending = s.pending))) ∧
  ∀ s : State, Serving s →
    (∀ a b x y, ((s.mgt.oscRunning = false ∨ s.mgt.stage ≠ .rom) → exec (.firmwareStart a b x y) s = .next s) ∧
      (s.mgt.oscRunning = true → s.mgt.stage = .rom →
        (∀ f, s.nvm.sb0 = [] → s.nvm.sb1 = [] → s.nvm.fw.get? 0 = none → a.flash0 = some f → s.fwValid f = true →
          ∃ t, exec (.firmwareStart a b x y) s = .next t ∧ t.mgt.fwRuns = true ∧ t.mgt.fwSlot = 0 ∧ t.mgt.fwSvn = f.svn ∧
            t.clk.tableApplied = true ∧ (s.mgt.bootSel = 0 → t.mgt.stage = .clocks) ∧
            ((s.mgt.bootSel = 1 ∨ s.mgt.bootSel = 3) → t.mgt.stage = .recovery)) ∧
        (∀ f, s.nvm.sb0 = [] → s.nvm.sb1 = [] → s.nvm.fw = Table.empty → s.nvm.mirror = true → a.flash0 = none → a.flash1 = some f →
          s.fwValid f = true → ∃ t, exec (.firmwareStart a b x y) s = .next t ∧ t.mgt.fwRuns = true ∧ t.mgt.fwSlot = 0 ∧
            t.mgt.fwHash = f.hash) ∧
        (∀ f, s.nvm.sb0 = [] → s.nvm.sb1 = [] → s.nvm.fw = Table.empty → a = ⟨none, none⟩ → b.flash0 = some f → s.fwValid f = true →
          ∃ t, exec (.firmwareStart a b x y) s = .next t ∧ t.mgt.fwRuns = true ∧ t.mgt.fwSlot = 1 ∧ t.mgt.fwHash = f.hash) ∧
        (s.nvm.fw = Table.empty → a = ⟨none, none⟩ → b = ⟨none, none⟩ → ∃ t, exec (.firmwareStart a b x y) s = .next t ∧ t.mgt.stage = .recovery ∧ t.mgt.updateOpen = true ∧
          t.mgt.fwRuns = s.mgt.fwRuns ∧ t.clk.tableApplied = s.clk.tableApplied))) ∧
    (∀ r0 r1 o0 o1 ok,
      ((s.mgt.fwRuns = false ∨ s.tb.running = true) → exec (.storeReplay r0 r1 o0 o1 ok) s = .next s) ∧
      (s.mgt.fwRuns = true → s.tb.running = false →
        (∀ rd, rd = (if r0 = true then [0] else []) ++ (if r1 = true ∧ s.nvm.mirror = true then [1] else []) →
          s.bootCkpt rd = none → ∃ t, exec (.storeReplay r0 r1 o0 o1 ok) s = .next t ∧ t.tb.running = true ∧
          t.tb.time = 0 ∧ t.ldg.running = true ∧
          (s.mgt.stage = .recovery → t.mgt.stage = .recovery) ∧
          (s.mgt.stage ≠ .recovery → s.chooseBase = none → t.mgt.stage = .store ∧ t.nvm.base = s.nvm.base) ∧
          (∀ sb b, s.mgt.stage ≠ .recovery → s.chooseBase = some (sb, b) → t.mgt.stage = .units ∧ t.nvm.base = some b ∧
            t.mgt.baseSlot = sb.baseSlot ∧ t.coh.assigned = t.coh.hwm ∧ t.coh.prevEpoch = t.coh.epoch ∧ t.coh.epoch ≤ t.coh.hwm ∧
            sb.epochHwm ≤ t.coh.hwm) ∧
          ((s.mgt.stage = .recovery ∨ s.chooseBase = none) → s.mrg = Deckle.init → s.rel = Release.init →
            ∃ c, t.ldg.cur = some c ∧ c.num = 1 ∧ c.genesis = true ∧ c.start = 0)) ∧
        (∀ rd k, rd = (if r0 = true then [0] else []) ++ (if r1 = true ∧ s.nvm.mirror = true then [1] else []) →
          s.mgt.stage = .recovery → s.bootCkpt rd = some k → s.up .flash 0 0 = true →
          (o0 = true → ∃ t, exec (.storeReplay r0 r1 o0 o1 ok) s = .next t ∧ t.tb.running = true ∧
            t.tb.time = (k.stop + 2 * secStamp) * 65536 ∧ t.ldg.prevNum = k.ream ∧ t.ldg.prevRoot = k.root ∧
            (∃ n, t.ldg.newestCkpt = some n ∧ n.reserved = k.reserved + 65536 ∧ n.seq = k.seq + 1) ∧
            (s.mrg = Deckle.init → s.rel = Release.init → ∃ c, t.ldg.cur = some c ∧ c.num = k.reserved + 1 ∧ c.boot = true ∧
              c.genesis = false)) ∧
          (o0 = false → s.nvm.mirror = false → ∃ t, exec (.storeReplay r0 r1 o0 o1 ok) s = .next t ∧ t.evr.fatal = true ∧
            t.tb.running = false)))) ∧
    ((s.mgt.stage ≠ .units ∨ s.bootPorts.all s.portSettled = false) → exec .bootServiceReached s = .next s) ∧
    (s.mgt.stage = .units → s.bootPorts.all s.portSettled = true → ∃ t, exec .bootServiceReached s = .next t ∧ t.mgt.stage = .service ∧
      t.mgt.bootMs ≤ 0xFFFF ∧ t.mgt.raiseMinRun = s.mgt.raiseMinRun + 1 ∧
      t.mgt.fusedMin = (if s.mgt.fwRaiseMin = true ∧ 3 ≤ t.mgt.raiseMinRun then max s.mgt.fusedMin s.mgt.fwSvn else s.mgt.fusedMin) ∧
      t = { s with mgt := t.mgt, evr := t.evr, ctr := t.ctr, out := t.out, free := t.free })

/-- An access to an address that no block decodes, by itself or through a window, while the host link carries requests and the PF
decodes them: a read returns 0 and a write is discarded, and either records a NOTICE that names the address. (In FATAL the write is
discarded with all BAR0 writes, R742.) At any other address the command does nothing but show that the link is in use. A read of a doorbell BAR returns 0 too. -/
def Obligations.UndecodedAccess : Prop :=
  ∀ (s : State) (a : Nat), Live s → s.hif.dlUp = true →
    (s.fnDecodes 0 = true →
      (¬((windowOf a = none ∧ decoded a = true) ∨ ∃ x, windowOf a = some x ∧ decoded (x.addr 0) = true) →
        exec (.undecodedAccess ⟨.bar0, a⟩ false) s = .next (((s.touch 0).noticeAddr a).emit (.readData a 0)) ∧
        (s.evr.fatal = false → exec (.undecodedAccess ⟨.bar0, a⟩ true) s = .next ((s.touch 4).noticeAddr a) ∧
          ((s.touch 4).noticeAddr a).regs = s.regs)) ∧
      (((windowOf a = none ∧ decoded a = true) ∨ ∃ x, windowOf a = some x ∧ decoded (x.addr 0) = true) →
        ∀ w, exec (.undecodedAccess ⟨.bar0, a⟩ w) s = .next (s.touch (if w = true then 4 else 0)))) ∧
    ∀ fn, (s.fnDecodes fn = true → exec (.undecodedAccess ⟨(.doorbell fn), a⟩ false) s =
        .next ((s.touch 0).emit (.readData a 0))) ∧
      exec (.undecodedAccess ⟨(.doorbell fn), a⟩ true) s = .next s

/-- Accesses to PF BAR0. A write of whole dwords writes each, the lowest address first; a write of no byte does nothing (the model's
choice, assumption 101), and one within a dword is discarded with a NOTICE. A field is written by its change class: an L-class one at once,
an H-class one only while its unit is OUT_OF_SERVICE, an S-class one in its shadow. A window without a member, and an address that no
block decodes, take no write. A read of 4 bytes reads the dword, one of 8 aligned bytes its dword and then the next, and any other gets
Completer Abort. A window reads its lowest member and notes a mismatch. A counter's low half is read and cleared in one access, which
latches the high half; a register's RC fields are read; a PIPE pair is read and cleared. -/
def Obligations.RegisterAccess : Prop :=
  ∀ s : State, Live s →
    (s.hif.dlUp = false → s.evr.fatal = false → (∀ a n d, exec (.registerWrite a n d) s = .next s) ∧
      ∀ a d, exec (.broadcastWrite a d) s = .next s) ∧
    (s.hif.dlUp = false → (∀ a n, exec (.bar0BadLengthRead a n) s = .next s) ∧
      (∀ a w, exec (.broadcastRead a) s = .next s ∧ exec (.counterLoRead ⟨a, w⟩) s = .next s ∧ exec (.rcRegisterRead ⟨a, w⟩) s = .next s) ∧
      ∀ n w, exec (.pipeCounterRead ⟨n, w⟩) s = .next s) ∧
    (s.hif.dlUp = true → s.fnDecodes 0 = false →
      (s.evr.fatal = false → (∀ a n d, exec (.registerWrite a n d) s = .next ((s.touch n).unsupportedReq 0)) ∧
        ∀ a d, exec (.broadcastWrite a d) s = .next ((s.touch 4).unsupportedReq 0)) ∧
      (∀ a n w, exec (.bar0BadLengthRead a n) s = .next ((s.touch 0).unsupportedReq 0) ∧ exec (.broadcastRead a) s = .next ((s.touch 0).unsupportedReq 0) ∧
        exec (.counterLoRead ⟨a, w⟩) s = .next ((s.touch 0).unsupportedReq 0) ∧ exec (.rcRegisterRead ⟨a, w⟩) s = .next ((s.touch 0).unsupportedReq 0)) ∧
      ∀ n w, exec (.pipeCounterRead ⟨n, w⟩) s = .next ((s.touch 0).unsupportedReq 0)) ∧
    (s.hif.dlUp = true → s.fnDecodes 0 = true →
      (s.evr.fatal = false →
        (∀ a d, exec (.registerWrite a 0 d) s = .next (s.touch 0)) ∧
        (∀ a n d, 0 < n → a % 4 + n < 4 → exec (.registerWrite a n d) s = .next ((s.touch n).noticeAddr (a / 4 * 4))) ∧
        (∀ a k d, a % 4 = 0 → exec (.registerWrite a (4 * k) d) s = .next ((List.range k).foldl (fun (u : State) j =>
          u.writeDword (a + 4 * j) (d / 2 ^ (32 * j) % 2 ^ 32)) (s.touch (4 * k)))) ∧
        (∀ p d, p < 96 → d < 2 ^ 32 → s.configured p = true → s.regs.cells.wf = true → 64 ≤ d % 2 ^ 14 →
          ∃ t, exec (.registerWrite (F.portMacCfg_maxFrame p).addr 4 d) s = .next t ∧ t.fld (F.portMacCfg_maxFrame p) = d % 2 ^ 14 ∧
            t = { s.touch 4 with regs := t.regs }) ∧
        (∀ p d, p < 96 → d < 2 ^ 32 → s.configured p = false → exec (.registerWrite (F.portMacCfg_maxFrame p).addr 4 d) s = .next (s.touch 4)) ∧
        (∀ p d, p < 96 → d < 2 ^ 32 → s.configured p = true → s.up .port 0 p = true →
          ∃ t, exec (.registerWrite (Reg.portMode p) 4 d) s = .next t ∧ t.fld (F.portMode_width p) = s.fld (F.portMode_width p) ∧
            t.fld (F.portMode_laneRate p) = s.fld (F.portMode_laneRate p) ∧ t.fld (F.portMode_fec p) = s.fld (F.portMode_fec p)) ∧
        (∀ n d, n < 8 → d < 2 ^ 32 → ∃ t, exec (.registerWrite (0x2000510 + n * 0x100000) 4 d) s = .next t ∧
          t.regs.shadow.get? (0x2000510 + n * 0x100000) = some (BitVec.ofNat 32 d) ∧
          t = { s.touch 4 with regs := { s.regs with shadow := t.regs.shadow } }) ∧
        (∀ a d, windowOf a = none → a % 4 = 0 → d < 2 ^ 32 → decoded a = false → exec (.registerWrite a 4 d) s = .next ((s.touch 4).noticeAddr a)) ∧
        (∀ a d x, windowOf a = some x → a % 4 = 0 → s.members x = [] →
          exec (.broadcastWrite a d) s = .next ((s.touch 4).noticeAddr a) ∧
          exec (.registerWrite a 4 d.toNat) s = .next ((s.touch 4).noticeAddr a)) ∧
        (∀ a d x, windowOf a = some x → a % 4 = 0 → exec (.broadcastWrite a d) s = .next ((s.touch 4).writeWindow x a d.toNat) ∧
          exec (.broadcastWrite a d) s = exec (.registerWrite a 4 d.toNat) s) ∧
        ∀ a d, windowOf a = none → exec (.broadcastWrite a d) s = .next (s.touch 4)) ∧
      ∀ v, v = s.touch 0 →
      (∀ a, exec (.bar0BadLengthRead a 4) s = .next (v.readDword a)) ∧
      (∀ a, a % 8 = 0 → exec (.bar0BadLengthRead a 8) s = .next ((v.readDword a).readDword (a + 4))) ∧
      (∀ a n, n ≠ 4 → (n ≠ 8 ∨ a % 8 ≠ 0) → ∃ t l, exec (.bar0BadLengthRead a n) s = .next t ∧
        t.out = s.out ++ Out.completerAbort a :: l ∧ t.regs = s.regs ∧ t.tb = s.tb ∧ t.coh = s.coh ∧
        (s.snap.phase ≠ .armed → t.ctr.value.getD C.hifBadAccess 0 = s.ctr.value.getD C.hifBadAccess 0 + 1)) ∧
      (∀ a, windowOf a = none → exec (.broadcastRead a) s = .next v) ∧
      (∀ a x, windowOf a = some x → s.members x = [] →
        exec (.broadcastRead a) s = .next ((v.noticeAddr a).emit (.readData a 0))) ∧
      (∀ a x h l u, windowOf a = some x → s.members x = h :: l → decoded (x.addr h) = true →
        u = (h :: l).foldl (fun (y : State) n => y.settleLine (x.addr n)) v →
        ∃ t, exec (.broadcastRead a) s = .next t ∧ t.out = s.out ++ [.readData a (u.peek (x.addr h))] ∧
          ((∀ n ∈ l, u.peek (x.addr n) = u.peek (x.addr h)) → t.regs = s.regs) ∧
          (s.regs.cells.wf = true → (∃ n ∈ l, u.peek (x.addr n) ≠ u.peek (x.addr h)) → t.fld F.glbBcastStatus_mismatch = 1) ∧
          t = { u with regs := t.regs, out := t.out }) ∧
      (∀ a w, findCtr ctrTable a = none → exec (.counterLoRead ⟨a, w⟩) s = .next v) ∧
      (∀ a c, findCtr ctrTable a = some c → c.perPort = false → lineCounter a = false →
        ∃ t, exec (.counterLoRead ⟨a, false⟩) s = .next t ∧ t.out = s.out ++ [.readData a (lo32 (s.ctr.value.getD a 0).toNat)] ∧
          (s.ctr.value.wf = true → t.ctr.value.getD a 0 = 0) ∧
          (s.ctr.high.wf = true → (t.ctr.high.getD a 0).toNat = hi32 (s.ctr.value.getD a 0).toNat) ∧
          t = { v with ctr := t.ctr, out := t.out }) ∧
      (∀ a c, findCtr ctrTable a = some c → c.perPort = true →
        s.answers true ((rowIndex c.base c.dims a).getD []) = false →
        exec (.counterLoRead ⟨a, false⟩) s = .next (v.emit (.readData a 0))) ∧
      (∀ a w, findRow regTable a = none → exec (.rcRegisterRead ⟨a, w⟩) s = .next v) ∧
      (∀ a r l, findRow regTable a = some (r, l) → r.base ≠ Reg.mbxData 0 0 → r.base / 0x1000000 ≠ 1 →
        (∃ t, exec (.rcRegisterRead ⟨a, false⟩) s = .next t ∧ t.out = s.out ++ [.readData a (v.view a)] ∧ t.ctr = s.ctr ∧ t.coh = s.coh) ∧
        ((∀ f ∈ r.fields, f.acc ≠ .rc) → exec (.rcRegisterRead ⟨a, false⟩) s = .next (v.emit (.readData a (v.view a))))) ∧
      (∀ a r l u, findRow regTable a = some (r, l) → r.base ≠ Reg.mbxData 0 0 → r.base / 0x1000000 = 1 →
        u = v.settleSa (l.headD 0) →
        ∃ t, exec (.rcRegisterRead ⟨a, false⟩) s = .next t ∧ t.out = u.out ++ [.readData a (u.view a)] ∧ t.coh = u.coh) ∧
      (∀ a r l, findRow regTable a = some (r, l) → r.base = Reg.mbxData 0 0 → exec (.rcRegisterRead ⟨a, false⟩) s =
        .next ((v.mbxRead idHost (l.headD 0) (l.getD 1 0)).2.emit (.readData a (v.mbxRead idHost (l.headD 0) (l.getD 1 0)).1))) ∧
      (∀ n w, 8 ≤ n → exec (.pipeCounterRead ⟨n, w⟩) s = .next v) ∧
      (∀ n, n < 8 → ∃ t, exec (.pipeCounterRead ⟨n, false⟩) s = .next t ∧
        t.out = s.out ++ [.readData (pipePktLo n) (lo32 (s.ctr.pair.getD (s.pipeKey n) PairCtr.init).pkts.toNat)] ∧
        t.ctr = { s.ctr with pair := s.ctr.pair.erase (s.pipeKey n) } ∧ t.coh = s.coh ∧ t.flow = s.flow) ∧
      ∀ a t, (findCtr ctrTable a ≠ none → a % 8 = 0 → exec (.counterLoRead ⟨a, false⟩) s = .next t →
          exec (.counterLoRead ⟨a, true⟩) s = .next (t.readDword (a + 4))) ∧
        (findRow regTable a ≠ none → a % 8 = 0 → exec (.rcRegisterRead ⟨a, false⟩) s = .next t →
          exec (.rcRegisterRead ⟨a, true⟩) s = .next (t.readDword (a + 4))) ∧
        (a < 8 → pipePktLo a % 8 = 0 → exec (.pipeCounterRead ⟨a, false⟩) s = .next t →
          exec (.pipeCounterRead ⟨a, true⟩) s = .next (t.readDword (pipePktLo a + 4))))
end

