-- ==== Sys2Proof/Laws/State.lean ====
section
/-! SUPPORT. What each update of `State` leaves unchanged, field by field: each equation is a rewriting rule of its own. -/

namespace Sys2Proof.Machine

/-- Sending something changes only what has left the block. -/
@[simp] theorem State.emit_frame (s : State) (o : Out) :
    (s.emit o).pending = s.pending ∧ (s.emit o).free = s.free ∧ (s.emit o).assured = s.assured ∧ (s.emit o).nextFrame = s.nextFrame ∧
    (s.emit o).regs = s.regs ∧ (s.emit o).ctr = s.ctr ∧ (s.emit o).coh = s.coh ∧ (s.emit o).snap = s.snap ∧
    (s.emit o).tb = s.tb ∧ (s.emit o).stp = s.stp ∧ (s.emit o).ldg = s.ldg ∧ (s.emit o).mrg = s.mrg ∧
    (s.emit o).rel = s.rel ∧ (s.emit o).ports = s.ports ∧ (s.emit o).lanes = s.lanes ∧ (s.emit o).slices = s.slices ∧
    (s.emit o).flow = s.flow ∧ (s.emit o).tm = s.tm ∧ (s.emit o).eng = s.eng ∧ (s.emit o).hif = s.hif ∧
    (s.emit o).qm = s.qm ∧ (s.emit o).mgt = s.mgt ∧ (s.emit o).nvm = s.nvm ∧ (s.emit o).evr = s.evr ∧
    (s.emit o).tel = s.tel ∧ (s.emit o).clk = s.clk ∧ (s.emit o).pwr = s.pwr ∧ (s.emit o).rst = s.rst ∧
    (s.emit o).svc = s.svc ∧ (s.emit o).tap = s.tap :=
  ⟨rfl, rfl, rfl, rfl, rfl, rfl, rfl, rfl, rfl, rfl, rfl, rfl, rfl, rfl, rfl, rfl, rfl, rfl, rfl, rfl, rfl, rfl, rfl, rfl, rfl, rfl, rfl, rfl, rfl, rfl⟩

/-- Storing a register changes only the register file. -/
@[simp] theorem State.setReg_frame (s : State) (a v : Nat) :
    (s.setReg a v).pending = s.pending ∧ (s.setReg a v).free = s.free ∧ (s.setReg a v).assured = s.assured ∧ (s.setReg a v).out = s.out ∧
    (s.setReg a v).nextFrame = s.nextFrame ∧ (s.setReg a v).ctr = s.ctr ∧ (s.setReg a v).coh = s.coh ∧ (s.setReg a v).snap = s.snap ∧
    (s.setReg a v).tb = s.tb ∧ (s.setReg a v).stp = s.stp ∧ (s.setReg a v).ldg = s.ldg ∧ (s.setReg a v).mrg = s.mrg ∧
    (s.setReg a v).rel = s.rel ∧ (s.setReg a v).ports = s.ports ∧ (s.setReg a v).lanes = s.lanes ∧ (s.setReg a v).slices = s.slices ∧
    (s.setReg a v).flow = s.flow ∧ (s.setReg a v).tm = s.tm ∧ (s.setReg a v).eng = s.eng ∧ (s.setReg a v).hif = s.hif ∧
    (s.setReg a v).qm = s.qm ∧ (s.setReg a v).mgt = s.mgt ∧ (s.setReg a v).nvm = s.nvm ∧ (s.setReg a v).evr = s.evr ∧
    (s.setReg a v).tel = s.tel ∧ (s.setReg a v).clk = s.clk ∧ (s.setReg a v).pwr = s.pwr ∧ (s.setReg a v).rst = s.rst ∧
    (s.setReg a v).svc = s.svc ∧ (s.setReg a v).tap = s.tap :=
  ⟨rfl, rfl, rfl, rfl, rfl, rfl, rfl, rfl, rfl, rfl, rfl, rfl, rfl, rfl, rfl, rfl, rfl, rfl, rfl, rfl, rfl, rfl, rfl, rfl, rfl, rfl, rfl, rfl, rfl, rfl⟩

/-- Storing a field changes only the register file. -/
@[simp] theorem State.setFld_frame (s : State) (f : FieldRef) (v : Nat) :
    (s.setFld f v).pending = s.pending ∧ (s.setFld f v).free = s.free ∧ (s.setFld f v).assured = s.assured ∧ (s.setFld f v).out = s.out ∧
    (s.setFld f v).nextFrame = s.nextFrame ∧ (s.setFld f v).ctr = s.ctr ∧ (s.setFld f v).coh = s.coh ∧ (s.setFld f v).snap = s.snap ∧
    (s.setFld f v).tb = s.tb ∧ (s.setFld f v).stp = s.stp ∧ (s.setFld f v).ldg = s.ldg ∧ (s.setFld f v).mrg = s.mrg ∧
    (s.setFld f v).rel = s.rel ∧ (s.setFld f v).ports = s.ports ∧ (s.setFld f v).lanes = s.lanes ∧ (s.setFld f v).slices = s.slices ∧
    (s.setFld f v).flow = s.flow ∧ (s.setFld f v).tm = s.tm ∧ (s.setFld f v).eng = s.eng ∧ (s.setFld f v).hif = s.hif ∧
    (s.setFld f v).qm = s.qm ∧ (s.setFld f v).mgt = s.mgt ∧ (s.setFld f v).nvm = s.nvm ∧ (s.setFld f v).evr = s.evr ∧
    (s.setFld f v).tel = s.tel ∧ (s.setFld f v).clk = s.clk ∧ (s.setFld f v).pwr = s.pwr ∧ (s.setFld f v).rst = s.rst ∧
    (s.setFld f v).svc = s.svc ∧ (s.setFld f v).tap = s.tap :=
  ⟨rfl, rfl, rfl, rfl, rfl, rfl, rfl, rfl, rfl, rfl, rfl, rfl, rfl, rfl, rfl, rfl, rfl, rfl, rfl, rfl, rfl, rfl, rfl, rfl, rfl, rfl, rfl, rfl, rfl, rfl⟩

/-- Changing a port changes only the ports. -/
@[simp] theorem State.modPort_frame (s : State) (p : Nat) (f : PortSt → PortSt) :
    (s.modPort p f).pending = s.pending ∧ (s.modPort p f).free = s.free ∧ (s.modPort p f).assured = s.assured ∧ (s.modPort p f).out = s.out ∧
    (s.modPort p f).nextFrame = s.nextFrame ∧ (s.modPort p f).regs = s.regs ∧ (s.modPort p f).ctr = s.ctr ∧ (s.modPort p f).coh = s.coh ∧
    (s.modPort p f).snap = s.snap ∧ (s.modPort p f).tb = s.tb ∧ (s.modPort p f).stp = s.stp ∧ (s.modPort p f).ldg = s.ldg ∧
    (s.modPort p f).mrg = s.mrg ∧ (s.modPort p f).rel = s.rel ∧ (s.modPort p f).lanes = s.lanes ∧ (s.modPort p f).slices = s.slices ∧
    (s.modPort p f).flow = s.flow ∧ (s.modPort p f).tm = s.tm ∧ (s.modPort p f).eng = s.eng ∧ (s.modPort p f).hif = s.hif ∧
    (s.modPort p f).qm = s.qm ∧ (s.modPort p f).mgt = s.mgt ∧ (s.modPort p f).nvm = s.nvm ∧ (s.modPort p f).evr = s.evr ∧
    (s.modPort p f).tel = s.tel ∧ (s.modPort p f).clk = s.clk ∧ (s.modPort p f).pwr = s.pwr ∧ (s.modPort p f).rst = s.rst ∧
    (s.modPort p f).svc = s.svc ∧ (s.modPort p f).tap = s.tap :=
  ⟨rfl, rfl, rfl, rfl, rfl, rfl, rfl, rfl, rfl, rfl, rfl, rfl, rfl, rfl, rfl, rfl, rfl, rfl, rfl, rfl, rfl, rfl, rfl, rfl, rfl, rfl, rfl, rfl, rfl, rfl⟩

/-- Changing a slice changes only the slices. -/
@[simp] theorem State.modSlice_frame (s : State) (n : Nat) (f : SliceSt → SliceSt) :
    (s.modSlice n f).pending = s.pending ∧ (s.modSlice n f).free = s.free ∧ (s.modSlice n f).assured = s.assured ∧ (s.modSlice n f).out = s.out ∧
    (s.modSlice n f).nextFrame = s.nextFrame ∧ (s.modSlice n f).regs = s.regs ∧ (s.modSlice n f).ctr = s.ctr ∧ (s.modSlice n f).coh = s.coh ∧
    (s.modSlice n f).snap = s.snap ∧ (s.modSlice n f).tb = s.tb ∧ (s.modSlice n f).stp = s.stp ∧ (s.modSlice n f).ldg = s.ldg ∧
    (s.modSlice n f).mrg = s.mrg ∧ (s.modSlice n f).rel = s.rel ∧ (s.modSlice n f).ports = s.ports ∧ (s.modSlice n f).lanes = s.lanes ∧
    (s.modSlice n f).flow = s.flow ∧ (s.modSlice n f).tm = s.tm ∧ (s.modSlice n f).eng = s.eng ∧ (s.modSlice n f).hif = s.hif ∧
    (s.modSlice n f).qm = s.qm ∧ (s.modSlice n f).mgt = s.mgt ∧ (s.modSlice n f).nvm = s.nvm ∧ (s.modSlice n f).evr = s.evr ∧
    (s.modSlice n f).tel = s.tel ∧ (s.modSlice n f).clk = s.clk ∧ (s.modSlice n f).pwr = s.pwr ∧ (s.modSlice n f).rst = s.rst ∧
    (s.modSlice n f).svc = s.svc ∧ (s.modSlice n f).tap = s.tap :=
  ⟨rfl, rfl, rfl, rfl, rfl, rfl, rfl, rfl, rfl, rfl, rfl, rfl, rfl, rfl, rfl, rfl, rfl, rfl, rfl, rfl, rfl, rfl, rfl, rfl, rfl, rfl, rfl, rfl, rfl, rfl⟩

/-- Changing a slice's tables changes only the tables. -/
@[simp] theorem State.modTabs_frame (s : State) (n : Nat) (f : SliceTables → SliceTables) :
    (s.modTabs n f).pending = s.pending ∧ (s.modTabs n f).free = s.free ∧ (s.modTabs n f).assured = s.assured ∧ (s.modTabs n f).out = s.out ∧
    (s.modTabs n f).nextFrame = s.nextFrame ∧ (s.modTabs n f).regs = s.regs ∧ (s.modTabs n f).ctr = s.ctr ∧ (s.modTabs n f).coh = s.coh ∧
    (s.modTabs n f).snap = s.snap ∧ (s.modTabs n f).tb = s.tb ∧ (s.modTabs n f).stp = s.stp ∧ (s.modTabs n f).ldg = s.ldg ∧
    (s.modTabs n f).mrg = s.mrg ∧ (s.modTabs n f).rel = s.rel ∧ (s.modTabs n f).ports = s.ports ∧ (s.modTabs n f).lanes = s.lanes ∧
    (s.modTabs n f).slices = s.slices ∧ (s.modTabs n f).tm = s.tm ∧ (s.modTabs n f).eng = s.eng ∧ (s.modTabs n f).hif = s.hif ∧
    (s.modTabs n f).qm = s.qm ∧ (s.modTabs n f).mgt = s.mgt ∧ (s.modTabs n f).nvm = s.nvm ∧ (s.modTabs n f).evr = s.evr ∧
    (s.modTabs n f).tel = s.tel ∧ (s.modTabs n f).clk = s.clk ∧ (s.modTabs n f).pwr = s.pwr ∧ (s.modTabs n f).rst = s.rst ∧
    (s.modTabs n f).svc = s.svc ∧ (s.modTabs n f).tap = s.tap :=
  ⟨rfl, rfl, rfl, rfl, rfl, rfl, rfl, rfl, rfl, rfl, rfl, rfl, rfl, rfl, rfl, rfl, rfl, rfl, rfl, rfl, rfl, rfl, rfl, rfl, rfl, rfl, rfl, rfl, rfl, rfl⟩

/-- Changing a function changes only the queue structures. -/
@[simp] theorem State.modFn_frame (s : State) (n : Nat) (g : FnSt → FnSt) :
    (s.modFn n g).pending = s.pending ∧ (s.modFn n g).free = s.free ∧ (s.modFn n g).assured = s.assured ∧ (s.modFn n g).out = s.out ∧
    (s.modFn n g).nextFrame = s.nextFrame ∧ (s.modFn n g).regs = s.regs ∧ (s.modFn n g).ctr = s.ctr ∧ (s.modFn n g).coh = s.coh ∧
    (s.modFn n g).snap = s.snap ∧ (s.modFn n g).tb = s.tb ∧ (s.modFn n g).stp = s.stp ∧ (s.modFn n g).ldg = s.ldg ∧
    (s.modFn n g).mrg = s.mrg ∧ (s.modFn n g).rel = s.rel ∧ (s.modFn n g).ports = s.ports ∧ (s.modFn n g).lanes = s.lanes ∧
    (s.modFn n g).slices = s.slices ∧ (s.modFn n g).flow = s.flow ∧ (s.modFn n g).tm = s.tm ∧ (s.modFn n g).eng = s.eng ∧
    (s.modFn n g).hif = s.hif ∧ (s.modFn n g).mgt = s.mgt ∧ (s.modFn n g).nvm = s.nvm ∧ (s.modFn n g).evr = s.evr ∧
    (s.modFn n g).tel = s.tel ∧ (s.modFn n g).clk = s.clk ∧ (s.modFn n g).pwr = s.pwr ∧ (s.modFn n g).rst = s.rst ∧
    (s.modFn n g).svc = s.svc ∧ (s.modFn n g).tap = s.tap :=
  ⟨rfl, rfl, rfl, rfl, rfl, rfl, rfl, rfl, rfl, rfl, rfl, rfl, rfl, rfl, rfl, rfl, rfl, rfl, rfl, rfl, rfl, rfl, rfl, rfl, rfl, rfl, rfl, rfl, rfl, rfl⟩

/-- Changing the queue structures changes nothing else. -/
@[simp] theorem State.modQm_frame (s : State) (g : Queues → Queues) :
    (s.modQm g).pending = s.pending ∧ (s.modQm g).free = s.free ∧ (s.modQm g).assured = s.assured ∧ (s.modQm g).out = s.out ∧
    (s.modQm g).nextFrame = s.nextFrame ∧ (s.modQm g).regs = s.regs ∧ (s.modQm g).ctr = s.ctr ∧ (s.modQm g).coh = s.coh ∧
    (s.modQm g).snap = s.snap ∧ (s.modQm g).tb = s.tb ∧ (s.modQm g).stp = s.stp ∧ (s.modQm g).ldg = s.ldg ∧
    (s.modQm g).mrg = s.mrg ∧ (s.modQm g).rel = s.rel ∧ (s.modQm g).ports = s.ports ∧ (s.modQm g).lanes = s.lanes ∧
    (s.modQm g).slices = s.slices ∧ (s.modQm g).flow = s.flow ∧ (s.modQm g).tm = s.tm ∧ (s.modQm g).eng = s.eng ∧
    (s.modQm g).hif = s.hif ∧ (s.modQm g).mgt = s.mgt ∧ (s.modQm g).nvm = s.nvm ∧ (s.modQm g).evr = s.evr ∧
    (s.modQm g).tel = s.tel ∧ (s.modQm g).clk = s.clk ∧ (s.modQm g).pwr = s.pwr ∧ (s.modQm g).rst = s.rst ∧
    (s.modQm g).svc = s.svc ∧ (s.modQm g).tap = s.tap :=
  ⟨rfl, rfl, rfl, rfl, rfl, rfl, rfl, rfl, rfl, rfl, rfl, rfl, rfl, rfl, rfl, rfl, rfl, rfl, rfl, rfl, rfl, rfl, rfl, rfl, rfl, rfl, rfl, rfl, rfl, rfl⟩

/-- Changing a unit changes only the service states. -/
@[simp] theorem State.setUnit_frame (s : State) (k : UnitKind) (sl n : Nat) (u : UnitSt) :
    (s.setUnit k sl n u).pending = s.pending ∧ (s.setUnit k sl n u).free = s.free ∧ (s.setUnit k sl n u).assured = s.assured ∧ (s.setUnit k sl n u).out = s.out ∧
    (s.setUnit k sl n u).nextFrame = s.nextFrame ∧ (s.setUnit k sl n u).regs = s.regs ∧ (s.setUnit k sl n u).ctr = s.ctr ∧ (s.setUnit k sl n u).coh = s.coh ∧
    (s.setUnit k sl n u).snap = s.snap ∧ (s.setUnit k sl n u).tb = s.tb ∧ (s.setUnit k sl n u).stp = s.stp ∧ (s.setUnit k sl n u).ldg = s.ldg ∧
    (s.setUnit k sl n u).mrg = s.mrg ∧ (s.setUnit k sl n u).rel = s.rel ∧ (s.setUnit k sl n u).ports = s.ports ∧ (s.setUnit k sl n u).lanes = s.lanes ∧
    (s.setUnit k sl n u).slices = s.slices ∧ (s.setUnit k sl n u).flow = s.flow ∧ (s.setUnit k sl n u).tm = s.tm ∧ (s.setUnit k sl n u).eng = s.eng ∧
    (s.setUnit k sl n u).hif = s.hif ∧ (s.setUnit k sl n u).qm = s.qm ∧ (s.setUnit k sl n u).mgt = s.mgt ∧ (s.setUnit k sl n u).nvm = s.nvm ∧
    (s.setUnit k sl n u).evr = s.evr ∧ (s.setUnit k sl n u).tel = s.tel ∧ (s.setUnit k sl n u).clk = s.clk ∧ (s.setUnit k sl n u).pwr = s.pwr ∧
    (s.setUnit k sl n u).rst = s.rst ∧ (s.setUnit k sl n u).tap = s.tap :=
  ⟨rfl, rfl, rfl, rfl, rfl, rfl, rfl, rfl, rfl, rfl, rfl, rfl, rfl, rfl, rfl, rfl, rfl, rfl, rfl, rfl, rfl, rfl, rfl, rfl, rfl, rfl, rfl, rfl, rfl, rfl⟩

/-- Settling a port changes only what boot waits for. -/
@[simp] theorem State.settlePort_frame (s : State) (p : Nat) :
    (s.settlePort p).pending = s.pending ∧ (s.settlePort p).free = s.free ∧ (s.settlePort p).assured = s.assured ∧ (s.settlePort p).out = s.out ∧
    (s.settlePort p).nextFrame = s.nextFrame ∧ (s.settlePort p).regs = s.regs ∧ (s.settlePort p).ctr = s.ctr ∧ (s.settlePort p).coh = s.coh ∧
    (s.settlePort p).snap = s.snap ∧ (s.settlePort p).tb = s.tb ∧ (s.settlePort p).stp = s.stp ∧ (s.settlePort p).ldg = s.ldg ∧
    (s.settlePort p).mrg = s.mrg ∧ (s.settlePort p).rel = s.rel ∧ (s.settlePort p).ports = s.ports ∧ (s.settlePort p).lanes = s.lanes ∧
    (s.settlePort p).slices = s.slices ∧ (s.settlePort p).flow = s.flow ∧ (s.settlePort p).tm = s.tm ∧ (s.settlePort p).eng = s.eng ∧
    (s.settlePort p).hif = s.hif ∧ (s.settlePort p).qm = s.qm ∧ (s.settlePort p).nvm = s.nvm ∧ (s.settlePort p).evr = s.evr ∧
    (s.settlePort p).tel = s.tel ∧ (s.settlePort p).clk = s.clk ∧ (s.settlePort p).pwr = s.pwr ∧ (s.settlePort p).rst = s.rst ∧
    (s.settlePort p).svc = s.svc ∧ (s.settlePort p).tap = s.tap :=
  ⟨rfl, rfl, rfl, rfl, rfl, rfl, rfl, rfl, rfl, rfl, rfl, rfl, rfl, rfl, rfl, rfl, rfl, rfl, rfl, rfl, rfl, rfl, rfl, rfl, rfl, rfl, rfl, rfl, rfl, rfl⟩

/-- Dropping what waits changes only the host link. -/
@[simp] theorem State.dropWaitingHead_frame (s : State) (fn : Nat) :
    (s.dropWaitingHead fn).pending = s.pending ∧ (s.dropWaitingHead fn).free = s.free ∧ (s.dropWaitingHead fn).assured = s.assured ∧ (s.dropWaitingHead fn).out = s.out ∧
    (s.dropWaitingHead fn).nextFrame = s.nextFrame ∧ (s.dropWaitingHead fn).regs = s.regs ∧ (s.dropWaitingHead fn).ctr = s.ctr ∧ (s.dropWaitingHead fn).coh = s.coh ∧
    (s.dropWaitingHead fn).snap = s.snap ∧ (s.dropWaitingHead fn).tb = s.tb ∧ (s.dropWaitingHead fn).stp = s.stp ∧ (s.dropWaitingHead fn).ldg = s.ldg ∧
    (s.dropWaitingHead fn).mrg = s.mrg ∧ (s.dropWaitingHead fn).rel = s.rel ∧ (s.dropWaitingHead fn).ports = s.ports ∧ (s.dropWaitingHead fn).lanes = s.lanes ∧
    (s.dropWaitingHead fn).slices = s.slices ∧ (s.dropWaitingHead fn).flow = s.flow ∧ (s.dropWaitingHead fn).tm = s.tm ∧ (s.dropWaitingHead fn).eng = s.eng ∧
    (s.dropWaitingHead fn).qm = s.qm ∧ (s.dropWaitingHead fn).mgt = s.mgt ∧ (s.dropWaitingHead fn).nvm = s.nvm ∧ (s.dropWaitingHead fn).evr = s.evr ∧
    (s.dropWaitingHead fn).tel = s.tel ∧ (s.dropWaitingHead fn).clk = s.clk ∧ (s.dropWaitingHead fn).pwr = s.pwr ∧ (s.dropWaitingHead fn).rst = s.rst ∧
    (s.dropWaitingHead fn).svc = s.svc ∧ (s.dropWaitingHead fn).tap = s.tap :=
  ⟨rfl, rfl, rfl, rfl, rfl, rfl, rfl, rfl, rfl, rfl, rfl, rfl, rfl, rfl, rfl, rfl, rfl, rfl, rfl, rfl, rfl, rfl, rfl, rfl, rfl, rfl, rfl, rfl, rfl, rfl⟩

/-- Advancing a front changes only the ledger. -/
@[simp] theorem State.advanceFront_frame (s : State) (p : Nat) (t : Stamp) :
    (s.advanceFront p t).pending = s.pending ∧ (s.advanceFront p t).free = s.free ∧ (s.advanceFront p t).assured = s.assured ∧ (s.advanceFront p t).out = s.out ∧
    (s.advanceFront p t).nextFrame = s.nextFrame ∧ (s.advanceFront p t).regs = s.regs ∧ (s.advanceFront p t).ctr = s.ctr ∧ (s.advanceFront p t).coh = s.coh ∧
    (s.advanceFront p t).snap = s.snap ∧ (s.advanceFront p t).tb = s.tb ∧ (s.advanceFront p t).stp = s.stp ∧ (s.advanceFront p t).mrg = s.mrg ∧
    (s.advanceFront p t).rel = s.rel ∧ (s.advanceFront p t).ports = s.ports ∧ (s.advanceFront p t).lanes = s.lanes ∧ (s.advanceFront p t).slices = s.slices ∧
    (s.advanceFront p t).flow = s.flow ∧ (s.advanceFront p t).tm = s.tm ∧ (s.advanceFront p t).eng = s.eng ∧ (s.advanceFront p t).hif = s.hif ∧
    (s.advanceFront p t).qm = s.qm ∧ (s.advanceFront p t).mgt = s.mgt ∧ (s.advanceFront p t).nvm = s.nvm ∧ (s.advanceFront p t).evr = s.evr ∧
    (s.advanceFront p t).tel = s.tel ∧ (s.advanceFront p t).clk = s.clk ∧ (s.advanceFront p t).pwr = s.pwr ∧ (s.advanceFront p t).rst = s.rst ∧
    (s.advanceFront p t).svc = s.svc ∧ (s.advanceFront p t).tap = s.tap :=
  ⟨rfl, rfl, rfl, rfl, rfl, rfl, rfl, rfl, rfl, rfl, rfl, rfl, rfl, rfl, rfl, rfl, rfl, rfl, rfl, rfl, rfl, rfl, rfl, rfl, rfl, rfl, rfl, rfl, rfl, rfl⟩

/-- A draw changes only the count of draws. -/
@[simp] theorem State.draw_frame (s : State) (b : Nat) :
    ((s.draw b).2).pending = s.pending ∧ ((s.draw b).2).assured = s.assured ∧ ((s.draw b).2).out = s.out ∧ ((s.draw b).2).nextFrame = s.nextFrame ∧
    ((s.draw b).2).regs = s.regs ∧ ((s.draw b).2).ctr = s.ctr ∧ ((s.draw b).2).coh = s.coh ∧ ((s.draw b).2).snap = s.snap ∧
    ((s.draw b).2).tb = s.tb ∧ ((s.draw b).2).stp = s.stp ∧ ((s.draw b).2).ldg = s.ldg ∧ ((s.draw b).2).mrg = s.mrg ∧
    ((s.draw b).2).rel = s.rel ∧ ((s.draw b).2).ports = s.ports ∧ ((s.draw b).2).lanes = s.lanes ∧ ((s.draw b).2).slices = s.slices ∧
    ((s.draw b).2).flow = s.flow ∧ ((s.draw b).2).tm = s.tm ∧ ((s.draw b).2).eng = s.eng ∧ ((s.draw b).2).hif = s.hif ∧
    ((s.draw b).2).qm = s.qm ∧ ((s.draw b).2).mgt = s.mgt ∧ ((s.draw b).2).nvm = s.nvm ∧ ((s.draw b).2).evr = s.evr ∧
    ((s.draw b).2).tel = s.tel ∧ ((s.draw b).2).clk = s.clk ∧ ((s.draw b).2).pwr = s.pwr ∧ ((s.draw b).2).rst = s.rst ∧
    ((s.draw b).2).svc = s.svc ∧ ((s.draw b).2).tap = s.tap :=
  ⟨rfl, rfl, rfl, rfl, rfl, rfl, rfl, rfl, rfl, rfl, rfl, rfl, rfl, rfl, rfl, rfl, rfl, rfl, rfl, rfl, rfl, rfl, rfl, rfl, rfl, rfl, rfl, rfl, rfl, rfl⟩

/-- A draw of bytes changes only the count of draws. -/
@[simp] theorem State.drawBytes_frame (s : State) (n : Nat) :
    ((s.drawBytes n).2).pending = s.pending ∧ ((s.drawBytes n).2).assured = s.assured ∧ ((s.drawBytes n).2).out = s.out ∧ ((s.drawBytes n).2).nextFrame = s.nextFrame ∧
    ((s.drawBytes n).2).regs = s.regs ∧ ((s.drawBytes n).2).ctr = s.ctr ∧ ((s.drawBytes n).2).coh = s.coh ∧ ((s.drawBytes n).2).snap = s.snap ∧
    ((s.drawBytes n).2).tb = s.tb ∧ ((s.drawBytes n).2).stp = s.stp ∧ ((s.drawBytes n).2).ldg = s.ldg ∧ ((s.drawBytes n).2).mrg = s.mrg ∧
    ((s.drawBytes n).2).rel = s.rel ∧ ((s.drawBytes n).2).ports = s.ports ∧ ((s.drawBytes n).2).lanes = s.lanes ∧ ((s.drawBytes n).2).slices = s.slices ∧
    ((s.drawBytes n).2).flow = s.flow ∧ ((s.drawBytes n).2).tm = s.tm ∧ ((s.drawBytes n).2).eng = s.eng ∧ ((s.drawBytes n).2).hif = s.hif ∧
    ((s.drawBytes n).2).qm = s.qm ∧ ((s.drawBytes n).2).mgt = s.mgt ∧ ((s.drawBytes n).2).nvm = s.nvm ∧ ((s.drawBytes n).2).evr = s.evr ∧
    ((s.drawBytes n).2).tel = s.tel ∧ ((s.drawBytes n).2).clk = s.clk ∧ ((s.drawBytes n).2).pwr = s.pwr ∧ ((s.drawBytes n).2).rst = s.rst ∧
    ((s.drawBytes n).2).svc = s.svc ∧ ((s.drawBytes n).2).tap = s.tap :=
  ⟨rfl, rfl, rfl, rfl, rfl, rfl, rfl, rfl, rfl, rfl, rfl, rfl, rfl, rfl, rfl, rfl, rfl, rfl, rfl, rfl, rfl, rfl, rfl, rfl, rfl, rfl, rfl, rfl, rfl, rfl⟩

/-- Changing an open Ream changes only the ledger. -/
@[simp] theorem State.modReam_frame (s : State) (n : Nat) (f : ReamSt → ReamSt) :
    (s.modReam n f).pending = s.pending ∧ (s.modReam n f).free = s.free ∧ (s.modReam n f).assured = s.assured ∧ (s.modReam n f).out = s.out ∧
    (s.modReam n f).nextFrame = s.nextFrame ∧ (s.modReam n f).regs = s.regs ∧ (s.modReam n f).ctr = s.ctr ∧ (s.modReam n f).coh = s.coh ∧
    (s.modReam n f).snap = s.snap ∧ (s.modReam n f).tb = s.tb ∧ (s.modReam n f).stp = s.stp ∧ (s.modReam n f).mrg = s.mrg ∧
    (s.modReam n f).rel = s.rel ∧ (s.modReam n f).ports = s.ports ∧ (s.modReam n f).lanes = s.lanes ∧ (s.modReam n f).slices = s.slices ∧
    (s.modReam n f).flow = s.flow ∧ (s.modReam n f).tm = s.tm ∧ (s.modReam n f).eng = s.eng ∧ (s.modReam n f).hif = s.hif ∧
    (s.modReam n f).qm = s.qm ∧ (s.modReam n f).mgt = s.mgt ∧ (s.modReam n f).nvm = s.nvm ∧ (s.modReam n f).evr = s.evr ∧
    (s.modReam n f).tel = s.tel ∧ (s.modReam n f).clk = s.clk ∧ (s.modReam n f).pwr = s.pwr ∧ (s.modReam n f).rst = s.rst ∧
    (s.modReam n f).svc = s.svc ∧ (s.modReam n f).tap = s.tap :=
  ⟨rfl, rfl, rfl, rfl, rfl, rfl, rfl, rfl, rfl, rfl, rfl, rfl, rfl, rfl, rfl, rfl, rfl, rfl, rfl, rfl, rfl, rfl, rfl, rfl, rfl, rfl, rfl, rfl, rfl, rfl⟩

/-- An undecided frame changes only the ledger. -/
@[simp] theorem State.addUndecided_frame (s : State) (f : Frame) :
    (s.addUndecided f).pending = s.pending ∧ (s.addUndecided f).free = s.free ∧ (s.addUndecided f).assured = s.assured ∧ (s.addUndecided f).out = s.out ∧
    (s.addUndecided f).nextFrame = s.nextFrame ∧ (s.addUndecided f).regs = s.regs ∧ (s.addUndecided f).ctr = s.ctr ∧ (s.addUndecided f).coh = s.coh ∧
    (s.addUndecided f).snap = s.snap ∧ (s.addUndecided f).tb = s.tb ∧ (s.addUndecided f).stp = s.stp ∧ (s.addUndecided f).mrg = s.mrg ∧
    (s.addUndecided f).rel = s.rel ∧ (s.addUndecided f).ports = s.ports ∧ (s.addUndecided f).lanes = s.lanes ∧ (s.addUndecided f).slices = s.slices ∧
    (s.addUndecided f).flow = s.flow ∧ (s.addUndecided f).tm = s.tm ∧ (s.addUndecided f).eng = s.eng ∧ (s.addUndecided f).hif = s.hif ∧
    (s.addUndecided f).qm = s.qm ∧ (s.addUndecided f).mgt = s.mgt ∧ (s.addUndecided f).nvm = s.nvm ∧ (s.addUndecided f).evr = s.evr ∧
    (s.addUndecided f).tel = s.tel ∧ (s.addUndecided f).clk = s.clk ∧ (s.addUndecided f).pwr = s.pwr ∧ (s.addUndecided f).rst = s.rst ∧
    (s.addUndecided f).svc = s.svc ∧ (s.addUndecided f).tap = s.tap :=
  ⟨rfl, rfl, rfl, rfl, rfl, rfl, rfl, rfl, rfl, rfl, rfl, rfl, rfl, rfl, rfl, rfl, rfl, rfl, rfl, rfl, rfl, rfl, rfl, rfl, rfl, rfl, rfl, rfl, rfl, rfl⟩

/-- A pause frame to send changes only the ports. -/
@[simp] theorem State.sendPause_frame (s : State) (p pr q : Nat) :
    (s.sendPause p pr q).pending = s.pending ∧ (s.sendPause p pr q).free = s.free ∧ (s.sendPause p pr q).assured = s.assured ∧ (s.sendPause p pr q).out = s.out ∧
    (s.sendPause p pr q).nextFrame = s.nextFrame ∧ (s.sendPause p pr q).regs = s.regs ∧ (s.sendPause p pr q).ctr = s.ctr ∧ (s.sendPause p pr q).coh = s.coh ∧
    (s.sendPause p pr q).snap = s.snap ∧ (s.sendPause p pr q).tb = s.tb ∧ (s.sendPause p pr q).stp = s.stp ∧ (s.sendPause p pr q).ldg = s.ldg ∧
    (s.sendPause p pr q).mrg = s.mrg ∧ (s.sendPause p pr q).rel = s.rel ∧ (s.sendPause p pr q).lanes = s.lanes ∧ (s.sendPause p pr q).slices = s.slices ∧
    (s.sendPause p pr q).flow = s.flow ∧ (s.sendPause p pr q).tm = s.tm ∧ (s.sendPause p pr q).eng = s.eng ∧ (s.sendPause p pr q).hif = s.hif ∧
    (s.sendPause p pr q).qm = s.qm ∧ (s.sendPause p pr q).mgt = s.mgt ∧ (s.sendPause p pr q).nvm = s.nvm ∧ (s.sendPause p pr q).evr = s.evr ∧
    (s.sendPause p pr q).tel = s.tel ∧ (s.sendPause p pr q).clk = s.clk ∧ (s.sendPause p pr q).pwr = s.pwr ∧ (s.sendPause p pr q).rst = s.rst ∧
    (s.sendPause p pr q).svc = s.svc ∧ (s.sendPause p pr q).tap = s.tap :=
  ⟨rfl, rfl, rfl, rfl, rfl, rfl, rfl, rfl, rfl, rfl, rfl, rfl, rfl, rfl, rfl, rfl, rfl, rfl, rfl, rfl, rfl, rfl, rfl, rfl, rfl, rfl, rfl, rfl, rfl, rfl⟩

/-- What a SEND entry learns of its frame changes only the queue structures. -/
@[simp] theorem State.settled_frame (s : State) (f : Frame) (d l : Nat) :
    (s.settled f d l).pending = s.pending ∧ (s.settled f d l).free = s.free ∧ (s.settled f d l).assured = s.assured ∧ (s.settled f d l).out = s.out ∧
    (s.settled f d l).nextFrame = s.nextFrame ∧ (s.settled f d l).regs = s.regs ∧ (s.settled f d l).ctr = s.ctr ∧ (s.settled f d l).coh = s.coh ∧
    (s.settled f d l).snap = s.snap ∧ (s.settled f d l).tb = s.tb ∧ (s.settled f d l).stp = s.stp ∧ (s.settled f d l).ldg = s.ldg ∧
    (s.settled f d l).mrg = s.mrg ∧ (s.settled f d l).rel = s.rel ∧ (s.settled f d l).ports = s.ports ∧ (s.settled f d l).lanes = s.lanes ∧
    (s.settled f d l).slices = s.slices ∧ (s.settled f d l).flow = s.flow ∧ (s.settled f d l).tm = s.tm ∧ (s.settled f d l).eng = s.eng ∧
    (s.settled f d l).hif = s.hif ∧ (s.settled f d l).mgt = s.mgt ∧ (s.settled f d l).nvm = s.nvm ∧ (s.settled f d l).evr = s.evr ∧
    (s.settled f d l).tel = s.tel ∧ (s.settled f d l).clk = s.clk ∧ (s.settled f d l).pwr = s.pwr ∧ (s.settled f d l).rst = s.rst ∧
    (s.settled f d l).svc = s.svc ∧ (s.settled f d l).tap = s.tap :=
  ⟨rfl, rfl, rfl, rfl, rfl, rfl, rfl, rfl, rfl, rfl, rfl, rfl, rfl, rfl, rfl, rfl, rfl, rfl, rfl, rfl, rfl, rfl, rfl, rfl, rfl, rfl, rfl, rfl, rfl, rfl⟩

/-- What a SEND entry learns of a port copy changes only the queue structures. -/
@[simp] theorem State.settleSend_frame (s : State) (f : Nat) (l : Option Stamp) (x : Bool) :
    (s.settleSend f l x).pending = s.pending ∧ (s.settleSend f l x).free = s.free ∧ (s.settleSend f l x).assured = s.assured ∧ (s.settleSend f l x).out = s.out ∧
    (s.settleSend f l x).nextFrame = s.nextFrame ∧ (s.settleSend f l x).regs = s.regs ∧ (s.settleSend f l x).ctr = s.ctr ∧ (s.settleSend f l x).coh = s.coh ∧
    (s.settleSend f l x).snap = s.snap ∧ (s.settleSend f l x).tb = s.tb ∧ (s.settleSend f l x).stp = s.stp ∧ (s.settleSend f l x).ldg = s.ldg ∧
    (s.settleSend f l x).mrg = s.mrg ∧ (s.settleSend f l x).rel = s.rel ∧ (s.settleSend f l x).ports = s.ports ∧ (s.settleSend f l x).lanes = s.lanes ∧
    (s.settleSend f l x).slices = s.slices ∧ (s.settleSend f l x).flow = s.flow ∧ (s.settleSend f l x).tm = s.tm ∧ (s.settleSend f l x).eng = s.eng ∧
    (s.settleSend f l x).hif = s.hif ∧ (s.settleSend f l x).mgt = s.mgt ∧ (s.settleSend f l x).nvm = s.nvm ∧ (s.settleSend f l x).evr = s.evr ∧
    (s.settleSend f l x).tel = s.tel ∧ (s.settleSend f l x).clk = s.clk ∧ (s.settleSend f l x).pwr = s.pwr ∧ (s.settleSend f l x).rst = s.rst ∧
    (s.settleSend f l x).svc = s.svc ∧ (s.settleSend f l x).tap = s.tap :=
  ⟨rfl, rfl, rfl, rfl, rfl, rfl, rfl, rfl, rfl, rfl, rfl, rfl, rfl, rfl, rfl, rfl, rfl, rfl, rfl, rfl, rfl, rfl, rfl, rfl, rfl, rfl, rfl, rfl, rfl, rfl⟩

/-- Taking a copy out of its queue changes only the traffic manager. -/
@[simp] theorem State.unqueue_frame (s : State) (c : Copy) :
    (s.unqueue c).pending = s.pending ∧ (s.unqueue c).free = s.free ∧ (s.unqueue c).assured = s.assured ∧ (s.unqueue c).out = s.out ∧
    (s.unqueue c).nextFrame = s.nextFrame ∧ (s.unqueue c).regs = s.regs ∧ (s.unqueue c).ctr = s.ctr ∧ (s.unqueue c).coh = s.coh ∧
    (s.unqueue c).snap = s.snap ∧ (s.unqueue c).tb = s.tb ∧ (s.unqueue c).stp = s.stp ∧ (s.unqueue c).ldg = s.ldg ∧
    (s.unqueue c).mrg = s.mrg ∧ (s.unqueue c).rel = s.rel ∧ (s.unqueue c).ports = s.ports ∧ (s.unqueue c).lanes = s.lanes ∧
    (s.unqueue c).slices = s.slices ∧ (s.unqueue c).flow = s.flow ∧ (s.unqueue c).eng = s.eng ∧ (s.unqueue c).hif = s.hif ∧
    (s.unqueue c).qm = s.qm ∧ (s.unqueue c).mgt = s.mgt ∧ (s.unqueue c).nvm = s.nvm ∧ (s.unqueue c).evr = s.evr ∧
    (s.unqueue c).tel = s.tel ∧ (s.unqueue c).clk = s.clk ∧ (s.unqueue c).pwr = s.pwr ∧ (s.unqueue c).rst = s.rst ∧
    (s.unqueue c).svc = s.svc ∧ (s.unqueue c).tap = s.tap :=
  ⟨rfl, rfl, rfl, rfl, rfl, rfl, rfl, rfl, rfl, rfl, rfl, rfl, rfl, rfl, rfl, rfl, rfl, rfl, rfl, rfl, rfl, rfl, rfl, rfl, rfl, rfl, rfl, rfl, rfl, rfl⟩

/-- Reads that have come change only the host link. -/
@[simp] theorem State.readsDone_frame (s : State) (i : ReadItem) :
    ((s.readsDone i).2).pending = s.pending ∧ ((s.readsDone i).2).free = s.free ∧ ((s.readsDone i).2).assured = s.assured ∧ ((s.readsDone i).2).out = s.out ∧
    ((s.readsDone i).2).nextFrame = s.nextFrame ∧ ((s.readsDone i).2).regs = s.regs ∧ ((s.readsDone i).2).ctr = s.ctr ∧ ((s.readsDone i).2).coh = s.coh ∧
    ((s.readsDone i).2).snap = s.snap ∧ ((s.readsDone i).2).tb = s.tb ∧ ((s.readsDone i).2).stp = s.stp ∧ ((s.readsDone i).2).ldg = s.ldg ∧
    ((s.readsDone i).2).mrg = s.mrg ∧ ((s.readsDone i).2).rel = s.rel ∧ ((s.readsDone i).2).ports = s.ports ∧ ((s.readsDone i).2).lanes = s.lanes ∧
    ((s.readsDone i).2).slices = s.slices ∧ ((s.readsDone i).2).flow = s.flow ∧ ((s.readsDone i).2).tm = s.tm ∧ ((s.readsDone i).2).eng = s.eng ∧
    ((s.readsDone i).2).qm = s.qm ∧ ((s.readsDone i).2).mgt = s.mgt ∧ ((s.readsDone i).2).nvm = s.nvm ∧ ((s.readsDone i).2).evr = s.evr ∧
    ((s.readsDone i).2).tel = s.tel ∧ ((s.readsDone i).2).clk = s.clk ∧ ((s.readsDone i).2).pwr = s.pwr ∧ ((s.readsDone i).2).rst = s.rst ∧
    ((s.readsDone i).2).svc = s.svc ∧ ((s.readsDone i).2).tap = s.tap :=
  ⟨rfl, rfl, rfl, rfl, rfl, rfl, rfl, rfl, rfl, rfl, rfl, rfl, rfl, rfl, rfl, rfl, rfl, rfl, rfl, rfl, rfl, rfl, rfl, rfl, rfl, rfl, rfl, rfl, rfl, rfl⟩

end Sys2Proof.Machine
end

