-- ==== Sys2Proof/Laws/Shared.lean ====
section
/-! SUPPORT. What each shared operation can do. `op_keeps`: whatever of the state does not depend on the fields that the
operation may change is unchanged by it; `op_frame`: the fields it leaves unchanged, each equation a rewriting rule of its own. -/

namespace Sys2Proof.Machine

set_option linter.unusedSimpArgs false
set_option linter.unusedTactic false
set_option linter.unreachableTactic false

/-- A part of the state that every step of a fold keeps is kept by the fold. -/
theorem foldl_keeps {α σ : Type} {β : Sort _} (g : σ → β) (f : σ → α → σ) (h : ∀ s x, g (f s x) = g s) (l : List α) (s : σ) :
    g (l.foldl f s) = g s := by
  induction l generalizing s with
  | nil => rfl
  | cons x r ih => simp [ih, h]

theorem State.emit_keeps {β : Sort _} (obs : State → β)
    (h : ∀ (s : State) x0, obs { s with out := x0 } = obs s)
    (s : State) (o : Out) : obs (s.emit o) = obs s := h _ _

theorem State.setReg_keeps {β : Sort _} (obs : State → β)
    (h : ∀ (s : State) x0, obs { s with regs := x0 } = obs s)
    (s : State) (a v : Nat) : obs (s.setReg a v) = obs s := h _ _

theorem State.setFld_keeps {β : Sort _} (obs : State → β)
    (h : ∀ (s : State) x0, obs { s with regs := x0 } = obs s)
    (s : State) (f : FieldRef) (v : Nat) : obs (s.setFld f v) = obs s := h _ _

theorem State.modPort_keeps {β : Sort _} (obs : State → β)
    (h : ∀ (s : State) x0, obs { s with ports := x0 } = obs s)
    (s : State) (p : Nat) (f : PortSt → PortSt) : obs (s.modPort p f) = obs s := h _ _

theorem State.modSlice_keeps {β : Sort _} (obs : State → β)
    (h : ∀ (s : State) x0, obs { s with slices := x0 } = obs s)
    (s : State) (n : Nat) (f : SliceSt → SliceSt) : obs (s.modSlice n f) = obs s := h _ _

theorem State.modTabs_keeps {β : Sort _} (obs : State → β)
    (h : ∀ (s : State) x0, obs { s with flow := x0 } = obs s)
    (s : State) (n : Nat) (f : SliceTables → SliceTables) : obs (s.modTabs n f) = obs s := h _ _

theorem State.modFn_keeps {β : Sort _} (obs : State → β)
    (h : ∀ (s : State) x0, obs { s with qm := x0 } = obs s)
    (s : State) (n : Nat) (g : FnSt → FnSt) : obs (s.modFn n g) = obs s := h _ _

theorem State.modQm_keeps {β : Sort _} (obs : State → β)
    (h : ∀ (s : State) x0, obs { s with qm := x0 } = obs s)
    (s : State) (g : Queues → Queues) : obs (s.modQm g) = obs s := h _ _

theorem State.setUnit_keeps {β : Sort _} (obs : State → β)
    (h : ∀ (s : State) x0, obs { s with svc := x0 } = obs s)
    (s : State) (k : UnitKind) (sl n : Nat) (u : UnitSt) : obs (s.setUnit k sl n u) = obs s := h _ _

theorem State.settlePort_keeps {β : Sort _} (obs : State → β)
    (h : ∀ (s : State) x0, obs { s with mgt := x0 } = obs s)
    (s : State) (p : Nat) : obs (s.settlePort p) = obs s := h _ _

theorem State.dropWaitingHead_keeps {β : Sort _} (obs : State → β)
    (h : ∀ (s : State) x0, obs { s with hif := x0 } = obs s)
    (s : State) (fn : Nat) : obs (s.dropWaitingHead fn) = obs s := h _ _

theorem State.advanceFront_keeps {β : Sort _} (obs : State → β)
    (h : ∀ (s : State) x0, obs { s with ldg := x0 } = obs s)
    (s : State) (p : Nat) (t : Stamp) : obs (s.advanceFront p t) = obs s := h _ _

theorem State.draw_keeps {β : Sort _} (obs : State → β)
    (h : ∀ (s : State) x0, obs { s with free := x0 } = obs s)
    (s : State) (b : Nat) : obs ((s.draw b).2) = obs s := h _ _

theorem State.drawBytes_keeps {β : Sort _} (obs : State → β)
    (h : ∀ (s : State) x0, obs { s with free := x0 } = obs s)
    (s : State) (n : Nat) : obs ((s.drawBytes n).2) = obs s := h _ _

theorem State.modReam_keeps {β : Sort _} (obs : State → β)
    (h : ∀ (s : State) x0, obs { s with ldg := x0 } = obs s)
    (s : State) (n : Nat) (f : ReamSt → ReamSt) : obs (s.modReam n f) = obs s := h _ _

theorem State.addUndecided_keeps {β : Sort _} (obs : State → β)
    (h : ∀ (s : State) x0, obs { s with ldg := x0 } = obs s)
    (s : State) (f : Frame) : obs (s.addUndecided f) = obs s := h _ _

theorem State.sendPause_keeps {β : Sort _} (obs : State → β)
    (h : ∀ (s : State) x0, obs { s with ports := x0 } = obs s)
    (s : State) (p pr q : Nat) : obs (s.sendPause p pr q) = obs s := h _ _

theorem State.settled_keeps {β : Sort _} (obs : State → β)
    (h : ∀ (s : State) x0, obs { s with qm := x0 } = obs s)
    (s : State) (f : Frame) (d l : Nat) : obs (s.settled f d l) = obs s := h _ _

theorem State.settleSend_keeps {β : Sort _} (obs : State → β)
    (h : ∀ (s : State) x0, obs { s with qm := x0 } = obs s)
    (s : State) (f : Nat) (l : Option Stamp) (x : Bool) : obs (s.settleSend f l x) = obs s := h _ _

theorem State.unqueue_keeps {β : Sort _} (obs : State → β)
    (h : ∀ (s : State) x0, obs { s with tm := x0 } = obs s)
    (s : State) (c : Copy) : obs (s.unqueue c) = obs s := h _ _

theorem State.readsDone_keeps {β : Sort _} (obs : State → β)
    (h : ∀ (s : State) x0, obs { s with hif := x0 } = obs s)
    (s : State) (i : ReadItem) : obs ((s.readsDone i).2) = obs s := h _ _

theorem State.transmit_keeps {β : Sort _} (obs : State → β)
    (h : ∀ (s : State) x0 x1, obs { s with out := x0, hif := x1 } = obs s)
    (s : State) (o : Out) : obs (s.transmit o) = obs s := by
  unfold State.transmit
  try dsimp only
  repeat' split
  all_goals try simp only [State.emit_keeps obs (fun s x0 => h s x0 s.hif)]
  all_goals iterate 4 first
    | done
    | rfl
    | (refine (h _ _ _).trans ?_; try simp only [State.emit_keeps obs (fun s x0 => h s x0 s.hif)])

/-- A request that leaves changes only the host link and what has left the block. -/
@[simp] theorem State.transmit_frame (s : State) (o : Out) :
    (s.transmit o).pending = s.pending ∧ (s.transmit o).free = s.free ∧ (s.transmit o).assured = s.assured ∧ (s.transmit o).nextFrame = s.nextFrame ∧
    (s.transmit o).regs = s.regs ∧ (s.transmit o).ctr = s.ctr ∧ (s.transmit o).coh = s.coh ∧ (s.transmit o).snap = s.snap ∧
    (s.transmit o).tb = s.tb ∧ (s.transmit o).stp = s.stp ∧ (s.transmit o).ldg = s.ldg ∧ (s.transmit o).mrg = s.mrg ∧
    (s.transmit o).rel = s.rel ∧ (s.transmit o).ports = s.ports ∧ (s.transmit o).lanes = s.lanes ∧ (s.transmit o).slices = s.slices ∧
    (s.transmit o).flow = s.flow ∧ (s.transmit o).tm = s.tm ∧ (s.transmit o).eng = s.eng ∧ (s.transmit o).qm = s.qm ∧
    (s.transmit o).mgt = s.mgt ∧ (s.transmit o).nvm = s.nvm ∧ (s.transmit o).evr = s.evr ∧ (s.transmit o).tel = s.tel ∧
    (s.transmit o).clk = s.clk ∧ (s.transmit o).pwr = s.pwr ∧ (s.transmit o).rst = s.rst ∧ (s.transmit o).svc = s.svc ∧
    (s.transmit o).tap = s.tap :=
  ⟨State.transmit_keeps State.pending (fun _ _ _ => rfl) s o,
    State.transmit_keeps State.free (fun _ _ _ => rfl) s o,
    State.transmit_keeps State.assured (fun _ _ _ => rfl) s o,
    State.transmit_keeps State.nextFrame (fun _ _ _ => rfl) s o,
    State.transmit_keeps State.regs (fun _ _ _ => rfl) s o,
    State.transmit_keeps State.ctr (fun _ _ _ => rfl) s o,
    State.transmit_keeps State.coh (fun _ _ _ => rfl) s o,
    State.transmit_keeps State.snap (fun _ _ _ => rfl) s o,
    State.transmit_keeps State.tb (fun _ _ _ => rfl) s o,
    State.transmit_keeps State.stp (fun _ _ _ => rfl) s o,
    State.transmit_keeps State.ldg (fun _ _ _ => rfl) s o,
    State.transmit_keeps State.mrg (fun _ _ _ => rfl) s o,
    State.transmit_keeps State.rel (fun _ _ _ => rfl) s o,
    State.transmit_keeps State.ports (fun _ _ _ => rfl) s o,
    State.transmit_keeps State.lanes (fun _ _ _ => rfl) s o,
    State.transmit_keeps State.slices (fun _ _ _ => rfl) s o,
    State.transmit_keeps State.flow (fun _ _ _ => rfl) s o,
    State.transmit_keeps State.tm (fun _ _ _ => rfl) s o,
    State.transmit_keeps State.eng (fun _ _ _ => rfl) s o,
    State.transmit_keeps State.qm (fun _ _ _ => rfl) s o,
    State.transmit_keeps State.mgt (fun _ _ _ => rfl) s o,
    State.transmit_keeps State.nvm (fun _ _ _ => rfl) s o,
    State.transmit_keeps State.evr (fun _ _ _ => rfl) s o,
    State.transmit_keeps State.tel (fun _ _ _ => rfl) s o,
    State.transmit_keeps State.clk (fun _ _ _ => rfl) s o,
    State.transmit_keeps State.pwr (fun _ _ _ => rfl) s o,
    State.transmit_keeps State.rst (fun _ _ _ => rfl) s o,
    State.transmit_keeps State.svc (fun _ _ _ => rfl) s o,
    State.transmit_keeps State.tap (fun _ _ _ => rfl) s o⟩

theorem State.emitRead_keeps {β : Sort _} (obs : State → β)
    (h : ∀ (s : State) x0 x1, obs { s with out := x0, hif := x1 } = obs s)
    (s : State) (fn a n : Nat) : obs (s.emitRead fn a n) = obs s := by
  unfold State.emitRead
  try dsimp only
  repeat' split
  all_goals try simp only [State.transmit_keeps obs (fun s x0 x1 => h s x0 x1)]
  all_goals iterate 4 first
    | done
    | rfl
    | (refine (h _ _ _).trans ?_; try simp only [State.transmit_keeps obs (fun s x0 x1 => h s x0 x1)])

/-- A read request changes only the host link and what has left the block. -/
@[simp] theorem State.emitRead_frame (s : State) (fn a n : Nat) :
    (s.emitRead fn a n).pending = s.pending ∧ (s.emitRead fn a n).free = s.free ∧ (s.emitRead fn a n).assured = s.assured ∧ (s.emitRead fn a n).nextFrame = s.nextFrame ∧
    (s.emitRead fn a n).regs = s.regs ∧ (s.emitRead fn a n).ctr = s.ctr ∧ (s.emitRead fn a n).coh = s.coh ∧ (s.emitRead fn a n).snap = s.snap ∧
    (s.emitRead fn a n).tb = s.tb ∧ (s.emitRead fn a n).stp = s.stp ∧ (s.emitRead fn a n).ldg = s.ldg ∧ (s.emitRead fn a n).mrg = s.mrg ∧
    (s.emitRead fn a n).rel = s.rel ∧ (s.emitRead fn a n).ports = s.ports ∧ (s.emitRead fn a n).lanes = s.lanes ∧ (s.emitRead fn a n).slices = s.slices ∧
    (s.emitRead fn a n).flow = s.flow ∧ (s.emitRead fn a n).tm = s.tm ∧ (s.emitRead fn a n).eng = s.eng ∧ (s.emitRead fn a n).qm = s.qm ∧
    (s.emitRead fn a n).mgt = s.mgt ∧ (s.emitRead fn a n).nvm = s.nvm ∧ (s.emitRead fn a n).evr = s.evr ∧ (s.emitRead fn a n).tel = s.tel ∧
    (s.emitRead fn a n).clk = s.clk ∧ (s.emitRead fn a n).pwr = s.pwr ∧ (s.emitRead fn a n).rst = s.rst ∧ (s.emitRead fn a n).svc = s.svc ∧
    (s.emitRead fn a n).tap = s.tap :=
  ⟨State.emitRead_keeps State.pending (fun _ _ _ => rfl) s fn a n,
    State.emitRead_keeps State.free (fun _ _ _ => rfl) s fn a n,
    State.emitRead_keeps State.assured (fun _ _ _ => rfl) s fn a n,
    State.emitRead_keeps State.nextFrame (fun _ _ _ => rfl) s fn a n,
    State.emitRead_keeps State.regs (fun _ _ _ => rfl) s fn a n,
    State.emitRead_keeps State.ctr (fun _ _ _ => rfl) s fn a n,
    State.emitRead_keeps State.coh (fun _ _ _ => rfl) s fn a n,
    State.emitRead_keeps State.snap (fun _ _ _ => rfl) s fn a n,
    State.emitRead_keeps State.tb (fun _ _ _ => rfl) s fn a n,
    State.emitRead_keeps State.stp (fun _ _ _ => rfl) s fn a n,
    State.emitRead_keeps State.ldg (fun _ _ _ => rfl) s fn a n,
    State.emitRead_keeps State.mrg (fun _ _ _ => rfl) s fn a n,
    State.emitRead_keeps State.rel (fun _ _ _ => rfl) s fn a n,
    State.emitRead_keeps State.ports (fun _ _ _ => rfl) s fn a n,
    State.emitRead_keeps State.lanes (fun _ _ _ => rfl) s fn a n,
    State.emitRead_keeps State.slices (fun _ _ _ => rfl) s fn a n,
    State.emitRead_keeps State.flow (fun _ _ _ => rfl) s fn a n,
    State.emitRead_keeps State.tm (fun _ _ _ => rfl) s fn a n,
    State.emitRead_keeps State.eng (fun _ _ _ => rfl) s fn a n,
    State.emitRead_keeps State.qm (fun _ _ _ => rfl) s fn a n,
    State.emitRead_keeps State.mgt (fun _ _ _ => rfl) s fn a n,
    State.emitRead_keeps State.nvm (fun _ _ _ => rfl) s fn a n,
    State.emitRead_keeps State.evr (fun _ _ _ => rfl) s fn a n,
    State.emitRead_keeps State.tel (fun _ _ _ => rfl) s fn a n,
    State.emitRead_keeps State.clk (fun _ _ _ => rfl) s fn a n,
    State.emitRead_keeps State.pwr (fun _ _ _ => rfl) s fn a n,
    State.emitRead_keeps State.rst (fun _ _ _ => rfl) s fn a n,
    State.emitRead_keeps State.svc (fun _ _ _ => rfl) s fn a n,
    State.emitRead_keeps State.tap (fun _ _ _ => rfl) s fn a n⟩

theorem State.count_keeps {β : Sort _} (obs : State → β)
    (h : ∀ (s : State) x0, obs { s with ctr := x0 } = obs s)
    (s : State) (a n : Nat) (t : Stamp) : obs (s.count a n t) = obs s := by
  unfold State.count
  try dsimp only
  repeat' split
  all_goals skip
  all_goals first
    | rfl
    | exact h _ _

/-- Counting changes only the counters. -/
@[simp] theorem State.count_frame (s : State) (a n : Nat) (t : Stamp) :
    (s.count a n t).pending = s.pending ∧ (s.count a n t).free = s.free ∧ (s.count a n t).assured = s.assured ∧ (s.count a n t).out = s.out ∧
    (s.count a n t).nextFrame = s.nextFrame ∧ (s.count a n t).regs = s.regs ∧ (s.count a n t).coh = s.coh ∧ (s.count a n t).snap = s.snap ∧
    (s.count a n t).tb = s.tb ∧ (s.count a n t).stp = s.stp ∧ (s.count a n t).ldg = s.ldg ∧ (s.count a n t).mrg = s.mrg ∧
    (s.count a n t).rel = s.rel ∧ (s.count a n t).ports = s.ports ∧ (s.count a n t).lanes = s.lanes ∧ (s.count a n t).slices = s.slices ∧
    (s.count a n t).flow = s.flow ∧ (s.count a n t).tm = s.tm ∧ (s.count a n t).eng = s.eng ∧ (s.count a n t).hif = s.hif ∧
    (s.count a n t).qm = s.qm ∧ (s.count a n t).mgt = s.mgt ∧ (s.count a n t).nvm = s.nvm ∧ (s.count a n t).evr = s.evr ∧
    (s.count a n t).tel = s.tel ∧ (s.count a n t).clk = s.clk ∧ (s.count a n t).pwr = s.pwr ∧ (s.count a n t).rst = s.rst ∧
    (s.count a n t).svc = s.svc ∧ (s.count a n t).tap = s.tap :=
  ⟨State.count_keeps State.pending (fun _ _ => rfl) s a n t,
    State.count_keeps State.free (fun _ _ => rfl) s a n t,
    State.count_keeps State.assured (fun _ _ => rfl) s a n t,
    State.count_keeps State.out (fun _ _ => rfl) s a n t,
    State.count_keeps State.nextFrame (fun _ _ => rfl) s a n t,
    State.count_keeps State.regs (fun _ _ => rfl) s a n t,
    State.count_keeps State.coh (fun _ _ => rfl) s a n t,
    State.count_keeps State.snap (fun _ _ => rfl) s a n t,
    State.count_keeps State.tb (fun _ _ => rfl) s a n t,
    State.count_keeps State.stp (fun _ _ => rfl) s a n t,
    State.count_keeps State.ldg (fun _ _ => rfl) s a n t,
    State.count_keeps State.mrg (fun _ _ => rfl) s a n t,
    State.count_keeps State.rel (fun _ _ => rfl) s a n t,
    State.count_keeps State.ports (fun _ _ => rfl) s a n t,
    State.count_keeps State.lanes (fun _ _ => rfl) s a n t,
    State.count_keeps State.slices (fun _ _ => rfl) s a n t,
    State.count_keeps State.flow (fun _ _ => rfl) s a n t,
    State.count_keeps State.tm (fun _ _ => rfl) s a n t,
    State.count_keeps State.eng (fun _ _ => rfl) s a n t,
    State.count_keeps State.hif (fun _ _ => rfl) s a n t,
    State.count_keeps State.qm (fun _ _ => rfl) s a n t,
    State.count_keeps State.mgt (fun _ _ => rfl) s a n t,
    State.count_keeps State.nvm (fun _ _ => rfl) s a n t,
    State.count_keeps State.evr (fun _ _ => rfl) s a n t,
    State.count_keeps State.tel (fun _ _ => rfl) s a n t,
    State.count_keeps State.clk (fun _ _ => rfl) s a n t,
    State.count_keeps State.pwr (fun _ _ => rfl) s a n t,
    State.count_keeps State.rst (fun _ _ => rfl) s a n t,
    State.count_keeps State.svc (fun _ _ => rfl) s a n t,
    State.count_keeps State.tap (fun _ _ => rfl) s a n t⟩

theorem State.count1_keeps {β : Sort _} (obs : State → β)
    (h : ∀ (s : State) x0, obs { s with ctr := x0 } = obs s)
    (s : State) (a : Nat) : obs (s.count1 a) = obs s := by
  unfold State.count1
  try dsimp only
  repeat' split
  all_goals try simp only [State.count_keeps obs (fun s x0 => h s x0)]
  all_goals iterate 4 first
    | done
    | rfl
    | (refine (h _ _).trans ?_; try simp only [State.count_keeps obs (fun s x0 => h s x0)])

/-- Counting changes only the counters. -/
@[simp] theorem State.count1_frame (s : State) (a : Nat) :
    (s.count1 a).pending = s.pending ∧ (s.count1 a).free = s.free ∧ (s.count1 a).assured = s.assured ∧ (s.count1 a).out = s.out ∧
    (s.count1 a).nextFrame = s.nextFrame ∧ (s.count1 a).regs = s.regs ∧ (s.count1 a).coh = s.coh ∧ (s.count1 a).snap = s.snap ∧
    (s.count1 a).tb = s.tb ∧ (s.count1 a).stp = s.stp ∧ (s.count1 a).ldg = s.ldg ∧ (s.count1 a).mrg = s.mrg ∧
    (s.count1 a).rel = s.rel ∧ (s.count1 a).ports = s.ports ∧ (s.count1 a).lanes = s.lanes ∧ (s.count1 a).slices = s.slices ∧
    (s.count1 a).flow = s.flow ∧ (s.count1 a).tm = s.tm ∧ (s.count1 a).eng = s.eng ∧ (s.count1 a).hif = s.hif ∧
    (s.count1 a).qm = s.qm ∧ (s.count1 a).mgt = s.mgt ∧ (s.count1 a).nvm = s.nvm ∧ (s.count1 a).evr = s.evr ∧
    (s.count1 a).tel = s.tel ∧ (s.count1 a).clk = s.clk ∧ (s.count1 a).pwr = s.pwr ∧ (s.count1 a).rst = s.rst ∧
    (s.count1 a).svc = s.svc ∧ (s.count1 a).tap = s.tap :=
  ⟨State.count1_keeps State.pending (fun _ _ => rfl) s a,
    State.count1_keeps State.free (fun _ _ => rfl) s a,
    State.count1_keeps State.assured (fun _ _ => rfl) s a,
    State.count1_keeps State.out (fun _ _ => rfl) s a,
    State.count1_keeps State.nextFrame (fun _ _ => rfl) s a,
    State.count1_keeps State.regs (fun _ _ => rfl) s a,
    State.count1_keeps State.coh (fun _ _ => rfl) s a,
    State.count1_keeps State.snap (fun _ _ => rfl) s a,
    State.count1_keeps State.tb (fun _ _ => rfl) s a,
    State.count1_keeps State.stp (fun _ _ => rfl) s a,
    State.count1_keeps State.ldg (fun _ _ => rfl) s a,
    State.count1_keeps State.mrg (fun _ _ => rfl) s a,
    State.count1_keeps State.rel (fun _ _ => rfl) s a,
    State.count1_keeps State.ports (fun _ _ => rfl) s a,
    State.count1_keeps State.lanes (fun _ _ => rfl) s a,
    State.count1_keeps State.slices (fun _ _ => rfl) s a,
    State.count1_keeps State.flow (fun _ _ => rfl) s a,
    State.count1_keeps State.tm (fun _ _ => rfl) s a,
    State.count1_keeps State.eng (fun _ _ => rfl) s a,
    State.count1_keeps State.hif (fun _ _ => rfl) s a,
    State.count1_keeps State.qm (fun _ _ => rfl) s a,
    State.count1_keeps State.mgt (fun _ _ => rfl) s a,
    State.count1_keeps State.nvm (fun _ _ => rfl) s a,
    State.count1_keeps State.evr (fun _ _ => rfl) s a,
    State.count1_keeps State.tel (fun _ _ => rfl) s a,
    State.count1_keeps State.clk (fun _ _ => rfl) s a,
    State.count1_keeps State.pwr (fun _ _ => rfl) s a,
    State.count1_keeps State.rst (fun _ _ => rfl) s a,
    State.count1_keeps State.svc (fun _ _ => rfl) s a,
    State.count1_keeps State.tap (fun _ _ => rfl) s a⟩

theorem State.bumpAt_keeps {β : Sort _} (obs : State → β)
    (h : ∀ (s : State) x0 x1, obs { s with regs := x0, ctr := x1 } = obs s)
    (s : State) (f : FieldRef) (n : Nat) (t : Stamp) : obs (s.bumpAt f n t) = obs s := by
  unfold State.bumpAt
  try dsimp only
  repeat' split
  all_goals try simp only [State.setFld_keeps obs (fun s x0 => h s x0 s.ctr)]
  all_goals iterate 4 first
    | done
    | rfl
    | (refine (h _ _ _).trans ?_; try simp only [State.setFld_keeps obs (fun s x0 => h s x0 s.ctr)])

/-- Increasing a stored counter changes only the register file and the counters. -/
@[simp] theorem State.bumpAt_frame (s : State) (f : FieldRef) (n : Nat) (t : Stamp) :
    (s.bumpAt f n t).pending = s.pending ∧ (s.bumpAt f n t).free = s.free ∧ (s.bumpAt f n t).assured = s.assured ∧ (s.bumpAt f n t).out = s.out ∧
    (s.bumpAt f n t).nextFrame = s.nextFrame ∧ (s.bumpAt f n t).coh = s.coh ∧ (s.bumpAt f n t).snap = s.snap ∧ (s.bumpAt f n t).tb = s.tb ∧
    (s.bumpAt f n t).stp = s.stp ∧ (s.bumpAt f n t).ldg = s.ldg ∧ (s.bumpAt f n t).mrg = s.mrg ∧ (s.bumpAt f n t).rel = s.rel ∧
    (s.bumpAt f n t).ports = s.ports ∧ (s.bumpAt f n t).lanes = s.lanes ∧ (s.bumpAt f n t).slices = s.slices ∧ (s.bumpAt f n t).flow = s.flow ∧
    (s.bumpAt f n t).tm = s.tm ∧ (s.bumpAt f n t).eng = s.eng ∧ (s.bumpAt f n t).hif = s.hif ∧ (s.bumpAt f n t).qm = s.qm ∧
    (s.bumpAt f n t).mgt = s.mgt ∧ (s.bumpAt f n t).nvm = s.nvm ∧ (s.bumpAt f n t).evr = s.evr ∧ (s.bumpAt f n t).tel = s.tel ∧
    (s.bumpAt f n t).clk = s.clk ∧ (s.bumpAt f n t).pwr = s.pwr ∧ (s.bumpAt f n t).rst = s.rst ∧ (s.bumpAt f n t).svc = s.svc ∧
    (s.bumpAt f n t).tap = s.tap :=
  ⟨State.bumpAt_keeps State.pending (fun _ _ _ => rfl) s f n t,
    State.bumpAt_keeps State.free (fun _ _ _ => rfl) s f n t,
    State.bumpAt_keeps State.assured (fun _ _ _ => rfl) s f n t,
    State.bumpAt_keeps State.out (fun _ _ _ => rfl) s f n t,
    State.bumpAt_keeps State.nextFrame (fun _ _ _ => rfl) s f n t,
    State.bumpAt_keeps State.coh (fun _ _ _ => rfl) s f n t,
    State.bumpAt_keeps State.snap (fun _ _ _ => rfl) s f n t,
    State.bumpAt_keeps State.tb (fun _ _ _ => rfl) s f n t,
    State.bumpAt_keeps State.stp (fun _ _ _ => rfl) s f n t,
    State.bumpAt_keeps State.ldg (fun _ _ _ => rfl) s f n t,
    State.bumpAt_keeps State.mrg (fun _ _ _ => rfl) s f n t,
    State.bumpAt_keeps State.rel (fun _ _ _ => rfl) s f n t,
    State.bumpAt_keeps State.ports (fun _ _ _ => rfl) s f n t,
    State.bumpAt_keeps State.lanes (fun _ _ _ => rfl) s f n t,
    State.bumpAt_keeps State.slices (fun _ _ _ => rfl) s f n t,
    State.bumpAt_keeps State.flow (fun _ _ _ => rfl) s f n t,
    State.bumpAt_keeps State.tm (fun _ _ _ => rfl) s f n t,
    State.bumpAt_keeps State.eng (fun _ _ _ => rfl) s f n t,
    State.bumpAt_keeps State.hif (fun _ _ _ => rfl) s f n t,
    State.bumpAt_keeps State.qm (fun _ _ _ => rfl) s f n t,
    State.bumpAt_keeps State.mgt (fun _ _ _ => rfl) s f n t,
    State.bumpAt_keeps State.nvm (fun _ _ _ => rfl) s f n t,
    State.bumpAt_keeps State.evr (fun _ _ _ => rfl) s f n t,
    State.bumpAt_keeps State.tel (fun _ _ _ => rfl) s f n t,
    State.bumpAt_keeps State.clk (fun _ _ _ => rfl) s f n t,
    State.bumpAt_keeps State.pwr (fun _ _ _ => rfl) s f n t,
    State.bumpAt_keeps State.rst (fun _ _ _ => rfl) s f n t,
    State.bumpAt_keeps State.svc (fun _ _ _ => rfl) s f n t,
    State.bumpAt_keeps State.tap (fun _ _ _ => rfl) s f n t⟩

theorem State.bump_keeps {β : Sort _} (obs : State → β)
    (h : ∀ (s : State) x0 x1, obs { s with regs := x0, ctr := x1 } = obs s)
    (s : State) (f : FieldRef) (n : Nat) : obs (s.bump f n) = obs s := by
  unfold State.bump
  try dsimp only
  repeat' split
  all_goals try simp only [State.bumpAt_keeps obs (fun s x0 x1 => h s x0 x1)]
  all_goals iterate 4 first
    | done
    | rfl
    | (refine (h _ _ _).trans ?_; try simp only [State.bumpAt_keeps obs (fun s x0 x1 => h s x0 x1)])

/-- Increasing a stored counter changes only the register file and the counters. -/
@[simp] theorem State.bump_frame (s : State) (f : FieldRef) (n : Nat) :
    (s.bump f n).pending = s.pending ∧ (s.bump f n).free = s.free ∧ (s.bump f n).assured = s.assured ∧ (s.bump f n).out = s.out ∧
    (s.bump f n).nextFrame = s.nextFrame ∧ (s.bump f n).coh = s.coh ∧ (s.bump f n).snap = s.snap ∧ (s.bump f n).tb = s.tb ∧
    (s.bump f n).stp = s.stp ∧ (s.bump f n).ldg = s.ldg ∧ (s.bump f n).mrg = s.mrg ∧ (s.bump f n).rel = s.rel ∧
    (s.bump f n).ports = s.ports ∧ (s.bump f n).lanes = s.lanes ∧ (s.bump f n).slices = s.slices ∧ (s.bump f n).flow = s.flow ∧
    (s.bump f n).tm = s.tm ∧ (s.bump f n).eng = s.eng ∧ (s.bump f n).hif = s.hif ∧ (s.bump f n).qm = s.qm ∧
    (s.bump f n).mgt = s.mgt ∧ (s.bump f n).nvm = s.nvm ∧ (s.bump f n).evr = s.evr ∧ (s.bump f n).tel = s.tel ∧
    (s.bump f n).clk = s.clk ∧ (s.bump f n).pwr = s.pwr ∧ (s.bump f n).rst = s.rst ∧ (s.bump f n).svc = s.svc ∧
    (s.bump f n).tap = s.tap :=
  ⟨State.bump_keeps State.pending (fun _ _ _ => rfl) s f n,
    State.bump_keeps State.free (fun _ _ _ => rfl) s f n,
    State.bump_keeps State.assured (fun _ _ _ => rfl) s f n,
    State.bump_keeps State.out (fun _ _ _ => rfl) s f n,
    State.bump_keeps State.nextFrame (fun _ _ _ => rfl) s f n,
    State.bump_keeps State.coh (fun _ _ _ => rfl) s f n,
    State.bump_keeps State.snap (fun _ _ _ => rfl) s f n,
    State.bump_keeps State.tb (fun _ _ _ => rfl) s f n,
    State.bump_keeps State.stp (fun _ _ _ => rfl) s f n,
    State.bump_keeps State.ldg (fun _ _ _ => rfl) s f n,
    State.bump_keeps State.mrg (fun _ _ _ => rfl) s f n,
    State.bump_keeps State.rel (fun _ _ _ => rfl) s f n,
    State.bump_keeps State.ports (fun _ _ _ => rfl) s f n,
    State.bump_keeps State.lanes (fun _ _ _ => rfl) s f n,
    State.bump_keeps State.slices (fun _ _ _ => rfl) s f n,
    State.bump_keeps State.flow (fun _ _ _ => rfl) s f n,
    State.bump_keeps State.tm (fun _ _ _ => rfl) s f n,
    State.bump_keeps State.eng (fun _ _ _ => rfl) s f n,
    State.bump_keeps State.hif (fun _ _ _ => rfl) s f n,
    State.bump_keeps State.qm (fun _ _ _ => rfl) s f n,
    State.bump_keeps State.mgt (fun _ _ _ => rfl) s f n,
    State.bump_keeps State.nvm (fun _ _ _ => rfl) s f n,
    State.bump_keeps State.evr (fun _ _ _ => rfl) s f n,
    State.bump_keeps State.tel (fun _ _ _ => rfl) s f n,
    State.bump_keeps State.clk (fun _ _ _ => rfl) s f n,
    State.bump_keeps State.pwr (fun _ _ _ => rfl) s f n,
    State.bump_keeps State.rst (fun _ _ _ => rfl) s f n,
    State.bump_keeps State.svc (fun _ _ _ => rfl) s f n,
    State.bump_keeps State.tap (fun _ _ _ => rfl) s f n⟩

theorem State.countPair_keeps {β : Sort _} (obs : State → β)
    (h : ∀ (s : State) x0, obs { s with ctr := x0 } = obs s)
    (s : State) (sl i b : Nat) (t : Stamp) : obs (s.countPair sl i b t) = obs s := by
  unfold State.countPair
  try dsimp only
  repeat' split
  all_goals skip
  all_goals first
    | rfl
    | exact h _ _

/-- Counting a pair changes only the counters. -/
@[simp] theorem State.countPair_frame (s : State) (sl i b : Nat) (t : Stamp) :
    (s.countPair sl i b t).pending = s.pending ∧ (s.countPair sl i b t).free = s.free ∧ (s.countPair sl i b t).assured = s.assured ∧ (s.countPair sl i b t).out = s.out ∧
    (s.countPair sl i b t).nextFrame = s.nextFrame ∧ (s.countPair sl i b t).regs = s.regs ∧ (s.countPair sl i b t).coh = s.coh ∧ (s.countPair sl i b t).snap = s.snap ∧
    (s.countPair sl i b t).tb = s.tb ∧ (s.countPair sl i b t).stp = s.stp ∧ (s.countPair sl i b t).ldg = s.ldg ∧ (s.countPair sl i b t).mrg = s.mrg ∧
    (s.countPair sl i b t).rel = s.rel ∧ (s.countPair sl i b t).ports = s.ports ∧ (s.countPair sl i b t).lanes = s.lanes ∧ (s.countPair sl i b t).slices = s.slices ∧
    (s.countPair sl i b t).flow = s.flow ∧ (s.countPair sl i b t).tm = s.tm ∧ (s.countPair sl i b t).eng = s.eng ∧ (s.countPair sl i b t).hif = s.hif ∧
    (s.countPair sl i b t).qm = s.qm ∧ (s.countPair sl i b t).mgt = s.mgt ∧ (s.countPair sl i b t).nvm = s.nvm ∧ (s.countPair sl i b t).evr = s.evr ∧
    (s.countPair sl i b t).tel = s.tel ∧ (s.countPair sl i b t).clk = s.clk ∧ (s.countPair sl i b t).pwr = s.pwr ∧ (s.countPair sl i b t).rst = s.rst ∧
    (s.countPair sl i b t).svc = s.svc ∧ (s.countPair sl i b t).tap = s.tap :=
  ⟨State.countPair_keeps State.pending (fun _ _ => rfl) s sl i b t,
    State.countPair_keeps State.free (fun _ _ => rfl) s sl i b t,
    State.countPair_keeps State.assured (fun _ _ => rfl) s sl i b t,
    State.countPair_keeps State.out (fun _ _ => rfl) s sl i b t,
    State.countPair_keeps State.nextFrame (fun _ _ => rfl) s sl i b t,
    State.countPair_keeps State.regs (fun _ _ => rfl) s sl i b t,
    State.countPair_keeps State.coh (fun _ _ => rfl) s sl i b t,
    State.countPair_keeps State.snap (fun _ _ => rfl) s sl i b t,
    State.countPair_keeps State.tb (fun _ _ => rfl) s sl i b t,
    State.countPair_keeps State.stp (fun _ _ => rfl) s sl i b t,
    State.countPair_keeps State.ldg (fun _ _ => rfl) s sl i b t,
    State.countPair_keeps State.mrg (fun _ _ => rfl) s sl i b t,
    State.countPair_keeps State.rel (fun _ _ => rfl) s sl i b t,
    State.countPair_keeps State.ports (fun _ _ => rfl) s sl i b t,
    State.countPair_keeps State.lanes (fun _ _ => rfl) s sl i b t,
    State.countPair_keeps State.slices (fun _ _ => rfl) s sl i b t,
    State.countPair_keeps State.flow (fun _ _ => rfl) s sl i b t,
    State.countPair_keeps State.tm (fun _ _ => rfl) s sl i b t,
    State.countPair_keeps State.eng (fun _ _ => rfl) s sl i b t,
    State.countPair_keeps State.hif (fun _ _ => rfl) s sl i b t,
    State.countPair_keeps State.qm (fun _ _ => rfl) s sl i b t,
    State.countPair_keeps State.mgt (fun _ _ => rfl) s sl i b t,
    State.countPair_keeps State.nvm (fun _ _ => rfl) s sl i b t,
    State.countPair_keeps State.evr (fun _ _ => rfl) s sl i b t,
    State.countPair_keeps State.tel (fun _ _ => rfl) s sl i b t,
    State.countPair_keeps State.clk (fun _ _ => rfl) s sl i b t,
    State.countPair_keeps State.pwr (fun _ _ => rfl) s sl i b t,
    State.countPair_keeps State.rst (fun _ _ => rfl) s sl i b t,
    State.countPair_keeps State.svc (fun _ _ => rfl) s sl i b t,
    State.countPair_keeps State.tap (fun _ _ => rfl) s sl i b t⟩

theorem State.modWq_keeps {β : Sort _} (obs : State → β)
    (h : ∀ (s : State) x0, obs { s with qm := x0 } = obs s)
    (s : State) (w : Nat) (g : WqSt → WqSt) : obs (s.modWq w g) = obs s := by
  unfold State.modWq
  try dsimp only
  repeat' split
  all_goals skip
  all_goals first
    | rfl
    | exact h _ _

/-- Changing a work queue changes only the queue structures. -/
@[simp] theorem State.modWq_frame (s : State) (w : Nat) (g : WqSt → WqSt) :
    (s.modWq w g).pending = s.pending ∧ (s.modWq w g).free = s.free ∧ (s.modWq w g).assured = s.assured ∧ (s.modWq w g).out = s.out ∧
    (s.modWq w g).nextFrame = s.nextFrame ∧ (s.modWq w g).regs = s.regs ∧ (s.modWq w g).ctr = s.ctr ∧ (s.modWq w g).coh = s.coh ∧
    (s.modWq w g).snap = s.snap ∧ (s.modWq w g).tb = s.tb ∧ (s.modWq w g).stp = s.stp ∧ (s.modWq w g).ldg = s.ldg ∧
    (s.modWq w g).mrg = s.mrg ∧ (s.modWq w g).rel = s.rel ∧ (s.modWq w g).ports = s.ports ∧ (s.modWq w g).lanes = s.lanes ∧
    (s.modWq w g).slices = s.slices ∧ (s.modWq w g).flow = s.flow ∧ (s.modWq w g).tm = s.tm ∧ (s.modWq w g).eng = s.eng ∧
    (s.modWq w g).hif = s.hif ∧ (s.modWq w g).mgt = s.mgt ∧ (s.modWq w g).nvm = s.nvm ∧ (s.modWq w g).evr = s.evr ∧
    (s.modWq w g).tel = s.tel ∧ (s.modWq w g).clk = s.clk ∧ (s.modWq w g).pwr = s.pwr ∧ (s.modWq w g).rst = s.rst ∧
    (s.modWq w g).svc = s.svc ∧ (s.modWq w g).tap = s.tap :=
  ⟨State.modWq_keeps State.pending (fun _ _ => rfl) s w g,
    State.modWq_keeps State.free (fun _ _ => rfl) s w g,
    State.modWq_keeps State.assured (fun _ _ => rfl) s w g,
    State.modWq_keeps State.out (fun _ _ => rfl) s w g,
    State.modWq_keeps State.nextFrame (fun _ _ => rfl) s w g,
    State.modWq_keeps State.regs (fun _ _ => rfl) s w g,
    State.modWq_keeps State.ctr (fun _ _ => rfl) s w g,
    State.modWq_keeps State.coh (fun _ _ => rfl) s w g,
    State.modWq_keeps State.snap (fun _ _ => rfl) s w g,
    State.modWq_keeps State.tb (fun _ _ => rfl) s w g,
    State.modWq_keeps State.stp (fun _ _ => rfl) s w g,
    State.modWq_keeps State.ldg (fun _ _ => rfl) s w g,
    State.modWq_keeps State.mrg (fun _ _ => rfl) s w g,
    State.modWq_keeps State.rel (fun _ _ => rfl) s w g,
    State.modWq_keeps State.ports (fun _ _ => rfl) s w g,
    State.modWq_keeps State.lanes (fun _ _ => rfl) s w g,
    State.modWq_keeps State.slices (fun _ _ => rfl) s w g,
    State.modWq_keeps State.flow (fun _ _ => rfl) s w g,
    State.modWq_keeps State.tm (fun _ _ => rfl) s w g,
    State.modWq_keeps State.eng (fun _ _ => rfl) s w g,
    State.modWq_keeps State.hif (fun _ _ => rfl) s w g,
    State.modWq_keeps State.mgt (fun _ _ => rfl) s w g,
    State.modWq_keeps State.nvm (fun _ _ => rfl) s w g,
    State.modWq_keeps State.evr (fun _ _ => rfl) s w g,
    State.modWq_keeps State.tel (fun _ _ => rfl) s w g,
    State.modWq_keeps State.clk (fun _ _ => rfl) s w g,
    State.modWq_keeps State.pwr (fun _ _ => rfl) s w g,
    State.modWq_keeps State.rst (fun _ _ => rfl) s w g,
    State.modWq_keeps State.svc (fun _ _ => rfl) s w g,
    State.modWq_keeps State.tap (fun _ _ => rfl) s w g⟩

theorem State.modNr_keeps {β : Sort _} (obs : State → β)
    (h : ∀ (s : State) x0, obs { s with qm := x0 } = obs s)
    (s : State) (n : Nat) (g : NrSt → NrSt) : obs (s.modNr n g) = obs s := by
  unfold State.modNr
  try dsimp only
  repeat' split
  all_goals skip
  all_goals first
    | rfl
    | exact h _ _

/-- Changing a notification ring changes only the queue structures. -/
@[simp] theorem State.modNr_frame (s : State) (n : Nat) (g : NrSt → NrSt) :
    (s.modNr n g).pending = s.pending ∧ (s.modNr n g).free = s.free ∧ (s.modNr n g).assured = s.assured ∧ (s.modNr n g).out = s.out ∧
    (s.modNr n g).nextFrame = s.nextFrame ∧ (s.modNr n g).regs = s.regs ∧ (s.modNr n g).ctr = s.ctr ∧ (s.modNr n g).coh = s.coh ∧
    (s.modNr n g).snap = s.snap ∧ (s.modNr n g).tb = s.tb ∧ (s.modNr n g).stp = s.stp ∧ (s.modNr n g).ldg = s.ldg ∧
    (s.modNr n g).mrg = s.mrg ∧ (s.modNr n g).rel = s.rel ∧ (s.modNr n g).ports = s.ports ∧ (s.modNr n g).lanes = s.lanes ∧
    (s.modNr n g).slices = s.slices ∧ (s.modNr n g).flow = s.flow ∧ (s.modNr n g).tm = s.tm ∧ (s.modNr n g).eng = s.eng ∧
    (s.modNr n g).hif = s.hif ∧ (s.modNr n g).mgt = s.mgt ∧ (s.modNr n g).nvm = s.nvm ∧ (s.modNr n g).evr = s.evr ∧
    (s.modNr n g).tel = s.tel ∧ (s.modNr n g).clk = s.clk ∧ (s.modNr n g).pwr = s.pwr ∧ (s.modNr n g).rst = s.rst ∧
    (s.modNr n g).svc = s.svc ∧ (s.modNr n g).tap = s.tap :=
  ⟨State.modNr_keeps State.pending (fun _ _ => rfl) s n g,
    State.modNr_keeps State.free (fun _ _ => rfl) s n g,
    State.modNr_keeps State.assured (fun _ _ => rfl) s n g,
    State.modNr_keeps State.out (fun _ _ => rfl) s n g,
    State.modNr_keeps State.nextFrame (fun _ _ => rfl) s n g,
    State.modNr_keeps State.regs (fun _ _ => rfl) s n g,
    State.modNr_keeps State.ctr (fun _ _ => rfl) s n g,
    State.modNr_keeps State.coh (fun _ _ => rfl) s n g,
    State.modNr_keeps State.snap (fun _ _ => rfl) s n g,
    State.modNr_keeps State.tb (fun _ _ => rfl) s n g,
    State.modNr_keeps State.stp (fun _ _ => rfl) s n g,
    State.modNr_keeps State.ldg (fun _ _ => rfl) s n g,
    State.modNr_keeps State.mrg (fun _ _ => rfl) s n g,
    State.modNr_keeps State.rel (fun _ _ => rfl) s n g,
    State.modNr_keeps State.ports (fun _ _ => rfl) s n g,
    State.modNr_keeps State.lanes (fun _ _ => rfl) s n g,
    State.modNr_keeps State.slices (fun _ _ => rfl) s n g,
    State.modNr_keeps State.flow (fun _ _ => rfl) s n g,
    State.modNr_keeps State.tm (fun _ _ => rfl) s n g,
    State.modNr_keeps State.eng (fun _ _ => rfl) s n g,
    State.modNr_keeps State.hif (fun _ _ => rfl) s n g,
    State.modNr_keeps State.mgt (fun _ _ => rfl) s n g,
    State.modNr_keeps State.nvm (fun _ _ => rfl) s n g,
    State.modNr_keeps State.evr (fun _ _ => rfl) s n g,
    State.modNr_keeps State.tel (fun _ _ => rfl) s n g,
    State.modNr_keeps State.clk (fun _ _ => rfl) s n g,
    State.modNr_keeps State.pwr (fun _ _ => rfl) s n g,
    State.modNr_keeps State.rst (fun _ _ => rfl) s n g,
    State.modNr_keeps State.svc (fun _ _ => rfl) s n g,
    State.modNr_keeps State.tap (fun _ _ => rfl) s n g⟩

theorem State.assertAlert_keeps {β : Sort _} (obs : State → β)
    (h : ∀ (s : State) x0 x1, obs { s with evr := x0, out := x1 } = obs s)
    (s : State) : obs (s.assertAlert) = obs s := by
  unfold State.assertAlert
  try dsimp only
  repeat' split
  all_goals try simp only [State.emit_keeps obs (fun s x0 => h s s.evr x0)]
  all_goals iterate 4 first
    | done
    | rfl
    | (refine (h _ _ _).trans ?_; try simp only [State.emit_keeps obs (fun s x0 => h s s.evr x0)])

/-- Asserting the alert changes only the recorder and what has left the block. -/
@[simp] theorem State.assertAlert_frame (s : State) :
    (s.assertAlert).pending = s.pending ∧ (s.assertAlert).free = s.free ∧ (s.assertAlert).assured = s.assured ∧ (s.assertAlert).nextFrame = s.nextFrame ∧
    (s.assertAlert).regs = s.regs ∧ (s.assertAlert).ctr = s.ctr ∧ (s.assertAlert).coh = s.coh ∧ (s.assertAlert).snap = s.snap ∧
    (s.assertAlert).tb = s.tb ∧ (s.assertAlert).stp = s.stp ∧ (s.assertAlert).ldg = s.ldg ∧ (s.assertAlert).mrg = s.mrg ∧
    (s.assertAlert).rel = s.rel ∧ (s.assertAlert).ports = s.ports ∧ (s.assertAlert).lanes = s.lanes ∧ (s.assertAlert).slices = s.slices ∧
    (s.assertAlert).flow = s.flow ∧ (s.assertAlert).tm = s.tm ∧ (s.assertAlert).eng = s.eng ∧ (s.assertAlert).hif = s.hif ∧
    (s.assertAlert).qm = s.qm ∧ (s.assertAlert).mgt = s.mgt ∧ (s.assertAlert).nvm = s.nvm ∧ (s.assertAlert).tel = s.tel ∧
    (s.assertAlert).clk = s.clk ∧ (s.assertAlert).pwr = s.pwr ∧ (s.assertAlert).rst = s.rst ∧ (s.assertAlert).svc = s.svc ∧
    (s.assertAlert).tap = s.tap :=
  ⟨State.assertAlert_keeps State.pending (fun _ _ _ => rfl) s,
    State.assertAlert_keeps State.free (fun _ _ _ => rfl) s,
    State.assertAlert_keeps State.assured (fun _ _ _ => rfl) s,
    State.assertAlert_keeps State.nextFrame (fun _ _ _ => rfl) s,
    State.assertAlert_keeps State.regs (fun _ _ _ => rfl) s,
    State.assertAlert_keeps State.ctr (fun _ _ _ => rfl) s,
    State.assertAlert_keeps State.coh (fun _ _ _ => rfl) s,
    State.assertAlert_keeps State.snap (fun _ _ _ => rfl) s,
    State.assertAlert_keeps State.tb (fun _ _ _ => rfl) s,
    State.assertAlert_keeps State.stp (fun _ _ _ => rfl) s,
    State.assertAlert_keeps State.ldg (fun _ _ _ => rfl) s,
    State.assertAlert_keeps State.mrg (fun _ _ _ => rfl) s,
    State.assertAlert_keeps State.rel (fun _ _ _ => rfl) s,
    State.assertAlert_keeps State.ports (fun _ _ _ => rfl) s,
    State.assertAlert_keeps State.lanes (fun _ _ _ => rfl) s,
    State.assertAlert_keeps State.slices (fun _ _ _ => rfl) s,
    State.assertAlert_keeps State.flow (fun _ _ _ => rfl) s,
    State.assertAlert_keeps State.tm (fun _ _ _ => rfl) s,
    State.assertAlert_keeps State.eng (fun _ _ _ => rfl) s,
    State.assertAlert_keeps State.hif (fun _ _ _ => rfl) s,
    State.assertAlert_keeps State.qm (fun _ _ _ => rfl) s,
    State.assertAlert_keeps State.mgt (fun _ _ _ => rfl) s,
    State.assertAlert_keeps State.nvm (fun _ _ _ => rfl) s,
    State.assertAlert_keeps State.tel (fun _ _ _ => rfl) s,
    State.assertAlert_keeps State.clk (fun _ _ _ => rfl) s,
    State.assertAlert_keeps State.pwr (fun _ _ _ => rfl) s,
    State.assertAlert_keeps State.rst (fun _ _ _ => rfl) s,
    State.assertAlert_keeps State.svc (fun _ _ _ => rfl) s,
    State.assertAlert_keeps State.tap (fun _ _ _ => rfl) s⟩

theorem State.raiseAlert_keeps {β : Sort _} (obs : State → β)
    (h : ∀ (s : State) x0 x1, obs { s with evr := x0, out := x1 } = obs s)
    (s : State) (v : Nat) : obs (s.raiseAlert v) = obs s := by
  unfold State.raiseAlert
  try dsimp only
  repeat' split
  all_goals try simp only [State.assertAlert_keeps obs (fun s x0 x1 => h s x0 x1)]
  all_goals iterate 4 first
    | done
    | rfl
    | (refine (h _ _ _).trans ?_; try simp only [State.assertAlert_keeps obs (fun s x0 x1 => h s x0 x1)])

/-- Raising the alert changes only the recorder and what has left the block. -/
@[simp] theorem State.raiseAlert_frame (s : State) (v : Nat) :
    (s.raiseAlert v).pending = s.pending ∧ (s.raiseAlert v).free = s.free ∧ (s.raiseAlert v).assured = s.assured ∧ (s.raiseAlert v).nextFrame = s.nextFrame ∧
    (s.raiseAlert v).regs = s.regs ∧ (s.raiseAlert v).ctr = s.ctr ∧ (s.raiseAlert v).coh = s.coh ∧ (s.raiseAlert v).snap = s.snap ∧
    (s.raiseAlert v).tb = s.tb ∧ (s.raiseAlert v).stp = s.stp ∧ (s.raiseAlert v).ldg = s.ldg ∧ (s.raiseAlert v).mrg = s.mrg ∧
    (s.raiseAlert v).rel = s.rel ∧ (s.raiseAlert v).ports = s.ports ∧ (s.raiseAlert v).lanes = s.lanes ∧ (s.raiseAlert v).slices = s.slices ∧
    (s.raiseAlert v).flow = s.flow ∧ (s.raiseAlert v).tm = s.tm ∧ (s.raiseAlert v).eng = s.eng ∧ (s.raiseAlert v).hif = s.hif ∧
    (s.raiseAlert v).qm = s.qm ∧ (s.raiseAlert v).mgt = s.mgt ∧ (s.raiseAlert v).nvm = s.nvm ∧ (s.raiseAlert v).tel = s.tel ∧
    (s.raiseAlert v).clk = s.clk ∧ (s.raiseAlert v).pwr = s.pwr ∧ (s.raiseAlert v).rst = s.rst ∧ (s.raiseAlert v).svc = s.svc ∧
    (s.raiseAlert v).tap = s.tap :=
  ⟨State.raiseAlert_keeps State.pending (fun _ _ _ => rfl) s v,
    State.raiseAlert_keeps State.free (fun _ _ _ => rfl) s v,
    State.raiseAlert_keeps State.assured (fun _ _ _ => rfl) s v,
    State.raiseAlert_keeps State.nextFrame (fun _ _ _ => rfl) s v,
    State.raiseAlert_keeps State.regs (fun _ _ _ => rfl) s v,
    State.raiseAlert_keeps State.ctr (fun _ _ _ => rfl) s v,
    State.raiseAlert_keeps State.coh (fun _ _ _ => rfl) s v,
    State.raiseAlert_keeps State.snap (fun _ _ _ => rfl) s v,
    State.raiseAlert_keeps State.tb (fun _ _ _ => rfl) s v,
    State.raiseAlert_keeps State.stp (fun _ _ _ => rfl) s v,
    State.raiseAlert_keeps State.ldg (fun _ _ _ => rfl) s v,
    State.raiseAlert_keeps State.mrg (fun _ _ _ => rfl) s v,
    State.raiseAlert_keeps State.rel (fun _ _ _ => rfl) s v,
    State.raiseAlert_keeps State.ports (fun _ _ _ => rfl) s v,
    State.raiseAlert_keeps State.lanes (fun _ _ _ => rfl) s v,
    State.raiseAlert_keeps State.slices (fun _ _ _ => rfl) s v,
    State.raiseAlert_keeps State.flow (fun _ _ _ => rfl) s v,
    State.raiseAlert_keeps State.tm (fun _ _ _ => rfl) s v,
    State.raiseAlert_keeps State.eng (fun _ _ _ => rfl) s v,
    State.raiseAlert_keeps State.hif (fun _ _ _ => rfl) s v,
    State.raiseAlert_keeps State.qm (fun _ _ _ => rfl) s v,
    State.raiseAlert_keeps State.mgt (fun _ _ _ => rfl) s v,
    State.raiseAlert_keeps State.nvm (fun _ _ _ => rfl) s v,
    State.raiseAlert_keeps State.tel (fun _ _ _ => rfl) s v,
    State.raiseAlert_keeps State.clk (fun _ _ _ => rfl) s v,
    State.raiseAlert_keeps State.pwr (fun _ _ _ => rfl) s v,
    State.raiseAlert_keeps State.rst (fun _ _ _ => rfl) s v,
    State.raiseAlert_keeps State.svc (fun _ _ _ => rfl) s v,
    State.raiseAlert_keeps State.tap (fun _ _ _ => rfl) s v⟩

theorem State.eventWith_keeps {β : Sort _} (obs : State → β)
    (h : ∀ (s : State) x0 x1 x2, obs { s with evr := x0, out := x1, ctr := x2 } = obs s)
    (s : State) (c : Nat) (i : EvInfo) (l : List Snap) : obs (s.eventWith c i l) = obs s := by
  unfold State.eventWith
  try dsimp only
  repeat' split
  all_goals try simp only [State.count1_keeps obs (fun s x0 => h s s.evr s.out x0), State.raiseAlert_keeps obs (fun s x0 x1 => h s x0 x1 s.ctr)]
  all_goals iterate 4 first
    | done
    | rfl
    | (refine (h _ _ _ _).trans ?_; try simp only [State.count1_keeps obs (fun s x0 => h s s.evr s.out x0), State.raiseAlert_keeps obs (fun s x0 x1 => h s x0 x1 s.ctr)])

/-- An event changes only the recorder, its counters and the alert that leaves the block. -/
@[simp] theorem State.eventWith_frame (s : State) (c : Nat) (i : EvInfo) (l : List Snap) :
    (s.eventWith c i l).pending = s.pending ∧ (s.eventWith c i l).free = s.free ∧ (s.eventWith c i l).assured = s.assured ∧ (s.eventWith c i l).nextFrame = s.nextFrame ∧
    (s.eventWith c i l).regs = s.regs ∧ (s.eventWith c i l).coh = s.coh ∧ (s.eventWith c i l).snap = s.snap ∧ (s.eventWith c i l).tb = s.tb ∧
    (s.eventWith c i l).stp = s.stp ∧ (s.eventWith c i l).ldg = s.ldg ∧ (s.eventWith c i l).mrg = s.mrg ∧ (s.eventWith c i l).rel = s.rel ∧
    (s.eventWith c i l).ports = s.ports ∧ (s.eventWith c i l).lanes = s.lanes ∧ (s.eventWith c i l).slices = s.slices ∧ (s.eventWith c i l).flow = s.flow ∧
    (s.eventWith c i l).tm = s.tm ∧ (s.eventWith c i l).eng = s.eng ∧ (s.eventWith c i l).hif = s.hif ∧ (s.eventWith c i l).qm = s.qm ∧
    (s.eventWith c i l).mgt = s.mgt ∧ (s.eventWith c i l).nvm = s.nvm ∧ (s.eventWith c i l).tel = s.tel ∧ (s.eventWith c i l).clk = s.clk ∧
    (s.eventWith c i l).pwr = s.pwr ∧ (s.eventWith c i l).rst = s.rst ∧ (s.eventWith c i l).svc = s.svc ∧ (s.eventWith c i l).tap = s.tap :=
  ⟨State.eventWith_keeps State.pending (fun _ _ _ _ => rfl) s c i l,
    State.eventWith_keeps State.free (fun _ _ _ _ => rfl) s c i l,
    State.eventWith_keeps State.assured (fun _ _ _ _ => rfl) s c i l,
    State.eventWith_keeps State.nextFrame (fun _ _ _ _ => rfl) s c i l,
    State.eventWith_keeps State.regs (fun _ _ _ _ => rfl) s c i l,
    State.eventWith_keeps State.coh (fun _ _ _ _ => rfl) s c i l,
    State.eventWith_keeps State.snap (fun _ _ _ _ => rfl) s c i l,
    State.eventWith_keeps State.tb (fun _ _ _ _ => rfl) s c i l,
    State.eventWith_keeps State.stp (fun _ _ _ _ => rfl) s c i l,
    State.eventWith_keeps State.ldg (fun _ _ _ _ => rfl) s c i l,
    State.eventWith_keeps State.mrg (fun _ _ _ _ => rfl) s c i l,
    State.eventWith_keeps State.rel (fun _ _ _ _ => rfl) s c i l,
    State.eventWith_keeps State.ports (fun _ _ _ _ => rfl) s c i l,
    State.eventWith_keeps State.lanes (fun _ _ _ _ => rfl) s c i l,
    State.eventWith_keeps State.slices (fun _ _ _ _ => rfl) s c i l,
    State.eventWith_keeps State.flow (fun _ _ _ _ => rfl) s c i l,
    State.eventWith_keeps State.tm (fun _ _ _ _ => rfl) s c i l,
    State.eventWith_keeps State.eng (fun _ _ _ _ => rfl) s c i l,
    State.eventWith_keeps State.hif (fun _ _ _ _ => rfl) s c i l,
    State.eventWith_keeps State.qm (fun _ _ _ _ => rfl) s c i l,
    State.eventWith_keeps State.mgt (fun _ _ _ _ => rfl) s c i l,
    State.eventWith_keeps State.nvm (fun _ _ _ _ => rfl) s c i l,
    State.eventWith_keeps State.tel (fun _ _ _ _ => rfl) s c i l,
    State.eventWith_keeps State.clk (fun _ _ _ _ => rfl) s c i l,
    State.eventWith_keeps State.pwr (fun _ _ _ _ => rfl) s c i l,
    State.eventWith_keeps State.rst (fun _ _ _ _ => rfl) s c i l,
    State.eventWith_keeps State.svc (fun _ _ _ _ => rfl) s c i l,
    State.eventWith_keeps State.tap (fun _ _ _ _ => rfl) s c i l⟩

theorem State.event_keeps {β : Sort _} (obs : State → β)
    (h : ∀ (s : State) x0 x1 x2, obs { s with evr := x0, out := x1, ctr := x2 } = obs s)
    (s : State) (c v : Nat) (l : List Snap) : obs (s.event c v l) = obs s := by
  unfold State.event
  try dsimp only
  repeat' split
  all_goals try simp only [State.eventWith_keeps obs (fun s x0 x1 x2 => h s x0 x1 x2)]
  all_goals iterate 4 first
    | done
    | rfl
    | (refine (h _ _ _ _).trans ?_; try simp only [State.eventWith_keeps obs (fun s x0 x1 x2 => h s x0 x1 x2)])

/-- An event changes only the recorder, its counters and the alert that leaves the block. -/
@[simp] theorem State.event_frame (s : State) (c v : Nat) (l : List Snap) :
    (s.event c v l).pending = s.pending ∧ (s.event c v l).free = s.free ∧ (s.event c v l).assured = s.assured ∧ (s.event c v l).nextFrame = s.nextFrame ∧
    (s.event c v l).regs = s.regs ∧ (s.event c v l).coh = s.coh ∧ (s.event c v l).snap = s.snap ∧ (s.event c v l).tb = s.tb ∧
    (s.event c v l).stp = s.stp ∧ (s.event c v l).ldg = s.ldg ∧ (s.event c v l).mrg = s.mrg ∧ (s.event c v l).rel = s.rel ∧
    (s.event c v l).ports = s.ports ∧ (s.event c v l).lanes = s.lanes ∧ (s.event c v l).slices = s.slices ∧ (s.event c v l).flow = s.flow ∧
    (s.event c v l).tm = s.tm ∧ (s.event c v l).eng = s.eng ∧ (s.event c v l).hif = s.hif ∧ (s.event c v l).qm = s.qm ∧
    (s.event c v l).mgt = s.mgt ∧ (s.event c v l).nvm = s.nvm ∧ (s.event c v l).tel = s.tel ∧ (s.event c v l).clk = s.clk ∧
    (s.event c v l).pwr = s.pwr ∧ (s.event c v l).rst = s.rst ∧ (s.event c v l).svc = s.svc ∧ (s.event c v l).tap = s.tap :=
  ⟨State.event_keeps State.pending (fun _ _ _ _ => rfl) s c v l,
    State.event_keeps State.free (fun _ _ _ _ => rfl) s c v l,
    State.event_keeps State.assured (fun _ _ _ _ => rfl) s c v l,
    State.event_keeps State.nextFrame (fun _ _ _ _ => rfl) s c v l,
    State.event_keeps State.regs (fun _ _ _ _ => rfl) s c v l,
    State.event_keeps State.coh (fun _ _ _ _ => rfl) s c v l,
    State.event_keeps State.snap (fun _ _ _ _ => rfl) s c v l,
    State.event_keeps State.tb (fun _ _ _ _ => rfl) s c v l,
    State.event_keeps State.stp (fun _ _ _ _ => rfl) s c v l,
    State.event_keeps State.ldg (fun _ _ _ _ => rfl) s c v l,
    State.event_keeps State.mrg (fun _ _ _ _ => rfl) s c v l,
    State.event_keeps State.rel (fun _ _ _ _ => rfl) s c v l,
    State.event_keeps State.ports (fun _ _ _ _ => rfl) s c v l,
    State.event_keeps State.lanes (fun _ _ _ _ => rfl) s c v l,
    State.event_keeps State.slices (fun _ _ _ _ => rfl) s c v l,
    State.event_keeps State.flow (fun _ _ _ _ => rfl) s c v l,
    State.event_keeps State.tm (fun _ _ _ _ => rfl) s c v l,
    State.event_keeps State.eng (fun _ _ _ _ => rfl) s c v l,
    State.event_keeps State.hif (fun _ _ _ _ => rfl) s c v l,
    State.event_keeps State.qm (fun _ _ _ _ => rfl) s c v l,
    State.event_keeps State.mgt (fun _ _ _ _ => rfl) s c v l,
    State.event_keeps State.nvm (fun _ _ _ _ => rfl) s c v l,
    State.event_keeps State.tel (fun _ _ _ _ => rfl) s c v l,
    State.event_keeps State.clk (fun _ _ _ _ => rfl) s c v l,
    State.event_keeps State.pwr (fun _ _ _ _ => rfl) s c v l,
    State.event_keeps State.rst (fun _ _ _ _ => rfl) s c v l,
    State.event_keeps State.svc (fun _ _ _ _ => rfl) s c v l,
    State.event_keeps State.tap (fun _ _ _ _ => rfl) s c v l⟩

theorem State.noticeAddr_keeps {β : Sort _} (obs : State → β)
    (h : ∀ (s : State) x0 x1 x2, obs { s with evr := x0, out := x1, ctr := x2 } = obs s)
    (s : State) (a : Nat) : obs (s.noticeAddr a) = obs s := by
  unfold State.noticeAddr
  try dsimp only
  repeat' split
  all_goals try simp only [State.event_keeps obs (fun s x0 x1 x2 => h s x0 x1 x2)]
  all_goals iterate 4 first
    | done
    | rfl
    | (refine (h _ _ _ _).trans ?_; try simp only [State.event_keeps obs (fun s x0 x1 x2 => h s x0 x1 x2)])

/-- A NOTICE changes what an event changes. -/
@[simp] theorem State.noticeAddr_frame (s : State) (a : Nat) :
    (s.noticeAddr a).pending = s.pending ∧ (s.noticeAddr a).free = s.free ∧ (s.noticeAddr a).assured = s.assured ∧ (s.noticeAddr a).nextFrame = s.nextFrame ∧
    (s.noticeAddr a).regs = s.regs ∧ (s.noticeAddr a).coh = s.coh ∧ (s.noticeAddr a).snap = s.snap ∧ (s.noticeAddr a).tb = s.tb ∧
    (s.noticeAddr a).stp = s.stp ∧ (s.noticeAddr a).ldg = s.ldg ∧ (s.noticeAddr a).mrg = s.mrg ∧ (s.noticeAddr a).rel = s.rel ∧
    (s.noticeAddr a).ports = s.ports ∧ (s.noticeAddr a).lanes = s.lanes ∧ (s.noticeAddr a).slices = s.slices ∧ (s.noticeAddr a).flow = s.flow ∧
    (s.noticeAddr a).tm = s.tm ∧ (s.noticeAddr a).eng = s.eng ∧ (s.noticeAddr a).hif = s.hif ∧ (s.noticeAddr a).qm = s.qm ∧
    (s.noticeAddr a).mgt = s.mgt ∧ (s.noticeAddr a).nvm = s.nvm ∧ (s.noticeAddr a).tel = s.tel ∧ (s.noticeAddr a).clk = s.clk ∧
    (s.noticeAddr a).pwr = s.pwr ∧ (s.noticeAddr a).rst = s.rst ∧ (s.noticeAddr a).svc = s.svc ∧ (s.noticeAddr a).tap = s.tap :=
  ⟨State.noticeAddr_keeps State.pending (fun _ _ _ _ => rfl) s a,
    State.noticeAddr_keeps State.free (fun _ _ _ _ => rfl) s a,
    State.noticeAddr_keeps State.assured (fun _ _ _ _ => rfl) s a,
    State.noticeAddr_keeps State.nextFrame (fun _ _ _ _ => rfl) s a,
    State.noticeAddr_keeps State.regs (fun _ _ _ _ => rfl) s a,
    State.noticeAddr_keeps State.coh (fun _ _ _ _ => rfl) s a,
    State.noticeAddr_keeps State.snap (fun _ _ _ _ => rfl) s a,
    State.noticeAddr_keeps State.tb (fun _ _ _ _ => rfl) s a,
    State.noticeAddr_keeps State.stp (fun _ _ _ _ => rfl) s a,
    State.noticeAddr_keeps State.ldg (fun _ _ _ _ => rfl) s a,
    State.noticeAddr_keeps State.mrg (fun _ _ _ _ => rfl) s a,
    State.noticeAddr_keeps State.rel (fun _ _ _ _ => rfl) s a,
    State.noticeAddr_keeps State.ports (fun _ _ _ _ => rfl) s a,
    State.noticeAddr_keeps State.lanes (fun _ _ _ _ => rfl) s a,
    State.noticeAddr_keeps State.slices (fun _ _ _ _ => rfl) s a,
    State.noticeAddr_keeps State.flow (fun _ _ _ _ => rfl) s a,
    State.noticeAddr_keeps State.tm (fun _ _ _ _ => rfl) s a,
    State.noticeAddr_keeps State.eng (fun _ _ _ _ => rfl) s a,
    State.noticeAddr_keeps State.hif (fun _ _ _ _ => rfl) s a,
    State.noticeAddr_keeps State.qm (fun _ _ _ _ => rfl) s a,
    State.noticeAddr_keeps State.mgt (fun _ _ _ _ => rfl) s a,
    State.noticeAddr_keeps State.nvm (fun _ _ _ _ => rfl) s a,
    State.noticeAddr_keeps State.tel (fun _ _ _ _ => rfl) s a,
    State.noticeAddr_keeps State.clk (fun _ _ _ _ => rfl) s a,
    State.noticeAddr_keeps State.pwr (fun _ _ _ _ => rfl) s a,
    State.noticeAddr_keeps State.rst (fun _ _ _ _ => rfl) s a,
    State.noticeAddr_keeps State.svc (fun _ _ _ _ => rfl) s a,
    State.noticeAddr_keeps State.tap (fun _ _ _ _ => rfl) s a⟩

theorem State.settleLine_keeps {β : Sort _} (obs : State → β)
    (h : ∀ (s : State) x0 x1 x2, obs { s with ctr := x0, free := x1, hif := x2 } = obs s)
    (s : State) (a : Nat) : obs (s.settleLine a) = obs s := by
  unfold State.settleLine
  try dsimp only
  repeat' split
  all_goals skip
  all_goals first
    | rfl
    | exact h _ _ _ _

/-- Taking up what a line carried changes only counters, the count of draws and the host link. -/
@[simp] theorem State.settleLine_frame (s : State) (a : Nat) :
    (s.settleLine a).pending = s.pending ∧ (s.settleLine a).assured = s.assured ∧ (s.settleLine a).out = s.out ∧ (s.settleLine a).nextFrame = s.nextFrame ∧
    (s.settleLine a).regs = s.regs ∧ (s.settleLine a).coh = s.coh ∧ (s.settleLine a).snap = s.snap ∧ (s.settleLine a).tb = s.tb ∧
    (s.settleLine a).stp = s.stp ∧ (s.settleLine a).ldg = s.ldg ∧ (s.settleLine a).mrg = s.mrg ∧ (s.settleLine a).rel = s.rel ∧
    (s.settleLine a).ports = s.ports ∧ (s.settleLine a).lanes = s.lanes ∧ (s.settleLine a).slices = s.slices ∧ (s.settleLine a).flow = s.flow ∧
    (s.settleLine a).tm = s.tm ∧ (s.settleLine a).eng = s.eng ∧ (s.settleLine a).qm = s.qm ∧ (s.settleLine a).mgt = s.mgt ∧
    (s.settleLine a).nvm = s.nvm ∧ (s.settleLine a).evr = s.evr ∧ (s.settleLine a).tel = s.tel ∧ (s.settleLine a).clk = s.clk ∧
    (s.settleLine a).pwr = s.pwr ∧ (s.settleLine a).rst = s.rst ∧ (s.settleLine a).svc = s.svc ∧ (s.settleLine a).tap = s.tap :=
  ⟨State.settleLine_keeps State.pending (fun _ _ _ _ => rfl) s a,
    State.settleLine_keeps State.assured (fun _ _ _ _ => rfl) s a,
    State.settleLine_keeps State.out (fun _ _ _ _ => rfl) s a,
    State.settleLine_keeps State.nextFrame (fun _ _ _ _ => rfl) s a,
    State.settleLine_keeps State.regs (fun _ _ _ _ => rfl) s a,
    State.settleLine_keeps State.coh (fun _ _ _ _ => rfl) s a,
    State.settleLine_keeps State.snap (fun _ _ _ _ => rfl) s a,
    State.settleLine_keeps State.tb (fun _ _ _ _ => rfl) s a,
    State.settleLine_keeps State.stp (fun _ _ _ _ => rfl) s a,
    State.settleLine_keeps State.ldg (fun _ _ _ _ => rfl) s a,
    State.settleLine_keeps State.mrg (fun _ _ _ _ => rfl) s a,
    State.settleLine_keeps State.rel (fun _ _ _ _ => rfl) s a,
    State.settleLine_keeps State.ports (fun _ _ _ _ => rfl) s a,
    State.settleLine_keeps State.lanes (fun _ _ _ _ => rfl) s a,
    State.settleLine_keeps State.slices (fun _ _ _ _ => rfl) s a,
    State.settleLine_keeps State.flow (fun _ _ _ _ => rfl) s a,
    State.settleLine_keeps State.tm (fun _ _ _ _ => rfl) s a,
    State.settleLine_keeps State.eng (fun _ _ _ _ => rfl) s a,
    State.settleLine_keeps State.qm (fun _ _ _ _ => rfl) s a,
    State.settleLine_keeps State.mgt (fun _ _ _ _ => rfl) s a,
    State.settleLine_keeps State.nvm (fun _ _ _ _ => rfl) s a,
    State.settleLine_keeps State.evr (fun _ _ _ _ => rfl) s a,
    State.settleLine_keeps State.tel (fun _ _ _ _ => rfl) s a,
    State.settleLine_keeps State.clk (fun _ _ _ _ => rfl) s a,
    State.settleLine_keeps State.pwr (fun _ _ _ _ => rfl) s a,
    State.settleLine_keeps State.rst (fun _ _ _ _ => rfl) s a,
    State.settleLine_keeps State.svc (fun _ _ _ _ => rfl) s a,
    State.settleLine_keeps State.tap (fun _ _ _ _ => rfl) s a⟩

theorem State.settlePortLines_keeps {β : Sort _} (obs : State → β)
    (h : ∀ (s : State) x0 x1 x2, obs { s with ctr := x0, free := x1, hif := x2 } = obs s)
    (s : State) (p : Nat) : obs (s.settlePortLines p) = obs s :=
  foldl_keeps obs _ (fun s a => State.settleLine_keeps obs h s a) _ _

/-- Taking up what a port's line carried changes only counters, the count of draws and the host link. -/
@[simp] theorem State.settlePortLines_frame (s : State) (p : Nat) :
    (s.settlePortLines p).pending = s.pending ∧ (s.settlePortLines p).assured = s.assured ∧ (s.settlePortLines p).out = s.out ∧ (s.settlePortLines p).nextFrame = s.nextFrame ∧
    (s.settlePortLines p).regs = s.regs ∧ (s.settlePortLines p).coh = s.coh ∧ (s.settlePortLines p).snap = s.snap ∧ (s.settlePortLines p).tb = s.tb ∧
    (s.settlePortLines p).stp = s.stp ∧ (s.settlePortLines p).ldg = s.ldg ∧ (s.settlePortLines p).mrg = s.mrg ∧ (s.settlePortLines p).rel = s.rel ∧
    (s.settlePortLines p).ports = s.ports ∧ (s.settlePortLines p).lanes = s.lanes ∧ (s.settlePortLines p).slices = s.slices ∧ (s.settlePortLines p).flow = s.flow ∧
    (s.settlePortLines p).tm = s.tm ∧ (s.settlePortLines p).eng = s.eng ∧ (s.settlePortLines p).qm = s.qm ∧ (s.settlePortLines p).mgt = s.mgt ∧
    (s.settlePortLines p).nvm = s.nvm ∧ (s.settlePortLines p).evr = s.evr ∧ (s.settlePortLines p).tel = s.tel ∧ (s.settlePortLines p).clk = s.clk ∧
    (s.settlePortLines p).pwr = s.pwr ∧ (s.settlePortLines p).rst = s.rst ∧ (s.settlePortLines p).svc = s.svc ∧ (s.settlePortLines p).tap = s.tap :=
  ⟨State.settlePortLines_keeps State.pending (fun _ _ _ _ => rfl) s p,
    State.settlePortLines_keeps State.assured (fun _ _ _ _ => rfl) s p,
    State.settlePortLines_keeps State.out (fun _ _ _ _ => rfl) s p,
    State.settlePortLines_keeps State.nextFrame (fun _ _ _ _ => rfl) s p,
    State.settlePortLines_keeps State.regs (fun _ _ _ _ => rfl) s p,
    State.settlePortLines_keeps State.coh (fun _ _ _ _ => rfl) s p,
    State.settlePortLines_keeps State.snap (fun _ _ _ _ => rfl) s p,
    State.settlePortLines_keeps State.tb (fun _ _ _ _ => rfl) s p,
    State.settlePortLines_keeps State.stp (fun _ _ _ _ => rfl) s p,
    State.settlePortLines_keeps State.ldg (fun _ _ _ _ => rfl) s p,
    State.settlePortLines_keeps State.mrg (fun _ _ _ _ => rfl) s p,
    State.settlePortLines_keeps State.rel (fun _ _ _ _ => rfl) s p,
    State.settlePortLines_keeps State.ports (fun _ _ _ _ => rfl) s p,
    State.settlePortLines_keeps State.lanes (fun _ _ _ _ => rfl) s p,
    State.settlePortLines_keeps State.slices (fun _ _ _ _ => rfl) s p,
    State.settlePortLines_keeps State.flow (fun _ _ _ _ => rfl) s p,
    State.settlePortLines_keeps State.tm (fun _ _ _ _ => rfl) s p,
    State.settlePortLines_keeps State.eng (fun _ _ _ _ => rfl) s p,
    State.settlePortLines_keeps State.qm (fun _ _ _ _ => rfl) s p,
    State.settlePortLines_keeps State.mgt (fun _ _ _ _ => rfl) s p,
    State.settlePortLines_keeps State.nvm (fun _ _ _ _ => rfl) s p,
    State.settlePortLines_keeps State.evr (fun _ _ _ _ => rfl) s p,
    State.settlePortLines_keeps State.tel (fun _ _ _ _ => rfl) s p,
    State.settlePortLines_keeps State.clk (fun _ _ _ _ => rfl) s p,
    State.settlePortLines_keeps State.pwr (fun _ _ _ _ => rfl) s p,
    State.settlePortLines_keeps State.rst (fun _ _ _ _ => rfl) s p,
    State.settlePortLines_keeps State.svc (fun _ _ _ _ => rfl) s p,
    State.settlePortLines_keeps State.tap (fun _ _ _ _ => rfl) s p⟩

theorem State.moveUnit_keeps {β : Sort _} (obs : State → β)
    (h : ∀ (s : State) x0 x1 x2 x3 x4 x5 x6, obs { s with svc := x0, evr := x1, out := x2, ctr := x3, mgt := x4, free := x5, hif := x6 } = obs s)
    (s : State) (k : UnitKind) (sl n : Nat) (x : Service) (r : Nat) : obs (s.moveUnit k sl n x r) = obs s := by
  unfold State.moveUnit
  try dsimp only
  repeat' split
  all_goals try simp only [State.eventWith_keeps obs (fun s x0 x1 x2 => h s s.svc x0 x1 x2 s.mgt s.free s.hif), State.setUnit_keeps obs (fun s x0 => h s x0 s.evr s.out s.ctr s.mgt s.free s.hif), State.settlePort_keeps obs (fun s x0 => h s s.svc s.evr s.out s.ctr x0 s.free s.hif), State.settlePortLines_keeps obs (fun s x0 x1 x2 => h s s.svc s.evr s.out x0 s.mgt x1 x2)]
  all_goals iterate 4 first
    | done
    | rfl
    | (refine (h _ _ _ _ _ _ _ _).trans ?_; try simp only [State.eventWith_keeps obs (fun s x0 x1 x2 => h s s.svc x0 x1 x2 s.mgt s.free s.hif), State.setUnit_keeps obs (fun s x0 => h s x0 s.evr s.out s.ctr s.mgt s.free s.hif), State.settlePort_keeps obs (fun s x0 => h s s.svc s.evr s.out s.ctr x0 s.free s.hif), State.settlePortLines_keeps obs (fun s x0 x1 x2 => h s s.svc s.evr s.out x0 s.mgt x1 x2)])

/-- A change of service state changes only that, what its event changes, and what a port's line carried. -/
@[simp] theorem State.moveUnit_frame (s : State) (k : UnitKind) (sl n : Nat) (x : Service) (r : Nat) :
    (s.moveUnit k sl n x r).pending = s.pending ∧ (s.moveUnit k sl n x r).assured = s.assured ∧ (s.moveUnit k sl n x r).nextFrame = s.nextFrame ∧ (s.moveUnit k sl n x r).regs = s.regs ∧
    (s.moveUnit k sl n x r).coh = s.coh ∧ (s.moveUnit k sl n x r).snap = s.snap ∧ (s.moveUnit k sl n x r).tb = s.tb ∧ (s.moveUnit k sl n x r).stp = s.stp ∧
    (s.moveUnit k sl n x r).ldg = s.ldg ∧ (s.moveUnit k sl n x r).mrg = s.mrg ∧ (s.moveUnit k sl n x r).rel = s.rel ∧ (s.moveUnit k sl n x r).ports = s.ports ∧
    (s.moveUnit k sl n x r).lanes = s.lanes ∧ (s.moveUnit k sl n x r).slices = s.slices ∧ (s.moveUnit k sl n x r).flow = s.flow ∧ (s.moveUnit k sl n x r).tm = s.tm ∧
    (s.moveUnit k sl n x r).eng = s.eng ∧ (s.moveUnit k sl n x r).qm = s.qm ∧ (s.moveUnit k sl n x r).nvm = s.nvm ∧ (s.moveUnit k sl n x r).tel = s.tel ∧
    (s.moveUnit k sl n x r).clk = s.clk ∧ (s.moveUnit k sl n x r).pwr = s.pwr ∧ (s.moveUnit k sl n x r).rst = s.rst ∧ (s.moveUnit k sl n x r).tap = s.tap :=
  ⟨State.moveUnit_keeps State.pending (fun _ _ _ _ _ _ _ _ => rfl) s k sl n x r,
    State.moveUnit_keeps State.assured (fun _ _ _ _ _ _ _ _ => rfl) s k sl n x r,
    State.moveUnit_keeps State.nextFrame (fun _ _ _ _ _ _ _ _ => rfl) s k sl n x r,
    State.moveUnit_keeps State.regs (fun _ _ _ _ _ _ _ _ => rfl) s k sl n x r,
    State.moveUnit_keeps State.coh (fun _ _ _ _ _ _ _ _ => rfl) s k sl n x r,
    State.moveUnit_keeps State.snap (fun _ _ _ _ _ _ _ _ => rfl) s k sl n x r,
    State.moveUnit_keeps State.tb (fun _ _ _ _ _ _ _ _ => rfl) s k sl n x r,
    State.moveUnit_keeps State.stp (fun _ _ _ _ _ _ _ _ => rfl) s k sl n x r,
    State.moveUnit_keeps State.ldg (fun _ _ _ _ _ _ _ _ => rfl) s k sl n x r,
    State.moveUnit_keeps State.mrg (fun _ _ _ _ _ _ _ _ => rfl) s k sl n x r,
    State.moveUnit_keeps State.rel (fun _ _ _ _ _ _ _ _ => rfl) s k sl n x r,
    State.moveUnit_keeps State.ports (fun _ _ _ _ _ _ _ _ => rfl) s k sl n x r,
    State.moveUnit_keeps State.lanes (fun _ _ _ _ _ _ _ _ => rfl) s k sl n x r,
    State.moveUnit_keeps State.slices (fun _ _ _ _ _ _ _ _ => rfl) s k sl n x r,
    State.moveUnit_keeps State.flow (fun _ _ _ _ _ _ _ _ => rfl) s k sl n x r,
    State.moveUnit_keeps State.tm (fun _ _ _ _ _ _ _ _ => rfl) s k sl n x r,
    State.moveUnit_keeps State.eng (fun _ _ _ _ _ _ _ _ => rfl) s k sl n x r,
    State.moveUnit_keeps State.qm (fun _ _ _ _ _ _ _ _ => rfl) s k sl n x r,
    State.moveUnit_keeps State.nvm (fun _ _ _ _ _ _ _ _ => rfl) s k sl n x r,
    State.moveUnit_keeps State.tel (fun _ _ _ _ _ _ _ _ => rfl) s k sl n x r,
    State.moveUnit_keeps State.clk (fun _ _ _ _ _ _ _ _ => rfl) s k sl n x r,
    State.moveUnit_keeps State.pwr (fun _ _ _ _ _ _ _ _ => rfl) s k sl n x r,
    State.moveUnit_keeps State.rst (fun _ _ _ _ _ _ _ _ => rfl) s k sl n x r,
    State.moveUnit_keeps State.tap (fun _ _ _ _ _ _ _ _ => rfl) s k sl n x r⟩

theorem State.reportAer_keeps {β : Sort _} (obs : State → β)
    (h : ∀ (s : State) x0 x1, obs { s with qm := x0, out := x1 } = obs s)
    (s : State) (fn c : Nat) (u : Option Nat) (x : Bool) : obs (s.reportAer fn c u x) = obs s := by
  unfold State.reportAer
  try dsimp only
  repeat' split
  all_goals try simp only [State.modFn_keeps obs (fun s x0 => h s x0 s.out), State.emit_keeps obs (fun s x0 => h s s.qm x0)]
  all_goals iterate 4 first
    | done
    | rfl
    | (refine (h _ _ _).trans ?_; try simp only [State.modFn_keeps obs (fun s x0 => h s x0 s.out), State.emit_keeps obs (fun s x0 => h s s.qm x0)])

/-- An AER report changes only its function and what has left the block. -/
@[simp] theorem State.reportAer_frame (s : State) (fn c : Nat) (u : Option Nat) (x : Bool) :
    (s.reportAer fn c u x).pending = s.pending ∧ (s.reportAer fn c u x).free = s.free ∧ (s.reportAer fn c u x).assured = s.assured ∧ (s.reportAer fn c u x).nextFrame = s.nextFrame ∧
    (s.reportAer fn c u x).regs = s.regs ∧ (s.reportAer fn c u x).ctr = s.ctr ∧ (s.reportAer fn c u x).coh = s.coh ∧ (s.reportAer fn c u x).snap = s.snap ∧
    (s.reportAer fn c u x).tb = s.tb ∧ (s.reportAer fn c u x).stp = s.stp ∧ (s.reportAer fn c u x).ldg = s.ldg ∧ (s.reportAer fn c u x).mrg = s.mrg ∧
    (s.reportAer fn c u x).rel = s.rel ∧ (s.reportAer fn c u x).ports = s.ports ∧ (s.reportAer fn c u x).lanes = s.lanes ∧ (s.reportAer fn c u x).slices = s.slices ∧
    (s.reportAer fn c u x).flow = s.flow ∧ (s.reportAer fn c u x).tm = s.tm ∧ (s.reportAer fn c u x).eng = s.eng ∧ (s.reportAer fn c u x).hif = s.hif ∧
    (s.reportAer fn c u x).mgt = s.mgt ∧ (s.reportAer fn c u x).nvm = s.nvm ∧ (s.reportAer fn c u x).evr = s.evr ∧ (s.reportAer fn c u x).tel = s.tel ∧
    (s.reportAer fn c u x).clk = s.clk ∧ (s.reportAer fn c u x).pwr = s.pwr ∧ (s.reportAer fn c u x).rst = s.rst ∧ (s.reportAer fn c u x).svc = s.svc ∧
    (s.reportAer fn c u x).tap = s.tap :=
  ⟨State.reportAer_keeps State.pending (fun _ _ _ => rfl) s fn c u x,
    State.reportAer_keeps State.free (fun _ _ _ => rfl) s fn c u x,
    State.reportAer_keeps State.assured (fun _ _ _ => rfl) s fn c u x,
    State.reportAer_keeps State.nextFrame (fun _ _ _ => rfl) s fn c u x,
    State.reportAer_keeps State.regs (fun _ _ _ => rfl) s fn c u x,
    State.reportAer_keeps State.ctr (fun _ _ _ => rfl) s fn c u x,
    State.reportAer_keeps State.coh (fun _ _ _ => rfl) s fn c u x,
    State.reportAer_keeps State.snap (fun _ _ _ => rfl) s fn c u x,
    State.reportAer_keeps State.tb (fun _ _ _ => rfl) s fn c u x,
    State.reportAer_keeps State.stp (fun _ _ _ => rfl) s fn c u x,
    State.reportAer_keeps State.ldg (fun _ _ _ => rfl) s fn c u x,
    State.reportAer_keeps State.mrg (fun _ _ _ => rfl) s fn c u x,
    State.reportAer_keeps State.rel (fun _ _ _ => rfl) s fn c u x,
    State.reportAer_keeps State.ports (fun _ _ _ => rfl) s fn c u x,
    State.reportAer_keeps State.lanes (fun _ _ _ => rfl) s fn c u x,
    State.reportAer_keeps State.slices (fun _ _ _ => rfl) s fn c u x,
    State.reportAer_keeps State.flow (fun _ _ _ => rfl) s fn c u x,
    State.reportAer_keeps State.tm (fun _ _ _ => rfl) s fn c u x,
    State.reportAer_keeps State.eng (fun _ _ _ => rfl) s fn c u x,
    State.reportAer_keeps State.hif (fun _ _ _ => rfl) s fn c u x,
    State.reportAer_keeps State.mgt (fun _ _ _ => rfl) s fn c u x,
    State.reportAer_keeps State.nvm (fun _ _ _ => rfl) s fn c u x,
    State.reportAer_keeps State.evr (fun _ _ _ => rfl) s fn c u x,
    State.reportAer_keeps State.tel (fun _ _ _ => rfl) s fn c u x,
    State.reportAer_keeps State.clk (fun _ _ _ => rfl) s fn c u x,
    State.reportAer_keeps State.pwr (fun _ _ _ => rfl) s fn c u x,
    State.reportAer_keeps State.rst (fun _ _ _ => rfl) s fn c u x,
    State.reportAer_keeps State.svc (fun _ _ _ => rfl) s fn c u x,
    State.reportAer_keeps State.tap (fun _ _ _ => rfl) s fn c u x⟩

theorem State.fatal_keeps {β : Sort _} (obs : State → β)
    (h : ∀ (s : State) x0 x1 x2 x3 x4, obs { s with evr := x0, out := x1, ctr := x2, hif := x3, qm := x4 } = obs s)
    (s : State) (c : Nat) : obs (s.fatal c) = obs s := by
  unfold State.fatal
  try dsimp only
  repeat' split
  all_goals try simp only [State.reportAer_keeps obs (fun s x0 x1 => h s s.evr x1 s.ctr s.hif x0), State.count_keeps obs (fun s x0 => h s s.evr s.out x0 s.hif s.qm), State.assertAlert_keeps obs (fun s x0 x1 => h s x0 x1 s.ctr s.hif s.qm), State.eventWith_keeps obs (fun s x0 x1 x2 => h s x0 x1 x2 s.hif s.qm)]
  all_goals iterate 4 first
    | done
    | rfl
    | (refine (h _ _ _ _ _ _).trans ?_; try simp only [State.reportAer_keeps obs (fun s x0 x1 => h s s.evr x1 s.ctr s.hif x0), State.count_keeps obs (fun s x0 => h s s.evr s.out x0 s.hif s.qm), State.assertAlert_keeps obs (fun s x0 x1 => h s x0 x1 s.ctr s.hif s.qm), State.eventWith_keeps obs (fun s x0 x1 x2 => h s x0 x1 x2 s.hif s.qm)])

/-- FATAL changes only the recorder, what leaves the block, its counters, the host link and the function that reports it. -/
@[simp] theorem State.fatal_frame (s : State) (c : Nat) :
    (s.fatal c).pending = s.pending ∧ (s.fatal c).free = s.free ∧ (s.fatal c).assured = s.assured ∧ (s.fatal c).nextFrame = s.nextFrame ∧
    (s.fatal c).regs = s.regs ∧ (s.fatal c).coh = s.coh ∧ (s.fatal c).snap = s.snap ∧ (s.fatal c).tb = s.tb ∧
    (s.fatal c).stp = s.stp ∧ (s.fatal c).ldg = s.ldg ∧ (s.fatal c).mrg = s.mrg ∧ (s.fatal c).rel = s.rel ∧
    (s.fatal c).ports = s.ports ∧ (s.fatal c).lanes = s.lanes ∧ (s.fatal c).slices = s.slices ∧ (s.fatal c).flow = s.flow ∧
    (s.fatal c).tm = s.tm ∧ (s.fatal c).eng = s.eng ∧ (s.fatal c).mgt = s.mgt ∧ (s.fatal c).nvm = s.nvm ∧
    (s.fatal c).tel = s.tel ∧ (s.fatal c).clk = s.clk ∧ (s.fatal c).pwr = s.pwr ∧ (s.fatal c).rst = s.rst ∧
    (s.fatal c).svc = s.svc ∧ (s.fatal c).tap = s.tap :=
  ⟨State.fatal_keeps State.pending (fun _ _ _ _ _ _ => rfl) s c,
    State.fatal_keeps State.free (fun _ _ _ _ _ _ => rfl) s c,
    State.fatal_keeps State.assured (fun _ _ _ _ _ _ => rfl) s c,
    State.fatal_keeps State.nextFrame (fun _ _ _ _ _ _ => rfl) s c,
    State.fatal_keeps State.regs (fun _ _ _ _ _ _ => rfl) s c,
    State.fatal_keeps State.coh (fun _ _ _ _ _ _ => rfl) s c,
    State.fatal_keeps State.snap (fun _ _ _ _ _ _ => rfl) s c,
    State.fatal_keeps State.tb (fun _ _ _ _ _ _ => rfl) s c,
    State.fatal_keeps State.stp (fun _ _ _ _ _ _ => rfl) s c,
    State.fatal_keeps State.ldg (fun _ _ _ _ _ _ => rfl) s c,
    State.fatal_keeps State.mrg (fun _ _ _ _ _ _ => rfl) s c,
    State.fatal_keeps State.rel (fun _ _ _ _ _ _ => rfl) s c,
    State.fatal_keeps State.ports (fun _ _ _ _ _ _ => rfl) s c,
    State.fatal_keeps State.lanes (fun _ _ _ _ _ _ => rfl) s c,
    State.fatal_keeps State.slices (fun _ _ _ _ _ _ => rfl) s c,
    State.fatal_keeps State.flow (fun _ _ _ _ _ _ => rfl) s c,
    State.fatal_keeps State.tm (fun _ _ _ _ _ _ => rfl) s c,
    State.fatal_keeps State.eng (fun _ _ _ _ _ _ => rfl) s c,
    State.fatal_keeps State.mgt (fun _ _ _ _ _ _ => rfl) s c,
    State.fatal_keeps State.nvm (fun _ _ _ _ _ _ => rfl) s c,
    State.fatal_keeps State.tel (fun _ _ _ _ _ _ => rfl) s c,
    State.fatal_keeps State.clk (fun _ _ _ _ _ _ => rfl) s c,
    State.fatal_keeps State.pwr (fun _ _ _ _ _ _ => rfl) s c,
    State.fatal_keeps State.rst (fun _ _ _ _ _ _ => rfl) s c,
    State.fatal_keeps State.svc (fun _ _ _ _ _ _ => rfl) s c,
    State.fatal_keeps State.tap (fun _ _ _ _ _ _ => rfl) s c⟩

theorem State.openRecord_keeps {β : Sort _} (obs : State → β)
    (h : ∀ (s : State) x0 x1 x2, obs { s with evr := x0, out := x1, ctr := x2 } = obs s)
    (s : State) (r : ErrRec) : obs (s.openRecord r) = obs s := by
  unfold State.openRecord
  try dsimp only
  repeat' split
  all_goals try simp only [State.event_keeps obs (fun s x0 x1 x2 => h s x0 x1 x2)]
  all_goals iterate 4 first
    | done
    | rfl
    | (refine (h _ _ _ _).trans ?_; try simp only [State.event_keeps obs (fun s x0 x1 x2 => h s x0 x1 x2)])

/-- An open record changes only the recorder, its counters and the alert that leaves the block. -/
@[simp] theorem State.openRecord_frame (s : State) (r : ErrRec) :
    (s.openRecord r).pending = s.pending ∧ (s.openRecord r).free = s.free ∧ (s.openRecord r).assured = s.assured ∧ (s.openRecord r).nextFrame = s.nextFrame ∧
    (s.openRecord r).regs = s.regs ∧ (s.openRecord r).coh = s.coh ∧ (s.openRecord r).snap = s.snap ∧ (s.openRecord r).tb = s.tb ∧
    (s.openRecord r).stp = s.stp ∧ (s.openRecord r).ldg = s.ldg ∧ (s.openRecord r).mrg = s.mrg ∧ (s.openRecord r).rel = s.rel ∧
    (s.openRecord r).ports = s.ports ∧ (s.openRecord r).lanes = s.lanes ∧ (s.openRecord r).slices = s.slices ∧ (s.openRecord r).flow = s.flow ∧
    (s.openRecord r).tm = s.tm ∧ (s.openRecord r).eng = s.eng ∧ (s.openRecord r).hif = s.hif ∧ (s.openRecord r).qm = s.qm ∧
    (s.openRecord r).mgt = s.mgt ∧ (s.openRecord r).nvm = s.nvm ∧ (s.openRecord r).tel = s.tel ∧ (s.openRecord r).clk = s.clk ∧
    (s.openRecord r).pwr = s.pwr ∧ (s.openRecord r).rst = s.rst ∧ (s.openRecord r).svc = s.svc ∧ (s.openRecord r).tap = s.tap :=
  ⟨State.openRecord_keeps State.pending (fun _ _ _ _ => rfl) s r,
    State.openRecord_keeps State.free (fun _ _ _ _ => rfl) s r,
    State.openRecord_keeps State.assured (fun _ _ _ _ => rfl) s r,
    State.openRecord_keeps State.nextFrame (fun _ _ _ _ => rfl) s r,
    State.openRecord_keeps State.regs (fun _ _ _ _ => rfl) s r,
    State.openRecord_keeps State.coh (fun _ _ _ _ => rfl) s r,
    State.openRecord_keeps State.snap (fun _ _ _ _ => rfl) s r,
    State.openRecord_keeps State.tb (fun _ _ _ _ => rfl) s r,
    State.openRecord_keeps State.stp (fun _ _ _ _ => rfl) s r,
    State.openRecord_keeps State.ldg (fun _ _ _ _ => rfl) s r,
    State.openRecord_keeps State.mrg (fun _ _ _ _ => rfl) s r,
    State.openRecord_keeps State.rel (fun _ _ _ _ => rfl) s r,
    State.openRecord_keeps State.ports (fun _ _ _ _ => rfl) s r,
    State.openRecord_keeps State.lanes (fun _ _ _ _ => rfl) s r,
    State.openRecord_keeps State.slices (fun _ _ _ _ => rfl) s r,
    State.openRecord_keeps State.flow (fun _ _ _ _ => rfl) s r,
    State.openRecord_keeps State.tm (fun _ _ _ _ => rfl) s r,
    State.openRecord_keeps State.eng (fun _ _ _ _ => rfl) s r,
    State.openRecord_keeps State.hif (fun _ _ _ _ => rfl) s r,
    State.openRecord_keeps State.qm (fun _ _ _ _ => rfl) s r,
    State.openRecord_keeps State.mgt (fun _ _ _ _ => rfl) s r,
    State.openRecord_keeps State.nvm (fun _ _ _ _ => rfl) s r,
    State.openRecord_keeps State.tel (fun _ _ _ _ => rfl) s r,
    State.openRecord_keeps State.clk (fun _ _ _ _ => rfl) s r,
    State.openRecord_keeps State.pwr (fun _ _ _ _ => rfl) s r,
    State.openRecord_keeps State.rst (fun _ _ _ _ => rfl) s r,
    State.openRecord_keeps State.svc (fun _ _ _ _ => rfl) s r,
    State.openRecord_keeps State.tap (fun _ _ _ _ => rfl) s r⟩

theorem State.uncorrected_keeps {β : Sort _} (obs : State → β)
    (h : ∀ (s : State) x0 x1 x2 x3 x4 x5, obs { s with evr := x0, out := x1, ctr := x2, tel := x3, hif := x4, qm := x5 } = obs s)
    (s : State) (c r : Nat) (u : Option UnitRef) (i : ErrItem) (d k : Bool) (x : Nat) : obs ((s.uncorrected c r u i d k x).2) = obs s := by
  unfold State.uncorrected
  try dsimp only
  repeat' split
  all_goals try simp only [State.count1_keeps obs (fun s x0 => h s s.evr s.out x0 s.tel s.hif s.qm), State.eventWith_keeps obs (fun s x0 x1 x2 => h s x0 x1 x2 s.tel s.hif s.qm), State.fatal_keeps obs (fun s x0 x1 x2 x3 x4 => h s x0 x1 x2 s.tel x3 x4), State.openRecord_keeps obs (fun s x0 x1 x2 => h s x0 x1 x2 s.tel s.hif s.qm)]
  all_goals iterate 4 first
    | done
    | rfl
    | (refine (h _ _ _ _ _ _ _).trans ?_; try simp only [State.count1_keeps obs (fun s x0 => h s s.evr s.out x0 s.tel s.hif s.qm), State.eventWith_keeps obs (fun s x0 x1 x2 => h s x0 x1 x2 s.tel s.hif s.qm), State.fatal_keeps obs (fun s x0 x1 x2 x3 x4 => h s x0 x1 x2 s.tel x3 x4), State.openRecord_keeps obs (fun s x0 x1 x2 => h s x0 x1 x2 s.tel s.hif s.qm)])

/-- An uncorrected error changes only the recorder, telemetry, counters, the host link, function 0 and what leaves the block. -/
@[simp] theorem State.uncorrected_frame (s : State) (c r : Nat) (u : Option UnitRef) (i : ErrItem) (d k : Bool) (x : Nat) :
    ((s.uncorrected c r u i d k x).2).pending = s.pending ∧ ((s.uncorrected c r u i d k x).2).free = s.free ∧ ((s.uncorrected c r u i d k x).2).assured = s.assured ∧ ((s.uncorrected c r u i d k x).2).nextFrame = s.nextFrame ∧
    ((s.uncorrected c r u i d k x).2).regs = s.regs ∧ ((s.uncorrected c r u i d k x).2).coh = s.coh ∧ ((s.uncorrected c r u i d k x).2).snap = s.snap ∧ ((s.uncorrected c r u i d k x).2).tb = s.tb ∧
    ((s.uncorrected c r u i d k x).2).stp = s.stp ∧ ((s.uncorrected c r u i d k x).2).ldg = s.ldg ∧ ((s.uncorrected c r u i d k x).2).mrg = s.mrg ∧ ((s.uncorrected c r u i d k x).2).rel = s.rel ∧
    ((s.uncorrected c r u i d k x).2).ports = s.ports ∧ ((s.uncorrected c r u i d k x).2).lanes = s.lanes ∧ ((s.uncorrected c r u i d k x).2).slices = s.slices ∧ ((s.uncorrected c r u i d k x).2).flow = s.flow ∧
    ((s.uncorrected c r u i d k x).2).tm = s.tm ∧ ((s.uncorrected c r u i d k x).2).eng = s.eng ∧ ((s.uncorrected c r u i d k x).2).mgt = s.mgt ∧ ((s.uncorrected c r u i d k x).2).nvm = s.nvm ∧
    ((s.uncorrected c r u i d k x).2).clk = s.clk ∧ ((s.uncorrected c r u i d k x).2).pwr = s.pwr ∧ ((s.uncorrected c r u i d k x).2).rst = s.rst ∧ ((s.uncorrected c r u i d k x).2).svc = s.svc ∧
    ((s.uncorrected c r u i d k x).2).tap = s.tap :=
  ⟨State.uncorrected_keeps State.pending (fun _ _ _ _ _ _ _ => rfl) s c r u i d k x,
    State.uncorrected_keeps State.free (fun _ _ _ _ _ _ _ => rfl) s c r u i d k x,
    State.uncorrected_keeps State.assured (fun _ _ _ _ _ _ _ => rfl) s c r u i d k x,
    State.uncorrected_keeps State.nextFrame (fun _ _ _ _ _ _ _ => rfl) s c r u i d k x,
    State.uncorrected_keeps State.regs (fun _ _ _ _ _ _ _ => rfl) s c r u i d k x,
    State.uncorrected_keeps State.coh (fun _ _ _ _ _ _ _ => rfl) s c r u i d k x,
    State.uncorrected_keeps State.snap (fun _ _ _ _ _ _ _ => rfl) s c r u i d k x,
    State.uncorrected_keeps State.tb (fun _ _ _ _ _ _ _ => rfl) s c r u i d k x,
    State.uncorrected_keeps State.stp (fun _ _ _ _ _ _ _ => rfl) s c r u i d k x,
    State.uncorrected_keeps State.ldg (fun _ _ _ _ _ _ _ => rfl) s c r u i d k x,
    State.uncorrected_keeps State.mrg (fun _ _ _ _ _ _ _ => rfl) s c r u i d k x,
    State.uncorrected_keeps State.rel (fun _ _ _ _ _ _ _ => rfl) s c r u i d k x,
    State.uncorrected_keeps State.ports (fun _ _ _ _ _ _ _ => rfl) s c r u i d k x,
    State.uncorrected_keeps State.lanes (fun _ _ _ _ _ _ _ => rfl) s c r u i d k x,
    State.uncorrected_keeps State.slices (fun _ _ _ _ _ _ _ => rfl) s c r u i d k x,
    State.uncorrected_keeps State.flow (fun _ _ _ _ _ _ _ => rfl) s c r u i d k x,
    State.uncorrected_keeps State.tm (fun _ _ _ _ _ _ _ => rfl) s c r u i d k x,
    State.uncorrected_keeps State.eng (fun _ _ _ _ _ _ _ => rfl) s c r u i d k x,
    State.uncorrected_keeps State.mgt (fun _ _ _ _ _ _ _ => rfl) s c r u i d k x,
    State.uncorrected_keeps State.nvm (fun _ _ _ _ _ _ _ => rfl) s c r u i d k x,
    State.uncorrected_keeps State.clk (fun _ _ _ _ _ _ _ => rfl) s c r u i d k x,
    State.uncorrected_keeps State.pwr (fun _ _ _ _ _ _ _ => rfl) s c r u i d k x,
    State.uncorrected_keeps State.rst (fun _ _ _ _ _ _ _ => rfl) s c r u i d k x,
    State.uncorrected_keeps State.svc (fun _ _ _ _ _ _ _ => rfl) s c r u i d k x,
    State.uncorrected_keeps State.tap (fun _ _ _ _ _ _ _ => rfl) s c r u i d k x⟩

theorem State.detect_keeps {β : Sort _} (obs : State → β)
    (h : ∀ (s : State) x0 x1 x2 x3 x4 x5 x6, obs { s with free := x0, evr := x1, out := x2, ctr := x3, tel := x4, hif := x5, qm := x6 } = obs s)
    (s : State) (c r : Nat) (u : Option UnitRef) (i : ErrItem) (d k : Bool) : obs ((s.detect c r u i d k).2) = obs s := by
  unfold State.detect
  try dsimp only
  repeat' split
  all_goals try simp only [State.draw_keeps obs (fun s x0 => h s x0 s.evr s.out s.ctr s.tel s.hif s.qm), State.count1_keeps obs (fun s x0 => h s s.free s.evr s.out x0 s.tel s.hif s.qm), State.eventWith_keeps obs (fun s x0 x1 x2 => h s s.free x0 x1 x2 s.tel s.hif s.qm), State.fatal_keeps obs (fun s x0 x1 x2 x3 x4 => h s s.free x0 x1 x2 s.tel x3 x4), State.uncorrected_keeps obs (fun s x0 x1 x2 x3 x4 x5 => h s s.free x0 x1 x2 x3 x4 x5)]
  all_goals iterate 4 first
    | done
    | rfl
    | (refine (h _ _ _ _ _ _ _ _).trans ?_; try simp only [State.draw_keeps obs (fun s x0 => h s x0 s.evr s.out s.ctr s.tel s.hif s.qm), State.count1_keeps obs (fun s x0 => h s s.free s.evr s.out x0 s.tel s.hif s.qm), State.eventWith_keeps obs (fun s x0 x1 x2 => h s s.free x0 x1 x2 s.tel s.hif s.qm), State.fatal_keeps obs (fun s x0 x1 x2 x3 x4 => h s s.free x0 x1 x2 s.tel x3 x4), State.uncorrected_keeps obs (fun s x0 x1 x2 x3 x4 x5 => h s s.free x0 x1 x2 x3 x4 x5)])

/-- A detected error changes only the recorder, telemetry, counters, the host link, function 0 and what leaves the block. -/
@[simp] theorem State.detect_frame (s : State) (c r : Nat) (u : Option UnitRef) (i : ErrItem) (d k : Bool) :
    ((s.detect c r u i d k).2).pending = s.pending ∧ ((s.detect c r u i d k).2).assured = s.assured ∧ ((s.detect c r u i d k).2).nextFrame = s.nextFrame ∧ ((s.detect c r u i d k).2).regs = s.regs ∧
    ((s.detect c r u i d k).2).coh = s.coh ∧ ((s.detect c r u i d k).2).snap = s.snap ∧ ((s.detect c r u i d k).2).tb = s.tb ∧ ((s.detect c r u i d k).2).stp = s.stp ∧
    ((s.detect c r u i d k).2).ldg = s.ldg ∧ ((s.detect c r u i d k).2).mrg = s.mrg ∧ ((s.detect c r u i d k).2).rel = s.rel ∧ ((s.detect c r u i d k).2).ports = s.ports ∧
    ((s.detect c r u i d k).2).lanes = s.lanes ∧ ((s.detect c r u i d k).2).slices = s.slices ∧ ((s.detect c r u i d k).2).flow = s.flow ∧ ((s.detect c r u i d k).2).tm = s.tm ∧
    ((s.detect c r u i d k).2).eng = s.eng ∧ ((s.detect c r u i d k).2).mgt = s.mgt ∧ ((s.detect c r u i d k).2).nvm = s.nvm ∧ ((s.detect c r u i d k).2).clk = s.clk ∧
    ((s.detect c r u i d k).2).pwr = s.pwr ∧ ((s.detect c r u i d k).2).rst = s.rst ∧ ((s.detect c r u i d k).2).svc = s.svc ∧ ((s.detect c r u i d k).2).tap = s.tap :=
  ⟨State.detect_keeps State.pending (fun _ _ _ _ _ _ _ _ => rfl) s c r u i d k,
    State.detect_keeps State.assured (fun _ _ _ _ _ _ _ _ => rfl) s c r u i d k,
    State.detect_keeps State.nextFrame (fun _ _ _ _ _ _ _ _ => rfl) s c r u i d k,
    State.detect_keeps State.regs (fun _ _ _ _ _ _ _ _ => rfl) s c r u i d k,
    State.detect_keeps State.coh (fun _ _ _ _ _ _ _ _ => rfl) s c r u i d k,
    State.detect_keeps State.snap (fun _ _ _ _ _ _ _ _ => rfl) s c r u i d k,
    State.detect_keeps State.tb (fun _ _ _ _ _ _ _ _ => rfl) s c r u i d k,
    State.detect_keeps State.stp (fun _ _ _ _ _ _ _ _ => rfl) s c r u i d k,
    State.detect_keeps State.ldg (fun _ _ _ _ _ _ _ _ => rfl) s c r u i d k,
    State.detect_keeps State.mrg (fun _ _ _ _ _ _ _ _ => rfl) s c r u i d k,
    State.detect_keeps State.rel (fun _ _ _ _ _ _ _ _ => rfl) s c r u i d k,
    State.detect_keeps State.ports (fun _ _ _ _ _ _ _ _ => rfl) s c r u i d k,
    State.detect_keeps State.lanes (fun _ _ _ _ _ _ _ _ => rfl) s c r u i d k,
    State.detect_keeps State.slices (fun _ _ _ _ _ _ _ _ => rfl) s c r u i d k,
    State.detect_keeps State.flow (fun _ _ _ _ _ _ _ _ => rfl) s c r u i d k,
    State.detect_keeps State.tm (fun _ _ _ _ _ _ _ _ => rfl) s c r u i d k,
    State.detect_keeps State.eng (fun _ _ _ _ _ _ _ _ => rfl) s c r u i d k,
    State.detect_keeps State.mgt (fun _ _ _ _ _ _ _ _ => rfl) s c r u i d k,
    State.detect_keeps State.nvm (fun _ _ _ _ _ _ _ _ => rfl) s c r u i d k,
    State.detect_keeps State.clk (fun _ _ _ _ _ _ _ _ => rfl) s c r u i d k,
    State.detect_keeps State.pwr (fun _ _ _ _ _ _ _ _ => rfl) s c r u i d k,
    State.detect_keeps State.rst (fun _ _ _ _ _ _ _ _ => rfl) s c r u i d k,
    State.detect_keeps State.svc (fun _ _ _ _ _ _ _ _ => rfl) s c r u i d k,
    State.detect_keeps State.tap (fun _ _ _ _ _ _ _ _ => rfl) s c r u i d k⟩

theorem State.post_keeps {β : Sort _} (obs : State → β)
    (h : ∀ (s : State) x0 x1, obs { s with out := x0, hif := x1 } = obs s)
    (s : State) (fn : Nat) (o : Out) : obs (s.post fn o) = obs s := by
  unfold State.post
  try dsimp only
  repeat' split
  all_goals try simp only [State.transmit_keeps obs (fun s x0 x1 => h s x0 x1)]
  all_goals iterate 4 first
    | done
    | rfl
    | (refine (h _ _ _).trans ?_; try simp only [State.transmit_keeps obs (fun s x0 x1 => h s x0 x1)])

/-- A request changes only the host link and what has left the block. -/
@[simp] theorem State.post_frame (s : State) (fn : Nat) (o : Out) :
    (s.post fn o).pending = s.pending ∧ (s.post fn o).free = s.free ∧ (s.post fn o).assured = s.assured ∧ (s.post fn o).nextFrame = s.nextFrame ∧
    (s.post fn o).regs = s.regs ∧ (s.post fn o).ctr = s.ctr ∧ (s.post fn o).coh = s.coh ∧ (s.post fn o).snap = s.snap ∧
    (s.post fn o).tb = s.tb ∧ (s.post fn o).stp = s.stp ∧ (s.post fn o).ldg = s.ldg ∧ (s.post fn o).mrg = s.mrg ∧
    (s.post fn o).rel = s.rel ∧ (s.post fn o).ports = s.ports ∧ (s.post fn o).lanes = s.lanes ∧ (s.post fn o).slices = s.slices ∧
    (s.post fn o).flow = s.flow ∧ (s.post fn o).tm = s.tm ∧ (s.post fn o).eng = s.eng ∧ (s.post fn o).qm = s.qm ∧
    (s.post fn o).mgt = s.mgt ∧ (s.post fn o).nvm = s.nvm ∧ (s.post fn o).evr = s.evr ∧ (s.post fn o).tel = s.tel ∧
    (s.post fn o).clk = s.clk ∧ (s.post fn o).pwr = s.pwr ∧ (s.post fn o).rst = s.rst ∧ (s.post fn o).svc = s.svc ∧
    (s.post fn o).tap = s.tap :=
  ⟨State.post_keeps State.pending (fun _ _ _ => rfl) s fn o,
    State.post_keeps State.free (fun _ _ _ => rfl) s fn o,
    State.post_keeps State.assured (fun _ _ _ => rfl) s fn o,
    State.post_keeps State.nextFrame (fun _ _ _ => rfl) s fn o,
    State.post_keeps State.regs (fun _ _ _ => rfl) s fn o,
    State.post_keeps State.ctr (fun _ _ _ => rfl) s fn o,
    State.post_keeps State.coh (fun _ _ _ => rfl) s fn o,
    State.post_keeps State.snap (fun _ _ _ => rfl) s fn o,
    State.post_keeps State.tb (fun _ _ _ => rfl) s fn o,
    State.post_keeps State.stp (fun _ _ _ => rfl) s fn o,
    State.post_keeps State.ldg (fun _ _ _ => rfl) s fn o,
    State.post_keeps State.mrg (fun _ _ _ => rfl) s fn o,
    State.post_keeps State.rel (fun _ _ _ => rfl) s fn o,
    State.post_keeps State.ports (fun _ _ _ => rfl) s fn o,
    State.post_keeps State.lanes (fun _ _ _ => rfl) s fn o,
    State.post_keeps State.slices (fun _ _ _ => rfl) s fn o,
    State.post_keeps State.flow (fun _ _ _ => rfl) s fn o,
    State.post_keeps State.tm (fun _ _ _ => rfl) s fn o,
    State.post_keeps State.eng (fun _ _ _ => rfl) s fn o,
    State.post_keeps State.qm (fun _ _ _ => rfl) s fn o,
    State.post_keeps State.mgt (fun _ _ _ => rfl) s fn o,
    State.post_keeps State.nvm (fun _ _ _ => rfl) s fn o,
    State.post_keeps State.evr (fun _ _ _ => rfl) s fn o,
    State.post_keeps State.tel (fun _ _ _ => rfl) s fn o,
    State.post_keeps State.clk (fun _ _ _ => rfl) s fn o,
    State.post_keeps State.pwr (fun _ _ _ => rfl) s fn o,
    State.post_keeps State.rst (fun _ _ _ => rfl) s fn o,
    State.post_keeps State.svc (fun _ _ _ => rfl) s fn o,
    State.post_keeps State.tap (fun _ _ _ => rfl) s fn o⟩

theorem State.dmaTo_keeps {β : Sort _} (obs : State → β)
    (h : ∀ (s : State) x0 x1, obs { s with out := x0, hif := x1 } = obs s)
    (s : State) (fn : Nat) (v : Option Nat) (k : DmaKind) (a : Nat) (d : Bytes) : obs (s.dmaTo fn v k a d) = obs s :=
  foldl_keeps obs _ (fun s _ => State.post_keeps obs h s _ _) _ _

/-- A write changes only the host link and what has left the block. -/
@[simp] theorem State.dmaTo_frame (s : State) (fn : Nat) (v : Option Nat) (k : DmaKind) (a : Nat) (d : Bytes) :
    (s.dmaTo fn v k a d).pending = s.pending ∧ (s.dmaTo fn v k a d).free = s.free ∧ (s.dmaTo fn v k a d).assured = s.assured ∧ (s.dmaTo fn v k a d).nextFrame = s.nextFrame ∧
    (s.dmaTo fn v k a d).regs = s.regs ∧ (s.dmaTo fn v k a d).ctr = s.ctr ∧ (s.dmaTo fn v k a d).coh = s.coh ∧ (s.dmaTo fn v k a d).snap = s.snap ∧
    (s.dmaTo fn v k a d).tb = s.tb ∧ (s.dmaTo fn v k a d).stp = s.stp ∧ (s.dmaTo fn v k a d).ldg = s.ldg ∧ (s.dmaTo fn v k a d).mrg = s.mrg ∧
    (s.dmaTo fn v k a d).rel = s.rel ∧ (s.dmaTo fn v k a d).ports = s.ports ∧ (s.dmaTo fn v k a d).lanes = s.lanes ∧ (s.dmaTo fn v k a d).slices = s.slices ∧
    (s.dmaTo fn v k a d).flow = s.flow ∧ (s.dmaTo fn v k a d).tm = s.tm ∧ (s.dmaTo fn v k a d).eng = s.eng ∧ (s.dmaTo fn v k a d).qm = s.qm ∧
    (s.dmaTo fn v k a d).mgt = s.mgt ∧ (s.dmaTo fn v k a d).nvm = s.nvm ∧ (s.dmaTo fn v k a d).evr = s.evr ∧ (s.dmaTo fn v k a d).tel = s.tel ∧
    (s.dmaTo fn v k a d).clk = s.clk ∧ (s.dmaTo fn v k a d).pwr = s.pwr ∧ (s.dmaTo fn v k a d).rst = s.rst ∧ (s.dmaTo fn v k a d).svc = s.svc ∧
    (s.dmaTo fn v k a d).tap = s.tap :=
  ⟨State.dmaTo_keeps State.pending (fun _ _ _ => rfl) s fn v k a d,
    State.dmaTo_keeps State.free (fun _ _ _ => rfl) s fn v k a d,
    State.dmaTo_keeps State.assured (fun _ _ _ => rfl) s fn v k a d,
    State.dmaTo_keeps State.nextFrame (fun _ _ _ => rfl) s fn v k a d,
    State.dmaTo_keeps State.regs (fun _ _ _ => rfl) s fn v k a d,
    State.dmaTo_keeps State.ctr (fun _ _ _ => rfl) s fn v k a d,
    State.dmaTo_keeps State.coh (fun _ _ _ => rfl) s fn v k a d,
    State.dmaTo_keeps State.snap (fun _ _ _ => rfl) s fn v k a d,
    State.dmaTo_keeps State.tb (fun _ _ _ => rfl) s fn v k a d,
    State.dmaTo_keeps State.stp (fun _ _ _ => rfl) s fn v k a d,
    State.dmaTo_keeps State.ldg (fun _ _ _ => rfl) s fn v k a d,
    State.dmaTo_keeps State.mrg (fun _ _ _ => rfl) s fn v k a d,
    State.dmaTo_keeps State.rel (fun _ _ _ => rfl) s fn v k a d,
    State.dmaTo_keeps State.ports (fun _ _ _ => rfl) s fn v k a d,
    State.dmaTo_keeps State.lanes (fun _ _ _ => rfl) s fn v k a d,
    State.dmaTo_keeps State.slices (fun _ _ _ => rfl) s fn v k a d,
    State.dmaTo_keeps State.flow (fun _ _ _ => rfl) s fn v k a d,
    State.dmaTo_keeps State.tm (fun _ _ _ => rfl) s fn v k a d,
    State.dmaTo_keeps State.eng (fun _ _ _ => rfl) s fn v k a d,
    State.dmaTo_keeps State.qm (fun _ _ _ => rfl) s fn v k a d,
    State.dmaTo_keeps State.mgt (fun _ _ _ => rfl) s fn v k a d,
    State.dmaTo_keeps State.nvm (fun _ _ _ => rfl) s fn v k a d,
    State.dmaTo_keeps State.evr (fun _ _ _ => rfl) s fn v k a d,
    State.dmaTo_keeps State.tel (fun _ _ _ => rfl) s fn v k a d,
    State.dmaTo_keeps State.clk (fun _ _ _ => rfl) s fn v k a d,
    State.dmaTo_keeps State.pwr (fun _ _ _ => rfl) s fn v k a d,
    State.dmaTo_keeps State.rst (fun _ _ _ => rfl) s fn v k a d,
    State.dmaTo_keeps State.svc (fun _ _ _ => rfl) s fn v k a d,
    State.dmaTo_keeps State.tap (fun _ _ _ => rfl) s fn v k a d⟩

theorem State.dma_keeps {β : Sort _} (obs : State → β)
    (h : ∀ (s : State) x0 x1, obs { s with out := x0, hif := x1 } = obs s)
    (s : State) (fn : Nat) (k : DmaKind) (a : Nat) (d : Bytes) : obs (s.dma fn k a d) = obs s := by
  unfold State.dma
  try dsimp only
  repeat' split
  all_goals try simp only [State.dmaTo_keeps obs (fun s x0 x1 => h s x0 x1)]
  all_goals iterate 4 first
    | done
    | rfl
    | (refine (h _ _ _).trans ?_; try simp only [State.dmaTo_keeps obs (fun s x0 x1 => h s x0 x1)])

/-- A write changes only the host link and what has left the block. -/
@[simp] theorem State.dma_frame (s : State) (fn : Nat) (k : DmaKind) (a : Nat) (d : Bytes) :
    (s.dma fn k a d).pending = s.pending ∧ (s.dma fn k a d).free = s.free ∧ (s.dma fn k a d).assured = s.assured ∧ (s.dma fn k a d).nextFrame = s.nextFrame ∧
    (s.dma fn k a d).regs = s.regs ∧ (s.dma fn k a d).ctr = s.ctr ∧ (s.dma fn k a d).coh = s.coh ∧ (s.dma fn k a d).snap = s.snap ∧
    (s.dma fn k a d).tb = s.tb ∧ (s.dma fn k a d).stp = s.stp ∧ (s.dma fn k a d).ldg = s.ldg ∧ (s.dma fn k a d).mrg = s.mrg ∧
    (s.dma fn k a d).rel = s.rel ∧ (s.dma fn k a d).ports = s.ports ∧ (s.dma fn k a d).lanes = s.lanes ∧ (s.dma fn k a d).slices = s.slices ∧
    (s.dma fn k a d).flow = s.flow ∧ (s.dma fn k a d).tm = s.tm ∧ (s.dma fn k a d).eng = s.eng ∧ (s.dma fn k a d).qm = s.qm ∧
    (s.dma fn k a d).mgt = s.mgt ∧ (s.dma fn k a d).nvm = s.nvm ∧ (s.dma fn k a d).evr = s.evr ∧ (s.dma fn k a d).tel = s.tel ∧
    (s.dma fn k a d).clk = s.clk ∧ (s.dma fn k a d).pwr = s.pwr ∧ (s.dma fn k a d).rst = s.rst ∧ (s.dma fn k a d).svc = s.svc ∧
    (s.dma fn k a d).tap = s.tap :=
  ⟨State.dma_keeps State.pending (fun _ _ _ => rfl) s fn k a d,
    State.dma_keeps State.free (fun _ _ _ => rfl) s fn k a d,
    State.dma_keeps State.assured (fun _ _ _ => rfl) s fn k a d,
    State.dma_keeps State.nextFrame (fun _ _ _ => rfl) s fn k a d,
    State.dma_keeps State.regs (fun _ _ _ => rfl) s fn k a d,
    State.dma_keeps State.ctr (fun _ _ _ => rfl) s fn k a d,
    State.dma_keeps State.coh (fun _ _ _ => rfl) s fn k a d,
    State.dma_keeps State.snap (fun _ _ _ => rfl) s fn k a d,
    State.dma_keeps State.tb (fun _ _ _ => rfl) s fn k a d,
    State.dma_keeps State.stp (fun _ _ _ => rfl) s fn k a d,
    State.dma_keeps State.ldg (fun _ _ _ => rfl) s fn k a d,
    State.dma_keeps State.mrg (fun _ _ _ => rfl) s fn k a d,
    State.dma_keeps State.rel (fun _ _ _ => rfl) s fn k a d,
    State.dma_keeps State.ports (fun _ _ _ => rfl) s fn k a d,
    State.dma_keeps State.lanes (fun _ _ _ => rfl) s fn k a d,
    State.dma_keeps State.slices (fun _ _ _ => rfl) s fn k a d,
    State.dma_keeps State.flow (fun _ _ _ => rfl) s fn k a d,
    State.dma_keeps State.tm (fun _ _ _ => rfl) s fn k a d,
    State.dma_keeps State.eng (fun _ _ _ => rfl) s fn k a d,
    State.dma_keeps State.qm (fun _ _ _ => rfl) s fn k a d,
    State.dma_keeps State.mgt (fun _ _ _ => rfl) s fn k a d,
    State.dma_keeps State.nvm (fun _ _ _ => rfl) s fn k a d,
    State.dma_keeps State.evr (fun _ _ _ => rfl) s fn k a d,
    State.dma_keeps State.tel (fun _ _ _ => rfl) s fn k a d,
    State.dma_keeps State.clk (fun _ _ _ => rfl) s fn k a d,
    State.dma_keeps State.pwr (fun _ _ _ => rfl) s fn k a d,
    State.dma_keeps State.rst (fun _ _ _ => rfl) s fn k a d,
    State.dma_keeps State.svc (fun _ _ _ => rfl) s fn k a d,
    State.dma_keeps State.tap (fun _ _ _ => rfl) s fn k a d⟩

theorem State.msix_keeps {β : Sort _} (obs : State → β)
    (h : ∀ (s : State) x0 x1 x2, obs { s with out := x0, hif := x1, qm := x2 } = obs s)
    (s : State) (fn v : Nat) : obs (s.msix fn v) = obs s := by
  unfold State.msix
  try dsimp only
  repeat' split
  all_goals try simp only [State.modFn_keeps obs (fun s x0 => h s s.out s.hif x0), State.post_keeps obs (fun s x0 x1 => h s x0 x1 s.qm)]
  all_goals iterate 4 first
    | done
    | rfl
    | (refine (h _ _ _ _).trans ?_; try simp only [State.modFn_keeps obs (fun s x0 => h s s.out s.hif x0), State.post_keeps obs (fun s x0 x1 => h s x0 x1 s.qm)])

/-- A message changes only the host link, its function and what has left the block. -/
@[simp] theorem State.msix_frame (s : State) (fn v : Nat) :
    (s.msix fn v).pending = s.pending ∧ (s.msix fn v).free = s.free ∧ (s.msix fn v).assured = s.assured ∧ (s.msix fn v).nextFrame = s.nextFrame ∧
    (s.msix fn v).regs = s.regs ∧ (s.msix fn v).ctr = s.ctr ∧ (s.msix fn v).coh = s.coh ∧ (s.msix fn v).snap = s.snap ∧
    (s.msix fn v).tb = s.tb ∧ (s.msix fn v).stp = s.stp ∧ (s.msix fn v).ldg = s.ldg ∧ (s.msix fn v).mrg = s.mrg ∧
    (s.msix fn v).rel = s.rel ∧ (s.msix fn v).ports = s.ports ∧ (s.msix fn v).lanes = s.lanes ∧ (s.msix fn v).slices = s.slices ∧
    (s.msix fn v).flow = s.flow ∧ (s.msix fn v).tm = s.tm ∧ (s.msix fn v).eng = s.eng ∧ (s.msix fn v).mgt = s.mgt ∧
    (s.msix fn v).nvm = s.nvm ∧ (s.msix fn v).evr = s.evr ∧ (s.msix fn v).tel = s.tel ∧ (s.msix fn v).clk = s.clk ∧
    (s.msix fn v).pwr = s.pwr ∧ (s.msix fn v).rst = s.rst ∧ (s.msix fn v).svc = s.svc ∧ (s.msix fn v).tap = s.tap :=
  ⟨State.msix_keeps State.pending (fun _ _ _ _ => rfl) s fn v,
    State.msix_keeps State.free (fun _ _ _ _ => rfl) s fn v,
    State.msix_keeps State.assured (fun _ _ _ _ => rfl) s fn v,
    State.msix_keeps State.nextFrame (fun _ _ _ _ => rfl) s fn v,
    State.msix_keeps State.regs (fun _ _ _ _ => rfl) s fn v,
    State.msix_keeps State.ctr (fun _ _ _ _ => rfl) s fn v,
    State.msix_keeps State.coh (fun _ _ _ _ => rfl) s fn v,
    State.msix_keeps State.snap (fun _ _ _ _ => rfl) s fn v,
    State.msix_keeps State.tb (fun _ _ _ _ => rfl) s fn v,
    State.msix_keeps State.stp (fun _ _ _ _ => rfl) s fn v,
    State.msix_keeps State.ldg (fun _ _ _ _ => rfl) s fn v,
    State.msix_keeps State.mrg (fun _ _ _ _ => rfl) s fn v,
    State.msix_keeps State.rel (fun _ _ _ _ => rfl) s fn v,
    State.msix_keeps State.ports (fun _ _ _ _ => rfl) s fn v,
    State.msix_keeps State.lanes (fun _ _ _ _ => rfl) s fn v,
    State.msix_keeps State.slices (fun _ _ _ _ => rfl) s fn v,
    State.msix_keeps State.flow (fun _ _ _ _ => rfl) s fn v,
    State.msix_keeps State.tm (fun _ _ _ _ => rfl) s fn v,
    State.msix_keeps State.eng (fun _ _ _ _ => rfl) s fn v,
    State.msix_keeps State.mgt (fun _ _ _ _ => rfl) s fn v,
    State.msix_keeps State.nvm (fun _ _ _ _ => rfl) s fn v,
    State.msix_keeps State.evr (fun _ _ _ _ => rfl) s fn v,
    State.msix_keeps State.tel (fun _ _ _ _ => rfl) s fn v,
    State.msix_keeps State.clk (fun _ _ _ _ => rfl) s fn v,
    State.msix_keeps State.pwr (fun _ _ _ _ => rfl) s fn v,
    State.msix_keeps State.rst (fun _ _ _ _ => rfl) s fn v,
    State.msix_keeps State.svc (fun _ _ _ _ => rfl) s fn v,
    State.msix_keeps State.tap (fun _ _ _ _ => rfl) s fn v⟩

theorem State.writeBack_keeps {β : Sort _} (obs : State → β)
    (h : ∀ (s : State) x0 x1, obs { s with out := x0, hif := x1 } = obs s)
    (s : State) (fn : Nat) (v : Option Nat) (b st : Nat) (l : List (Nat × Bytes)) : obs (s.writeBack fn v b st l) = obs s :=
  (foldl_keeps obs _ (fun _ _ => State.dmaTo_keeps obs h _ _ _ _ _ _) _ _).trans
    (State.dmaTo_keeps obs h s _ _ _ _ _)

/-- A write-back changes only the host link and what has left the block. -/
@[simp] theorem State.writeBack_frame (s : State) (fn : Nat) (v : Option Nat) (b st : Nat) (l : List (Nat × Bytes)) :
    (s.writeBack fn v b st l).pending = s.pending ∧ (s.writeBack fn v b st l).free = s.free ∧ (s.writeBack fn v b st l).assured = s.assured ∧ (s.writeBack fn v b st l).nextFrame = s.nextFrame ∧
    (s.writeBack fn v b st l).regs = s.regs ∧ (s.writeBack fn v b st l).ctr = s.ctr ∧ (s.writeBack fn v b st l).coh = s.coh ∧ (s.writeBack fn v b st l).snap = s.snap ∧
    (s.writeBack fn v b st l).tb = s.tb ∧ (s.writeBack fn v b st l).stp = s.stp ∧ (s.writeBack fn v b st l).ldg = s.ldg ∧ (s.writeBack fn v b st l).mrg = s.mrg ∧
    (s.writeBack fn v b st l).rel = s.rel ∧ (s.writeBack fn v b st l).ports = s.ports ∧ (s.writeBack fn v b st l).lanes = s.lanes ∧ (s.writeBack fn v b st l).slices = s.slices ∧
    (s.writeBack fn v b st l).flow = s.flow ∧ (s.writeBack fn v b st l).tm = s.tm ∧ (s.writeBack fn v b st l).eng = s.eng ∧ (s.writeBack fn v b st l).qm = s.qm ∧
    (s.writeBack fn v b st l).mgt = s.mgt ∧ (s.writeBack fn v b st l).nvm = s.nvm ∧ (s.writeBack fn v b st l).evr = s.evr ∧ (s.writeBack fn v b st l).tel = s.tel ∧
    (s.writeBack fn v b st l).clk = s.clk ∧ (s.writeBack fn v b st l).pwr = s.pwr ∧ (s.writeBack fn v b st l).rst = s.rst ∧ (s.writeBack fn v b st l).svc = s.svc ∧
    (s.writeBack fn v b st l).tap = s.tap :=
  ⟨State.writeBack_keeps State.pending (fun _ _ _ => rfl) s fn v b st l,
    State.writeBack_keeps State.free (fun _ _ _ => rfl) s fn v b st l,
    State.writeBack_keeps State.assured (fun _ _ _ => rfl) s fn v b st l,
    State.writeBack_keeps State.nextFrame (fun _ _ _ => rfl) s fn v b st l,
    State.writeBack_keeps State.regs (fun _ _ _ => rfl) s fn v b st l,
    State.writeBack_keeps State.ctr (fun _ _ _ => rfl) s fn v b st l,
    State.writeBack_keeps State.coh (fun _ _ _ => rfl) s fn v b st l,
    State.writeBack_keeps State.snap (fun _ _ _ => rfl) s fn v b st l,
    State.writeBack_keeps State.tb (fun _ _ _ => rfl) s fn v b st l,
    State.writeBack_keeps State.stp (fun _ _ _ => rfl) s fn v b st l,
    State.writeBack_keeps State.ldg (fun _ _ _ => rfl) s fn v b st l,
    State.writeBack_keeps State.mrg (fun _ _ _ => rfl) s fn v b st l,
    State.writeBack_keeps State.rel (fun _ _ _ => rfl) s fn v b st l,
    State.writeBack_keeps State.ports (fun _ _ _ => rfl) s fn v b st l,
    State.writeBack_keeps State.lanes (fun _ _ _ => rfl) s fn v b st l,
    State.writeBack_keeps State.slices (fun _ _ _ => rfl) s fn v b st l,
    State.writeBack_keeps State.flow (fun _ _ _ => rfl) s fn v b st l,
    State.writeBack_keeps State.tm (fun _ _ _ => rfl) s fn v b st l,
    State.writeBack_keeps State.eng (fun _ _ _ => rfl) s fn v b st l,
    State.writeBack_keeps State.qm (fun _ _ _ => rfl) s fn v b st l,
    State.writeBack_keeps State.mgt (fun _ _ _ => rfl) s fn v b st l,
    State.writeBack_keeps State.nvm (fun _ _ _ => rfl) s fn v b st l,
    State.writeBack_keeps State.evr (fun _ _ _ => rfl) s fn v b st l,
    State.writeBack_keeps State.tel (fun _ _ _ => rfl) s fn v b st l,
    State.writeBack_keeps State.clk (fun _ _ _ => rfl) s fn v b st l,
    State.writeBack_keeps State.pwr (fun _ _ _ => rfl) s fn v b st l,
    State.writeBack_keeps State.rst (fun _ _ _ => rfl) s fn v b st l,
    State.writeBack_keeps State.svc (fun _ _ _ => rfl) s fn v b st l,
    State.writeBack_keeps State.tap (fun _ _ _ => rfl) s fn v b st l⟩

theorem State.adminHb_keeps {β : Sort _} (obs : State → β)
    (h : ∀ (s : State) x0 x1, obs { s with out := x0, hif := x1 } = obs s)
    (s : State) (fn : Nat) : obs (s.adminHb fn) = obs s := by
  unfold State.adminHb
  try dsimp only
  repeat' split
  all_goals try simp only [State.dropWaitingHead_keeps obs (fun s x0 => h s s.out x0), State.dma_keeps obs (fun s x0 x1 => h s x0 x1)]
  all_goals iterate 4 first
    | done
    | rfl
    | (refine (h _ _ _).trans ?_; try simp only [State.dropWaitingHead_keeps obs (fun s x0 => h s s.out x0), State.dma_keeps obs (fun s x0 x1 => h s x0 x1)])

/-- A head block changes only the host link and what has left the block. -/
@[simp] theorem State.adminHb_frame (s : State) (fn : Nat) :
    (s.adminHb fn).pending = s.pending ∧ (s.adminHb fn).free = s.free ∧ (s.adminHb fn).assured = s.assured ∧ (s.adminHb fn).nextFrame = s.nextFrame ∧
    (s.adminHb fn).regs = s.regs ∧ (s.adminHb fn).ctr = s.ctr ∧ (s.adminHb fn).coh = s.coh ∧ (s.adminHb fn).snap = s.snap ∧
    (s.adminHb fn).tb = s.tb ∧ (s.adminHb fn).stp = s.stp ∧ (s.adminHb fn).ldg = s.ldg ∧ (s.adminHb fn).mrg = s.mrg ∧
    (s.adminHb fn).rel = s.rel ∧ (s.adminHb fn).ports = s.ports ∧ (s.adminHb fn).lanes = s.lanes ∧ (s.adminHb fn).slices = s.slices ∧
    (s.adminHb fn).flow = s.flow ∧ (s.adminHb fn).tm = s.tm ∧ (s.adminHb fn).eng = s.eng ∧ (s.adminHb fn).qm = s.qm ∧
    (s.adminHb fn).mgt = s.mgt ∧ (s.adminHb fn).nvm = s.nvm ∧ (s.adminHb fn).evr = s.evr ∧ (s.adminHb fn).tel = s.tel ∧
    (s.adminHb fn).clk = s.clk ∧ (s.adminHb fn).pwr = s.pwr ∧ (s.adminHb fn).rst = s.rst ∧ (s.adminHb fn).svc = s.svc ∧
    (s.adminHb fn).tap = s.tap :=
  ⟨State.adminHb_keeps State.pending (fun _ _ _ => rfl) s fn,
    State.adminHb_keeps State.free (fun _ _ _ => rfl) s fn,
    State.adminHb_keeps State.assured (fun _ _ _ => rfl) s fn,
    State.adminHb_keeps State.nextFrame (fun _ _ _ => rfl) s fn,
    State.adminHb_keeps State.regs (fun _ _ _ => rfl) s fn,
    State.adminHb_keeps State.ctr (fun _ _ _ => rfl) s fn,
    State.adminHb_keeps State.coh (fun _ _ _ => rfl) s fn,
    State.adminHb_keeps State.snap (fun _ _ _ => rfl) s fn,
    State.adminHb_keeps State.tb (fun _ _ _ => rfl) s fn,
    State.adminHb_keeps State.stp (fun _ _ _ => rfl) s fn,
    State.adminHb_keeps State.ldg (fun _ _ _ => rfl) s fn,
    State.adminHb_keeps State.mrg (fun _ _ _ => rfl) s fn,
    State.adminHb_keeps State.rel (fun _ _ _ => rfl) s fn,
    State.adminHb_keeps State.ports (fun _ _ _ => rfl) s fn,
    State.adminHb_keeps State.lanes (fun _ _ _ => rfl) s fn,
    State.adminHb_keeps State.slices (fun _ _ _ => rfl) s fn,
    State.adminHb_keeps State.flow (fun _ _ _ => rfl) s fn,
    State.adminHb_keeps State.tm (fun _ _ _ => rfl) s fn,
    State.adminHb_keeps State.eng (fun _ _ _ => rfl) s fn,
    State.adminHb_keeps State.qm (fun _ _ _ => rfl) s fn,
    State.adminHb_keeps State.mgt (fun _ _ _ => rfl) s fn,
    State.adminHb_keeps State.nvm (fun _ _ _ => rfl) s fn,
    State.adminHb_keeps State.evr (fun _ _ _ => rfl) s fn,
    State.adminHb_keeps State.tel (fun _ _ _ => rfl) s fn,
    State.adminHb_keeps State.clk (fun _ _ _ => rfl) s fn,
    State.adminHb_keeps State.pwr (fun _ _ _ => rfl) s fn,
    State.adminHb_keeps State.rst (fun _ _ _ => rfl) s fn,
    State.adminHb_keeps State.svc (fun _ _ _ => rfl) s fn,
    State.adminHb_keeps State.tap (fun _ _ _ => rfl) s fn⟩

theorem State.adminHead_keeps {β : Sort _} (obs : State → β)
    (h : ∀ (s : State) x0 x1 x2, obs { s with out := x0, hif := x1, qm := x2 } = obs s)
    (s : State) (fn : Nat) : obs (s.adminHead fn) = obs s := by
  unfold State.adminHead
  try dsimp only
  repeat' split
  all_goals try simp only [State.adminHb_keeps obs (fun s x0 x1 => h s x0 x1 s.qm), State.msix_keeps obs (fun s x0 x1 x2 => h s x0 x1 x2)]
  all_goals iterate 4 first
    | done
    | rfl
    | (refine (h _ _ _ _).trans ?_; try simp only [State.adminHb_keeps obs (fun s x0 x1 => h s x0 x1 s.qm), State.msix_keeps obs (fun s x0 x1 x2 => h s x0 x1 x2)])

/-- A head block changes only the host link, its function and what has left the block. -/
@[simp] theorem State.adminHead_frame (s : State) (fn : Nat) :
    (s.adminHead fn).pending = s.pending ∧ (s.adminHead fn).free = s.free ∧ (s.adminHead fn).assured = s.assured ∧ (s.adminHead fn).nextFrame = s.nextFrame ∧
    (s.adminHead fn).regs = s.regs ∧ (s.adminHead fn).ctr = s.ctr ∧ (s.adminHead fn).coh = s.coh ∧ (s.adminHead fn).snap = s.snap ∧
    (s.adminHead fn).tb = s.tb ∧ (s.adminHead fn).stp = s.stp ∧ (s.adminHead fn).ldg = s.ldg ∧ (s.adminHead fn).mrg = s.mrg ∧
    (s.adminHead fn).rel = s.rel ∧ (s.adminHead fn).ports = s.ports ∧ (s.adminHead fn).lanes = s.lanes ∧ (s.adminHead fn).slices = s.slices ∧
    (s.adminHead fn).flow = s.flow ∧ (s.adminHead fn).tm = s.tm ∧ (s.adminHead fn).eng = s.eng ∧ (s.adminHead fn).mgt = s.mgt ∧
    (s.adminHead fn).nvm = s.nvm ∧ (s.adminHead fn).evr = s.evr ∧ (s.adminHead fn).tel = s.tel ∧ (s.adminHead fn).clk = s.clk ∧
    (s.adminHead fn).pwr = s.pwr ∧ (s.adminHead fn).rst = s.rst ∧ (s.adminHead fn).svc = s.svc ∧ (s.adminHead fn).tap = s.tap :=
  ⟨State.adminHead_keeps State.pending (fun _ _ _ _ => rfl) s fn,
    State.adminHead_keeps State.free (fun _ _ _ _ => rfl) s fn,
    State.adminHead_keeps State.assured (fun _ _ _ _ => rfl) s fn,
    State.adminHead_keeps State.nextFrame (fun _ _ _ _ => rfl) s fn,
    State.adminHead_keeps State.regs (fun _ _ _ _ => rfl) s fn,
    State.adminHead_keeps State.ctr (fun _ _ _ _ => rfl) s fn,
    State.adminHead_keeps State.coh (fun _ _ _ _ => rfl) s fn,
    State.adminHead_keeps State.snap (fun _ _ _ _ => rfl) s fn,
    State.adminHead_keeps State.tb (fun _ _ _ _ => rfl) s fn,
    State.adminHead_keeps State.stp (fun _ _ _ _ => rfl) s fn,
    State.adminHead_keeps State.ldg (fun _ _ _ _ => rfl) s fn,
    State.adminHead_keeps State.mrg (fun _ _ _ _ => rfl) s fn,
    State.adminHead_keeps State.rel (fun _ _ _ _ => rfl) s fn,
    State.adminHead_keeps State.ports (fun _ _ _ _ => rfl) s fn,
    State.adminHead_keeps State.lanes (fun _ _ _ _ => rfl) s fn,
    State.adminHead_keeps State.slices (fun _ _ _ _ => rfl) s fn,
    State.adminHead_keeps State.flow (fun _ _ _ _ => rfl) s fn,
    State.adminHead_keeps State.tm (fun _ _ _ _ => rfl) s fn,
    State.adminHead_keeps State.eng (fun _ _ _ _ => rfl) s fn,
    State.adminHead_keeps State.mgt (fun _ _ _ _ => rfl) s fn,
    State.adminHead_keeps State.nvm (fun _ _ _ _ => rfl) s fn,
    State.adminHead_keeps State.evr (fun _ _ _ _ => rfl) s fn,
    State.adminHead_keeps State.tel (fun _ _ _ _ => rfl) s fn,
    State.adminHead_keeps State.clk (fun _ _ _ _ => rfl) s fn,
    State.adminHead_keeps State.pwr (fun _ _ _ _ => rfl) s fn,
    State.adminHead_keeps State.rst (fun _ _ _ _ => rfl) s fn,
    State.adminHead_keeps State.svc (fun _ _ _ _ => rfl) s fn,
    State.adminHead_keeps State.tap (fun _ _ _ _ => rfl) s fn⟩

theorem State.adminDone_keeps {β : Sort _} (obs : State → β)
    (h : ∀ (s : State) x0 x1 x2, obs { s with out := x0, hif := x1, qm := x2 } = obs s)
    (s : State) (t : AdminTok) (st : Nat) (l : List (Nat × Bytes)) : obs (s.adminDone t st l) = obs s := by
  unfold State.adminDone
  try dsimp only
  repeat' split
  all_goals try simp only [State.writeBack_keeps obs (fun s x0 x1 => h s x0 x1 s.qm), State.modFn_keeps obs (fun s x0 => h s s.out s.hif x0), State.adminHead_keeps obs (fun s x0 x1 x2 => h s x0 x1 x2)]
  all_goals iterate 4 first
    | done
    | rfl
    | (refine (h _ _ _ _).trans ?_; try simp only [State.writeBack_keeps obs (fun s x0 x1 => h s x0 x1 s.qm), State.modFn_keeps obs (fun s x0 => h s s.out s.hif x0), State.adminHead_keeps obs (fun s x0 x1 x2 => h s x0 x1 x2)])

/-- A completion changes only the host link, its function and what has left the block. -/
@[simp] theorem State.adminDone_frame (s : State) (t : AdminTok) (st : Nat) (l : List (Nat × Bytes)) :
    (s.adminDone t st l).pending = s.pending ∧ (s.adminDone t st l).free = s.free ∧ (s.adminDone t st l).assured = s.assured ∧ (s.adminDone t st l).nextFrame = s.nextFrame ∧
    (s.adminDone t st l).regs = s.regs ∧ (s.adminDone t st l).ctr = s.ctr ∧ (s.adminDone t st l).coh = s.coh ∧ (s.adminDone t st l).snap = s.snap ∧
    (s.adminDone t st l).tb = s.tb ∧ (s.adminDone t st l).stp = s.stp ∧ (s.adminDone t st l).ldg = s.ldg ∧ (s.adminDone t st l).mrg = s.mrg ∧
    (s.adminDone t st l).rel = s.rel ∧ (s.adminDone t st l).ports = s.ports ∧ (s.adminDone t st l).lanes = s.lanes ∧ (s.adminDone t st l).slices = s.slices ∧
    (s.adminDone t st l).flow = s.flow ∧ (s.adminDone t st l).tm = s.tm ∧ (s.adminDone t st l).eng = s.eng ∧ (s.adminDone t st l).mgt = s.mgt ∧
    (s.adminDone t st l).nvm = s.nvm ∧ (s.adminDone t st l).evr = s.evr ∧ (s.adminDone t st l).tel = s.tel ∧ (s.adminDone t st l).clk = s.clk ∧
    (s.adminDone t st l).pwr = s.pwr ∧ (s.adminDone t st l).rst = s.rst ∧ (s.adminDone t st l).svc = s.svc ∧ (s.adminDone t st l).tap = s.tap :=
  ⟨State.adminDone_keeps State.pending (fun _ _ _ _ => rfl) s t st l,
    State.adminDone_keeps State.free (fun _ _ _ _ => rfl) s t st l,
    State.adminDone_keeps State.assured (fun _ _ _ _ => rfl) s t st l,
    State.adminDone_keeps State.nextFrame (fun _ _ _ _ => rfl) s t st l,
    State.adminDone_keeps State.regs (fun _ _ _ _ => rfl) s t st l,
    State.adminDone_keeps State.ctr (fun _ _ _ _ => rfl) s t st l,
    State.adminDone_keeps State.coh (fun _ _ _ _ => rfl) s t st l,
    State.adminDone_keeps State.snap (fun _ _ _ _ => rfl) s t st l,
    State.adminDone_keeps State.tb (fun _ _ _ _ => rfl) s t st l,
    State.adminDone_keeps State.stp (fun _ _ _ _ => rfl) s t st l,
    State.adminDone_keeps State.ldg (fun _ _ _ _ => rfl) s t st l,
    State.adminDone_keeps State.mrg (fun _ _ _ _ => rfl) s t st l,
    State.adminDone_keeps State.rel (fun _ _ _ _ => rfl) s t st l,
    State.adminDone_keeps State.ports (fun _ _ _ _ => rfl) s t st l,
    State.adminDone_keeps State.lanes (fun _ _ _ _ => rfl) s t st l,
    State.adminDone_keeps State.slices (fun _ _ _ _ => rfl) s t st l,
    State.adminDone_keeps State.flow (fun _ _ _ _ => rfl) s t st l,
    State.adminDone_keeps State.tm (fun _ _ _ _ => rfl) s t st l,
    State.adminDone_keeps State.eng (fun _ _ _ _ => rfl) s t st l,
    State.adminDone_keeps State.mgt (fun _ _ _ _ => rfl) s t st l,
    State.adminDone_keeps State.nvm (fun _ _ _ _ => rfl) s t st l,
    State.adminDone_keeps State.evr (fun _ _ _ _ => rfl) s t st l,
    State.adminDone_keeps State.tel (fun _ _ _ _ => rfl) s t st l,
    State.adminDone_keeps State.clk (fun _ _ _ _ => rfl) s t st l,
    State.adminDone_keeps State.pwr (fun _ _ _ _ => rfl) s t st l,
    State.adminDone_keeps State.rst (fun _ _ _ _ => rfl) s t st l,
    State.adminDone_keeps State.svc (fun _ _ _ _ => rfl) s t st l,
    State.adminDone_keeps State.tap (fun _ _ _ _ => rfl) s t st l⟩

theorem State.doneIf_keeps {β : Sort _} (obs : State → β)
    (h : ∀ (s : State) x0 x1 x2, obs { s with out := x0, hif := x1, qm := x2 } = obs s)
    (s : State) (t : Option AdminTok) (st : Nat) (l : List (Nat × Bytes)) : obs (s.doneIf t st l) = obs s := by
  unfold State.doneIf
  try dsimp only
  repeat' split
  all_goals try simp only [State.adminDone_keeps obs (fun s x0 x1 x2 => h s x0 x1 x2)]
  all_goals iterate 4 first
    | done
    | rfl
    | (refine (h _ _ _ _).trans ?_; try simp only [State.adminDone_keeps obs (fun s x0 x1 x2 => h s x0 x1 x2)])

/-- A completion changes only the host link, its function and what has left the block. -/
@[simp] theorem State.doneIf_frame (s : State) (t : Option AdminTok) (st : Nat) (l : List (Nat × Bytes)) :
    (s.doneIf t st l).pending = s.pending ∧ (s.doneIf t st l).free = s.free ∧ (s.doneIf t st l).assured = s.assured ∧ (s.doneIf t st l).nextFrame = s.nextFrame ∧
    (s.doneIf t st l).regs = s.regs ∧ (s.doneIf t st l).ctr = s.ctr ∧ (s.doneIf t st l).coh = s.coh ∧ (s.doneIf t st l).snap = s.snap ∧
    (s.doneIf t st l).tb = s.tb ∧ (s.doneIf t st l).stp = s.stp ∧ (s.doneIf t st l).ldg = s.ldg ∧ (s.doneIf t st l).mrg = s.mrg ∧
    (s.doneIf t st l).rel = s.rel ∧ (s.doneIf t st l).ports = s.ports ∧ (s.doneIf t st l).lanes = s.lanes ∧ (s.doneIf t st l).slices = s.slices ∧
    (s.doneIf t st l).flow = s.flow ∧ (s.doneIf t st l).tm = s.tm ∧ (s.doneIf t st l).eng = s.eng ∧ (s.doneIf t st l).mgt = s.mgt ∧
    (s.doneIf t st l).nvm = s.nvm ∧ (s.doneIf t st l).evr = s.evr ∧ (s.doneIf t st l).tel = s.tel ∧ (s.doneIf t st l).clk = s.clk ∧
    (s.doneIf t st l).pwr = s.pwr ∧ (s.doneIf t st l).rst = s.rst ∧ (s.doneIf t st l).svc = s.svc ∧ (s.doneIf t st l).tap = s.tap :=
  ⟨State.doneIf_keeps State.pending (fun _ _ _ _ => rfl) s t st l,
    State.doneIf_keeps State.free (fun _ _ _ _ => rfl) s t st l,
    State.doneIf_keeps State.assured (fun _ _ _ _ => rfl) s t st l,
    State.doneIf_keeps State.nextFrame (fun _ _ _ _ => rfl) s t st l,
    State.doneIf_keeps State.regs (fun _ _ _ _ => rfl) s t st l,
    State.doneIf_keeps State.ctr (fun _ _ _ _ => rfl) s t st l,
    State.doneIf_keeps State.coh (fun _ _ _ _ => rfl) s t st l,
    State.doneIf_keeps State.snap (fun _ _ _ _ => rfl) s t st l,
    State.doneIf_keeps State.tb (fun _ _ _ _ => rfl) s t st l,
    State.doneIf_keeps State.stp (fun _ _ _ _ => rfl) s t st l,
    State.doneIf_keeps State.ldg (fun _ _ _ _ => rfl) s t st l,
    State.doneIf_keeps State.mrg (fun _ _ _ _ => rfl) s t st l,
    State.doneIf_keeps State.rel (fun _ _ _ _ => rfl) s t st l,
    State.doneIf_keeps State.ports (fun _ _ _ _ => rfl) s t st l,
    State.doneIf_keeps State.lanes (fun _ _ _ _ => rfl) s t st l,
    State.doneIf_keeps State.slices (fun _ _ _ _ => rfl) s t st l,
    State.doneIf_keeps State.flow (fun _ _ _ _ => rfl) s t st l,
    State.doneIf_keeps State.tm (fun _ _ _ _ => rfl) s t st l,
    State.doneIf_keeps State.eng (fun _ _ _ _ => rfl) s t st l,
    State.doneIf_keeps State.mgt (fun _ _ _ _ => rfl) s t st l,
    State.doneIf_keeps State.nvm (fun _ _ _ _ => rfl) s t st l,
    State.doneIf_keeps State.evr (fun _ _ _ _ => rfl) s t st l,
    State.doneIf_keeps State.tel (fun _ _ _ _ => rfl) s t st l,
    State.doneIf_keeps State.clk (fun _ _ _ _ => rfl) s t st l,
    State.doneIf_keeps State.pwr (fun _ _ _ _ => rfl) s t st l,
    State.doneIf_keeps State.rst (fun _ _ _ _ => rfl) s t st l,
    State.doneIf_keeps State.svc (fun _ _ _ _ => rfl) s t st l,
    State.doneIf_keeps State.tap (fun _ _ _ _ => rfl) s t st l⟩

theorem State.adminRelease_keeps {β : Sort _} (obs : State → β)
    (h : ∀ (s : State) x0, obs { s with qm := x0 } = obs s)
    (s : State) (r : AdminRef) : obs (s.adminRelease r) = obs s := by
  unfold State.adminRelease
  try dsimp only
  repeat' split
  all_goals try simp only [State.modFn_keeps obs (fun s x0 => h s x0)]
  all_goals iterate 4 first
    | done
    | rfl
    | (refine (h _ _).trans ?_; try simp only [State.modFn_keeps obs (fun s x0 => h s x0)])

/-- Releasing an admin queue changes only the queue structures. -/
@[simp] theorem State.adminRelease_frame (s : State) (r : AdminRef) :
    (s.adminRelease r).pending = s.pending ∧ (s.adminRelease r).free = s.free ∧ (s.adminRelease r).assured = s.assured ∧ (s.adminRelease r).out = s.out ∧
    (s.adminRelease r).nextFrame = s.nextFrame ∧ (s.adminRelease r).regs = s.regs ∧ (s.adminRelease r).ctr = s.ctr ∧ (s.adminRelease r).coh = s.coh ∧
    (s.adminRelease r).snap = s.snap ∧ (s.adminRelease r).tb = s.tb ∧ (s.adminRelease r).stp = s.stp ∧ (s.adminRelease r).ldg = s.ldg ∧
    (s.adminRelease r).mrg = s.mrg ∧ (s.adminRelease r).rel = s.rel ∧ (s.adminRelease r).ports = s.ports ∧ (s.adminRelease r).lanes = s.lanes ∧
    (s.adminRelease r).slices = s.slices ∧ (s.adminRelease r).flow = s.flow ∧ (s.adminRelease r).tm = s.tm ∧ (s.adminRelease r).eng = s.eng ∧
    (s.adminRelease r).hif = s.hif ∧ (s.adminRelease r).mgt = s.mgt ∧ (s.adminRelease r).nvm = s.nvm ∧ (s.adminRelease r).evr = s.evr ∧
    (s.adminRelease r).tel = s.tel ∧ (s.adminRelease r).clk = s.clk ∧ (s.adminRelease r).pwr = s.pwr ∧ (s.adminRelease r).rst = s.rst ∧
    (s.adminRelease r).svc = s.svc ∧ (s.adminRelease r).tap = s.tap :=
  ⟨State.adminRelease_keeps State.pending (fun _ _ => rfl) s r,
    State.adminRelease_keeps State.free (fun _ _ => rfl) s r,
    State.adminRelease_keeps State.assured (fun _ _ => rfl) s r,
    State.adminRelease_keeps State.out (fun _ _ => rfl) s r,
    State.adminRelease_keeps State.nextFrame (fun _ _ => rfl) s r,
    State.adminRelease_keeps State.regs (fun _ _ => rfl) s r,
    State.adminRelease_keeps State.ctr (fun _ _ => rfl) s r,
    State.adminRelease_keeps State.coh (fun _ _ => rfl) s r,
    State.adminRelease_keeps State.snap (fun _ _ => rfl) s r,
    State.adminRelease_keeps State.tb (fun _ _ => rfl) s r,
    State.adminRelease_keeps State.stp (fun _ _ => rfl) s r,
    State.adminRelease_keeps State.ldg (fun _ _ => rfl) s r,
    State.adminRelease_keeps State.mrg (fun _ _ => rfl) s r,
    State.adminRelease_keeps State.rel (fun _ _ => rfl) s r,
    State.adminRelease_keeps State.ports (fun _ _ => rfl) s r,
    State.adminRelease_keeps State.lanes (fun _ _ => rfl) s r,
    State.adminRelease_keeps State.slices (fun _ _ => rfl) s r,
    State.adminRelease_keeps State.flow (fun _ _ => rfl) s r,
    State.adminRelease_keeps State.tm (fun _ _ => rfl) s r,
    State.adminRelease_keeps State.eng (fun _ _ => rfl) s r,
    State.adminRelease_keeps State.hif (fun _ _ => rfl) s r,
    State.adminRelease_keeps State.mgt (fun _ _ => rfl) s r,
    State.adminRelease_keeps State.nvm (fun _ _ => rfl) s r,
    State.adminRelease_keeps State.evr (fun _ _ => rfl) s r,
    State.adminRelease_keeps State.tel (fun _ _ => rfl) s r,
    State.adminRelease_keeps State.clk (fun _ _ => rfl) s r,
    State.adminRelease_keeps State.pwr (fun _ _ => rfl) s r,
    State.adminRelease_keeps State.rst (fun _ _ => rfl) s r,
    State.adminRelease_keeps State.svc (fun _ _ => rfl) s r,
    State.adminRelease_keeps State.tap (fun _ _ => rfl) s r⟩

theorem State.pickFree_keeps {β : Sort _} (obs : State → β)
    (h : ∀ (s : State) x0, obs { s with free := x0 } = obs s)
    (s : State) (b : Nat) (l : List Nat) : obs ((s.pickFree b l).2) = obs s := by
  unfold State.pickFree
  try dsimp only
  repeat' split
  all_goals try simp only [State.draw_keeps obs (fun s x0 => h s x0)]
  all_goals iterate 4 first
    | done
    | rfl
    | (refine (h _ _).trans ?_; try simp only [State.draw_keeps obs (fun s x0 => h s x0)])

/-- A pick changes only the count of draws. -/
@[simp] theorem State.pickFree_frame (s : State) (b : Nat) (l : List Nat) :
    ((s.pickFree b l).2).pending = s.pending ∧ ((s.pickFree b l).2).assured = s.assured ∧ ((s.pickFree b l).2).out = s.out ∧ ((s.pickFree b l).2).nextFrame = s.nextFrame ∧
    ((s.pickFree b l).2).regs = s.regs ∧ ((s.pickFree b l).2).ctr = s.ctr ∧ ((s.pickFree b l).2).coh = s.coh ∧ ((s.pickFree b l).2).snap = s.snap ∧
    ((s.pickFree b l).2).tb = s.tb ∧ ((s.pickFree b l).2).stp = s.stp ∧ ((s.pickFree b l).2).ldg = s.ldg ∧ ((s.pickFree b l).2).mrg = s.mrg ∧
    ((s.pickFree b l).2).rel = s.rel ∧ ((s.pickFree b l).2).ports = s.ports ∧ ((s.pickFree b l).2).lanes = s.lanes ∧ ((s.pickFree b l).2).slices = s.slices ∧
    ((s.pickFree b l).2).flow = s.flow ∧ ((s.pickFree b l).2).tm = s.tm ∧ ((s.pickFree b l).2).eng = s.eng ∧ ((s.pickFree b l).2).hif = s.hif ∧
    ((s.pickFree b l).2).qm = s.qm ∧ ((s.pickFree b l).2).mgt = s.mgt ∧ ((s.pickFree b l).2).nvm = s.nvm ∧ ((s.pickFree b l).2).evr = s.evr ∧
    ((s.pickFree b l).2).tel = s.tel ∧ ((s.pickFree b l).2).clk = s.clk ∧ ((s.pickFree b l).2).pwr = s.pwr ∧ ((s.pickFree b l).2).rst = s.rst ∧
    ((s.pickFree b l).2).svc = s.svc ∧ ((s.pickFree b l).2).tap = s.tap :=
  ⟨State.pickFree_keeps State.pending (fun _ _ => rfl) s b l,
    State.pickFree_keeps State.assured (fun _ _ => rfl) s b l,
    State.pickFree_keeps State.out (fun _ _ => rfl) s b l,
    State.pickFree_keeps State.nextFrame (fun _ _ => rfl) s b l,
    State.pickFree_keeps State.regs (fun _ _ => rfl) s b l,
    State.pickFree_keeps State.ctr (fun _ _ => rfl) s b l,
    State.pickFree_keeps State.coh (fun _ _ => rfl) s b l,
    State.pickFree_keeps State.snap (fun _ _ => rfl) s b l,
    State.pickFree_keeps State.tb (fun _ _ => rfl) s b l,
    State.pickFree_keeps State.stp (fun _ _ => rfl) s b l,
    State.pickFree_keeps State.ldg (fun _ _ => rfl) s b l,
    State.pickFree_keeps State.mrg (fun _ _ => rfl) s b l,
    State.pickFree_keeps State.rel (fun _ _ => rfl) s b l,
    State.pickFree_keeps State.ports (fun _ _ => rfl) s b l,
    State.pickFree_keeps State.lanes (fun _ _ => rfl) s b l,
    State.pickFree_keeps State.slices (fun _ _ => rfl) s b l,
    State.pickFree_keeps State.flow (fun _ _ => rfl) s b l,
    State.pickFree_keeps State.tm (fun _ _ => rfl) s b l,
    State.pickFree_keeps State.eng (fun _ _ => rfl) s b l,
    State.pickFree_keeps State.hif (fun _ _ => rfl) s b l,
    State.pickFree_keeps State.qm (fun _ _ => rfl) s b l,
    State.pickFree_keeps State.mgt (fun _ _ => rfl) s b l,
    State.pickFree_keeps State.nvm (fun _ _ => rfl) s b l,
    State.pickFree_keeps State.evr (fun _ _ => rfl) s b l,
    State.pickFree_keeps State.tel (fun _ _ => rfl) s b l,
    State.pickFree_keeps State.clk (fun _ _ => rfl) s b l,
    State.pickFree_keeps State.pwr (fun _ _ => rfl) s b l,
    State.pickFree_keeps State.rst (fun _ _ => rfl) s b l,
    State.pickFree_keeps State.svc (fun _ _ => rfl) s b l,
    State.pickFree_keeps State.tap (fun _ _ => rfl) s b l⟩

theorem State.holdTag_keeps {β : Sort _} (obs : State → β)
    (h : ∀ (s : State) x0 x1, obs { s with hif := x0, free := x1 } = obs s)
    (s : State) (fn : Nat) (i : ReadItem) (x : Word) (n : Nat) (p : Option Nat) : obs (s.holdTag fn i x n p) = obs s := by
  unfold State.holdTag
  try dsimp only
  repeat' split
  all_goals try simp only [State.pickFree_keeps obs (fun s x0 => h s s.hif x0), State.draw_keeps obs (fun s x0 => h s s.hif x0)]
  all_goals iterate 4 first
    | done
    | rfl
    | (refine (h _ _ _).trans ?_; try simp only [State.pickFree_keeps obs (fun s x0 => h s s.hif x0), State.draw_keeps obs (fun s x0 => h s s.hif x0)])

/-- A request outstanding changes only the host link and the count of draws. -/
@[simp] theorem State.holdTag_frame (s : State) (fn : Nat) (i : ReadItem) (x : Word) (n : Nat) (p : Option Nat) :
    (s.holdTag fn i x n p).pending = s.pending ∧ (s.holdTag fn i x n p).assured = s.assured ∧ (s.holdTag fn i x n p).out = s.out ∧ (s.holdTag fn i x n p).nextFrame = s.nextFrame ∧
    (s.holdTag fn i x n p).regs = s.regs ∧ (s.holdTag fn i x n p).ctr = s.ctr ∧ (s.holdTag fn i x n p).coh = s.coh ∧ (s.holdTag fn i x n p).snap = s.snap ∧
    (s.holdTag fn i x n p).tb = s.tb ∧ (s.holdTag fn i x n p).stp = s.stp ∧ (s.holdTag fn i x n p).ldg = s.ldg ∧ (s.holdTag fn i x n p).mrg = s.mrg ∧
    (s.holdTag fn i x n p).rel = s.rel ∧ (s.holdTag fn i x n p).ports = s.ports ∧ (s.holdTag fn i x n p).lanes = s.lanes ∧ (s.holdTag fn i x n p).slices = s.slices ∧
    (s.holdTag fn i x n p).flow = s.flow ∧ (s.holdTag fn i x n p).tm = s.tm ∧ (s.holdTag fn i x n p).eng = s.eng ∧ (s.holdTag fn i x n p).qm = s.qm ∧
    (s.holdTag fn i x n p).mgt = s.mgt ∧ (s.holdTag fn i x n p).nvm = s.nvm ∧ (s.holdTag fn i x n p).evr = s.evr ∧ (s.holdTag fn i x n p).tel = s.tel ∧
    (s.holdTag fn i x n p).clk = s.clk ∧ (s.holdTag fn i x n p).pwr = s.pwr ∧ (s.holdTag fn i x n p).rst = s.rst ∧ (s.holdTag fn i x n p).svc = s.svc ∧
    (s.holdTag fn i x n p).tap = s.tap :=
  ⟨State.holdTag_keeps State.pending (fun _ _ _ => rfl) s fn i x n p,
    State.holdTag_keeps State.assured (fun _ _ _ => rfl) s fn i x n p,
    State.holdTag_keeps State.out (fun _ _ _ => rfl) s fn i x n p,
    State.holdTag_keeps State.nextFrame (fun _ _ _ => rfl) s fn i x n p,
    State.holdTag_keeps State.regs (fun _ _ _ => rfl) s fn i x n p,
    State.holdTag_keeps State.ctr (fun _ _ _ => rfl) s fn i x n p,
    State.holdTag_keeps State.coh (fun _ _ _ => rfl) s fn i x n p,
    State.holdTag_keeps State.snap (fun _ _ _ => rfl) s fn i x n p,
    State.holdTag_keeps State.tb (fun _ _ _ => rfl) s fn i x n p,
    State.holdTag_keeps State.stp (fun _ _ _ => rfl) s fn i x n p,
    State.holdTag_keeps State.ldg (fun _ _ _ => rfl) s fn i x n p,
    State.holdTag_keeps State.mrg (fun _ _ _ => rfl) s fn i x n p,
    State.holdTag_keeps State.rel (fun _ _ _ => rfl) s fn i x n p,
    State.holdTag_keeps State.ports (fun _ _ _ => rfl) s fn i x n p,
    State.holdTag_keeps State.lanes (fun _ _ _ => rfl) s fn i x n p,
    State.holdTag_keeps State.slices (fun _ _ _ => rfl) s fn i x n p,
    State.holdTag_keeps State.flow (fun _ _ _ => rfl) s fn i x n p,
    State.holdTag_keeps State.tm (fun _ _ _ => rfl) s fn i x n p,
    State.holdTag_keeps State.eng (fun _ _ _ => rfl) s fn i x n p,
    State.holdTag_keeps State.qm (fun _ _ _ => rfl) s fn i x n p,
    State.holdTag_keeps State.mgt (fun _ _ _ => rfl) s fn i x n p,
    State.holdTag_keeps State.nvm (fun _ _ _ => rfl) s fn i x n p,
    State.holdTag_keeps State.evr (fun _ _ _ => rfl) s fn i x n p,
    State.holdTag_keeps State.tel (fun _ _ _ => rfl) s fn i x n p,
    State.holdTag_keeps State.clk (fun _ _ _ => rfl) s fn i x n p,
    State.holdTag_keeps State.pwr (fun _ _ _ => rfl) s fn i x n p,
    State.holdTag_keeps State.rst (fun _ _ _ => rfl) s fn i x n p,
    State.holdTag_keeps State.svc (fun _ _ _ => rfl) s fn i x n p,
    State.holdTag_keeps State.tap (fun _ _ _ => rfl) s fn i x n p⟩

theorem State.askTranslation_keeps {β : Sort _} (obs : State → β)
    (h : ∀ (s : State) x0 x1 x2, obs { s with out := x0, hif := x1, free := x2 } = obs s)
    (s : State) (fn p : Nat) : obs (s.askTranslation fn p) = obs s := by
  unfold State.askTranslation
  try dsimp only
  repeat' split
  all_goals try simp only [State.holdTag_keeps obs (fun s x0 x1 => h s s.out x0 x1), State.transmit_keeps obs (fun s x0 x1 => h s x0 x1 s.free)]
  all_goals iterate 4 first
    | done
    | rfl
    | (refine (h _ _ _ _).trans ?_; try simp only [State.holdTag_keeps obs (fun s x0 x1 => h s s.out x0 x1), State.transmit_keeps obs (fun s x0 x1 => h s x0 x1 s.free)])

/-- A translation request changes only the host link, the count of draws and what has left the block. -/
@[simp] theorem State.askTranslation_frame (s : State) (fn p : Nat) :
    (s.askTranslation fn p).pending = s.pending ∧ (s.askTranslation fn p).assured = s.assured ∧ (s.askTranslation fn p).nextFrame = s.nextFrame ∧ (s.askTranslation fn p).regs = s.regs ∧
    (s.askTranslation fn p).ctr = s.ctr ∧ (s.askTranslation fn p).coh = s.coh ∧ (s.askTranslation fn p).snap = s.snap ∧ (s.askTranslation fn p).tb = s.tb ∧
    (s.askTranslation fn p).stp = s.stp ∧ (s.askTranslation fn p).ldg = s.ldg ∧ (s.askTranslation fn p).mrg = s.mrg ∧ (s.askTranslation fn p).rel = s.rel ∧
    (s.askTranslation fn p).ports = s.ports ∧ (s.askTranslation fn p).lanes = s.lanes ∧ (s.askTranslation fn p).slices = s.slices ∧ (s.askTranslation fn p).flow = s.flow ∧
    (s.askTranslation fn p).tm = s.tm ∧ (s.askTranslation fn p).eng = s.eng ∧ (s.askTranslation fn p).qm = s.qm ∧ (s.askTranslation fn p).mgt = s.mgt ∧
    (s.askTranslation fn p).nvm = s.nvm ∧ (s.askTranslation fn p).evr = s.evr ∧ (s.askTranslation fn p).tel = s.tel ∧ (s.askTranslation fn p).clk = s.clk ∧
    (s.askTranslation fn p).pwr = s.pwr ∧ (s.askTranslation fn p).rst = s.rst ∧ (s.askTranslation fn p).svc = s.svc ∧ (s.askTranslation fn p).tap = s.tap :=
  ⟨State.askTranslation_keeps State.pending (fun _ _ _ _ => rfl) s fn p,
    State.askTranslation_keeps State.assured (fun _ _ _ _ => rfl) s fn p,
    State.askTranslation_keeps State.nextFrame (fun _ _ _ _ => rfl) s fn p,
    State.askTranslation_keeps State.regs (fun _ _ _ _ => rfl) s fn p,
    State.askTranslation_keeps State.ctr (fun _ _ _ _ => rfl) s fn p,
    State.askTranslation_keeps State.coh (fun _ _ _ _ => rfl) s fn p,
    State.askTranslation_keeps State.snap (fun _ _ _ _ => rfl) s fn p,
    State.askTranslation_keeps State.tb (fun _ _ _ _ => rfl) s fn p,
    State.askTranslation_keeps State.stp (fun _ _ _ _ => rfl) s fn p,
    State.askTranslation_keeps State.ldg (fun _ _ _ _ => rfl) s fn p,
    State.askTranslation_keeps State.mrg (fun _ _ _ _ => rfl) s fn p,
    State.askTranslation_keeps State.rel (fun _ _ _ _ => rfl) s fn p,
    State.askTranslation_keeps State.ports (fun _ _ _ _ => rfl) s fn p,
    State.askTranslation_keeps State.lanes (fun _ _ _ _ => rfl) s fn p,
    State.askTranslation_keeps State.slices (fun _ _ _ _ => rfl) s fn p,
    State.askTranslation_keeps State.flow (fun _ _ _ _ => rfl) s fn p,
    State.askTranslation_keeps State.tm (fun _ _ _ _ => rfl) s fn p,
    State.askTranslation_keeps State.eng (fun _ _ _ _ => rfl) s fn p,
    State.askTranslation_keeps State.qm (fun _ _ _ _ => rfl) s fn p,
    State.askTranslation_keeps State.mgt (fun _ _ _ _ => rfl) s fn p,
    State.askTranslation_keeps State.nvm (fun _ _ _ _ => rfl) s fn p,
    State.askTranslation_keeps State.evr (fun _ _ _ _ => rfl) s fn p,
    State.askTranslation_keeps State.tel (fun _ _ _ _ => rfl) s fn p,
    State.askTranslation_keeps State.clk (fun _ _ _ _ => rfl) s fn p,
    State.askTranslation_keeps State.pwr (fun _ _ _ _ => rfl) s fn p,
    State.askTranslation_keeps State.rst (fun _ _ _ _ => rfl) s fn p,
    State.askTranslation_keeps State.svc (fun _ _ _ _ => rfl) s fn p,
    State.askTranslation_keeps State.tap (fun _ _ _ _ => rfl) s fn p⟩

theorem State.issueRead_keeps {β : Sort _} (obs : State → β)
    (h : ∀ (s : State) x0 x1 x2, obs { s with out := x0, hif := x1, free := x2 } = obs s)
    (s : State) (fn : Nat) (i : ReadItem) (x : Word) (a n : Nat) : obs (s.issueRead fn i x a n) = obs s := by
  unfold State.issueRead
  try dsimp only
  repeat' split
  all_goals try simp only [State.askTranslation_keeps obs (fun s x0 x1 x2 => h s x0 x1 x2), State.holdTag_keeps obs (fun s x0 x1 => h s s.out x0 x1), State.emitRead_keeps obs (fun s x0 x1 => h s x0 x1 s.free)]
  all_goals iterate 4 first
    | done
    | rfl
    | (refine (h _ _ _ _).trans ?_; try simp only [State.askTranslation_keeps obs (fun s x0 x1 x2 => h s x0 x1 x2), State.holdTag_keeps obs (fun s x0 x1 => h s s.out x0 x1), State.emitRead_keeps obs (fun s x0 x1 => h s x0 x1 s.free)])

/-- A read issued changes only the host link, the count of draws and what has left the block. -/
@[simp] theorem State.issueRead_frame (s : State) (fn : Nat) (i : ReadItem) (x : Word) (a n : Nat) :
    (s.issueRead fn i x a n).pending = s.pending ∧ (s.issueRead fn i x a n).assured = s.assured ∧ (s.issueRead fn i x a n).nextFrame = s.nextFrame ∧ (s.issueRead fn i x a n).regs = s.regs ∧
    (s.issueRead fn i x a n).ctr = s.ctr ∧ (s.issueRead fn i x a n).coh = s.coh ∧ (s.issueRead fn i x a n).snap = s.snap ∧ (s.issueRead fn i x a n).tb = s.tb ∧
    (s.issueRead fn i x a n).stp = s.stp ∧ (s.issueRead fn i x a n).ldg = s.ldg ∧ (s.issueRead fn i x a n).mrg = s.mrg ∧ (s.issueRead fn i x a n).rel = s.rel ∧
    (s.issueRead fn i x a n).ports = s.ports ∧ (s.issueRead fn i x a n).lanes = s.lanes ∧ (s.issueRead fn i x a n).slices = s.slices ∧ (s.issueRead fn i x a n).flow = s.flow ∧
    (s.issueRead fn i x a n).tm = s.tm ∧ (s.issueRead fn i x a n).eng = s.eng ∧ (s.issueRead fn i x a n).qm = s.qm ∧ (s.issueRead fn i x a n).mgt = s.mgt ∧
    (s.issueRead fn i x a n).nvm = s.nvm ∧ (s.issueRead fn i x a n).evr = s.evr ∧ (s.issueRead fn i x a n).tel = s.tel ∧ (s.issueRead fn i x a n).clk = s.clk ∧
    (s.issueRead fn i x a n).pwr = s.pwr ∧ (s.issueRead fn i x a n).rst = s.rst ∧ (s.issueRead fn i x a n).svc = s.svc ∧ (s.issueRead fn i x a n).tap = s.tap :=
  ⟨State.issueRead_keeps State.pending (fun _ _ _ _ => rfl) s fn i x a n,
    State.issueRead_keeps State.assured (fun _ _ _ _ => rfl) s fn i x a n,
    State.issueRead_keeps State.nextFrame (fun _ _ _ _ => rfl) s fn i x a n,
    State.issueRead_keeps State.regs (fun _ _ _ _ => rfl) s fn i x a n,
    State.issueRead_keeps State.ctr (fun _ _ _ _ => rfl) s fn i x a n,
    State.issueRead_keeps State.coh (fun _ _ _ _ => rfl) s fn i x a n,
    State.issueRead_keeps State.snap (fun _ _ _ _ => rfl) s fn i x a n,
    State.issueRead_keeps State.tb (fun _ _ _ _ => rfl) s fn i x a n,
    State.issueRead_keeps State.stp (fun _ _ _ _ => rfl) s fn i x a n,
    State.issueRead_keeps State.ldg (fun _ _ _ _ => rfl) s fn i x a n,
    State.issueRead_keeps State.mrg (fun _ _ _ _ => rfl) s fn i x a n,
    State.issueRead_keeps State.rel (fun _ _ _ _ => rfl) s fn i x a n,
    State.issueRead_keeps State.ports (fun _ _ _ _ => rfl) s fn i x a n,
    State.issueRead_keeps State.lanes (fun _ _ _ _ => rfl) s fn i x a n,
    State.issueRead_keeps State.slices (fun _ _ _ _ => rfl) s fn i x a n,
    State.issueRead_keeps State.flow (fun _ _ _ _ => rfl) s fn i x a n,
    State.issueRead_keeps State.tm (fun _ _ _ _ => rfl) s fn i x a n,
    State.issueRead_keeps State.eng (fun _ _ _ _ => rfl) s fn i x a n,
    State.issueRead_keeps State.qm (fun _ _ _ _ => rfl) s fn i x a n,
    State.issueRead_keeps State.mgt (fun _ _ _ _ => rfl) s fn i x a n,
    State.issueRead_keeps State.nvm (fun _ _ _ _ => rfl) s fn i x a n,
    State.issueRead_keeps State.evr (fun _ _ _ _ => rfl) s fn i x a n,
    State.issueRead_keeps State.tel (fun _ _ _ _ => rfl) s fn i x a n,
    State.issueRead_keeps State.clk (fun _ _ _ _ => rfl) s fn i x a n,
    State.issueRead_keeps State.pwr (fun _ _ _ _ => rfl) s fn i x a n,
    State.issueRead_keeps State.rst (fun _ _ _ _ => rfl) s fn i x a n,
    State.issueRead_keeps State.svc (fun _ _ _ _ => rfl) s fn i x a n,
    State.issueRead_keeps State.tap (fun _ _ _ _ => rfl) s fn i x a n⟩

theorem State.issueReads_keeps {β : Sort _} (obs : State → β)
    (h : ∀ (s : State) x0 x1 x2, obs { s with out := x0, hif := x1, free := x2 } = obs s)
    (s : State) (fn : Nat) (i : ReadItem) (l : List (Nat × Nat)) : obs ((State.issueReads fn i l s).2) = obs s := by
  induction l generalizing s with
  | nil => rfl
  | cons p r ih =>
    unfold State.issueReads
    split
    · exact (ih _).trans (State.issueRead_keeps obs h _ _ _ _ _ _)
    · rfl

/-- Reads issued change only the host link, the count of draws and what has left the block. -/
@[simp] theorem State.issueReads_frame (s : State) (fn : Nat) (i : ReadItem) (l : List (Nat × Nat)) :
    ((State.issueReads fn i l s).2).pending = s.pending ∧ ((State.issueReads fn i l s).2).assured = s.assured ∧ ((State.issueReads fn i l s).2).nextFrame = s.nextFrame ∧ ((State.issueReads fn i l s).2).regs = s.regs ∧
    ((State.issueReads fn i l s).2).ctr = s.ctr ∧ ((State.issueReads fn i l s).2).coh = s.coh ∧ ((State.issueReads fn i l s).2).snap = s.snap ∧ ((State.issueReads fn i l s).2).tb = s.tb ∧
    ((State.issueReads fn i l s).2).stp = s.stp ∧ ((State.issueReads fn i l s).2).ldg = s.ldg ∧ ((State.issueReads fn i l s).2).mrg = s.mrg ∧ ((State.issueReads fn i l s).2).rel = s.rel ∧
    ((State.issueReads fn i l s).2).ports = s.ports ∧ ((State.issueReads fn i l s).2).lanes = s.lanes ∧ ((State.issueReads fn i l s).2).slices = s.slices ∧ ((State.issueReads fn i l s).2).flow = s.flow ∧
    ((State.issueReads fn i l s).2).tm = s.tm ∧ ((State.issueReads fn i l s).2).eng = s.eng ∧ ((State.issueReads fn i l s).2).qm = s.qm ∧ ((State.issueReads fn i l s).2).mgt = s.mgt ∧
    ((State.issueReads fn i l s).2).nvm = s.nvm ∧ ((State.issueReads fn i l s).2).evr = s.evr ∧ ((State.issueReads fn i l s).2).tel = s.tel ∧ ((State.issueReads fn i l s).2).clk = s.clk ∧
    ((State.issueReads fn i l s).2).pwr = s.pwr ∧ ((State.issueReads fn i l s).2).rst = s.rst ∧ ((State.issueReads fn i l s).2).svc = s.svc ∧ ((State.issueReads fn i l s).2).tap = s.tap :=
  ⟨State.issueReads_keeps State.pending (fun _ _ _ _ => rfl) s fn i l,
    State.issueReads_keeps State.assured (fun _ _ _ _ => rfl) s fn i l,
    State.issueReads_keeps State.nextFrame (fun _ _ _ _ => rfl) s fn i l,
    State.issueReads_keeps State.regs (fun _ _ _ _ => rfl) s fn i l,
    State.issueReads_keeps State.ctr (fun _ _ _ _ => rfl) s fn i l,
    State.issueReads_keeps State.coh (fun _ _ _ _ => rfl) s fn i l,
    State.issueReads_keeps State.snap (fun _ _ _ _ => rfl) s fn i l,
    State.issueReads_keeps State.tb (fun _ _ _ _ => rfl) s fn i l,
    State.issueReads_keeps State.stp (fun _ _ _ _ => rfl) s fn i l,
    State.issueReads_keeps State.ldg (fun _ _ _ _ => rfl) s fn i l,
    State.issueReads_keeps State.mrg (fun _ _ _ _ => rfl) s fn i l,
    State.issueReads_keeps State.rel (fun _ _ _ _ => rfl) s fn i l,
    State.issueReads_keeps State.ports (fun _ _ _ _ => rfl) s fn i l,
    State.issueReads_keeps State.lanes (fun _ _ _ _ => rfl) s fn i l,
    State.issueReads_keeps State.slices (fun _ _ _ _ => rfl) s fn i l,
    State.issueReads_keeps State.flow (fun _ _ _ _ => rfl) s fn i l,
    State.issueReads_keeps State.tm (fun _ _ _ _ => rfl) s fn i l,
    State.issueReads_keeps State.eng (fun _ _ _ _ => rfl) s fn i l,
    State.issueReads_keeps State.qm (fun _ _ _ _ => rfl) s fn i l,
    State.issueReads_keeps State.mgt (fun _ _ _ _ => rfl) s fn i l,
    State.issueReads_keeps State.nvm (fun _ _ _ _ => rfl) s fn i l,
    State.issueReads_keeps State.evr (fun _ _ _ _ => rfl) s fn i l,
    State.issueReads_keeps State.tel (fun _ _ _ _ => rfl) s fn i l,
    State.issueReads_keeps State.clk (fun _ _ _ _ => rfl) s fn i l,
    State.issueReads_keeps State.pwr (fun _ _ _ _ => rfl) s fn i l,
    State.issueReads_keeps State.rst (fun _ _ _ _ => rfl) s fn i l,
    State.issueReads_keeps State.svc (fun _ _ _ _ => rfl) s fn i l,
    State.issueReads_keeps State.tap (fun _ _ _ _ => rfl) s fn i l⟩

theorem State.startReads_keeps {β : Sort _} (obs : State → β)
    (h : ∀ (s : State) x0 x1 x2, obs { s with out := x0, hif := x1, free := x2 } = obs s)
    (s : State) (fn : Nat) (i : ReadItem) (l : List (Nat × Nat)) : obs (s.startReads fn i l) = obs s := by
  unfold State.startReads
  try dsimp only
  repeat' split
  all_goals try simp only [State.issueReads_keeps obs (fun s x0 x1 x2 => h s x0 x1 x2)]
  all_goals iterate 4 first
    | done
    | rfl
    | (refine (h _ _ _ _).trans ?_; try simp only [State.issueReads_keeps obs (fun s x0 x1 x2 => h s x0 x1 x2)])

/-- Reads started change only the host link, the count of draws and what has left the block. -/
@[simp] theorem State.startReads_frame (s : State) (fn : Nat) (i : ReadItem) (l : List (Nat × Nat)) :
    (s.startReads fn i l).pending = s.pending ∧ (s.startReads fn i l).assured = s.assured ∧ (s.startReads fn i l).nextFrame = s.nextFrame ∧ (s.startReads fn i l).regs = s.regs ∧
    (s.startReads fn i l).ctr = s.ctr ∧ (s.startReads fn i l).coh = s.coh ∧ (s.startReads fn i l).snap = s.snap ∧ (s.startReads fn i l).tb = s.tb ∧
    (s.startReads fn i l).stp = s.stp ∧ (s.startReads fn i l).ldg = s.ldg ∧ (s.startReads fn i l).mrg = s.mrg ∧ (s.startReads fn i l).rel = s.rel ∧
    (s.startReads fn i l).ports = s.ports ∧ (s.startReads fn i l).lanes = s.lanes ∧ (s.startReads fn i l).slices = s.slices ∧ (s.startReads fn i l).flow = s.flow ∧
    (s.startReads fn i l).tm = s.tm ∧ (s.startReads fn i l).eng = s.eng ∧ (s.startReads fn i l).qm = s.qm ∧ (s.startReads fn i l).mgt = s.mgt ∧
    (s.startReads fn i l).nvm = s.nvm ∧ (s.startReads fn i l).evr = s.evr ∧ (s.startReads fn i l).tel = s.tel ∧ (s.startReads fn i l).clk = s.clk ∧
    (s.startReads fn i l).pwr = s.pwr ∧ (s.startReads fn i l).rst = s.rst ∧ (s.startReads fn i l).svc = s.svc ∧ (s.startReads fn i l).tap = s.tap :=
  ⟨State.startReads_keeps State.pending (fun _ _ _ _ => rfl) s fn i l,
    State.startReads_keeps State.assured (fun _ _ _ _ => rfl) s fn i l,
    State.startReads_keeps State.nextFrame (fun _ _ _ _ => rfl) s fn i l,
    State.startReads_keeps State.regs (fun _ _ _ _ => rfl) s fn i l,
    State.startReads_keeps State.ctr (fun _ _ _ _ => rfl) s fn i l,
    State.startReads_keeps State.coh (fun _ _ _ _ => rfl) s fn i l,
    State.startReads_keeps State.snap (fun _ _ _ _ => rfl) s fn i l,
    State.startReads_keeps State.tb (fun _ _ _ _ => rfl) s fn i l,
    State.startReads_keeps State.stp (fun _ _ _ _ => rfl) s fn i l,
    State.startReads_keeps State.ldg (fun _ _ _ _ => rfl) s fn i l,
    State.startReads_keeps State.mrg (fun _ _ _ _ => rfl) s fn i l,
    State.startReads_keeps State.rel (fun _ _ _ _ => rfl) s fn i l,
    State.startReads_keeps State.ports (fun _ _ _ _ => rfl) s fn i l,
    State.startReads_keeps State.lanes (fun _ _ _ _ => rfl) s fn i l,
    State.startReads_keeps State.slices (fun _ _ _ _ => rfl) s fn i l,
    State.startReads_keeps State.flow (fun _ _ _ _ => rfl) s fn i l,
    State.startReads_keeps State.tm (fun _ _ _ _ => rfl) s fn i l,
    State.startReads_keeps State.eng (fun _ _ _ _ => rfl) s fn i l,
    State.startReads_keeps State.qm (fun _ _ _ _ => rfl) s fn i l,
    State.startReads_keeps State.mgt (fun _ _ _ _ => rfl) s fn i l,
    State.startReads_keeps State.nvm (fun _ _ _ _ => rfl) s fn i l,
    State.startReads_keeps State.evr (fun _ _ _ _ => rfl) s fn i l,
    State.startReads_keeps State.tel (fun _ _ _ _ => rfl) s fn i l,
    State.startReads_keeps State.clk (fun _ _ _ _ => rfl) s fn i l,
    State.startReads_keeps State.pwr (fun _ _ _ _ => rfl) s fn i l,
    State.startReads_keeps State.rst (fun _ _ _ _ => rfl) s fn i l,
    State.startReads_keeps State.svc (fun _ _ _ _ => rfl) s fn i l,
    State.startReads_keeps State.tap (fun _ _ _ _ => rfl) s fn i l⟩

theorem State.fetchNow_keeps {β : Sort _} (obs : State → β)
    (h : ∀ (s : State) x0 x1, obs { s with out := x0, hif := x1 } = obs s)
    (s : State) (fn : Nat) (i : ReadItem) (a : Nat) : obs ((s.fetchNow fn i a).2) = obs s := by
  unfold State.fetchNow
  try dsimp only
  repeat' split
  all_goals try simp only [State.readsDone_keeps obs (fun s x0 => h s s.out x0), State.emitRead_keeps obs (fun s x0 x1 => h s x0 x1)]
  all_goals iterate 4 first
    | done
    | rfl
    | (refine (h _ _ _).trans ?_; try simp only [State.readsDone_keeps obs (fun s x0 => h s s.out x0), State.emitRead_keeps obs (fun s x0 x1 => h s x0 x1)])

/-- An entry fetched as it starts changes only the host link and what has left the block. -/
@[simp] theorem State.fetchNow_frame (s : State) (fn : Nat) (i : ReadItem) (a : Nat) :
    ((s.fetchNow fn i a).2).pending = s.pending ∧ ((s.fetchNow fn i a).2).free = s.free ∧ ((s.fetchNow fn i a).2).assured = s.assured ∧ ((s.fetchNow fn i a).2).nextFrame = s.nextFrame ∧
    ((s.fetchNow fn i a).2).regs = s.regs ∧ ((s.fetchNow fn i a).2).ctr = s.ctr ∧ ((s.fetchNow fn i a).2).coh = s.coh ∧ ((s.fetchNow fn i a).2).snap = s.snap ∧
    ((s.fetchNow fn i a).2).tb = s.tb ∧ ((s.fetchNow fn i a).2).stp = s.stp ∧ ((s.fetchNow fn i a).2).ldg = s.ldg ∧ ((s.fetchNow fn i a).2).mrg = s.mrg ∧
    ((s.fetchNow fn i a).2).rel = s.rel ∧ ((s.fetchNow fn i a).2).ports = s.ports ∧ ((s.fetchNow fn i a).2).lanes = s.lanes ∧ ((s.fetchNow fn i a).2).slices = s.slices ∧
    ((s.fetchNow fn i a).2).flow = s.flow ∧ ((s.fetchNow fn i a).2).tm = s.tm ∧ ((s.fetchNow fn i a).2).eng = s.eng ∧ ((s.fetchNow fn i a).2).qm = s.qm ∧
    ((s.fetchNow fn i a).2).mgt = s.mgt ∧ ((s.fetchNow fn i a).2).nvm = s.nvm ∧ ((s.fetchNow fn i a).2).evr = s.evr ∧ ((s.fetchNow fn i a).2).tel = s.tel ∧
    ((s.fetchNow fn i a).2).clk = s.clk ∧ ((s.fetchNow fn i a).2).pwr = s.pwr ∧ ((s.fetchNow fn i a).2).rst = s.rst ∧ ((s.fetchNow fn i a).2).svc = s.svc ∧
    ((s.fetchNow fn i a).2).tap = s.tap :=
  ⟨State.fetchNow_keeps State.pending (fun _ _ _ => rfl) s fn i a,
    State.fetchNow_keeps State.free (fun _ _ _ => rfl) s fn i a,
    State.fetchNow_keeps State.assured (fun _ _ _ => rfl) s fn i a,
    State.fetchNow_keeps State.nextFrame (fun _ _ _ => rfl) s fn i a,
    State.fetchNow_keeps State.regs (fun _ _ _ => rfl) s fn i a,
    State.fetchNow_keeps State.ctr (fun _ _ _ => rfl) s fn i a,
    State.fetchNow_keeps State.coh (fun _ _ _ => rfl) s fn i a,
    State.fetchNow_keeps State.snap (fun _ _ _ => rfl) s fn i a,
    State.fetchNow_keeps State.tb (fun _ _ _ => rfl) s fn i a,
    State.fetchNow_keeps State.stp (fun _ _ _ => rfl) s fn i a,
    State.fetchNow_keeps State.ldg (fun _ _ _ => rfl) s fn i a,
    State.fetchNow_keeps State.mrg (fun _ _ _ => rfl) s fn i a,
    State.fetchNow_keeps State.rel (fun _ _ _ => rfl) s fn i a,
    State.fetchNow_keeps State.ports (fun _ _ _ => rfl) s fn i a,
    State.fetchNow_keeps State.lanes (fun _ _ _ => rfl) s fn i a,
    State.fetchNow_keeps State.slices (fun _ _ _ => rfl) s fn i a,
    State.fetchNow_keeps State.flow (fun _ _ _ => rfl) s fn i a,
    State.fetchNow_keeps State.tm (fun _ _ _ => rfl) s fn i a,
    State.fetchNow_keeps State.eng (fun _ _ _ => rfl) s fn i a,
    State.fetchNow_keeps State.qm (fun _ _ _ => rfl) s fn i a,
    State.fetchNow_keeps State.mgt (fun _ _ _ => rfl) s fn i a,
    State.fetchNow_keeps State.nvm (fun _ _ _ => rfl) s fn i a,
    State.fetchNow_keeps State.evr (fun _ _ _ => rfl) s fn i a,
    State.fetchNow_keeps State.tel (fun _ _ _ => rfl) s fn i a,
    State.fetchNow_keeps State.clk (fun _ _ _ => rfl) s fn i a,
    State.fetchNow_keeps State.pwr (fun _ _ _ => rfl) s fn i a,
    State.fetchNow_keeps State.rst (fun _ _ _ => rfl) s fn i a,
    State.fetchNow_keeps State.svc (fun _ _ _ => rfl) s fn i a,
    State.fetchNow_keeps State.tap (fun _ _ _ => rfl) s fn i a⟩

theorem State.adminTake_keeps {β : Sort _} (obs : State → β)
    (h : ∀ (s : State) x0 x1 x2, obs { s with out := x0, hif := x1, qm := x2 } = obs s)
    (s : State) (r : AdminRef) : obs (s.adminTake r) = obs s := by
  unfold State.adminTake
  try dsimp only
  repeat' split
  all_goals try simp only [State.fetchNow_keeps obs (fun s x0 x1 => h s x0 x1 s.qm), State.modFn_keeps obs (fun s x0 => h s s.out s.hif x0)]
  all_goals iterate 4 first
    | done
    | rfl
    | (refine (h _ _ _ _).trans ?_; try simp only [State.fetchNow_keeps obs (fun s x0 x1 => h s x0 x1 s.qm), State.modFn_keeps obs (fun s x0 => h s s.out s.hif x0)])

/-- Taking a command changes only its function, the host link and what has left the block. -/
@[simp] theorem State.adminTake_frame (s : State) (r : AdminRef) :
    (s.adminTake r).pending = s.pending ∧ (s.adminTake r).free = s.free ∧ (s.adminTake r).assured = s.assured ∧ (s.adminTake r).nextFrame = s.nextFrame ∧
    (s.adminTake r).regs = s.regs ∧ (s.adminTake r).ctr = s.ctr ∧ (s.adminTake r).coh = s.coh ∧ (s.adminTake r).snap = s.snap ∧
    (s.adminTake r).tb = s.tb ∧ (s.adminTake r).stp = s.stp ∧ (s.adminTake r).ldg = s.ldg ∧ (s.adminTake r).mrg = s.mrg ∧
    (s.adminTake r).rel = s.rel ∧ (s.adminTake r).ports = s.ports ∧ (s.adminTake r).lanes = s.lanes ∧ (s.adminTake r).slices = s.slices ∧
    (s.adminTake r).flow = s.flow ∧ (s.adminTake r).tm = s.tm ∧ (s.adminTake r).eng = s.eng ∧ (s.adminTake r).mgt = s.mgt ∧
    (s.adminTake r).nvm = s.nvm ∧ (s.adminTake r).evr = s.evr ∧ (s.adminTake r).tel = s.tel ∧ (s.adminTake r).clk = s.clk ∧
    (s.adminTake r).pwr = s.pwr ∧ (s.adminTake r).rst = s.rst ∧ (s.adminTake r).svc = s.svc ∧ (s.adminTake r).tap = s.tap :=
  ⟨State.adminTake_keeps State.pending (fun _ _ _ _ => rfl) s r,
    State.adminTake_keeps State.free (fun _ _ _ _ => rfl) s r,
    State.adminTake_keeps State.assured (fun _ _ _ _ => rfl) s r,
    State.adminTake_keeps State.nextFrame (fun _ _ _ _ => rfl) s r,
    State.adminTake_keeps State.regs (fun _ _ _ _ => rfl) s r,
    State.adminTake_keeps State.ctr (fun _ _ _ _ => rfl) s r,
    State.adminTake_keeps State.coh (fun _ _ _ _ => rfl) s r,
    State.adminTake_keeps State.snap (fun _ _ _ _ => rfl) s r,
    State.adminTake_keeps State.tb (fun _ _ _ _ => rfl) s r,
    State.adminTake_keeps State.stp (fun _ _ _ _ => rfl) s r,
    State.adminTake_keeps State.ldg (fun _ _ _ _ => rfl) s r,
    State.adminTake_keeps State.mrg (fun _ _ _ _ => rfl) s r,
    State.adminTake_keeps State.rel (fun _ _ _ _ => rfl) s r,
    State.adminTake_keeps State.ports (fun _ _ _ _ => rfl) s r,
    State.adminTake_keeps State.lanes (fun _ _ _ _ => rfl) s r,
    State.adminTake_keeps State.slices (fun _ _ _ _ => rfl) s r,
    State.adminTake_keeps State.flow (fun _ _ _ _ => rfl) s r,
    State.adminTake_keeps State.tm (fun _ _ _ _ => rfl) s r,
    State.adminTake_keeps State.eng (fun _ _ _ _ => rfl) s r,
    State.adminTake_keeps State.mgt (fun _ _ _ _ => rfl) s r,
    State.adminTake_keeps State.nvm (fun _ _ _ _ => rfl) s r,
    State.adminTake_keeps State.evr (fun _ _ _ _ => rfl) s r,
    State.adminTake_keeps State.tel (fun _ _ _ _ => rfl) s r,
    State.adminTake_keeps State.clk (fun _ _ _ _ => rfl) s r,
    State.adminTake_keeps State.pwr (fun _ _ _ _ => rfl) s r,
    State.adminTake_keeps State.rst (fun _ _ _ _ => rfl) s r,
    State.adminTake_keeps State.svc (fun _ _ _ _ => rfl) s r,
    State.adminTake_keeps State.tap (fun _ _ _ _ => rfl) s r⟩

theorem State.adminOpen_keeps {β : Sort _} (obs : State → β)
    (h : ∀ (s : State) x0 x1 x2, obs { s with out := x0, hif := x1, qm := x2 } = obs s)
    (s : State) (r : AdminRef) : obs (s.adminOpen r) = obs s := by
  unfold State.adminOpen
  split
  · exact State.readsDone_keeps obs (fun s x1 => h s s.out x1 s.qm) s _
  · exact (foldl_keeps obs _ (fun s p => State.emitRead_keeps obs (fun s x0 x1 => h s x0 x1 s.qm) s _ _ _) _ _).trans
      (State.adminTake_keeps obs h s r)

/-- Starting a command changes only its function, the host link and what has left the block. -/
@[simp] theorem State.adminOpen_frame (s : State) (r : AdminRef) :
    (s.adminOpen r).pending = s.pending ∧ (s.adminOpen r).free = s.free ∧ (s.adminOpen r).assured = s.assured ∧ (s.adminOpen r).nextFrame = s.nextFrame ∧
    (s.adminOpen r).regs = s.regs ∧ (s.adminOpen r).ctr = s.ctr ∧ (s.adminOpen r).coh = s.coh ∧ (s.adminOpen r).snap = s.snap ∧
    (s.adminOpen r).tb = s.tb ∧ (s.adminOpen r).stp = s.stp ∧ (s.adminOpen r).ldg = s.ldg ∧ (s.adminOpen r).mrg = s.mrg ∧
    (s.adminOpen r).rel = s.rel ∧ (s.adminOpen r).ports = s.ports ∧ (s.adminOpen r).lanes = s.lanes ∧ (s.adminOpen r).slices = s.slices ∧
    (s.adminOpen r).flow = s.flow ∧ (s.adminOpen r).tm = s.tm ∧ (s.adminOpen r).eng = s.eng ∧ (s.adminOpen r).mgt = s.mgt ∧
    (s.adminOpen r).nvm = s.nvm ∧ (s.adminOpen r).evr = s.evr ∧ (s.adminOpen r).tel = s.tel ∧ (s.adminOpen r).clk = s.clk ∧
    (s.adminOpen r).pwr = s.pwr ∧ (s.adminOpen r).rst = s.rst ∧ (s.adminOpen r).svc = s.svc ∧ (s.adminOpen r).tap = s.tap :=
  ⟨State.adminOpen_keeps State.pending (fun _ _ _ _ => rfl) s r,
    State.adminOpen_keeps State.free (fun _ _ _ _ => rfl) s r,
    State.adminOpen_keeps State.assured (fun _ _ _ _ => rfl) s r,
    State.adminOpen_keeps State.nextFrame (fun _ _ _ _ => rfl) s r,
    State.adminOpen_keeps State.regs (fun _ _ _ _ => rfl) s r,
    State.adminOpen_keeps State.ctr (fun _ _ _ _ => rfl) s r,
    State.adminOpen_keeps State.coh (fun _ _ _ _ => rfl) s r,
    State.adminOpen_keeps State.snap (fun _ _ _ _ => rfl) s r,
    State.adminOpen_keeps State.tb (fun _ _ _ _ => rfl) s r,
    State.adminOpen_keeps State.stp (fun _ _ _ _ => rfl) s r,
    State.adminOpen_keeps State.ldg (fun _ _ _ _ => rfl) s r,
    State.adminOpen_keeps State.mrg (fun _ _ _ _ => rfl) s r,
    State.adminOpen_keeps State.rel (fun _ _ _ _ => rfl) s r,
    State.adminOpen_keeps State.ports (fun _ _ _ _ => rfl) s r,
    State.adminOpen_keeps State.lanes (fun _ _ _ _ => rfl) s r,
    State.adminOpen_keeps State.slices (fun _ _ _ _ => rfl) s r,
    State.adminOpen_keeps State.flow (fun _ _ _ _ => rfl) s r,
    State.adminOpen_keeps State.tm (fun _ _ _ _ => rfl) s r,
    State.adminOpen_keeps State.eng (fun _ _ _ _ => rfl) s r,
    State.adminOpen_keeps State.mgt (fun _ _ _ _ => rfl) s r,
    State.adminOpen_keeps State.nvm (fun _ _ _ _ => rfl) s r,
    State.adminOpen_keeps State.evr (fun _ _ _ _ => rfl) s r,
    State.adminOpen_keeps State.tel (fun _ _ _ _ => rfl) s r,
    State.adminOpen_keeps State.clk (fun _ _ _ _ => rfl) s r,
    State.adminOpen_keeps State.pwr (fun _ _ _ _ => rfl) s r,
    State.adminOpen_keeps State.rst (fun _ _ _ _ => rfl) s r,
    State.adminOpen_keeps State.svc (fun _ _ _ _ => rfl) s r,
    State.adminOpen_keeps State.tap (fun _ _ _ _ => rfl) s r⟩

theorem State.adminAsk_keeps {β : Sort _} (obs : State → β)
    (h : ∀ (s : State) x0 x1 x2 x3, obs { s with out := x0, hif := x1, qm := x2, free := x3 } = obs s)
    (s : State) (r : AdminRef) : obs (s.adminAsk r) = obs s := by
  unfold State.adminAsk
  try dsimp only
  repeat' split
  all_goals try simp only [State.adminTake_keeps obs (fun s x0 x1 x2 => h s x0 x1 x2 s.free), State.startReads_keeps obs (fun s x0 x1 x2 => h s x0 x1 s.qm x2)]
  all_goals iterate 4 first
    | done
    | rfl
    | (refine (h _ _ _ _ _).trans ?_; try simp only [State.adminTake_keeps obs (fun s x0 x1 x2 => h s x0 x1 x2 s.free), State.startReads_keeps obs (fun s x0 x1 x2 => h s x0 x1 s.qm x2)])

/-- A command that reads changes only its function, the host link, the count of draws and what has left the block. -/
@[simp] theorem State.adminAsk_frame (s : State) (r : AdminRef) :
    (s.adminAsk r).pending = s.pending ∧ (s.adminAsk r).assured = s.assured ∧ (s.adminAsk r).nextFrame = s.nextFrame ∧ (s.adminAsk r).regs = s.regs ∧
    (s.adminAsk r).ctr = s.ctr ∧ (s.adminAsk r).coh = s.coh ∧ (s.adminAsk r).snap = s.snap ∧ (s.adminAsk r).tb = s.tb ∧
    (s.adminAsk r).stp = s.stp ∧ (s.adminAsk r).ldg = s.ldg ∧ (s.adminAsk r).mrg = s.mrg ∧ (s.adminAsk r).rel = s.rel ∧
    (s.adminAsk r).ports = s.ports ∧ (s.adminAsk r).lanes = s.lanes ∧ (s.adminAsk r).slices = s.slices ∧ (s.adminAsk r).flow = s.flow ∧
    (s.adminAsk r).tm = s.tm ∧ (s.adminAsk r).eng = s.eng ∧ (s.adminAsk r).mgt = s.mgt ∧ (s.adminAsk r).nvm = s.nvm ∧
    (s.adminAsk r).evr = s.evr ∧ (s.adminAsk r).tel = s.tel ∧ (s.adminAsk r).clk = s.clk ∧ (s.adminAsk r).pwr = s.pwr ∧
    (s.adminAsk r).rst = s.rst ∧ (s.adminAsk r).svc = s.svc ∧ (s.adminAsk r).tap = s.tap :=
  ⟨State.adminAsk_keeps State.pending (fun _ _ _ _ _ => rfl) s r,
    State.adminAsk_keeps State.assured (fun _ _ _ _ _ => rfl) s r,
    State.adminAsk_keeps State.nextFrame (fun _ _ _ _ _ => rfl) s r,
    State.adminAsk_keeps State.regs (fun _ _ _ _ _ => rfl) s r,
    State.adminAsk_keeps State.ctr (fun _ _ _ _ _ => rfl) s r,
    State.adminAsk_keeps State.coh (fun _ _ _ _ _ => rfl) s r,
    State.adminAsk_keeps State.snap (fun _ _ _ _ _ => rfl) s r,
    State.adminAsk_keeps State.tb (fun _ _ _ _ _ => rfl) s r,
    State.adminAsk_keeps State.stp (fun _ _ _ _ _ => rfl) s r,
    State.adminAsk_keeps State.ldg (fun _ _ _ _ _ => rfl) s r,
    State.adminAsk_keeps State.mrg (fun _ _ _ _ _ => rfl) s r,
    State.adminAsk_keeps State.rel (fun _ _ _ _ _ => rfl) s r,
    State.adminAsk_keeps State.ports (fun _ _ _ _ _ => rfl) s r,
    State.adminAsk_keeps State.lanes (fun _ _ _ _ _ => rfl) s r,
    State.adminAsk_keeps State.slices (fun _ _ _ _ _ => rfl) s r,
    State.adminAsk_keeps State.flow (fun _ _ _ _ _ => rfl) s r,
    State.adminAsk_keeps State.tm (fun _ _ _ _ _ => rfl) s r,
    State.adminAsk_keeps State.eng (fun _ _ _ _ _ => rfl) s r,
    State.adminAsk_keeps State.mgt (fun _ _ _ _ _ => rfl) s r,
    State.adminAsk_keeps State.nvm (fun _ _ _ _ _ => rfl) s r,
    State.adminAsk_keeps State.evr (fun _ _ _ _ _ => rfl) s r,
    State.adminAsk_keeps State.tel (fun _ _ _ _ _ => rfl) s r,
    State.adminAsk_keeps State.clk (fun _ _ _ _ _ => rfl) s r,
    State.adminAsk_keeps State.pwr (fun _ _ _ _ _ => rfl) s r,
    State.adminAsk_keeps State.rst (fun _ _ _ _ _ => rfl) s r,
    State.adminAsk_keeps State.svc (fun _ _ _ _ _ => rfl) s r,
    State.adminAsk_keeps State.tap (fun _ _ _ _ _ => rfl) s r⟩

theorem State.workTake_keeps {β : Sort _} (obs : State → β)
    (h : ∀ (s : State) x0 x1 x2, obs { s with out := x0, hif := x1, qm := x2 } = obs s)
    (s : State) (w : WorkRef) : obs (s.workTake w) = obs s := by
  unfold State.workTake
  try dsimp only
  repeat' split
  all_goals try simp only [State.fetchNow_keeps obs (fun s x0 x1 => h s x0 x1 s.qm), State.modWq_keeps obs (fun s x0 => h s s.out s.hif x0)]
  all_goals iterate 4 first
    | done
    | rfl
    | (refine (h _ _ _ _).trans ?_; try simp only [State.fetchNow_keeps obs (fun s x0 x1 => h s x0 x1 s.qm), State.modWq_keeps obs (fun s x0 => h s s.out s.hif x0)])

/-- Taking an entry changes only its queue, the host link and what has left the block. -/
@[simp] theorem State.workTake_frame (s : State) (w : WorkRef) :
    (s.workTake w).pending = s.pending ∧ (s.workTake w).free = s.free ∧ (s.workTake w).assured = s.assured ∧ (s.workTake w).nextFrame = s.nextFrame ∧
    (s.workTake w).regs = s.regs ∧ (s.workTake w).ctr = s.ctr ∧ (s.workTake w).coh = s.coh ∧ (s.workTake w).snap = s.snap ∧
    (s.workTake w).tb = s.tb ∧ (s.workTake w).stp = s.stp ∧ (s.workTake w).ldg = s.ldg ∧ (s.workTake w).mrg = s.mrg ∧
    (s.workTake w).rel = s.rel ∧ (s.workTake w).ports = s.ports ∧ (s.workTake w).lanes = s.lanes ∧ (s.workTake w).slices = s.slices ∧
    (s.workTake w).flow = s.flow ∧ (s.workTake w).tm = s.tm ∧ (s.workTake w).eng = s.eng ∧ (s.workTake w).mgt = s.mgt ∧
    (s.workTake w).nvm = s.nvm ∧ (s.workTake w).evr = s.evr ∧ (s.workTake w).tel = s.tel ∧ (s.workTake w).clk = s.clk ∧
    (s.workTake w).pwr = s.pwr ∧ (s.workTake w).rst = s.rst ∧ (s.workTake w).svc = s.svc ∧ (s.workTake w).tap = s.tap :=
  ⟨State.workTake_keeps State.pending (fun _ _ _ _ => rfl) s w,
    State.workTake_keeps State.free (fun _ _ _ _ => rfl) s w,
    State.workTake_keeps State.assured (fun _ _ _ _ => rfl) s w,
    State.workTake_keeps State.nextFrame (fun _ _ _ _ => rfl) s w,
    State.workTake_keeps State.regs (fun _ _ _ _ => rfl) s w,
    State.workTake_keeps State.ctr (fun _ _ _ _ => rfl) s w,
    State.workTake_keeps State.coh (fun _ _ _ _ => rfl) s w,
    State.workTake_keeps State.snap (fun _ _ _ _ => rfl) s w,
    State.workTake_keeps State.tb (fun _ _ _ _ => rfl) s w,
    State.workTake_keeps State.stp (fun _ _ _ _ => rfl) s w,
    State.workTake_keeps State.ldg (fun _ _ _ _ => rfl) s w,
    State.workTake_keeps State.mrg (fun _ _ _ _ => rfl) s w,
    State.workTake_keeps State.rel (fun _ _ _ _ => rfl) s w,
    State.workTake_keeps State.ports (fun _ _ _ _ => rfl) s w,
    State.workTake_keeps State.lanes (fun _ _ _ _ => rfl) s w,
    State.workTake_keeps State.slices (fun _ _ _ _ => rfl) s w,
    State.workTake_keeps State.flow (fun _ _ _ _ => rfl) s w,
    State.workTake_keeps State.tm (fun _ _ _ _ => rfl) s w,
    State.workTake_keeps State.eng (fun _ _ _ _ => rfl) s w,
    State.workTake_keeps State.mgt (fun _ _ _ _ => rfl) s w,
    State.workTake_keeps State.nvm (fun _ _ _ _ => rfl) s w,
    State.workTake_keeps State.evr (fun _ _ _ _ => rfl) s w,
    State.workTake_keeps State.tel (fun _ _ _ _ => rfl) s w,
    State.workTake_keeps State.clk (fun _ _ _ _ => rfl) s w,
    State.workTake_keeps State.pwr (fun _ _ _ _ => rfl) s w,
    State.workTake_keeps State.rst (fun _ _ _ _ => rfl) s w,
    State.workTake_keeps State.svc (fun _ _ _ _ => rfl) s w,
    State.workTake_keeps State.tap (fun _ _ _ _ => rfl) s w⟩

theorem State.workOpen_keeps {β : Sort _} (obs : State → β)
    (h : ∀ (s : State) x0 x1 x2, obs { s with out := x0, hif := x1, qm := x2 } = obs s)
    (s : State) (w : WorkRef) : obs (s.workOpen w) = obs s := by
  unfold State.workOpen
  split
  · exact State.readsDone_keeps obs (fun s x1 => h s s.out x1 s.qm) s _
  · exact (foldl_keeps obs _ (fun s p => State.emitRead_keeps obs (fun s x0 x1 => h s x0 x1 s.qm) s _ _ _) _ _).trans
      (State.workTake_keeps obs h s w)

/-- Starting an entry changes only its queue, the host link and what has left the block. -/
@[simp] theorem State.workOpen_frame (s : State) (w : WorkRef) :
    (s.workOpen w).pending = s.pending ∧ (s.workOpen w).free = s.free ∧ (s.workOpen w).assured = s.assured ∧ (s.workOpen w).nextFrame = s.nextFrame ∧
    (s.workOpen w).regs = s.regs ∧ (s.workOpen w).ctr = s.ctr ∧ (s.workOpen w).coh = s.coh ∧ (s.workOpen w).snap = s.snap ∧
    (s.workOpen w).tb = s.tb ∧ (s.workOpen w).stp = s.stp ∧ (s.workOpen w).ldg = s.ldg ∧ (s.workOpen w).mrg = s.mrg ∧
    (s.workOpen w).rel = s.rel ∧ (s.workOpen w).ports = s.ports ∧ (s.workOpen w).lanes = s.lanes ∧ (s.workOpen w).slices = s.slices ∧
    (s.workOpen w).flow = s.flow ∧ (s.workOpen w).tm = s.tm ∧ (s.workOpen w).eng = s.eng ∧ (s.workOpen w).mgt = s.mgt ∧
    (s.workOpen w).nvm = s.nvm ∧ (s.workOpen w).evr = s.evr ∧ (s.workOpen w).tel = s.tel ∧ (s.workOpen w).clk = s.clk ∧
    (s.workOpen w).pwr = s.pwr ∧ (s.workOpen w).rst = s.rst ∧ (s.workOpen w).svc = s.svc ∧ (s.workOpen w).tap = s.tap :=
  ⟨State.workOpen_keeps State.pending (fun _ _ _ _ => rfl) s w,
    State.workOpen_keeps State.free (fun _ _ _ _ => rfl) s w,
    State.workOpen_keeps State.assured (fun _ _ _ _ => rfl) s w,
    State.workOpen_keeps State.nextFrame (fun _ _ _ _ => rfl) s w,
    State.workOpen_keeps State.regs (fun _ _ _ _ => rfl) s w,
    State.workOpen_keeps State.ctr (fun _ _ _ _ => rfl) s w,
    State.workOpen_keeps State.coh (fun _ _ _ _ => rfl) s w,
    State.workOpen_keeps State.snap (fun _ _ _ _ => rfl) s w,
    State.workOpen_keeps State.tb (fun _ _ _ _ => rfl) s w,
    State.workOpen_keeps State.stp (fun _ _ _ _ => rfl) s w,
    State.workOpen_keeps State.ldg (fun _ _ _ _ => rfl) s w,
    State.workOpen_keeps State.mrg (fun _ _ _ _ => rfl) s w,
    State.workOpen_keeps State.rel (fun _ _ _ _ => rfl) s w,
    State.workOpen_keeps State.ports (fun _ _ _ _ => rfl) s w,
    State.workOpen_keeps State.lanes (fun _ _ _ _ => rfl) s w,
    State.workOpen_keeps State.slices (fun _ _ _ _ => rfl) s w,
    State.workOpen_keeps State.flow (fun _ _ _ _ => rfl) s w,
    State.workOpen_keeps State.tm (fun _ _ _ _ => rfl) s w,
    State.workOpen_keeps State.eng (fun _ _ _ _ => rfl) s w,
    State.workOpen_keeps State.mgt (fun _ _ _ _ => rfl) s w,
    State.workOpen_keeps State.nvm (fun _ _ _ _ => rfl) s w,
    State.workOpen_keeps State.evr (fun _ _ _ _ => rfl) s w,
    State.workOpen_keeps State.tel (fun _ _ _ _ => rfl) s w,
    State.workOpen_keeps State.clk (fun _ _ _ _ => rfl) s w,
    State.workOpen_keeps State.pwr (fun _ _ _ _ => rfl) s w,
    State.workOpen_keeps State.rst (fun _ _ _ _ => rfl) s w,
    State.workOpen_keeps State.svc (fun _ _ _ _ => rfl) s w,
    State.workOpen_keeps State.tap (fun _ _ _ _ => rfl) s w⟩

theorem State.workAsk_keeps {β : Sort _} (obs : State → β)
    (h : ∀ (s : State) x0 x1 x2 x3, obs { s with out := x0, hif := x1, qm := x2, free := x3 } = obs s)
    (s : State) (w : WorkRef) : obs (s.workAsk w) = obs s := by
  unfold State.workAsk
  try dsimp only
  repeat' split
  all_goals try simp only [State.workTake_keeps obs (fun s x0 x1 x2 => h s x0 x1 x2 s.free), State.startReads_keeps obs (fun s x0 x1 x2 => h s x0 x1 s.qm x2)]
  all_goals iterate 4 first
    | done
    | rfl
    | (refine (h _ _ _ _ _).trans ?_; try simp only [State.workTake_keeps obs (fun s x0 x1 x2 => h s x0 x1 x2 s.free), State.startReads_keeps obs (fun s x0 x1 x2 => h s x0 x1 s.qm x2)])

/-- An entry that reads changes only its queue, the host link, the count of draws and what has left the block. -/
@[simp] theorem State.workAsk_frame (s : State) (w : WorkRef) :
    (s.workAsk w).pending = s.pending ∧ (s.workAsk w).assured = s.assured ∧ (s.workAsk w).nextFrame = s.nextFrame ∧ (s.workAsk w).regs = s.regs ∧
    (s.workAsk w).ctr = s.ctr ∧ (s.workAsk w).coh = s.coh ∧ (s.workAsk w).snap = s.snap ∧ (s.workAsk w).tb = s.tb ∧
    (s.workAsk w).stp = s.stp ∧ (s.workAsk w).ldg = s.ldg ∧ (s.workAsk w).mrg = s.mrg ∧ (s.workAsk w).rel = s.rel ∧
    (s.workAsk w).ports = s.ports ∧ (s.workAsk w).lanes = s.lanes ∧ (s.workAsk w).slices = s.slices ∧ (s.workAsk w).flow = s.flow ∧
    (s.workAsk w).tm = s.tm ∧ (s.workAsk w).eng = s.eng ∧ (s.workAsk w).mgt = s.mgt ∧ (s.workAsk w).nvm = s.nvm ∧
    (s.workAsk w).evr = s.evr ∧ (s.workAsk w).tel = s.tel ∧ (s.workAsk w).clk = s.clk ∧ (s.workAsk w).pwr = s.pwr ∧
    (s.workAsk w).rst = s.rst ∧ (s.workAsk w).svc = s.svc ∧ (s.workAsk w).tap = s.tap :=
  ⟨State.workAsk_keeps State.pending (fun _ _ _ _ _ => rfl) s w,
    State.workAsk_keeps State.assured (fun _ _ _ _ _ => rfl) s w,
    State.workAsk_keeps State.nextFrame (fun _ _ _ _ _ => rfl) s w,
    State.workAsk_keeps State.regs (fun _ _ _ _ _ => rfl) s w,
    State.workAsk_keeps State.ctr (fun _ _ _ _ _ => rfl) s w,
    State.workAsk_keeps State.coh (fun _ _ _ _ _ => rfl) s w,
    State.workAsk_keeps State.snap (fun _ _ _ _ _ => rfl) s w,
    State.workAsk_keeps State.tb (fun _ _ _ _ _ => rfl) s w,
    State.workAsk_keeps State.stp (fun _ _ _ _ _ => rfl) s w,
    State.workAsk_keeps State.ldg (fun _ _ _ _ _ => rfl) s w,
    State.workAsk_keeps State.mrg (fun _ _ _ _ _ => rfl) s w,
    State.workAsk_keeps State.rel (fun _ _ _ _ _ => rfl) s w,
    State.workAsk_keeps State.ports (fun _ _ _ _ _ => rfl) s w,
    State.workAsk_keeps State.lanes (fun _ _ _ _ _ => rfl) s w,
    State.workAsk_keeps State.slices (fun _ _ _ _ _ => rfl) s w,
    State.workAsk_keeps State.flow (fun _ _ _ _ _ => rfl) s w,
    State.workAsk_keeps State.tm (fun _ _ _ _ _ => rfl) s w,
    State.workAsk_keeps State.eng (fun _ _ _ _ _ => rfl) s w,
    State.workAsk_keeps State.mgt (fun _ _ _ _ _ => rfl) s w,
    State.workAsk_keeps State.nvm (fun _ _ _ _ _ => rfl) s w,
    State.workAsk_keeps State.evr (fun _ _ _ _ _ => rfl) s w,
    State.workAsk_keeps State.tel (fun _ _ _ _ _ => rfl) s w,
    State.workAsk_keeps State.clk (fun _ _ _ _ _ => rfl) s w,
    State.workAsk_keeps State.pwr (fun _ _ _ _ _ => rfl) s w,
    State.workAsk_keeps State.rst (fun _ _ _ _ _ => rfl) s w,
    State.workAsk_keeps State.svc (fun _ _ _ _ _ => rfl) s w,
    State.workAsk_keeps State.tap (fun _ _ _ _ _ => rfl) s w⟩

theorem State.workDone_keeps {β : Sort _} (obs : State → β)
    (h : ∀ (s : State) x0 x1 x2 x3, obs { s with out := x0, hif := x1, qm := x2, ctr := x3 } = obs s)
    (s : State) (w : Nat) (i : Word) (st : Nat) (l : List (Nat × Bytes)) : obs (s.workDone w i st l) = obs s := by
  unfold State.workDone
  try dsimp only
  repeat' split
  all_goals try simp only [State.writeBack_keeps obs (fun s x0 x1 => h s x0 x1 s.qm s.ctr), State.modWq_keeps obs (fun s x0 => h s s.out s.hif x0 s.ctr), State.count1_keeps obs (fun s x0 => h s s.out s.hif s.qm x0)]
  all_goals iterate 4 first
    | done
    | rfl
    | (refine (h _ _ _ _ _).trans ?_; try simp only [State.writeBack_keeps obs (fun s x0 x1 => h s x0 x1 s.qm s.ctr), State.modWq_keeps obs (fun s x0 => h s s.out s.hif x0 s.ctr), State.count1_keeps obs (fun s x0 => h s s.out s.hif s.qm x0)])

/-- A completion changes only the host link, its queue, counters and what has left the block. -/
@[simp] theorem State.workDone_frame (s : State) (w : Nat) (i : Word) (st : Nat) (l : List (Nat × Bytes)) :
    (s.workDone w i st l).pending = s.pending ∧ (s.workDone w i st l).free = s.free ∧ (s.workDone w i st l).assured = s.assured ∧ (s.workDone w i st l).nextFrame = s.nextFrame ∧
    (s.workDone w i st l).regs = s.regs ∧ (s.workDone w i st l).coh = s.coh ∧ (s.workDone w i st l).snap = s.snap ∧ (s.workDone w i st l).tb = s.tb ∧
    (s.workDone w i st l).stp = s.stp ∧ (s.workDone w i st l).ldg = s.ldg ∧ (s.workDone w i st l).mrg = s.mrg ∧ (s.workDone w i st l).rel = s.rel ∧
    (s.workDone w i st l).ports = s.ports ∧ (s.workDone w i st l).lanes = s.lanes ∧ (s.workDone w i st l).slices = s.slices ∧ (s.workDone w i st l).flow = s.flow ∧
    (s.workDone w i st l).tm = s.tm ∧ (s.workDone w i st l).eng = s.eng ∧ (s.workDone w i st l).mgt = s.mgt ∧ (s.workDone w i st l).nvm = s.nvm ∧
    (s.workDone w i st l).evr = s.evr ∧ (s.workDone w i st l).tel = s.tel ∧ (s.workDone w i st l).clk = s.clk ∧ (s.workDone w i st l).pwr = s.pwr ∧
    (s.workDone w i st l).rst = s.rst ∧ (s.workDone w i st l).svc = s.svc ∧ (s.workDone w i st l).tap = s.tap :=
  ⟨State.workDone_keeps State.pending (fun _ _ _ _ _ => rfl) s w i st l,
    State.workDone_keeps State.free (fun _ _ _ _ _ => rfl) s w i st l,
    State.workDone_keeps State.assured (fun _ _ _ _ _ => rfl) s w i st l,
    State.workDone_keeps State.nextFrame (fun _ _ _ _ _ => rfl) s w i st l,
    State.workDone_keeps State.regs (fun _ _ _ _ _ => rfl) s w i st l,
    State.workDone_keeps State.coh (fun _ _ _ _ _ => rfl) s w i st l,
    State.workDone_keeps State.snap (fun _ _ _ _ _ => rfl) s w i st l,
    State.workDone_keeps State.tb (fun _ _ _ _ _ => rfl) s w i st l,
    State.workDone_keeps State.stp (fun _ _ _ _ _ => rfl) s w i st l,
    State.workDone_keeps State.ldg (fun _ _ _ _ _ => rfl) s w i st l,
    State.workDone_keeps State.mrg (fun _ _ _ _ _ => rfl) s w i st l,
    State.workDone_keeps State.rel (fun _ _ _ _ _ => rfl) s w i st l,
    State.workDone_keeps State.ports (fun _ _ _ _ _ => rfl) s w i st l,
    State.workDone_keeps State.lanes (fun _ _ _ _ _ => rfl) s w i st l,
    State.workDone_keeps State.slices (fun _ _ _ _ _ => rfl) s w i st l,
    State.workDone_keeps State.flow (fun _ _ _ _ _ => rfl) s w i st l,
    State.workDone_keeps State.tm (fun _ _ _ _ _ => rfl) s w i st l,
    State.workDone_keeps State.eng (fun _ _ _ _ _ => rfl) s w i st l,
    State.workDone_keeps State.mgt (fun _ _ _ _ _ => rfl) s w i st l,
    State.workDone_keeps State.nvm (fun _ _ _ _ _ => rfl) s w i st l,
    State.workDone_keeps State.evr (fun _ _ _ _ _ => rfl) s w i st l,
    State.workDone_keeps State.tel (fun _ _ _ _ _ => rfl) s w i st l,
    State.workDone_keeps State.clk (fun _ _ _ _ _ => rfl) s w i st l,
    State.workDone_keeps State.pwr (fun _ _ _ _ _ => rfl) s w i st l,
    State.workDone_keeps State.rst (fun _ _ _ _ _ => rfl) s w i st l,
    State.workDone_keeps State.svc (fun _ _ _ _ _ => rfl) s w i st l,
    State.workDone_keeps State.tap (fun _ _ _ _ _ => rfl) s w i st l⟩

theorem State.nrRaise_keeps {β : Sort _} (obs : State → β)
    (h : ∀ (s : State) x0 x1 x2, obs { s with out := x0, hif := x1, qm := x2 } = obs s)
    (s : State) (n : Nat) : obs (s.nrRaise n) = obs s := by
  unfold State.nrRaise
  try dsimp only
  repeat' split
  all_goals try simp only [State.modNr_keeps obs (fun s x0 => h s s.out s.hif x0), State.msix_keeps obs (fun s x0 x1 x2 => h s x0 x1 x2)]
  all_goals iterate 4 first
    | done
    | rfl
    | (refine (h _ _ _ _).trans ?_; try simp only [State.modNr_keeps obs (fun s x0 => h s s.out s.hif x0), State.msix_keeps obs (fun s x0 x1 x2 => h s x0 x1 x2)])

/-- A vector raised changes only the host link, its ring and what has left the block. -/
@[simp] theorem State.nrRaise_frame (s : State) (n : Nat) :
    (s.nrRaise n).pending = s.pending ∧ (s.nrRaise n).free = s.free ∧ (s.nrRaise n).assured = s.assured ∧ (s.nrRaise n).nextFrame = s.nextFrame ∧
    (s.nrRaise n).regs = s.regs ∧ (s.nrRaise n).ctr = s.ctr ∧ (s.nrRaise n).coh = s.coh ∧ (s.nrRaise n).snap = s.snap ∧
    (s.nrRaise n).tb = s.tb ∧ (s.nrRaise n).stp = s.stp ∧ (s.nrRaise n).ldg = s.ldg ∧ (s.nrRaise n).mrg = s.mrg ∧
    (s.nrRaise n).rel = s.rel ∧ (s.nrRaise n).ports = s.ports ∧ (s.nrRaise n).lanes = s.lanes ∧ (s.nrRaise n).slices = s.slices ∧
    (s.nrRaise n).flow = s.flow ∧ (s.nrRaise n).tm = s.tm ∧ (s.nrRaise n).eng = s.eng ∧ (s.nrRaise n).mgt = s.mgt ∧
    (s.nrRaise n).nvm = s.nvm ∧ (s.nrRaise n).evr = s.evr ∧ (s.nrRaise n).tel = s.tel ∧ (s.nrRaise n).clk = s.clk ∧
    (s.nrRaise n).pwr = s.pwr ∧ (s.nrRaise n).rst = s.rst ∧ (s.nrRaise n).svc = s.svc ∧ (s.nrRaise n).tap = s.tap :=
  ⟨State.nrRaise_keeps State.pending (fun _ _ _ _ => rfl) s n,
    State.nrRaise_keeps State.free (fun _ _ _ _ => rfl) s n,
    State.nrRaise_keeps State.assured (fun _ _ _ _ => rfl) s n,
    State.nrRaise_keeps State.nextFrame (fun _ _ _ _ => rfl) s n,
    State.nrRaise_keeps State.regs (fun _ _ _ _ => rfl) s n,
    State.nrRaise_keeps State.ctr (fun _ _ _ _ => rfl) s n,
    State.nrRaise_keeps State.coh (fun _ _ _ _ => rfl) s n,
    State.nrRaise_keeps State.snap (fun _ _ _ _ => rfl) s n,
    State.nrRaise_keeps State.tb (fun _ _ _ _ => rfl) s n,
    State.nrRaise_keeps State.stp (fun _ _ _ _ => rfl) s n,
    State.nrRaise_keeps State.ldg (fun _ _ _ _ => rfl) s n,
    State.nrRaise_keeps State.mrg (fun _ _ _ _ => rfl) s n,
    State.nrRaise_keeps State.rel (fun _ _ _ _ => rfl) s n,
    State.nrRaise_keeps State.ports (fun _ _ _ _ => rfl) s n,
    State.nrRaise_keeps State.lanes (fun _ _ _ _ => rfl) s n,
    State.nrRaise_keeps State.slices (fun _ _ _ _ => rfl) s n,
    State.nrRaise_keeps State.flow (fun _ _ _ _ => rfl) s n,
    State.nrRaise_keeps State.tm (fun _ _ _ _ => rfl) s n,
    State.nrRaise_keeps State.eng (fun _ _ _ _ => rfl) s n,
    State.nrRaise_keeps State.mgt (fun _ _ _ _ => rfl) s n,
    State.nrRaise_keeps State.nvm (fun _ _ _ _ => rfl) s n,
    State.nrRaise_keeps State.evr (fun _ _ _ _ => rfl) s n,
    State.nrRaise_keeps State.tel (fun _ _ _ _ => rfl) s n,
    State.nrRaise_keeps State.clk (fun _ _ _ _ => rfl) s n,
    State.nrRaise_keeps State.pwr (fun _ _ _ _ => rfl) s n,
    State.nrRaise_keeps State.rst (fun _ _ _ _ => rfl) s n,
    State.nrRaise_keeps State.svc (fun _ _ _ _ => rfl) s n,
    State.nrRaise_keeps State.tap (fun _ _ _ _ => rfl) s n⟩

theorem State.nrPut_keeps {β : Sort _} (obs : State → β)
    (h : ∀ (s : State) x0 x1 x2, obs { s with out := x0, hif := x1, qm := x2 } = obs s)
    (s : State) (n : Nat) (e : Nat → Bytes) : obs (s.nrPut n e) = obs s := by
  unfold State.nrPut
  try dsimp only
  repeat' split
  all_goals try simp only [State.dmaTo_keeps obs (fun s x0 x1 => h s x0 x1 s.qm), State.modNr_keeps obs (fun s x0 => h s s.out s.hif x0), State.nrRaise_keeps obs (fun s x0 x1 x2 => h s x0 x1 x2)]
  all_goals iterate 4 first
    | done
    | rfl
    | (refine (h _ _ _ _).trans ?_; try simp only [State.dmaTo_keeps obs (fun s x0 x1 => h s x0 x1 s.qm), State.modNr_keeps obs (fun s x0 => h s s.out s.hif x0), State.nrRaise_keeps obs (fun s x0 x1 x2 => h s x0 x1 x2)])

/-- A notification entry changes only the host link, its ring and what has left the block. -/
@[simp] theorem State.nrPut_frame (s : State) (n : Nat) (e : Nat → Bytes) :
    (s.nrPut n e).pending = s.pending ∧ (s.nrPut n e).free = s.free ∧ (s.nrPut n e).assured = s.assured ∧ (s.nrPut n e).nextFrame = s.nextFrame ∧
    (s.nrPut n e).regs = s.regs ∧ (s.nrPut n e).ctr = s.ctr ∧ (s.nrPut n e).coh = s.coh ∧ (s.nrPut n e).snap = s.snap ∧
    (s.nrPut n e).tb = s.tb ∧ (s.nrPut n e).stp = s.stp ∧ (s.nrPut n e).ldg = s.ldg ∧ (s.nrPut n e).mrg = s.mrg ∧
    (s.nrPut n e).rel = s.rel ∧ (s.nrPut n e).ports = s.ports ∧ (s.nrPut n e).lanes = s.lanes ∧ (s.nrPut n e).slices = s.slices ∧
    (s.nrPut n e).flow = s.flow ∧ (s.nrPut n e).tm = s.tm ∧ (s.nrPut n e).eng = s.eng ∧ (s.nrPut n e).mgt = s.mgt ∧
    (s.nrPut n e).nvm = s.nvm ∧ (s.nrPut n e).evr = s.evr ∧ (s.nrPut n e).tel = s.tel ∧ (s.nrPut n e).clk = s.clk ∧
    (s.nrPut n e).pwr = s.pwr ∧ (s.nrPut n e).rst = s.rst ∧ (s.nrPut n e).svc = s.svc ∧ (s.nrPut n e).tap = s.tap :=
  ⟨State.nrPut_keeps State.pending (fun _ _ _ _ => rfl) s n e,
    State.nrPut_keeps State.free (fun _ _ _ _ => rfl) s n e,
    State.nrPut_keeps State.assured (fun _ _ _ _ => rfl) s n e,
    State.nrPut_keeps State.nextFrame (fun _ _ _ _ => rfl) s n e,
    State.nrPut_keeps State.regs (fun _ _ _ _ => rfl) s n e,
    State.nrPut_keeps State.ctr (fun _ _ _ _ => rfl) s n e,
    State.nrPut_keeps State.coh (fun _ _ _ _ => rfl) s n e,
    State.nrPut_keeps State.snap (fun _ _ _ _ => rfl) s n e,
    State.nrPut_keeps State.tb (fun _ _ _ _ => rfl) s n e,
    State.nrPut_keeps State.stp (fun _ _ _ _ => rfl) s n e,
    State.nrPut_keeps State.ldg (fun _ _ _ _ => rfl) s n e,
    State.nrPut_keeps State.mrg (fun _ _ _ _ => rfl) s n e,
    State.nrPut_keeps State.rel (fun _ _ _ _ => rfl) s n e,
    State.nrPut_keeps State.ports (fun _ _ _ _ => rfl) s n e,
    State.nrPut_keeps State.lanes (fun _ _ _ _ => rfl) s n e,
    State.nrPut_keeps State.slices (fun _ _ _ _ => rfl) s n e,
    State.nrPut_keeps State.flow (fun _ _ _ _ => rfl) s n e,
    State.nrPut_keeps State.tm (fun _ _ _ _ => rfl) s n e,
    State.nrPut_keeps State.eng (fun _ _ _ _ => rfl) s n e,
    State.nrPut_keeps State.mgt (fun _ _ _ _ => rfl) s n e,
    State.nrPut_keeps State.nvm (fun _ _ _ _ => rfl) s n e,
    State.nrPut_keeps State.evr (fun _ _ _ _ => rfl) s n e,
    State.nrPut_keeps State.tel (fun _ _ _ _ => rfl) s n e,
    State.nrPut_keeps State.clk (fun _ _ _ _ => rfl) s n e,
    State.nrPut_keeps State.pwr (fun _ _ _ _ => rfl) s n e,
    State.nrPut_keeps State.rst (fun _ _ _ _ => rfl) s n e,
    State.nrPut_keeps State.svc (fun _ _ _ _ => rfl) s n e,
    State.nrPut_keeps State.tap (fun _ _ _ _ => rfl) s n e⟩

theorem State.nrWrite_keeps {β : Sort _} (obs : State → β)
    (h : ∀ (s : State) x0 x1 x2, obs { s with out := x0, hif := x1, qm := x2 } = obs s)
    (s : State) (w : Nat) (q : WqSt) (n : Nat) (r : NrSt) : obs (s.nrWrite w q n r) = obs s := by
  unfold State.nrWrite
  try dsimp only
  repeat' split
  all_goals try simp only [State.modWq_keeps obs (fun s x0 => h s s.out s.hif x0), State.modNr_keeps obs (fun s x0 => h s s.out s.hif x0), State.nrPut_keeps obs (fun s x0 x1 x2 => h s x0 x1 x2)]
  all_goals iterate 4 first
    | done
    | rfl
    | (refine (h _ _ _ _).trans ?_; try simp only [State.modWq_keeps obs (fun s x0 => h s s.out s.hif x0), State.modNr_keeps obs (fun s x0 => h s s.out s.hif x0), State.nrPut_keeps obs (fun s x0 x1 x2 => h s x0 x1 x2)])

/-- A notification changes only the host link, queues and what has left the block. -/
@[simp] theorem State.nrWrite_frame (s : State) (w : Nat) (q : WqSt) (n : Nat) (r : NrSt) :
    (s.nrWrite w q n r).pending = s.pending ∧ (s.nrWrite w q n r).free = s.free ∧ (s.nrWrite w q n r).assured = s.assured ∧ (s.nrWrite w q n r).nextFrame = s.nextFrame ∧
    (s.nrWrite w q n r).regs = s.regs ∧ (s.nrWrite w q n r).ctr = s.ctr ∧ (s.nrWrite w q n r).coh = s.coh ∧ (s.nrWrite w q n r).snap = s.snap ∧
    (s.nrWrite w q n r).tb = s.tb ∧ (s.nrWrite w q n r).stp = s.stp ∧ (s.nrWrite w q n r).ldg = s.ldg ∧ (s.nrWrite w q n r).mrg = s.mrg ∧
    (s.nrWrite w q n r).rel = s.rel ∧ (s.nrWrite w q n r).ports = s.ports ∧ (s.nrWrite w q n r).lanes = s.lanes ∧ (s.nrWrite w q n r).slices = s.slices ∧
    (s.nrWrite w q n r).flow = s.flow ∧ (s.nrWrite w q n r).tm = s.tm ∧ (s.nrWrite w q n r).eng = s.eng ∧ (s.nrWrite w q n r).mgt = s.mgt ∧
    (s.nrWrite w q n r).nvm = s.nvm ∧ (s.nrWrite w q n r).evr = s.evr ∧ (s.nrWrite w q n r).tel = s.tel ∧ (s.nrWrite w q n r).clk = s.clk ∧
    (s.nrWrite w q n r).pwr = s.pwr ∧ (s.nrWrite w q n r).rst = s.rst ∧ (s.nrWrite w q n r).svc = s.svc ∧ (s.nrWrite w q n r).tap = s.tap :=
  ⟨State.nrWrite_keeps State.pending (fun _ _ _ _ => rfl) s w q n r,
    State.nrWrite_keeps State.free (fun _ _ _ _ => rfl) s w q n r,
    State.nrWrite_keeps State.assured (fun _ _ _ _ => rfl) s w q n r,
    State.nrWrite_keeps State.nextFrame (fun _ _ _ _ => rfl) s w q n r,
    State.nrWrite_keeps State.regs (fun _ _ _ _ => rfl) s w q n r,
    State.nrWrite_keeps State.ctr (fun _ _ _ _ => rfl) s w q n r,
    State.nrWrite_keeps State.coh (fun _ _ _ _ => rfl) s w q n r,
    State.nrWrite_keeps State.snap (fun _ _ _ _ => rfl) s w q n r,
    State.nrWrite_keeps State.tb (fun _ _ _ _ => rfl) s w q n r,
    State.nrWrite_keeps State.stp (fun _ _ _ _ => rfl) s w q n r,
    State.nrWrite_keeps State.ldg (fun _ _ _ _ => rfl) s w q n r,
    State.nrWrite_keeps State.mrg (fun _ _ _ _ => rfl) s w q n r,
    State.nrWrite_keeps State.rel (fun _ _ _ _ => rfl) s w q n r,
    State.nrWrite_keeps State.ports (fun _ _ _ _ => rfl) s w q n r,
    State.nrWrite_keeps State.lanes (fun _ _ _ _ => rfl) s w q n r,
    State.nrWrite_keeps State.slices (fun _ _ _ _ => rfl) s w q n r,
    State.nrWrite_keeps State.flow (fun _ _ _ _ => rfl) s w q n r,
    State.nrWrite_keeps State.tm (fun _ _ _ _ => rfl) s w q n r,
    State.nrWrite_keeps State.eng (fun _ _ _ _ => rfl) s w q n r,
    State.nrWrite_keeps State.mgt (fun _ _ _ _ => rfl) s w q n r,
    State.nrWrite_keeps State.nvm (fun _ _ _ _ => rfl) s w q n r,
    State.nrWrite_keeps State.evr (fun _ _ _ _ => rfl) s w q n r,
    State.nrWrite_keeps State.tel (fun _ _ _ _ => rfl) s w q n r,
    State.nrWrite_keeps State.clk (fun _ _ _ _ => rfl) s w q n r,
    State.nrWrite_keeps State.pwr (fun _ _ _ _ => rfl) s w q n r,
    State.nrWrite_keeps State.rst (fun _ _ _ _ => rfl) s w q n r,
    State.nrWrite_keeps State.svc (fun _ _ _ _ => rfl) s w q n r,
    State.nrWrite_keeps State.tap (fun _ _ _ _ => rfl) s w q n r⟩

theorem State.nrOverflow_keeps {β : Sort _} (obs : State → β)
    (h : ∀ (s : State) x0 x1, obs { s with qm := x0, ctr := x1 } = obs s)
    (s : State) (n : Nat) : obs (s.nrOverflow n) = obs s := by
  unfold State.nrOverflow
  try dsimp only
  repeat' split
  all_goals try simp only [State.modNr_keeps obs (fun s x0 => h s x0 s.ctr), State.count1_keeps obs (fun s x0 => h s s.qm x0)]
  all_goals iterate 4 first
    | done
    | rfl
    | (refine (h _ _ _).trans ?_; try simp only [State.modNr_keeps obs (fun s x0 => h s x0 s.ctr), State.count1_keeps obs (fun s x0 => h s s.qm x0)])

/-- An overflow changes only its ring and its counter. -/
@[simp] theorem State.nrOverflow_frame (s : State) (n : Nat) :
    (s.nrOverflow n).pending = s.pending ∧ (s.nrOverflow n).free = s.free ∧ (s.nrOverflow n).assured = s.assured ∧ (s.nrOverflow n).out = s.out ∧
    (s.nrOverflow n).nextFrame = s.nextFrame ∧ (s.nrOverflow n).regs = s.regs ∧ (s.nrOverflow n).coh = s.coh ∧ (s.nrOverflow n).snap = s.snap ∧
    (s.nrOverflow n).tb = s.tb ∧ (s.nrOverflow n).stp = s.stp ∧ (s.nrOverflow n).ldg = s.ldg ∧ (s.nrOverflow n).mrg = s.mrg ∧
    (s.nrOverflow n).rel = s.rel ∧ (s.nrOverflow n).ports = s.ports ∧ (s.nrOverflow n).lanes = s.lanes ∧ (s.nrOverflow n).slices = s.slices ∧
    (s.nrOverflow n).flow = s.flow ∧ (s.nrOverflow n).tm = s.tm ∧ (s.nrOverflow n).eng = s.eng ∧ (s.nrOverflow n).hif = s.hif ∧
    (s.nrOverflow n).mgt = s.mgt ∧ (s.nrOverflow n).nvm = s.nvm ∧ (s.nrOverflow n).evr = s.evr ∧ (s.nrOverflow n).tel = s.tel ∧
    (s.nrOverflow n).clk = s.clk ∧ (s.nrOverflow n).pwr = s.pwr ∧ (s.nrOverflow n).rst = s.rst ∧ (s.nrOverflow n).svc = s.svc ∧
    (s.nrOverflow n).tap = s.tap :=
  ⟨State.nrOverflow_keeps State.pending (fun _ _ _ => rfl) s n,
    State.nrOverflow_keeps State.free (fun _ _ _ => rfl) s n,
    State.nrOverflow_keeps State.assured (fun _ _ _ => rfl) s n,
    State.nrOverflow_keeps State.out (fun _ _ _ => rfl) s n,
    State.nrOverflow_keeps State.nextFrame (fun _ _ _ => rfl) s n,
    State.nrOverflow_keeps State.regs (fun _ _ _ => rfl) s n,
    State.nrOverflow_keeps State.coh (fun _ _ _ => rfl) s n,
    State.nrOverflow_keeps State.snap (fun _ _ _ => rfl) s n,
    State.nrOverflow_keeps State.tb (fun _ _ _ => rfl) s n,
    State.nrOverflow_keeps State.stp (fun _ _ _ => rfl) s n,
    State.nrOverflow_keeps State.ldg (fun _ _ _ => rfl) s n,
    State.nrOverflow_keeps State.mrg (fun _ _ _ => rfl) s n,
    State.nrOverflow_keeps State.rel (fun _ _ _ => rfl) s n,
    State.nrOverflow_keeps State.ports (fun _ _ _ => rfl) s n,
    State.nrOverflow_keeps State.lanes (fun _ _ _ => rfl) s n,
    State.nrOverflow_keeps State.slices (fun _ _ _ => rfl) s n,
    State.nrOverflow_keeps State.flow (fun _ _ _ => rfl) s n,
    State.nrOverflow_keeps State.tm (fun _ _ _ => rfl) s n,
    State.nrOverflow_keeps State.eng (fun _ _ _ => rfl) s n,
    State.nrOverflow_keeps State.hif (fun _ _ _ => rfl) s n,
    State.nrOverflow_keeps State.mgt (fun _ _ _ => rfl) s n,
    State.nrOverflow_keeps State.nvm (fun _ _ _ => rfl) s n,
    State.nrOverflow_keeps State.evr (fun _ _ _ => rfl) s n,
    State.nrOverflow_keeps State.tel (fun _ _ _ => rfl) s n,
    State.nrOverflow_keeps State.clk (fun _ _ _ => rfl) s n,
    State.nrOverflow_keeps State.pwr (fun _ _ _ => rfl) s n,
    State.nrOverflow_keeps State.rst (fun _ _ _ => rfl) s n,
    State.nrOverflow_keeps State.svc (fun _ _ _ => rfl) s n,
    State.nrOverflow_keeps State.tap (fun _ _ _ => rfl) s n⟩

theorem State.nrPend_keeps {β : Sort _} (obs : State → β)
    (h : ∀ (s : State) x0, obs { s with qm := x0 } = obs s)
    (s : State) (w n : Nat) : obs (s.nrPend w n) = obs s := by
  unfold State.nrPend
  try dsimp only
  repeat' split
  all_goals try simp only [State.modWq_keeps obs (fun s x0 => h s x0), State.modNr_keeps obs (fun s x0 => h s x0)]
  all_goals iterate 4 first
    | done
    | rfl
    | (refine (h _ _).trans ?_; try simp only [State.modWq_keeps obs (fun s x0 => h s x0), State.modNr_keeps obs (fun s x0 => h s x0)])

/-- A pending notification changes only the queue structures. -/
@[simp] theorem State.nrPend_frame (s : State) (w n : Nat) :
    (s.nrPend w n).pending = s.pending ∧ (s.nrPend w n).free = s.free ∧ (s.nrPend w n).assured = s.assured ∧ (s.nrPend w n).out = s.out ∧
    (s.nrPend w n).nextFrame = s.nextFrame ∧ (s.nrPend w n).regs = s.regs ∧ (s.nrPend w n).ctr = s.ctr ∧ (s.nrPend w n).coh = s.coh ∧
    (s.nrPend w n).snap = s.snap ∧ (s.nrPend w n).tb = s.tb ∧ (s.nrPend w n).stp = s.stp ∧ (s.nrPend w n).ldg = s.ldg ∧
    (s.nrPend w n).mrg = s.mrg ∧ (s.nrPend w n).rel = s.rel ∧ (s.nrPend w n).ports = s.ports ∧ (s.nrPend w n).lanes = s.lanes ∧
    (s.nrPend w n).slices = s.slices ∧ (s.nrPend w n).flow = s.flow ∧ (s.nrPend w n).tm = s.tm ∧ (s.nrPend w n).eng = s.eng ∧
    (s.nrPend w n).hif = s.hif ∧ (s.nrPend w n).mgt = s.mgt ∧ (s.nrPend w n).nvm = s.nvm ∧ (s.nrPend w n).evr = s.evr ∧
    (s.nrPend w n).tel = s.tel ∧ (s.nrPend w n).clk = s.clk ∧ (s.nrPend w n).pwr = s.pwr ∧ (s.nrPend w n).rst = s.rst ∧
    (s.nrPend w n).svc = s.svc ∧ (s.nrPend w n).tap = s.tap :=
  ⟨State.nrPend_keeps State.pending (fun _ _ => rfl) s w n,
    State.nrPend_keeps State.free (fun _ _ => rfl) s w n,
    State.nrPend_keeps State.assured (fun _ _ => rfl) s w n,
    State.nrPend_keeps State.out (fun _ _ => rfl) s w n,
    State.nrPend_keeps State.nextFrame (fun _ _ => rfl) s w n,
    State.nrPend_keeps State.regs (fun _ _ => rfl) s w n,
    State.nrPend_keeps State.ctr (fun _ _ => rfl) s w n,
    State.nrPend_keeps State.coh (fun _ _ => rfl) s w n,
    State.nrPend_keeps State.snap (fun _ _ => rfl) s w n,
    State.nrPend_keeps State.tb (fun _ _ => rfl) s w n,
    State.nrPend_keeps State.stp (fun _ _ => rfl) s w n,
    State.nrPend_keeps State.ldg (fun _ _ => rfl) s w n,
    State.nrPend_keeps State.mrg (fun _ _ => rfl) s w n,
    State.nrPend_keeps State.rel (fun _ _ => rfl) s w n,
    State.nrPend_keeps State.ports (fun _ _ => rfl) s w n,
    State.nrPend_keeps State.lanes (fun _ _ => rfl) s w n,
    State.nrPend_keeps State.slices (fun _ _ => rfl) s w n,
    State.nrPend_keeps State.flow (fun _ _ => rfl) s w n,
    State.nrPend_keeps State.tm (fun _ _ => rfl) s w n,
    State.nrPend_keeps State.eng (fun _ _ => rfl) s w n,
    State.nrPend_keeps State.hif (fun _ _ => rfl) s w n,
    State.nrPend_keeps State.mgt (fun _ _ => rfl) s w n,
    State.nrPend_keeps State.nvm (fun _ _ => rfl) s w n,
    State.nrPend_keeps State.evr (fun _ _ => rfl) s w n,
    State.nrPend_keeps State.tel (fun _ _ => rfl) s w n,
    State.nrPend_keeps State.clk (fun _ _ => rfl) s w n,
    State.nrPend_keeps State.pwr (fun _ _ => rfl) s w n,
    State.nrPend_keeps State.rst (fun _ _ => rfl) s w n,
    State.nrPend_keeps State.svc (fun _ _ => rfl) s w n,
    State.nrPend_keeps State.tap (fun _ _ => rfl) s w n⟩

theorem State.notify_keeps {β : Sort _} (obs : State → β)
    (h : ∀ (s : State) x0 x1 x2 x3, obs { s with out := x0, hif := x1, qm := x2, ctr := x3 } = obs s)
    (s : State) (w : Nat) : obs (s.notify w) = obs s := by
  unfold State.notify
  try dsimp only
  repeat' split
  all_goals try simp only [State.nrPend_keeps obs (fun s x0 => h s s.out s.hif x0 s.ctr), State.nrOverflow_keeps obs (fun s x0 x1 => h s s.out s.hif x0 x1), State.nrWrite_keeps obs (fun s x0 x1 x2 => h s x0 x1 x2 s.ctr)]
  all_goals iterate 4 first
    | done
    | rfl
    | (refine (h _ _ _ _ _).trans ?_; try simp only [State.nrPend_keeps obs (fun s x0 => h s s.out s.hif x0 s.ctr), State.nrOverflow_keeps obs (fun s x0 x1 => h s s.out s.hif x0 x1), State.nrWrite_keeps obs (fun s x0 x1 x2 => h s x0 x1 x2 s.ctr)])

/-- A notification changes only the host link, queues, a counter and what has left the block. -/
@[simp] theorem State.notify_frame (s : State) (w : Nat) :
    (s.notify w).pending = s.pending ∧ (s.notify w).free = s.free ∧ (s.notify w).assured = s.assured ∧ (s.notify w).nextFrame = s.nextFrame ∧
    (s.notify w).regs = s.regs ∧ (s.notify w).coh = s.coh ∧ (s.notify w).snap = s.snap ∧ (s.notify w).tb = s.tb ∧
    (s.notify w).stp = s.stp ∧ (s.notify w).ldg = s.ldg ∧ (s.notify w).mrg = s.mrg ∧ (s.notify w).rel = s.rel ∧
    (s.notify w).ports = s.ports ∧ (s.notify w).lanes = s.lanes ∧ (s.notify w).slices = s.slices ∧ (s.notify w).flow = s.flow ∧
    (s.notify w).tm = s.tm ∧ (s.notify w).eng = s.eng ∧ (s.notify w).mgt = s.mgt ∧ (s.notify w).nvm = s.nvm ∧
    (s.notify w).evr = s.evr ∧ (s.notify w).tel = s.tel ∧ (s.notify w).clk = s.clk ∧ (s.notify w).pwr = s.pwr ∧
    (s.notify w).rst = s.rst ∧ (s.notify w).svc = s.svc ∧ (s.notify w).tap = s.tap :=
  ⟨State.notify_keeps State.pending (fun _ _ _ _ _ => rfl) s w,
    State.notify_keeps State.free (fun _ _ _ _ _ => rfl) s w,
    State.notify_keeps State.assured (fun _ _ _ _ _ => rfl) s w,
    State.notify_keeps State.nextFrame (fun _ _ _ _ _ => rfl) s w,
    State.notify_keeps State.regs (fun _ _ _ _ _ => rfl) s w,
    State.notify_keeps State.coh (fun _ _ _ _ _ => rfl) s w,
    State.notify_keeps State.snap (fun _ _ _ _ _ => rfl) s w,
    State.notify_keeps State.tb (fun _ _ _ _ _ => rfl) s w,
    State.notify_keeps State.stp (fun _ _ _ _ _ => rfl) s w,
    State.notify_keeps State.ldg (fun _ _ _ _ _ => rfl) s w,
    State.notify_keeps State.mrg (fun _ _ _ _ _ => rfl) s w,
    State.notify_keeps State.rel (fun _ _ _ _ _ => rfl) s w,
    State.notify_keeps State.ports (fun _ _ _ _ _ => rfl) s w,
    State.notify_keeps State.lanes (fun _ _ _ _ _ => rfl) s w,
    State.notify_keeps State.slices (fun _ _ _ _ _ => rfl) s w,
    State.notify_keeps State.flow (fun _ _ _ _ _ => rfl) s w,
    State.notify_keeps State.tm (fun _ _ _ _ _ => rfl) s w,
    State.notify_keeps State.eng (fun _ _ _ _ _ => rfl) s w,
    State.notify_keeps State.mgt (fun _ _ _ _ _ => rfl) s w,
    State.notify_keeps State.nvm (fun _ _ _ _ _ => rfl) s w,
    State.notify_keeps State.evr (fun _ _ _ _ _ => rfl) s w,
    State.notify_keeps State.tel (fun _ _ _ _ _ => rfl) s w,
    State.notify_keeps State.clk (fun _ _ _ _ _ => rfl) s w,
    State.notify_keeps State.pwr (fun _ _ _ _ _ => rfl) s w,
    State.notify_keeps State.rst (fun _ _ _ _ _ => rfl) s w,
    State.notify_keeps State.svc (fun _ _ _ _ _ => rfl) s w,
    State.notify_keeps State.tap (fun _ _ _ _ _ => rfl) s w⟩

theorem State.nrDrop_keeps {β : Sort _} (obs : State → β)
    (h : ∀ (s : State) x0, obs { s with qm := x0 } = obs s)
    (s : State) (w n : Nat) : obs (s.nrDrop w n) = obs s := by
  unfold State.nrDrop
  try dsimp only
  repeat' split
  all_goals try simp only [State.modWq_keeps obs (fun s x0 => h s x0), State.modNr_keeps obs (fun s x0 => h s x0)]
  all_goals iterate 4 first
    | done
    | rfl
    | (refine (h _ _).trans ?_; try simp only [State.modWq_keeps obs (fun s x0 => h s x0), State.modNr_keeps obs (fun s x0 => h s x0)])

/-- A notification no more due changes only the queue structures. -/
@[simp] theorem State.nrDrop_frame (s : State) (w n : Nat) :
    (s.nrDrop w n).pending = s.pending ∧ (s.nrDrop w n).free = s.free ∧ (s.nrDrop w n).assured = s.assured ∧ (s.nrDrop w n).out = s.out ∧
    (s.nrDrop w n).nextFrame = s.nextFrame ∧ (s.nrDrop w n).regs = s.regs ∧ (s.nrDrop w n).ctr = s.ctr ∧ (s.nrDrop w n).coh = s.coh ∧
    (s.nrDrop w n).snap = s.snap ∧ (s.nrDrop w n).tb = s.tb ∧ (s.nrDrop w n).stp = s.stp ∧ (s.nrDrop w n).ldg = s.ldg ∧
    (s.nrDrop w n).mrg = s.mrg ∧ (s.nrDrop w n).rel = s.rel ∧ (s.nrDrop w n).ports = s.ports ∧ (s.nrDrop w n).lanes = s.lanes ∧
    (s.nrDrop w n).slices = s.slices ∧ (s.nrDrop w n).flow = s.flow ∧ (s.nrDrop w n).tm = s.tm ∧ (s.nrDrop w n).eng = s.eng ∧
    (s.nrDrop w n).hif = s.hif ∧ (s.nrDrop w n).mgt = s.mgt ∧ (s.nrDrop w n).nvm = s.nvm ∧ (s.nrDrop w n).evr = s.evr ∧
    (s.nrDrop w n).tel = s.tel ∧ (s.nrDrop w n).clk = s.clk ∧ (s.nrDrop w n).pwr = s.pwr ∧ (s.nrDrop w n).rst = s.rst ∧
    (s.nrDrop w n).svc = s.svc ∧ (s.nrDrop w n).tap = s.tap :=
  ⟨State.nrDrop_keeps State.pending (fun _ _ => rfl) s w n,
    State.nrDrop_keeps State.free (fun _ _ => rfl) s w n,
    State.nrDrop_keeps State.assured (fun _ _ => rfl) s w n,
    State.nrDrop_keeps State.out (fun _ _ => rfl) s w n,
    State.nrDrop_keeps State.nextFrame (fun _ _ => rfl) s w n,
    State.nrDrop_keeps State.regs (fun _ _ => rfl) s w n,
    State.nrDrop_keeps State.ctr (fun _ _ => rfl) s w n,
    State.nrDrop_keeps State.coh (fun _ _ => rfl) s w n,
    State.nrDrop_keeps State.snap (fun _ _ => rfl) s w n,
    State.nrDrop_keeps State.tb (fun _ _ => rfl) s w n,
    State.nrDrop_keeps State.stp (fun _ _ => rfl) s w n,
    State.nrDrop_keeps State.ldg (fun _ _ => rfl) s w n,
    State.nrDrop_keeps State.mrg (fun _ _ => rfl) s w n,
    State.nrDrop_keeps State.rel (fun _ _ => rfl) s w n,
    State.nrDrop_keeps State.ports (fun _ _ => rfl) s w n,
    State.nrDrop_keeps State.lanes (fun _ _ => rfl) s w n,
    State.nrDrop_keeps State.slices (fun _ _ => rfl) s w n,
    State.nrDrop_keeps State.flow (fun _ _ => rfl) s w n,
    State.nrDrop_keeps State.tm (fun _ _ => rfl) s w n,
    State.nrDrop_keeps State.eng (fun _ _ => rfl) s w n,
    State.nrDrop_keeps State.hif (fun _ _ => rfl) s w n,
    State.nrDrop_keeps State.mgt (fun _ _ => rfl) s w n,
    State.nrDrop_keeps State.nvm (fun _ _ => rfl) s w n,
    State.nrDrop_keeps State.evr (fun _ _ => rfl) s w n,
    State.nrDrop_keeps State.tel (fun _ _ => rfl) s w n,
    State.nrDrop_keeps State.clk (fun _ _ => rfl) s w n,
    State.nrDrop_keeps State.pwr (fun _ _ => rfl) s w n,
    State.nrDrop_keeps State.rst (fun _ _ => rfl) s w n,
    State.nrDrop_keeps State.svc (fun _ _ => rfl) s w n,
    State.nrDrop_keeps State.tap (fun _ _ => rfl) s w n⟩

theorem State.genReport_keeps {β : Sort _} (obs : State → β)
    (h : ∀ (s : State) x0 x1 x2 x3 x4, obs { s with out := x0, hif := x1, qm := x2, ctr := x3, evr := x4 } = obs s)
    (s : State) (t : Stamp) (w i e f : Nat) (g : BitVec 16) : obs (s.genReport t w i e f g) = obs s := by
  unfold State.genReport
  try dsimp only
  repeat' split
  all_goals try simp only [State.count_keeps obs (fun s x0 => h s s.out s.hif s.qm x0 s.evr), State.event_keeps obs (fun s x0 x1 x2 => h s x1 s.hif s.qm x2 x0), State.nrPut_keeps obs (fun s x0 x1 x2 => h s x0 x1 x2 s.ctr s.evr)]
  all_goals iterate 4 first
    | done
    | rfl
    | (refine (h _ _ _ _ _ _).trans ?_; try simp only [State.count_keeps obs (fun s x0 => h s s.out s.hif s.qm x0 s.evr), State.event_keeps obs (fun s x0 x1 x2 => h s x1 s.hif s.qm x2 x0), State.nrPut_keeps obs (fun s x0 x1 x2 => h s x0 x1 x2 s.ctr s.evr)])

/-- A report changes only the host link, queues, counters, the recorder and what has left the block. -/
@[simp] theorem State.genReport_frame (s : State) (t : Stamp) (w i e f : Nat) (g : BitVec 16) :
    (s.genReport t w i e f g).pending = s.pending ∧ (s.genReport t w i e f g).free = s.free ∧ (s.genReport t w i e f g).assured = s.assured ∧ (s.genReport t w i e f g).nextFrame = s.nextFrame ∧
    (s.genReport t w i e f g).regs = s.regs ∧ (s.genReport t w i e f g).coh = s.coh ∧ (s.genReport t w i e f g).snap = s.snap ∧ (s.genReport t w i e f g).tb = s.tb ∧
    (s.genReport t w i e f g).stp = s.stp ∧ (s.genReport t w i e f g).ldg = s.ldg ∧ (s.genReport t w i e f g).mrg = s.mrg ∧ (s.genReport t w i e f g).rel = s.rel ∧
    (s.genReport t w i e f g).ports = s.ports ∧ (s.genReport t w i e f g).lanes = s.lanes ∧ (s.genReport t w i e f g).slices = s.slices ∧ (s.genReport t w i e f g).flow = s.flow ∧
    (s.genReport t w i e f g).tm = s.tm ∧ (s.genReport t w i e f g).eng = s.eng ∧ (s.genReport t w i e f g).mgt = s.mgt ∧ (s.genReport t w i e f g).nvm = s.nvm ∧
    (s.genReport t w i e f g).tel = s.tel ∧ (s.genReport t w i e f g).clk = s.clk ∧ (s.genReport t w i e f g).pwr = s.pwr ∧ (s.genReport t w i e f g).rst = s.rst ∧
    (s.genReport t w i e f g).svc = s.svc ∧ (s.genReport t w i e f g).tap = s.tap :=
  ⟨State.genReport_keeps State.pending (fun _ _ _ _ _ _ => rfl) s t w i e f g,
    State.genReport_keeps State.free (fun _ _ _ _ _ _ => rfl) s t w i e f g,
    State.genReport_keeps State.assured (fun _ _ _ _ _ _ => rfl) s t w i e f g,
    State.genReport_keeps State.nextFrame (fun _ _ _ _ _ _ => rfl) s t w i e f g,
    State.genReport_keeps State.regs (fun _ _ _ _ _ _ => rfl) s t w i e f g,
    State.genReport_keeps State.coh (fun _ _ _ _ _ _ => rfl) s t w i e f g,
    State.genReport_keeps State.snap (fun _ _ _ _ _ _ => rfl) s t w i e f g,
    State.genReport_keeps State.tb (fun _ _ _ _ _ _ => rfl) s t w i e f g,
    State.genReport_keeps State.stp (fun _ _ _ _ _ _ => rfl) s t w i e f g,
    State.genReport_keeps State.ldg (fun _ _ _ _ _ _ => rfl) s t w i e f g,
    State.genReport_keeps State.mrg (fun _ _ _ _ _ _ => rfl) s t w i e f g,
    State.genReport_keeps State.rel (fun _ _ _ _ _ _ => rfl) s t w i e f g,
    State.genReport_keeps State.ports (fun _ _ _ _ _ _ => rfl) s t w i e f g,
    State.genReport_keeps State.lanes (fun _ _ _ _ _ _ => rfl) s t w i e f g,
    State.genReport_keeps State.slices (fun _ _ _ _ _ _ => rfl) s t w i e f g,
    State.genReport_keeps State.flow (fun _ _ _ _ _ _ => rfl) s t w i e f g,
    State.genReport_keeps State.tm (fun _ _ _ _ _ _ => rfl) s t w i e f g,
    State.genReport_keeps State.eng (fun _ _ _ _ _ _ => rfl) s t w i e f g,
    State.genReport_keeps State.mgt (fun _ _ _ _ _ _ => rfl) s t w i e f g,
    State.genReport_keeps State.nvm (fun _ _ _ _ _ _ => rfl) s t w i e f g,
    State.genReport_keeps State.tel (fun _ _ _ _ _ _ => rfl) s t w i e f g,
    State.genReport_keeps State.clk (fun _ _ _ _ _ _ => rfl) s t w i e f g,
    State.genReport_keeps State.pwr (fun _ _ _ _ _ _ => rfl) s t w i e f g,
    State.genReport_keeps State.rst (fun _ _ _ _ _ _ => rfl) s t w i e f g,
    State.genReport_keeps State.svc (fun _ _ _ _ _ _ => rfl) s t w i e f g,
    State.genReport_keeps State.tap (fun _ _ _ _ _ _ => rfl) s t w i e f g⟩

theorem State.serviceDone_keeps {β : Sort _} (obs : State → β)
    (h : ∀ (s : State) x0 x1 x2 x3, obs { s with svc := x0, out := x1, hif := x2, qm := x3 } = obs s)
    (s : State) (u : UnitRef) (st : Nat) : obs (s.serviceDone u st) = obs s := by
  unfold State.serviceDone
  try dsimp only
  repeat' split
  all_goals try simp only [State.setUnit_keeps obs (fun s x0 => h s x0 s.out s.hif s.qm), State.adminDone_keeps obs (fun s x0 x1 x2 => h s s.svc x0 x1 x2)]
  all_goals iterate 4 first
    | done
    | rfl
    | (refine (h _ _ _ _ _).trans ?_; try simp only [State.setUnit_keeps obs (fun s x0 => h s x0 s.out s.hif s.qm), State.adminDone_keeps obs (fun s x0 x1 x2 => h s s.svc x0 x1 x2)])

/-- The completion of SERVICE_STATE changes only that, the host link, its function and what has left the block. -/
@[simp] theorem State.serviceDone_frame (s : State) (u : UnitRef) (st : Nat) :
    (s.serviceDone u st).pending = s.pending ∧ (s.serviceDone u st).free = s.free ∧ (s.serviceDone u st).assured = s.assured ∧ (s.serviceDone u st).nextFrame = s.nextFrame ∧
    (s.serviceDone u st).regs = s.regs ∧ (s.serviceDone u st).ctr = s.ctr ∧ (s.serviceDone u st).coh = s.coh ∧ (s.serviceDone u st).snap = s.snap ∧
    (s.serviceDone u st).tb = s.tb ∧ (s.serviceDone u st).stp = s.stp ∧ (s.serviceDone u st).ldg = s.ldg ∧ (s.serviceDone u st).mrg = s.mrg ∧
    (s.serviceDone u st).rel = s.rel ∧ (s.serviceDone u st).ports = s.ports ∧ (s.serviceDone u st).lanes = s.lanes ∧ (s.serviceDone u st).slices = s.slices ∧
    (s.serviceDone u st).flow = s.flow ∧ (s.serviceDone u st).tm = s.tm ∧ (s.serviceDone u st).eng = s.eng ∧ (s.serviceDone u st).mgt = s.mgt ∧
    (s.serviceDone u st).nvm = s.nvm ∧ (s.serviceDone u st).evr = s.evr ∧ (s.serviceDone u st).tel = s.tel ∧ (s.serviceDone u st).clk = s.clk ∧
    (s.serviceDone u st).pwr = s.pwr ∧ (s.serviceDone u st).rst = s.rst ∧ (s.serviceDone u st).tap = s.tap :=
  ⟨State.serviceDone_keeps State.pending (fun _ _ _ _ _ => rfl) s u st,
    State.serviceDone_keeps State.free (fun _ _ _ _ _ => rfl) s u st,
    State.serviceDone_keeps State.assured (fun _ _ _ _ _ => rfl) s u st,
    State.serviceDone_keeps State.nextFrame (fun _ _ _ _ _ => rfl) s u st,
    State.serviceDone_keeps State.regs (fun _ _ _ _ _ => rfl) s u st,
    State.serviceDone_keeps State.ctr (fun _ _ _ _ _ => rfl) s u st,
    State.serviceDone_keeps State.coh (fun _ _ _ _ _ => rfl) s u st,
    State.serviceDone_keeps State.snap (fun _ _ _ _ _ => rfl) s u st,
    State.serviceDone_keeps State.tb (fun _ _ _ _ _ => rfl) s u st,
    State.serviceDone_keeps State.stp (fun _ _ _ _ _ => rfl) s u st,
    State.serviceDone_keeps State.ldg (fun _ _ _ _ _ => rfl) s u st,
    State.serviceDone_keeps State.mrg (fun _ _ _ _ _ => rfl) s u st,
    State.serviceDone_keeps State.rel (fun _ _ _ _ _ => rfl) s u st,
    State.serviceDone_keeps State.ports (fun _ _ _ _ _ => rfl) s u st,
    State.serviceDone_keeps State.lanes (fun _ _ _ _ _ => rfl) s u st,
    State.serviceDone_keeps State.slices (fun _ _ _ _ _ => rfl) s u st,
    State.serviceDone_keeps State.flow (fun _ _ _ _ _ => rfl) s u st,
    State.serviceDone_keeps State.tm (fun _ _ _ _ _ => rfl) s u st,
    State.serviceDone_keeps State.eng (fun _ _ _ _ _ => rfl) s u st,
    State.serviceDone_keeps State.mgt (fun _ _ _ _ _ => rfl) s u st,
    State.serviceDone_keeps State.nvm (fun _ _ _ _ _ => rfl) s u st,
    State.serviceDone_keeps State.evr (fun _ _ _ _ _ => rfl) s u st,
    State.serviceDone_keeps State.tel (fun _ _ _ _ _ => rfl) s u st,
    State.serviceDone_keeps State.clk (fun _ _ _ _ _ => rfl) s u st,
    State.serviceDone_keeps State.pwr (fun _ _ _ _ _ => rfl) s u st,
    State.serviceDone_keeps State.rst (fun _ _ _ _ _ => rfl) s u st,
    State.serviceDone_keeps State.tap (fun _ _ _ _ _ => rfl) s u st⟩

theorem State.unitFault_keeps {β : Sort _} (obs : State → β)
    (h : ∀ (s : State) x0 x1 x2 x3 x4 x5 x6 x7, obs { s with svc := x0, out := x1, hif := x2, qm := x3, evr := x4, ctr := x5, mgt := x6, free := x7 } = obs s)
    (s : State) (u : UnitRef) (b : Bool) : obs (s.unitFault u b) = obs s := by
  unfold State.unitFault
  try dsimp only
  repeat' split
  all_goals try simp only [State.setUnit_keeps obs (fun s x0 => h s x0 s.out s.hif s.qm s.evr s.ctr s.mgt s.free), State.moveUnit_keeps obs (fun s x0 x1 x2 x3 x4 x5 x6 => h s x0 x2 x6 s.qm x1 x3 x4 x5), State.serviceDone_keeps obs (fun s x0 x1 x2 x3 => h s x0 x1 x2 x3 s.evr s.ctr s.mgt s.free)]
  all_goals iterate 4 first
    | done
    | rfl
    | (refine (h _ _ _ _ _ _ _ _ _).trans ?_; try simp only [State.setUnit_keeps obs (fun s x0 => h s x0 s.out s.hif s.qm s.evr s.ctr s.mgt s.free), State.moveUnit_keeps obs (fun s x0 x1 x2 x3 x4 x5 x6 => h s x0 x2 x6 s.qm x1 x3 x4 x5), State.serviceDone_keeps obs (fun s x0 x1 x2 x3 => h s x0 x1 x2 x3 s.evr s.ctr s.mgt s.free)])

/-- A unit's fault changes only service states and what its event and completion change. -/
@[simp] theorem State.unitFault_frame (s : State) (u : UnitRef) (b : Bool) :
    (s.unitFault u b).pending = s.pending ∧ (s.unitFault u b).assured = s.assured ∧ (s.unitFault u b).nextFrame = s.nextFrame ∧ (s.unitFault u b).regs = s.regs ∧
    (s.unitFault u b).coh = s.coh ∧ (s.unitFault u b).snap = s.snap ∧ (s.unitFault u b).tb = s.tb ∧ (s.unitFault u b).stp = s.stp ∧
    (s.unitFault u b).ldg = s.ldg ∧ (s.unitFault u b).mrg = s.mrg ∧ (s.unitFault u b).rel = s.rel ∧ (s.unitFault u b).ports = s.ports ∧
    (s.unitFault u b).lanes = s.lanes ∧ (s.unitFault u b).slices = s.slices ∧ (s.unitFault u b).flow = s.flow ∧ (s.unitFault u b).tm = s.tm ∧
    (s.unitFault u b).eng = s.eng ∧ (s.unitFault u b).nvm = s.nvm ∧ (s.unitFault u b).tel = s.tel ∧ (s.unitFault u b).clk = s.clk ∧
    (s.unitFault u b).pwr = s.pwr ∧ (s.unitFault u b).rst = s.rst ∧ (s.unitFault u b).tap = s.tap :=
  ⟨State.unitFault_keeps State.pending (fun _ _ _ _ _ _ _ _ _ => rfl) s u b,
    State.unitFault_keeps State.assured (fun _ _ _ _ _ _ _ _ _ => rfl) s u b,
    State.unitFault_keeps State.nextFrame (fun _ _ _ _ _ _ _ _ _ => rfl) s u b,
    State.unitFault_keeps State.regs (fun _ _ _ _ _ _ _ _ _ => rfl) s u b,
    State.unitFault_keeps State.coh (fun _ _ _ _ _ _ _ _ _ => rfl) s u b,
    State.unitFault_keeps State.snap (fun _ _ _ _ _ _ _ _ _ => rfl) s u b,
    State.unitFault_keeps State.tb (fun _ _ _ _ _ _ _ _ _ => rfl) s u b,
    State.unitFault_keeps State.stp (fun _ _ _ _ _ _ _ _ _ => rfl) s u b,
    State.unitFault_keeps State.ldg (fun _ _ _ _ _ _ _ _ _ => rfl) s u b,
    State.unitFault_keeps State.mrg (fun _ _ _ _ _ _ _ _ _ => rfl) s u b,
    State.unitFault_keeps State.rel (fun _ _ _ _ _ _ _ _ _ => rfl) s u b,
    State.unitFault_keeps State.ports (fun _ _ _ _ _ _ _ _ _ => rfl) s u b,
    State.unitFault_keeps State.lanes (fun _ _ _ _ _ _ _ _ _ => rfl) s u b,
    State.unitFault_keeps State.slices (fun _ _ _ _ _ _ _ _ _ => rfl) s u b,
    State.unitFault_keeps State.flow (fun _ _ _ _ _ _ _ _ _ => rfl) s u b,
    State.unitFault_keeps State.tm (fun _ _ _ _ _ _ _ _ _ => rfl) s u b,
    State.unitFault_keeps State.eng (fun _ _ _ _ _ _ _ _ _ => rfl) s u b,
    State.unitFault_keeps State.nvm (fun _ _ _ _ _ _ _ _ _ => rfl) s u b,
    State.unitFault_keeps State.tel (fun _ _ _ _ _ _ _ _ _ => rfl) s u b,
    State.unitFault_keeps State.clk (fun _ _ _ _ _ _ _ _ _ => rfl) s u b,
    State.unitFault_keeps State.pwr (fun _ _ _ _ _ _ _ _ _ => rfl) s u b,
    State.unitFault_keeps State.rst (fun _ _ _ _ _ _ _ _ _ => rfl) s u b,
    State.unitFault_keeps State.tap (fun _ _ _ _ _ _ _ _ _ => rfl) s u b⟩

theorem State.checkRefuse_keeps {β : Sort _} (obs : State → β)
    (h : ∀ (s : State) x0 x1 x2 x3, obs { s with ldg := x0, evr := x1, out := x2, ctr := x3 } = obs s)
    (s : State) : obs (s.checkRefuse) = obs s := by
  unfold State.checkRefuse
  try dsimp only
  repeat' split
  all_goals try simp only [State.event_keeps obs (fun s x0 x1 x2 => h s s.ldg x0 x1 x2)]
  all_goals iterate 4 first
    | done
    | rfl
    | (refine (h _ _ _ _ _).trans ?_; try simp only [State.event_keeps obs (fun s x0 x1 x2 => h s s.ldg x0 x1 x2)])

/-- Refusal changes only the ledger and what its event changes. -/
@[simp] theorem State.checkRefuse_frame (s : State) :
    (s.checkRefuse).pending = s.pending ∧ (s.checkRefuse).free = s.free ∧ (s.checkRefuse).assured = s.assured ∧ (s.checkRefuse).nextFrame = s.nextFrame ∧
    (s.checkRefuse).regs = s.regs ∧ (s.checkRefuse).coh = s.coh ∧ (s.checkRefuse).snap = s.snap ∧ (s.checkRefuse).tb = s.tb ∧
    (s.checkRefuse).stp = s.stp ∧ (s.checkRefuse).mrg = s.mrg ∧ (s.checkRefuse).rel = s.rel ∧ (s.checkRefuse).ports = s.ports ∧
    (s.checkRefuse).lanes = s.lanes ∧ (s.checkRefuse).slices = s.slices ∧ (s.checkRefuse).flow = s.flow ∧ (s.checkRefuse).tm = s.tm ∧
    (s.checkRefuse).eng = s.eng ∧ (s.checkRefuse).hif = s.hif ∧ (s.checkRefuse).qm = s.qm ∧ (s.checkRefuse).mgt = s.mgt ∧
    (s.checkRefuse).nvm = s.nvm ∧ (s.checkRefuse).tel = s.tel ∧ (s.checkRefuse).clk = s.clk ∧ (s.checkRefuse).pwr = s.pwr ∧
    (s.checkRefuse).rst = s.rst ∧ (s.checkRefuse).svc = s.svc ∧ (s.checkRefuse).tap = s.tap :=
  ⟨State.checkRefuse_keeps State.pending (fun _ _ _ _ _ => rfl) s,
    State.checkRefuse_keeps State.free (fun _ _ _ _ _ => rfl) s,
    State.checkRefuse_keeps State.assured (fun _ _ _ _ _ => rfl) s,
    State.checkRefuse_keeps State.nextFrame (fun _ _ _ _ _ => rfl) s,
    State.checkRefuse_keeps State.regs (fun _ _ _ _ _ => rfl) s,
    State.checkRefuse_keeps State.coh (fun _ _ _ _ _ => rfl) s,
    State.checkRefuse_keeps State.snap (fun _ _ _ _ _ => rfl) s,
    State.checkRefuse_keeps State.tb (fun _ _ _ _ _ => rfl) s,
    State.checkRefuse_keeps State.stp (fun _ _ _ _ _ => rfl) s,
    State.checkRefuse_keeps State.mrg (fun _ _ _ _ _ => rfl) s,
    State.checkRefuse_keeps State.rel (fun _ _ _ _ _ => rfl) s,
    State.checkRefuse_keeps State.ports (fun _ _ _ _ _ => rfl) s,
    State.checkRefuse_keeps State.lanes (fun _ _ _ _ _ => rfl) s,
    State.checkRefuse_keeps State.slices (fun _ _ _ _ _ => rfl) s,
    State.checkRefuse_keeps State.flow (fun _ _ _ _ _ => rfl) s,
    State.checkRefuse_keeps State.tm (fun _ _ _ _ _ => rfl) s,
    State.checkRefuse_keeps State.eng (fun _ _ _ _ _ => rfl) s,
    State.checkRefuse_keeps State.hif (fun _ _ _ _ _ => rfl) s,
    State.checkRefuse_keeps State.qm (fun _ _ _ _ _ => rfl) s,
    State.checkRefuse_keeps State.mgt (fun _ _ _ _ _ => rfl) s,
    State.checkRefuse_keeps State.nvm (fun _ _ _ _ _ => rfl) s,
    State.checkRefuse_keeps State.tel (fun _ _ _ _ _ => rfl) s,
    State.checkRefuse_keeps State.clk (fun _ _ _ _ _ => rfl) s,
    State.checkRefuse_keeps State.pwr (fun _ _ _ _ _ => rfl) s,
    State.checkRefuse_keeps State.rst (fun _ _ _ _ _ => rfl) s,
    State.checkRefuse_keeps State.svc (fun _ _ _ _ _ => rfl) s,
    State.checkRefuse_keeps State.tap (fun _ _ _ _ _ => rfl) s⟩

theorem State.stageRecord_keeps {β : Sort _} (obs : State → β)
    (h : ∀ (s : State) x0 x1 x2 x3 x4, obs { s with ldg := x0, regs := x1, evr := x2, out := x3, ctr := x4 } = obs s)
    (s : State) (l : Leaf) (n : Nat) (p : Option Nat) : obs (s.stageRecord l n p) = obs s := by
  unfold State.stageRecord
  try dsimp only
  repeat' split
  all_goals try simp only [State.modReam_keeps obs (fun s x0 => h s x0 s.regs s.evr s.out s.ctr), State.bumpAt_keeps obs (fun s x0 x1 => h s s.ldg x0 s.evr s.out x1), State.checkRefuse_keeps obs (fun s x0 x1 x2 x3 => h s x0 s.regs x1 x2 x3)]
  all_goals iterate 4 first
    | done
    | rfl
    | (refine (h _ _ _ _ _ _).trans ?_; try simp only [State.modReam_keeps obs (fun s x0 => h s x0 s.regs s.evr s.out s.ctr), State.bumpAt_keeps obs (fun s x0 x1 => h s s.ldg x0 s.evr s.out x1), State.checkRefuse_keeps obs (fun s x0 x1 x2 x3 => h s x0 s.regs x1 x2 x3)])

/-- A record changes only the ledger, its registers and what an event changes. -/
@[simp] theorem State.stageRecord_frame (s : State) (l : Leaf) (n : Nat) (p : Option Nat) :
    (s.stageRecord l n p).pending = s.pending ∧ (s.stageRecord l n p).free = s.free ∧ (s.stageRecord l n p).assured = s.assured ∧ (s.stageRecord l n p).nextFrame = s.nextFrame ∧
    (s.stageRecord l n p).coh = s.coh ∧ (s.stageRecord l n p).snap = s.snap ∧ (s.stageRecord l n p).tb = s.tb ∧ (s.stageRecord l n p).stp = s.stp ∧
    (s.stageRecord l n p).mrg = s.mrg ∧ (s.stageRecord l n p).rel = s.rel ∧ (s.stageRecord l n p).ports = s.ports ∧ (s.stageRecord l n p).lanes = s.lanes ∧
    (s.stageRecord l n p).slices = s.slices ∧ (s.stageRecord l n p).flow = s.flow ∧ (s.stageRecord l n p).tm = s.tm ∧ (s.stageRecord l n p).eng = s.eng ∧
    (s.stageRecord l n p).hif = s.hif ∧ (s.stageRecord l n p).qm = s.qm ∧ (s.stageRecord l n p).mgt = s.mgt ∧ (s.stageRecord l n p).nvm = s.nvm ∧
    (s.stageRecord l n p).tel = s.tel ∧ (s.stageRecord l n p).clk = s.clk ∧ (s.stageRecord l n p).pwr = s.pwr ∧ (s.stageRecord l n p).rst = s.rst ∧
    (s.stageRecord l n p).svc = s.svc ∧ (s.stageRecord l n p).tap = s.tap :=
  ⟨State.stageRecord_keeps State.pending (fun _ _ _ _ _ _ => rfl) s l n p,
    State.stageRecord_keeps State.free (fun _ _ _ _ _ _ => rfl) s l n p,
    State.stageRecord_keeps State.assured (fun _ _ _ _ _ _ => rfl) s l n p,
    State.stageRecord_keeps State.nextFrame (fun _ _ _ _ _ _ => rfl) s l n p,
    State.stageRecord_keeps State.coh (fun _ _ _ _ _ _ => rfl) s l n p,
    State.stageRecord_keeps State.snap (fun _ _ _ _ _ _ => rfl) s l n p,
    State.stageRecord_keeps State.tb (fun _ _ _ _ _ _ => rfl) s l n p,
    State.stageRecord_keeps State.stp (fun _ _ _ _ _ _ => rfl) s l n p,
    State.stageRecord_keeps State.mrg (fun _ _ _ _ _ _ => rfl) s l n p,
    State.stageRecord_keeps State.rel (fun _ _ _ _ _ _ => rfl) s l n p,
    State.stageRecord_keeps State.ports (fun _ _ _ _ _ _ => rfl) s l n p,
    State.stageRecord_keeps State.lanes (fun _ _ _ _ _ _ => rfl) s l n p,
    State.stageRecord_keeps State.slices (fun _ _ _ _ _ _ => rfl) s l n p,
    State.stageRecord_keeps State.flow (fun _ _ _ _ _ _ => rfl) s l n p,
    State.stageRecord_keeps State.tm (fun _ _ _ _ _ _ => rfl) s l n p,
    State.stageRecord_keeps State.eng (fun _ _ _ _ _ _ => rfl) s l n p,
    State.stageRecord_keeps State.hif (fun _ _ _ _ _ _ => rfl) s l n p,
    State.stageRecord_keeps State.qm (fun _ _ _ _ _ _ => rfl) s l n p,
    State.stageRecord_keeps State.mgt (fun _ _ _ _ _ _ => rfl) s l n p,
    State.stageRecord_keeps State.nvm (fun _ _ _ _ _ _ => rfl) s l n p,
    State.stageRecord_keeps State.tel (fun _ _ _ _ _ _ => rfl) s l n p,
    State.stageRecord_keeps State.clk (fun _ _ _ _ _ _ => rfl) s l n p,
    State.stageRecord_keeps State.pwr (fun _ _ _ _ _ _ => rfl) s l n p,
    State.stageRecord_keeps State.rst (fun _ _ _ _ _ _ => rfl) s l n p,
    State.stageRecord_keeps State.svc (fun _ _ _ _ _ _ => rfl) s l n p,
    State.stageRecord_keeps State.tap (fun _ _ _ _ _ _ => rfl) s l n p⟩

theorem State.postLeaf_keeps {β : Sort _} (obs : State → β)
    (h : ∀ (s : State) x0 x1 x2 x3 x4, obs { s with ldg := x0, regs := x1, evr := x2, out := x3, ctr := x4 } = obs s)
    (s : State) (l : Leaf) (d : Nat) : obs (s.postLeaf l d) = obs s := by
  unfold State.postLeaf
  try dsimp only
  repeat' split
  all_goals try simp only [State.modReam_keeps obs (fun s x0 => h s x0 s.regs s.evr s.out s.ctr), State.bumpAt_keeps obs (fun s x0 x1 => h s s.ldg x0 s.evr s.out x1), State.stageRecord_keeps obs (fun s x0 x1 x2 x3 x4 => h s x0 x1 x2 x3 x4)]
  all_goals iterate 4 first
    | done
    | rfl
    | (refine (h _ _ _ _ _ _).trans ?_; try simp only [State.modReam_keeps obs (fun s x0 => h s x0 s.regs s.evr s.out s.ctr), State.bumpAt_keeps obs (fun s x0 x1 => h s s.ldg x0 s.evr s.out x1), State.stageRecord_keeps obs (fun s x0 x1 x2 x3 x4 => h s x0 x1 x2 x3 x4)])

/-- A post-disposition leaf changes only the ledger, its registers and what an event changes. -/
@[simp] theorem State.postLeaf_frame (s : State) (l : Leaf) (d : Nat) :
    (s.postLeaf l d).pending = s.pending ∧ (s.postLeaf l d).free = s.free ∧ (s.postLeaf l d).assured = s.assured ∧ (s.postLeaf l d).nextFrame = s.nextFrame ∧
    (s.postLeaf l d).coh = s.coh ∧ (s.postLeaf l d).snap = s.snap ∧ (s.postLeaf l d).tb = s.tb ∧ (s.postLeaf l d).stp = s.stp ∧
    (s.postLeaf l d).mrg = s.mrg ∧ (s.postLeaf l d).rel = s.rel ∧ (s.postLeaf l d).ports = s.ports ∧ (s.postLeaf l d).lanes = s.lanes ∧
    (s.postLeaf l d).slices = s.slices ∧ (s.postLeaf l d).flow = s.flow ∧ (s.postLeaf l d).tm = s.tm ∧ (s.postLeaf l d).eng = s.eng ∧
    (s.postLeaf l d).hif = s.hif ∧ (s.postLeaf l d).qm = s.qm ∧ (s.postLeaf l d).mgt = s.mgt ∧ (s.postLeaf l d).nvm = s.nvm ∧
    (s.postLeaf l d).tel = s.tel ∧ (s.postLeaf l d).clk = s.clk ∧ (s.postLeaf l d).pwr = s.pwr ∧ (s.postLeaf l d).rst = s.rst ∧
    (s.postLeaf l d).svc = s.svc ∧ (s.postLeaf l d).tap = s.tap :=
  ⟨State.postLeaf_keeps State.pending (fun _ _ _ _ _ _ => rfl) s l d,
    State.postLeaf_keeps State.free (fun _ _ _ _ _ _ => rfl) s l d,
    State.postLeaf_keeps State.assured (fun _ _ _ _ _ _ => rfl) s l d,
    State.postLeaf_keeps State.nextFrame (fun _ _ _ _ _ _ => rfl) s l d,
    State.postLeaf_keeps State.coh (fun _ _ _ _ _ _ => rfl) s l d,
    State.postLeaf_keeps State.snap (fun _ _ _ _ _ _ => rfl) s l d,
    State.postLeaf_keeps State.tb (fun _ _ _ _ _ _ => rfl) s l d,
    State.postLeaf_keeps State.stp (fun _ _ _ _ _ _ => rfl) s l d,
    State.postLeaf_keeps State.mrg (fun _ _ _ _ _ _ => rfl) s l d,
    State.postLeaf_keeps State.rel (fun _ _ _ _ _ _ => rfl) s l d,
    State.postLeaf_keeps State.ports (fun _ _ _ _ _ _ => rfl) s l d,
    State.postLeaf_keeps State.lanes (fun _ _ _ _ _ _ => rfl) s l d,
    State.postLeaf_keeps State.slices (fun _ _ _ _ _ _ => rfl) s l d,
    State.postLeaf_keeps State.flow (fun _ _ _ _ _ _ => rfl) s l d,
    State.postLeaf_keeps State.tm (fun _ _ _ _ _ _ => rfl) s l d,
    State.postLeaf_keeps State.eng (fun _ _ _ _ _ _ => rfl) s l d,
    State.postLeaf_keeps State.hif (fun _ _ _ _ _ _ => rfl) s l d,
    State.postLeaf_keeps State.qm (fun _ _ _ _ _ _ => rfl) s l d,
    State.postLeaf_keeps State.mgt (fun _ _ _ _ _ _ => rfl) s l d,
    State.postLeaf_keeps State.nvm (fun _ _ _ _ _ _ => rfl) s l d,
    State.postLeaf_keeps State.tel (fun _ _ _ _ _ _ => rfl) s l d,
    State.postLeaf_keeps State.clk (fun _ _ _ _ _ _ => rfl) s l d,
    State.postLeaf_keeps State.pwr (fun _ _ _ _ _ _ => rfl) s l d,
    State.postLeaf_keeps State.rst (fun _ _ _ _ _ _ => rfl) s l d,
    State.postLeaf_keeps State.svc (fun _ _ _ _ _ _ => rfl) s l d,
    State.postLeaf_keeps State.tap (fun _ _ _ _ _ _ => rfl) s l d⟩

theorem State.inFlight_keeps {β : Sort _} (obs : State → β)
    (h : ∀ (s : State) x0 x1 x2 x3 x4, obs { s with ldg := x0, regs := x1, evr := x2, out := x3, ctr := x4 } = obs s)
    (s : State) (c : ReamSt) (l : Leaf) : obs (s.inFlight c l) = obs s := by
  unfold State.inFlight
  try dsimp only
  repeat' split
  all_goals try simp only [State.modReam_keeps obs (fun s x0 => h s x0 s.regs s.evr s.out s.ctr), State.bumpAt_keeps obs (fun s x0 x1 => h s s.ldg x0 s.evr s.out x1), State.stageRecord_keeps obs (fun s x0 x1 x2 x3 x4 => h s x0 x1 x2 x3 x4)]
  all_goals iterate 4 first
    | done
    | rfl
    | (refine (h _ _ _ _ _ _).trans ?_; try simp only [State.modReam_keeps obs (fun s x0 => h s x0 s.regs s.evr s.out s.ctr), State.bumpAt_keeps obs (fun s x0 x1 => h s s.ldg x0 s.evr s.out x1), State.stageRecord_keeps obs (fun s x0 x1 x2 x3 x4 => h s x0 x1 x2 x3 x4)])

/-- A frame in flight at the seal changes only the ledger, its registers and what an event changes. -/
@[simp] theorem State.inFlight_frame (s : State) (c : ReamSt) (l : Leaf) :
    (s.inFlight c l).pending = s.pending ∧ (s.inFlight c l).free = s.free ∧ (s.inFlight c l).assured = s.assured ∧ (s.inFlight c l).nextFrame = s.nextFrame ∧
    (s.inFlight c l).coh = s.coh ∧ (s.inFlight c l).snap = s.snap ∧ (s.inFlight c l).tb = s.tb ∧ (s.inFlight c l).stp = s.stp ∧
    (s.inFlight c l).mrg = s.mrg ∧ (s.inFlight c l).rel = s.rel ∧ (s.inFlight c l).ports = s.ports ∧ (s.inFlight c l).lanes = s.lanes ∧
    (s.inFlight c l).slices = s.slices ∧ (s.inFlight c l).flow = s.flow ∧ (s.inFlight c l).tm = s.tm ∧ (s.inFlight c l).eng = s.eng ∧
    (s.inFlight c l).hif = s.hif ∧ (s.inFlight c l).qm = s.qm ∧ (s.inFlight c l).mgt = s.mgt ∧ (s.inFlight c l).nvm = s.nvm ∧
    (s.inFlight c l).tel = s.tel ∧ (s.inFlight c l).clk = s.clk ∧ (s.inFlight c l).pwr = s.pwr ∧ (s.inFlight c l).rst = s.rst ∧
    (s.inFlight c l).svc = s.svc ∧ (s.inFlight c l).tap = s.tap :=
  ⟨State.inFlight_keeps State.pending (fun _ _ _ _ _ _ => rfl) s c l,
    State.inFlight_keeps State.free (fun _ _ _ _ _ _ => rfl) s c l,
    State.inFlight_keeps State.assured (fun _ _ _ _ _ _ => rfl) s c l,
    State.inFlight_keeps State.nextFrame (fun _ _ _ _ _ _ => rfl) s c l,
    State.inFlight_keeps State.coh (fun _ _ _ _ _ _ => rfl) s c l,
    State.inFlight_keeps State.snap (fun _ _ _ _ _ _ => rfl) s c l,
    State.inFlight_keeps State.tb (fun _ _ _ _ _ _ => rfl) s c l,
    State.inFlight_keeps State.stp (fun _ _ _ _ _ _ => rfl) s c l,
    State.inFlight_keeps State.mrg (fun _ _ _ _ _ _ => rfl) s c l,
    State.inFlight_keeps State.rel (fun _ _ _ _ _ _ => rfl) s c l,
    State.inFlight_keeps State.ports (fun _ _ _ _ _ _ => rfl) s c l,
    State.inFlight_keeps State.lanes (fun _ _ _ _ _ _ => rfl) s c l,
    State.inFlight_keeps State.slices (fun _ _ _ _ _ _ => rfl) s c l,
    State.inFlight_keeps State.flow (fun _ _ _ _ _ _ => rfl) s c l,
    State.inFlight_keeps State.tm (fun _ _ _ _ _ _ => rfl) s c l,
    State.inFlight_keeps State.eng (fun _ _ _ _ _ _ => rfl) s c l,
    State.inFlight_keeps State.hif (fun _ _ _ _ _ _ => rfl) s c l,
    State.inFlight_keeps State.qm (fun _ _ _ _ _ _ => rfl) s c l,
    State.inFlight_keeps State.mgt (fun _ _ _ _ _ _ => rfl) s c l,
    State.inFlight_keeps State.nvm (fun _ _ _ _ _ _ => rfl) s c l,
    State.inFlight_keeps State.tel (fun _ _ _ _ _ _ => rfl) s c l,
    State.inFlight_keeps State.clk (fun _ _ _ _ _ _ => rfl) s c l,
    State.inFlight_keeps State.pwr (fun _ _ _ _ _ _ => rfl) s c l,
    State.inFlight_keeps State.rst (fun _ _ _ _ _ _ => rfl) s c l,
    State.inFlight_keeps State.svc (fun _ _ _ _ _ _ => rfl) s c l,
    State.inFlight_keeps State.tap (fun _ _ _ _ _ _ => rfl) s c l⟩

theorem State.sealedBefore_keeps {β : Sort _} (obs : State → β)
    (h : ∀ (s : State) x0 x1 x2 x3 x4, obs { s with ldg := x0, regs := x1, evr := x2, out := x3, ctr := x4 } = obs s)
    (s : State) (f : Frame) : obs (s.sealedBefore f) = obs s := by
  unfold State.sealedBefore
  try dsimp only
  repeat' split
  all_goals try simp only [State.inFlight_keeps obs (fun s x0 x1 x2 x3 x4 => h s x0 x1 x2 x3 x4)]
  all_goals iterate 4 first
    | done
    | rfl
    | (refine (h _ _ _ _ _ _).trans ?_; try simp only [State.inFlight_keeps obs (fun s x0 x1 x2 x3 x4 => h s x0 x1 x2 x3 x4)])

/-- A leaf of a sealed Ream changes only the ledger, its registers and what an event changes. -/
@[simp] theorem State.sealedBefore_frame (s : State) (f : Frame) :
    (s.sealedBefore f).pending = s.pending ∧ (s.sealedBefore f).free = s.free ∧ (s.sealedBefore f).assured = s.assured ∧ (s.sealedBefore f).nextFrame = s.nextFrame ∧
    (s.sealedBefore f).coh = s.coh ∧ (s.sealedBefore f).snap = s.snap ∧ (s.sealedBefore f).tb = s.tb ∧ (s.sealedBefore f).stp = s.stp ∧
    (s.sealedBefore f).mrg = s.mrg ∧ (s.sealedBefore f).rel = s.rel ∧ (s.sealedBefore f).ports = s.ports ∧ (s.sealedBefore f).lanes = s.lanes ∧
    (s.sealedBefore f).slices = s.slices ∧ (s.sealedBefore f).flow = s.flow ∧ (s.sealedBefore f).tm = s.tm ∧ (s.sealedBefore f).eng = s.eng ∧
    (s.sealedBefore f).hif = s.hif ∧ (s.sealedBefore f).qm = s.qm ∧ (s.sealedBefore f).mgt = s.mgt ∧ (s.sealedBefore f).nvm = s.nvm ∧
    (s.sealedBefore f).tel = s.tel ∧ (s.sealedBefore f).clk = s.clk ∧ (s.sealedBefore f).pwr = s.pwr ∧ (s.sealedBefore f).rst = s.rst ∧
    (s.sealedBefore f).svc = s.svc ∧ (s.sealedBefore f).tap = s.tap :=
  ⟨State.sealedBefore_keeps State.pending (fun _ _ _ _ _ _ => rfl) s f,
    State.sealedBefore_keeps State.free (fun _ _ _ _ _ _ => rfl) s f,
    State.sealedBefore_keeps State.assured (fun _ _ _ _ _ _ => rfl) s f,
    State.sealedBefore_keeps State.nextFrame (fun _ _ _ _ _ _ => rfl) s f,
    State.sealedBefore_keeps State.coh (fun _ _ _ _ _ _ => rfl) s f,
    State.sealedBefore_keeps State.snap (fun _ _ _ _ _ _ => rfl) s f,
    State.sealedBefore_keeps State.tb (fun _ _ _ _ _ _ => rfl) s f,
    State.sealedBefore_keeps State.stp (fun _ _ _ _ _ _ => rfl) s f,
    State.sealedBefore_keeps State.mrg (fun _ _ _ _ _ _ => rfl) s f,
    State.sealedBefore_keeps State.rel (fun _ _ _ _ _ _ => rfl) s f,
    State.sealedBefore_keeps State.ports (fun _ _ _ _ _ _ => rfl) s f,
    State.sealedBefore_keeps State.lanes (fun _ _ _ _ _ _ => rfl) s f,
    State.sealedBefore_keeps State.slices (fun _ _ _ _ _ _ => rfl) s f,
    State.sealedBefore_keeps State.flow (fun _ _ _ _ _ _ => rfl) s f,
    State.sealedBefore_keeps State.tm (fun _ _ _ _ _ _ => rfl) s f,
    State.sealedBefore_keeps State.eng (fun _ _ _ _ _ _ => rfl) s f,
    State.sealedBefore_keeps State.hif (fun _ _ _ _ _ _ => rfl) s f,
    State.sealedBefore_keeps State.qm (fun _ _ _ _ _ _ => rfl) s f,
    State.sealedBefore_keeps State.mgt (fun _ _ _ _ _ _ => rfl) s f,
    State.sealedBefore_keeps State.nvm (fun _ _ _ _ _ _ => rfl) s f,
    State.sealedBefore_keeps State.tel (fun _ _ _ _ _ _ => rfl) s f,
    State.sealedBefore_keeps State.clk (fun _ _ _ _ _ _ => rfl) s f,
    State.sealedBefore_keeps State.pwr (fun _ _ _ _ _ _ => rfl) s f,
    State.sealedBefore_keeps State.rst (fun _ _ _ _ _ _ => rfl) s f,
    State.sealedBefore_keeps State.svc (fun _ _ _ _ _ _ => rfl) s f,
    State.sealedBefore_keeps State.tap (fun _ _ _ _ _ _ => rfl) s f⟩

theorem State.formLeaf_keeps {β : Sort _} (obs : State → β)
    (h : ∀ (s : State) x0 x1 x2 x3 x4, obs { s with ldg := x0, regs := x1, evr := x2, out := x3, ctr := x4 } = obs s)
    (s : State) (f : Frame) (d : Nat) (k : Bool) : obs (s.formLeaf f d k) = obs s := by
  unfold State.formLeaf
  try dsimp only
  repeat' split
  all_goals try simp only [State.sealedBefore_keeps obs (fun s x0 x1 x2 x3 x4 => h s x0 x1 x2 x3 x4), State.modReam_keeps obs (fun s x0 => h s x0 s.regs s.evr s.out s.ctr), State.stageRecord_keeps obs (fun s x0 x1 x2 x3 x4 => h s x0 x1 x2 x3 x4), State.postLeaf_keeps obs (fun s x0 x1 x2 x3 x4 => h s x0 x1 x2 x3 x4)]
  all_goals iterate 4 first
    | done
    | rfl
    | (refine (h _ _ _ _ _ _).trans ?_; try simp only [State.sealedBefore_keeps obs (fun s x0 x1 x2 x3 x4 => h s x0 x1 x2 x3 x4), State.modReam_keeps obs (fun s x0 => h s x0 s.regs s.evr s.out s.ctr), State.stageRecord_keeps obs (fun s x0 x1 x2 x3 x4 => h s x0 x1 x2 x3 x4), State.postLeaf_keeps obs (fun s x0 x1 x2 x3 x4 => h s x0 x1 x2 x3 x4)])

/-- A leaf changes only the ledger, its registers and what an event changes. -/
@[simp] theorem State.formLeaf_frame (s : State) (f : Frame) (d : Nat) (k : Bool) :
    (s.formLeaf f d k).pending = s.pending ∧ (s.formLeaf f d k).free = s.free ∧ (s.formLeaf f d k).assured = s.assured ∧ (s.formLeaf f d k).nextFrame = s.nextFrame ∧
    (s.formLeaf f d k).coh = s.coh ∧ (s.formLeaf f d k).snap = s.snap ∧ (s.formLeaf f d k).tb = s.tb ∧ (s.formLeaf f d k).stp = s.stp ∧
    (s.formLeaf f d k).mrg = s.mrg ∧ (s.formLeaf f d k).rel = s.rel ∧ (s.formLeaf f d k).ports = s.ports ∧ (s.formLeaf f d k).lanes = s.lanes ∧
    (s.formLeaf f d k).slices = s.slices ∧ (s.formLeaf f d k).flow = s.flow ∧ (s.formLeaf f d k).tm = s.tm ∧ (s.formLeaf f d k).eng = s.eng ∧
    (s.formLeaf f d k).hif = s.hif ∧ (s.formLeaf f d k).qm = s.qm ∧ (s.formLeaf f d k).mgt = s.mgt ∧ (s.formLeaf f d k).nvm = s.nvm ∧
    (s.formLeaf f d k).tel = s.tel ∧ (s.formLeaf f d k).clk = s.clk ∧ (s.formLeaf f d k).pwr = s.pwr ∧ (s.formLeaf f d k).rst = s.rst ∧
    (s.formLeaf f d k).svc = s.svc ∧ (s.formLeaf f d k).tap = s.tap :=
  ⟨State.formLeaf_keeps State.pending (fun _ _ _ _ _ _ => rfl) s f d k,
    State.formLeaf_keeps State.free (fun _ _ _ _ _ _ => rfl) s f d k,
    State.formLeaf_keeps State.assured (fun _ _ _ _ _ _ => rfl) s f d k,
    State.formLeaf_keeps State.nextFrame (fun _ _ _ _ _ _ => rfl) s f d k,
    State.formLeaf_keeps State.coh (fun _ _ _ _ _ _ => rfl) s f d k,
    State.formLeaf_keeps State.snap (fun _ _ _ _ _ _ => rfl) s f d k,
    State.formLeaf_keeps State.tb (fun _ _ _ _ _ _ => rfl) s f d k,
    State.formLeaf_keeps State.stp (fun _ _ _ _ _ _ => rfl) s f d k,
    State.formLeaf_keeps State.mrg (fun _ _ _ _ _ _ => rfl) s f d k,
    State.formLeaf_keeps State.rel (fun _ _ _ _ _ _ => rfl) s f d k,
    State.formLeaf_keeps State.ports (fun _ _ _ _ _ _ => rfl) s f d k,
    State.formLeaf_keeps State.lanes (fun _ _ _ _ _ _ => rfl) s f d k,
    State.formLeaf_keeps State.slices (fun _ _ _ _ _ _ => rfl) s f d k,
    State.formLeaf_keeps State.flow (fun _ _ _ _ _ _ => rfl) s f d k,
    State.formLeaf_keeps State.tm (fun _ _ _ _ _ _ => rfl) s f d k,
    State.formLeaf_keeps State.eng (fun _ _ _ _ _ _ => rfl) s f d k,
    State.formLeaf_keeps State.hif (fun _ _ _ _ _ _ => rfl) s f d k,
    State.formLeaf_keeps State.qm (fun _ _ _ _ _ _ => rfl) s f d k,
    State.formLeaf_keeps State.mgt (fun _ _ _ _ _ _ => rfl) s f d k,
    State.formLeaf_keeps State.nvm (fun _ _ _ _ _ _ => rfl) s f d k,
    State.formLeaf_keeps State.tel (fun _ _ _ _ _ _ => rfl) s f d k,
    State.formLeaf_keeps State.clk (fun _ _ _ _ _ _ => rfl) s f d k,
    State.formLeaf_keeps State.pwr (fun _ _ _ _ _ _ => rfl) s f d k,
    State.formLeaf_keeps State.rst (fun _ _ _ _ _ _ => rfl) s f d k,
    State.formLeaf_keeps State.svc (fun _ _ _ _ _ _ => rfl) s f d k,
    State.formLeaf_keeps State.tap (fun _ _ _ _ _ _ => rfl) s f d k⟩

theorem State.lateOutcome_keeps {β : Sort _} (obs : State → β)
    (h : ∀ (s : State) x0 x1 x2 x3 x4, obs { s with ldg := x0, regs := x1, evr := x2, out := x3, ctr := x4 } = obs s)
    (s : State) (f : Frame) (d : Nat) : obs (s.lateOutcome f d) = obs s := by
  unfold State.lateOutcome
  try dsimp only
  repeat' split
  all_goals try simp only [State.postLeaf_keeps obs (fun s x0 x1 x2 x3 x4 => h s x0 x1 x2 x3 x4)]
  all_goals iterate 4 first
    | done
    | rfl
    | (refine (h _ _ _ _ _ _).trans ?_; try simp only [State.postLeaf_keeps obs (fun s x0 x1 x2 x3 x4 => h s x0 x1 x2 x3 x4)])

/-- A late outcome changes only the ledger, its registers and what an event changes. -/
@[simp] theorem State.lateOutcome_frame (s : State) (f : Frame) (d : Nat) :
    (s.lateOutcome f d).pending = s.pending ∧ (s.lateOutcome f d).free = s.free ∧ (s.lateOutcome f d).assured = s.assured ∧ (s.lateOutcome f d).nextFrame = s.nextFrame ∧
    (s.lateOutcome f d).coh = s.coh ∧ (s.lateOutcome f d).snap = s.snap ∧ (s.lateOutcome f d).tb = s.tb ∧ (s.lateOutcome f d).stp = s.stp ∧
    (s.lateOutcome f d).mrg = s.mrg ∧ (s.lateOutcome f d).rel = s.rel ∧ (s.lateOutcome f d).ports = s.ports ∧ (s.lateOutcome f d).lanes = s.lanes ∧
    (s.lateOutcome f d).slices = s.slices ∧ (s.lateOutcome f d).flow = s.flow ∧ (s.lateOutcome f d).tm = s.tm ∧ (s.lateOutcome f d).eng = s.eng ∧
    (s.lateOutcome f d).hif = s.hif ∧ (s.lateOutcome f d).qm = s.qm ∧ (s.lateOutcome f d).mgt = s.mgt ∧ (s.lateOutcome f d).nvm = s.nvm ∧
    (s.lateOutcome f d).tel = s.tel ∧ (s.lateOutcome f d).clk = s.clk ∧ (s.lateOutcome f d).pwr = s.pwr ∧ (s.lateOutcome f d).rst = s.rst ∧
    (s.lateOutcome f d).svc = s.svc ∧ (s.lateOutcome f d).tap = s.tap :=
  ⟨State.lateOutcome_keeps State.pending (fun _ _ _ _ _ _ => rfl) s f d,
    State.lateOutcome_keeps State.free (fun _ _ _ _ _ _ => rfl) s f d,
    State.lateOutcome_keeps State.assured (fun _ _ _ _ _ _ => rfl) s f d,
    State.lateOutcome_keeps State.nextFrame (fun _ _ _ _ _ _ => rfl) s f d,
    State.lateOutcome_keeps State.coh (fun _ _ _ _ _ _ => rfl) s f d,
    State.lateOutcome_keeps State.snap (fun _ _ _ _ _ _ => rfl) s f d,
    State.lateOutcome_keeps State.tb (fun _ _ _ _ _ _ => rfl) s f d,
    State.lateOutcome_keeps State.stp (fun _ _ _ _ _ _ => rfl) s f d,
    State.lateOutcome_keeps State.mrg (fun _ _ _ _ _ _ => rfl) s f d,
    State.lateOutcome_keeps State.rel (fun _ _ _ _ _ _ => rfl) s f d,
    State.lateOutcome_keeps State.ports (fun _ _ _ _ _ _ => rfl) s f d,
    State.lateOutcome_keeps State.lanes (fun _ _ _ _ _ _ => rfl) s f d,
    State.lateOutcome_keeps State.slices (fun _ _ _ _ _ _ => rfl) s f d,
    State.lateOutcome_keeps State.flow (fun _ _ _ _ _ _ => rfl) s f d,
    State.lateOutcome_keeps State.tm (fun _ _ _ _ _ _ => rfl) s f d,
    State.lateOutcome_keeps State.eng (fun _ _ _ _ _ _ => rfl) s f d,
    State.lateOutcome_keeps State.hif (fun _ _ _ _ _ _ => rfl) s f d,
    State.lateOutcome_keeps State.qm (fun _ _ _ _ _ _ => rfl) s f d,
    State.lateOutcome_keeps State.mgt (fun _ _ _ _ _ _ => rfl) s f d,
    State.lateOutcome_keeps State.nvm (fun _ _ _ _ _ _ => rfl) s f d,
    State.lateOutcome_keeps State.tel (fun _ _ _ _ _ _ => rfl) s f d,
    State.lateOutcome_keeps State.clk (fun _ _ _ _ _ _ => rfl) s f d,
    State.lateOutcome_keeps State.pwr (fun _ _ _ _ _ _ => rfl) s f d,
    State.lateOutcome_keeps State.rst (fun _ _ _ _ _ _ => rfl) s f d,
    State.lateOutcome_keeps State.svc (fun _ _ _ _ _ _ => rfl) s f d,
    State.lateOutcome_keeps State.tap (fun _ _ _ _ _ _ => rfl) s f d⟩

theorem State.forget_keeps {β : Sort _} (obs : State → β)
    (h : ∀ (s : State) x0, obs { s with ldg := x0 } = obs s)
    (s : State) (f : Nat) : obs (s.forget f) = obs s := by
  unfold State.forget
  try dsimp only
  repeat' split
  all_goals skip
  all_goals first
    | rfl
    | exact h _ _

/-- Forgetting a leaf's place changes only the ledger. -/
@[simp] theorem State.forget_frame (s : State) (f : Nat) :
    (s.forget f).pending = s.pending ∧ (s.forget f).free = s.free ∧ (s.forget f).assured = s.assured ∧ (s.forget f).out = s.out ∧
    (s.forget f).nextFrame = s.nextFrame ∧ (s.forget f).regs = s.regs ∧ (s.forget f).ctr = s.ctr ∧ (s.forget f).coh = s.coh ∧
    (s.forget f).snap = s.snap ∧ (s.forget f).tb = s.tb ∧ (s.forget f).stp = s.stp ∧ (s.forget f).mrg = s.mrg ∧
    (s.forget f).rel = s.rel ∧ (s.forget f).ports = s.ports ∧ (s.forget f).lanes = s.lanes ∧ (s.forget f).slices = s.slices ∧
    (s.forget f).flow = s.flow ∧ (s.forget f).tm = s.tm ∧ (s.forget f).eng = s.eng ∧ (s.forget f).hif = s.hif ∧
    (s.forget f).qm = s.qm ∧ (s.forget f).mgt = s.mgt ∧ (s.forget f).nvm = s.nvm ∧ (s.forget f).evr = s.evr ∧
    (s.forget f).tel = s.tel ∧ (s.forget f).clk = s.clk ∧ (s.forget f).pwr = s.pwr ∧ (s.forget f).rst = s.rst ∧
    (s.forget f).svc = s.svc ∧ (s.forget f).tap = s.tap :=
  ⟨State.forget_keeps State.pending (fun _ _ => rfl) s f,
    State.forget_keeps State.free (fun _ _ => rfl) s f,
    State.forget_keeps State.assured (fun _ _ => rfl) s f,
    State.forget_keeps State.out (fun _ _ => rfl) s f,
    State.forget_keeps State.nextFrame (fun _ _ => rfl) s f,
    State.forget_keeps State.regs (fun _ _ => rfl) s f,
    State.forget_keeps State.ctr (fun _ _ => rfl) s f,
    State.forget_keeps State.coh (fun _ _ => rfl) s f,
    State.forget_keeps State.snap (fun _ _ => rfl) s f,
    State.forget_keeps State.tb (fun _ _ => rfl) s f,
    State.forget_keeps State.stp (fun _ _ => rfl) s f,
    State.forget_keeps State.mrg (fun _ _ => rfl) s f,
    State.forget_keeps State.rel (fun _ _ => rfl) s f,
    State.forget_keeps State.ports (fun _ _ => rfl) s f,
    State.forget_keeps State.lanes (fun _ _ => rfl) s f,
    State.forget_keeps State.slices (fun _ _ => rfl) s f,
    State.forget_keeps State.flow (fun _ _ => rfl) s f,
    State.forget_keeps State.tm (fun _ _ => rfl) s f,
    State.forget_keeps State.eng (fun _ _ => rfl) s f,
    State.forget_keeps State.hif (fun _ _ => rfl) s f,
    State.forget_keeps State.qm (fun _ _ => rfl) s f,
    State.forget_keeps State.mgt (fun _ _ => rfl) s f,
    State.forget_keeps State.nvm (fun _ _ => rfl) s f,
    State.forget_keeps State.evr (fun _ _ => rfl) s f,
    State.forget_keeps State.tel (fun _ _ => rfl) s f,
    State.forget_keeps State.clk (fun _ _ => rfl) s f,
    State.forget_keeps State.pwr (fun _ _ => rfl) s f,
    State.forget_keeps State.rst (fun _ _ => rfl) s f,
    State.forget_keeps State.svc (fun _ _ => rfl) s f,
    State.forget_keeps State.tap (fun _ _ => rfl) s f⟩

theorem State.sendXoff_keeps {β : Sort _} (obs : State → β)
    (h : ∀ (s : State) x0, obs { s with ports := x0 } = obs s)
    (s : State) (p pr : Nat) : obs (s.sendXoff p pr) = obs s := by
  unfold State.sendXoff
  try dsimp only
  repeat' split
  all_goals try simp only [State.sendPause_keeps obs (fun s x0 => h s x0), State.modPort_keeps obs (fun s x0 => h s x0)]
  all_goals iterate 4 first
    | done
    | rfl
    | (refine (h _ _).trans ?_; try simp only [State.sendPause_keeps obs (fun s x0 => h s x0), State.modPort_keeps obs (fun s x0 => h s x0)])

/-- An XOFF changes only the ports. -/
@[simp] theorem State.sendXoff_frame (s : State) (p pr : Nat) :
    (s.sendXoff p pr).pending = s.pending ∧ (s.sendXoff p pr).free = s.free ∧ (s.sendXoff p pr).assured = s.assured ∧ (s.sendXoff p pr).out = s.out ∧
    (s.sendXoff p pr).nextFrame = s.nextFrame ∧ (s.sendXoff p pr).regs = s.regs ∧ (s.sendXoff p pr).ctr = s.ctr ∧ (s.sendXoff p pr).coh = s.coh ∧
    (s.sendXoff p pr).snap = s.snap ∧ (s.sendXoff p pr).tb = s.tb ∧ (s.sendXoff p pr).stp = s.stp ∧ (s.sendXoff p pr).ldg = s.ldg ∧
    (s.sendXoff p pr).mrg = s.mrg ∧ (s.sendXoff p pr).rel = s.rel ∧ (s.sendXoff p pr).lanes = s.lanes ∧ (s.sendXoff p pr).slices = s.slices ∧
    (s.sendXoff p pr).flow = s.flow ∧ (s.sendXoff p pr).tm = s.tm ∧ (s.sendXoff p pr).eng = s.eng ∧ (s.sendXoff p pr).hif = s.hif ∧
    (s.sendXoff p pr).qm = s.qm ∧ (s.sendXoff p pr).mgt = s.mgt ∧ (s.sendXoff p pr).nvm = s.nvm ∧ (s.sendXoff p pr).evr = s.evr ∧
    (s.sendXoff p pr).tel = s.tel ∧ (s.sendXoff p pr).clk = s.clk ∧ (s.sendXoff p pr).pwr = s.pwr ∧ (s.sendXoff p pr).rst = s.rst ∧
    (s.sendXoff p pr).svc = s.svc ∧ (s.sendXoff p pr).tap = s.tap :=
  ⟨State.sendXoff_keeps State.pending (fun _ _ => rfl) s p pr,
    State.sendXoff_keeps State.free (fun _ _ => rfl) s p pr,
    State.sendXoff_keeps State.assured (fun _ _ => rfl) s p pr,
    State.sendXoff_keeps State.out (fun _ _ => rfl) s p pr,
    State.sendXoff_keeps State.nextFrame (fun _ _ => rfl) s p pr,
    State.sendXoff_keeps State.regs (fun _ _ => rfl) s p pr,
    State.sendXoff_keeps State.ctr (fun _ _ => rfl) s p pr,
    State.sendXoff_keeps State.coh (fun _ _ => rfl) s p pr,
    State.sendXoff_keeps State.snap (fun _ _ => rfl) s p pr,
    State.sendXoff_keeps State.tb (fun _ _ => rfl) s p pr,
    State.sendXoff_keeps State.stp (fun _ _ => rfl) s p pr,
    State.sendXoff_keeps State.ldg (fun _ _ => rfl) s p pr,
    State.sendXoff_keeps State.mrg (fun _ _ => rfl) s p pr,
    State.sendXoff_keeps State.rel (fun _ _ => rfl) s p pr,
    State.sendXoff_keeps State.lanes (fun _ _ => rfl) s p pr,
    State.sendXoff_keeps State.slices (fun _ _ => rfl) s p pr,
    State.sendXoff_keeps State.flow (fun _ _ => rfl) s p pr,
    State.sendXoff_keeps State.tm (fun _ _ => rfl) s p pr,
    State.sendXoff_keeps State.eng (fun _ _ => rfl) s p pr,
    State.sendXoff_keeps State.hif (fun _ _ => rfl) s p pr,
    State.sendXoff_keeps State.qm (fun _ _ => rfl) s p pr,
    State.sendXoff_keeps State.mgt (fun _ _ => rfl) s p pr,
    State.sendXoff_keeps State.nvm (fun _ _ => rfl) s p pr,
    State.sendXoff_keeps State.evr (fun _ _ => rfl) s p pr,
    State.sendXoff_keeps State.tel (fun _ _ => rfl) s p pr,
    State.sendXoff_keeps State.clk (fun _ _ => rfl) s p pr,
    State.sendXoff_keeps State.pwr (fun _ _ => rfl) s p pr,
    State.sendXoff_keeps State.rst (fun _ _ => rfl) s p pr,
    State.sendXoff_keeps State.svc (fun _ _ => rfl) s p pr,
    State.sendXoff_keeps State.tap (fun _ _ => rfl) s p pr⟩

theorem State.checkXoff_keeps {β : Sort _} (obs : State → β)
    (h : ∀ (s : State) x0, obs { s with ports := x0 } = obs s)
    (s : State) (p pr : Nat) : obs (s.checkXoff p pr) = obs s := by
  unfold State.checkXoff
  try dsimp only
  repeat' split
  all_goals try simp only [State.sendXoff_keeps obs (fun s x0 => h s x0), State.sendPause_keeps obs (fun s x0 => h s x0), State.modPort_keeps obs (fun s x0 => h s x0)]
  all_goals iterate 4 first
    | done
    | rfl
    | (refine (h _ _).trans ?_; try simp only [State.sendXoff_keeps obs (fun s x0 => h s x0), State.sendPause_keeps obs (fun s x0 => h s x0), State.modPort_keeps obs (fun s x0 => h s x0)])

/-- Flow control changes only the ports. -/
@[simp] theorem State.checkXoff_frame (s : State) (p pr : Nat) :
    (s.checkXoff p pr).pending = s.pending ∧ (s.checkXoff p pr).free = s.free ∧ (s.checkXoff p pr).assured = s.assured ∧ (s.checkXoff p pr).out = s.out ∧
    (s.checkXoff p pr).nextFrame = s.nextFrame ∧ (s.checkXoff p pr).regs = s.regs ∧ (s.checkXoff p pr).ctr = s.ctr ∧ (s.checkXoff p pr).coh = s.coh ∧
    (s.checkXoff p pr).snap = s.snap ∧ (s.checkXoff p pr).tb = s.tb ∧ (s.checkXoff p pr).stp = s.stp ∧ (s.checkXoff p pr).ldg = s.ldg ∧
    (s.checkXoff p pr).mrg = s.mrg ∧ (s.checkXoff p pr).rel = s.rel ∧ (s.checkXoff p pr).lanes = s.lanes ∧ (s.checkXoff p pr).slices = s.slices ∧
    (s.checkXoff p pr).flow = s.flow ∧ (s.checkXoff p pr).tm = s.tm ∧ (s.checkXoff p pr).eng = s.eng ∧ (s.checkXoff p pr).hif = s.hif ∧
    (s.checkXoff p pr).qm = s.qm ∧ (s.checkXoff p pr).mgt = s.mgt ∧ (s.checkXoff p pr).nvm = s.nvm ∧ (s.checkXoff p pr).evr = s.evr ∧
    (s.checkXoff p pr).tel = s.tel ∧ (s.checkXoff p pr).clk = s.clk ∧ (s.checkXoff p pr).pwr = s.pwr ∧ (s.checkXoff p pr).rst = s.rst ∧
    (s.checkXoff p pr).svc = s.svc ∧ (s.checkXoff p pr).tap = s.tap :=
  ⟨State.checkXoff_keeps State.pending (fun _ _ => rfl) s p pr,
    State.checkXoff_keeps State.free (fun _ _ => rfl) s p pr,
    State.checkXoff_keeps State.assured (fun _ _ => rfl) s p pr,
    State.checkXoff_keeps State.out (fun _ _ => rfl) s p pr,
    State.checkXoff_keeps State.nextFrame (fun _ _ => rfl) s p pr,
    State.checkXoff_keeps State.regs (fun _ _ => rfl) s p pr,
    State.checkXoff_keeps State.ctr (fun _ _ => rfl) s p pr,
    State.checkXoff_keeps State.coh (fun _ _ => rfl) s p pr,
    State.checkXoff_keeps State.snap (fun _ _ => rfl) s p pr,
    State.checkXoff_keeps State.tb (fun _ _ => rfl) s p pr,
    State.checkXoff_keeps State.stp (fun _ _ => rfl) s p pr,
    State.checkXoff_keeps State.ldg (fun _ _ => rfl) s p pr,
    State.checkXoff_keeps State.mrg (fun _ _ => rfl) s p pr,
    State.checkXoff_keeps State.rel (fun _ _ => rfl) s p pr,
    State.checkXoff_keeps State.lanes (fun _ _ => rfl) s p pr,
    State.checkXoff_keeps State.slices (fun _ _ => rfl) s p pr,
    State.checkXoff_keeps State.flow (fun _ _ => rfl) s p pr,
    State.checkXoff_keeps State.tm (fun _ _ => rfl) s p pr,
    State.checkXoff_keeps State.eng (fun _ _ => rfl) s p pr,
    State.checkXoff_keeps State.hif (fun _ _ => rfl) s p pr,
    State.checkXoff_keeps State.qm (fun _ _ => rfl) s p pr,
    State.checkXoff_keeps State.mgt (fun _ _ => rfl) s p pr,
    State.checkXoff_keeps State.nvm (fun _ _ => rfl) s p pr,
    State.checkXoff_keeps State.evr (fun _ _ => rfl) s p pr,
    State.checkXoff_keeps State.tel (fun _ _ => rfl) s p pr,
    State.checkXoff_keeps State.clk (fun _ _ => rfl) s p pr,
    State.checkXoff_keeps State.pwr (fun _ _ => rfl) s p pr,
    State.checkXoff_keeps State.rst (fun _ _ => rfl) s p pr,
    State.checkXoff_keeps State.svc (fun _ _ => rfl) s p pr,
    State.checkXoff_keeps State.tap (fun _ _ => rfl) s p pr⟩

theorem State.takeCells_keeps {β : Sort _} (obs : State → β)
    (h : ∀ (s : State) x0 x1, obs { s with tm := x0, ports := x1 } = obs s)
    (s : State) (p pr n : Nat) : obs (s.takeCells p pr n) = obs s := by
  unfold State.takeCells
  try dsimp only
  repeat' split
  all_goals try simp only [State.checkXoff_keeps obs (fun s x0 => h s s.tm x0)]
  all_goals iterate 4 first
    | done
    | rfl
    | (refine (h _ _ _).trans ?_; try simp only [State.checkXoff_keeps obs (fun s x0 => h s s.tm x0)])

/-- Taking cells changes only the traffic manager and the ports. -/
@[simp] theorem State.takeCells_frame (s : State) (p pr n : Nat) :
    (s.takeCells p pr n).pending = s.pending ∧ (s.takeCells p pr n).free = s.free ∧ (s.takeCells p pr n).assured = s.assured ∧ (s.takeCells p pr n).out = s.out ∧
    (s.takeCells p pr n).nextFrame = s.nextFrame ∧ (s.takeCells p pr n).regs = s.regs ∧ (s.takeCells p pr n).ctr = s.ctr ∧ (s.takeCells p pr n).coh = s.coh ∧
    (s.takeCells p pr n).snap = s.snap ∧ (s.takeCells p pr n).tb = s.tb ∧ (s.takeCells p pr n).stp = s.stp ∧ (s.takeCells p pr n).ldg = s.ldg ∧
    (s.takeCells p pr n).mrg = s.mrg ∧ (s.takeCells p pr n).rel = s.rel ∧ (s.takeCells p pr n).lanes = s.lanes ∧ (s.takeCells p pr n).slices = s.slices ∧
    (s.takeCells p pr n).flow = s.flow ∧ (s.takeCells p pr n).eng = s.eng ∧ (s.takeCells p pr n).hif = s.hif ∧ (s.takeCells p pr n).qm = s.qm ∧
    (s.takeCells p pr n).mgt = s.mgt ∧ (s.takeCells p pr n).nvm = s.nvm ∧ (s.takeCells p pr n).evr = s.evr ∧ (s.takeCells p pr n).tel = s.tel ∧
    (s.takeCells p pr n).clk = s.clk ∧ (s.takeCells p pr n).pwr = s.pwr ∧ (s.takeCells p pr n).rst = s.rst ∧ (s.takeCells p pr n).svc = s.svc ∧
    (s.takeCells p pr n).tap = s.tap :=
  ⟨State.takeCells_keeps State.pending (fun _ _ _ => rfl) s p pr n,
    State.takeCells_keeps State.free (fun _ _ _ => rfl) s p pr n,
    State.takeCells_keeps State.assured (fun _ _ _ => rfl) s p pr n,
    State.takeCells_keeps State.out (fun _ _ _ => rfl) s p pr n,
    State.takeCells_keeps State.nextFrame (fun _ _ _ => rfl) s p pr n,
    State.takeCells_keeps State.regs (fun _ _ _ => rfl) s p pr n,
    State.takeCells_keeps State.ctr (fun _ _ _ => rfl) s p pr n,
    State.takeCells_keeps State.coh (fun _ _ _ => rfl) s p pr n,
    State.takeCells_keeps State.snap (fun _ _ _ => rfl) s p pr n,
    State.takeCells_keeps State.tb (fun _ _ _ => rfl) s p pr n,
    State.takeCells_keeps State.stp (fun _ _ _ => rfl) s p pr n,
    State.takeCells_keeps State.ldg (fun _ _ _ => rfl) s p pr n,
    State.takeCells_keeps State.mrg (fun _ _ _ => rfl) s p pr n,
    State.takeCells_keeps State.rel (fun _ _ _ => rfl) s p pr n,
    State.takeCells_keeps State.lanes (fun _ _ _ => rfl) s p pr n,
    State.takeCells_keeps State.slices (fun _ _ _ => rfl) s p pr n,
    State.takeCells_keeps State.flow (fun _ _ _ => rfl) s p pr n,
    State.takeCells_keeps State.eng (fun _ _ _ => rfl) s p pr n,
    State.takeCells_keeps State.hif (fun _ _ _ => rfl) s p pr n,
    State.takeCells_keeps State.qm (fun _ _ _ => rfl) s p pr n,
    State.takeCells_keeps State.mgt (fun _ _ _ => rfl) s p pr n,
    State.takeCells_keeps State.nvm (fun _ _ _ => rfl) s p pr n,
    State.takeCells_keeps State.evr (fun _ _ _ => rfl) s p pr n,
    State.takeCells_keeps State.tel (fun _ _ _ => rfl) s p pr n,
    State.takeCells_keeps State.clk (fun _ _ _ => rfl) s p pr n,
    State.takeCells_keeps State.pwr (fun _ _ _ => rfl) s p pr n,
    State.takeCells_keeps State.rst (fun _ _ _ => rfl) s p pr n,
    State.takeCells_keeps State.svc (fun _ _ _ => rfl) s p pr n,
    State.takeCells_keeps State.tap (fun _ _ _ => rfl) s p pr n⟩

theorem State.giveCells_keeps {β : Sort _} (obs : State → β)
    (h : ∀ (s : State) x0 x1, obs { s with tm := x0, ports := x1 } = obs s)
    (s : State) (p pr n : Nat) : obs (s.giveCells p pr n) = obs s := by
  unfold State.giveCells
  try dsimp only
  repeat' split
  all_goals try simp only [State.checkXoff_keeps obs (fun s x0 => h s s.tm x0)]
  all_goals iterate 4 first
    | done
    | rfl
    | (refine (h _ _ _).trans ?_; try simp only [State.checkXoff_keeps obs (fun s x0 => h s s.tm x0)])

/-- Giving cells back changes only the traffic manager and the ports. -/
@[simp] theorem State.giveCells_frame (s : State) (p pr n : Nat) :
    (s.giveCells p pr n).pending = s.pending ∧ (s.giveCells p pr n).free = s.free ∧ (s.giveCells p pr n).assured = s.assured ∧ (s.giveCells p pr n).out = s.out ∧
    (s.giveCells p pr n).nextFrame = s.nextFrame ∧ (s.giveCells p pr n).regs = s.regs ∧ (s.giveCells p pr n).ctr = s.ctr ∧ (s.giveCells p pr n).coh = s.coh ∧
    (s.giveCells p pr n).snap = s.snap ∧ (s.giveCells p pr n).tb = s.tb ∧ (s.giveCells p pr n).stp = s.stp ∧ (s.giveCells p pr n).ldg = s.ldg ∧
    (s.giveCells p pr n).mrg = s.mrg ∧ (s.giveCells p pr n).rel = s.rel ∧ (s.giveCells p pr n).lanes = s.lanes ∧ (s.giveCells p pr n).slices = s.slices ∧
    (s.giveCells p pr n).flow = s.flow ∧ (s.giveCells p pr n).eng = s.eng ∧ (s.giveCells p pr n).hif = s.hif ∧ (s.giveCells p pr n).qm = s.qm ∧
    (s.giveCells p pr n).mgt = s.mgt ∧ (s.giveCells p pr n).nvm = s.nvm ∧ (s.giveCells p pr n).evr = s.evr ∧ (s.giveCells p pr n).tel = s.tel ∧
    (s.giveCells p pr n).clk = s.clk ∧ (s.giveCells p pr n).pwr = s.pwr ∧ (s.giveCells p pr n).rst = s.rst ∧ (s.giveCells p pr n).svc = s.svc ∧
    (s.giveCells p pr n).tap = s.tap :=
  ⟨State.giveCells_keeps State.pending (fun _ _ _ => rfl) s p pr n,
    State.giveCells_keeps State.free (fun _ _ _ => rfl) s p pr n,
    State.giveCells_keeps State.assured (fun _ _ _ => rfl) s p pr n,
    State.giveCells_keeps State.out (fun _ _ _ => rfl) s p pr n,
    State.giveCells_keeps State.nextFrame (fun _ _ _ => rfl) s p pr n,
    State.giveCells_keeps State.regs (fun _ _ _ => rfl) s p pr n,
    State.giveCells_keeps State.ctr (fun _ _ _ => rfl) s p pr n,
    State.giveCells_keeps State.coh (fun _ _ _ => rfl) s p pr n,
    State.giveCells_keeps State.snap (fun _ _ _ => rfl) s p pr n,
    State.giveCells_keeps State.tb (fun _ _ _ => rfl) s p pr n,
    State.giveCells_keeps State.stp (fun _ _ _ => rfl) s p pr n,
    State.giveCells_keeps State.ldg (fun _ _ _ => rfl) s p pr n,
    State.giveCells_keeps State.mrg (fun _ _ _ => rfl) s p pr n,
    State.giveCells_keeps State.rel (fun _ _ _ => rfl) s p pr n,
    State.giveCells_keeps State.lanes (fun _ _ _ => rfl) s p pr n,
    State.giveCells_keeps State.slices (fun _ _ _ => rfl) s p pr n,
    State.giveCells_keeps State.flow (fun _ _ _ => rfl) s p pr n,
    State.giveCells_keeps State.eng (fun _ _ _ => rfl) s p pr n,
    State.giveCells_keeps State.hif (fun _ _ _ => rfl) s p pr n,
    State.giveCells_keeps State.qm (fun _ _ _ => rfl) s p pr n,
    State.giveCells_keeps State.mgt (fun _ _ _ => rfl) s p pr n,
    State.giveCells_keeps State.nvm (fun _ _ _ => rfl) s p pr n,
    State.giveCells_keeps State.evr (fun _ _ _ => rfl) s p pr n,
    State.giveCells_keeps State.tel (fun _ _ _ => rfl) s p pr n,
    State.giveCells_keeps State.clk (fun _ _ _ => rfl) s p pr n,
    State.giveCells_keeps State.pwr (fun _ _ _ => rfl) s p pr n,
    State.giveCells_keeps State.rst (fun _ _ _ => rfl) s p pr n,
    State.giveCells_keeps State.svc (fun _ _ _ => rfl) s p pr n,
    State.giveCells_keeps State.tap (fun _ _ _ => rfl) s p pr n⟩

theorem State.releaseFrame_keeps {β : Sort _} (obs : State → β)
    (h : ∀ (s : State) x0 x1, obs { s with tm := x0, ports := x1 } = obs s)
    (s : State) (f : Nat) : obs (s.releaseFrame f) = obs s := by
  unfold State.releaseFrame
  try dsimp only
  repeat' split
  all_goals try simp only [State.giveCells_keeps obs (fun s x0 x1 => h s x0 x1)]
  all_goals iterate 4 first
    | done
    | rfl
    | (refine (h _ _ _).trans ?_; try simp only [State.giveCells_keeps obs (fun s x0 x1 => h s x0 x1)])

/-- A frame without copies gives its cells back: only the traffic manager and the ports change. -/
@[simp] theorem State.releaseFrame_frame (s : State) (f : Nat) :
    (s.releaseFrame f).pending = s.pending ∧ (s.releaseFrame f).free = s.free ∧ (s.releaseFrame f).assured = s.assured ∧ (s.releaseFrame f).out = s.out ∧
    (s.releaseFrame f).nextFrame = s.nextFrame ∧ (s.releaseFrame f).regs = s.regs ∧ (s.releaseFrame f).ctr = s.ctr ∧ (s.releaseFrame f).coh = s.coh ∧
    (s.releaseFrame f).snap = s.snap ∧ (s.releaseFrame f).tb = s.tb ∧ (s.releaseFrame f).stp = s.stp ∧ (s.releaseFrame f).ldg = s.ldg ∧
    (s.releaseFrame f).mrg = s.mrg ∧ (s.releaseFrame f).rel = s.rel ∧ (s.releaseFrame f).lanes = s.lanes ∧ (s.releaseFrame f).slices = s.slices ∧
    (s.releaseFrame f).flow = s.flow ∧ (s.releaseFrame f).eng = s.eng ∧ (s.releaseFrame f).hif = s.hif ∧ (s.releaseFrame f).qm = s.qm ∧
    (s.releaseFrame f).mgt = s.mgt ∧ (s.releaseFrame f).nvm = s.nvm ∧ (s.releaseFrame f).evr = s.evr ∧ (s.releaseFrame f).tel = s.tel ∧
    (s.releaseFrame f).clk = s.clk ∧ (s.releaseFrame f).pwr = s.pwr ∧ (s.releaseFrame f).rst = s.rst ∧ (s.releaseFrame f).svc = s.svc ∧
    (s.releaseFrame f).tap = s.tap :=
  ⟨State.releaseFrame_keeps State.pending (fun _ _ _ => rfl) s f,
    State.releaseFrame_keeps State.free (fun _ _ _ => rfl) s f,
    State.releaseFrame_keeps State.assured (fun _ _ _ => rfl) s f,
    State.releaseFrame_keeps State.out (fun _ _ _ => rfl) s f,
    State.releaseFrame_keeps State.nextFrame (fun _ _ _ => rfl) s f,
    State.releaseFrame_keeps State.regs (fun _ _ _ => rfl) s f,
    State.releaseFrame_keeps State.ctr (fun _ _ _ => rfl) s f,
    State.releaseFrame_keeps State.coh (fun _ _ _ => rfl) s f,
    State.releaseFrame_keeps State.snap (fun _ _ _ => rfl) s f,
    State.releaseFrame_keeps State.tb (fun _ _ _ => rfl) s f,
    State.releaseFrame_keeps State.stp (fun _ _ _ => rfl) s f,
    State.releaseFrame_keeps State.ldg (fun _ _ _ => rfl) s f,
    State.releaseFrame_keeps State.mrg (fun _ _ _ => rfl) s f,
    State.releaseFrame_keeps State.rel (fun _ _ _ => rfl) s f,
    State.releaseFrame_keeps State.lanes (fun _ _ _ => rfl) s f,
    State.releaseFrame_keeps State.slices (fun _ _ _ => rfl) s f,
    State.releaseFrame_keeps State.flow (fun _ _ _ => rfl) s f,
    State.releaseFrame_keeps State.eng (fun _ _ _ => rfl) s f,
    State.releaseFrame_keeps State.hif (fun _ _ _ => rfl) s f,
    State.releaseFrame_keeps State.qm (fun _ _ _ => rfl) s f,
    State.releaseFrame_keeps State.mgt (fun _ _ _ => rfl) s f,
    State.releaseFrame_keeps State.nvm (fun _ _ _ => rfl) s f,
    State.releaseFrame_keeps State.evr (fun _ _ _ => rfl) s f,
    State.releaseFrame_keeps State.tel (fun _ _ _ => rfl) s f,
    State.releaseFrame_keeps State.clk (fun _ _ _ => rfl) s f,
    State.releaseFrame_keeps State.pwr (fun _ _ _ => rfl) s f,
    State.releaseFrame_keeps State.rst (fun _ _ _ => rfl) s f,
    State.releaseFrame_keeps State.svc (fun _ _ _ => rfl) s f,
    State.releaseFrame_keeps State.tap (fun _ _ _ => rfl) s f⟩

theorem State.settleFrame_keeps {β : Sort _} (obs : State → β)
    (h : ∀ (s : State) x0 x1 x2, obs { s with tm := x0, ports := x1, ldg := x2 } = obs s)
    (s : State) (f : Nat) : obs (s.settleFrame f) = obs s := by
  unfold State.settleFrame
  try dsimp only
  repeat' split
  all_goals try simp only [State.releaseFrame_keeps obs (fun s x0 x1 => h s x0 x1 s.ldg), State.forget_keeps obs (fun s x0 => h s s.tm s.ports x0)]
  all_goals iterate 4 first
    | done
    | rfl
    | (refine (h _ _ _ _).trans ?_; try simp only [State.releaseFrame_keeps obs (fun s x0 x1 => h s x0 x1 s.ldg), State.forget_keeps obs (fun s x0 => h s s.tm s.ports x0)])

/-- A frame without copies changes only the traffic manager, the ports and the ledger. -/
@[simp] theorem State.settleFrame_frame (s : State) (f : Nat) :
    (s.settleFrame f).pending = s.pending ∧ (s.settleFrame f).free = s.free ∧ (s.settleFrame f).assured = s.assured ∧ (s.settleFrame f).out = s.out ∧
    (s.settleFrame f).nextFrame = s.nextFrame ∧ (s.settleFrame f).regs = s.regs ∧ (s.settleFrame f).ctr = s.ctr ∧ (s.settleFrame f).coh = s.coh ∧
    (s.settleFrame f).snap = s.snap ∧ (s.settleFrame f).tb = s.tb ∧ (s.settleFrame f).stp = s.stp ∧ (s.settleFrame f).mrg = s.mrg ∧
    (s.settleFrame f).rel = s.rel ∧ (s.settleFrame f).lanes = s.lanes ∧ (s.settleFrame f).slices = s.slices ∧ (s.settleFrame f).flow = s.flow ∧
    (s.settleFrame f).eng = s.eng ∧ (s.settleFrame f).hif = s.hif ∧ (s.settleFrame f).qm = s.qm ∧ (s.settleFrame f).mgt = s.mgt ∧
    (s.settleFrame f).nvm = s.nvm ∧ (s.settleFrame f).evr = s.evr ∧ (s.settleFrame f).tel = s.tel ∧ (s.settleFrame f).clk = s.clk ∧
    (s.settleFrame f).pwr = s.pwr ∧ (s.settleFrame f).rst = s.rst ∧ (s.settleFrame f).svc = s.svc ∧ (s.settleFrame f).tap = s.tap :=
  ⟨State.settleFrame_keeps State.pending (fun _ _ _ _ => rfl) s f,
    State.settleFrame_keeps State.free (fun _ _ _ _ => rfl) s f,
    State.settleFrame_keeps State.assured (fun _ _ _ _ => rfl) s f,
    State.settleFrame_keeps State.out (fun _ _ _ _ => rfl) s f,
    State.settleFrame_keeps State.nextFrame (fun _ _ _ _ => rfl) s f,
    State.settleFrame_keeps State.regs (fun _ _ _ _ => rfl) s f,
    State.settleFrame_keeps State.ctr (fun _ _ _ _ => rfl) s f,
    State.settleFrame_keeps State.coh (fun _ _ _ _ => rfl) s f,
    State.settleFrame_keeps State.snap (fun _ _ _ _ => rfl) s f,
    State.settleFrame_keeps State.tb (fun _ _ _ _ => rfl) s f,
    State.settleFrame_keeps State.stp (fun _ _ _ _ => rfl) s f,
    State.settleFrame_keeps State.mrg (fun _ _ _ _ => rfl) s f,
    State.settleFrame_keeps State.rel (fun _ _ _ _ => rfl) s f,
    State.settleFrame_keeps State.lanes (fun _ _ _ _ => rfl) s f,
    State.settleFrame_keeps State.slices (fun _ _ _ _ => rfl) s f,
    State.settleFrame_keeps State.flow (fun _ _ _ _ => rfl) s f,
    State.settleFrame_keeps State.eng (fun _ _ _ _ => rfl) s f,
    State.settleFrame_keeps State.hif (fun _ _ _ _ => rfl) s f,
    State.settleFrame_keeps State.qm (fun _ _ _ _ => rfl) s f,
    State.settleFrame_keeps State.mgt (fun _ _ _ _ => rfl) s f,
    State.settleFrame_keeps State.nvm (fun _ _ _ _ => rfl) s f,
    State.settleFrame_keeps State.evr (fun _ _ _ _ => rfl) s f,
    State.settleFrame_keeps State.tel (fun _ _ _ _ => rfl) s f,
    State.settleFrame_keeps State.clk (fun _ _ _ _ => rfl) s f,
    State.settleFrame_keeps State.pwr (fun _ _ _ _ => rfl) s f,
    State.settleFrame_keeps State.rst (fun _ _ _ _ => rfl) s f,
    State.settleFrame_keeps State.svc (fun _ _ _ _ => rfl) s f,
    State.settleFrame_keeps State.tap (fun _ _ _ _ => rfl) s f⟩

theorem State.dropCopy_keeps {β : Sort _} (obs : State → β)
    (h : ∀ (s : State) x0 x1 x2 x3 x4 x5 x6 x7, obs { s with tm := x0, ports := x1, ldg := x2, regs := x3, evr := x4, out := x5, ctr := x6, qm := x7 } = obs s)
    (s : State) (c : Copy) (d : Nat) : obs (s.dropCopy c d) = obs s := by
  unfold State.dropCopy
  try dsimp only
  repeat' split
  all_goals try simp only [State.lateOutcome_keeps obs (fun s x0 x1 x2 x3 x4 => h s s.tm s.ports x0 x1 x2 x3 x4 s.qm), State.settleSend_keeps obs (fun s x0 => h s s.tm s.ports s.ldg s.regs s.evr s.out s.ctr x0), State.unqueue_keeps obs (fun s x0 => h s x0 s.ports s.ldg s.regs s.evr s.out s.ctr s.qm), State.settleFrame_keeps obs (fun s x0 x1 x2 => h s x0 x1 x2 s.regs s.evr s.out s.ctr s.qm)]
  all_goals iterate 4 first
    | done
    | rfl
    | (refine (h _ _ _ _ _ _ _ _ _).trans ?_; try simp only [State.lateOutcome_keeps obs (fun s x0 x1 x2 x3 x4 => h s s.tm s.ports x0 x1 x2 x3 x4 s.qm), State.settleSend_keeps obs (fun s x0 => h s s.tm s.ports s.ldg s.regs s.evr s.out s.ctr x0), State.unqueue_keeps obs (fun s x0 => h s x0 s.ports s.ldg s.regs s.evr s.out s.ctr s.qm), State.settleFrame_keeps obs (fun s x0 x1 x2 => h s x0 x1 x2 s.regs s.evr s.out s.ctr s.qm)])

/-- A discarded copy changes only the traffic manager, the ports, the ledger, its SEND entry and what an event changes. -/
@[simp] theorem State.dropCopy_frame (s : State) (c : Copy) (d : Nat) :
    (s.dropCopy c d).pending = s.pending ∧ (s.dropCopy c d).free = s.free ∧ (s.dropCopy c d).assured = s.assured ∧ (s.dropCopy c d).nextFrame = s.nextFrame ∧
    (s.dropCopy c d).coh = s.coh ∧ (s.dropCopy c d).snap = s.snap ∧ (s.dropCopy c d).tb = s.tb ∧ (s.dropCopy c d).stp = s.stp ∧
    (s.dropCopy c d).mrg = s.mrg ∧ (s.dropCopy c d).rel = s.rel ∧ (s.dropCopy c d).lanes = s.lanes ∧ (s.dropCopy c d).slices = s.slices ∧
    (s.dropCopy c d).flow = s.flow ∧ (s.dropCopy c d).eng = s.eng ∧ (s.dropCopy c d).hif = s.hif ∧ (s.dropCopy c d).mgt = s.mgt ∧
    (s.dropCopy c d).nvm = s.nvm ∧ (s.dropCopy c d).tel = s.tel ∧ (s.dropCopy c d).clk = s.clk ∧ (s.dropCopy c d).pwr = s.pwr ∧
    (s.dropCopy c d).rst = s.rst ∧ (s.dropCopy c d).svc = s.svc ∧ (s.dropCopy c d).tap = s.tap :=
  ⟨State.dropCopy_keeps State.pending (fun _ _ _ _ _ _ _ _ _ => rfl) s c d,
    State.dropCopy_keeps State.free (fun _ _ _ _ _ _ _ _ _ => rfl) s c d,
    State.dropCopy_keeps State.assured (fun _ _ _ _ _ _ _ _ _ => rfl) s c d,
    State.dropCopy_keeps State.nextFrame (fun _ _ _ _ _ _ _ _ _ => rfl) s c d,
    State.dropCopy_keeps State.coh (fun _ _ _ _ _ _ _ _ _ => rfl) s c d,
    State.dropCopy_keeps State.snap (fun _ _ _ _ _ _ _ _ _ => rfl) s c d,
    State.dropCopy_keeps State.tb (fun _ _ _ _ _ _ _ _ _ => rfl) s c d,
    State.dropCopy_keeps State.stp (fun _ _ _ _ _ _ _ _ _ => rfl) s c d,
    State.dropCopy_keeps State.mrg (fun _ _ _ _ _ _ _ _ _ => rfl) s c d,
    State.dropCopy_keeps State.rel (fun _ _ _ _ _ _ _ _ _ => rfl) s c d,
    State.dropCopy_keeps State.lanes (fun _ _ _ _ _ _ _ _ _ => rfl) s c d,
    State.dropCopy_keeps State.slices (fun _ _ _ _ _ _ _ _ _ => rfl) s c d,
    State.dropCopy_keeps State.flow (fun _ _ _ _ _ _ _ _ _ => rfl) s c d,
    State.dropCopy_keeps State.eng (fun _ _ _ _ _ _ _ _ _ => rfl) s c d,
    State.dropCopy_keeps State.hif (fun _ _ _ _ _ _ _ _ _ => rfl) s c d,
    State.dropCopy_keeps State.mgt (fun _ _ _ _ _ _ _ _ _ => rfl) s c d,
    State.dropCopy_keeps State.nvm (fun _ _ _ _ _ _ _ _ _ => rfl) s c d,
    State.dropCopy_keeps State.tel (fun _ _ _ _ _ _ _ _ _ => rfl) s c d,
    State.dropCopy_keeps State.clk (fun _ _ _ _ _ _ _ _ _ => rfl) s c d,
    State.dropCopy_keeps State.pwr (fun _ _ _ _ _ _ _ _ _ => rfl) s c d,
    State.dropCopy_keeps State.rst (fun _ _ _ _ _ _ _ _ _ => rfl) s c d,
    State.dropCopy_keeps State.svc (fun _ _ _ _ _ _ _ _ _ => rfl) s c d,
    State.dropCopy_keeps State.tap (fun _ _ _ _ _ _ _ _ _ => rfl) s c d⟩

end Sys2Proof.Machine
end

