-- ==== Sys2Proof/Laws/Tables.lean ====
section
/-! SUPPORT. Laws of sparse tables: reading after setting and after erasing, and the canonical form (keys strictly rising) that
both keep, so that equal tables are equal data. -/

namespace Sys2Proof.Machine

theorem lookupKey_insertKey_self {α : Type} (k : Nat) (v : α) (l : List (Nat × α)) : lookupKey k (insertKey k v l) = some v := by
  induction l with
  | nil => simp [insertKey, lookupKey]
  | cons e r ih =>
    obtain ⟨a, w⟩ := e
    by_cases h1 : k < a
    · simp [insertKey, lookupKey, h1]
    · by_cases h2 : k = a
      · simp [insertKey, lookupKey, h2]
      · simp [insertKey, lookupKey, h1, h2, ih, Ne.symm h2]

theorem lookupKey_insertKey_ne {α : Type} {j k : Nat} (h : j ≠ k) (v : α) (l : List (Nat × α)) :
    lookupKey j (insertKey k v l) = lookupKey j l := by
  induction l with
  | nil => simp [insertKey, lookupKey, Ne.symm h]
  | cons e r ih =>
    obtain ⟨a, w⟩ := e
    by_cases h1 : k < a
    · simp [insertKey, lookupKey, h1, Ne.symm h]
    · by_cases h2 : k = a
      · subst h2; simp [insertKey, lookupKey, Ne.symm h]
      · simp [insertKey, lookupKey, h1, h2, ih]

theorem lookupKey_removeKey_ne {α : Type} {j k : Nat} (h : j ≠ k) (l : List (Nat × α)) :
    lookupKey j (removeKey k l) = lookupKey j l := by
  induction l with
  | nil => rfl
  | cons e r ih =>
    obtain ⟨a, w⟩ := e
    by_cases h2 : a = k
    · subst h2; simp [removeKey, lookupKey, Ne.symm h]
    · simp [removeKey, lookupKey, h2, ih]

theorem risingFrom_insertKey {α : Type} (b : Option Nat) (k : Nat) (v : α) (l : List (Nat × α)) (hb : ∀ x ∈ b, x < k)
    (h : risingFrom b l = true) : risingFrom b (insertKey k v l) = true := by
  induction l generalizing b with
  | nil => cases b <;> simp_all [insertKey, risingFrom]
  | cons e r ih =>
    obtain ⟨a, w⟩ := e
    simp only [risingFrom, Bool.and_eq_true] at h
    by_cases h1 : k < a
    · cases b <;> simp_all [insertKey, risingFrom]
    · by_cases h2 : k = a
      · subst h2; simp only [insertKey, lt_irrefl, ↓reduceIte, risingFrom, Bool.and_eq_true]; exact h
      · simp only [insertKey, h1, h2, ↓reduceIte, risingFrom, Bool.and_eq_true]
        exact ⟨h.1, ih (some a) (by intro x hx; simp at hx; omega) h.2⟩

theorem risingFrom_weaken {α : Type} {a : Nat} {b : Option Nat} (l : List (Nat × α)) (hb : ∀ x ∈ b, x ≤ a)
    (h : risingFrom (some a) l = true) : risingFrom b l = true := by
  cases l with
  | nil => cases b <;> rfl
  | cons e r =>
    obtain ⟨c, w⟩ := e
    cases b with
    | none => simp_all [risingFrom]
    | some x => simp only [risingFrom, Bool.and_eq_true, decide_eq_true_eq] at *; have := hb x rfl; exact ⟨by omega, h.2⟩

theorem risingFrom_removeKey {α : Type} (b : Option Nat) (k : Nat) (l : List (Nat × α)) (h : risingFrom b l = true) :
    risingFrom b (removeKey k l) = true := by
  induction l generalizing b with
  | nil => cases b <;> rfl
  | cons e r ih =>
    obtain ⟨a, w⟩ := e
    have h' := h
    simp only [risingFrom, Bool.and_eq_true] at h'
    by_cases h2 : a = k
    · subst h2
      simp only [removeKey, ↓reduceIte]
      refine risingFrom_weaken r ?_ h'.2
      intro x hx
      cases b with
      | none => cases hx
      | some y => simp at hx h'; omega
    · simp only [removeKey, h2, ↓reduceIte, risingFrom, Bool.and_eq_true]
      exact ⟨h'.1, ih (some a) h'.2⟩

theorem lookupKey_rising {α : Type} {a : Nat} (k : Nat) (l : List (Nat × α)) (hk : k ≤ a) (h : risingFrom (some a) l = true) :
    lookupKey k l = none := by
  induction l generalizing a with
  | nil => rfl
  | cons e r ih =>
    obtain ⟨c, w⟩ := e
    simp only [risingFrom, Bool.and_eq_true, decide_eq_true_eq] at h
    have : c ≠ k := by omega
    simp only [lookupKey, this, ↓reduceIte]
    exact ih (by omega) h.2

theorem lookupKey_removeKey_self {α : Type} (b : Option Nat) (k : Nat) (l : List (Nat × α)) (h : risingFrom b l = true) :
    lookupKey k (removeKey k l) = none := by
  induction l generalizing b with
  | nil => rfl
  | cons e r ih =>
    obtain ⟨a, w⟩ := e
    simp only [risingFrom, Bool.and_eq_true] at h
    by_cases h2 : a = k
    · subst h2; simp only [removeKey, ↓reduceIte]; exact lookupKey_rising a r le_rfl h.2
    · simp only [removeKey, h2, ↓reduceIte, lookupKey]; exact ih (some a) h.2

/-- What was set is read. -/
@[simp] theorem Table.get?_set_self {α : Type} (t : Table α) (k : Nat) (v : α) : (t.set k v).get? k = some v :=
  lookupKey_insertKey_self k v t.entries

/-- Setting a key leaves every other one alone. -/
theorem Table.get?_set_ne {α : Type} (t : Table α) {j k : Nat} (h : j ≠ k) (v : α) : (t.set k v).get? j = t.get? j :=
  lookupKey_insertKey_ne h v t.entries

/-- Erasing a key leaves every other one alone. -/
theorem Table.get?_erase_ne {α : Type} (t : Table α) {j k : Nat} (h : j ≠ k) : (t.erase k).get? j = t.get? j :=
  lookupKey_removeKey_ne h t.entries

/-- A key that was erased from a canonical table is absent. -/
theorem Table.get?_erase_self {α : Type} (t : Table α) (k : Nat) (h : t.wf = true) : (t.erase k).get? k = none :=
  lookupKey_removeKey_self none k t.entries h

@[simp] theorem Table.getD_set_self {α : Type} (t : Table α) (k : Nat) (v d : α) : (t.set k v).getD k d = v := by
  simp [Table.getD]

theorem Table.getD_set_ne {α : Type} (t : Table α) {j k : Nat} (h : j ≠ k) (v d : α) : (t.set k v).getD j d = t.getD j d := by
  simp [Table.getD, Table.get?_set_ne t h]

/-- Setting a key keeps the canonical form. -/
theorem Table.wf_set {α : Type} (t : Table α) (k : Nat) (v : α) (h : t.wf = true) : (t.set k v).wf = true :=
  risingFrom_insertKey none k v t.entries (by intro x hx; cases hx) h

/-- Erasing a key keeps the canonical form. -/
theorem Table.wf_erase {α : Type} (t : Table α) (k : Nat) (h : t.wf = true) : (t.erase k).wf = true :=
  risingFrom_removeKey none k t.entries h

/-- Changing a key keeps the canonical form. -/
theorem Table.wf_modify {α : Type} (t : Table α) (k : Nat) (d : α) (f : α → α) (h : t.wf = true) : (t.modify k d f).wf = true :=
  t.wf_set k _ h

/-- The table of words with 0 unlisted keeps its canonical form. -/
theorem setCell_wf (t : Table Word) (a : Nat) (w : Word) (h : t.wf = true) : (setCell t a w).wf = true := by
  unfold setCell; split
  · exact t.wf_erase a h
  · exact t.wf_set a w h

/-- A word that was set is read back, 0 being unlisted. -/
theorem setCell_getD_self (t : Table Word) (a : Nat) (w : Word) (h : t.wf = true) : (setCell t a w).getD a 0 = w := by
  unfold setCell; split
  · next hw => simp [Table.getD, t.get?_erase_self a h, hw]
  · simp

/-- Setting a word leaves every other one alone. -/
theorem setCell_getD_ne (t : Table Word) {a b : Nat} (h : b ≠ a) (w : Word) : (setCell t a w).getD b 0 = t.getD b 0 := by
  unfold setCell; split
  · simp [Table.getD, t.get?_erase_ne h]
  · exact t.getD_set_ne h w 0

/-- A port that was changed reads as changed; every other one as before. -/
@[simp] theorem State.port_modPort_self (s : State) (p : Nat) (f : PortSt → PortSt) : (s.modPort p f).port p = f (s.port p) := by
  simp [State.port, State.modPort]

theorem State.port_modPort_ne (s : State) {p q : Nat} (h : q ≠ p) (f : PortSt → PortSt) : (s.modPort p f).port q = s.port q := by
  simp [State.port, State.modPort, Table.getD_set_ne _ h]

/-- The same for slices. -/
@[simp] theorem State.slice_modSlice_self (s : State) (n : Nat) (f : SliceSt → SliceSt) : (s.modSlice n f).slice n = f (s.slice n) := by
  simp [State.slice, State.modSlice]

theorem State.slice_modSlice_ne (s : State) {n m : Nat} (h : m ≠ n) (f : SliceSt → SliceSt) :
    (s.modSlice n f).slice m = s.slice m := by
  simp [State.slice, State.modSlice, Table.getD_set_ne _ h]

/-- The same for functions. -/
@[simp] theorem State.fn_modFn_self (s : State) (n : Nat) (f : FnSt → FnSt) : (s.modFn n f).fn n = f (s.fn n) := by
  simp [State.fn, State.modFn]

theorem State.fn_modFn_ne (s : State) {n m : Nat} (h : m ≠ n) (f : FnSt → FnSt) : (s.modFn n f).fn m = s.fn m := by
  simp [State.fn, State.modFn, Table.getD_set_ne _ h]

/-- The same for units. -/
@[simp] theorem State.unit_setUnit_self (s : State) (k : UnitKind) (sl n : Nat) (u : UnitSt) : (s.setUnit k sl n u).unit k sl n = u := by
  simp [State.unit, State.setUnit]

/-- A register that was stored reads as stored, modulo its 32 bits, while the register file is canonical. -/
theorem State.reg_setReg_self (s : State) (a v : Nat) (h : s.regs.cells.wf = true) : (s.setReg a v).reg a = v % 2 ^ 32 := by
  show ((setCell s.regs.cells a (BitVec.ofNat 32 v)).getD a 0).toNat = _
  rw [setCell_getD_self _ _ _ h, BitVec.toNat_ofNat]

/-- Storing a register leaves every other one alone. -/
theorem State.reg_setReg_ne (s : State) {a b : Nat} (h : b ≠ a) (v : Nat) : (s.setReg a v).reg b = s.reg b := by
  show ((setCell s.regs.cells a (BitVec.ofNat 32 v)).getD b 0).toNat = _
  rw [setCell_getD_ne _ h]; rfl

end Sys2Proof.Machine
end

