-- ==== Sys2Proof/Machine/Package.lean ====
section
/-! DEFINITION. The ball grid: which ball each lane, signal and rail takes (R810 to R814), and what the outputs hold (R819). -/

namespace Sys2Proof.Machine

/-- The letters that name rows (R810). -/
def rowLetters : List Char := ['A', 'B', 'C', 'D', 'E', 'F', 'G', 'H', 'J', 'K', 'L', 'M', 'N', 'P', 'T', 'U', 'V', 'W', 'Y']

/-- The letters of the row of an index from 1 to 77 (R810). -/
def rowName (i : Nat) : List Char :=
  let l := rowLetters.getD ((i - 1) % 19) 'A'
  if i ≤ 19 then [l] else [['A', 'B', 'C', 'D'].getD ((i - 20) / 19) 'A', l]

/-- The index of the row that letters name (R810). -/
def rowIdx (n : List Char) : Nat := ((List.range 78).find? fun i => decide (0 < i ∧ rowName i = n)).getD 0

/-- A ball: row index and column. -/
abbrev Ball := Nat × Nat

/-- The P and N balls of an Ethernet lane's transmitter or receiver (R811). -/
def ethBalls (rx : Bool) (lane : Nat) : Ball × Ball :=
  let row := rowIdx (match lane / 24, rx with
    | 0, false => ['B'] | 0, true => ['D'] | 1, false => ['F'] | 1, true => ['H']
    | 2, false => ['C', 'Y'] | 2, true => ['C', 'V'] | _, false => ['C', 'T'] | _, true => ['C', 'N'])
  let k := lane % 24
  ((row, 3 + 3 * k), (row, 4 + 3 * k))

/-- The P and N balls of a PCIe lane's transmitter or receiver (R812). -/
def pcieBalls (rx : Bool) (lane : Nat) : Ball × Ball :=
  let col := if rx then 5 else 2
  ((16 + 3 * lane, col), (17 + 3 * lane, col))

/-- The signals of R813, a group of like ones under one name with its members in order. -/
inductive Signal where
  | xtalIn | xtalOut | sysrefP | sysrefN | ethrefP (n : Nat) | ethrefN (n : Nat) | timerefP (n : Nat) | timerefN (n : Nat)
  | ppsIn (n : Nat) | ppsOut (n : Nat) | evtIn (n : Nat) | todRxd | todTxd | synceOut (n : Nat)
  | flashClk (d : Nat) | flashCsN (d : Nat) | flashDqs (d : Nat) | flashRstN (d : Nat) | flashDq (d n : Nat)
  | perstN | peClkreqN | smbScl | smbSda | avsClk | avsMdata | avsSdata | conTxd | conRxd | thermtripN | devAlertN | pwrOk
  | pwronRstN | senseP | senseN | tck | tms | tdi | tdo | trstN | oscWait (n : Nat) | bootSel (n : Nat) | flashMirror | peClkMode
  deriving DecidableEq, Repr

/-- The row letters and column of a signal's ball (R813). -/
def signalAt : Signal → List Char × Nat
  | .xtalIn => (['B', 'E'], 76) | .xtalOut => (['B', 'G'], 76) | .sysrefP => (['C', 'H'], 2) | .sysrefN => (['C', 'J'], 2)
  | .ethrefP 0 => (['K'], 37) | .ethrefN 0 => (['K'], 38) | .ethrefP _ => (['C', 'L'], 37) | .ethrefN _ => (['C', 'L'], 38)
  | .timerefP 0 => (['A', 'F'], 76) | .timerefN 0 => (['A', 'G'], 76) | .timerefP _ => (['A', 'J'], 76)
  | .timerefN _ => (['A', 'K'], 76)
  | .ppsIn n => (if n = 0 then ['M'] else ['N'], 76) | .ppsOut n => (if n = 0 then ['P'] else ['T'], 76)
  | .evtIn n => ([['U', 'V', 'W', 'Y'].getD n 'U'], 76) | .todRxd => (['A', 'A'], 76) | .todTxd => (['A', 'B'], 76)
  | .synceOut n => (['A', if n = 0 then 'C' else 'D'], 76)
  | .flashClk d => (['M'], 74 - 2 * d) | .flashCsN d => (['N'], 74 - 2 * d) | .flashDqs d => (['P'], 74 - 2 * d)
  | .flashRstN d => (['T'], 74 - 2 * d) | .flashDq d n => (rowName (16 + n), 74 - 2 * d)
  | .perstN => (['C', 'L'], 2) | .peClkreqN => (['C', 'L'], 4) | .smbScl => (['A', 'M'], 76) | .smbSda => (['A', 'N'], 76)
  | .avsClk => (['A', 'P'], 76) | .avsMdata => (['A', 'T'], 76) | .avsSdata => (['A', 'U'], 76) | .conTxd => (['A', 'V'], 76)
  | .conRxd => (['A', 'W'], 76) | .thermtripN => (['A', 'Y'], 76) | .devAlertN => (['B', 'A'], 76) | .pwrOk => (['B', 'B'], 76)
  | .pwronRstN => (['B', 'C'], 76) | .senseP => (['B', 'L'], 76) | .senseN => (['B', 'M'], 76) | .tck => (['A', 'M'], 74)
  | .tms => (['A', 'N'], 74) | .tdi => (['A', 'P'], 74) | .tdo => (['A', 'T'], 74) | .trstN => (['A', 'U'], 74)
  | .oscWait n => ([ 'A', ['M', 'N', 'P'].getD n 'M'], 72) | .bootSel n => (['A', if n = 0 then 'T' else 'U'], 72)
  | .flashMirror => (['A', 'V'], 72) | .peClkMode => (['A', 'W'], 72)

/-- A signal's ball. -/
def signalBall (x : Signal) : Ball := (rowIdx (signalAt x).1, (signalAt x).2)

/-! ### Outputs (R804, R806, R819) -/

/-- What an output holds: a level, high impedance, an electrical idle, an open drain released, or what its function drives. -/
inductive Level where
  | low | high | highZ | idle | released | driven
  deriving DecidableEq, Repr

/-- Whether every island but AON stands still: the power-on reset, or a thermal trip (R794, R804). -/
def State.aonOnly (s : State) : Bool := s.rst.held || s.pwr.tripped

/-- An Ethernet transmitter: idle until its port is in service, or tests or drains, and in FATAL (R741, R794, R804, R819). -/
def State.ethTxLevel (s : State) (lane : Nat) : Level :=
  match s.portOfLane lane with
  | none => .idle
  | some p =>
    let u := (s.unit .port 0 p).state
    if s.aonOnly ∨ s.evr.fatal ∨ u = .outOfService ∨ u = .rejoining then .idle else .driven

/-- A PCIe transmitter: idle until the link trains (R794, R804, R819). -/
def State.peTxLevel (s : State) : Level := if s.aonOnly ∨ !s.hif.dlUp then .idle else .driven

/-- A signal of R813 as an output, none where it is an input or a reference: the table of R819, the outputs after a trip (R806), and
what their functions drive (R96, R132, R686, R762, R800). The boot ROM starts once the crystal runs (R774). -/
def State.outputLevel (s : State) : Signal → Option Level
  | .ppsOut n => some (if n ∈ s.tb.ppsHigh then .high else .low)
  | .synceOut n => some (if s.tb.synce.has n then .driven else .low)
  | .todTxd => some .high
  | .conTxd => some (if s.aonOnly ∨ !s.mgt.fwRuns then .high else .driven)
  | .flashClk _ => some (if s.aonOnly ∨ !s.mgt.oscRunning then .low else .driven)
  | .flashCsN _ => some (if s.aonOnly ∨ !s.mgt.oscRunning then .high else .driven)
  | .flashRstN _ => some (if s.rst.held ∨ !s.mgt.oscRunning then .low else .high)
  | .flashDq _ _ => some (if s.aonOnly ∨ !s.mgt.oscRunning then .highZ else .driven)
  | .avsClk => some (if s.aonOnly ∨ !s.clk.tableApplied then .low else .driven)
  | .avsMdata => some (if s.aonOnly ∨ !s.clk.tableApplied then .high else .driven)
  | .thermtripN => some (if s.pwr.tripped then .low else .released)
  | .devAlertN => some (if s.evr.alert then .low else .released)
  | .peClkreqN => some (if !s.pwr.pwrOk then .released else if s.rst.held ∨ !s.hif.l1 then .low else .driven)
  | .tdo => some .highZ
  | .smbScl | .smbSda => some .released
  | .xtalOut => some .driven
  | .xtalIn | .sysrefP | .sysrefN | .ethrefP _ | .ethrefN _ | .timerefP _ | .timerefN _ | .ppsIn _ | .evtIn _ | .todRxd
  | .flashDqs _ | .perstN | .avsSdata | .conRxd | .pwrOk | .pwronRstN | .senseP | .senseN | .tck | .tms | .tdi | .trstN
  | .oscWait _ | .bootSel _ | .flashMirror | .peClkMode => none

/-! ### Supplies -/

/-- The supplies (R797, R814). -/
inductive Rail where
  | gnd | vddCore | vddSram | vddAon | vddaEth | vddhEth | vddaPe | vddhPe | vddHbm | vddqHbm | vppHbm | vddio
  deriving DecidableEq, Repr

/-- A row of the table of R814: row ranges, columns, the parity of columns that it covers, its rail, and whether it is a checker. -/
structure RailRow where
  rows : List (List Char × List Char)
  cols : List (Nat × Nat)
  parity : Option Nat
  rail : Rail
  checker : Bool

/-- The table of R814. -/
def railTable : List RailRow :=
  let eth := [(['J'], ['K']), (['C', 'L'], ['C', 'M'])]
  let mid := [(['L'], ['C', 'K'])]
  [⟨[(['A'], ['H']), (['C', 'N'], ['D', 'A'])], [(1, 77)], none, .gnd, false⟩,
   ⟨eth, [(3, 73)], some 1, .vddaEth, false⟩,
   ⟨eth, [(4, 74)], some 0, .vddhEth, false⟩,
   ⟨eth, [(1, 2), (75, 77)], none, .gnd, false⟩,
   ⟨mid, [(1, 6), (71, 77)], none, .gnd, false⟩,
   ⟨[(['L'], ['A', 'Y'])], [(7, 7)], none, .vddaPe, false⟩,
   ⟨[(['B', 'A'], ['C', 'K'])], [(7, 7)], none, .vddhPe, false⟩,
   ⟨mid, [(70, 70)], none, .vddio, false⟩,
   ⟨[(['P'], ['T'])], [(69, 69)], none, .vddAon, false⟩,
   ⟨[(['L'], ['N'])], [(8, 69)], none, .vddSram, true⟩,
   ⟨[(['C', 'F'], ['C', 'K'])], [(8, 39)], none, .vddSram, true⟩,
   ⟨[(['B', 'N'], ['B', 'W'])], [(40, 69)], none, .vddHbm, true⟩,
   ⟨[(['B', 'Y'], ['C', 'K'])], [(40, 65)], none, .vddqHbm, true⟩,
   ⟨[(['B', 'Y'], ['C', 'K'])], [(66, 69)], none, .vppHbm, true⟩,
   ⟨mid, [(8, 69)], none, .vddCore, true⟩]

/-- Whether a row of the table covers a ball. -/
def RailRow.covers (r : RailRow) (b : Ball) : Bool :=
  r.rows.any (fun x => decide (rowIdx x.1 ≤ b.1 ∧ b.1 ≤ rowIdx x.2)) && r.cols.any (fun x => decide (x.1 ≤ b.2 ∧ b.2 ≤ x.2)) &&
    match r.parity with
    | some p => decide (b.2 % 2 = p)
    | none => true

/-- The rail of a ball that no signal takes: that of the first row that covers it; in a checker the balls of odd sum are GND (R814). -/
def railOf (b : Ball) : Option Rail :=
  match railTable.find? (·.covers b) with
  | some r => some (if r.checker ∧ (b.1 + b.2) % 2 = 1 then .gnd else r.rail)
  | none => none

end Sys2Proof.Machine
end

