-- ==== Sys2Proof/WellFormed.lean ====
section
/-! DEFINITION. Which commands can be sent at all: every operand lies in the field, or names one of the units, by which
the spec carries it. A well-formed command may still be refused by its own rules (an INVALID_FIELD status, say); no check
of this file takes part in what a command does. -/

namespace Sys2Proof

/-- A number that a field of so many bits can carry. -/
def below (bits n : Nat) : Bool := decide (n < 2 ^ bits)

/-- An offset in PF BAR0, which is 256 MiB (*Address map*). -/
def bar (addr : Nat) : Bool := below 28 addr

/-- A function number: the PF is 0 and the VFs are 1 to 4,096. -/
def fnOk (fn : Nat) : Bool := decide (fn ≤ 4096)

/-- A VF number. -/
def vfOk (vf : Nat) : Bool := decide (1 ≤ vf ∧ vf ≤ 4096)

/-- What a request of the host is to. -/
def Bar.wf : Bar → Bool
  | .bar0 => true
  | .doorbell fn => fnOk fn

/-- An admin entry whose command reads up to `n` bytes of its buffer: its function and its 64-bit buffer address (R641). -/
def AdminRef.reads (r : AdminRef) (n : Nat) : Bool :=
  fnOk r.fn && below 64 r.buf && decide (r.len ≤ n) && (!r.reading || decide (r.len ≠ 0))

/-- An admin entry whose command reads no buffer. -/
def AdminRef.wf (r : AdminRef) : Bool := r.reads 0

/-- Bytes that a work entry reads. -/
def WorkRef.bytes (w : WorkRef) : Nat := w.reads.foldl (fun n e => n + e.2) 0

/-- A work entry that reads up to `n` bytes: its work queue and 64-bit addresses. -/
def WorkRef.readsUpTo (w : WorkRef) (n : Nat) : Bool :=
  decide (w.wq < 131072) && w.reads.all (fun e => below 64 e.1) && decide (w.bytes ≤ n) && (!w.reading || decide (w.bytes ≠ 0))

/-- A work entry that reads nothing besides itself. -/
def WorkRef.wf (w : WorkRef) : Bool := w.readsUpTo 0 && w.reads.isEmpty

/-- A read's item. -/
def ReadItem.wf (i : ReadItem) : Bool :=
  match i with
  | .fetch w => decide (w < 131072)
  | .adminFetch fn => fnOk fn
  | .translation fn page => fnOk fn && below 52 page
  | .work w => decide (w.wq < 131072)
  | .admin r => fnOk r.fn && below 64 r.buf

/-- An access to BAR4: an aligned dword of its 64 KiB (R593). -/
def MsixAccess.wf (a : MsixAccess) : Bool :=
  match a with
  | .write offset _ | .read offset => below 16 offset && decide (offset % 4 = 0)

/-- A link error: the tag of a poisoned completion (R610). -/
def LinkErr.wf (e : LinkErr) : Bool :=
  match e with
  | .poisonedData tag | .poisonedFetch tag => below 14 tag
  | _ => true

/-- A unit as SERVICE_STATE carries it (R750). -/
def UnitArgs.wf (u : UnitArgs) : Bool := below 8 u.slice && below 16 u.unit

/-- A received frame: one of a port's lanes and bytes that a frame of R332 can have. -/
def RxFrame.wf (x : RxFrame) : Bool := decide (x.lane < 96) && decide (x.wire.length ≤ 16384)

/-- LEDGER_CONFIGURE with OP ENABLE_SET: the widths of its fields (R251). -/
def RingSetArgs.wf (a : RingSetArgs) : Bool :=
  below 8 a.set && below 8 a.dest && below 8 a.recLog2 && below 8 a.hdrLog2 && below 16 a.vector && below 64 a.recBase &&
    below 64 a.hdrBase && below 64 a.tailBase

/-- LEDGER_CONFIGURE with OP ARCHIVE: the widths of its fields (R252). -/
def ArchiveArgs.wf (a : ArchiveArgs) : Bool :=
  below 8 a.set && below 32 a.conn && below 32 a.nsid && below 64 a.recLba && below 64 a.recLbas && below 64 a.hdrLba &&
    below 64 a.hdrLbas

/-- MERGE_CONFIGURE: the widths of its fields, and members that are bits of its 96-bit mask (R304). -/
def MergeArgs.wf (a : MergeArgs) : Bool :=
  below 8 a.group && below 8 a.destKind && below 32 a.dest && below 32 a.windowNs && below 32 a.maxHeld &&
    a.members.all fun p => decide (p < 96)

/-- RELEASE_CONFIGURE: the widths of its fields, and members that are bits of its 96-bit mask (R309). -/
def ReleaseArgs.wf (a : ReleaseArgs) : Bool :=
  below 8 a.group && below 8 a.speed && below 8 a.fec && below 8 a.latePolicy && below 32 a.horizonUs &&
    a.members.all fun p => decide (p < 96)

/-- The common fields of a table command (R490). -/
def TableArgs.wf (a : TableArgs) : Bool :=
  below 8 a.table && below 8 a.slice && below 16 a.flags && below 32 a.bufLen && below 32 a.pos && below 16 a.maxRecords &&
    below 16 a.port && below 16 a.bd

/-- CREATE_WQ (R654). -/
def WqArgs.wf (a : WqArgs) : Bool :=
  below 8 a.type && below 8 a.log2Size && below 32 a.nr && below 64 a.base && below 64 a.headBlock && below 32 a.bufSize

/-- CREATE_NR (R667). -/
def NrArgs.wf (a : NrArgs) : Bool :=
  below 8 a.log2Size && below 16 a.vector && below 16 a.modCount && below 16 a.modTimerUs && below 64 a.base

/-- A SEND entry (R664). -/
def SendArgs.wf (a : SendArgs) : Bool :=
  below 8 a.port && below 8 a.cls && below 8 a.relGroup && below 64 a.reqTime && below 16 a.length &&
    decide (a.frame.length ≤ a.length)

/-- A STO_CMD entry (R566). -/
def StoArgs.wf (a : StoArgs) : Bool :=
  below 8 a.nvmeOpc && below 8 a.dir && below 8 a.sglCount && below 32 a.conn && below 32 a.nsid && below 32 a.dataLen &&
    below 64 a.addr && decide (a.cdw.length = 24)

/-- A word that exists: a stage of 24, a prefix of its version's length, a ternary row (R755). -/
def RuleWord.wf : RuleWord → Bool
  | .stage _ i => decide (i < 24)
  | .index _ _ _ => true
  | .route v6 vrf pfx len => below 16 vrf && decide (pfx < 2 ^ (if v6 then 128 else 32) ∧ len ≤ (if v6 then 128 else 32))
  | .ternary row => decide (row < 32768)

/-- A patrol read of a slice that exists. -/
def PatrolTarget.wf : PatrolTarget → Bool
  | .fdb n _ => decide (n < 8)
  | .ruleWord n w => decide (n < 8) && w.wf
  | .flow _ | .context _ | .bufferCell _ | .staging _ => true

/-- Well-formed commands. -/
def Instr.wf (i : Instr) : Bool :=
  match i with
  | .registerWrite addr len data => bar addr && decide (len ≤ 512) && below (8 * len) data
  | .undecodedAccess x _ => x.bar.wf && bar x.addr
  | .bar0BadLengthRead addr len => bar addr && decide (0 < len ∧ len ≤ 4096 ∧ len ≠ 4)
  | .broadcastWrite addr _ => bar addr
  | .broadcastRead addr => bar addr
  | .counterLoRead rd => bar rd.addr
  | .rcRegisterRead rd => bar rd.addr
  | .pipeCounterRead rd => decide (rd.slice < 8)
  | .configCommit r flags => r.wf && below 32 flags
  | .commitUnitsArmed => true
  | .commitTimeReached => true
  | .bankDrainComplete slice => decide (slice < 8)
  | .journalWriteComplete _ _ => true
  | .configStage r kind bufLen _ => r.reads bufLen && below 8 kind && below 32 bufLen
  | .configAbort r => r.wf
  | .configReadStaged r addr => r.wf && bar addr
  | .configReadInEffect r addr => r.wf && bar addr
  | .configReadBanks r => r.wf
  | .snapshotCounters r flags bufLen => r.wf && below 32 flags && below 64 bufLen
  | .counterLatch => true
  | .snapshotBufferWritten => true
  | .portIdleMarker port => decide (port < 96)
  | .ppsInEdge input stamp _ => decide (input < 2) && below 112 stamp
  | .ppsEdgeTimeout source => decide (source < 16)
  | .todRxMessage _ stopEnd => below 112 stopEnd
  | .ptpMessage port _ => decide (port < 96)
  | .ptpSlaveLost _ => true
  | .hostSourceTimeout => true
  | .revertiveSwitch source => decide (source < 16)
  | .holdoverExpired => true
  | .frefDisqualified n => decide (n < 10)
  | .frefQualified n => decide (n < 10)
  | .timeStepAuto => true
  | .timeSetAbsolute r seconds nanoseconds fraction => r.wf && below 48 seconds && below 32 nanoseconds && below 16 fraction
  | .timeSetRelative r _ => r.wf
  | .timeAdjust r mode hint _ _ _ => r.wf && below 8 mode && below 8 hint
  | .timeStatus r => r.wf
  | .ppsOutRise n => decide (n < 2)
  | .ppsOutFall n => decide (n < 2)
  | .todTxMessage => true
  | .evtInEdge n stamp _ _ => decide (n < 4) && below 112 stamp
  | .evtPop n => decide (n < 4)
  | .timeLatch => true
  | .calenderPass die => decide (die < 4)
  | .calenderPassComplete die _ => decide (die < 4)
  | .calStale => true
  | .cableMeasTimeout port => decide (port < 96)
  | .reamBoundary => true
  | .reamSeal => true
  | .signatureComplete signer _ => decide (signer < 3)
  | .recordRingWrite set => decide (set < 4)
  | .headerRingWrite set => decide (set < 4)
  | .ledgerConsumerWrite set _ _ => decide (set < 4)
  | .ledgerRingModeration set => decide (set < 4)
  | .checkpointWrite => true
  | .checkpointProgramComplete _ _ => true
  | .archiveWriteComplete set lba _ => decide (set < 4) && below 64 lba
  | .archiveIndexWrite set => decide (set < 4)
  | .archiveReconnect set => decide (set < 4)
  | .ledgerEnableSet r a => r.wf && a.wf
  | .ledgerArchive r a => r.wf && a.wf
  | .ledgerDisableSet r set => r.wf && below 8 set
  | .ledgerRotateKey r slot bufLen => r.wf && below 8 slot && below 32 bufLen
  | .ledgerExportKey r slot keyId bufLen => r.wf && below 8 slot && below 64 keyId && below 32 bufLen
  | .sm3EngineFault slice engine => decide (slice < 8) && decide (engine < 11)
  | .builderSideFault side => decide (side < 2)
  | .deckleDescriptorArrival group => below 8 group
  | .mergeFrontUpdate slice => decide (slice < 8)
  | .deckleWindowExpiry group => below 8 group
  | .deckleSideFault side => decide (side < 2)
  | .mergeCreate r a => r.wf && a.wf
  | .mergeDestroy r group => r.wf && below 8 group
  | .mergeStage r a => r.wf && a.wf
  | .mergeRedirect r group destKind dest => r.wf && below 8 group && below 8 destKind && below 32 dest
  | .releaseCreate r a => r.wf && a.wf
  | .releaseDestroy r group => r.wf && below 8 group
  | .releaseStage r a => r.wf && a.wf
  | .releaseHandoff port => decide (port < 96)
  | .frameReceived port rx => decide (port < 96) && rx.wf
  | .undecodableStart port => decide (port < 96)
  | .pauseExpiry port prio => decide (port < 96) && decide (prio < 8)
  | .pauseRefresh port prio => decide (port < 96) && decide (prio < 8)
  | .pfcWatchdogFire port prio => decide (port < 96) && decide (prio < 8)
  | .pfcHoldoffEnd port prio => decide (port < 96) && decide (prio < 8)
  | .linkUp port _ _ => decide (port < 96)
  | .linkDown port _ => decide (port < 96)
  | .flushOnDownComplete port => decide (port < 96)
  | .remoteFault port => decide (port < 96)
  | .anNoCommonAbility port => decide (port < 96)
  | .portRetrain port => decide (port < 96)
  | .msecSaInstall port an _ _ => decide (port < 96) && decide (an < 4)
  | .msecSaRemove port an _ _ => decide (port < 96) && decide (an < 4)
  | .eqAdaptStep lane coef _ => decide (lane < 96) && decide (coef < 5)
  | .portTransmitStart port tLaunch lane _ _ => decide (port < 96) && below 112 tLaunch && decide (lane < 96)
  | .gateEntryAdvance port => decide (port < 96)
  | .gateListTakeover port => decide (port < 96)
  | .headboxAdmission port => decide (port < 96)
  | .injectedFrameAdmission slice => decide (slice < 8)
  | .headboxDeal slice => decide (slice < 8)
  | .parseComplete slice _ => decide (slice < 8)
  | .couchRelease slice _ => decide (slice < 8)
  | .fragEntryTimeout slice _ => decide (slice < 8)
  | .orphanHoldExpiry slice _ => decide (slice < 8)
  | .parseLaneFault slice lane => decide (slice < 8) && decide (lane < 5)
  | .pipelinePass slice => decide (slice < 8)
  | .learnRequestServe slice => decide (slice < 8)
  | .agingVisit slice slot => decide (slice < 8) && decide (slot < 262144)
  | .tableSearch r a rec => r.reads 176 && a.wf && decide (rec.length ≤ 176)
  | .tableNext r a after => r.reads 176 && a.wf && after.all fun rec => decide (rec.length ≤ 176)
  | .tableInsert r a rec => r.reads 176 && a.wf && decide (rec.length ≤ 176)
  | .tableDelete r a rec => r.reads 176 && a.wf && decide (rec.length ≤ 176)
  | .tableFlushPort r a => r.wf && a.wf
  | .tmAdmission => true
  | .hostDelivery wq _ => decide (wq < 131072)
  | .recvWriteback wq idx => decide (wq < 131072) && below 32 idx
  | .headBlockWrite wq => decide (wq < 131072)
  | .nrModerationTimer nr => decide (nr < 65536)
  | .ipsecOutbound engine => decide (engine.engine < 34)
  | .ipsecInbound engine _ => decide (engine.engine < 34)
  | .tlsTx engine => decide (engine.engine < 34)
  | .tlsRx engine _ _ => decide (engine.engine < 34)
  | .storageSegmentReceived conn _ => decide (conn < 524288)
  | .tcpRtoExpiry conn => decide (conn < 524288)
  | .engineFault storage engine => decide (engine < if storage then 17 else 34)
  | .contextCreate r bufLen _ => r.reads bufLen && below 32 bufLen
  | .contextDestroy r handle => r.wf && below 32 handle
  | .updateKeyNewKey r handle bufLen tcpSeq key _ => r.reads bufLen && below 32 handle && below 32 bufLen && below 32 tcpSeq && decide (key.length ≤ 32)
  | .updateKeyResync r handle tcpSeq recordNo => r.wf && below 32 handle && below 32 tcpSeq && below 64 recordNo
  | .updateKeyResume r handle => r.wf && below 32 handle
  | .storageConnect r bufLen rec => r.reads (if bufLen < 1152 then 0 else 1152) && below 32 bufLen && decide (rec.connectData.length ≤ 1024)
  | .connectTimeout conn => decide (conn < 524288)
  | .storageDisconnect r handle => r.wf && below 32 handle
  | .storageDisconnectAbort r handle => r.wf && below 32 handle
  | .disconnectTimeout conn => decide (conn < 524288)
  | .stoCmd w a => w.readsUpTo (16 * a.sglCount + a.dataLen) && a.wf
  | .hostLinkUp rate width _ => decide (rate < 8) && decide (width ≤ 16)
  | .hostLinkDown => true
  | .perst => true
  | .hostLinkError e => e.wf
  | .configRequest fn offset _ => fnOk fn && decide (offset < 4096)
  | .capabilityTableApply => true
  | .fallbackTableApply => true
  | .vfEnable _ _ => true
  | .readCompletion tag bytes _ => below 14 tag && decide (bytes ≤ 4096)
  | .completionTimeout fn tag => fnOk fn && below 14 tag
  | .tagQuarantineExpiry tag => below 14 tag
  | .atsInvalidate fn page => fnOk fn && below 52 page
  | .atsTranslationCompletion fn page _ item => fnOk fn && below 52 page && item.wf
  | .vfFlr vf => vfOk vf
  | .pfFlr => true
  | .l1Entry => true
  | .l0pWidthChange utilisation => decide (utilisation ≤ 100)
  | .wqDoorbell fn off _ covered => fnOk fn && below 24 off && below 64 covered
  | .wqInvalidate fn off _ => fnOk fn && below 24 off
  | .nrDoorbell fn off _ covered => fnOk fn && below 24 off && below 64 covered
  | .nrArm fn off _ => fnOk fn && below 24 off
  | .adminDoorbell fn off _ covered => fnOk fn && below 24 off && below 64 covered
  | .adminSetup fn _ => fnOk fn
  | .adminTeardown fn _ => fnOk fn
  | .unknownAdminOpcode r what => r.wf && below 8 what.opcode && below 8 what.op
  | .nop r => r.wf
  | .identify r => r.wf
  | .createWq r a => r.wf && a.wf
  | .destroyWq r index => r.wf && below 32 index
  | .createNr r a => r.wf && a.wf
  | .destroyNr r index => r.wf && below 32 index
  | .modifyWqSetNr r index nr => r.wf && below 32 index && below 32 nr
  | .modifyWqSuspend r index => r.wf && below 32 index
  | .modifyWqResume r index => r.wf && below 32 index
  | .vfSetResources r vf vectors maxWq maxNr contexts => r.wf && below 16 vf && below 16 vectors && below 32 maxWq && below 32 maxNr && below 32 contexts
  | .vfReset r vf => r.wf && below 16 vf
  | .vfResetComplete vf => vfOk vf
  | .workNop e => e.ref.wf && below 8 e.opcode && decide (e.opcode ≠ 0x10 ∧ e.opcode ≠ 0x11 ∧ e.opcode ≠ 0x30)
  | .send w a => w.readsUpTo a.length && a.wf
  | .sendComplete w => w.wf
  | .recv w addr => w.wf && below 64 addr
  | .serviceStateQuery r u => r.wf && u.wf
  | .serviceStateTakeOut r u => r.wf && u.wf
  | .serviceStateReturn r u => r.wf && u.wf
  | .unitDrainComplete u => u.wf
  | .selfTestComplete u _ => u.wf
  | .unitFenceReached u => u.wf
  | .flashResyncComplete dev => decide (dev < 2)
  | .errorDetected _ => true
  | .errorRecordClose => true
  | .patrolRead p _ => p.wf
  | .eventPersist _ => true
  | .eventBucketRefill code => below 16 code
  | .evrSelectOnDie _ => true
  | .evrSelectRegion _ => true
  | .evrCopyComplete => true
  | .alertAck => true
  | .eventClear r bufLen _ => r.reads bufLen && below 32 bufLen
  | .telemetryRecord _ => true
  | .pldmEventRepeat sensor => below 16 sensor
  | .pldmEventAck sensor => below 16 sensor
  | .telSelect _ => true
  | .mbxRing agent channel => below 8 agent && decide (channel < 64)
  | .mbxData15Read agent channel => below 8 agent && decide (channel < 64)
  | .mbxSend channel data => decide (channel < 64) && decide (data.length ≤ 16)
  | .mbxDeliverSent channel => decide (channel < 64)
  | .setEndpointId op eid => below 8 op && below 8 eid
  | .getEndpointId => true
  | .getEndpointUuid => true
  | .getMctpVersionSupport msgType => below 8 msgType
  | .getMessageTypeSupport => true
  | .getVendorDefinedMsgSupport selector => below 8 selector
  | .getTid => true
  | .getPldmVersion pldmType => below 8 pldmType
  | .getPldmTypes => true
  | .getPldmCommands pldmType => below 8 pldmType
  | .getSensorReading sensor => below 16 sensor
  | .getStateSensorReadings sensor => below 16 sensor
  | .getPdrRepositoryInfo => true
  | .getPdr record => below 32 record
  | .setEventReceiver _ eid => below 8 eid
  | .getVersion _ => true
  | .getCapabilities _ => true
  | .negotiateAlgorithms _ _ _ => true
  | .getDigests _ => true
  | .getCertificate _ slot offset length => below 8 slot && below 16 offset && below 16 length
  | .challenge _ slot nonce => below 8 slot && decide (nonce.length = 32)
  | .getMeasurements _ signed index nonce => below 8 index && decide (nonce.length = 32 ∨ (signed = false ∧ nonce = []))
  | .nvmCompact r flags => r.wf && below 32 flags
  | .nvmStatus r => r.wf
  | .compactionStart => true
  | .compactionComplete _ _ => true
  | .flashOperationFailed dev => decide (dev < 2)
  | .flashRefresh failing => failing.all fun d => decide (d < 2)
  | .updateOpen _ => true
  | .updateWindowProgram _ => true
  | .updateProgramComplete _ => true
  | .updateClose _ _ _ => true
  | .updateAbort => true
  | .powerOnReset _ => true
  | .pwronResetRelease _ => true
  | .oscWaitElapsed => true
  | .firmwareStart _ _ _ _ => true
  | .storeReplay _ _ _ _ _ => true
  | .bootServiceReached => true
  | .warmResetRequest _ => true
  | .warmReset => true
  | .crystalLost => true
  | .crystalRestored => true
  | .pllLossOfLock island _ => decide (island < 32)
  | .clockActivityLost island => decide (island < 32)
  | .clockSelRequest island _ => decide (island < 32)
  | .clockSwitchComplete island => decide (island < 32)
  | .switchWatchdog island => decide (island < 32)
  | .pllRelocked island _ => decide (island < 32)
  | .avsAdjust _ _ _ => true
  | .avsMarginAlarm _ => true
  | .avsRetry _ => true
  | .thermalThrottle sensor _ => decide (1 ≤ sensor ∧ sensor ≤ 16)
  | .throttleEnd => true
  | .thermalTrip sensor _ => decide (1 ≤ sensor ∧ sensor ≤ 16)
  | .tapReset => true
  | .extest => true
  | .idcode => true
  | .samplePreload => true
  | .extestPulse => true
  | .extestTrain => true
  | .clamp => true
  | .highz => true
  | .bypass _ => true
  | .remoteFaultCleared port => decide (port < 96)
  | .shaperCreditRestored _ => true
  | .ptpMessageInterval port _ logInterval => decide (port < 96) && below 8 logInterval
  | .msixVectorUnmask fn a => fnOk fn && a.wf

end Sys2Proof
end

