-- ==== Sys2Proof/Tests/Slice0.lean ====
section
/-! SUPPORT. The model's own tests: ill-formed commands that WellFormed refuses, worked examples of the spec, and for every
statement a state and operands that meet its hypotheses, clause by clause. -/

namespace Sys2Proof.Tests

open Sys2Proof.Machine

set_option maxRecDepth 100000
set_option exponentiation.threshold 1000

/-! ### Small states -/

/-- The state that a command answers; the state before it where it answers none. -/
def after (c : Instr) (s : State) : State :=
  match exec c s with
  | .next t => t
  | _ => s

/-- Whether a command answers a next state. -/
def runs (c : Instr) (s : State) : Bool :=
  match exec c s with
  | .next _ => true
  | _ => false

/-- An admin queue with one entry posted and fetched. -/
def adm : AdminQ := { AdminQ.init with state := .active, base := 0x2000, prod := 1, fetched := 1 }

/-- A function that is in use. -/
def fnUp : FnSt := { FnSt.init with memEnable := true, busMaster := true, vectors := 8, maxWq := 8, maxNr := 8, contexts := 8, admin := adm }

/-- A device in SERVICE at 10 s, with its host link up and an entry in the admin queue of the PF. -/
def up : State :=
  { State.reset with
    rst := { ResetSt.init with held := false }
    mgt := { Mgmt.init with stage := .service, released := true, oscRunning := true, fwRuns := true }
    tb := { TimeBase.init with running := true, time := 10 * secStamp * 65536 }
    stp := { Stamping.init with pathWords := .empty, dies := (List.range 4).foldl (fun (t : Table DieCal) d =>
      t.set d { DieCal.init with copy := 10 * secStamp * 65536 }) .empty }
    hif := { HostLink.init with dlUp := true, ready := true }
    qm := { Queues.init with fns := Table.empty.set 0 fnUp } }

/-- A register word set. -/
def reg (s : State) (a v : Nat) : State := s.setReg a v

/-- A one-lane port that is configured and IN_SERVICE with its link up, at 10 Gb/s. -/
def port (s : State) (p : Nat) : State :=
  (((s.setFld (F.portMode_width p) 1).setFld (F.portMacCfg_maxFrame p) 1518).setUnit .port 0 p UnitSt.init).modPort p fun x =>
    { x with link := true }

/-- The first admin entry of the PF. -/
def pf : AdminRef := ⟨0, 0, 0x1000, true, 0, false⟩

theorem live_of {s : State} (h : s.assured = true ∧ s.rst.held = false ∧ s.mgt.bootSel ≠ 2 ∧ s.pwr.tripped = false) : Live s :=
  ⟨h.1, h.2.1, h.2.2.1, h.2.2.2⟩

theorem serving_of {s : State}
    (h : (s.assured = true ∧ s.rst.held = false ∧ s.mgt.bootSel ≠ 2 ∧ s.pwr.tripped = false) ∧ s.evr.fatal = false) : Serving s :=
  ⟨live_of h.1, h.2⟩

theorem pf_of {s : State} {r : AdminRef}
    (h : ((s.assured = true ∧ s.rst.held = false ∧ s.mgt.bootSel ≠ 2 ∧ s.pwr.tripped = false) ∧ s.evr.fatal = false) ∧
      s.adminReady r = true ∧ r.rsvOk = true ∧ s.mgt.stage ≠ BootStage.recovery ∧ r.fn = 0) (hr : r.reading = false := by rfl) : PfStarts r s :=
  ⟨⟨serving_of h.1, h.2.1, hr, h.2.2.1, h.2.2.2.1⟩, h.2.2.2.2⟩

theorem admin_of {s : State} {r : AdminRef}
    (h : ((s.assured = true ∧ s.rst.held = false ∧ s.mgt.bootSel ≠ 2 ∧ s.pwr.tripped = false) ∧ s.evr.fatal = false) ∧
      s.adminReady r = true ∧ r.rsvOk = true ∧ s.mgt.stage ≠ BootStage.recovery) (hr : r.reading = false := by rfl) :
    AdminStarts r s :=
  ⟨serving_of h.1, h.2.1, hr, h.2.2.1, h.2.2.2⟩

/-! ### Witnesses: the machine -/

theorem wit_up : Serving up := serving_of (by decide)
theorem wit_port : Serving (port up 0) := serving_of (by decide)
theorem wit_pf : PfStarts pf up := pf_of (by decide)

theorem wit_StepTakesFront : (up.withPending [.nop pf]).pending = .nop pf :: [] ∧ up.pending = [] ∧ up.tb.running = true ∧
    up.tb.slew = 0 ∧ State.reset.tb.running = false ∧ up.timeDead = false ∧
    ({ up with evr := { up.evr with fatal := true, fatalCause := 0x2F02 } } : State).timeDead = true := by decide

theorem wit_QuietKept : Quiet State.reset ∧ step State.reset = .next State.reset :=
  ⟨⟨by decide, by decide, by decide, by decide, fun p => by simp [State.reset, State.port]; rfl, by decide,
    fun c h => by simp [State.reset] at h⟩, rfl⟩

/-- FATAL, with nothing waiting. -/
def dead : State := { up with evr := { up.evr with fatal := true } }

theorem wit_FatalKept : FatalHeld dead := ⟨by decide, fun c h => by simp [dead, up, State.reset] at h⟩
theorem wit_FatalServesOnly : Live dead ∧ dead.evr.fatal = true ∧ servedInFatal (.nop pf) = false :=
  ⟨live_of (by decide), by decide, by decide⟩

theorem wit_TripServesNothing : (let s : State := { up with pwr := { up.pwr with tripped := true } }
    s.assured = true ∧ s.mgt.bootSel ≠ 2 ∧ s.rst.held = false ∧ s.pwr.tripped = true) ∧ ofTap (.nop pf) = false := by decide

theorem wit_RulesSuspended : ({ up with assured := false } : State).assured = false ∧ ofTap (.nop pf) = false ∧
    runs .idcode { up with assured := false } = true := by decide

theorem wit_EventEntry : up.evr.stopped = false ∧ up.hasToken 0x1001 = true ∧ up.fld F.evrAlert_sev ≤ 3 := by decide

theorem wit_AdminCompletion : let s := up.adminOpen pf
    (s.fn 0).gen = (s.tok pf).gen ∧ (s.fn 0).admin.setup = (s.tok pf).setup ∧ pf.idx ∈ (s.fn 0).admin.opened ∧
    s.hif.silenced = false ∧ s.mayIssue 0 = true ∧ (s.fn 0).idoEnable = false ∧
    (s.fn 0).atsEnable = false ∧ (s.fn 0).tphEnable = false ∧
    ((s.adminDone (s.tok pf) 0 []).fn 0).admin.head = 1 := by decide

/-! ### Ports and slices -/

/-- A received frame of 64 bytes of zeros on lane 0. -/
def rx : RxFrame := ⟨0, 10 * secStamp, 0, 0, zeros 64, true, false, true⟩

theorem wit_Arrives : Arrives 0 rx (port up 0) := ⟨serving_of (by decide), by decide, by decide, by decide, by decide, by decide⟩

theorem wit_FrameReceived : let s := port up 0
    let T := s.ingressStamp (s.reamTaken rx.steps rx.tLatch) (s.rateOf 0) rx.lane rx.tLatch rx.bit
    64 ≤ rx.wire.length ∧ rx.wire.length ≤ s.maxFrameAt 0 T ∧ rx.fcsOk = true ∧ rx.linkLost = false ∧
    pauseOpcode (rx.wire.take (rx.wire.length - 4)) = none ∧ s.fldSince (s.liveMarkAt T) (F.portMsecCfg_rxEn 0) = 0 ∧
    (s.port 0).fifo.foldl (fun a f => a + f.wireLen) 0 < s.fifoBytes 0 ∧
    ((after (.frameReceived 0 rx) s).port 0).fifo.length = 1 ∧
    ((after (.frameReceived 0 { rx with fcsOk := false }) s).port 0).fifo.length = 0 ∧ up.receives 0 = false := by decide

/-- A port with a pause of priority 0 that is over, a refresh and a hold-off that are due. -/
def paused : State := ((port up 0).setFld (F.portFcWd_wdMs 0) 1).modPort 0 fun x => { x with
  pauses := x.pauses.set 0 ⟨0, 9 * secStamp⟩, refresh := x.refresh.set 0 secStamp, holdoffs := x.holdoffs.set 1 secStamp }

theorem wit_PauseTimers : (paused.port 0).pauses.get? 0 = some ⟨0, 9 * secStamp⟩ ∧ 9 * secStamp ≤ paused.now ∧
    ((paused.modPort 0 fun x => { x with pauses := x.pauses.set 0 ⟨0, 11 * secStamp⟩ }).port 0).pauses.get? 0 =
      some ⟨0, 11 * secStamp⟩ ∧
    paused.fld (F.portFcWd_wdMs 0) ≠ 0 ∧ 0 + paused.fld (F.portFcWd_wdMs 0) * msStamp ≤ paused.now ∧
    0 + paused.fld (F.portFcWd_wdMs 0) * msStamp ≤ 9 * secStamp ∧
    (paused.port 0).refresh.get? 0 = some secStamp ∧ (paused.port 0).holdoffs.get? 1 = some secStamp ∧
    ((after (.pauseExpiry 0 0) paused).port 0).pauses.get? 0 = none ∧
    ((after (.pfcWatchdogFire 0 0) paused).port 0).holdoffs.get? 0 ≠ none ∧
    ((after (.pfcHoldoffEnd 0 1) paused).port 0).holdoffs.get? 1 = none := by decide

/-- Port 0 configured and IN_SERVICE, its link down. -/
def noLink : State := (port up 0).modPort 0 fun x => { x with link := false }

theorem wit_LinkStates : noLink.configured 0 = true ∧ noLink.up .port 0 0 = true ∧ (noLink.port 0).link = false ∧
    (noLink.port 0).localFault = false ∧ noLink.fld (F.portMode_an 0) = 0 ∧
    ((after (.linkUp 0 false false) noLink).port 0).link = true ∧
    ((port up 0).port 0).link = true ∧ ((after (.linkDown 0 ⟨0, 0, 0, true⟩) (port up 0)).port 0).localFault = true ∧
    ((after (.portRetrain 0) (port up 0)).port 0).retrain = true ∧
    (noLink.setFld (F.portMode_an 0) 1).fld (F.portMode_an 0) = 1 ∧
    ((after (.remoteFault 0) (port up 0)).port 0).remoteFault = true ∧
    ((up.modPort 0 fun x => { x with flushing := true }).port 0).flushing = true ∧
    (port up 0).ldg.idleNext.getD 0 0 ≤ (port up 0).now ∧ ((port up 0).port 0).fifo = [] ∧
    (after (.portIdleMarker 0) (port up 0)).front 0 = 10 * secStamp := by decide

theorem wit_MacsecAndAdaptation : (port up 0).configured 0 = true ∧ ((port up 0).port 0).mka = false ∧ 1 ≠ up.fld (F.portMsecCfg_encAn 0) ∧
    (((port up 0).modPort 0 fun x => { x with mka := true }).port 0).mka = true ∧
    ((after (.msecSaInstall 0 1 false ⟨0, none⟩) (port up 0)).port 0).txSas.has 1 = true ∧
    ((after (.msecSaInstall 0 1 true ⟨0, none⟩) (port up 0)).port 0).saOps.length = 1 ∧
    (port up 0).portOfLane 0 = some 0 ∧ up.fld (F.portLaneAdapt_freeze 0) = 0 ∧
    ((after (.eqAdaptStep 0 2 true) (port up 0)).lanes.getD 0 LaneSt.init).coefs.getD 2 0 = 1 := by decide

/-- A frame of 60 bytes of port 0. -/
def fr : Frame :=
  { id := 0, slice := 0, port := 0, origin := .port, stamp := 9 * secStamp, epoch := 0, ream := 1, bytes := zeros 60, wireLen := 64,
    leafLen := 60, digest := zeros 32, admClass := 0, cells := 1, pass := 0, bank := false, sseq := 0, d := Decision.init 0 0, vrf := 0,
    colour := .green, scratch := [], mark := none, exc := [], engFlags := 0, crypted := false, item := none, entered := 0 }

/-- A Ream in progress. -/
def ream1 : ReamSt :=
  { num := 1, start := 9 * secStamp, stop := none, sealAt := 0, step := false, boot := false, genesis := true, refuse := false,
    keyNew := false, quality := .freeRun, calSeq := 0, stale := true, epochFirst := 0, epochLast := 0, mask := 1, sets := .empty, keySlot := 0,
    ports := [0], frames := [], posts := [], missing := 0 }

/-- The device with Ream 1 in progress and port 0 up. -/
def flow : State := { port up 0 with ldg := { Ledger.init with running := true, cur := some ream1 } }

/-- The frame in the port's FIFO, with a reserve of cells for its class. -/
def fifo : State := (flow.modPort 0 fun x => { x with fifo := [fr] })

/-- An injected frame that waits. -/
def inj : State := flow.modSlice 0 fun x => { x with injWait := [fr] }


/-- A floor that leaves class 0 no cells. -/
def tight (s : State) : State := s.setFld (F.hbxClassCfg_floor 0 0) 8192

theorem wit_SliceEntry : (fifo.port 0).fifo = fr :: [] ∧ fifo.working .slice 0 fr.slice = true ∧ fifo.mrg.stepMark ≤ fr.ream ∧
    fifo.admits 0 fr.pos (fifo.classOf 0 fr.pos fr) (cellsOf 60) = true ∧ cellsOf fr.bytes.length ≤ (fifo.slice 0).free ∧
    ((after (.headboxAdmission 0) fifo).slice 0).admitted.length = 1 ∧
    (tight fifo).admits 0 fr.pos ((tight fifo).classOf 0 fr.pos fr) (cellsOf fr.bytes.length) = false ∧
    ((after (.headboxAdmission 0) (tight fifo)).openReam 1).map (·.frames.length) = some 1 ∧
    (inj.slice 0).injWait = fr :: [] ∧ inj.admits 0 injPos fr.admClass (cellsOf fr.bytes.length) = true ∧
    ((after (.injectedFrameAdmission 0) inj).slice 0).injected.length = 1 ∧
    (tight inj).admits 0 injPos fr.admClass (cellsOf fr.bytes.length) = false := by decide

/-- Frames that wait to be dealt: recirculated, injected, admitted. -/
def deals (r i a : List Frame) : State := flow.modSlice 0 fun x => { x with recirc := r, injected := i, admitted := a, slot := 1 }

theorem wit_DealOrder : ((deals [fr] [] []).slice 0).couch.length < 512 ∧ ((deals [fr] [] []).slice 0).active ≠ 0 ∧
    ((deals [fr] [] []).slice 0).recirc = fr :: [] ∧ ((after (.headboxDeal 0) (deals [fr] [] [])).slice 0).seq = 1 ∧
    (let s := (deals [] [fr] []).setFld (F.hbxCtrl_injMax 0) 2;
      (s.slice 0).injected = fr :: [] ∧ (s.slice 0).slot ≠ 0 ∧ (s.slice 0).injTaken < s.fldSince fr.entered (F.hbxCtrl_injMax 0) ∧
      (s.slice 0).admitted = [] ∧ ((after (.headboxDeal 0) s).slice 0).injTaken = 1) ∧
    ((deals [] [] [fr]).slice 0).admitted = fr :: [] ∧ ((deals [] [] [fr]).slice 0).injected = [] ∧
    ((after (.headboxDeal 0) (deals [] [] [fr])).slice 0).couch.length = 1 := by decide

/-- The frame in the Couch, not parsed. -/
def couch : CouchSt := ⟨0, 0, 0, fr, none⟩

/-- A rule bank that holds nothing. -/
def bank0 : Bank :=
  { bankId := 1, stages := [], actions := [], indexTables := [], templates := [], edits := [], drops := [], matchers := [], extractors := [],
    sFields := [], rows := [] }

/-- The parse of the frame of zeros. -/
def zeroParse : Parsed :=
  { hdrs := [], codes := [], trunc := [], bound := 0, payload := 0, level := 0, pattern := [], pk := [], frag := none }

/-- The frame parsed, first of its stream, under a bank. -/
def parsed : State :=
  let s := flow.modSlice 0 fun x => { x with couch := [{ couch with parsed := some zeroParse }] }
  { s with flow := { s.flow with bank0 := some bank0 } }

/-- A fragment key. -/
def key0 : FragKey := ⟨4, 1, 2, 3, 17, 0⟩

/-- A fragment table entry, and a held orphan. -/
def frag : State := flow.modSlice 0 fun x => { x with
  frags := [⟨key0, ⟨[], [], [], []⟩, 0, none, 9 * secStamp, none⟩], orphans := [couch] }

theorem wit_ParseAndCouch :
    (let s := flow.modSlice 0 fun x => { x with couch := [couch] };
      ((after (.parseComplete 0 0) s).slice 0).couch.map (fun c => c.parsed.isSome) = [true]) ∧
    (parsed.slice 0).couch.find? (fun x => decide (x.q % 2 ^ 32 = 0 % 2 ^ 32)) = some { couch with parsed := some zeroParse } ∧
    zeroParse.frag = none ∧ parsed.bank fr.bank = some bank0 ∧ (parsed.slice 0).rejoin = Table.empty ∧
    ((after (.couchRelease 0 0) parsed).slice 0).pipe.length = 1 ∧
    ((frag.slice 0).frags.find? fun (x : FragEntry) => decide (x.key = key0 ∧ x.gone = none)).isSome = true ∧
    9 * secStamp + frag.fld (F.hbxFragCfg_timeoutUs 0) * usStamp < frag.now ∧
    frag.now ≤ 9 * secStamp + (frag.setFld (F.hbxFragCfg_timeoutUs 0) 1000000).fld (F.hbxFragCfg_timeoutUs 0) * usStamp ∧
    ((after (.fragEntryTimeout 0 key0) frag).slice 0).frags.map (·.gone) = [some frag.now] ∧
    (frag.slice 0).orphans.find? (fun x => decide (x.q % 2 ^ 32 = 0 % 2 ^ 32)) = some couch ∧
    fr.stamp + frag.fldAt fr.stamp (F.hbxFragCfg_holdUs 0) * usStamp ≤ frag.now ∧
    ((after (.orphanHoldExpiry 0 0) frag).slice 0).orphans = [] := by decide

theorem wit_LaneRelief : (up.unit .parseLane 0 0).state = Service.inService ∧ up.spareLane 0 = some 4 ∧ 0 ∈ (up.slice 0).roles ∧
    (up.slice 0).rejoin = Table.empty ∧ up.recordOpen (.parseLane, 0, 0) = false ∧ up.evr.records.length < 64 ∧
    (up.unit .parseLane 0 0).token = none ∧ ((after (.parseLaneFault 0 0) up).slice 0).roles = [4, 1, 2, 3] := by decide

/-- The frame in the pipeline, with no bank. -/
def piped : State := flow.modSlice 0 fun x => { x with pipe := [⟨fr, zeroParse, 0, 0, false⟩] }

theorem wit_PassTakesOldest : (piped.slice 0).pipe = ⟨fr, zeroParse, 0, 0, false⟩ :: [] ∧ piped.bank fr.bank = none ∧
    bank0.stages = [] ∧ fr.d.dest = none ∧ fr.d.punt = none ∧ fr.d.mirrors = [] ∧ fr.d.drop = false ∧ fr.d.recirc = false ∧ fr.d.decrypt = none ∧ fr.d.rewrites = [] ∧ fr.d.decap = none ∧ fr.d.encap = none ∧
    ((after (.pipelinePass 0) piped).openReam 1).map (·.frames.map (·.disp)) = some [0x10] := by decide

/-! ### Tables -/

/-- A learn request. -/
def learn : LearnReq := ⟨1, 0x020000000001, 0, 9 * secStamp, 0⟩

/-- The learn queue with that request, over an FDB. -/
def learning (f : Table FdbEntry) : State := flow.modTabs 0 fun t => { t with learnQ := [learn], fdb := f }

/-- An FDB entry of another station. -/
def other : FdbEntry := ⟨2, 0x020000000002, false, false, 5, 0, 1, 0⟩

/-- An FDB without an empty slot. -/
def fullFdb : Table FdbEntry := ⟨(List.range' 0 262144).map fun i => (i, other)⟩

theorem lookup_range (v : FdbEntry) (k a n : Nat) (h : a ≤ k) (h' : k < a + n) :
    lookupKey k ((List.range' a n).map fun i => (i, v)) = some v := by
  induction n generalizing a with
  | zero => omega
  | succ n ih =>
    simp only [List.range'_succ, List.map_cons, lookupKey]
    split
    · rfl
    · exact ih (a + 1) (by omega) (by omega)

theorem full_get (i : Nat) (h : i < 262144) : fullFdb.get? i = some other := lookup_range other i 0 262144 (by omega) (by omega)

theorem slot_lt (n : Nat) (k : Nat × Nat) : ∀ i ∈ (fdbOps n).slots k, i < 262144 := by
  intro i hi
  simp only [CuckooOps.slots, fdbOps, List.mem_map, List.mem_range] at hi
  obtain ⟨w, hw, rfl⟩ := hi
  have := Nat.mod_lt (Config.cuckooSlot n w k) (show 0 < 0x10000 by omega)
  omega

theorem full_chain (n : Nat) : ∀ m i, i < 262144 → (fdbOps n).chain fullFdb m i = none := by
  intro m
  induction m with
  | zero => intro i hi; simp [CuckooOps.chain, Table.has, full_get i hi]
  | succ m ih =>
    intro i hi
    simp only [CuckooOps.chain, full_get i hi, List.findSome?_eq_none_iff]
    intro j hj
    rw [ih j (slot_lt n _ j (List.mem_of_mem_filter hj))]; rfl

theorem wit_LearningAndAging :
    (((learning Table.empty).tabs 0).learnQ = learn :: [] ∧
      (fdbOps 0).find ((learning Table.empty).tabs 0).fdb (learn.bd, learn.mac) = none ∧
      ∃ i, ((fdbOps 0).slots (learn.bd, learn.mac)).find? (fun i => !((learning Table.empty).tabs 0).fdb.has i) = some i) ∧
    (((learning fullFdb).tabs 0).learnQ = learn :: [] ∧
      (fdbOps 0).find ((learning fullFdb).tabs 0).fdb (learn.bd, learn.mac) = none ∧
      ∀ e : FdbEntry, e.bd = learn.bd → e.mac = learn.mac → (fdbOps 0).insert ((learning fullFdb).fdb 0) e = none) ∧
    (up.tabs 0).visitPass (up.fld (F.fdbAgeCfg_scanS 0)) 5 up.now = none ∧
    (let s := (up.setFld (F.fdbAgeCfg_scanS 0) 60).modTabs 0 fun t => { t with fdb := t.fdb.set 0 { other with pass := 7 } };
      ((s.tabs 0).visitPass (s.fld (F.fdbAgeCfg_scanS 0)) 0 s.now).isSome = true ∧
      ((after (.agingVisit 0 0) s).tabs 0).fdb.get? 0 = some { other with stale := true, pass := 0 }) ∧
    (let s := ((up.setFld (F.fdbAgeCfg_scanS 0) 60).setFld (F.fdbCtrl_learnEn 0) 1).modTabs 0 fun t => { t with
        fdb := t.fdb.set 0 { other with pass := 7 }, hits := [⟨2, 0x020000000002, some 5, 9 * secStamp, true, up.now⟩] };
      (s.hitsNow 0 other).length = 1 ∧ s.fld (F.fdbCtrl_learnEn 0) = 1 ∧ noStation other.mac = false ∧
      ((after (.agingVisit 0 0) s).tabs 0).fdb.size = 0 ∧ ((after (.agingVisit 0 0) s).tabs 0).learnQ.map (·.port) = [5]) := by
  refine ⟨⟨rfl, ?_, ?_⟩, ⟨rfl, ?_, ?_⟩, by decide, by decide, by decide⟩
  · have h : ((learning Table.empty).tabs 0).fdb = Table.empty := rfl
    rw [h, CuckooOps.find, List.find?_eq_none]
    intro i _ hi
    simp [Table.get?, Table.empty, lookupKey] at hi
  · have : ((learning Table.empty).tabs 0).fdb = Table.empty := rfl
    exact ⟨_, by rw [this]; simp only [CuckooOps.slots, List.range, List.range.loop, List.map_cons, List.find?_cons]; rfl⟩
  · have h : ((learning fullFdb).tabs 0).fdb = fullFdb := rfl
    rw [h, CuckooOps.find, List.find?_eq_none]
    intro i hi
    rw [full_get i (slot_lt 0 _ i hi)]; decide
  · intro e _ _
    have h : (learning fullFdb).fdb 0 = ⟨fullFdb, 0, []⟩ := rfl
    have h2 : (fdbOps 0).shortest fullFdb ((fdbOps 0).key e) = none := by
      simp only [CuckooOps.shortest, List.findSome?_eq_none_iff]
      intro m _ i hi
      exact full_chain 0 m i (slot_lt 0 _ i hi)
    simp [h, CuckooOps.insert, h2]

/-- A table command on slice 0. -/
def ta : TableArgs := ⟨0, 0, 0, 176, 0, 0, 1, 5, 0⟩

/-- The FDB holding an entry in the first slot of its key. -/
def held : State := up.modTabs 0 fun t => { t with fdb := t.fdb.set (((fdbOps 0).slots (2, 0x020000000002)).headD 0) other }

/-- Table records as a buffer holds them. -/
def fdbRec : Bytes := le 2 2 ++ be 6 0x020000000002 ++ zeros 2 ++ le 2 5 ++ zeros 20
def lpmRec : Bytes := le 2 1 ++ le 1 8 ++ zeros 1 ++ le 4 3 ++ be 4 0x0A000000 ++ zeros 20
def ternRec : Bytes := le 2 4 ++ le 1 0 ++ le 1 1 ++ le 4 2 ++ be 80 3 ++ be 80 3 ++ zeros 8

theorem wit_FdbCommands : PfStarts pf up ∧ PfStarts pf held ∧ tableArgsOk ta = true ∧ ta.table = 0 ∧ ta.slice < 8 ∧ 32 ≤ ta.bufLen ∧
    readRecord 0 fdbRec = some (.fdb 2 0x020000000002 false 5 0) ∧ ta.port < 96 ∧ ta.flags.testBit 0 = false ∧
    (∃ i, (fdbOps 0).find (held.tabs 0).fdb (2, 0x020000000002) = some i ∧ (held.tabs 0).fdb.get? i = some other) ∧
    (fdbOps 0).find (up.tabs 0).fdb (2, 0x020000000002) = none ∧
    ((fdbOps 0).insert (up.fdb 0) { other with rseq := 0 }).isSome = true := by
  refine ⟨wit_pf, pf_of ?_, by decide, by decide, by decide, by decide, by decide, by decide, by decide, ?_, ?_, ?_⟩
  · exact ⟨by decide, by decide, by decide, by decide, by decide⟩
  · refine ⟨((fdbOps 0).slots (2, 0x020000000002)).headD 0, ?_, ?_⟩
    · have h : (held.tabs 0).fdb = Table.empty.set (((fdbOps 0).slots (2, 0x020000000002)).headD 0) other := rfl
      rw [h, CuckooOps.find]
      simp only [CuckooOps.slots, List.range, List.range.loop, List.map_cons, List.headD_cons, List.find?_cons, Table.get?,
        Table.set, Table.empty, insertKey, lookupKey, ↓reduceIte]
      rfl
    · have h : (held.tabs 0).fdb = Table.empty.set (((fdbOps 0).slots (2, 0x020000000002)).headD 0) other := rfl
      rw [h]; simp [Table.get?, Table.set, Table.empty, insertKey, lookupKey]
  · have : (up.tabs 0).fdb = Table.empty := rfl
    simp [this, CuckooOps.find, Table.get?, Table.empty, lookupKey]
  · have h : (up.fdb 0) = ⟨Table.empty, 0, []⟩ := rfl
    rw [h]
    simp only [CuckooOps.insert, CuckooOps.shortest, CuckooOps.slots, List.range, List.range.loop, List.map_cons, List.findSome?_cons,
      CuckooOps.chain, Table.has, Table.get?, Table.empty, lookupKey, Option.isSome_none, Bool.false_eq_true, ↓reduceIte]; rfl

theorem wit_RouteAndRowCommands : tableArgsOk { ta with table := 5 } = false ∧ tableArgsOk ta = true ∧ ta.slice < 8 ∧ 176 ≤ ta.bufLen ∧
    readRecord 2 lpmRec = some (.lpm false 1 8 0x0A000000 3) ∧ readRecord 0 (lpmRec ++ [1]) = none ∧ (up.tabs 0).lpm4.length < 524288 ∧ (up.tabs 0).lpm4 = [] ∧
    readRecord 4 ternRec = some (.tern 4 1 2 3 3) ∧ tableArgsOk { ta with table := 4 } = true ∧
    (let s := (up.setFld (F.fdbTcamRegion_size 0 0) 16);
      s.regionOf 0 4 = some 0 ∧ s.fld (F.fdbTcamRegion_kind 0 0) ≠ 1 ∧ (s.tabs 0).tern.has 4 = false ∧
      (s.setFld (F.fdbTcamRegion_kind 0 0) 1).fld (F.fdbTcamRegion_kind 0 0) = 1 ∧
      ((after (.tableInsert pf { ta with table := 4 } ternRec) s).tabs 0).tern.get? 4 = some ⟨1, 2, 3, 3⟩) ∧
    1 ≤ ta.maxRecords ∧ ta.maxRecords * 176 ≤ ta.bufLen ∧ ta.flags.testBit 1 = false ∧
    ((up.tabs 0).tern.entries.filter (fun e => decide (ta.pos ≤ e.1))).length ≤ ta.maxRecords ∧
    ((after (.tableInsert pf { ta with table := 2 } lpmRec) up).tabs 0).lpm4.length = 1 := by decide

/-! ### Egress and merge -/

/-- Gates in use on port 0: two entries of 500 ns in a cycle of 1 µs, the first at its end. -/
def gated (l : List GatePlan) (e : Stamp) : State :=
  flow.modTmPort 0 fun x => { x with
    oper := { enable := true, entries := [(1, 500), (2, 500)], base := 0, cycle := 1000 }, entryEnd := e, plans := l }

/-- A list that waits from 9 s on and takes over at a time. -/
def plan (t : Stamp) : GatePlan := ⟨GateList.init, .empty, 9 * secStamp, t⟩

theorem wit_GatesAndShapers : ((gated [] 11).tmPort 0).oper.enable = true ∧ ((gated [] 11).tmPort 0).entryEnd ≤ (gated [] 11).now ∧
    ((gated [] 11).tmPort 0).plans = [] ∧ (flow.tmPort 0).oper.enable = false ∧
    (gated [] (11 * secStamp)).now < ((gated [] (11 * secStamp)).tmPort 0).entryEnd ∧
    (let s := gated [{ plan (12 * secStamp) with begin_ := 11 * secStamp }] secStamp;
      s.now < 11 * secStamp ∧ ((after (.gateEntryAdvance 0) s).tmPort 0).entry < 2) ∧
    (let s := gated [plan (11 * secStamp)] secStamp;
      (s.tmPort 0).plans = plan (11 * secStamp) :: [] ∧ 9 * secStamp ≤ s.now ∧ s.now < 11 * secStamp ∧
      ((after (.gateEntryAdvance 0) s).tmPort 0).entryEnd = 11 * secStamp) ∧
    (let s := gated [plan (10 * secStamp)] secStamp;
      10 * secStamp ≤ s.now ∧ ((after (.gateListTakeover 0) s).tmPort 0).plans = []) ∧
    (let s := ((up.setFld (F.tmVfTxRate_kbps 0) 1000).setFld (F.tmVfTxBurst_bytes 0) 1000);
      let t : State := { s with tm := { s.tm with vfTx := Table.empty.set 1 ⟨-1, 0⟩ } };
      (t.tm.vfTx.getD 1 ShaperSt.init).credit < 0 ∧ (t.vfTxRate 1).1 ≠ 0 ∧
      0 ≤ (t.tm.vfTx.getD 1 ShaperSt.init).grown (t.vfTxRate 1).1 (t.vfTxRate 1).2 t.now ∧
      0 ≤ ((after (.shaperCreditRestored (.vfTx 1)) t).tm.vfTx.getD 1 ShaperSt.init).credit) ∧
    0 ≤ ((up.tmPort 0).shapers.getD 0 ShaperSt.init).credit := by decide

/-- A frame for port 0 that waits for admission. -/
def toPort : PipeFrame := ⟨{ fr with d := { Decision.init 0 0 with dest := some (.port 0), named := [0] } }, zeroParse, 0, 0, false⟩

/-- That frame at the traffic manager. -/
def tmIn : State := { flow with tm := { flow.tm with input := [toPort] } }

theorem wit_AdmissionToPort : tmIn.tm.input = toPort :: [] ∧
    (let s : State := { tmIn with ldg := { tmIn.ldg with refusing := true } };
      s.ldg.refusing = true ∧ s.isRecorded toPort.frame.ream toPort.frame.d.ledgerClass = true ∧
      (s.openReam 1).any s.takesLeaf = true ∧
      ((after .tmAdmission s).openReam 1).map (·.frames.map (·.disp)) = some [0x17]) ∧
    tmIn.ldg.refusing = false ∧ toPort.frame.d.named = [0] ∧ toPort.frame.d.dest = some (.port 0) ∧ toPort.frame.d.rel = none ∧
    toPort.frame.d.decrypt = none ∧ toPort.frame.d.encrypt = none ∧ toPort.frame.d.queueClass < 16 ∧ tmIn.configured 0 = true ∧
    tmIn.portTakes 0 = true ∧ tmIn.tm.frames.get? 0 = none ∧ tmIn.copiesOf 0 = [] ∧
    tmIn.tooLong 0 toPort.frame.bytes.length = false ∧ (tmIn.openReam 1).any tmIn.takesLeaf = true ∧
    tmIn.tmAdmits (qPort 0 0) 0 (cellsOf 60) true = true ∧ cellsOf 60 ≤ tmIn.freeCells ∧
    ((after .tmAdmission tmIn).queue (qPort 0 0)).length = 1 ∧
    ((after .tmAdmission tmIn).openReam 1).map (·.frames.map (·.disp)) = some [0x01] := by decide

/-- A frame as the traffic manager holds it. -/
def tmFr : TmFrame := ⟨{ fr with d := { fr.d with rel := some (0, 10 * secStamp) } }, zeroParse, 0, 1, 1, 0⟩

/-- A copy of it in a queue. -/
def copy (q : Nat) : Copy := Copy.plain q 0 0 1 60

/-- A state whose queue holds that copy. -/
def queued (q : Nat) (c : Copy) : State :=
  { flow with tm := { flow.tm with frames := Table.empty.set 0 tmFr, queues := Table.empty.set q [c] } }

/-- A release copy in holding with a hand-off time, on an aligned member. -/
def holding (t : Stamp) : State :=
  let s := queued qRelease { copy qRelease with relGen := 1, relTime := t }
  { s with rel := { s.rel with
    groups := Table.empty.set 0 ⟨true, 1, 0, 0⟩, member := Table.empty.set 0 0, align := Table.empty.set 0 1 } }

/-- The copy at the head of that holding. -/
def heldCopy (t : Stamp) : Copy := { copy qRelease with relGen := 1, relTime := t }

/-- The link of a port lost. -/
def cut (s : State) (p : Nat) : State := s.modPort p fun x => { x with link := false }

theorem handoffAt_le (s : State) (c : Copy) : s.handoffAt c ≤ s.ballAt c := Nat.sub_le _ _

theorem le_handoffAt (s : State) (c : Copy) : s.ballAt c - 4095 * nsStamp ≤ s.handoffAt c :=
  Nat.sub_le_sub_left (Nat.mul_le_mul_right _ (Nat.min_le_left _ _)) _

theorem wit_HandOffAtItsTime :
    (let c := heldCopy (9 * secStamp); let s := holding (9 * secStamp);
      s.firstHeld 0 = some c ∧ s.portTakes 0 = true ∧ c.late = false ∧ s.classPaused 0 c.cls = false ∧
      (∀ x ∈ s.slotsOf 0, ¬(x.relTime = c.relTime ∧ x.id < c.id)) ∧ (s.relGroup (s.groupOf c)).alive = true ∧ (s.relGroup (s.groupOf c)).gen = c.relGen ∧
      s.rel.member.get? 0 = some (s.groupOf c) ∧ s.rel.align.getD 0 0 = 1 ∧ c.queue = qRelease ∧ s.tm.queues.wf = true ∧
      (cut s 0).firstHeld 0 = some c ∧ (cut s 0).portTakes 0 = false ∧ (holding (11 * secStamp)).firstHeld 0 = some (heldCopy (11 * secStamp))) ∧
    (holding (9 * secStamp)).handoffAt (heldCopy (9 * secStamp)) ≤ (holding (9 * secStamp)).now ∧
    (cut (holding (9 * secStamp)) 0).handoffAt (heldCopy (9 * secStamp)) ≤ (cut (holding (9 * secStamp)) 0).now ∧
    (holding (11 * secStamp)).now < (holding (11 * secStamp)).handoffAt (heldCopy (11 * secStamp)) :=
  ⟨by decide, Nat.le_trans (handoffAt_le _ _) (by decide), Nat.le_trans (handoffAt_le _ _) (by decide),
    Nat.lt_of_lt_of_le (by decide) (le_handoffAt _ _)⟩

/-- A copy at the head of class 0 of port 0. -/
def sending : State := queued (qPort 0 0) (copy (qPort 0 0))

theorem wit_TransmitStart : (sending.configured 0 = true ∧ sending.portTakes 0 = true ∧ (sending.port 0).remoteFault = false ∧
    (sending.port 0).txUntil ≤ sending.now ∧ 0 < 0 + sending.lanesOf 0 ∧ noLink.portTakes 0 = false ∧
    (sending.modPort 0 fun x => { x with toSend := [(none, 5)] }).pauseDue 0 = some (none, 5) ∧ sending.pauseDue 0 = none ∧
    sending.queue (qHanded 0) = []) ∧ ((sending.tmPort 0).oper.enable = false ∧ (sending.tmPort 0).plans = [] ∧
    sending.launchable (dieOf 0) (sending.rateOf 0) (10 * secStamp) = true ∧ (sending.port 0).saOps = [] ∧ (copy (qPort 0 0)).ptp tmFr.frame = none ∧
    sending.egressStamp (sending.rateOf 0) 0 (10 * secStamp) 0 = 10 * secStamp) ∧
    ((List.range 4).find? (fun c => sending.eligible 0 c (10 * secStamp)) = some 0 ∧
    sending.queue (qPort 0 0) = copy (qPort 0 0) :: [] ∧ (copy (qPort 0 0)).port = 0 ∧ sending.tm.frames.get? 0 = some tmFr ∧
    sending.fld (F.portMsecCfg_txEn 0) = 0) ∧
    ((after (.portTransmitStart 0 (10 * secStamp) 0 0 false) sending).port 0).txCopy.isSome = true ∧
    (after (.portTransmitStart 0 (10 * secStamp) 0 0 false) sending).out.length = 1 :=
  ⟨by decide, by decide, by decide, by decide, by decide⟩

/-- The same copy as a PTP message of port 0. -/
def ptpFr (k : PtpMsgKind) (oneStep : Bool) : TmFrame := { tmFr with frame := { tmFr.frame with origin := .ptp ⟨0, k, oneStep, 0, 0, 0, [], none, 0⟩ } }
def ptpCopy : Copy := { copy (qPort 0 0) with portCopy := true }
def ptpSending (k : PtpMsgKind) (oneStep : Bool) : State :=
  let s := queued (qPort 0 0) ptpCopy
  { s with tm := { s.tm with frames := Table.empty.set 0 (ptpFr k oneStep) } }

theorem wit_TransmitPtp : (ptpCopy.ptp (ptpFr .delayReq false).frame).map (·.kind) = some .delayReq ∧
    ((after (.portTransmitStart 0 (10 * secStamp) 0 0 false) (ptpSending .delayReq false)).tb.ptp.getD 0 PtpSt.init).t3 = 10 * secStamp ∧
    ((after (.portTransmitStart 0 (10 * secStamp) 0 0 false) (ptpSending .pdelayReq false)).tb.ptp.getD 0 PtpSt.init).pdT1 = 10 * secStamp ∧
    ((after (.portTransmitStart 0 (10 * secStamp) 0 0 false) (ptpSending .sync false)).slice 0).injWait.map (·.origin) =
      [.ptp ⟨0, .followUp, false, 0, 10 * secStamp, 0, [], none, 0⟩] := by decide

/-- CREATE_WQ of a receive queue with buffers of 2 KiB. -/
def wqArgs : WqArgs := ⟨1, 6, 0xFFFFFFFF, 0x10000, 0x20000, 2048⟩

/-- The work queue of the PF, with one buffer posted. -/
def rq : WqSt := { newWq 0 0 wqArgs none with posted := [(0, 0x40000)], prod := 1, next := 1, opened := [0] }

/-- A copy that waits for the host. -/
def hostCopy : State :=
  let s := queued (qHost 0) (copy (qHost 0))
  { s with qm := { s.qm with wqs := Table.empty.set 0 rq } }

theorem wit_HostDelivery : hostCopy.hostTurn = some 0 ∧ hostCopy.frameMay = true ∧ hostCopy.qm.wqs.get? 0 = some rq ∧
    hostCopy.queue (qHost 0) = copy (qHost 0) :: [] ∧ (copy (qHost 0)).queue = qHost 0 ∧ hostCopy.tm.frames.get? 0 = some tmFr ∧
    hostCopy.staleItem tmFr.frame = none ∧ (copy (qHost 0)).len ≤ rq.bufSize ∧ rq.posted = (0, 0x40000) :: [] ∧
    hostCopy.hif.silenced = false ∧ hostCopy.hif.dlUp = true ∧ hostCopy.mayIssue rq.fn = true ∧ up.hostTurn ≠ some 0 ∧
    ((after (.hostDelivery 0 false) hostCopy).qm.recvs.length = 1) := by decide

/-- A merge descriptor of port 0. -/
def desc : Desc := ⟨0, 9 * secStamp, 9 * secStamp, 1, 0, 0, 0⟩

/-- Group 0 with port 0 as its member and a window of 20 µs, one descriptor on its way. -/
def merging (m : MergeSt) : State :=
  { flow with mrg := { flow.mrg with
    groups := Table.empty.set 0 { m with alive := true, dest := 0, destKind := 1, hist := [(0, 20000, [0])] }, onWay := [(0, desc)] } }

/-- The descriptor at the present time. -/
def descNow : Desc := { desc with c := 10 * secStamp, stamp := 10 * secStamp }

theorem wit_DeckleOrder :
    (let s : State := { merging MergeSt.init with mrg := { (merging MergeSt.init).mrg with onWay := [(0, descNow)] } };
      s.mrg.onWay = (0, descNow) :: [] ∧ (s.merge 0).alive = true ∧ s.mrg.bypass = false ∧ s.mrg.stepMark ≤ desc.ream ∧
      (s.merge 0).lastKey = none ∧
      (∀ h ∈ (insertDesc (s.keyed 0 descNow) (s.merge 0).held).head?, (s.lagging 0 h).isSome = true ∧
        (s.now : Int) < h.c + ((s.merge 0).cfgAt h.ream).1 * nsStamp) ∧
      ((after (.deckleDescriptorArrival 0) s).merge 0).held.length = 1) ∧
    (let s := merging { MergeSt.init with lastKey := some (10 ^ 15, 0) };
      (∃ k ∈ (s.merge 0).lastKey, keyLt (s.keyed 0 desc).key k = true) ∧ s.mrg.onWay = (0, desc) :: [] ∧
      ((after (.deckleDescriptorArrival 0) s).merge 0).seq = 1) ∧
    (let s := merging { MergeSt.init with held := [desc] };
      (s.merge 0).held = [desc] ∧ s.lagging 0 desc = some 0 ∧ desc.c + ((s.merge 0).cfgAt desc.ream).1 * nsStamp ≤ (s.now : Int) ∧
      ((after (.deckleWindowExpiry 0) s).merge 0).held = []) ∧
    (let s := merging { MergeSt.init with held := [descNow] };
      s.lagging 0 descNow = some 0 ∧ (s.now : Int) < descNow.c + ((s.merge 0).cfgAt descNow.ream).1 * nsStamp) ∧
    up.up .deckleSide 0 0 = true ∧ up.up .deckleSide 0 1 = true ∧ up.recordOpen (.deckleSide, 0, 0) = false ∧
    (up.unit .deckleSide 0 0).token = none ∧ (after (.deckleSideFault 0) up).mrg.activeB = true ∧
    flow.configured 0 = true ∧ sliceOf 0 = 0 ∧ (0 < (after (.mergeFrontUpdate 0) flow).mrg.fronts.getD 0 0 ∨ flow.front 0 = 0) := by decide

/-- Merge group 0, and a CREATE of it. -/
def mergeArgs : MergeArgs := ⟨0, 1, 0, 1000, 16, [0]⟩
def releaseArgs : ReleaseArgs := ⟨0, 0, 0, 0, 1000, [0]⟩

theorem wit_GroupCommands : PfStarts pf flow ∧ (flow.mergeFieldsOk mergeArgs = true ∧ destOk mergeArgs.destKind mergeArgs.dest = true ∧
    groupLive flow.mrg.waits 0 (flow.merge 0).alive = false ∧ flow.releaseFieldsOk releaseArgs = true ∧
    groupLive flow.rel.waits 0 (flow.relGroup 0).alive = false ∧ releaseArgs.speed ≤ 7 ∧ releaseArgs.fec ≤ 2 ∧
    (after (.mergeCreate pf mergeArgs) flow).mrg.waits.length = 1) ∧ PfStarts pf (merging MergeSt.init) ∧
    groupLive (merging MergeSt.init).mrg.waits 0 ((merging MergeSt.init).merge 0).alive = true ∧
    (merging MergeSt.init).mergeFieldsOk mergeArgs = true ∧
    ((after (.mergeStage pf mergeArgs) (merging MergeSt.init)).regs.shadow.get? (Reg.mrgWindow 0)) = some 1000 ∧
    PfStarts pf (holding 0) ∧ (holding 0).releaseFieldsOk releaseArgs = true ∧
    groupLive (holding 0).rel.waits 0 ((holding 0).relGroup 0).alive = true :=
  ⟨pf_of (by decide), by decide, pf_of (by decide), by decide, by decide, by decide, pf_of (by decide), by decide, by decide⟩

/-! ### Crypto and storage -/

/-- Ethernet and IPv4 headers before `n` bytes of a protocol. -/
def ip4 (proto : Byte) (n : Nat) : Bytes :=
  zeros 12 ++ [0x08, 0x00, 0x45, 0] ++ be 2 (20 + n) ++ [0, 0, 0, 0, 64, proto, 0, 0, 10, 0, 0, 1, 10, 0, 0, 2]

/-- An ESP packet with sequence number 5, its IV, 4 bytes and an ICV of 16. -/
def espBytes : Bytes := ip4 50 36 ++ [0, 0, 0, 9, 0, 0, 0, 5] ++ zeros 28

/-- A TCP segment with sequence number 7 that carries one TLS record of 17 bytes. -/
def tlsBytes : Bytes := ip4 6 42 ++ [0, 80, 1, 187, 0, 0, 0, 7, 0, 0, 0, 0, 0x50, 0x10, 0, 0, 0, 0, 0, 0] ++ [23, 3, 3, 0, 17] ++ zeros 17

/-- A context record of a type. -/
def ctxRec (t : Nat) : CtxRec :=
  { type := t, alg := 0, flags := 0, icvLen := 16, spi := 9, replayWin := 64, hdrLen := 0, salt := zeros 4, key := zeros 16, seq := 0,
    softBytes := 0, hardBytes := 0, hdr := [], tcpSeq := 7, recordNo := 0, iv := zeros 12, rsvOk := true }

/-- A context of the PF. -/
def ctx (t : Nat) : Ctx := newCtx 0 0 (ctxRec t)

/-- A frame on its way to context 0, by a decision and as bytes, at the head of its engine's queue. -/
def item (k : Ctx) (b : Bytes) : State :=
  let f := { fr with
    bytes := b, d := if k.info.type = 1 ∨ k.info.type = 4 then { fr.d with decrypt := some 0 } else { fr.d with encrypt := some 0 } }
  { flow with
    tm := { flow.tm with
      frames := Table.empty.set 0 ⟨f, zeroParse, 0, 1, 1, 0⟩, queues := Table.empty.set (qCrypto 0) [{ copy (qCrypto 0) with len := b.length }] }
    eng := { flow.eng with ctxs := Table.empty.set 0 k } }

/-- The conditions of an item of context 0. -/
def itemOk (k : Ctx) (b : Bytes) : Bool :=
  match (item k b).engineHead 0 with
  | some (_, x, h) =>
    decide (h = 0) &&
      (match x.frame.crypto with
      | some (g, ts) => decide (g = 0) && decide ((item k b).heldCtx 0 ts = some k)
      | none => false)
  | none => false

theorem wit_CryptoItems : Serving (item (ctx 1) espBytes) ∧ itemOk (ctx 1) espBytes = true ∧ itemOk (ctx 2) espBytes = true ∧
    itemOk (ctx 3) tlsBytes = true ∧ itemOk (ctx 4) tlsBytes = true ∧ itemOk { ctx 4 with state := .failed } tlsBytes = true ∧
    (∀ y ∈ (item (ctx 1) espBytes).eng.ctxs.entries, y.2.dying = false) ∧ (item (ctx 1) espBytes).tm.queues.wf = true ∧
    (match espAt (parse ((item (ctx 1) espBytes).parseCfg 0 fr) espBytes) with
      | some p => decide ((ctx 1).espSeq (num espBytes (p.1.start + 4) 4) = 5) && (ctx 1).fresh? 5 &&
          !({ ctx 1 with high := 100 }).fresh? 5 && ((ctx 1).espOpen espBytes p 5).isSome
      | none => false) = true ∧
    (match tcpPart ((item (ctx 3) tlsBytes).parseCfg 0 fr) tlsBytes with
      | some (seq, _, payload) => decide (seq = (ctx 3).tcpSeq) && decide ((tlsRecords payload.length payload).map (·.length) = some 1)
      | none => false) = true ∧
    tlsRecords 3 [1, 2, 3] = none ∧ ((after (.tlsTx ⟨0, false⟩) (item (ctx 3) tlsBytes)).tm.input.length = 1) ∧
    ((after (.ipsecInbound ⟨0, false⟩ true) (item (ctx 1) espBytes)).slice 0).recirc.length = 1 ∧
    ((after (.ipsecInbound ⟨0, false⟩ false) (item (ctx 1) espBytes)).eng.ctxs.get? 0).map (·.authFail) = some 1 ∧
    ((after (.tlsRx ⟨0, false⟩ [] []) (item { ctx 4 with state := .failed } tlsBytes)).slice 0).recirc.length = 1 := by
  refine ⟨serving_of (by decide), ?_⟩
  decide

/-- How long a frame without an IP header becomes in transport mode. -/
theorem espOut_plain_length (c : ParseCfg) (k : Ctx) (iv : Bytes) (ident nh : Nat) (b : Bytes) (ht : k.tunnel = false)
    (hp : outerIp (parse c b) = none) (hi : iv.length = 8) : (espOut c k iv ident nh b).1.length =
      min (etherEnd c b) b.length + 18 + (b.length - etherEnd c b) + (4 - (b.length - etherEnd c b + 2) % 4) % 4 + k.info.icvLen := by
  simp [espOut, ht, hp, Ctx.espSeal, fitBytes, zeros, be, le, hi]
  omega

/-- The outbound context, which makes a frame of zeros fit, and one of 16,379 bytes too long. -/
theorem wit_CryptoLengths : (∀ n ∈ [60, 16379], itemOk (ctx 2) (zeros n) = true) ∧
    (∀ iv ident nh, iv.length = 8 →
      (espOut ((item (ctx 2) (zeros 60)).parseCfg 0 fr) (ctx 2) iv ident nh (zeros 60)).1.length ≤ maxEdited) ∧
    ∀ iv ident nh, iv.length = 8 →
      maxEdited < (espOut ((item (ctx 2) (zeros 16379)).parseCfg 0 fr) (ctx 2) iv ident nh (zeros 16379)).1.length := by
  refine ⟨by decide, ?_, ?_⟩
  · intro iv ident nh h
    rw [espOut_plain_length _ _ _ _ _ _ (by decide) (by decide) h]
    decide
  · intro iv ident nh h
    rw [espOut_plain_length _ _ _ _ _ _ (by decide) (by decide) h]
    decide

/-- A receive context with a new state that waits for sequence 7, or for one further on. -/
def waiting (n : Nat) : Ctx := { ctx 4 with state := .resyncWait, next := some ⟨n, 5, zeros 16, zeros 12, false⟩ }

theorem wit_TakeUp : (∀ k ∈ [waiting 7, waiting 10, waiting 1000, ctx 4], itemOk k tlsBytes = true) ∧
    (match tcpPart ((item (ctx 4) tlsBytes).parseCfg 0 fr) tlsBytes with
      | some (seq, _, payload) =>
        decide (((waiting 1000).takeUp seq payload.length).1.state ≠ CtxState.active) &&
          decide ((ctx 4).next = none ∧ (ctx 4).state = CtxState.active ∧ seq = (ctx 4).tcpSeq) &&
          decide ((waiting 7).state ≠ CtxState.expired ∧ (waiting 7).next.map (·.seq) = some seq) &&
          decide (((waiting 10).takeUp seq payload.length).1.state = CtxState.active ∧
            (((waiting 10).takeUp seq payload.length).1.tcpSeq + 2 ^ 32 - seq) % 2 ^ 32 = ((waiting 10).takeUp seq payload.length).2)
      | none => false) = true := by decide

/-- The device with context 0 of the PF. -/
def withCtx (k : Ctx) : State := { up with eng := { up.eng with ctxs := Table.empty.set 0 k } }

theorem wit_ContextCommands : AdminStarts pf up ∧ AdminStarts pf (withCtx (ctx 3)) ∧ (up.ctxRoom 0 = true ∧ ctxRecOk (ctxRec 1) = true ∧
    ctxRecOk (ctxRec 5) = false ∧ up.ownerOf 0 = none ∧ (withCtx (ctx 3)).ownerOf 0 = some pf.fn ∧
    (withCtx { ctx 3 with fn := 1 }).ownerOf 0 = some 1 ∧ (withCtx (ctx 3)).eng.ctxs.get? (handleIndex 0) = some (ctx 3) ∧
    (withCtx (ctx 3)).eng.ctxs.wf = true ∧ (withCtx (ctx 3)).ctxBusy 0 = false ∧ (item (ctx 3) tlsBytes).ctxBusy 0 = true ∧
    3 ≤ (ctx 3).info.type ∧ (ctx 1).info.type < 3 ∧
    (let s : State := { up with qm := { up.qm with fns := up.qm.fns.set 1 { fnUp with contexts := 0 } } };
      s.ctxRoom 1 = false ∧ s.adminReady { pf with fn := 1 } = true) ∧
    (after (.contextDestroy pf 0) (withCtx (ctx 3))).eng.ctxs.size = 0) :=
  ⟨admin_of (by decide), admin_of (by decide), by decide⟩

theorem wit_EngineRelief : (up.unit .cryEngine 0 3).state = Service.inService ∧ (up.unit .cryEngine 0 3).token = none ∧
    up.spareEngine .cryEngine = some 32 ∧ up.spareEngine .stoEngine = some 16 ∧ roleEngine up.eng.cryRoles 3 = 3 ∧
    roleEngine up.eng.stoRoles 3 = 3 ∧ up.recordOpen (.cryEngine, 0, 3) = false ∧ up.evr.records.length < 64 ∧
    roleEngine (after (.engineFault false 3) up).eng.cryRoles 3 = 32 ∧
    roleEngine (after (.engineFault true 3) up).eng.stoRoles 3 = 16 := by decide

/-- A connection record on port 0 with WQ 3. -/
def connRec : ConnRec :=
  { queueKind := 1, flags := 0, port := 0, cls := 0, mss := 1460, vlan := 0, localIp := 0x0A000001, remoteIp := 0x0A000002,
    localPort := 1000, remotePort := 4420, qid := 1, sqsize := 4, wq := 3, rcvBufKib := 64, peerMac := 1, localMac := 2, rsvOk := true, connectData := zeros 1024 }

/-- A connection of the PF. -/
def conn0 : Conn :=
  { fn := 0, gen := 0, info := connRec, state := .established, reason := 0, step := 3, since := 5 * secStamp, sndNxt := 100, sndUna := 100,
    sndWnd := 1000, rcvNxt := 200, unacked := [], sndBuf := [], rtoAt := 0, rto := secStamp / 10, retx := 0, rtt := none, cntlid := 0,
    maxH2c := 8192, outstanding := [], connectTok := none, discTok := none, discAt := 0, aborted := 0, archive := none, archOps := [], scale := 0, adv := 0, reno := NewReno.start 1460 }

/-- The WQ of storage commands, with one entry posted and fetched. -/
def swq : WqSt := { newWq 0 0 { wqArgs with type := 2 } none with prod := 1, fetched := 1 }

/-- The device with WQ 3, and connection 0 where one is given. -/
def sto (c : Option Conn) : State :=
  let s := port up 0
  { s.setFld F.tmStoRsv_cells 65536 with
    qm := { s.qm with wqs := Table.empty.set 3 swq }
    eng := { s.eng with conns := match c with | some c => Table.empty.set 0 c | none => Table.empty } }

/-- A segment with nothing in it. -/
def seg0 : TcpSeg := { syn := false, ack := none, rst := false, fin := false, len := 0, window := 1000, scaled := true, upTo := 200, pdus := [] }

/-- An entry outstanding. -/
def outst : StoSt := ⟨5, ⟨3, 0, true, [], false⟩, 0, ⟨2, 0, 0, [], 0, 1, 0, 0, zeros 24, []⟩, 0⟩

theorem wit_ConnectionLife : AdminStarts pf (sto none) ∧ Serving (sto (some conn0)) ∧ ((sto none).connRecOk connRec = true ∧
    connRec.wq ≠ 0xFFFFFFFF ∧ (sto none).qm.wqs.get? 3 = some swq ∧ swq.fn = pf.fn ∧ swq.kind = 2 ∧ (sto none).ctxRoom 0 = true ∧
    (sto none).eng.conns.size < 65536 ∧
    ((sto none).eng.rsvUsed + connRec.rcvBufKib) * 1024 ≤ (sto none).fld F.tmStoRsv_cells * 256 ∧
    (sto (some conn0)).conn 0 = some conn0 ∧ (sto (some conn0)).queue (qConn 0) = [] ∧ conn0.sndBuf = [] ∧
    ((after (.storageSegmentReceived 0 seg0) (sto (some conn0))).conn 0).map (·.rcvNxt) = some 200 ∧
    (let c := { conn0 with outstanding := [outst] };
      let s : State := { sto (some c) with qm := { up.qm with wqs := Table.empty.set 3 { swq with opened := [0], next := 1 } } };
      c.outstanding.find? (·.cid = 5) = some outst ∧ outst.err = 0 ∧ (s.fn 0).gen = outst.gen ∧ (0 : Word) ∈ [(0 : Word)] ∧
      ((after (.storageSegmentReceived 0 { seg0 with pdus := [.capsuleResp 5 0 0] }) s).conn 0).map (·.outstanding.length) = some 0) ∧
    ((after (.storageSegmentReceived 0 { seg0 with rst := true }) (sto (some conn0))).conn 0).map (·.state) = some .failed ∧
    (let c := { conn0 with state := .connecting, step := 0 };
      c.since + 3 * secStamp ≤ (sto (some c)).now ∧
      ((after (.connectTimeout 0) (sto (some c))).conn 0).map (·.state) = some .failed) ∧
    (let c := { conn0 with unacked := [⟨90, false, false, [1], none⟩], retx := 7 };
      c.rtoAt ≤ (sto (some c)).now ∧ 7 ≤ c.retx ∧ ((after (.tcpRtoExpiry 0) (sto (some c))).conn 0).map (·.state) = some .failed) ∧
    (let c := { conn0 with unacked := [⟨90, false, false, [1], none⟩] };
      c.retx < 7 ∧ ((after (.tcpRtoExpiry 0) (sto (some c))).conn 0).map (·.retx) = some 1) ∧
    (sto (some conn0)).now < 8 * secStamp + 3 * secStamp ∧ (sto (some conn0)).connEngine 0 ≠ 255 ∧
    (let s : State := { sto (some conn0) with eng := { (sto (some conn0)).eng with stoRoles := Table.empty.set 0 255 } };
      s.connEngine 0 = 255 ∧ s.conn 0 = some conn0) ∧
    segReadBytes { seg0 with pdus := [.c2hData 5 0 [1, 2] true true false] } ≠ 0 ∧
    (let s : State := { sto (some conn0) with qm := { up.qm with wqs := Table.empty.set 0 { newWq 0 0 { wqArgs with type := 0 } none with hbWaiting := true } } };
      s.storageMay = false ∧ s.conn 0 = some conn0) ∧
    ((after (.storageSegmentReceived 0 { seg0 with len := 5, upTo := 205 }) (sto (some conn0))).conn 0).map (·.rcvNxt) = some 205) ∧
    flowOps.find (sto none).flow.flow (15, flowKeyNum (connKey connRec)) = none ∧
    ∀ e, flowOps.key e = (15, flowKeyNum (connKey connRec)) → (flowOps.insert (sto none).flowTab e).isSome = true := by
  refine ⟨admin_of (by decide), serving_of (by decide), by decide, ?_, ?_⟩
  · have h : (sto none).flow.flow = Table.empty := rfl
    rw [h, CuckooOps.find, List.find?_eq_none]
    intro i _ hi
    simp [Table.get?, Table.empty, lookupKey] at hi
  · intro e _
    have h : (sto none).flowTab = ⟨Table.empty, 0, []⟩ := rfl
    rw [h]
    simp only [CuckooOps.insert, CuckooOps.shortest, CuckooOps.slots, List.range, List.range.loop, List.map_cons, List.findSome?_cons,
      CuckooOps.chain, Table.has, Table.get?, Table.empty, lookupKey, Option.isSome_none, Bool.false_eq_true, ↓reduceIte]; rfl

/-- A STO_CMD entry for connection 0. -/
def stoArgs : StoArgs := ⟨2, 0, 0, [], 0, 1, 0, 0, zeros 24, []⟩
def sw : WorkRef := ⟨3, 0, true, [], false⟩

theorem wit_DisconnectAndCommand : AdminStarts pf (sto (some conn0)) ∧ WorkStarts 2 sw swq (sto (some conn0)) ∧
    ((sto none).ownerOf 0 = none ∧ (sto (some conn0)).ownerOf 0 = some 0 ∧ (sto (some { conn0 with fn := 1 })).ownerOf 0 = some 1 ∧
    conn0.archive = none ∧ ({ conn0 with archive := some 0 } : Conn).archive.isSome = true ∧ conn0.open_ = 0 ∧
    ({ conn0 with outstanding := [outst] } : Conn).open_ ≠ 0 ∧ conn0.discTok = none ∧ (sto (some conn0)).eng.conns.wf = true ∧
    ({ conn0 with state := .draining } : Conn).discAt + 10 * secStamp ≤ (sto none).now ∧
    (after (.disconnectTimeout 0) (sto (some { conn0 with state := .draining }))).conn 0 = none ∧
    (after (.storageDisconnectAbort pf 0) (sto (some conn0))).conn 0 = none ∧
    stoOk stoArgs = true ∧ stoOk { stoArgs with dir := 3 } = false ∧ (sto none).boundConn sw stoArgs = none ∧
    (sto (some conn0)).boundConn sw stoArgs = some conn0 ∧ conn0.outstanding.length < conn0.info.sqsize ∧ conn0.cids.length < 65536 ∧
    (sto (some { conn0 with state := .connecting })).stoWaits sw stoArgs = true ∧ conn0.state = ConnState.established ∧
    (sto (some conn0)).connEngine 0 ≠ 255 ∧ ({ conn0 with discTok := some ⟨pf, 0, 0⟩ } : Conn).discTok.isSome = true) :=
  ⟨admin_of (by decide), ⟨serving_of (by decide), by decide, rfl, by decide, by decide, by decide⟩, by decide⟩

/-! ### Queues -/

/-- A notification ring of the PF with one entry written to it, armed since 9 s with a timer of 10 µs. -/
def nr0 : NrSt :=
  { fn := 0, localIdx := 0, log2 := 2, report := false, vector := 1, modCount := 4, modTimerUs := 10, liveCount := 4, liveTimerUs := 10,
    base := 0x30000, prod := 1, cons := 0, armed := true, sinceArm := 1, firstAt := some (9 * secStamp), overflowed := false,
    carryOvf := false, order := [] }

/-- WQ 0 of the PF, which holds nothing. -/
def wq0 : WqSt := newWq 0 0 { wqArgs with type := 0 } none

/-- Capabilities with eight vectors and nothing else. -/
def caps0 : CapTable := ⟨[], 8, 0, 1, 1, 0, false, false, false, false⟩

/-- The device with WQ 0 and NR 0, its vectors unmasked. -/
def rings (q : WqSt) (n : NrSt) : State :=
  { up with
    hif := { up.hif with caps := some caps0 }
    qm := { up.qm with
    wqs := Table.empty.set 0 q, nrs := Table.empty.set 0 n
    fns := Table.empty.set 0 { fnUp with msixEnable := true, vecUnmasked := [1], vecPending := [2] } } }

/-- The PF with its admin queue in a state. -/
def withAdmin (a : AdminQ) : State := { up with qm := { up.qm with fns := Table.empty.set 0 { fnUp with admin := a } } }

theorem wit_Doorbells : Serving (rings wq0 nr0) ∧ (rings wq0 nr0).hif.dlUp = true ∧ (rings wq0 nr0).fnDecodes 0 = true ∧
    (∀ e ∈ (rings wq0 nr0).qm.wqs.entries, e.2.nr = some 0 → e.2.told 0 = true) ∧
    up.fnDecodes 1 = false ∧ runs (.wqDoorbell 1 0x1000 1 8) up = true ∧
    (rings wq0 nr0).doorbellWq 0 0x1000 = some (some (0, wq0)) ∧ wq0.state = QState.active ∧ wq0.posted = [] ∧
    (BitVec.ofNat 32 64 - wq0.prod).toNat ≤ 2 ^ wq0.log2 - (wq0.prod - wq0.head).toNat ∧
    2 ^ wq0.log2 - (wq0.prod - wq0.head).toNat < (BitVec.ofNat 32 65 - wq0.prod).toNat ∧
    ((after (.wqDoorbell 0 0x1000 8 8) (rings wq0 nr0)).qm.wqs.get? 0).map (·.prod) = some 8 ∧
    ((after (.wqInvalidate 0 0x1000 8) (rings wq0 nr0)).qm.wqs.get? 0).map (·.prod) = some 8 ∧
    ((after (.wqDoorbell 0 0x1000 65 8) (rings wq0 nr0)).qm.wqs.get? 0).map (·.state) = some QState.error ∧
    (rings wq0 nr0).doorbellNr 0 0x100000 = some (some (0, nr0)) ∧ nr0.order = [] ∧
    (BitVec.ofNat 32 1 - nr0.cons).toNat ≤ nr0.used ∧ nr0.used < (BitVec.ofNat 32 2 - nr0.cons).toNat ∧
    BitVec.ofNat 32 1 = nr0.prod ∧ 1 ≤ nr0.modCount ∧
    ((after (.nrDoorbell 0 0x100000 1 8) (rings wq0 nr0)).qm.nrs.get? 0).map (·.cons) = some 1 ∧
    ((after (.nrArm 0 0x100000 1) (rings wq0 nr0)).qm.nrs.get? 0).map (·.armed) = some true ∧
    (up.fn 0).admin.state = QState.active ∧
    (BitVec.ofNat 32 64 - (up.fn 0).admin.prod).toNat ≤ 64 - ((up.fn 0).admin.prod - (up.fn 0).admin.head).toNat ∧
    ((after (.adminDoorbell 0 0 8 8) up).fn 0).admin.prod = 8 ∧
    ((withAdmin AdminQ.init).fn 0).admin.state = QState.free ∧ (0x4000 : Nat) % 8192 = 0 ∧ getBits 0x4000 13 49 ≠ 0 ∧
    ((after (.adminSetup 0 0x4000) (withAdmin AdminQ.init)).fn 0).admin.base = 0x4000 ∧
    ((withAdmin { adm with prod := 0, fetched := 0 }).fn 0).admin.prod = ((withAdmin { adm with prod := 0, fetched := 0 }).fn 0).admin.head ∧
    ((after (.adminTeardown 0 0x4000) (withAdmin { adm with prod := 0, fetched := 0 })).fn 0).admin.state = QState.free :=
  ⟨serving_of (by decide), by decide⟩

theorem wit_Notifications : Serving (rings wq0 nr0) ∧ (rings wq0 nr0).hif.silenced = false ∧ (rings wq0 nr0).hif.dlUp = true ∧
    ({ nr0 with armed := false } : NrSt).armed = false ∧ nr0.sinceArm < nr0.liveCount ∧
    (∀ t ∈ ({ nr0 with firstAt := some (10 * secStamp) } : NrSt).firstAt, up.now < t + nr0.liveTimerUs * usStamp) ∧
    nr0.firstAt = some (9 * secStamp) ∧ 9 * secStamp + nr0.liveTimerUs * usStamp ≤ (rings wq0 nr0).now ∧
    (rings wq0 nr0).mayIssue 0 = true ∧ ((rings wq0 nr0).fn 0).msixEnable = true ∧ ((rings wq0 nr0).fn 0).maskAll = false ∧
    nr0.vector ∈ ((rings wq0 nr0).fn 0).vecUnmasked ∧ (after (.nrModerationTimer 0) (rings wq0 nr0)).out = [.msix 0 1 0 0 false] ∧
    wq0.hbWaiting = false ∧ wq0.nr = none ∧ (after (.headBlockWrite 0) (rings { wq0 with hbWaiting := true } nr0)).out.length = 1 ∧
    (2 : Nat) ∈ ((rings wq0 nr0).fn 0).vecPending ∧ 2 < (rings wq0 nr0).tableSize 0 ∧
    (∀ x ∈ ((rings wq0 nr0).fn 0).vecPending, x ∈ ((rings wq0 nr0).fn 0).vecUnmasked → x = 2) ∧ ((rings wq0 nr0).fn 0).vecPending.Nodup ∧
    (0 : Word).toNat.testBit 0 = false ∧ (after (.msixVectorUnmask 0 (.write 44 0)) (rings wq0 nr0)).out = [.msix 0 2 0 0 false] ∧
    (4 : Nat) < 16 * (rings wq0 nr0).tableSize 0 ∧ ((rings wq0 nr0).fn 0).vecTable.wf = true ∧
    ((after (.msixVectorUnmask 0 (.write 4 9)) (rings wq0 nr0)).fn 0).vecTable.get? 1 = some 9 ∧
    (rings wq0 nr0).fnDecodes 0 = true ∧ (rings wq0 nr0).fnDecodes 1 = false ∧
    (after (.msixVectorUnmask 0 (.read 128)) (rings wq0 nr0)).out.length = 1 :=
  ⟨serving_of (by decide), by decide⟩

/-- CREATE_NR. -/
def nrArgs : NrArgs := ⟨4, false, 1, 1, 0, 0x40000⟩

/-- An admin entry of VF 1, which is in use. -/
def pf1 : AdminRef := { pf with fn := 1 }
def upVf : State := { up with qm := { up.qm with fns := (Table.empty.set 0 fnUp).set 1 fnUp } }

theorem wit_QueueCommands : AdminStarts pf (rings wq0 nr0) ∧ AdminStarts pf up ∧ AdminStarts pf1 upVf ∧
    (wqArgs.nr = 0xFFFFFFFF ∧ wqArgsOk wqArgs = true ∧ wqArgsOk { wqArgs with type := 3 } = false ∧ up.reservedFor 0 1 = none ∧
    up.heldWqs 0 < up.wqQuota 0 ∧ up.qm.wqs.size + up.qm.reserved.length < 131072 ∧
    (let s : State := { up with qm := { up.qm with fns := (Table.empty.set 0 fnUp).set 1 { fnUp with maxWq := 0 } } };
      s.wqQuota 1 ≤ s.heldWqs 1 ∧ s.adminReady pf1 = true) ∧
    (after (.createWq pf wqArgs) up).qm.wqs.size = 1 ∧
    up.localWq 0 0 = none ∧ (rings wq0 nr0).localWq 0 0 = some (0, wq0) ∧ (rings wq0 nr0).qm.wqs.wf = true ∧ wq0.kind ≠ 2 ∧
    (after (.destroyWq pf 0) (rings wq0 nr0)).qm.wqs.size = 0 ∧ ({ wq0 with state := .error } : WqSt).state = QState.error ∧
    ((after (.modifyWqSuspend pf 0) (rings wq0 nr0)).qm.wqs.get? 0).map (·.suspended) = some true ∧
    ((after (.modifyWqResume pf 0) (rings { wq0 with suspended := true } nr0)).qm.wqs.get? 0).map (·.suspended) = some false ∧
    ((after (.modifyWqSetNr pf 0 0xFFFFFFFF) (rings { wq0 with nr := some 0 } nr0)).qm.wqs.get? 0).map (·.nr) = some none ∧
    (rings wq0 { nr0 with report := true }).reportRing.isSome = true ∧ up.reportRing = none ∧ (rings wq0 nr0).connsOf 0 = [] ∧
    nrArgs.report = false ∧ nrArgsOk nrArgs = true ∧ nrArgsOk { nrArgs with log2Size := 17 } = false ∧
    nrArgs.vector < (up.fn 0).vectors ∧ up.fnNrs 0 < up.nrQuota 0 ∧ (after (.createNr pf nrArgs) up).qm.nrs.size = 1 ∧
    up.localNr 0 0 = none ∧ (rings wq0 nr0).localNr 0 0 = some (0, nr0) ∧ (∀ q ∈ (rings wq0 nr0).qm.wqs.values, q.nr ≠ some 0) ∧
    (∃ q ∈ (rings { wq0 with nr := some 0 } nr0).qm.wqs.values, q.nr = some 0) ∧
    (after (.destroyNr pf 0) (rings wq0 nr0)).qm.nrs.size = 0 ∧
    up.heldWqs 4096 = 0 ∧ up.fnNrs 4096 = 0 ∧ up.fnCtxs 4096 = 0 ∧ (up.fn 4096).resetting = false ∧
    up.vfSum (·.maxWq) + 2048 + up.heldWqs 0 ≤ 131072 ∧ up.vfSum (·.maxNr) + 2048 + up.fnNrs 0 ≤ 65536 ∧
    up.vfSum (·.vectors) + 2048 + (up.fn 0).vectors ≤ 65536 ∧ up.vfSum (·.contexts) + 524288 + up.fnCtxs 0 ≤ 524288 ∧
    ((after (.vfSetResources pf 4096 2048 2048 2048 524288) up).fn 4096).contexts = 524288 ∧
    ((up.modFn 1 fun f => { f with resetting := true }).fn 1).resetting = true) :=
  ⟨admin_of (by decide), admin_of (by decide), admin_of (by decide), by decide⟩

/-- Whether a device serves. -/
abbrev Serving' (s : State) : Prop :=
  (s.assured = true ∧ s.rst.held = false ∧ s.mgt.bootSel ≠ 2 ∧ s.pwr.tripped = false) ∧ s.evr.fatal = false

/-- A SEND entry at the head of WQ 0, which is a send queue. -/
def tq : WqSt := { wq0 with prod := 1, fetched := 1 }
def tref : WorkRef := ⟨0, 0, true, [], false⟩
def sendArgs : SendArgs := ⟨0, 0, 0xFF, 0, 60, zeros 60⟩

/-- The device with that entry, port 0 up. -/
def sendQ : State := { flow with qm := { (rings tq nr0).qm with } }

/-- A SEND entry whose frame has been sent and stands in a Ream with its index fixed. -/
def sent : SendSt :=
  { wq := 0, idx := 0, gen := 0, frame := 0, settled := true, left := 0, copies := 1, stamp := 9 * secStamp, late := false, epoch := 0,
    disposition := 1 }
def sendDone (i : Option Nat) : State :=
  let s := after (.send tref sendArgs) sendQ
  { s with qm := { s.qm with sends := [sent] }, ldg := { s.ldg with placed := Table.empty.set 0 ⟨7, i, true, 1⟩ } }

/-- A RECV entry that holds frame data. -/
def rv : RecvSt :=
  { wq := 0, idx := 0, gen := 0, len := 60, more := false, frameLen := 60, leaf := ⟨0, 9 * secStamp, 0, 2, 60, zeros 32, true, 0, 0, 0, 0, 1⟩,
    mergeGroup := 0, flags := 0, firstCode := 0, cls := 0, ream := 1, recorded := true, mergeSeq := 0 }
def recvDone (i : Option Nat) : State :=
  let s := rings { rq with posted := [] } nr0
  { s with qm := { s.qm with recvs := [rv] }, ldg := { s.ldg with placed := Table.empty.set 0 ⟨1, i, true, 2⟩ } }

/-- A reset of VF 1 in progress. -/
def vfGoing (k : List Ctx) : State :=
  { upVf with
    qm := { upVf.qm with vfResets := Table.empty.set 1 ⟨0, none, 9 * secStamp⟩ }
    eng := { upVf.eng with ctxs := k.foldl (fun t k => t.set 0 k) Table.empty } }

theorem wit_WorkAndReset : WorkStarts 0 tref tq sendQ ∧ WorkStarts 1 tref { tq with kind := 1 } (rings { tq with kind := 1 } nr0) ∧
    Serving (sendDone (some 3)) ∧ Serving (vfGoing []) ∧ PfStarts pf upVf ∧
    (sendQ.vfTxHolds tref = true ∧ sendQ.sendOk sendArgs = true ∧ sendQ.sendOk { sendArgs with length := 13 } = false ∧
    sendQ.up .slice 0 0 = true ∧ (sendQ.setUnit .slice 0 0 { UnitSt.init with state := .outOfService }).up .slice 0 0 = false ∧
    ((after (.send tref sendArgs) sendQ).slice 0).injWait.length = 1 ∧
    (0x40 : Nat) % 64 = 0 ∧ (0x41 : Nat) % 64 ≠ 0 ∧
    ((after (.recv tref 0x40) (rings { tq with kind := 1 } nr0)).qm.wqs.get? 0).map (·.posted) = some [(0, 0x40)] ∧
    (sendDone (some 3)).qm.sends.find? (fun e => decide (e.wq = tref.wq ∧ e.idx = tref.idx)) = some sent ∧
    (sendDone (some 3)).leafIndexOf 0 = some 3 ∧ (sendDone none).leafIndexOf 0 = none ∧
    ((sendDone (some 3)).qm.wqs.get? 0).map (fun q => decide (tref.idx ∈ q.opened)) = some true ∧
    ((after (.sendComplete tref) (sendDone (some 3))).qm.wqs.get? 0).map (·.head) = some 1 ∧
    (recvDone (some 5)).leafIndexOf 0 = some 5 ∧ (recvDone none).leafIndexOf 0 = none ∧ rv.idx ∈ rq.opened ∧
    ((after (.recvWriteback 0 0) (recvDone (some 5))).qm.wqs.get? 0).map (·.head) = some 1 ∧
    sendQ.recvFull tref = false ∧ (rings { tq with kind := 1, posted := List.replicate 32 (0, 0x40) } nr0).recvFull tref = true ∧
    (recvDone (some 5)).frameMay = true ∧
    (let w := { tref with reading := true, reads := [(0x40, 64)] };
      sendQ.workReady w = true ∧ w.reading = true ∧ sendQ.begun (workItem w) = false ∧
      (let s := after (.workNop ⟨w, 0⟩) sendQ;
        Serving' s ∧ s.workReady w = true ∧ s.begun (workItem w) = true ∧ s.hif.reads.size = 1)) ∧
    (let r := { pf with reading := true, len := 64 };
      up.adminReady r = true ∧ r.reading = true ∧ up.begun (adminItem r) = false ∧
      (let s := after (.nop r) up; Serving' s ∧ s.adminReady r = true ∧ s.begun (adminItem r) = true ∧ s.hif.reads.size = 1)) ∧
    up.qm.vfResets.get? 1 = none ∧ (vfGoing []).qm.vfResets.get? 1 = some ⟨0, none, 9 * secStamp⟩ ∧
    (vfGoing []).itemsLeft 1 0 = false ∧ (vfGoing [{ ctx 1 with fn := 1 }]).itemsLeft 1 0 = true ∧
    (upVf.fn 1).resetting = false ∧ ((upVf.modFn 1 fun f => { f with resetting := true }).fn 1).resetting = true ∧
    ((after (.vfReset pf 1) upVf).fn 1).gen = 1) :=
  ⟨⟨serving_of (by decide), by decide, rfl, by decide, by decide, by decide⟩,
    ⟨serving_of (by decide), by decide, rfl, by decide, by decide, by decide⟩,
    serving_of (by decide), serving_of (by decide), pf_of (by decide), by decide⟩

/-! ### Coherent state -/

/-- An image of bank 2 by signer 1. -/
def imageOf (version : Nat) : BankImage :=
  { head := le 4 0x524B4E42 ++ le 2 version ++ le 2 0x9640 ++ le 8 2 ++ le 4 256 ++ le 4 4 ++ le 8 1 ++ zeros 32, signature := zeros 64
    sigOk := true, badOffset := none, loadUs := 3, matching := [], bank := { bank0 with bankId := 2 } }
def image : BankImage := imageOf 1

/-- A base image with one signer and a counter pair in its map. -/
def base0 : BaseImage :=
  { head := zeros 64, keys := [], keySel := none, ownerOk := true, macOk := true, deviceSectionOk := true, sectionsOk := true, len := 4096, hash := zeros 32,
    caps := caps0,
    clocks := [], regs := [], bank := { image with bank := bank0 }, counterMap := [(C.qmAborted, C.qmAborted)], mailbox := [],
    time := TimeSection.init, signers := [1], clearKeys := [], events := [], pldm := [], macsec := [], serdes := [], epoch := 0, ports := [] }

/-- The device with a base image in effect and epochs reserved. -/
def based : State := { up with nvm := { Nvm.init with base := some base0 }, coh := { up.coh with hwm := 1024 } }

/-- A commit in a phase. -/
def committing (p : CommitPhase) (tc : Stamp) : State := { based with coh := { based.coh with phase := p, tc, assigned := 1 } }

theorem wit_CommitProtocol : PfStarts pf based ∧ PfStarts pf (committing .armed 0) ∧ Serving based ∧ Serving (committing .arming 0) ∧
    Serving (committing .armed (9 * secStamp)) ∧
    (based.coh.staged ≠ 2 ∧ based.coh.phase = .idle ∧ based.coh.draining = [] ∧ based.coh.reamPending = false ∧
    based.coh.assigned < 0xFFFFFFFF ∧ based.recentPersist < 200 ∧ 1024 + based.commitPages ≤ based.freePages ∧
    (after (.configCommit pf 0) based).coh.phase = .arming ∧ (after (.configCommit pf 1) based).nvm.writing.length = 1 ∧
    (committing .arming 0).coh.assigned < (committing .arming 0).coh.hwm ∧
    (after .commitUnitsArmed (committing .arming 0)).coh.tc = 10 * secStamp + 2 * usStamp ∧
    (committing .armed (9 * secStamp)).coh.tc ≤ (committing .armed (9 * secStamp)).now ∧
    (committing .armed (11 * secStamp)).now < (committing .armed (11 * secStamp)).coh.tc ∧
    (after .commitTimeReached (committing .armed (9 * secStamp))).coh.epoch = 1 ∧ up.sliceDrained 0 = false ∧
    (let s : State := { based with coh := { based.coh with draining := [7] } };
      s.sliceDrained 7 = true ∧ (after (.bankDrainComplete 7) s).coh.draining = [])) :=
  ⟨pf_of (by decide), pf_of (by decide), serving_of (by decide), serving_of (by decide), serving_of (by decide), by decide⟩

theorem wit_StageAndRead : PfStarts pf based ∧ (based.coh.phase = .idle ∧ based.coh.draining = [] ∧
    (committing .armed 0).coh.phase ≠ .idle ∧ headerFault image 256 = none ∧ headerFault image 255 = some 16 ∧
    headerFault (imageOf 2) 256 = some 4 ∧ ({ image with sigOk := false } : BankImage).sigOk = false ∧ based.liveRow image.bank.rows = false ∧
    based.nvm.base = some base0 ∧ image.signerId ∈ base0.signers ∧ image.badOffset = none ∧ (readImage image).isSome = true ∧
    readImage { image with matching := [0, 17] } = none ∧ based.rowsExceed [] = false ∧
    ((based.adminOpen pf).loadRows []).isSome = true ∧ (after (.configStage pf 0 256 image) based).coh.staged = 1 ∧
    clsMask .staged 0 = 0 ∧ clsMask .ream 0 = 0 ∧ clsMask .staged (Reg.mrgWindow 0) + clsMask .ream (Reg.mrgWindow 0) ≠ 0) :=
  ⟨pf_of (by decide), by decide⟩

/-- A snapshot in a phase, with a count before T_s and one after it. -/
def snap (p : SnapPhase) (ts : Stamp) : State :=
  { based with
    snap := { phase := p, ts := ts, seq := 1, clearing := false, token := some ⟨pf, 0, 0⟩, bufLen := 16 }
    ctr := { based.ctr with value := Table.empty.set 8 3, side := Table.empty.set 8 4 } }

theorem wit_CounterSnapshot : PfStarts pf based ∧ PfStarts pf (snap .armed 0) ∧ Serving (snap .armed (9 * secStamp)) ∧
    Serving (snap .writing 0) ∧ (16 * based.counterMap.length ≤ 16 ∧ based.snap.phase = .idle ∧ (snap .armed 0).snap.phase ≠ .idle ∧
    (after (.snapshotCounters pf 1 16) based).snap.clearing = true ∧ (snap .armed (9 * secStamp)).latchReady = true ∧
    (snap .armed (11 * secStamp)).latchReady = false ∧ (snap .armed 0).ctr.side.wf = true ∧
    ((after .counterLatch (snap .armed (9 * secStamp))).ctr.value.get? 8) = some 7 ∧
    ((after .counterLatch (snap .armed (9 * secStamp))).ctr.latched.get? 8) = some 3 ∧
    (snap .writing 0).hif.dlUp = true ∧ (snap .writing 0).hif.silenced = false ∧ (snap .writing 0).mayIssue 0 = true ∧
    (after .snapshotBufferWritten (snap .writing 0)).snap.phase = .idle) :=
  ⟨pf_of (by decide), pf_of (by decide), serving_of (by decide), serving_of (by decide), by decide⟩

/-! ### Time and stamping -/

/-- The time base changed. -/
def timed (s : State) (f : TimeBase → TimeBase) : State := { s with tb := f s.tb }

/-- PPS input 0 with two edges, the last at 9 s. -/
def pps2 : State := timed (up.setFld F.tbTodCtrl_rxEn 1) fun t => { t with
  pps := t.pps.set 0 { PpsSt.init with run := 2, lastEdge := some (9 * secStamp) } }

/-- The time-of-day message of second 9. -/
def tod9 : Bytes := up.todBody 9 ++ be 2 (crc16 (up.todBody 9))

/-- A PTP message of a kind. -/
def ptpMsg (k : PtpMsgKind) : PtpMsg := ⟨k, 0, [], 9 * secStamp + 500, false, 9 * secStamp, 0, 20, true, 37, false, false, 0⟩

/-- Port 0 with an event message whose frame has come. -/
def ptpUp : State := timed (port up 0) fun t => { t with ptpRx := [(0, 9 * secStamp + 500)] }

/-- Source 1 active, source 0 of higher rank and qualified since reset. -/
def revert : State := timed (((up.setFld F.tbCtrl_revertive 1).setFld (F.tbSrcCfg_enable 0) 1).setFld (F.tbSrcCfg_enable 1) 1) fun t => { t with
  active := some 1, srcs := t.srcs.set 0 ⟨true, 0, 0⟩ }

theorem wit_TimeSources : Serving pps2 ∧ Serving revert ∧ Serving ptpUp ∧ (pps2.timeDead = false ∧ revert.timeDead = false ∧
    ptpUp.timeDead = false ∧ ({ pps2 with evr := { pps2.evr with fatal := true, fatalCause := 0x8F02 } } : State).timeDead = false ∧
    pps2.tb.running = true ∧
    (pps2.pps 0).lastEdge = some (9 * secStamp) ∧ (up.pps 0).lastEdge = none ∧ ((after (.ppsInEdge 0 (9 * secStamp) 100) up).pps 0).run = 1 ∧
    9 * secStamp + secStamp ≤ 10 * secStamp + 10 * usStamp ∧ ((after (.ppsInEdge 0 (10 * secStamp + 10 * usStamp) 100) pps2).pps 0).ok = true ∧
    ((after (.ppsInEdge 0 (10 * secStamp + 10 * usStamp + 1) 100) pps2).pps 0).ok = false ∧
    pps2.now ≤ 9 * secStamp + 11 * secStamp / 10 ∧
    (let s := timed pps2 fun t => { t with time := 11 * secStamp * 65536 };
      9 * secStamp + 11 * secStamp / 10 < s.now ∧ ((after (.ppsEdgeTimeout 0) s).pps 0).run = 0) ∧
    pps2.fld F.tbTodCtrl_rxEn ≠ 0 ∧ todForm tod9 = true ∧ todForm (zeros 32) = false ∧ (pps2.pps 0).named = none ∧
    ((after (.todRxMessage tod9 (9 * secStamp + 10 * msStamp)) pps2).pps 0).named = some 9 ∧
    ((after (.todRxMessage tod9 (9 * secStamp + 9 * msStamp)) pps2).pps 0).named = none ∧
    (let s := timed pps2 fun t => { t with
        quality := .locked, pps := t.pps.set 0 { PpsSt.init with run := 2, lastEdge := some (8 * secStamp), todOk := true } };
      (beNat (bytesAt tod9 4 6) : Int) ≠ nearestSecond (8 * secStamp) ∧
      ((after (.todRxMessage tod9 (8 * secStamp + 10 * msStamp)) s).pps 0).todOk = false) ∧
    ptpUp.configured 0 = true ∧ (ptpUp.port 0).link = true ∧ ptpUp.tb.slave = none ∧ ptpUp.tb.running = true ∧
    (0, (ptpMsg .sync).rxStamp) ∈ ptpUp.tb.ptpRx ∧ (0, (ptpMsg .sync).rxStamp) ∉ up.tb.ptpRx ∧ isPtpEvent .sync = true ∧
    (after (.ptpMessage 0 (ptpMsg .announce)) ptpUp).tb.slave = some 0 ∧
    (let s := timed (ptpUp.setFld (F.tbSrcCfg_type 0) 4) fun t => { t with slave := some 0, active := some 0 };
      s.activeType = 4 ∧ s.regs.cells.wf = true ∧ (after (.ptpMessage 0 (ptpMsg .announce)) s).fld F.tbUtc_offset = 37) ∧
    ((after (.ptpMessage 0 (ptpMsg .sync)) ptpUp).tb.ptp.getD 0 PtpSt.init).t1 = 9 * secStamp + 20 ∧
    (let s := timed ptpUp fun t => { t with ptp := t.ptp.set 0 { PtpSt.init with delayWaiting := true, pdWaiting := true } };
      (s.tb.ptp.getD 0 PtpSt.init).delayWaiting = true ∧ (s.tb.ptp.getD 0 PtpSt.init).pdWaiting = true ∧
      ((after (.ptpMessage 0 (ptpMsg .delayResp)) s).tb.ptp.getD 0 PtpSt.init).meanPath = -10) ∧
    (timed up fun t => { t with slave := some 0 }).tb.slave ≠ none ∧
    (after (.ptpSlaveLost true) (timed up fun t => { t with slave := some 0 })).tb.slave = none ∧
    (let s := timed up fun t => { t with hostAt := some (8 * secStamp) };
      8 * secStamp + 2 * secStamp ≤ s.now ∧ (after .hostSourceTimeout s).tb.hostAt = none) ∧ up.now < 9 * secStamp + 2 * secStamp ∧
    revert.tb.active = some 1 ∧ revert.fld F.tbCtrl_revertive = 1 ∧ revert.candidate 0 = true ∧ revert.outranks 0 1 = true ∧
    (revert.src 0).since + 10 * secStamp ≤ revert.now ∧ (after (.revertiveSwitch 0) revert).tb.active = some 0 ∧
    revert.candidate 2 = false ∧
    (let s := timed up fun t => { t with quality := .holdover };
      s.tb.holdoverAt + s.fld F.tbHoldoverLimit_seconds * secStamp ≤ s.now ∧ (after .holdoverExpired s).tb.quality = .freeRun)) :=
  ⟨serving_of (by decide), serving_of (by decide), serving_of (by decide), by decide⟩

/-- ACQUIRING, with an automatic step of one second that waits. -/
def stepping : State := timed (up.setFld F.tbCtrl_autoStep 2) fun t => { t with quality := .acquiring, stepWait := some ⟨-secStamp⟩ }

theorem wit_TimeCommands : Serving stepping ∧ PfStarts pf up ∧ PfStarts pf (timed up fun t => { t with quality := .locked }) ∧
    PfStarts pf (committing .armed 0) ∧ (stepping.tb.stepWait = some ⟨-secStamp⟩ ∧ stepping.tb.running = true ∧ stepping.mayStep = true ∧
    stepping.stepHeld = false ∧ (committing .armed 0).stepHeld = true ∧ (after .timeStepAuto stepping).now = 9 * secStamp ∧
    up.tb.quality = .freeRun ∧ up.stepHeld = false ∧ (after (.timeSetAbsolute pf 5 999999999 0) up).now = 6 * secStamp - nsStamp ∧
    (after (.timeSetRelative pf (secStamp : Nat)) up).now = 11 * secStamp ∧ (500000000 : Int).natAbs ≤ 500000000 ∧
    500000000 < (-500000001 : Int).natAbs ∧ (∀ n < 16, up.fld (F.tbSrcCfg_enable n) ≠ 1 ∨ up.srcType n ≠ 5) ∧
    (after (.timeAdjust pf 1 0 1000 0 0) up).tb.freq = freqOf 1000 ∧ runs (.timeStatus pf) up = true) :=
  ⟨serving_of (by decide), pf_of (by decide), pf_of (by decide), pf_of (by decide), by decide⟩

/-- PPS output 0 on, 100 µs wide, with the time-of-day output following it; event input 0 on, at rising edges. -/
def outs : State :=
  ((((up.setFld (F.tbPpsOutCtrl_mode 0) 1).setFld (F.tbPpsOutCtrl_widthUs 0) 100).setFld F.tbTodCtrl_txEn 1).setFld F.tbTodCtrl_txSel 0).setFld
    F.tbEvtCtrl_enable 1

theorem wit_TimeOutputs : Serving outs ∧ Serving (port up 0) ∧
    (outs.timeDead = false ∧ (port up 0).timeDead = false ∧
    (let s : State := { outs with evr := { outs.evr with fatal := true, fatalCause := 0x8F02 } };
      s.timeDead = false ∧ (after (.ppsOutRise 0) s).out = [.ppsOut 0 true]) ∧
    (outs.now + outs.fld (F.tbPpsOutAdv_adv 0) * 256) / secStamp = 10 ∧ outs.tb.running = true ∧ outs.ppsRuns 0 = true ∧
    outs.ppsRuns 1 = false ∧ outs.now < 10 * secStamp - 0 + outs.ppsWidth 0 ∧ outs.tb.ppsRise.get? 0 = none ∧
    (after (.ppsOutRise 0) outs).out = [.ppsOut 0 true] ∧ (after (.ppsOutRise 0) outs).tb.todDue.isSome = true ∧
    (let s := timed outs fun t => { t with ppsRise := Table.empty.set 0 (9 * secStamp), ppsHigh := [0], todDue := some (9 * secStamp, 9) };
      9 * secStamp + s.ppsWidth 0 ≤ s.now ∧ (after (.ppsOutFall 0) s).tb.ppsHigh = [] ∧ s.fld F.tbTodCtrl_txEn ≠ 0 ∧
      (after .todTxMessage s).out.length = 1) ∧
    (outs.fld F.tbEvtCtrl_enable).testBit 0 = true ∧ (outs.fld F.tbEvtCtrl_edge).testBit 0 = false ∧
    (after (.evtInEdge 0 (9 * secStamp) 10 false) outs).tb.evt.getD 0 [] = [9 * secStamp] ∧
    (after (.evtInEdge 0 (9 * secStamp) 9 false) outs).tb.evt.getD 0 [] = [] ∧
    (let s := timed outs fun t => { t with
        evtLast := Table.empty.set 0 (9 * secStamp - 100 * nsStamp), evt := Table.empty.set 0 (List.replicate 64 (8 * secStamp)) };
      64 ≤ (s.tb.evt.getD 0 []).length ∧ s.regs.cells.wf = true ∧ s.tb.evtLast.get? 0 = some (9 * secStamp - 100 * nsStamp) ∧
      (after (.evtInEdge 0 (9 * secStamp) 10 false) s).fld (F.tbEvtOvf_ovf 0) = 1 ∧ (after (.evtPop 0) s).fld (F.tbEvtSecL_secL 0) = 8) ∧
    (after (.evtPop 0) outs).fld (F.tbEvtStatus_emptyPop 0) = 1 ∧ (after .timeLatch outs).reg Reg.tbTimeSecL = 10 ∧
    runs (.ptpMessageInterval 0 .delayReq 0) (port up 0) = true ∧
    ((after (.ptpMessageInterval 0 .delayReq 0) (port up 0)).slice 0).injWait.length = 1) :=
  ⟨serving_of (by decide), serving_of (by decide), by decide⟩

/-- A pass at its limits. -/
def calRes : CalResult := ⟨[true, true, true, true, true], [2048, 0, 0, 0, 0], [-2048, 0, 0, 0, 0], 131072⟩

/-- Die 0 within a Calender pass, and port 0 with a cable delay measured at reset. -/
def calibrating : State := { up with stp := { up.stp with
  dies := Table.empty.set 0 { DieCal.init with inPass := true }
  cables := Table.empty.set 0 { CableSt.init with valid := true } } }

theorem wit_CalibrationPasses : Serving calibrating ∧ (calibrating.tb.running = true ∧ (calibrating.die 0).inPass = true ∧
    (calibrating.die 3).inPass = false ∧ ((after (.calenderPass 3) calibrating).die 3).inPass = true ∧
    (∀ r < 5, calRes.locks.getD r false = true ∧ (calRes.rx.getD r 0).natAbs ≤ 2048 ∧ (calRes.tx.getD r 0).natAbs ≤ 2048) ∧
    calRes.ofs.natAbs ≤ 131072 ∧ ((after (.calenderPassComplete 0 calRes) calibrating).die 0).doneAt = some (10 * secStamp) ∧
    ((after (.calenderPassComplete 0 { calRes with ofs := 131073 }) calibrating).die 0).rejects = 1 ∧
    (after .calStale { up with stp := { up.stp with stale := false } }).stp.stale = true ∧
    (calibrating.stp.cables.getD 0 CableSt.init).lastAt + 10 * secStamp ≤ calibrating.now ∧
    ((after (.cableMeasTimeout 0) calibrating).stp.cables.getD 0 CableSt.init).valid = false) :=
  ⟨serving_of (by decide), by decide⟩

/-! ### Ledger -/

/-- Ream 0, ended and due, without frames, beside Ream 1 in progress since 9 s. -/
def ream0 : ReamSt := { ream1 with num := 0, start := 8 * secStamp, stop := some (9 * secStamp), ports := [] }

/-- A header of Ream 0 with signer 0. -/
def hdr0 : HdrSt :=
  { ream := 0, stop := 9 * secStamp, body := [], sheet := [], root := zeros 32, keyId := 0, wrapped := [], epoch := 0, signer := some 0, released := false,
    unsigned := false, sig := [], archBusy := [], owed := [] }

/-- A checkpoint. -/
def ckpt0 : Ckpt := ⟨1, 0, 9 * secStamp, 0, 65536, 0, zeros 32⟩

/-- The ledger changed. -/
def ledger (s : State) (f : Ledger → Ledger) : State := { s with ldg := f s.ldg }

theorem wit_ReamLife : Serving flow ∧ (flow.ldg.cur = some ream1 ∧ nextBoundary flow.reamSpan ream1.start ≤ flow.now ∧
    flow.reservedOut 2 = false ∧ (after .reamBoundary flow).ldg.cur.map (·.num) = some 2 ∧
    (let s := ledger flow fun l => { l with cur := some { ream1 with start := 10 * secStamp } };
      s.now < nextBoundary s.reamSpan (10 * secStamp)) ∧
    (let s := ledger flow fun l => { l with ended := [ream0] };
      s.ldg.ended = [] ++ [ream0] ∧ ream1.num ≠ ream0.num ∧ ream0.sealAt ≤ s.now ∧ s.reservedOut ream0.num = false ∧
      s.ldg.headers.length < headerSlots ∧ s.signersUp ≠ []) ∧
    (let s := ledger flow fun l => { l with ended := [{ ream0 with sealAt := 11 * secStamp }] }; s.now < 11 * secStamp) ∧
    (let s := ledger flow fun l => { l with headers := [hdr0] };
      s.working .signer 0 0 = true ∧ s.up .signer 0 0 = true ∧ s.recordOpen (.signer, 0, 0) = false ∧
      s.unsignedHeaders.find? (fun h => decide (h.signer = some 0)) = some hdr0 ∧ hdr0.stop % secStamp = 0 ∧
      ((after (.signatureComplete 0 false) s).unit .signer 0 0).state = .outOfService) ∧
    flow.nearReservation = false ∧
    (let s := ledger flow fun l => { l with ckptWaiting := some ckpt0 };
      s.ldg.ckptWriting = none ∧ (after .checkpointWrite s).ldg.ckptWriting = some { ckpt0 with seq := 1 }) ∧
    (let s := ledger flow fun l => { l with ckptWriting := some ckpt0 };
      s.nvm.mirror = true ∧ s.up .flash 0 0 = true ∧ s.up .flash 0 1 = true ∧
      (after (.checkpointProgramComplete true true) s).ldg.newestCkpt = some ckpt0 ∧
      (after (.checkpointProgramComplete false false) s).ldg.newestCkpt = none)) :=
  ⟨serving_of (by decide), by decide⟩

theorem wit_LedgerUnitFaults : Serving up ∧ ((up.unit .sm3Engine 0 0).state = .inService ∧ up.recordOpen (.sm3Engine, 0, 0) = false ∧
    up.evr.records.length < 64 ∧ (up.unit .sm3Engine 0 10).state = .outOfService ∧ (up.unit .sm3Engine 0 10).reason = 6 ∧
    (up.unit .sm3Engine 0 10).fault = false ∧ ((after (.sm3EngineFault 0 0) up).unit .sm3Engine 0 10).role = some 0 ∧
    (up.unit .builderSide 0 0).state = .inService ∧ up.recordOpen (.builderSide, 0, 0) = false ∧ up.up .builderSide 0 1 = true ∧
    (after (.builderSideFault 0) up).ldg.builderB = true ∧
    (let s := up.setUnit .builderSide 0 1 { UnitSt.init with state := .outOfService };
      s.up .builderSide 0 1 = false ∧ (after (.builderSideFault 0) s).evr.fatal = true)) :=
  ⟨serving_of (by decide), by decide⟩

/-! ### Rings, archive and store -/

/-- A record of Ream 0 with index 3, of ring set 0. -/
def rec0 : RecSt :=
  { ream := 0, leaf := rv.leaf, post := none, index := some 3, set := 0, reserve := false, hostDone := false, archDone := false, archCid := none }

/-- Ring set 0, enabled; and with an archive on connection 0. -/
def set0 : RingSet := { RingSet.init with enabled := true, recLog2 := 10, hdrLog2 := 4, vector := 1, modEntries := 1 }
def set1 : RingSet := { set0 with dest := 2, conn := some 0, recLbas := 16, hdrLbas := 32, hdrLba := 100, archUp := true }

/-- The device with that ring set. -/
def ringed (r : RingSet) (f : Ledger → Ledger) : State :=
  ledger { rings wq0 nr0 with eng := { up.eng with conns := Table.empty.set 0 { conn0 with archive := some 0 } } } fun l =>
    f { l with sets := Table.empty.set 0 r }

/-- A released header that ring set 0 is still to take. -/
def hdrOut : HdrSt := { hdr0 with released := true, signer := none, owed := [(0, false)] }

/-- A Write of the archive. -/
def arch0 : ArchOp := ⟨7, false, false, 1, 0, 1, [], false⟩

/-- The connection of the archive changed. -/
def withConn (s : State) (f : Conn → Conn) : State := s.modConn 0 f

theorem wit_RingsAndArchive : Serving (ringed set0 id) ∧ Serving (ringed set1 id) ∧ ((ringed set0 id).ringSet 0 = set0 ∧
    (ringed set0 id).hostTakes = true ∧ (ringed set0 id).ledgerTurn = true ∧ (ringed set0 id).hif.dlUp = true ∧
    (ringed set0 id).fnDecodes 0 = true ∧ ((ringed set0 id).modFn 0 fun f => { f with memEnable := false }).fnDecodes 0 = false ∧ (ringed set0 id).mayIssue 0 = true ∧ set0.dest ≠ 1 ∧
    (let s := ringed set0 fun l => { l with records := [rec0] };
      (s.writable 0 fun x => !x.hostDone).take (ringRoom set0.recProd set0.recCons set0.recLog2) = (rec0, 3) :: [] ∧
      ((after (.recordRingWrite 0) s).ringSet 0).recProd = 1 ∧ (after (.recordRingWrite 0) s).ldg.records = []) ∧
    (let s := ringed set0 fun l => { l with headers := [hdrOut] };
      (s.headersFor 0 false).take (ringRoom set0.hdrProd set0.hdrCons set0.hdrLog2) = hdrOut :: [] ∧
      ((after (.headerRingWrite 0) s).ringSet 0).hdrProd = 1) ∧
    (let r := { set0 with recProd := 2, hdrProd := 2 }; let s := ringed r id;
      (2 : Word) - r.recCons ≤ r.recProd - r.recCons ∧ r.recProd - r.recCons < (3 : Word) - r.recCons ∧
      r.hdrProd - r.hdrCons < (3 : Word) - r.hdrCons ∧ ((after (.ledgerConsumerWrite 0 false 2) s).ringSet 0).recCons = 2 ∧
      ((after (.ledgerConsumerWrite 0 true 3) s).ringSet 0).hdrCons = 0) ∧
    (ringed set0 id).fld (F.ldgRingMod_count 0) ≤ set0.modEntries ∧ ((ringed set0 id).fn 0).maskAll = false ∧
    set0.vector ∈ ((ringed set0 id).fn 0).vecUnmasked ∧ (after (.ledgerRingModeration 0) (ringed set0 id)).out = [.msix 0 1 0 0 false] ∧
    (let s := (ringed set0 id).setFld (F.ldgRingMod_count 0) 2;
      set0.modEntries < s.fld (F.ldgRingMod_count 0) ∧ set0.modFirst = none) ∧
    set0.conn = none ∧ set1.conn = some 0 ∧ ((ringed set1 id).conn 0).isSome = true ∧
    (let s := withConn (ringed { set1 with recWraps := 0 } fun l => { l with records := [{ rec0 with hostDone := true, archCid := some 7 }] })
        fun c => { c with archOps := [arch0] };
      ((s.conn 0).map fun c => c.archOps.find? (fun o => decide (o.lba = 1) && !o.failed && !o.index)) = some (some arch0) ∧
      (after (.archiveWriteComplete 0 1 true) s).ldg.records = [] ∧
      (after (.archiveWriteComplete 0 1 false) s).ldg.records.length = 1) ∧
    (ringed set1 id).nextBlock 0 = [] ∧ (ringed set1 id).headersFor 0 true = [] ∧ set1.indexAt ≤ (ringed set1 id).now ∧
    (((ringed set1 id).conn 0).map fun c => decide (2 ≤ c.archRoom)) = some true ∧
    (((after (.archiveIndexWrite 0) (ringed set1 id)).conn 0).map (·.archOps.length)) = some 2 ∧
    (ringed { set1 with indexAt := 11 * secStamp } id).now < 11 * secStamp ∧
    (((ringed set1 id).conn 0).map fun c => decide (c.state ≠ .failed)) = some true ∧
    (let s := withConn (ringed set1 id) fun c => { c with state := .failed };
      set1.retryAt ≤ s.now ∧ ((after (.archiveReconnect 0) s).conn 0).map (·.state) = some .connecting)) :=
  ⟨serving_of (by decide), serving_of (by decide), by decide⟩

/-- ENABLE_SET and ARCHIVE. -/
def setArgs : RingSetArgs := ⟨0, 0, 10, 4, 1, 0x100000, 0x200000, 0x300040⟩
def archArgs : ArchiveArgs := ⟨0, 0, 1, 0, 16, 100, 32⟩

/-- The device with an unbound archive connection, and the ring set disabled. -/
def unbound : State := withConn (ringed { set1 with enabled := false } id) fun c =>
  { c with archive := none, info := { c.info with wq := 0xFFFFFFFF } }

theorem wit_LedgerCommands : PfStarts pf up ∧ PfStarts pf (ringed set1 id) ∧ PfStarts pf unbound ∧
    (up.ringArgsOk setArgs = true ∧ up.ringArgsOk { setArgs with recLog2 := 9 } = false ∧ (up.ringSet 0).enabled = false ∧
    ((ringed set1 id).ringSet 0).enabled = true ∧ ((after (.ledgerEnableSet pf setArgs) up).ringSet 0).enabled = true ∧
    lbasOverlap archArgs.recLba archArgs.recLbas archArgs.hdrLba archArgs.hdrLbas = false ∧ archArgs.recLbas % 8 = 0 ∧
    archArgs.hdrLbas % 8 = 0 ∧ 16 ≤ archArgs.recLbas ∧ 32 ≤ archArgs.hdrLbas ∧ lbasOverlap 0 16 15 16 = true ∧ up.ownerOf 0 = none ∧
    unbound.ownerOf 0 = some 0 ∧ ((unbound.conn 0).map fun c => decide (c.info.wq = 0xFFFFFFFF ∧ c.archive = none)) = some true ∧
    (unbound.ringSet 0).enabled = false ∧ (((ringed set1 id).conn 0).map fun c => decide (c.info.wq ≠ 0xFFFFFFFF)) = some true ∧
    ((after (.ledgerDisableSet pf 0) (ringed set0 id)).ringSet 0).enabled = false ∧
    ((after (.ledgerDisableSet pf 0) (withConn (ringed set1 id) fun c => { c with archOps := [arch0] })).ringSet 0).disabling.isSome = true ∧
    arch0.failed = false ∧ (1 : Nat) ≠ up.ldg.keySel ∧ up.regs.reamWait.get? F.ldgCtrl_keySel.addr = none ∧
    1 ≠ getBits ((up.adminOpen pf).stagedView F.ldgCtrl_keySel.addr) F.ldgCtrl_keySel.lo F.ldgCtrl_keySel.width ∧
    up.ldg.lastRotate = none ∧ up.now < 9 * secStamp + 10 * secStamp ∧ up.exportedKey 0 0 = none ∧
    (let s := ledger up fun l => { l with keys := Table.empty.set 2 ⟨5, zeros 64, [], zeros 200⟩ };
      s.exportedKey 2 0 = some ⟨5, zeros 64, [], zeros 200⟩ ∧ s.exportedKey 0xFF 5 = some ⟨5, zeros 64, [], zeros 200⟩ ∧
      (after (.ledgerExportKey pf 2 0 200) s).out.length = 3)) :=
  ⟨pf_of (by decide), pf_of (by decide), pf_of (by decide), by decide⟩

/-- A journal record being written, of a kind. -/
def jrn (k : JrnKind) : JrnRec := { kind := k, seq := 1, page := 0, pages := 1, devices := [0, 1], headerOk := [], markerOk := [] }

/-- A superblock: slots A. -/
def sb0 : Superblock := ⟨1, 0, 0, 4096, 1, 0, 1024, zeros 32, zeros 32⟩

/-- The store changed. -/
def store (f : Nvm → Nvm) : State :=
  { committing .journal 0 with nvm := f { based.nvm with active := some sb0, bases := Table.empty.set 0 base0 } }

theorem wit_StoreWrites : Serving (store id) ∧ PfStarts pf (store id) ∧ Serving (store fun n => { n with compacting := true }) ∧
    ((store id).nvm.mirror = true ∧ (store id).up .flash 0 0 = true ∧ (store id).up .flash 0 1 = true ∧
    (jrn (.epochReserve 2048)).headerOk = [] ∧ (store id).flashFailures 1 < 2 ∧
    (let s := store fun n => { n with writing := [(jrn (.epochReserve 2048), .epoch)] };
      (after (.journalWriteComplete true true) s).coh.hwm = 2048 ∧ (after (.journalWriteComplete true false) s).coh.hwm = 1024) ∧
    (let s := store fun n => { n with writing := [(jrn (.commit [] 1 2), .commit)] };
      (after (.journalWriteComplete true true) s).coh.phase = .arming) ∧
    (let s := store fun n => { n with writing := [(jrn (.ledgerKey 2 5 (zeros 64) [] (zeros 200)), .rotateKey ⟨pf, 0, 0⟩ 2 5 200)] };
      (after (.journalWriteComplete true true) s).ldg.lastRotate = some (10 * secStamp)) ∧
    (store id).compactDue = false ∧
    (let s := store fun n => { n with compactAsked := true };
      s.compactDue = true ∧ (after .compactionStart s).nvm.compacting = true ∧ s.otherBase = 1) ∧
    (store fun n => { n with active := some { sb0 with baseSlot := 1 } }).otherBase = 0 ∧
    (let s := store fun n => { n with compacting := true };
      (after (.compactionComplete 0x1800000 true) s).nvm.sb0.length = 1 ∧
      (after (.compactionComplete 0x1800001 true) s).nvm.compactFailed = true) ∧
    (0 : Nat) ∈ (store id).flashUp ∧ (2 : Nat) ∉ (store id).flashUp ∧ 2 ≤ (store id).flashUp.length ∧
    (store id).recordOpen (.flash, 0, 0) = false ∧ (store id).evr.records.length < 64 ∧ (store id).snap.phase ≠ .armed ∧
    ((after (.flashOperationFailed 0) (store id)).unit .flash 0 0).state = .outOfService ∧
    (let s := store fun n => { n with bootSkewed := some 1 };
      ((after (.flashResyncComplete 1) s).unit .flash 0 1).state = .inService) ∧
    (store id).nvm.compactToken = none ∧ (store id).nvm.base.isSome = true ∧
    (after (.nvmCompact pf 1) (store id)).nvm.compactAsked = true ∧ runs (.nvmStatus pf) (store id) = true) :=
  ⟨serving_of (by decide), pf_of (by decide), serving_of (by decide), by decide⟩

/-- A firmware image. -/
def fw0 : FirmwareInfo := ⟨true, true, 3, 7, false, zeros 32⟩

/-- An update with one window programmed, its length set. -/
def updating (target : Nat) (f : UpdateSt → UpdateSt) : State :=
  (store fun n => { n with upd := f { UpdateSt.init with phase := 1, target, offset := 4096, programmed := 4096, devices := [0, 1] } }).setFld F.nvmUpdLen_bytes 4096

theorem wit_ImageUpdate : Serving (updating 0 id) ∧ Serving (store id) ∧ ((updating 0 id).mgt.fwRuns = true ∧
    (store id).nvm.compacting = false ∧ (store id).nvm.upd.phase ≠ 1 ∧ (store id).otherFw = 1 ∧
    (store fun n => { n with active := some { sb0 with fwSlot := 1 } }).otherFw = 0 ∧ (after (.updateOpen 5) (store id)).nvm.upd.phase = 1 ∧
    (updating 0 id).nvm.upd.busy = false ∧ (updating 0 id).nvm.upd.offset < slotSize 0 ∧
    (updating 0 fun u => { u with offset := 0x1000000 }).nvm.upd.offset = slotSize 0 ∧
    (after (.updateWindowProgram 1) (updating 0 id)).nvm.upd.busy = true ∧
    (after (.updateProgramComplete ⟨true, false⟩) (updating 0 fun u => { u with busy := true })).nvm.upd.offset = 8192 ∧
    (after (.updateProgramComplete ⟨true, false⟩) (updating 0 fun u => { u with busy := true })).nvm.upd.devices = [0] ∧
    (after (.updateProgramComplete ⟨false, false⟩) (updating 0 fun u => { u with busy := true })).nvm.upd.result = 4 ∧
    (store id).nvm.fw.wf = true ∧ (store id).nvm.bases.wf = true ∧ (store id).flashUp = [0, 1] ∧
    (after (.updateProgramComplete ⟨true, true⟩) (updating 0 fun u => { u with busy := true, abortWaiting := true })).nvm.upd.result = 6 ∧
    (updating 0 id).nvm.upd.result ≠ 4 ∧ (updating 0 id).fld F.nvmUpdLen_bytes ≠ 0 ∧
    (updating 0 id).fld F.nvmUpdLen_bytes ≤ (updating 0 id).nvm.upd.programmed ∧ (updating 0 id).mgt.fusedMin ≤ fw0.svn ∧
    (after (.updateClose 8 (some fw0) none) (updating 0 id)).nvm.active.map (·.fwSlot) = some 1 ∧
    (after (.updateClose 0 (some { fw0 with sigOk := false }) none) (updating 0 id)).nvm.upd.result = 1 ∧
    (let s := updating 0 id; let t : State := { s with mgt := { s.mgt with fusedMin := 4 } };
      fw0.svn < t.mgt.fusedMin ∧ (after (.updateClose 0 (some fw0) none) t).nvm.upd.result = 2) ∧
    (after (.updateClose 8 none (some base0)) (updating 1 id)).nvm.active.map (·.baseSlot) = some 1 ∧
    (updating 0 fun u => { u with programmed := 0 }).nvm.upd.programmed < (updating 0 id).fld F.nvmUpdLen_bytes ∧
    (after .updateAbort (updating 0 id)).nvm.upd.result = 6 ∧
    (after .updateAbort (updating 0 fun u => { u with busy := true })).nvm.upd.abortWaiting = true) :=
  ⟨serving_of (by decide), serving_of (by decide), by decide⟩

/-! ### Host link and functions -/

/-- The host link changed. -/
def linked (s : State) (f : HostLink → HostLink) : State := { s with hif := f s.hif }

/-- The link up at full rate with power management permitted. -/
def link64 : State := linked (rings wq0 nr0) fun h => { h with rate := 7, width := 16, flit := true, l0pWidth := 16, aspm := true }

/-- A fetch of 64 bytes for WQ 0, 8 bytes of it come. -/
def read0 : ReadSt := { fn := 0, item := .fetch 0, len := 64, need := 64, got := 8, idx := 0, issued := 9 * secStamp, due := 9 * secStamp + 50 * msStamp, page := some 16 }

/-- That read outstanding with tag 5, overdue or in time, or quarantined. -/
def reading : State := linked link64 fun h => { h with reads := Table.empty.set 5 read0 }
def inTime : State := linked link64 fun h => { h with reads := Table.empty.set 5 { read0 with due := 10 * secStamp + 1 } }
def quarantined : State := linked link64 fun h => { h with quarantined := Table.empty.set 5 read0 }

/-- The link down. -/
def unlinked : State := linked up fun h => { h with dlUp := false }

theorem wit_LinkAndReads : Live unlinked ∧ Serving unlinked ∧ Serving link64 ∧ Serving reading ∧ Serving inTime ∧ (unlinked.hif.dlUp = false ∧
    (after (.hostLinkUp 7 16 true) unlinked).hif.dlUp = true ∧ (after (.hostLinkUp 7 16 false) unlinked).hif.dlUp = false ∧
    (after .hostLinkDown link64).hif.dlUp = false ∧ (0 : Nat) ∉ link64.hif.enabledVfs ∧ ((after .hostLinkDown link64).fn 0).gen = 1 ∧
    (after .perst link64).hif.ready = false ∧ (after (.hostLinkError .internalError) link64).evr.fatal = true ∧
    (after (.hostLinkError .ecrc) link64).hif.dlUp = false ∧ link64.qm.wqs.get? 0 = some wq0 ∧ wq0.state = .active ∧
    ((after (.hostLinkError (.poisonedData 5)) inTime).qm.wqs.get? 0).map (·.errStatus) = some stInternalError ∧
    link64.hif.reads.get? 5 = none ∧ link64.hif.quarantined.get? 5 = none ∧ quarantined.hif.reads.get? 5 = none ∧
    quarantined.hif.quarantined.get? 5 = some read0 ∧ (∀ d ∈ quarantined.hif.starting, d.left = []) ∧ read0.len ≤ read0.got + 56 ∧ read0.got + 55 < read0.len ∧
    (after (.readCompletion 5 56 false) quarantined).hif.quarantined = .empty ∧ reading.hif.reads.get? 5 = some read0 ∧ read0.due ≤ reading.now ∧
    inTime.hif.reads.get? 5 = some { read0 with due := 10 * secStamp + 1 } ∧ inTime.now < 10 * secStamp + 1 ∧ read0.need ≠ 0 ∧
    (after (.readCompletion 5 56 false) reading).hif.lastTimeout = some (0, 5, true) ∧
    ((after (.readCompletion 5 56 false) inTime).qm.wqs.get? 0).map (·.fetched) = some 1 ∧
    ((after (.readCompletion 5 56 true) inTime).qm.wqs.get? 0).map (·.state) = some .error ∧
    True) ∧ (link64.hif.l1 = false ∧ link64.hif.idleSince + link64.fld F.hifPmCfg_l1IdleUs * usStamp ≤ link64.now ∧ link64.hif.reads.size = 0 ∧
    link64.tm.queues.entries = [] ∧ link64.ledgerWaits = false ∧ (after .l1Entry link64).out = [.l1Request] ∧
    link64.hostCopies = false ∧ link64.hostWaits = false ∧ link64.hif.aspm = true ∧ link64.hif.widthAt + 100 * usStamp ≤ link64.now ∧ link64.fld F.hifPmCfg_l0pEn ≠ 1 ∧ 2 ≤ link64.hif.l0pWidth ∧
    (let s := (link64.setFld F.hifPmCfg_l0pEn 1).setFld F.hifPmCfg_l0pLowPct 20;
      s.fld F.hifPmCfg_l0pEn = 1 ∧ s.fld F.hifPmCfg_l0pLowPct = 20 ∧ (after (.l0pWidthChange 19) s).hif.l0pWidth = 8 ∧
      (after (.l0pWidthChange 20) s).hif.l0pWidth = 16) ∧
    (let s := linked hostCopy fun h => { h with width := 16, l0pWidth := 8 };
      s.hostWaits = true ∧ s.hif.dlUp = true ∧ s.hif.width ≠ s.hif.l0pWidth ∧ (after (.l0pWidthChange 0) s).hif.l0pWidth = 16) ∧
    ((after (.hostLinkError (.correctable .replayTimeout)) link64).fn 0).aerCor = 2 ^ corrBit .replayTimeout ∧
    (after (.completionTimeout 0 5) reading).hif.quarantined.get? 5 = some read0 ∧
    read0.issued + 2 * (read0.due - read0.issued) ≤ quarantined.now ∧ (after (.tagQuarantineExpiry 5) quarantined).hif.quarantined = .empty) :=
  ⟨live_of (by decide), serving_of (by decide), serving_of (by decide), serving_of (by decide), serving_of (by decide), by decide, by decide⟩

/-- Capabilities: PCI Express at 0x40, SR-IOV at 0x160, VFs at every routing ID, ATS permitted. -/
def capsVf : CapTable :=
  ⟨[(.pcie, false, 0x40), (.sriov, false, 0x160)], 8, 0, 1, 1, 0, true, true, false, true⟩

/-- The device with that table, and VFs 1 and 2 where VF Enable is set. -/
def capable (on : Bool) : State :=
  linked { upVf with nvm := based.nvm } fun h =>
    { h with caps := some capsVf, vfEnable := on, numVfs := if on then 2 else 0, enabledVfs := if on then [1, 2] else [] }

/-- ATS enabled. -/
def atsOn : State := reading.modFn 0 fun f => { f with atsEnable := true }

/-- A device whose link is not ready. -/
def unready : State := linked (capable false) fun h => { h with ready := false, releasedAt := 0 }

theorem wit_ConfigAndFunctions : Serving unlinked ∧ Serving unready ∧ Serving (capable false) ∧ Serving (capable true) ∧ Serving atsOn ∧
    (unready.hif.dlUp = true ∧ unready.hif.ready = false ∧ (after (.configRequest 0 0 none) unready).out = [.retryStatus 0] ∧
    (capable false).hif.ready = true ∧ (3 : Nat) ∉ (capable true).hif.enabledVfs ∧ (1 : Nat) ∈ (capable true).hif.enabledVfs ∧
    (after (.configRequest 1 0 none) (capable true)).out = [.config 1 0 0x96411E6B] ∧
    (capable true).hif.caps = some capsVf ∧ (capable true).configRead 0 0x2C = 0 ∧ (capable true).configRead 0 0x16C = 0x10001000 ∧
    ((after (.configRequest 0 4 (some 6)) (capable true)).fn 0).busMaster = true ∧
    (capable true).capAt 0 0x48 .pcie 8 = true ∧ ((after (.configRequest 0 0x48 (some 0)) (capable true)).fn 0).roEnable = false ∧
    (capable true).capAt 0 0x168 .sriov 8 = true ∧
    (∀ e ∈ [(CapKind.pcie, 8), (.pcie, 0x10), (.pcie, 0x28), (.pm, 4), (.msix, 0), (.ats, 4), (.tph, 8)],
      (capable true).capAt 0 0x168 e.1 e.2 = false) ∧
    (capable true).hif.vfEnable = true ∧ (after (.configRequest 0 0x168 (some 0)) (capable true)).hif.enabledVfs = [] ∧
    True) ∧ (unready.nvm.base = some base0 ∧ unready.mgt.stage ≠ .recovery ∧ (after .capabilityTableApply unready).hif.caps = some caps0 ∧
    unready.hif.releasedAt + 900 * msStamp ≤ unready.now ∧ (after .fallbackTableApply unready).hif.fallback = true ∧
    (capable false).now < 10 * secStamp + 900 * msStamp ∧ (capable false).hif.caps = some capsVf ∧ capsVf.sriov = true ∧
    (capable false).hif.vfEnable = false ∧ (capable false).hif.dlUp = true ∧ (capable false).hif.numVfs ≤ 4096 ∧
    (let s := linked (capable false) fun h => { h with numVfs := 9 };
      (after (.vfEnable false true) s).hif.enabledVfs.length = 7 ∧ (after (.vfEnable true true) s).hif.enabledVfs.length = 9) ∧
    4096 < (linked (capable false) fun h => { h with numVfs := 4097 }).hif.numVfs ∧
    (0 : Nat) ∉ (capable true).hif.enabledVfs ∧ ((capable true).fn 0).resetting = false ∧
    (0x8000 : Word).toNat.testBit 15 = true ∧ ((after (.configRequest 0 0x48 (some 0x8000)) (capable true)).fn 0).gen = 1 ∧
    (∃ r ∈ reading.hif.reads.values, r.fn = 0 ∧ r.page = some 16) ∧ (∀ r ∈ reading.hif.reads.values, r.fn ≠ 0 ∨ r.page ≠ some 17) ∧
    (after (.atsInvalidate 0 16) atsOn).hif.atsPending = [(0, 16)] ∧ (after (.atsInvalidate 0 17) atsOn).out = [.atsInvalidateDone 0 17] ∧
    (atsOn.fn 0).atsEnable = true ∧ (reading.fn 0).atsEnable = false ∧ atsOn.qm.wqs.get? 0 = some wq0 ∧
    (after (.atsTranslationCompletion 0 3 true (.fetch 0)) atsOn).hif.atc = [(0, 3)] ∧
    ((after (.atsTranslationCompletion 0 3 false (.fetch 0)) atsOn).qm.wqs.get? 0).map (·.errStatus) = some stNotPermitted ∧
    ((capable true).fn 1).resetting = false ∧ ((after (.vfFlr 1) (capable true)).fn 1).gen = 1 ∧
    (after .pfFlr (capable true)).hif.enabledVfs = [] ∧ (0 : Nat) ∉ (capable true).hif.enabledVfs) :=
  ⟨serving_of (by decide), serving_of (by decide), serving_of (by decide), serving_of (by decide), serving_of (by decide), by decide,
    by decide⟩

/-! ### Management, errors, service -/

/-- Mailbox channel 3 between two agents. -/
def box (snd rcv : Nat) (full : Bool) : State :=
  { up with mgt := { up.mgt with mbx := Table.empty.set 3 ⟨snd, rcv, 1, [], full, none, false⟩ } }

/-- That mailbox, emptied in this clock cycle. -/
def emptied : State :=
  { up with mgt := { up.mgt with mbx := Table.empty.set 3 ⟨2, 1, 1, [], false, some (10 * secStamp), false⟩ } }

/-- What the sensors read. -/
def sens : Sensors := ⟨[], [], [], 100⟩

theorem wit_MailboxesAndTelemetry : Serving (box 1 2 false) ∧ Serving (box 2 1 true) ∧ ((box 1 2 false).mbx 3 = some ⟨1, 2, 1, [], false, none, false⟩ ∧
    (match emptied.mbx 3 with | some m => decide (m.sender = idBmc ∧ m.full = false) && m.fullAt emptied.now | none => false) = true ∧
    ((after (.mbxRing 2 3) emptied).mbx 3).map (·.overrun) = some true ∧
    (match (box 2 1 false).mbx 3 with | some m => !m.fullAt up.now | none => false) = true ∧
    up.mbx 3 = none ∧ ((after (.mbxRing 1 3) (box 1 2 false)).mbx 3).map (·.full) = some true ∧
    ((after (.mbxRing 1 3) (box 1 2 true)).mbx 3).map (·.overrun) = some true ∧
    ((after (.mbxData15Read 1 3) (box 2 1 true)).mbx 3).map (·.full) = some false ∧ (2 : Nat) ≠ idHost ∧
    ((after (.mbxSend 3 (List.replicate 16 5)) (box 2 1 false)).mbx 3).map (·.full) = some true ∧
    ((after (.mbxDeliverSent 3) (box 1 2 true)).mbx 3).map (·.full) = some false ∧ (0x10 : Nat) ≤ 0x11 ∧
    (after (.mbxRing 1 3) (box 1 0x11 false)).out.getLast? = some (.wake 0x11 3) ∧
    up.mgt.stage ≠ .rom ∧ up.tel.ring = [] ∧ (after (.telemetryRecord sens) up).tel.ring.length = 1 ∧
    (after (.telemetryRecord sens) (after (.telemetryRecord sens) up)).tel.ring.length = 1 ∧
    (after (.telSelect 0) (after (.telemetryRecord sens) up)).tel.sel.isSome = true) :=
  ⟨serving_of (by decide), serving_of (by decide), by decide⟩

/-- SPDM over DOE with a negotiation progress, and over MCTP. -/
def spdm (n : Nat) : State := { capable false with mgt := { up.mgt with spdmDoe := ⟨n⟩, spdmMctp := ⟨n⟩ } }

theorem wit_ManagementEndpoint : Live (spdm 3) ∧ (spdm 3).mgt.stage ≠ .rom ∧ (spdm 3).spdmOpen true ∧
    (spdm 0).spdmOpen false ∧ ¬ up.spdmOpen true ∧ Live { up with mgt := { up.mgt with stage := .rom } } ∧
    (ofManagement (.getTid) = true ∧ (spdm 3).spdmOf true = 3 ∧ (spdm 0).spdmOf false < 1 ∧ (after (.setEndpointId 0 8) up).mgt.eid = some 8 ∧
    (after (.setEndpointId 0 255) up).mgt.eid = none ∧ sensorValue up.tel.sensors 64 = some 0 ∧ sensorValue up.tel.sensors 17 = none ∧
    (after (.getVersion false) (spdm 3)).spdmOf false = 1 ∧ (after (.negotiateAlgorithms true true true) (spdm 2)).spdmOf true = 3 ∧
    (let s : State := { up with mgt := { up.mgt with receiver := some 9, unacked := [(64, 9 * secStamp)] } };
      s.mgt.receiver.isSome = true ∧ (64, 9 * secStamp) ∈ s.mgt.unacked ∧ 9 * secStamp + secStamp ≤ s.now ∧
      (after (.pldmEventRepeat 64) s).out.length = 1 ∧ (after (.pldmEventAck 64) s).mgt.unacked = [])) := by
  refine ⟨live_of (by decide), by decide, ?_, ?_, ?_, live_of (by decide), by decide⟩
  · exact fun _ => ⟨rfl, rfl, rfl, capsVf, rfl, rfl⟩
  · intro h; cases h
  · intro h
    obtain ⟨_, _, _, c, h1, _⟩ := h rfl
    cases h1

/-- An error of a class, with no unit and no item. -/
def err (cls : Nat) : ErrArgs := ⟨cls, 3, none, .none, false⟩

/-- Port 0 in service, its link down, with its error record open. -/
def struck : State :=
  let s := noLink
  { s with evr := { s.evr with records := [⟨1, 3, some (refKey (.port, 0, 0)), .none, false⟩] } }

/-- An entry of the recorder. -/
def entry : EvEntry := ⟨1, 9 * secStamp, 0x1001, 2, 0, 0, 0, 0, false, false, false, []⟩

/-- The recorder changed. -/
def recorder (f : Recorder → Recorder) : State := { up with evr := f { up.evr with flashOk := true } }

/-- A clear token for everything up to entry 5. -/
def token : ClearToken := ⟨0x4556434C, 1, 0, 0, 0, 5, 7, true⟩

theorem wit_ErrorsAndRecorder : Serving up ∧ Serving struck ∧ Serving (recorder fun e => { e with ring := [entry] }) ∧
    PfStarts pf (recorder fun e => { e with ring := [entry], clearKeys := [7] }) ∧
    (unitOf ⟨none, 0, 0⟩ = none ∧ unitOf ⟨some .signer, 0, 3⟩ = none ∧ (after (.errorDetected (err 0)) up).tel.sramCe = 1 ∧
    (after (.errorDetected (err 1)) up).evr.records.length = 1 ∧ (after (.errorDetected (err 2)) up).evr.fatal = true ∧
    unitOf ⟨some .port, 0, 0⟩ = some (.port, 0, 0) ∧ struck.recordOpen (.port, 0, 0) = true ∧ struck.evr.records.length < 64 ∧
    (struck.unit .port 0 0).state = .inService ∧ (struck.port 0).link = false ∧
    ((after (.errorDetected ⟨1, 3, some ⟨some .port, 0, 0⟩, .none, false⟩) struck).unit .port 0 0).reason = 3 ∧
    (after .errorRecordClose struck).evr.records = [] ∧ (after (.patrolRead (.fdb 0 0) true) up).tel.sramCe +
      (after (.patrolRead (.fdb 0 0) true) up).tel.hbmCe = 1 ∧
    (let s := up.modTabs 0 fun t => { t with fdb := t.fdb.set 7 other };
      (s.tabs 0).fdb.has 7 = true ∧ ((after (.patrolRead (.fdb 0 7) false) s).tabs 0).fdb.has 7 = false) ∧
    (withCtx (ctx 1)).eng.ctxs.get? 0 = some (ctx 1) ∧
    ((after (.patrolRead (.context 0) false) (withCtx (ctx 1))).eng.ctxs.get? 0).map (·.state) = some .expired ∧
    (let s := recorder fun e => { e with ring := [entry] };
      s.evr.ring.find? (·.seq = 1) = some entry ∧ s.flashUp ≠ [] ∧ s.evr.flashOk = true ∧ (after (.eventPersist 1) s).evr.region.length = 1) ∧
    (let s := recorder fun e => { e with spent := Table.empty.set 0x1001 2, cfg := [⟨0x1001, 5, 1000, []⟩] };
      s.evr.spent.wf = true ∧ s.refilledAt 0x1001 + 1000 * msStamp ≤ s.now ∧
      (after (.eventBucketRefill 0x1001) s).evr.spent.getD 0x1001 0 = 1 ∧
      (after (.eventBucketRefill 0x1001) (after (.eventBucketRefill 0x1001) s)).evr.spent.getD 0x1001 0 = 1 ∧
      (after (.eventBucketRefill 0x1002) s).evr.spent.getD 0x1001 0 = 2) ∧
    up.fld F.evrCtrl_src = 0 ∧ (up.setFld F.evrCtrl_src 1).fld F.evrCtrl_src = 1 ∧ (after (.evrSelectOnDie 5) up).evr.selSeq = 5 ∧
    (after (.evrSelectRegion 5) (up.setFld F.evrCtrl_src 1)).evr.selBusy = true ∧
    (let s := recorder fun e => { e with selBusy := true, selSeq := 1, region := [entry] };
      (after .evrCopyComplete s).evr.copy = some entry) ∧
    (after .alertAck (recorder fun e => { e with alert := true })).evr.alert = false ∧
    (let s := recorder fun e => { e with ring := [entry], clearKeys := [7] };
      token.keyId ∈ s.evr.clearKeys ∧ token.serial = s.mgt.serial ∧ token.nonce = s.evr.nonce ∧ s.evr.ring.length < 8192 ∧
      s.evr.stopped = false ∧ s.evr.spent.wf = true ∧ (∀ c ∈ s.evr.cfg, 0 < c.burst) ∧
      (after (.eventClear pf 128 token) s).evr.ring.map (·.code) = [0xB015] ∧
      (after (.eventClear pf 128 { token with sigOk := false }) s).evr.ring.map (·.code) = [0x1001])) :=
  ⟨serving_of (by decide), serving_of (by decide), serving_of (by decide), pf_of (by decide), by decide⟩

/-- A unit in a state. -/
def unitIn (k : UnitKind) (n : Nat) (x : Service) : State := up.setUnit k 0 n { UnitSt.init with state := x }

theorem wit_ServiceStates : PfStarts pf up ∧ PfStarts pf (unitIn .signer 0 .outOfService) ∧ PfStarts pf (unitIn .signer 0 .testing) ∧
    PfStarts pf noLink ∧ Serving (unitIn .signer 0 .draining) ∧ Serving (unitIn .slice 0 .rejoining) ∧
    (up.serviceUnit ⟨some .port, 0, 0⟩ = none ∧ up.serviceUnit ⟨some .signer, 0, 0⟩ = some (.signer, 0, 0) ∧
    (up.unit .signer 0 0).state = .inService ∧ up.lastOfPair (.signer, 0, 0) = false ∧
    (unitIn .builderSide 1 .outOfService).lastOfPair (.builderSide, 0, 0) = true ∧
    ((after (.serviceStateTakeOut pf ⟨some .sm3Engine, 0, 0⟩) up).unit .sm3Engine 0 0).reason = 1 ∧
    (∃ p ∈ noLink.portList, sliceOf p = 0 ∧ (noLink.unit .port 0 p).state ≠ .outOfService) ∧ up.portList = [] ∧
    ((after (.serviceStateTakeOut pf ⟨some .slice, 0, 0⟩) up).unit .slice 0 0).state = .outOfService ∧
    ((after (.serviceStateReturn pf ⟨some .signer, 0, 0⟩) (unitIn .signer 0 .outOfService)).unit .signer 0 0).state = .testing ∧
    (let s := noLink.setUnit .port 0 0 { UnitSt.init with state := .outOfService };
      s.adminReady pf = true ∧ s.serviceUnit ⟨some .port, 0, 0⟩ = some (.port, 0, 0) ∧ s.up .slice 0 0 = true ∧ s.modeFits 0 = true ∧
      s.fld (F.portCtrl_test 0) = 0 ∧ ((after (.serviceStateReturn pf ⟨some .port, 0, 0⟩) s).unit .port 0 0).state = .rejoining ∧
      ((after (.serviceStateReturn pf ⟨some .port, 0, 0⟩) (s.setFld (F.portCtrl_test 0) 1)).unit .port 0 0).state = .testing ∧
      (s.setFld (F.portMode_width 0) 7).modeFits 0 = false ∧
      (s.setUnit .slice 0 0 { UnitSt.init with state := .outOfService }).up .slice 0 0 = false) ∧
    (unitIn .signer 0 .draining).holdsWork (.signer, 0, 0) = false ∧ (unitIn .signer 0 .draining).roleGone (.signer, 0, 0) = true ∧
    (ledger (unitIn .signer 0 .draining) fun l => { l with headers := [hdr0] }).holdsWork (.signer, 0, 0) = true ∧
    ((after (.unitDrainComplete ⟨some .signer, 0, 0⟩) (unitIn .signer 0 .draining)).unit .signer 0 0).state = .outOfService ∧
    ((after (.selfTestComplete ⟨some .signer, 0, 0⟩ true) (unitIn .signer 0 .testing)).unit .signer 0 0).state = .rejoining ∧
    ((after (.selfTestComplete ⟨some .signer, 0, 0⟩ false) (unitIn .signer 0 .testing)).unit .signer 0 0).reason = 4 ∧
    (let s := ((unitIn .slice 0 .testing).setFld (F.fdbTcamRegion_base 0 0) 32767).setFld (F.fdbTcamRegion_size 0 0) 2;
      s.badRegion 0 ≠ none ∧ (unitIn .slice 0 .testing).badRegion 0 = none ∧
      ((after (.selfTestComplete ⟨some .slice, 0, 0⟩ true) (unitIn .slice 0 .testing)).unit .slice 0 0).state = .rejoining ∧ ((after (.selfTestComplete ⟨some .slice, 0, 0⟩ true) s).unit .slice 0 0).state = .outOfService) ∧
    (unitIn .slice 0 .rejoining).coh.phase ≠ .armed ∧ (unitIn .slice 0 .rejoining).coh.draining = [] ∧
    ((after (.unitFenceReached ⟨some .slice, 0, 0⟩) (unitIn .slice 0 .rejoining)).unit .slice 0 0).state = .inService ∧
    (let s := ledger (unitIn .signer 0 .rejoining) fun l => { l with cur := some ream1 };
      s.ream ≠ (s.unit .signer 0 0).fence ∧ 0 < kindSpare .signer ∧
      ((after (.unitFenceReached ⟨some .signer, 0, 0⟩) s).unit .signer 0 0).state = .inService) ∧
    (let s := noLink.setUnit .port 0 0 { UnitSt.init with state := .rejoining };
      s.modeFits 0 = true ∧ ((after (.unitFenceReached ⟨some .port, 0, 0⟩) s).unit .port 0 0).state = .inService)) :=
  ⟨pf_of (by decide), pf_of (by decide), pf_of (by decide), pf_of (by decide), serving_of (by decide), serving_of (by decide), by decide⟩

/-- Parse lane 0 of slice 0 under test, beside lanes that take all four roles, or three of them while a commit is armed. -/
def laneIn : State := (unitIn .parseLane 0 .testing).modSlice 0 fun x => { x with roles := [1, 2, 3, 4] }
def laneShort : State :=
  let s := laneIn.modSlice 0 fun x => { x with roles := [1, 2, 3, 7] }
  { s with coh := { s.coh with phase := .armed } }

theorem wit_ServiceUnits : Serving laneIn ∧ Serving laneShort ∧ PfStarts pf (unitIn .slice 0 .inService) ∧
    ((laneIn.unit .parseLane 0 0).state = .testing ∧ (laneIn.slice 0).rejoin.has 0 = false ∧ 4 ≤ (laneIn.slice 0).active ∧
    (∀ l ∈ (laneIn.slice 0).lanes, (laneIn.unit .parseLane 0 l).role = none) ∧
    ((after (.selfTestComplete ⟨some .parseLane, 0, 0⟩ true) laneIn).unit .parseLane 0 0).reason = 6 ∧
    (laneShort.slice 0).active < 4 ∧ laneShort.coh.phase = .armed ∧
    ((after (.selfTestComplete ⟨some .parseLane, 0, 0⟩ true) laneShort).unit .parseLane 0 0).state = .rejoining ∧
    (∀ p ∈ (unitIn .slice 0 .inService).portList, sliceOf p = 0 → ((unitIn .slice 0 .inService).unit .port 0 p).state = .outOfService) ∧
    up.serviceUnit ⟨some .flash, 0, 0⟩ = some (.flash, 0, 0) ∧
    (let s := (noLink.setFld (F.portMode_width 0) 7).setUnit .port 0 0 { UnitSt.init with state := .rejoining };
      s.modeFits 0 = false ∧ (s.unit .port 0 0).state = .rejoining) ∧
    (let s : State := { unitIn .slice 0 .rejoining with coh := { (unitIn .slice 0 .rejoining).coh with phase := .armed } };
      s.coh.phase = .armed ∧ ((after (.unitFenceReached ⟨some .slice, 0, 0⟩) s).unit .slice 0 0).state = .rejoining)) :=
  ⟨serving_of (by decide), serving_of (by decide), pf_of (by decide), by decide⟩

/-! ### Clocks, resets and registers -/

/-- Island 3 in a state. -/
def clocked (x : IslandSt) : State := { up with clk := { up.clk with islands := Table.empty.set 3 x, tableApplied := true, xtalRunning := true } }

/-- On PLL A with both locked, and switching to PLL B. -/
def onA : IslandSt := { IslandSt.init with lockA := true, lockB := true }
def toB : IslandSt := { onA with switching := true, hw := true, target := true, since := 9 * secStamp }

/-- Voltage commanding available at a voltage. -/
def volts (mv fails : Nat) : State :=
  let s := clocked onA
  { s with pwr := { s.pwr with mv := mv, avsOk := true, avsFails := fails } }

theorem wit_ClocksPowerAndTest : Live (clocked onA) ∧ Live (clocked toB) ∧ Live (volts 795 2) ∧ Serving (clocked onA) ∧
    ((clocked onA).island 3 = onA ∧ onA.switching = false ∧ onA.safe = false ∧ onA.selB = false ∧
    ((after (.pllLossOfLock 3 false) (clocked onA)).island 3).switching = true ∧
    ((after (.clockActivityLost 3) (clocked onA)).island 3).lossOfEdges = true ∧ pllLocked onA true = true ∧
    pllLocked { onA with lockB := false } true = false ∧
    ((after (.pllRelocked 3 true) (clocked { IslandSt.init with safe := true })).island 3).switching = true ∧
    toB.lossOfEdges = false ∧ toB.toSafe = false ∧ ((after (.clockSwitchComplete 3) (clocked toB)).island 3).selB = true ∧
    toB.since + 480 * nsStamp ≤ (clocked toB).now ∧ ((after (.switchWatchdog 3) (clocked toB)).island 3).forced = true ∧
    (clocked { toB with since := 10 * secStamp }).now < 10 * secStamp + 480 * nsStamp ∧
    (let x : IslandSt := { toB with toSafe := true, lockA := false, lockB := false };
      x.standby = none ∧ ((after (.clockSwitchComplete 3) (clocked x)).island 3).safe = true) ∧
    (let x : IslandSt := { toB with toSafe := true, lockA := false, standby := some true };
      x.standby = some true ∧ ((after (.clockSwitchComplete 3) (clocked x)).island 3).target = true) ∧
    (clocked onA).mgt.oscRunning = true ∧ (after .crystalLost (clocked onA)).clk.onRing = true ∧
    (let s : State := { up with clk := { up.clk with xtalRunning := false } }; (after .crystalRestored s).clk.xtalRunning = true) ∧
    up.frefOk 0 = false ∧ (after (.frefQualified 0) up).frefOk 0 = true ∧
    ((after (.frefDisqualified 0) (after (.frefQualified 0) up)).frefOk 0) = false ∧
    (volts 795 0).clk.tableApplied = true ∧ (volts 795 0).pwr.minMv ≤ 795 + 5 ∧ (after (.avsMarginAlarm true) (volts 795 0)).pwr.mv = 800 ∧
    (after (.avsMarginAlarm true) (volts 800 0)).pwr.mv = 800 ∧ (after (.avsAdjust false true true) (volts 685 0)).pwr.mv = 680 ∧
    (after (.avsAdjust false true true) (volts 680 0)).pwr.mv = 680 ∧ (after (.avsMarginAlarm false) (volts 795 2)).pwr.avsOk = false ∧
    (after (.avsRetry true) (clocked onA)).pwr.avsOk = true ∧ (after (.thermalThrottle 16 1888) up).pwr.throttled = true ∧
    (after (.thermalThrottle 16 1887) up).pwr.throttled = false ∧ (after (.thermalTrip 1 2080) up).pwr.tripped = true ∧
    (after .throttleEnd { up with pwr := { up.pwr with throttled := true } }).pwr.throttled = false ∧
    ((after (.clockSelRequest 3 true) (clocked onA)).island 3).target = true ∧
    ((after (.clockSelRequest 3 true) (clocked { onA with lockB := false })).island 3).switching = false ∧
    (toB.switching = true ∧ toB.hw = true) ∧ (after .extest State.reset).assured = false ∧
    (after (.bypass 0xFF) State.reset).tap.ir = .bypass) :=
  ⟨live_of (by decide), live_of (by decide), live_of (by decide), serving_of (by decide), by decide⟩

/-- After the release of PWRON_RST_N, with the oscillator running. -/
def booting (st : BootStage) (f : State → State) : State :=
  f { State.reset with
    rst := { ResetSt.init with held := false }, mgt := { Mgmt.init with stage := st, released := true, oscRunning := true } }

/-- Firmware runs, the time base does not. -/
def replaying (st : BootStage) : State := booting st fun s => { s with mgt := { s.mgt with fwRuns := true } }

/-- The same with a checkpoint in flash device 0. -/
def replaying0 (mirror : Bool) : State :=
  let s := replaying .recovery
  { s with ldg := { s.ldg with ckpt0 := [ckpt0.bytes] }, nvm := { s.nvm with mirror := mirror } }

/-- A warm reset requested. -/
def warming (at_ : Option Stamp) : State := { up with rst := { up.rst with warmAt := at_ } }

theorem ckpt0_read : Ckpt.ofBytes ckpt0.bytes = some ckpt0 := by decide +kernel

theorem wit_BootCheckpoint : (replaying0 true).bootCkpt [0, 1] = some ckpt0 ∧ (replaying0 false).bootCkpt [0] = some ckpt0 ∧
    (after (.storeReplay true true true true true) (replaying0 true)).ldg.newestCkpt.map (·.reserved) = some 131072 ∧
    (after (.storeReplay true true false true true) (replaying0 false)).evr.fatal = true := by decide +kernel

theorem wit_ResetAndBoot : Live up ∧ Live (warming (some (9 * secStamp))) ∧ Serving (booting .rom id) ∧ Serving (replaying .recovery) ∧
    Serving (replaying0 true) ∧ Serving (booting .units id) ∧ (up.nvm.writing = [] ∧ up.ldg.ckptWriting = none ∧
    (after (.powerOnReset true) up).rst.held = true ∧ State.reset.rst.held = true ∧ up.rst.held = false ∧
    (after (.pwronResetRelease 0x20) State.reset).nvm.mirror = true ∧
    ((after (.pwronResetRelease 0) State.reset).unit .flash 0 1).state = .outOfService ∧
    (let s := booting .rom fun s => { s with mgt := { s.mgt with oscRunning := false } };
      s.mgt.released = true ∧ (after .oscWaitElapsed s).mgt.oscRunning = true) ∧
    (after (.warmResetRequest 0x15741) up).rst.warmAt = some (10 * secStamp + 10 * usStamp) ∧
    (after (.warmResetRequest 0x15742) up).rst.warmAt = none ∧ (9 * secStamp ≤ (warming (some (9 * secStamp))).now) ∧
    (warming (some (11 * secStamp))).now < 11 * secStamp ∧ (after .warmReset (warming (some (9 * secStamp)))).rst.warmCount = 1 ∧
    (booting .rom id).nvm.sb0 = [] ∧ (booting .rom id).nvm.sb1 = [] ∧ (booting .rom id).nvm.fw = Table.empty ∧ (booting .rom id).fwValid fw0 = true ∧
    (booting .rom id).mgt.oscRunning = true ∧ (booting .rom id).mgt.stage = .rom ∧
    (let s := booting .rom fun s => { s with nvm := { s.nvm with mirror := true } };
      s.nvm.mirror = true ∧ s.nvm.sb0 = [] ∧ s.nvm.sb1 = [] ∧ s.nvm.fw = Table.empty ∧ s.fwValid fw0 = true) ∧
    (replaying .recovery).ldg.ckpt0 = [] ∧ (replaying .recovery).ldg.ckpt1 = [] ∧ (replaying .recovery).mrg = Deckle.init ∧
    (replaying .recovery).rel = Release.init ∧ (replaying .clocks).chooseBase = none ∧
    (after (.storeReplay true true true true true) (replaying .recovery)).tb.running = true ∧
    (let s := replaying .clocks; let t : State := { s with nvm := { s.nvm with found := [sb0], bases := Table.empty.set 0 base0 } };
      t.chooseBase = some (sb0, base0)) ∧
    (replaying .recovery).bootCkpt [0, 1] = none ∧ (replaying0 true).up .flash 0 0 = true ∧
    (booting .units id).bootPorts.all (booting .units id).portSettled = true ∧
    (let s : State := { port (booting .units id) 0 with regs := { (booting .units id).regs with store := Table.empty.set (Reg.portMode 0) 1 } };
      s.bootPorts.all (s.modPort 0 fun x => { x with link := false }).portSettled = false) ∧
    (after .bootServiceReached (booting .units id)).mgt.stage = .service) :=
  ⟨live_of (by decide), live_of (by decide), serving_of (by decide), serving_of (by decide), serving_of (by decide), serving_of (by decide),
    by decide⟩

theorem wit_UndecodedAccess : Live up ∧ up.hif.dlUp = true ∧ up.fnDecodes 0 = true ∧ up.evr.fatal = false ∧
    ((windowOf 0x1000FFC = none ∧ decoded 0x1000FFC = false) ∧ (windowOf 0x17FFFFC).isSome = true ∧
    ((windowOf 0x17FFFFC).map fun x => decoded (x.addr 0)) = some false ∧ (windowOf (Reg.portMode 0) = none ∧ decoded (Reg.portMode 0) = true) ∧
    ((windowOf (Reg.portMode 0 + 0x7F0000)).map fun x => decoded (x.addr 0)) = some true ∧
    (after (.undecodedAccess ⟨.bar0, 0x1000FFC⟩ false) up).out.getLast? = some (.readData 0x1000FFC 0) ∧
    (after (.undecodedAccess ⟨(.doorbell 0), 0x1000⟩ false) up).out = [.readData 0x1000 0]) :=
  ⟨live_of (by decide), by decide⟩

/-- Port windows: of all ports, and of group 0, which is empty. -/
def allPorts : Nat := Reg.portMode 0 + 0x7F0000
def group0 : Nat := Reg.portMode 0 + 0x700000

theorem wit_RegisterAccess : Live unlinked ∧ Live up ∧ Live (port up 0) ∧ (unlinked.hif.dlUp = false ∧ unlinked.evr.fatal = false ∧
    (let s := up.modFn 0 fun f => { f with memEnable := false }; s.hif.dlUp = true ∧ s.fnDecodes 0 = false) ∧
    up.hif.dlUp = true ∧ up.fnDecodes 0 = true ∧ 5 % 4 + 2 < 4 ∧ (port up 0).configured 0 = true ∧ (port up 0).regs.cells.wf = true ∧
    64 ≤ 9000 % 2 ^ 14 ∧ (after (.registerWrite (F.portMacCfg_maxFrame 0).addr 4 9000) (port up 0)).fld (F.portMacCfg_maxFrame 0) = 9000 ∧
    up.configured 0 = false ∧ (port up 0).up .port 0 0 = true ∧
    (after (.registerWrite (Reg.portMode 0) 4 3) (port up 0)).fld (F.portMode_width 0) = 1 ∧
    ((after (.registerWrite 0x2000510 4 77) up).regs.shadow.get? 0x2000510) = some 77 ∧
    windowOf 0x1000FFC = none ∧ decoded 0x1000FFC = false ∧ ((windowOf group0).map up.members) = some [] ∧
    ((windowOf allPorts).map fun x => ((port up 0).members x).length) = some 96 ∧ allPorts % 4 = 0 ∧
    ((windowOf allPorts).map fun x => decoded (x.addr 0)) = some true ∧
    (after (.broadcastRead allPorts) up).out.length = 1 ∧ (after (.broadcastRead allPorts) (port up 0)).fld F.glbBcastStatus_mismatch = 1 ∧
    ((findCtr ctrTable (C.portTxFrames 0)).map (·.perPort)) = some true ∧ up.answers true [0] = false ∧ lineCounter C.qmOverpost = false ∧
    (after (.bar0BadLengthRead (Reg.tbTimeSecH) 2) up).out.head? = some (.completerAbort Reg.tbTimeSecH) ∧
    2 ≤ (after (.bar0BadLengthRead 0 8) up).out.length ∧ (after (.counterLoRead ⟨C.qmOverpost, true⟩) up).out.length = 2 ∧
    findCtr ctrTable 5 = none ∧ ((findCtr ctrTable C.qmOverpost).map (·.perPort)) = some false ∧ C.qmOverpost ≠ C.hifTxOctets ∧
    (after (.counterLoRead ⟨C.qmOverpost, false⟩) (up.count1 C.qmOverpost)).out = [.readData C.qmOverpost 1] ∧ up.ctr.value.wf = true ∧
    up.ctr.high.wf = true ∧ (findRow regTable 5).isSome = false ∧ (findRow regTable 0).isSome = true ∧
    (after (.rcRegisterRead ⟨0, false⟩) up).out.length = 1 ∧ (after (.pipeCounterRead ⟨7, false⟩) up).out.length = 1) :=
  ⟨live_of (by decide), live_of (by decide), live_of (by decide), by decide⟩

/-! ### Well-formed commands

One ill-formed term for each check of `Instr.wf`, and a well-formed one of each arm that checks anything. -/

def r0 : AdminRef := ⟨1, 0, 64, true, 0, false⟩
def u0 : UnitArgs := ⟨some .slice, 0, 1⟩

theorem test_wf_refuses_1 : ([.registerWrite (2 ^ 28) 1 1,
    .registerWrite 1 513 1,
    .registerWrite 1 1 256,
    .undecodedAccess ⟨(.doorbell 4097), 1⟩ false,
    .undecodedAccess ⟨.bar0, (2 ^ 28)⟩ false,
    .bar0BadLengthRead (2 ^ 28) 1,
    .bar0BadLengthRead 1 0,
    .broadcastWrite (2 ^ 28) 0,
    .broadcastRead (2 ^ 28),
    .counterLoRead ⟨(2 ^ 28), false⟩,
    .rcRegisterRead ⟨(2 ^ 28), false⟩,
    .pipeCounterRead ⟨8, false⟩,
    .configCommit { r0 with fn := 4097 } 1,
    .configCommit r0 (2 ^ 32),
    .bankDrainComplete 8,
    .configStage { r0 with fn := 4097 } 1 1 image,
    .configStage r0 (2 ^ 8) 1 image,
    .configStage r0 1 (2 ^ 32) image,
    .configAbort { r0 with fn := 4097 },
    .configReadStaged { r0 with fn := 4097 } 1,
    .configReadStaged r0 (2 ^ 28),
    .configReadInEffect { r0 with fn := 4097 } 1,
    .configReadInEffect r0 (2 ^ 28),
    .configReadBanks { r0 with fn := 4097 },
    .snapshotCounters { r0 with fn := 4097 } 1 1,
    .snapshotCounters r0 (2 ^ 32) 1,
    .snapshotCounters r0 1 (2 ^ 64),
    .portIdleMarker 96,
    .ppsInEdge 2 0 1,
    .ppsInEdge 1 (2 ^ 112) 1,
    .ppsEdgeTimeout 16,
    .todRxMessage (zeros 32) (2 ^ 112),
    .ptpMessage 96 (ptpMsg .sync),
    .revertiveSwitch 16,
    .frefDisqualified 10,
    .frefQualified 10,
    .timeSetAbsolute { r0 with fn := 4097 } 1 1 1,
    .timeSetAbsolute r0 (2 ^ 48) 1 1,
    .timeSetAbsolute r0 1 (2 ^ 32) 1,
    .timeSetAbsolute r0 1 1 (2 ^ 16),
    .timeSetRelative { r0 with fn := 4097 } 0,
    .timeAdjust { r0 with fn := 4097 } 1 1 0 0 0,
    .timeAdjust r0 (2 ^ 8) 1 0 0 0,
    .timeAdjust r0 1 (2 ^ 8) 0 0 0,
    .timeStatus { r0 with fn := 4097 },
    .ppsOutRise 2,
    .ppsOutFall 2,
    .evtInEdge 4 0 1 false,
    .evtInEdge 1 (2 ^ 112) 1 false,
    .evtPop 4,
    .calenderPass 4,
    .calenderPassComplete 4 calRes,
    .cableMeasTimeout 96,
    .signatureComplete 3 false,
    .recordRingWrite 4,
    .headerRingWrite 4,
    .ledgerConsumerWrite 4 false 0,
    .ledgerRingModeration 4,
    .archiveWriteComplete 4 1 false,
    .archiveWriteComplete 1 (2 ^ 64) false] : List Instr).all (fun i => !i.wf) = true := by
  decide

theorem test_wf_refuses_2 : ([.archiveIndexWrite 4,
    .archiveReconnect 4,
    .ledgerEnableSet { r0 with fn := 4097 } setArgs,
    .ledgerEnableSet r0 { setArgs with vector := 65536 },
    .ledgerArchive { r0 with fn := 4097 } archArgs,
    .ledgerArchive r0 { archArgs with nsid := 2 ^ 32 },
    .ledgerDisableSet { r0 with fn := 4097 } 1,
    .ledgerDisableSet r0 (2 ^ 8),
    .ledgerRotateKey { r0 with fn := 4097 } 1 1,
    .ledgerRotateKey r0 (2 ^ 8) 1,
    .ledgerRotateKey r0 1 (2 ^ 32),
    .ledgerExportKey { r0 with fn := 4097 } 1 1 1,
    .ledgerExportKey r0 (2 ^ 8) 1 1,
    .ledgerExportKey r0 1 (2 ^ 64) 1,
    .ledgerExportKey r0 1 1 (2 ^ 32),
    .sm3EngineFault 8 1,
    .sm3EngineFault 1 11,
    .builderSideFault 2,
    .deckleDescriptorArrival (2 ^ 8),
    .mergeFrontUpdate 8,
    .deckleWindowExpiry (2 ^ 8),
    .deckleSideFault 2,
    .mergeCreate { r0 with fn := 4097 } mergeArgs,
    .mergeCreate r0 { mergeArgs with members := [96] },
    .mergeDestroy { r0 with fn := 4097 } 1,
    .mergeDestroy r0 (2 ^ 8),
    .mergeStage { r0 with fn := 4097 } mergeArgs,
    .mergeStage r0 { mergeArgs with members := [96] },
    .mergeRedirect { r0 with fn := 4097 } 1 1 1,
    .mergeRedirect r0 (2 ^ 8) 1 1,
    .mergeRedirect r0 1 (2 ^ 8) 1,
    .mergeRedirect r0 1 1 (2 ^ 32),
    .releaseCreate { r0 with fn := 4097 } releaseArgs,
    .releaseCreate r0 { releaseArgs with members := [96] },
    .releaseDestroy { r0 with fn := 4097 } 1,
    .releaseDestroy r0 (2 ^ 8),
    .releaseStage { r0 with fn := 4097 } releaseArgs,
    .releaseStage r0 { releaseArgs with members := [96] },
    .releaseHandoff 96,
    .frameReceived 96 rx,
    .frameReceived 1 { rx with lane := 96 },
    .undecodableStart 96,
    .pauseExpiry 96 1,
    .pauseExpiry 1 8,
    .pauseRefresh 96 1,
    .pauseRefresh 1 8,
    .pfcWatchdogFire 96 1,
    .pfcWatchdogFire 1 8,
    .pfcHoldoffEnd 96 1,
    .pfcHoldoffEnd 1 8,
    .linkUp 96 false false,
    .linkDown 96 ⟨1, 1, 1, false⟩,
    .flushOnDownComplete 96,
    .remoteFault 96,
    .anNoCommonAbility 96,
    .portRetrain 96,
    .msecSaInstall 96 1 false ⟨1, none⟩,
    .msecSaInstall 1 4 false ⟨1, none⟩,
    .msecSaRemove 96 1 false 1,
    .msecSaRemove 1 4 false 1] : List Instr).all (fun i => !i.wf) = true := by
  decide

theorem test_wf_refuses_3 : ([.eqAdaptStep 96 1 false,
    .eqAdaptStep 1 5 false,
    .portTransmitStart 96 0 1 1 false,
    .portTransmitStart 1 (2 ^ 112) 1 1 false,
    .portTransmitStart 1 0 96 1 false,
    .gateEntryAdvance 96,
    .gateListTakeover 96,
    .headboxAdmission 96,
    .injectedFrameAdmission 8,
    .headboxDeal 8,
    .parseComplete 8 1,
    .couchRelease 8 1,
    .fragEntryTimeout 8 key0,
    .orphanHoldExpiry 8 1,
    .parseLaneFault 8 1,
    .parseLaneFault 1 5,
    .pipelinePass 8,
    .learnRequestServe 8,
    .agingVisit 8 1,
    .agingVisit 1 262144,
    .tableSearch { r0 with fn := 4097 } ta (zeros 176),
    .tableSearch r0 { ta with table := 256 } (zeros 176),
    .tableNext { r0 with fn := 4097 } ta none,
    .tableNext r0 { ta with table := 256 } none,
    .tableInsert { r0 with fn := 4097 } ta (zeros 176),
    .tableInsert r0 { ta with table := 256 } (zeros 176),
    .tableDelete { r0 with fn := 4097 } ta (zeros 176),
    .tableDelete r0 { ta with table := 256 } (zeros 176),
    .tableFlushPort { r0 with fn := 4097 } ta,
    .tableFlushPort r0 { ta with table := 256 },
    .hostDelivery 131072 false,
    .recvWriteback 131072 1,
    .recvWriteback 1 (2 ^ 32),
    .headBlockWrite 131072,
    .nrModerationTimer 65536,
    .ipsecOutbound ⟨34, false⟩,
    .ipsecInbound ⟨34, false⟩ false,
    .tlsTx ⟨34, false⟩,
    .tlsRx ⟨34, false⟩ [] [],
    .storageSegmentReceived 524288 seg0,
    .tcpRtoExpiry 524288,
    .engineFault false 34,
    .contextCreate { r0 with fn := 4097 } 1 (ctxRec 1),
    .contextCreate r0 (2 ^ 32) (ctxRec 1),
    .contextDestroy { r0 with fn := 4097 } 1,
    .contextDestroy r0 (2 ^ 32),
    .updateKeyNewKey { r0 with fn := 4097 } 1 1 1 (zeros 32) (zeros 32),
    .updateKeyNewKey r0 (2 ^ 32) 1 1 (zeros 32) (zeros 32),
    .updateKeyNewKey r0 1 (2 ^ 32) 1 (zeros 32) (zeros 32),
    .updateKeyNewKey r0 1 1 (2 ^ 32) (zeros 32) (zeros 32),
    .updateKeyNewKey r0 1 1 1 (List.replicate 33 0) (zeros 32),
    .updateKeyResync { r0 with fn := 4097 } 1 1 1,
    .updateKeyResync r0 (2 ^ 32) 1 1,
    .updateKeyResync r0 1 (2 ^ 32) 1,
    .updateKeyResync r0 1 1 (2 ^ 64),
    .updateKeyResume { r0 with fn := 4097 } 1,
    .updateKeyResume r0 (2 ^ 32),
    .storageConnect { r0 with fn := 4097 } 1 connRec,
    .storageConnect r0 (2 ^ 32) connRec,
    .connectTimeout 524288] : List Instr).all (fun i => !i.wf) = true := by
  decide

theorem test_wf_refuses_4 : ([.storageDisconnect { r0 with fn := 4097 } 1,
    .storageDisconnect r0 (2 ^ 32),
    .storageDisconnectAbort { r0 with fn := 4097 } 1,
    .storageDisconnectAbort r0 (2 ^ 32),
    .disconnectTimeout 524288,
    .stoCmd { sw with wq := 131072 } stoArgs,
    .stoCmd sw { stoArgs with cdw := [] },
    .hostLinkUp 8 1 false,
    .hostLinkUp 1 17 false,
    .configRequest 4097 1 none,
    .configRequest 1 4096 none,
    .readCompletion (2 ^ 14) 1 false,
    .readCompletion 1 4097 false,
    .completionTimeout 0 (2 ^ 14),
    .completionTimeout 4097 0,
    .hostLinkError (.poisonedData (2 ^ 14)),
    .hostLinkError (.poisonedFetch (2 ^ 14)),
    .tagQuarantineExpiry (2 ^ 14),
    .atsInvalidate 4097 1,
    .atsInvalidate 1 (2 ^ 52),
    .atsTranslationCompletion 4097 1 false (.fetch 0),
    .atsTranslationCompletion 1 (2 ^ 52) false (.fetch 0),
    .atsTranslationCompletion 1 1 false (.fetch 131072),
    .atsTranslationCompletion 1 1 false (.adminFetch 4097),
    .atsTranslationCompletion 1 1 false (.translation 0 (2 ^ 52)),
    .atsTranslationCompletion 1 1 false (.work { sw with wq := 131072 }),
    .atsTranslationCompletion 1 1 false (.admin { r0 with buf := 2 ^ 64 }),
    .vfFlr 0,
    .l0pWidthChange 101,
    .wqDoorbell 4097 1 0 1,
    .wqDoorbell 1 (2 ^ 24) 0 1,
    .wqDoorbell 1 1 0 (2 ^ 64),
    .wqInvalidate 4097 1 0,
    .wqInvalidate 1 (2 ^ 24) 0,
    .nrDoorbell 4097 1 0 1,
    .nrDoorbell 1 (2 ^ 24) 0 1,
    .nrDoorbell 1 1 0 (2 ^ 64),
    .nrArm 4097 1 0,
    .nrArm 1 (2 ^ 24) 0,
    .adminDoorbell 4097 1 0 1,
    .adminDoorbell 1 (2 ^ 24) 0 1,
    .adminDoorbell 1 1 0 (2 ^ 64),
    .adminSetup 4097 0,
    .adminTeardown 4097 0,
    .unknownAdminOpcode { r0 with fn := 4097 } ⟨1, 1⟩,
    .unknownAdminOpcode r0 ⟨(2 ^ 8), 1⟩,
    .unknownAdminOpcode r0 ⟨1, (2 ^ 8)⟩,
    .nop { r0 with fn := 4097 },
    .identify { r0 with fn := 4097 },
    .createWq { r0 with fn := 4097 } wqArgs,
    .createWq r0 { wqArgs with type := 256 },
    .destroyWq { r0 with fn := 4097 } 1,
    .destroyWq r0 (2 ^ 32),
    .createNr { r0 with fn := 4097 } nrArgs,
    .createNr r0 { nrArgs with vector := 65536 },
    .destroyNr { r0 with fn := 4097 } 1,
    .destroyNr r0 (2 ^ 32),
    .modifyWqSetNr { r0 with fn := 4097 } 1 1,
    .modifyWqSetNr r0 (2 ^ 32) 1,
    .modifyWqSetNr r0 1 (2 ^ 32),
    .modifyWqSuspend { r0 with fn := 4097 } 1,
    .modifyWqSuspend r0 (2 ^ 32),
    .modifyWqResume { r0 with fn := 4097 } 1,
    .modifyWqResume r0 (2 ^ 32),
    .vfSetResources { r0 with fn := 4097 } 1 1 1 1 1,
    .vfSetResources r0 (2 ^ 16) 1 1 1 1,
    .vfSetResources r0 1 (2 ^ 16) 1 1 1] : List Instr).all (fun i => !i.wf) = true := by
  decide

theorem test_wf_refuses_5 : ([.vfSetResources r0 1 1 (2 ^ 32) 1 1,
    .vfSetResources r0 1 1 1 (2 ^ 32) 1,
    .vfSetResources r0 1 1 1 1 (2 ^ 32),
    .vfReset { r0 with fn := 4097 } 1,
    .vfReset r0 (2 ^ 16),
    .vfResetComplete 0,
    .workNop ⟨{ sw with wq := 131072 }, 0⟩,
    .workNop ⟨sw, 256⟩,
    .workNop ⟨sw, 0x30⟩,
    .workNop ⟨{ sw with reads := [(0, 1)] }, 0⟩,
    .workNop ⟨{ sw with reading := true }, 0⟩,
    .send { sw with reads := [(0, 61)] } sendArgs,
    .send { sw with reads := [(2 ^ 64, 1)] } sendArgs,
    .stoCmd { sw with reads := [(0, 1)] } stoArgs,
    .configAbort { r0 with len := 1 },
    .configAbort { r0 with reading := true },
    .configStage { r0 with len := 257 } 0 256 image,
    .tableSearch { r0 with len := 177 } ta (zeros 176),
    .tableSearch r0 ta (zeros 177),
    .tableNext r0 ta (some (zeros 177)),
    .contextCreate { r0 with len := 129 } 128 (ctxRec 1),
    .storageConnect { r0 with len := 1153 } 1152 connRec,
    .storageConnect r0 1152 { connRec with connectData := zeros 1025 },
    .patrolRead (.fdb 8 0) true,
    .patrolRead (.ruleWord 0 (.stage true 24)) true,
    .patrolRead (.ruleWord 0 (.route false 0 (2 ^ 32) 0)) true,
    .patrolRead (.ruleWord 0 (.ternary 32768)) true,
    .send { sw with wq := 131072 } sendArgs,
    .send sw { sendArgs with cls := 256 },
    .sendComplete { sw with wq := 131072 },
    .recv { sw with wq := 131072 } 1,
    .recv sw (2 ^ 64),
    .serviceStateQuery { r0 with fn := 4097 } u0,
    .serviceStateQuery r0 { u0 with unit := 65536 },
    .serviceStateTakeOut { r0 with fn := 4097 } u0,
    .serviceStateTakeOut r0 { u0 with unit := 65536 },
    .serviceStateReturn { r0 with fn := 4097 } u0,
    .serviceStateReturn r0 { u0 with unit := 65536 },
    .unitDrainComplete { u0 with unit := 65536 },
    .selfTestComplete { u0 with unit := 65536 } false,
    .unitFenceReached { u0 with unit := 65536 },
    .flashResyncComplete 2,
    .eventBucketRefill (2 ^ 16),
    .eventClear { r0 with fn := 4097 } 1 token,
    .eventClear r0 (2 ^ 32) token,
    .pldmEventRepeat (2 ^ 16),
    .pldmEventAck (2 ^ 16),
    .mbxRing (2 ^ 8) 1,
    .mbxRing 1 64,
    .mbxData15Read (2 ^ 8) 1,
    .mbxData15Read 1 64,
    .mbxSend 64 [],
    .mbxSend 1 (List.replicate 33 0),
    .mbxDeliverSent 64,
    .setEndpointId (2 ^ 8) 1,
    .setEndpointId 1 (2 ^ 8),
    .getMctpVersionSupport (2 ^ 8),
    .getVendorDefinedMsgSupport (2 ^ 8),
    .getPldmVersion (2 ^ 8),
    .getPldmCommands (2 ^ 8),
    .getSensorReading (2 ^ 16),
    .getStateSensorReadings (2 ^ 16),
    .getPdr (2 ^ 32),
    .setEventReceiver false (2 ^ 8),
    .getCertificate false (2 ^ 8) 1 1,
    .getCertificate false 1 (2 ^ 16) 1,
    .getCertificate false 1 1 (2 ^ 16),
    .challenge false (2 ^ 8) (zeros 32),
    .challenge false 1 (List.replicate 33 0),
    .getMeasurements false false (2 ^ 8) (zeros 32),
    .getMeasurements false false 1 (List.replicate 33 0),
    .nvmCompact { r0 with fn := 4097 } 1,
    .nvmCompact r0 (2 ^ 32),
    .nvmStatus { r0 with fn := 4097 },
    .flashOperationFailed 2,
    .flashRefresh [2],
    .pllLossOfLock 32 false,
    .clockActivityLost 32,
    .clockSelRequest 32 false,
    .clockSwitchComplete 32] : List Instr).all (fun i => !i.wf) = true := by
  decide

theorem test_wf_refuses_6 : ([.switchWatchdog 32,
    .pllRelocked 32 false,
    .thermalThrottle 0 0,
    .thermalTrip 0 0,
    .remoteFaultCleared 96,
    .ptpMessageInterval 96 .sync 0,
    .ptpMessageInterval 1 .sync (2 ^ 8),
    .msixVectorUnmask 4097 (.read 0),
    .msixVectorUnmask 1 (.write (2 ^ 16) 0),
    .msixVectorUnmask 1 (.read 2)] : List Instr).all (fun i => !i.wf) = true := by
  decide

theorem test_wf_takes_1 : ([.registerWrite 1 1 1,
    .undecodedAccess ⟨.bar0, 1⟩ false,
    .bar0BadLengthRead 1 1,
    .broadcastWrite 1 0,
    .broadcastRead 1,
    .counterLoRead ⟨1, false⟩,
    .rcRegisterRead ⟨1, false⟩,
    .pipeCounterRead ⟨1, false⟩,
    .configCommit r0 1,
    .bankDrainComplete 1,
    .configStage r0 1 1 image,
    .configAbort r0,
    .configReadStaged r0 1,
    .configReadInEffect r0 1,
    .configReadBanks r0,
    .snapshotCounters r0 1 1,
    .portIdleMarker 1,
    .ppsInEdge 1 0 1,
    .ppsEdgeTimeout 1,
    .todRxMessage (zeros 32) 0,
    .ptpMessage 1 (ptpMsg .sync),
    .revertiveSwitch 1,
    .frefDisqualified 1,
    .frefQualified 1,
    .timeSetAbsolute r0 1 1 1,
    .timeSetRelative r0 0,
    .timeAdjust r0 1 1 0 0 0,
    .timeStatus r0,
    .ppsOutRise 1,
    .ppsOutFall 1,
    .evtInEdge 1 0 1 false,
    .evtPop 1,
    .calenderPass 1,
    .calenderPassComplete 1 calRes,
    .cableMeasTimeout 1,
    .signatureComplete 1 false,
    .recordRingWrite 1,
    .headerRingWrite 1,
    .ledgerConsumerWrite 1 false 0,
    .ledgerRingModeration 1,
    .archiveWriteComplete 1 1 false,
    .archiveIndexWrite 1,
    .archiveReconnect 1,
    .ledgerEnableSet r0 setArgs,
    .ledgerArchive r0 archArgs,
    .ledgerDisableSet r0 1,
    .ledgerRotateKey r0 1 1,
    .ledgerExportKey r0 1 1 1,
    .sm3EngineFault 1 1,
    .builderSideFault 1,
    .deckleDescriptorArrival 1,
    .mergeFrontUpdate 1,
    .deckleWindowExpiry 1,
    .deckleSideFault 1,
    .mergeCreate r0 mergeArgs,
    .mergeDestroy r0 1,
    .mergeStage r0 mergeArgs,
    .mergeRedirect r0 1 1 1,
    .releaseCreate r0 releaseArgs,
    .releaseDestroy r0 1] : List Instr).all (fun i => i.wf) = true := by
  decide

theorem test_wf_takes_2 : ([.releaseStage r0 releaseArgs,
    .releaseHandoff 1,
    .frameReceived 1 rx,
    .undecodableStart 1,
    .pauseExpiry 1 1,
    .pauseRefresh 1 1,
    .pfcWatchdogFire 1 1,
    .pfcHoldoffEnd 1 1,
    .linkUp 1 false false,
    .linkDown 1 ⟨1, 1, 1, false⟩,
    .flushOnDownComplete 1,
    .remoteFault 1,
    .anNoCommonAbility 1,
    .portRetrain 1,
    .msecSaInstall 1 1 false ⟨1, none⟩,
    .msecSaRemove 1 1 false 1,
    .eqAdaptStep 1 1 false,
    .portTransmitStart 1 0 1 1 false,
    .gateEntryAdvance 1,
    .gateListTakeover 1,
    .headboxAdmission 1,
    .injectedFrameAdmission 1,
    .headboxDeal 1,
    .parseComplete 1 1,
    .couchRelease 1 1,
    .fragEntryTimeout 1 key0,
    .orphanHoldExpiry 1 1,
    .parseLaneFault 1 1,
    .pipelinePass 1,
    .learnRequestServe 1,
    .agingVisit 1 1,
    .tableSearch r0 ta (zeros 176),
    .tableNext r0 ta none,
    .tableInsert r0 ta (zeros 176),
    .tableDelete r0 ta (zeros 176),
    .tableFlushPort r0 ta,
    .hostDelivery 1 false,
    .recvWriteback 1 1,
    .headBlockWrite 1,
    .nrModerationTimer 1,
    .ipsecOutbound ⟨1, false⟩,
    .ipsecInbound ⟨1, false⟩ false,
    .tlsTx ⟨1, false⟩,
    .tlsRx ⟨1, false⟩ [] [],
    .storageSegmentReceived 1 seg0,
    .tcpRtoExpiry 1,
    .engineFault false 1,
    .contextCreate r0 1 (ctxRec 1),
    .contextDestroy r0 1,
    .updateKeyNewKey r0 1 1 1 (zeros 32) (zeros 32),
    .updateKeyResync r0 1 1 1,
    .updateKeyResume r0 1,
    .storageConnect r0 1 connRec,
    .connectTimeout 1,
    .storageDisconnect r0 1,
    .storageDisconnectAbort r0 1,
    .disconnectTimeout 1,
    .stoCmd sw stoArgs,
    .hostLinkUp 1 1 false,
    .configRequest 1 1 none] : List Instr).all (fun i => i.wf) = true := by
  decide

theorem test_wf_takes_3 : ([.vfEnable true false,
    .readCompletion 1 1 false,
    .completionTimeout 1 1,
    .tagQuarantineExpiry 1,
    .atsInvalidate 1 1,
    .atsTranslationCompletion 1 1 false (.fetch 0),
    .vfFlr 1,
    .l0pWidthChange 1,
    .wqDoorbell 1 1 0 1,
    .wqInvalidate 1 1 0,
    .nrDoorbell 1 1 0 1,
    .nrArm 1 1 0,
    .adminDoorbell 1 1 0 1,
    .adminSetup 1 0,
    .adminTeardown 1 0,
    .unknownAdminOpcode r0 ⟨1, 1⟩,
    .nop r0,
    .identify r0,
    .createWq r0 wqArgs,
    .destroyWq r0 1,
    .createNr r0 nrArgs,
    .destroyNr r0 1,
    .modifyWqSetNr r0 1 1,
    .modifyWqSuspend r0 1,
    .modifyWqResume r0 1,
    .vfSetResources r0 1 1 1 1 1,
    .vfReset r0 1,
    .vfResetComplete 1,
    .workNop ⟨sw, 0⟩,
    .send sw sendArgs,
    .sendComplete sw,
    .recv sw 1,
    .serviceStateQuery r0 u0,
    .serviceStateTakeOut r0 u0,
    .serviceStateReturn r0 u0,
    .unitDrainComplete u0,
    .selfTestComplete u0 false,
    .unitFenceReached u0,
    .flashResyncComplete 1,
    .eventBucketRefill 1,
    .eventClear r0 1 token,
    .pldmEventRepeat 1,
    .pldmEventAck 1,
    .mbxRing 1 1,
    .mbxData15Read 1 1,
    .mbxSend 1 [],
    .mbxDeliverSent 1,
    .setEndpointId 1 1,
    .getMctpVersionSupport 1,
    .getVendorDefinedMsgSupport 1,
    .getPldmVersion 1,
    .getPldmCommands 1,
    .getSensorReading 1,
    .getStateSensorReadings 1,
    .getPdr 1,
    .setEventReceiver false 1,
    .getCertificate false 1 1 1,
    .challenge false 1 (zeros 32),
    .getMeasurements false false 1 (zeros 32),
    .nvmCompact r0 1] : List Instr).all (fun i => i.wf) = true := by
  decide

theorem test_wf_takes_4 : ([.nvmStatus r0,
    .flashOperationFailed 1,
    .flashRefresh [],
    .pllLossOfLock 1 false,
    .clockActivityLost 1,
    .clockSelRequest 1 false,
    .clockSwitchComplete 1,
    .switchWatchdog 1,
    .pllRelocked 1 false,
    .thermalThrottle 1 0,
    .thermalTrip 1 0,
    .remoteFaultCleared 1,
    .ptpMessageInterval 1 .sync 0,
    .msixVectorUnmask 1 (.write 12 0)] : List Instr).all (fun i => i.wf) = true := by
  decide

/-! ### Worked examples of the spec

Each expected result is the spec's own, in the example that its docstring names; those of SM3 and of the CRC are of the standards. -/

/-- SM3 of "abc" (GB/T 32905, example 1). -/
theorem test_sm3_abc : beNat (sm3 [0x61, 0x62, 0x63]) = 0x66c7f0f462eeedd9d1f2d46bdc10e4e24167c4875cf2f7a2297da02b8f4ba8e0 := by decide

/-- The CRC of 31 32 … 39 with polynomial 0x1021 and initial value 0xFFFF is 0x29B1. -/
theorem test_crc16 : crc16 [0x31, 0x32, 0x33, 0x34, 0x35, 0x36, 0x37, 0x38, 0x39] = 0x29B1 := by decide

/-- The increment of a clock that runs 2.5 ppm slow (the example after R70). -/
theorem test_increment : nominal + freqOf 2500000 = 0xA0001A37 := by decide

/-- Port 5's receive-frame counter (the example after R44): the read returns 1,020, the snapshot records 10 and the counter takes 12. -/
theorem test_clearing_snapshot :
    (let c : State := { snap .armed (11 * secStamp) with
        ctr := { based.ctr with value := Table.empty.set C.qmOverpost 1020, side := Table.empty.set C.qmOverpost 4 } }
      let s : State := { c with snap := { c.snap with clearing := true } }
      let t := after (.counterLoRead ⟨C.qmOverpost, false⟩) s
      let u : State := { t with
        snap := { t.snap with ts := 9 * secStamp }
        ctr := { t.ctr with value := t.ctr.value.set C.qmOverpost 10, side := t.ctr.side.set C.qmOverpost 12 } }
      let v := after .counterLatch u;
      t.out = [.readData C.qmOverpost 1020] ∧ t.ctr.side.get? C.qmOverpost = some 4 ∧ v.ctr.latched.get? C.qmOverpost = some 10 ∧
        v.ctr.value.get? C.qmOverpost = some 12) := by decide

/-- The ingress stamp of *Worked compensation*: lane 42 at RATE_200G, stream bit 77, RX_DELTA +0.125 ns on die 1. -/
theorem test_worked_compensation :
    (let s : State := { up with stp := { up.stp with
        factoryRx := Table.empty.set (42 * 8 + 4) 2508800
        cals := Table.empty.set 1 [(9, ⟨0, [0, 0, 0, 0, 128], [0, 0, 0, 0, 0]⟩)]
        dies := Table.empty.set 1 { DieCal.init with applied := ⟨0, [0, 0, 0, 0, 128], [0, 0, 0, 0, 0]⟩ } } };
      s.laneLat false 42 4 = 2516992 ∧ s.ingressStamp 9 4 42 (456789012 * 65536 + 49152) 77 = 456788974 * 65536 + 0xB38E) := by decide

/-- Granules and ranks of *Example: three ports and a LATE frame*: Ream 5,000,003 and members 2, 14 and 26. -/
theorem test_granules_and_ranks :
    [1000000, 1000060, 1000100, 1300000, 1280000].map (fun ps : Int => granuleOf (ps * 65536 / 1000)) = [4000, 4000, 4000, 5200, 5120] ∧
    [2, 14, 26].map (rankIn [2, 14, 26] 5000003) = [1, 2, 0] := by decide

/-- A replay window of 64 (the example after R552). -/
theorem test_replay_window :
    (let k : Ctx := { ctx 1 with high := 1000, seen := [1000] }
      let k1 := k.receive 940
      let k2 := k1.receive 1070;
      k.fresh? 940 = true ∧ k1.fresh? 940 = false ∧ k1.fresh? 1070 = true ∧ k1.high = 1000 ∧ k2.high = 1070 ∧ k2.fresh? 1006 = false ∧
        k2.fresh? 1007 = true) := by decide

/-- A doorbell that fills a queue, and one that goes beyond its room (the example after R633). -/
theorem test_doorbell_overpost :
    (let q : WqSt := { wq0 with log2 := 8, head := 0xFFFFFFF0, prod := 0x80, next := 0x80 }
      let s := rings q nr0
      let t := after (.wqDoorbell 0 0x1000 0xF1 8) s;
      0x70 ≤ 2 ^ q.log2 - (q.prod - q.head).toNat ∧ 2 ^ q.log2 - (q.prod - q.head).toNat < 0x71 ∧
        (t.qm.wqs.get? 0).map (fun q => (q.state, q.errStatus, q.prod)) = some (.error, stOverpost, 0x80)) := by decide

/-- Work queues A to F of NR 9 (the example after R676), their heads set by hand. -/
def nr9 : NrSt := { nr0 with
  prod := 0, cons := 0, armed := true, sinceArm := 0, firstAt := none, modCount := 2, liveCount := 2, modTimerUs := 50, liveTimerUs := 50 }

/-- Heads that reach values, each notified. -/
def reach (s : State) (w h : Nat) : State := (s.modWq w fun q => { q with head := BitVec.ofNat 32 h }).notify w

/-- The example's state at 3.0 µs: A advanced twice, then B, C, D and E. -/
def nrFull : State :=
  let s := rings wq0 nr9
  let s : State := { s with qm := { s.qm with
    wqs := (List.range 5).foldl (fun t i => t.set i { wq0 with localIdx := i, nr := some 0 }) Table.empty } }
  reach (reach (reach (reach (reach (reach s 0 10) 0 12) 1 1) 2 1) 3 1) 4 1

/-- Entries of a notification ring among the outputs: slot, WQ, head and flags. -/
def entries (s : State) : List (Nat × Nat × Nat × Nat) :=
  s.out.filterMap fun o => match o with
    | .dma _ .notification a d _ _ _ _ => some ((a - 0x30000) / 16, leNat (d.take 4), leNat ((d.drop 4).take 4), leNat ((d.drop 8).take 1))
    | _ => none

theorem test_notification_ring :
    entries nrFull = [(0, 0, 10, 1), (1, 1, 1, 1), (2, 2, 1, 1), (3, 3, 1, 1)] ∧
    (nrFull.qm.nrs.get? 0).map (fun r => (r.prod, r.armed, r.order, r.overflowed)) = some (4, false, [0, 4], true) ∧
    (nrFull.out.filter (· = .msix 0 1 0 0 false)).length = 1 ∧
    (let t := after (.nrArm 0 0x100000 2) nrFull;
      (entries t).drop 4 = [(0, 0, 12, 4), (1, 4, 1, 0)] ∧ t.out.getLast? = some (.msix 0 1 0 0 false)) := by decide

/-- A COMMIT record of 117 pairs takes four pages (the example after R712). -/
theorem test_commit_pages :
    JrnKind.len (.commit (List.replicate 117 (0, 0)) 0 0) = 944 ∧ recPages 944 = 4 := by decide

/-- A PFC quanta of 0xFFFF at 100 Gb/s pauses for 335.5392 µs (the example after R361), truncated in stamp units. -/
theorem test_pfc_quanta : bitTime (0xFFFF * 512) 100 / 65536 = 335539 := by decide

/-- The frame of the example after R400. -/
def exampleFrame : Bytes :=
  zeros 12 ++ [0x08, 0x00] ++
  [0x45, 0, 0x03, 0xE8, 0, 0, 0, 0, 64, 17, 0x63, 0x03, 10, 0, 0, 1, 10, 0, 0, 2] ++ [0x10, 0, 0x12, 0xB5, 0x03, 0xDE, 0, 0] ++
  [0x08, 0, 0, 0, 0, 0, 5, 0] ++ zeros 12 ++ [0x08, 0x00] ++
  [0x45, 0, 0x04, 0xB0, 0, 0, 0, 0, 64, 6, 0, 0, 10, 1, 0, 1, 10, 1, 0, 2] ++
  [0, 80, 1, 187, 0, 0, 0, 1, 0, 0, 0, 0, 0x80, 0x10, 0, 0, 0, 0, 0, 0] ++ zeros 12 ++ zeros 898

/-- The example's parse: seven headers, payload at 116, UDP_LEN_LONG first, MALFORMED vector 0x094. -/
theorem test_parse_example :
    (let p := parse ⟨[], 4789, 6081, [], []⟩ exampleFrame;
      exampleFrame.length = 1014 ∧ p.hdrs.length = 7 ∧ p.bound = 1014 ∧ p.payload = 116 ∧ p.codes = [0x17, 0x12, 0x14] ∧
        malformedVec p.codes = 0x094) := by decide

/-- Lane 61 and PCIe receive lane 9 (the example after R813). -/
theorem test_package :
    ethBalls false 61 = ((rowIdx ['C', 'Y'], 42), (rowIdx ['C', 'Y'], 43)) ∧
    ethBalls true 61 = ((rowIdx ['C', 'V'], 42), (rowIdx ['C', 'V'], 43)) ∧
    pcieBalls true 9 = ((rowIdx ['B', 'E'], 5), (rowIdx ['B', 'F'], 5)) := by decide

end Sys2Proof.Tests
end

section
/-! PROOFS. Admin commands that start, for the statements about single commands: a body that answers a status completes with it. -/

namespace Sys2Proof.Machine

/-- The guard of R741 to R743 lets a command through where the block serves commands. -/
theorem whenWorking_of_serving {s : State} (h : Serving s) (k : Res) : whenWorking s k = k := by
  obtain ⟨⟨hassured, hreleased, hmission, hcool⟩, hsound⟩ := h
  simp [whenWorking, whenLive, hassured, hreleased, hmission, hcool, hsound]

/-- An admin command that can start, of a function that may issue it, runs its body on the opened state and completes with what the body
answers (R637 to R641). -/
theorem runAdmin_completes {pf recOk : Bool} {r : AdminRef} {s t : State} {body : State → AdminRes} {st : Nat} {wb : List (Nat × Bytes)}
    (h : AdminStarts r s) (hfn : pf = true → r.fn = 0) (hb : body (s.adminOpen r) = (t, some (st, wb))) :
    runAdmin pf recOk r s body = ends s r t st wb := by
  have hmay : (pf && decide (r.fn ≠ 0)) = false := by cases pf <;> simp_all
  have hstage : (s.adminOpen r).mgt.stage ≠ .recovery := by simpa using h.stage
  simp only [runAdmin, whenWorking_of_serving h.serving, h.ready, h.atHand, h.reserved, hmay, hstage, hb]
  simp [ends, State.token]

/-- The same for the commands of the PF alone. -/
theorem runAdmin_completes_pf {r : AdminRef} {s t : State} {recOk : Bool} {body : State → AdminRes} {st : Nat}
    {wb : List (Nat × Bytes)} (h : PfStarts r s) (hb : body (s.adminOpen r) = (t, some (st, wb))) :
    runAdmin true recOk r s body = ends s r t st wb :=
  runAdmin_completes h.starts (fun _ => h.pf) hb

end Sys2Proof.Machine
end

section
/-! PROOFS. CONFIG_STAGE (R445 to R448, R487) and CONFIG_READ (R16, R454, R455). -/

namespace Sys2Proof.Machine

/-! ### Banks and image rows -/

@[simp] theorem State.bank_setBank_self (s : State) (tag : Bool) (b : Option Bank) : (s.setBank tag b).bank tag = b := by
  cases tag <;> rfl

/-- Writing the bank of the other tag leaves a bank alone. -/
@[simp] theorem State.bank_setBank_not (s : State) (tag : Bool) (b : Option Bank) : (s.setBank (!tag) b).bank tag = s.bank tag := by
  cases tag <;> rfl

/-- Writing a bank changes only the tables and banks of the slices. -/
theorem State.setBank_keeps {β : Sort _} (obs : State → β) (h : ∀ (s : State) x0, obs { s with flow := x0 } = obs s) (s : State)
    (tag : Bool) (b : Option Bank) : obs (s.setBank tag b) = obs s := by
  cases tag <;> exact h _ _

/-- A part of the state that every step of a fold that can fail keeps is kept by the fold, where it succeeds. -/
theorem foldl_bind_keeps {α σ : Type} {β : Sort _} (obs : σ → β) (f : σ → α → Option σ)
    (h : ∀ s x t, f s x = some t → obs t = obs s) (l : List α) {s t : σ}
    (ht : l.foldl (fun o x => o.bind fun s => f s x) (some s) = some t) : obs t = obs s := by
  change l.foldl (fun (o : Option σ) x => o >>= fun s => f s x) (pure s) = some t at ht
  rw [← List.foldlM_eq_foldl] at ht
  induction l generalizing s with
  | nil => cases ht; rfl
  | cons x xs ih =>
    obtain ⟨u, hu, ht⟩ := Option.bind_eq_some_iff.mp (List.foldlM_cons.symm.trans ht)
    exact (ih ht).trans (h s x u hu)

/-! The observations of this section do not see the tables of the slices, where image rows stand. -/

section LoadRows

variable {β : Sort _} (obs : State → β) (h : ∀ (s : State) x, obs { s with flow := { s.flow with slices := x } } = obs s)
include h

theorem State.placeRow_keeps (n : Nat) (s : State) (x : ImageRow) (t : State) (ht : s.placeRow n x = some t) : obs t = obs s := by
  obtain ⟨i, -, rfl⟩ := Option.map_eq_some_iff.mp ht
  exact h _ _

theorem State.placeRows_keeps (n : Nat) (rows : List ImageRow) {s t : State} (ht : s.placeRows n rows = some t) : obs t = obs s :=
  foldl_bind_keeps obs _ (State.placeRow_keeps obs h n) rows ht

/-- Loading the rows of an image changes only the tables of the slices (R487). -/
theorem State.loadRows_keeps (rows : List ImageRow) {s t : State} (ht : s.loadRows rows = some t) : obs t = obs s :=
  foldl_bind_keeps obs _ (fun _ n _ hu => (State.placeRows_keeps obs h n rows hu).trans (h _ _)) _ ht

end LoadRows

/-- Starting a command leaves every bank alone. -/
@[simp] theorem State.bank_adminOpen (s : State) (r : AdminRef) (tag : Bool) : (s.adminOpen r).bank tag = s.bank tag :=
  State.adminOpen_keeps (State.bank · tag) (fun _ _ _ _ => rfl) s r

/-- An event leaves every bank alone. -/
@[simp] theorem State.bank_event (s : State) (c v : Nat) (l : List Snap) (tag : Bool) : (s.event c v l).bank tag = s.bank tag :=
  State.event_keeps (State.bank · tag) (fun _ _ _ _ => rfl) s c v l

/-- Starting a command moves no region. -/
@[simp] theorem State.liveRow_adminOpen (s : State) (r : AdminRef) (rows : List ImageRow) :
    (s.adminOpen r).liveRow rows = s.liveRow rows :=
  State.adminOpen_keeps (State.liveRow · rows) (fun _ _ _ _ => rfl) s r

/-- Starting a command fills no row. -/
@[simp] theorem State.rowsExceed_adminOpen (s : State) (r : AdminRef) (rows : List ImageRow) :
    (s.adminOpen r).rowsExceed rows = s.rowsExceed rows :=
  State.adminOpen_keeps (State.rowsExceed · rows) (fun _ _ _ _ => rfl) s r

/-! ### CONFIG_STAGE -/

/-- An image at hand that CONFIG_STAGE reads as far as its sections: no commit is pending, the header is right, and a signature of an
installed signer holds (R445, R446). -/
structure ImageSigned (s : State) (len : Nat) (i : BankImage) : Prop where
  idle : s.coh.phase = .idle
  drained : s.coh.draining = []
  header : headerFault i len = none
  installed : ∃ b, s.nvm.base = some b ∧ i.signerId ∈ b.signers
  sigOk : i.sigOk = true

/-- The state in which a loaded image is staged: its bank inactive in all slices, and its event recorded (R447, R448). -/
def State.stageBank (s : State) (i : BankImage) (bank : Bank) : State :=
  let s := s.setBank (!s.coh.bankTag) (some bank)
  let s := { s with coh := { s.coh with staged := 1, image := some i } }
  s.event 0x5001 1 [.w i.bankId]

theorem State.coh_stageBank (s : State) (i : BankImage) (bank : Bank) :
    (s.stageBank i bank).coh = { s.coh with staged := 1, image := some i } := by
  simp [State.stageBank, State.setBank_keeps State.coh (fun _ _ => rfl)]

theorem State.regs_stageBank (s : State) (i : BankImage) (bank : Bank) : (s.stageBank i bank).regs = s.regs := by
  simp [State.stageBank, State.setBank_keeps State.regs (fun _ _ => rfl)]

/-- The staged bank stands in the inactive place. -/
theorem State.bank_stageBank_inactive (s : State) (i : BankImage) (bank : Bank) :
    (s.stageBank i bank).bank (!s.coh.bankTag) = some bank :=
  (State.bank_event _ _ _ _ _).trans (State.bank_setBank_self s _ _)

/-- Staging leaves the bank in effect alone. -/
theorem State.bank_stageBank_active (s : State) (i : BankImage) (bank : Bank) :
    (s.stageBank i bank).bank s.coh.bankTag = s.bank s.coh.bankTag :=
  (State.bank_event _ _ _ _ _).trans (State.bank_setBank_not s _ _)

/-- The meaning of CONFIG_STAGE. -/
theorem exec_configStage (r : AdminRef) (kind len : Nat) (i : BankImage) (s : State) :
    exec (.configStage r kind len i) s = execConfigStage r kind len i s := rfl

/-- The meanings of the three forms of CONFIG_READ. -/
theorem exec_configReadStaged (r : AdminRef) (a : Nat) (s : State) :
    exec (.configReadStaged r a) s = execConfigReadStaged r a s := rfl

theorem exec_configReadInEffect (r : AdminRef) (a : Nat) (s : State) :
    exec (.configReadInEffect r a) s = execConfigReadInEffect r a s := rfl

theorem exec_configReadBanks (r : AdminRef) (s : State) : exec (.configReadBanks r) s = execConfigReadBanks r s := rfl

section Stage

variable {s : State} {r : AdminRef} {len : Nat} {i : BankImage} (h : PfStarts r s)
include h

/-- While a commit is pending no image is staged (R445). -/
theorem configStage_pending (hp : s.coh.phase ≠ .idle ∨ s.coh.draining ≠ []) : exec (.configStage r 0 len i) s =
    ends s r ((s.adminOpen r).event 0x5002 2 [.q stBusy, .q noItem]) stBusy [(40, le 4 noItem), (44, le 4 0)] :=
  (exec_configStage ..).trans <| runAdmin_completes_pf h <| by simp [stageFail, hp]

/-- A header at fault is refused at its offset (R446). -/
theorem configStage_badHeader {off : Nat} (hphase : s.coh.phase = .idle) (hdrain : s.coh.draining = [])
    (hoff : headerFault i len = some off) : exec (.configStage r 0 len i) s =
    ends s r ((s.adminOpen r).event 0x5002 2 [.q stInvalidField, .q off]) stInvalidField [(40, le 4 off), (44, le 4 0)] :=
  (exec_configStage ..).trans <| runAdmin_completes_pf h <| by simp [stageFail, hphase, hdrain, hoff]

/-- An image whose signature fails is refused (R445). -/
theorem configStage_unsigned (hphase : s.coh.phase = .idle) (hdrain : s.coh.draining = []) (hhead : headerFault i len = none)
    (hsig : i.sigOk = false) : exec (.configStage r 0 len i) s =
    ends s r ((s.adminOpen r).event 0x5002 2 [.q stAuthFailed, .q noItem]) stAuthFailed [(40, le 4 noItem), (44, le 4 0)] :=
  (exec_configStage ..).trans <| runAdmin_completes_pf h <| by simp [stageFail, hphase, hdrain, hhead, hsig]

/-- An item rejected where Caken and the device know empties the staged bank and is named by its offset (R446, R447). -/
theorem configStage_badSection {off : Nat} (hi : ImageSigned s len i) (hoff : i.badOffset = some off) :
    exec (.configStage r 0 len i) s =
    ends s r ((s.adminOpen r).stageEmpty.event 0x5002 2 [.q stInvalidField, .q off]) stInvalidField
      [(40, le 4 off), (44, le 4 i.loadUs)] := by
  obtain ⟨hphase, hdrain, hhead, ⟨b, hbase, hsigner⟩, hsig⟩ := hi
  exact (exec_configStage ..).trans <| runAdmin_completes_pf h <| by simp [stageFail, hphase, hdrain, hhead, hbase, hsigner, hsig, hoff]

/-- Sections that break the limits of a bank empty the staged bank, with a free value for the offset (R446, R447, assumption 114). -/
theorem configStage_unreadable (hi : ImageSigned s len i) (hoff : i.badOffset = none) (hread : readImage i = none) :
    ∃ u off, exec (.configStage r 0 len i) s = ends s r u stInvalidField [(40, le 4 off), (44, le 4 i.loadUs)] ∧
      u.coh.staged = 2 ∧ u.regs = s.regs := by
  obtain ⟨hphase, hdrain, hhead, ⟨b, hbase, hsigner⟩, hsig⟩ := hi
  refine ⟨_, _, (exec_configStage ..).trans <| runAdmin_completes_pf h <| by
    simp only [stageFail, hphase, hdrain, hhead, hbase, hsigner, hsig, hoff, hread, State.adminOpen_frame]; rfl, ?_, ?_⟩
  · simp [State.stageEmpty]
  · simp [State.stageEmpty]

/-- A good image whose rows find room is staged beside the bank in effect (R447, R448, R487). -/
theorem configStage_loads {bank : Bank} {t : State} (hi : ImageSigned s len i) (hoff : i.badOffset = none)
    (hread : readImage i = some bank) (hlive : s.liveRow i.bank.rows = false) (hroom : s.rowsExceed i.bank.rows = false)
    (ht : (s.adminOpen r).loadRows i.bank.rows = some t) : exec (.configStage r 0 len i) s =
      ends s r (t.stageBank i bank) stSuccess [(32, le 8 i.bankId), (40, le 4 noItem), (44, le 4 i.loadUs)] := by
  obtain ⟨hphase, hdrain, hhead, ⟨b, hbase, hsigner⟩, hsig⟩ := hi
  exact (exec_configStage ..).trans <| runAdmin_completes_pf h <| by
    simp [hphase, hdrain, hhead, hbase, hsigner, hsig, hoff, hread, hlive, hroom, ht, State.stageBank]

/-! ### CONFIG_READ -/

/-- A register that cannot be staged is not read (R454). -/
theorem configRead_refuses {a : Nat} (hs : clsMask .staged a = 0) (hr : clsMask .ream a = 0) :
    exec (.configReadStaged r a) s = ends s r (s.adminOpen r) stInvalidField [] ∧
      exec (.configReadInEffect r a) s = ends s r (s.adminOpen r) stInvalidField [] :=
  ⟨(exec_configReadStaged ..).trans <| runAdmin_completes_pf h <| by simp [hs, hr, failWith],
    (exec_configReadInEffect ..).trans <| runAdmin_completes_pf h <| by simp [hs, hr, failWith]⟩

/-- A register that can be staged is answered with its staged value and with its value in effect (R16, R454). -/
theorem configRead_answers {a : Nat} (ha : clsMask .staged a ≠ 0 ∨ clsMask .ream a ≠ 0) :
    exec (.configReadStaged r a) s =
        ends s r (s.adminOpen r) stSuccess ((s.adminOpen r).readWb ((s.adminOpen r).stagedView a)) ∧
      exec (.configReadInEffect r a) s =
        ends s r (s.adminOpen r) stSuccess ((s.adminOpen r).readWb ((s.adminOpen r).view a)) := by
  have hno : ¬(clsMask .staged a = 0 ∧ clsMask .ream a = 0) := by tauto
  exact ⟨(exec_configReadStaged ..).trans (runAdmin_completes_pf h (if_neg hno)),
    (exec_configReadInEffect ..).trans (runAdmin_completes_pf h (if_neg hno))⟩

/-- CONFIG_READ of the banks ends its write-back with the epoch in effect and the state of the staged bank (R454). -/
theorem configReadBanks_answers : ∃ wb, exec (.configReadBanks r) s = ends s r (s.adminOpen r) stSuccess wb ∧
    wb.drop 3 = [(48, le 4 s.coh.epoch), (52, le 1 s.coh.staged)] :=
  ⟨_, (exec_configReadBanks ..).trans (runAdmin_completes_pf h rfl), by simp [State.readWb]⟩

end Stage

/-- Settles O39: each refusal of CONFIG_STAGE and each answer of CONFIG_READ is what its body answers on the opened state; a good image is
staged by `State.stageBank` on the state that holds its rows. -/
theorem stageAndRead : Obligations.StageAndRead := by
  unfold Obligations.StageAndRead
  intro s r h
  refine ⟨?_, fun a hs hr => configRead_refuses h hs hr, fun a ha => configRead_answers h ha, configReadBanks_answers h⟩
  intro kind len i
  refine ⟨?pending, ?stage⟩
  case pending => rintro rfl hp; exact configStage_pending h hp
  case stage =>
    rintro rfl hphase hdrain
    refine ⟨fun off hoff => configStage_badHeader h hphase hdrain hoff,
      fun hhead hsig => configStage_unsigned h hphase hdrain hhead hsig,
      fun b off hhead hbase hsigner hsig hoff =>
        configStage_badSection h ⟨hphase, hdrain, hhead, ⟨b, hbase, hsigner⟩, hsig⟩ hoff,
      fun b hhead hbase hsigner hsig hoff hread =>
        configStage_unreadable h ⟨hphase, hdrain, hhead, ⟨b, hbase, hsigner⟩, hsig⟩ hoff hread, ?_⟩
    intro b bank hhead hbase hsigner hsig hoff hread hlive hroom hrows
    obtain ⟨t, ht⟩ := Option.isSome_iff_exists.mp hrows
    have hcoh : t.coh = s.coh := by simpa using State.loadRows_keeps State.coh (fun _ _ => rfl) _ ht
    have hregs : t.regs = s.regs := by simpa using State.loadRows_keeps State.regs (fun _ _ => rfl) _ ht
    have hbank : t.bank s.coh.bankTag = s.bank s.coh.bankTag := by
      simpa using State.loadRows_keeps (State.bank · s.coh.bankTag) (fun _ _ => rfl) _ ht
    refine ⟨t.stageBank i bank,
      configStage_loads h ⟨hphase, hdrain, hhead, ⟨b, hbase, hsigner⟩, hsig⟩ hoff hread hlive hroom ht, ?_, ?_, ?_⟩
    · simpa [hcoh] using t.bank_stageBank_inactive i bank
    · simpa [hcoh, hbank] using t.bank_stageBank_active i bank
    · simp [State.coh_stageBank, State.regs_stageBank, hcoh, hregs]

end Sys2Proof.Machine
end

section
/-! PROOFS. Requests to the BARs of a function, and accesses that no block decodes (R46, R596 to R598). -/

namespace Sys2Proof.Machine

/-! ### Commands that a living block serves -/

/-- The guard of the power-on reset, FACTORY_TEST and the thermal trip lets a command through where the block is alive. -/
theorem whenLive_of_live {s : State} (h : Live s) (k : Res) : whenLive s k = k := by
  obtain ⟨hassured, hreleased, hmission, hcool⟩ := h
  simp [whenLive, hassured, hreleased, hmission, hcool]

/-- A request to a PF BAR0 that carries requests and decodes them is served, and shows that the link is in use (R598, R608). -/
theorem viaBar0_of_decodes {s : State} (hup : s.hif.dlUp = true) (hdec : s.fnDecodes 0 = true) (n : Nat) (k : State → Res) :
    viaBar0 n s k = k (s.touch n) := by
  have htouch : (s.touch n).fnDecodes 0 = s.fnDecodes 0 := rfl
  simp [viaBar0, hup, htouch, hdec]

/-! ### Undecoded accesses -/

/-- Some block decodes an address of BAR0, by itself or through the window that holds it (R46, R51). -/
def NamesBlock (a : Nat) : Prop :=
  (windowOf a = none ∧ decoded a = true) ∨ ∃ x, windowOf a = some x ∧ decoded (x.addr 0) = true

section Undecoded

variable {s : State} {a : Nat} (h : Live s) (hup : s.hif.dlUp = true)
include h hup

/-- An access to an address that some block decodes only shows that the link is in use. -/
theorem exec_undecodedAccess_known (hdec : s.fnDecodes 0 = true) (hknown : NamesBlock a) (w : Bool) :
    exec (.undecodedAccess ⟨.bar0, a⟩ w) s = .next (s.touch (if w = true then 4 else 0)) := by
  change execUndecodedAccess ⟨.bar0, a⟩ w s = _
  simp only [execUndecodedAccess, whenLive_of_live h, viaBar0_of_decodes hup hdec]
  rcases hknown with ⟨hwin, hdecoded⟩ | ⟨x, hwin, hdecoded⟩ <;> simp [hwin, hdecoded]

/-- An access to an address that no block decodes is named by a NOTICE, and a read of it returns 0 (R46); in FATAL a write is discarded
with all others (R742). -/
theorem exec_undecodedAccess_unknown (hdec : s.fnDecodes 0 = true) (hunknown : ¬NamesBlock a) (w : Bool)
    (hserved : w = true → s.evr.fatal = false) : exec (.undecodedAccess ⟨.bar0, a⟩ w) s =
      .next (if w = true then (s.touch 4).noticeAddr a else ((s.touch 0).noticeAddr a).emit (.readData a 0)) := by
  have hfatal : ∀ n, (s.touch n).evr = s.evr := fun _ => rfl
  change execUndecodedAccess ⟨.bar0, a⟩ w s = _
  simp only [execUndecodedAccess, whenLive_of_live h, viaBar0_of_decodes hup hdec, hfatal]
  cases hwin : windowOf a with
  | none =>
    have hdecoded : decoded a = false := Bool.eq_false_iff.mpr fun hd => hunknown (.inl ⟨hwin, hd⟩)
    cases w with
    | false => simp [hdecoded]
    | true => simp [hdecoded, hserved rfl]
  | some x =>
    have hdecoded : decoded (x.addr 0) = false := Bool.eq_false_iff.mpr fun hd => hunknown (.inr ⟨x, hwin, hd⟩)
    cases w with
    | false => simp [hdecoded]
    | true => simp [hdecoded, hserved rfl]

/-- A read of a doorbell BAR returns 0 (R597). -/
theorem exec_undecodedAccess_doorbell {fn : Nat} (hdec : s.fnDecodes fn = true) :
    exec (.undecodedAccess ⟨.doorbell fn, a⟩ false) s = .next ((s.touch 0).emit (.readData a 0)) := by
  have htouch : (s.touch 0).fnDecodes fn = s.fnDecodes fn := rfl
  change execUndecodedAccess ⟨.doorbell fn, a⟩ false s = _
  simp [execUndecodedAccess, whenLive_of_live h, hup, htouch, hdec]

omit hup in
/-- A write to a doorbell BAR is a doorbell, and no access of this kind. -/
theorem exec_undecodedAccess_doorbell_write (fn : Nat) : exec (.undecodedAccess ⟨.doorbell fn, a⟩ true) s = .next s := by
  change execUndecodedAccess ⟨.doorbell fn, a⟩ true s = _
  simp [execUndecodedAccess, whenLive_of_live h]

end Undecoded

/-- Settles O59: whether an access records its NOTICE turns on whether some block decodes its address. -/
theorem undecodedAccess : Obligations.UndecodedAccess := by
  unfold Obligations.UndecodedAccess
  intro s a h hup
  refine ⟨fun hdec => ⟨fun hunknown => ⟨?read, fun hfatal => ⟨?write, ?regs⟩⟩, exec_undecodedAccess_known h hup hdec⟩,
    fun fn => ⟨exec_undecodedAccess_doorbell h hup, exec_undecodedAccess_doorbell_write h fn⟩⟩
  case read => exact exec_undecodedAccess_unknown h hup hdec hunknown false nofun
  case write => exact exec_undecodedAccess_unknown h hup hdec hunknown true fun _ => hfatal
  case regs => exact State.event_keeps State.regs (fun _ _ _ _ => rfl) (s.touch 4) 0xB020 1 [.q a]

end Sys2Proof.Machine
end

section
/-! PROOFS. Link up and down, negotiation, remote fault, the flush of a link loss and the idle marker (R23, R294, R325 to R331). -/

namespace Sys2Proof.Machine

/-! ### What the steps of a link change leave alone -/

section LinkSteps

variable {β : Sort _} (obs : State → β)

/-- The observations of the lanes' steps see neither the lanes nor the free values. -/
theorem State.setLanes_keeps (h : ∀ (s : State) x0 x1, obs { s with free := x0, lanes := x1 } = obs s) (s : State)
    (p signal cdr locks : Nat) (trained : Bool) : obs (s.setLanes p signal cdr locks trained) = obs s :=
  foldl_keeps obs _ (fun u _ => h u _ _) _ s

theorem State.startTraining_keeps (h : ∀ (s : State) x0 x1, obs { s with lanes := x0, out := x1 } = obs s) (s : State) (p : Nat) :
    obs (s.startTraining p) = obs s := by
  unfold State.startTraining
  split
  · rfl
  · exact foldl_keeps obs _ (fun u _ => h u _ _) _ s

theorem State.startLink_keeps (h : ∀ (s : State) x0 x1, obs { s with lanes := x0, out := x1 } = obs s) (s : State) (p : Nat) :
    obs (s.startLink p) = obs s := by
  unfold State.startLink
  split
  · exact h s s.lanes _
  · exact s.startTraining_keeps obs h p

theorem State.negotiated_keeps (h : ∀ (s : State) x0 x1 x2, obs { s with lanes := x0, out := x1, ports := x2 } = obs s) (s : State)
    (p : Nat) : obs (s.negotiated p) = obs s := by
  unfold State.negotiated
  split
  · rfl
  · exact (State.startTraining_keeps obs (fun u x0 x1 => h u x0 x1 u.ports) _ p).trans (h s s.lanes s.out _)

theorem State.alignMember_keeps (h : ∀ (s : State) x0 x1 x2 x3, obs { s with rel := x0, evr := x1, out := x2, ctr := x3 } = obs s)
    (s : State) (p : Nat) : obs (s.alignMember p) = obs s := by
  have hrel : ∀ (u : State) x, obs { u with rel := x } = obs u := fun u x => h u x u.evr u.out u.ctr
  unfold State.alignMember
  split
  · rfl
  split
  · exact hrel s _
  split
  · rfl
  · exact (State.event_keeps obs (fun u x0 x1 x2 => h u u.rel x0 x1 x2) _ _ _ _).trans (hrel s _)

/-- Driving the SYNCE outputs changes only them and what has left the block. -/
theorem State.refreshSynce_keeps (h : ∀ (s : State) x0 x1, obs { s with tb := { s.tb with synce := x0 }, out := x1 } = obs s)
    (s : State) : obs s.refreshSynce = obs s := by
  refine foldl_keeps obs _ (fun u n => ?_) _ s
  dsimp only
  split
  · rfl
  · exact h u _ _

/-! ### SA commands at their frame boundary -/

theorem State.clearSaRegs_keeps (h : ∀ (s : State) x0, obs { s with regs := x0 } = obs s) (s : State) (p : Nat) :
    obs (s.clearSaRegs p) = obs s :=
  foldl_keeps obs _ (fun u _ => h u _) _ s

end LinkSteps

/-- A change of a port that leaves its link and its local fault as they are. -/
def KeepsLink (f : PortSt → PortSt) : Prop := ∀ x, (f x).link = x.link ∧ (f x).localFault = x.localFault

/-! The observations of this section see of the ports no more than their links and local faults, and nothing of the tables, the
queues and their accounts. -/

section LinkLoss

variable {β : Sort _} (obs : State → β)
  (hrest : ∀ (s : State) x0 x1 x2 x3 x4 x5 x6 x7,
    obs { s with out := x0, evr := x1, ctr := x2, ldg := x3, regs := x4, tm := x5, qm := x6, flow := x7 } = obs s)
  (hport : ∀ (s : State) p f, KeepsLink f → obs (s.modPort p f) = obs s)
include hrest hport

omit hrest in
theorem State.sendXoff_keeps_link (s : State) (p pr : Nat) : obs (s.sendXoff p pr) = obs s :=
  (hport _ _ _ (by simp [KeepsLink])).trans (hport _ _ _ (by simp [KeepsLink]))

omit hrest in
theorem State.checkXoff_keeps_link (s : State) (p pr : Nat) : obs (s.checkXoff p pr) = obs s := by
  unfold State.checkXoff
  dsimp only
  split
  · exact (hport _ _ _ (by simp [KeepsLink])).trans (State.sendXoff_keeps_link obs hport s p pr)
  split
  · refine (hport _ _ _ (by simp [KeepsLink])).trans ?_
    split
    · exact hport _ _ _ (by simp [KeepsLink])
    · rfl
  · rfl

theorem State.releaseFrame_keeps_link (s : State) (frame : Nat) : obs (s.releaseFrame frame) = obs s := by
  have htm : ∀ (u : State) x, obs { u with tm := x } = obs u :=
    fun u x => hrest u u.out u.evr u.ctr u.ldg u.regs x u.qm u.flow
  have hcells : ∀ (u : State) x p pr n, obs (State.giveCells { u with tm := x } p pr n) = obs u :=
    fun u x p pr n => (State.checkXoff_keeps_link obs hport _ p pr).trans (htm u _)
  unfold State.releaseFrame
  split
  · rfl
  dsimp only
  split <;> split <;> simp only [htm, hcells]

theorem State.dropCopy_keeps_link (s : State) (c : Copy) (disp : Nat) : obs (s.dropCopy c disp) = obs s := by
  have htm : ∀ (u : State) x, obs { u with tm := x } = obs u :=
    fun u x => hrest u u.out u.evr u.ctr u.ldg u.regs x u.qm u.flow
  have hunqueue : ∀ u : State, obs (u.unqueue c) = obs u := fun u => State.unqueue_keeps obs htm u c
  have hsettle : ∀ u : State, obs (u.settleFrame c.frame) = obs u := fun u =>
    (State.forget_keeps obs (fun u x => hrest u u.out u.evr u.ctr x u.regs u.tm u.qm u.flow) _ _).trans
      (State.releaseFrame_keeps_link obs hrest hport u c.frame)
  have hlate : ∀ (u : State) f, obs (u.lateOutcome f disp) = obs u := fun u f =>
    State.lateOutcome_keeps obs (fun u l r e o c => hrest u o e c l r u.tm u.qm u.flow) u f disp
  have hsend : ∀ u : State, obs (u.settleSend c.frame none false) = obs u := fun u =>
    State.settleSend_keeps obs (fun u x => hrest u u.out u.evr u.ctr u.ldg u.regs u.tm x u.flow) u _ _ _
  unfold State.dropCopy
  split
  · exact hunqueue s
  dsimp only
  rw [hsettle, hunqueue]
  split <;> split <;> simp only [hsend, hlate]

theorem State.flushPort_keeps_link (s : State) (p : Nat) (keepTx : Bool) : obs (s.flushPort p keepTx) = obs s := by
  have hcount : ∀ (u : State) a n t, obs (u.count a n t) = obs u := fun u a n t =>
    State.count_keeps obs (fun u x => hrest u u.out u.evr x u.ldg u.regs u.tm u.qm u.flow) u a n t
  have hdrop : ∀ (u : State) c, obs (u.dropAtPort c) = obs u := fun u c =>
    (State.dropCopy_keeps_link obs hrest hport _ c 0x40).trans (hcount u _ _ _)
  have hqueue : ∀ (u : State) (l : List Copy), obs (l.foldl State.dropAtPort u) = obs u := fun u l =>
    foldl_keeps obs _ hdrop l u
  have hlate : ∀ (u : State) f, obs (u.lateOutcome f 0x40) = obs u := fun u f =>
    State.lateOutcome_keeps obs (fun u l r e o c => hrest u o e c l r u.tm u.qm u.flow) u f 0x40
  have hend : ∀ u : State, obs (u.endTx p u.now none) = obs u := fun u => by
    have hmod : obs (u.modPort p fun x => { x with txUntil := u.now, txCopy := none }) = obs u := hport _ _ _ (by simp [KeepsLink])
    unfold State.endTx
    dsimp only
    split
    · exact (State.forget_keeps obs (fun u x => hrest u u.out u.evr u.ctr x u.regs u.tm u.qm u.flow) _ _).trans hmod
    · exact hmod
  have hports : ∀ u : State, obs ((List.range 16).foldl (fun u c => (u.queue (qPort p c)).foldl State.dropAtPort u) u) = obs u :=
    foldl_keeps obs _ (fun u _ => hqueue u _) _
  unfold State.flushPort
  extract_lets u v
  have hv : obs v = obs s := (hqueue _ _).trans (hports s)
  split
  · split
    · exact hv
    · dsimp only
      rw [hend]
      split <;> simp only [hcount, hlate, hv]
  · exact hv

omit hport in
theorem State.learn_keeps_rest (s : State) (n bd mac port : Nat) (t : Stamp) : obs (s.learn n bd mac port t) = obs s := by
  unfold State.learn
  split
  · rfl
  split
  · exact (State.event_keeps obs (fun u e o c => hrest u o e c u.ldg u.regs u.tm u.qm u.flow) _ _ _ _).trans
      (State.count_keeps obs (fun u x => hrest u u.out u.evr x u.ldg u.regs u.tm u.qm u.flow) s _ _ _)
  · exact State.modTabs_keeps obs (fun u x => hrest u u.out u.evr u.ctr u.ldg u.regs u.tm u.qm x) s _ _

omit hport in
theorem State.deleteFdb_keeps_rest (s : State) (n : Nat) (p : FdbEntry → Bool) : obs (s.deleteFdb n p).2 = obs s := by
  unfold State.deleteFdb
  refine (foldl_keeps obs _ (fun u e => foldl_keeps obs _ (fun v x => ?_) _ u) _ _).trans
    (State.modTabs_keeps obs (fun u x => hrest u u.out u.evr u.ctr u.ldg u.regs u.tm u.qm x) s _ _)
  split
  · exact State.learn_keeps_rest obs hrest v _ _ _ _ _
  · rfl

theorem State.startFlush_keeps_link (s : State) (p : Nat) : obs (s.startFlush p) = obs s := by
  refine foldl_keeps obs _ (fun u n => ?_) _ s
  dsimp only
  split
  · exact (hport _ _ _ (by simp [KeepsLink])).trans
      ((State.count_keeps obs (fun u x => hrest u u.out u.evr x u.ldg u.regs u.tm u.qm u.flow) _ _ _ _).trans
        (State.deleteFdb_keeps_rest obs hrest u _ _))
  · rfl

theorem State.applySaOp_keeps_link (s : State) (p : Nat) (o : SaOp) : obs (s.applySaOp p o) = obs s := by
  have hclear : ∀ u : State, obs (u.clearSaRegs p) = obs u := fun u =>
    State.clearSaRegs_keeps obs (fun u x => hrest u u.out u.evr u.ctr u.ldg x u.tm u.qm u.flow) u p
  have hmod : ∀ f, KeepsLink f → obs (s.modPort p f) = obs s := hport s p
  unfold State.applySaOp
  dsimp only
  split
  · exact (hclear _).trans (hmod _ fun x => by split <;> exact ⟨rfl, rfl⟩)
  · exact hmod _ fun x => by split <;> exact ⟨rfl, rfl⟩

theorem State.settleSa_keeps_link (s : State) (p : Nat) : obs (s.settleSa p) = obs s := by
  unfold State.settleSa
  split
  · rfl
  · exact (foldl_keeps obs _ (fun u o => State.applySaOp_keeps_link obs hrest hport u p o) _ _).trans
      (hport _ _ _ (by simp [KeepsLink]))

end LinkLoss

/-! ### A link taken down -/

/-- What is said of a link that was taken down: its port's link and local fault, the commits, the time and the management. -/
def State.linkSeen (s : State) (p : Nat) : Bool × Bool × Coherent × Nat × Mgmt :=
  ((s.port p).link, (s.port p).localFault, s.coh, s.tb.time, s.mgt)

theorem State.linkSeen_modPort (p : Nat) (s : State) (q : Nat) (f : PortSt → PortSt) (hf : KeepsLink f) :
    (s.modPort q f).linkSeen p = s.linkSeen p := by
  by_cases h : p = q
  · subst h
    simp [State.linkSeen, hf (s.port p)]
  · simp [State.linkSeen, State.port_modPort_ne s h]

/-- Taking a link down clears its port's link, notes the fault that the line shows, and moves neither commits nor time (R331). -/
theorem State.linkSeen_takeLinkDown (s : State) (p locks signal cdr : Nat) (fault : Bool) :
    (s.takeLinkDown p locks signal cdr fault).linkSeen p = (false, fault, s.coh, s.tb.time, s.mgt) := by
  unfold State.takeLinkDown
  rw [State.refreshSynce_keeps (State.linkSeen · p) (fun _ _ _ => rfl),
    State.settleSa_keeps_link (State.linkSeen · p) (fun _ _ _ _ _ _ _ _ _ => rfl) (State.linkSeen_modPort p),
    State.startFlush_keeps_link (State.linkSeen · p) (fun _ _ _ _ _ _ _ _ _ => rfl) (State.linkSeen_modPort p),
    State.flushPort_keeps_link (State.linkSeen · p) (fun _ _ _ _ _ _ _ _ _ => rfl) (State.linkSeen_modPort p),
    State.event_keeps (State.linkSeen · p) (fun _ _ _ _ => rfl), State.count1_keeps (State.linkSeen · p) (fun _ _ => rfl),
    State.setLanes_keeps (State.linkSeen · p) (fun _ _ _ => rfl)]
  simp [State.linkSeen]

/-- Where the port is IN_SERVICE its link starts again, which changes only lanes and what has left the block. -/
theorem State.restart_keeps {β : Sort _} (obs : State → β) (h : ∀ (s : State) x0 x1, obs { s with lanes := x0, out := x1 } = obs s)
    (s : State) (p : Nat) : obs (if s.up .port 0 p then s.startLink p else s) = obs s := by
  split
  · exact s.startLink_keeps obs h p
  · rfl

/-- The link of a port that is taken down where it is up. -/
theorem State.link_ifDown (s : State) (p : Nat) :
    ((if (s.port p).link then s.takeLinkDown p 0 0 0 false else s).port p).link = false := by
  split
  · exact congrArg Prod.fst (s.linkSeen_takeLinkDown p 0 0 0 false)
  · next hdown => simpa using hdown

/-! ### SA commands of a port -/

/-- The SA commands of a port that are due change only ports and registers. -/
theorem State.applySaOps_keeps {β : Sort _} (obs : State → β)
    (h : ∀ (s : State) x0 x1, obs { s with ports := x0, regs := x1 } = obs s)
    (s : State) (p : Nat) (due : SaOp → Bool) : obs (s.applySaOps p due) = obs s := by
  refine (foldl_keeps obs _ (fun u o => ?_) _ _).trans (h s _ s.regs)
  unfold State.applySaOp
  dsimp only
  split
  · exact (State.clearSaRegs_keeps obs (fun u x => h u u.ports x) _ p).trans (h u _ u.regs)
  · exact h u _ u.regs

/-- Without an SA command waiting, none is carried out. -/
theorem State.applySaOps_none {s : State} {p : Nat} (hnone : (s.port p).saOps = []) (due : SaOp → Bool) :
    (s.applySaOps p due).regs = s.regs ∧ ∀ q, (s.applySaOps p due).port q = s.port q := by
  have hmod : s.applySaOps p due = s.modPort p fun x => { x with saOps := [] } := by simp [State.applySaOps, hnone]
  rw [hmod]
  refine ⟨rfl, fun q => ?_⟩
  by_cases hq : q = p
  · subst hq
    rw [State.port_modPort_self, ← hnone]
  · exact s.port_modPort_ne hq _

/-! ### What the commands set -/

/-- The state that LINK_UP gives a port whose line, negotiation and training are done (R329). -/
def raisedLink (an lt : Bool) (x : PortSt) : PortSt :=
  { x with link := true, localFault := false, remoteFault := false, anDone := an, ltDone := lt, retrain := false }

/-- The steps of LINK_UP that follow the port's change, on what they do not touch. -/
theorem State.linkUpTail_keeps {β : Sort _} (obs : State → β)
    (hobs : ∀ (s : State) x0 x1 x2 x3 x4 x5 x6, obs { s with
      free := x0, lanes := x1, rel := x2, evr := x3, out := x4, ctr := x5, tb := { s.tb with synce := x6 } } = obs s)
    (s : State) (p : Nat) (b : Bool) (l : List Snap) :
    obs ((((s.setLanes p 255 255 255 b).alignMember p).event 0x1001 1 l).refreshSynce) = obs s := by
  rw [State.refreshSynce_keeps obs (fun u t o => hobs u u.free u.lanes u.rel u.evr o u.ctr t),
    State.event_keeps obs (fun u e o c => hobs u u.free u.lanes u.rel e o c u.tb.synce),
    State.alignMember_keeps obs (fun u r e o c => hobs u u.free u.lanes r e o c u.tb.synce),
    State.setLanes_keeps obs (fun u f l => hobs u f l u.rel u.evr u.out u.ctr u.tb.synce)]

/-- The state of a port that negotiates without a common ability: the negotiation begun anew (R325). -/
def State.renegotiate (s : State) (p : Nat) : State := (s.modPort p fun x => { x with anDone := false }).startLink p

theorem State.renegotiate_keeps {β : Sort _} (obs : State → β)
    (hobs : ∀ (s : State) x0 x1 x2, obs { s with ports := x0, lanes := x1, out := x2 } = obs s) (s : State) (p : Nat) :
    obs (s.renegotiate p) = obs s :=
  (State.startLink_keeps obs (fun u l o => hobs u u.ports l o) _ p).trans (hobs s _ s.lanes s.out)

theorem State.port_renegotiate (s : State) (p : Nat) : (s.renegotiate p).port p = { s.port p with anDone := false } :=
  (State.startLink_keeps (State.port · p) (fun _ _ _ => rfl) _ p).trans (s.port_modPort_self p _)

/-- The state in which a port's idle marker has come: its front at the present time, and the next marker due (R23). -/
def State.markIdle (s : State) (p : Nat) : State :=
  { s with ldg := { s.ldg with idleNext := s.ldg.idleNext.set p (s.now + 100 * nsStamp) } }.advanceFront p s.now

/-! ### The commands -/

section Commands

variable {s : State} {p : Nat} (h : Serving s)
include h

/-- A port whose line, negotiation and training are done raises its link (R329). -/
theorem linkUp_raises {an lt : Bool} (hconf : s.configured p = true) (hup : s.up .port 0 p = true) (hdown : (s.port p).link = false)
    (han : s.fld (F.portMode_an p) = 1 → an = true) (hlt : s.fld (F.portMode_lt p) = 1 → lt = true) :
    ∃ t, exec (.linkUp p an lt) s = .next t ∧ t.port p = raisedLink an lt ((s.negotiated p).port p) ∧
      t.tm = s.tm ∧ t.slices = s.slices ∧ t.regs = s.regs := by
  have hnego : (decide (s.fld (F.portMode_an p) = 1) && !an) = false := by simpa using han
  have htrained : (decide (s.fld (F.portMode_lt p) = 1) && !lt) = false := by simpa using hlt
  have hexec : exec (.linkUp p an lt) s = execLinkUp p an lt s := rfl
  simp only [hexec, execLinkUp, whenWorking_of_serving h, hconf, hup, hdown, hnego, htrained]
  refine ⟨_, rfl, ?_, ?_, ?_, ?_⟩
  · exact (State.linkUpTail_keeps (State.port · p) (fun _ _ _ _ _ _ _ _ => rfl) _ p _ _).trans
      (State.port_modPort_self _ p (raisedLink an lt))
  · exact (State.linkUpTail_keeps State.tm (fun _ _ _ _ _ _ _ _ => rfl) _ p _ _).trans
      (s.negotiated_keeps State.tm (fun _ _ _ _ => rfl) p)
  · exact (State.linkUpTail_keeps State.slices (fun _ _ _ _ _ _ _ _ => rfl) _ p _ _).trans
      (s.negotiated_keeps State.slices (fun _ _ _ _ => rfl) p)
  · exact (State.linkUpTail_keeps State.regs (fun _ _ _ _ _ _ _ _ => rfl) _ p _ _).trans
      (s.negotiated_keeps State.regs (fun _ _ _ _ => rfl) p)

/-- A link that is lost goes down, with the local fault that the line shows, whatever it starts anew (R331). -/
theorem linkDown_lowers (x : LineLoss) (hconf : s.configured p = true) (hlink : (s.port p).link = true) :
    ∃ t, exec (.linkDown p x) s = .next t ∧ t.linkSeen p = (false, x.localFault, s.coh, s.tb.time, s.mgt) := by
  have hexec : exec (.linkDown p x) s = execLinkDown p x s := rfl
  simp only [hexec, execLinkDown, whenWorking_of_serving h, hconf, hlink]
  exact ⟨_, rfl, (State.restart_keeps (State.linkSeen · p) (fun _ _ _ => rfl) _ p).trans (s.linkSeen_takeLinkDown p _ _ _ _)⟩

/-- A port that is retrained loses its link, and begins negotiation and training again (R328). -/
theorem portRetrain_lowers (hconf : s.configured p = true) : ∃ t, exec (.portRetrain p) s = .next t ∧ (t.port p).link = false ∧
    (t.port p).retrain = true ∧ (t.port p).anDone = false := by
  have hexec : exec (.portRetrain p) s = execPortRetrain p s := rfl
  simp only [hexec, execPortRetrain, whenWorking_of_serving h, hconf]
  refine ⟨_, rfl, ?_⟩
  rw [State.restart_keeps (State.port · p) (fun _ _ _ => rfl), State.port_modPort_self]
  exact ⟨s.link_ifDown p, rfl, rfl⟩

/-- Without a common ability the link stays down; the failure is recorded, or is not where one was within 10 s (R325). -/
theorem exec_anNoCommonAbility (hconf : s.configured p = true) (hup : s.up .port 0 p = true) (han : s.fld (F.portMode_an p) = 1)
    (hdown : (s.port p).link = false) : exec (.anNoCommonAbility p) s = .next (s.renegotiate p) ∨
      exec (.anNoCommonAbility p) s =
        .next (((s.renegotiate p).modPort p fun x => { x with anFailAt := some (s.renegotiate p).now }).event 0x100A 2 []) := by
  have hexec : exec (.anNoCommonAbility p) s = execAnNoCommonAbility p s := rfl
  rw [hexec, execAnNoCommonAbility, whenWorking_of_serving h]
  simp only [hconf, hup, han, hdown]
  simp only [decide_true, Bool.and_self, Bool.not_false, if_true]
  split
  · exact .inr rfl
  · exact .inl rfl

/-- The idle marker is a frame boundary of the receiver (R23, R346). -/
theorem exec_portIdleMarker (hconf : s.configured p = true) (hdue : s.ldg.idleNext.getD p 0 ≤ s.now) (hfifo : (s.port p).fifo = []) :
    exec (.portIdleMarker p) s = .next ((s.markIdle p).applySaOps p fun o => o.rx) := by
  have hexec : exec (.portIdleMarker p) s = execPortIdleMarker p s := rfl
  have hdo : (s.configured p && decide (s.ldg.idleNext.getD p 0 ≤ s.now) && (s.port p).fifo.isEmpty) = true := by
    simp [hconf, hdue, hfifo]
  rw [hexec, execPortIdleMarker, whenWorking_of_serving h]
  exact if_pos hdo

end Commands

/-- Settles O12: the steps that follow the change of a port do not touch its link, so each command leaves the link as it set it. -/
theorem linkStates : Obligations.LinkStates := by
  unfold Obligations.LinkStates
  refine ⟨fun s p h => ⟨?up, ?down, fun hconf => portRetrain_lowers h hconf, ?ability, ?fault, ?cleared, ?flush⟩, ?idle⟩
  case up =>
    intro an lt hconf hup hdown han hlt
    obtain ⟨t, hexec, hport, htm, hslices, hregs⟩ := linkUp_raises h hconf hup hdown han hlt
    exact ⟨t, hexec, by simp [hport, raisedLink], by simp [hport, raisedLink], by simp [hport, raisedLink],
      by simp [hport, raisedLink], by simp [hport, raisedLink], htm, hslices, hregs⟩
  case down =>
    intro locks signal cdr fault hconf hlink
    obtain ⟨t, hexec, hseen⟩ := linkDown_lowers h ⟨locks, signal, cdr, fault⟩ hconf hlink
    simp only [State.linkSeen, Prod.mk.injEq] at hseen
    obtain ⟨hdown, hlocal, hcoh, htime, hmgt⟩ := hseen
    exact ⟨t, hexec, hdown, hlocal, hcoh, htime, hmgt⟩
  case ability =>
    intro hconf hup han hdown
    have hframe : ∀ x0 x1 x2 x3 x4, ({ s.renegotiate p with ports := x0, lanes := x1, ctr := x2, evr := x3, out := x4 } : State) =
        { s with ports := x0, lanes := x1, ctr := x2, evr := x3, out := x4 } := fun x0 x1 x2 x3 x4 =>
      State.renegotiate_keeps (fun u => ({ u with ports := x0, lanes := x1, ctr := x2, evr := x3, out := x4 } : State))
        (fun _ _ _ _ => rfl) s p
    have hport := s.port_renegotiate p
    rcases exec_anNoCommonAbility h hconf hup han hdown with hexec | hexec
    · exact ⟨_, hexec, by rw [hport], by rw [hport]; exact hdown, hframe _ _ _ _ _⟩
    · refine ⟨_, hexec, ?_, ?_, ?_⟩
      · rw [State.event_keeps (State.port · p) (fun _ _ _ _ => rfl), State.port_modPort_self, hport]
      · rw [State.event_keeps (State.port · p) (fun _ _ _ _ => rfl), State.port_modPort_self, hport]
        exact hdown
      · refine Eq.trans ?_ (hframe _ _ _ _ _)
        exact State.event_keeps (fun u => ({ u with ports := _, lanes := _, ctr := _, evr := _, out := _ } : State))
          (fun _ _ _ _ => rfl) _ _ _ _
  case fault =>
    intro hlink hnone
    have hexec : exec (.remoteFault p) s = execRemoteFault p s := rfl
    simp [hexec, execRemoteFault, whenWorking_of_serving h, hlink, hnone]
  case cleared =>
    intro hfault
    have hexec : exec (.remoteFaultCleared p) s = execRemoteFaultCleared p s := rfl
    simp [hexec, execRemoteFaultCleared, whenWorking_of_serving h, hfault]
  case flush =>
    intro hflushing
    have hexec : exec (.flushOnDownComplete p) s = execFlushOnDownComplete p s := rfl
    simp [hexec, execFlushOnDownComplete, whenWorking_of_serving h, hflushing]
  case idle =>
    intro s p h hconf hdue hfifo
    refine ⟨_, exec_portIdleMarker h hconf hdue hfifo, ?_, ?_, ?_, ?_, ?_⟩
    · rw [State.applySaOps_keeps (State.front · p) (fun _ _ _ => rfl)]
      simp [State.front, State.markIdle, State.advanceFront]
    · rw [State.applySaOps_keeps State.ldg (fun _ _ _ => rfl)]
      simp [State.markIdle, State.advanceFront]
    · intro q hq
      rw [State.applySaOps_keeps (State.front · q) (fun _ _ _ => rfl)]
      simp [State.front, State.markIdle, State.advanceFront, Table.getD_set_ne _ hq]
    · exact State.applySaOps_keeps (fun u => ({ u with ldg := _, ports := _, regs := _ } : State)) (fun _ _ _ => rfl) _ p _
    · exact fun hnone => State.applySaOps_none (s := s.markIdle p) hnone _

end Sys2Proof.Machine
end

section
/-! PROOFS. The entry of a slice (R23, R24, R186, R373 to R378): what forming a leaf does to the ledger, and the two admissions. -/

namespace Sys2Proof.Machine

/-! ### Ledger steps do not move the ports' fronts -/

@[simp] theorem State.fronts_modReam (s : State) (n : Nat) (f : ReamSt → ReamSt) : (s.modReam n f).ldg.fronts = s.ldg.fronts := rfl

@[simp] theorem State.fronts_checkRefuse (s : State) : s.checkRefuse.ldg.fronts = s.ldg.fronts := by
  unfold State.checkRefuse
  split_ifs <;> simp

@[simp] theorem State.fronts_stageRecord (s : State) (l : Leaf) (n : Nat) (p : Option Nat) :
    (s.stageRecord l n p).ldg.fronts = s.ldg.fronts := by
  unfold State.stageRecord
  dsimp only
  split_ifs <;> simp

@[simp] theorem State.fronts_postLeaf (s : State) (l : Leaf) (d : Nat) : (s.postLeaf l d).ldg.fronts = s.ldg.fronts := by
  unfold State.postLeaf
  dsimp only
  split_ifs <;> simp

@[simp] theorem State.fronts_inFlight (s : State) (r : ReamSt) (l : Leaf) : (s.inFlight r l).ldg.fronts = s.ldg.fronts := by
  unfold State.inFlight
  dsimp only
  split_ifs <;> simp

@[simp] theorem State.fronts_sealedBefore (s : State) (f : Frame) : (s.sealedBefore f).ldg.fronts = s.ldg.fronts := by
  unfold State.sealedBefore
  split
  · split_ifs <;> simp
  · rfl

@[simp] theorem State.fronts_formLeaf (s : State) (f : Frame) (d : Nat) (k : Bool) :
    (s.formLeaf f d k).ldg.fronts = s.ldg.fronts := by
  unfold State.formLeaf
  dsimp only
  split
  · split_ifs <;> simp
  · split
    · split_ifs <;> simp
    · split_ifs <;> simp

/-! ### The leaves of an open Ream -/

/-- The frame leaves of a Ream that is not sealed. -/
def State.leavesOf (s : State) (n : Nat) : Option (List Leaf) := (s.openReam n).map (·.frames)

/-- A change of a Ream that keeps its number is seen in that Ream alone. -/
theorem State.openReam_modReam (s : State) (n m : Nat) (f : ReamSt → ReamSt) (hf : ∀ c, (f c).num = c.num) :
    (s.modReam n f).openReam m = (s.openReam m).map fun c => if c.num = n then f c else c := by
  have hnum : ∀ c : ReamSt, (if c.num = n then f c else c).num = c.num := fun c => by split <;> simp [hf]
  have hended : (s.ldg.ended.map fun c => if c.num = n then f c else c).find? (·.num = m) =
      (s.ldg.ended.find? (·.num = m)).map fun c => if c.num = n then f c else c := by
    rw [List.find?_map]
    simp [hnum]
  unfold State.openReam State.modReam
  cases hcur : s.ldg.cur with
  | none => exact hended
  | some c =>
    simp only [Option.map_some, hnum]
    split
    · rfl
    · exact hended

/-- A change that adds no leaf. -/
theorem State.leavesOf_modReam (s : State) (n m : Nat) (f : ReamSt → ReamSt) (hf : ∀ c, (f c).num = c.num)
    (hframes : ∀ c, (f c).frames = c.frames) : (s.modReam n f).leavesOf m = s.leavesOf m := by
  unfold State.leavesOf
  rw [s.openReam_modReam n m f hf, Option.map_map]
  congr 1
  funext c
  dsimp only [Function.comp]
  split <;> simp [hframes]

theorem State.leavesOf_checkRefuse (s : State) (m : Nat) : s.checkRefuse.leavesOf m = s.leavesOf m := by
  unfold State.checkRefuse
  split_ifs
  · exact State.event_keeps (State.leavesOf · m) (fun _ _ _ _ => rfl) _ _ _ _
  · rfl
  · exact State.event_keeps (State.leavesOf · m) (fun _ _ _ _ => rfl) _ _ _ _
  · rfl

/-- A record adds no leaf, whether it enters staging or is missing from it (R238). -/
theorem State.leavesOf_stageRecord (s : State) (l : Leaf) (n m : Nat) (p : Option Nat) :
    (s.stageRecord l n p).leavesOf m = s.leavesOf m := by
  unfold State.stageRecord
  extract_lets missing full room set
  split
  · exact State.leavesOf_checkRefuse _ m
  · rw [State.leavesOf_checkRefuse, State.bumpAt_keeps (State.leavesOf · m) (fun _ _ _ => rfl)]
    exact s.leavesOf_modReam n m _ (fun _ => rfl) fun _ => rfl

/-- The state in which the Ream builder no longer waits for a frame. -/
def State.undecidedDone (s : State) (f : Frame) : State := { s with ldg := { s.ldg with undecided := s.ldg.undecided.erase f.id } }

/-- An open Ream goes by its number. -/
theorem State.num_openReam {s : State} {n : Nat} {r : ReamSt} (h : s.openReam n = some r) : r.num = n := by
  unfold State.openReam at h
  split at h
  · split at h
    · cases h; assumption
    · simpa using List.find?_some h
  · simpa using List.find?_some h

/-- A leaf put in its place in a Ream. -/
theorem State.leavesOf_insert (s : State) (n : Nat) (l : Leaf) :
    (s.modReam n fun c => { c with frames := insertLeaf l c.frames }).leavesOf n = (s.leavesOf n).map (insertLeaf l) := by
  unfold State.leavesOf
  rw [s.openReam_modReam n n _ (by simp), Option.map_map, Option.map_map]
  cases hr : s.openReam n with
  | none => rfl
  | some r => simp [s.num_openReam hr]

/-- The leaf of a frame whose Ream takes it goes to its place among that Ream's (R185, R189). -/
theorem State.leavesOf_formLeaf (s : State) (f : Frame) (d : Nat) (r : ReamSt) (hr : s.openReam f.ream = some r)
    (htakes : s.takesLeaf r = true) :
    (s.formLeaf f d false).leavesOf f.ream = some (insertLeaf (f.leaf d (r.mask.testBit f.d.ledgerClass)) r.frames) := by
  have hopen : (s.undecidedDone f).openReam f.ream = some r := hr
  have hsealed : (s.undecidedDone f).sealedBefore f = s.undecidedDone f := by
    have htakes : (s.undecidedDone f).takesLeaf r = true := htakes
    simp [State.sealedBefore, hopen, htakes]
  have hleaf : ((s.undecidedDone f).modReam f.ream fun c => { c with
      frames := insertLeaf (f.leaf d (r.mask.testBit f.d.ledgerClass)) c.frames }).leavesOf f.ream =
      some (insertLeaf (f.leaf d (r.mask.testBit f.d.ledgerClass)) r.frames) := by
    rw [State.leavesOf_insert, State.leavesOf, hopen]
    rfl
  have hfilter : ((s.undecidedDone f).openReam f.ream).filter (s.undecidedDone f).takesLeaf = some r := by
    have htakes : (s.undecidedDone f).takesLeaf r = true := htakes
    simp [hopen, htakes]
  have hform : s.formLeaf f d false = _ := State.formLeaf.eq_1 s f d false
  rw [hform, ← State.undecidedDone.eq_1, hsealed]
  simp only [hfilter]
  split
  · exact (State.leavesOf_stageRecord _ _ _ _ _).trans hleaf
  · exact hleaf

/-! ### The admission of a port's frame -/

/-- The state in which the oldest frame of a port's FIFO leaves it, and the port's front moves over it (R23, R373). -/
def State.takeOldest (s : State) (p : Nat) (f : Frame) (rest : List Frame) : State :=
  (s.modPort p fun x => { x with fifo := rest }).advanceFront p f.stamp

/-- A port frame as it enters its slice under an admission class (R374). -/
def State.entering (s : State) (f : Frame) (c : Nat) : Frame :=
  { f with admClass := c, cells := cellsOf f.bytes.length, entered := s.liveMark }

/-- The state in which a frame has entered its slice under an admission class (R372, R373). -/
def State.enterSlice (s : State) (f : Frame) (c : Nat) : State :=
  (s.takeSlice f.slice f.pos c (cellsOf f.bytes.length)).modSlice f.slice fun x =>
    { x with admitted := x.admitted ++ [s.entering f c] }

@[simp] theorem State.port_takeOldest (s : State) (p : Nat) (f : Frame) (rest : List Frame) :
    ((s.takeOldest p f rest).port p).fifo = rest :=
  congrArg PortSt.fifo (s.port_modPort_self p fun x => { x with fifo := rest })

@[simp] theorem State.front_takeOldest (s : State) (p : Nat) (f : Frame) (rest : List Frame) :
    (s.takeOldest p f rest).front p = max (s.front p) f.stamp := by
  simp [State.takeOldest, State.front, State.advanceFront]

/-- The slice of a frame that has entered it: the frame waits there, and its class holds its cells. -/
theorem State.slice_enterSlice (s : State) (f : Frame) (c : Nat) :
    ((s.enterSlice f c).slice f.slice).admitted = (s.slice f.slice).admitted ++ [s.entering f c] ∧
      ((s.enterSlice f c).slice f.slice).cells.getD (f.pos * 16 + c) 0 =
        (s.slice f.slice).cells.getD (f.pos * 16 + c) 0 + cellsOf f.bytes.length := by
  simp [State.enterSlice, State.takeSlice, Table.modify]

section Admission

variable {s : State} {p : Nat} {f : Frame} {rest : List Frame} (h : Serving s) (hfifo : (s.port p).fifo = f :: rest)
  (hworks : s.working .slice 0 f.slice = true) (hmark : s.mrg.stepMark ≤ f.ream)
include h hfifo hworks hmark

/-- HEADBOX_ADMISSION of a frame whose port's front still counts: what it does to the frame is decided where the frame has left the
FIFO (R375 to R377). -/
theorem exec_headboxAdmission : exec (.headboxAdmission p) s =
    let u := s.takeOldest p f rest
    let c := s.classOf f.slice f.pos f
    if s.admits f.slice f.pos c (cellsOf f.bytes.length) = false then
      .next (((u.count (C.hbxAdmDrop f.slice c) 1 f.stamp).count (C.hbxPortDrop f.slice f.pos) 1 f.stamp).formLeaf f 0x11 false)
    else if (s.slice f.slice).free < cellsOf f.bytes.length then
      .next ((u.count (C.hbxNobufDrop f.slice) 1 f.stamp).formLeaf f 0x12 false)
    else .next (u.enterSlice f c) := by
  have hexec : exec (.headboxAdmission p) s = execHeadboxAdmission p s := rfl
  rw [hexec, execHeadboxAdmission, whenWorking_of_serving h]
  have hfront : (s.modPort p fun x => { x with fifo := rest }).mrg.stepMark = s.mrg.stepMark := rfl
  have hclass : (s.takeOldest p f rest).classOf f.slice f.pos f = s.classOf f.slice f.pos f := rfl
  have hadmits : (s.takeOldest p f rest).admits = s.admits := rfl
  have hslice : (s.takeOldest p f rest).slice f.slice = s.slice f.slice := rfl
  have hmark' : (s.takeOldest p f rest).liveMark = s.liveMark := rfl
  simp only [hfifo, hworks, hfront, Nat.not_lt.mpr hmark, if_false, ← State.takeOldest.eq_1, hclass, hadmits, hslice, hmark',
    Bool.not_true, Bool.not_eq_true', State.enterSlice, State.entering, Bool.false_eq_true]

/-- A frame that R375 admits, with cells free for it, enters its slice. -/
theorem headboxAdmission_enters (hadm : s.admits f.slice f.pos (s.classOf f.slice f.pos f) (cellsOf f.bytes.length) = true)
    (hfree : cellsOf f.bytes.length ≤ (s.slice f.slice).free) :
    exec (.headboxAdmission p) s = .next ((s.takeOldest p f rest).enterSlice f (s.classOf f.slice f.pos f)) := by
  simp [exec_headboxAdmission h hfifo hworks hmark, hadm, Nat.not_lt.mpr hfree]

end Admission

/-- A frame dropped at the entry (R376, R377), whatever the drop has counted: it has left the FIFO, the front has moved over it, and its
leaf stands under its code in the Ream that takes it. -/
theorem takeOldest_dropped {s u : State} {p : Nat} {f : Frame} {rest : List Frame}
    (hu : ∀ c, ({ u with ctr := c } : State) = { s.takeOldest p f rest with ctr := c }) (d : Nat) :
    let t := u.formLeaf f d false
    (t.port p).fifo = rest ∧ t.front p = max (s.front p) f.stamp ∧ t.slices = s.slices ∧ t.tm = s.tm ∧ t.qm = s.qm ∧
      ∀ r, s.openReam f.ream = some r → s.takesLeaf r = true → ∃ r', t.openReam f.ream = some r' ∧
        r'.frames = insertLeaf (f.leaf d (r.mask.testBit f.d.ledgerClass)) r.frames := by
  obtain ⟨c, rfl⟩ : ∃ c, u = { s.takeOldest p f rest with ctr := c } := ⟨u.ctr, hu u.ctr⟩
  refine ⟨?_, ?_, ?_, ?_, ?_, ?_⟩
  · exact (State.formLeaf_keeps (fun v => (v.port p).fifo) (fun _ _ _ _ _ _ => rfl) _ f d false).trans (s.port_takeOldest p f rest)
  · rw [State.front, State.fronts_formLeaf]
    exact s.front_takeOldest p f rest
  · exact State.formLeaf_keeps State.slices (fun _ _ _ _ _ _ => rfl) _ f d false
  · exact State.formLeaf_keeps State.tm (fun _ _ _ _ _ _ => rfl) _ f d false
  · exact State.formLeaf_keeps State.qm (fun _ _ _ _ _ _ => rfl) _ f d false
  · intro r hr htakes
    exact Option.map_eq_some_iff.mp (State.leavesOf_formLeaf _ f d r hr htakes)

/-! ### The admission of an injected frame -/

/-- An injected frame as it enters its slice: stamped with the time of its entry, with the epoch, the bank, the Ream and the ledger class
of that time (R24, R25, R181, R665). -/
def State.stampInjected (s : State) (f : Frame) : Frame :=
  { f with
    stamp := s.now, epoch := s.epochAt s.now, bank := s.bankAt s.now, ream := s.reamOf s.now, leafLen := f.bytes.length
    digest := sm3 f.bytes
    d := { f.d with
      ledgerClass := s.fld F.ldgInjClass_class
      rel := f.d.rel.map fun r => (r.1, fullStamp (shortStamp r.2) s.now) } }

/-- The same with the cells that it takes and the point of its entry. -/
def State.enterInjected (s : State) (f : Frame) : Frame :=
  { s.stampInjected f with cells := cellsOf f.bytes.length, entered := s.liveMark }

/-- The state in which the frame that waits longest no longer waits. -/
def State.takeInjected (s : State) (n : Nat) (rest : List Frame) : State := s.modSlice n fun x => { x with injWait := rest }

@[simp] theorem State.slice_takeInjected (s : State) (n : Nat) (rest : List Frame) :
    (s.takeInjected n rest).slice n = { s.slice n with injWait := rest } :=
  s.slice_modSlice_self n _

@[simp] theorem State.slice_addUndecided (s : State) (f : Frame) (n : Nat) : (s.addUndecided f).slice n = s.slice n := rfl

/-- A frame dropped inside its slice gives back its cells and leaves what waits to enter (R192). -/
theorem State.dropInSlice_keeps_waiting (s : State) (f : Frame) (d n : Nat) :
    ((s.dropInSlice f d).slice n).injWait = (s.slice n).injWait ∧ ((s.dropInSlice f d).slice n).injected = (s.slice n).injected := by
  have hform : ∀ k, (s.formLeaf f d k).slice n = s.slice n := fun k =>
    State.formLeaf_keeps (State.slice · n) (fun _ _ _ _ _ _ => rfl) s f d k
  have hdrop : ∃ u : State, u.slice n = s.slice n ∧ (s.dropInSlice f d).slice n = (u.freeSlice f).slice n := ⟨_, hform _, rfl⟩
  obtain ⟨u, hu, hdrop⟩ := hdrop
  rw [hdrop, ← hu, State.freeSlice]
  by_cases hn : n = f.slice
  · subst hn
    rw [State.slice_modSlice_self]
    exact ⟨rfl, rfl⟩
  · rw [u.slice_modSlice_ne hn]
    exact ⟨rfl, rfl⟩

section Injection

variable {s : State} {n : Nat} {f : Frame} {rest : List Frame} (h : Serving s) (hwait : (s.slice n).injWait = f :: rest)
  (hworks : s.working .slice 0 n = true)
include h hwait hworks

/-- INJECTED_FRAME_ADMISSION: whether R375 admits the frame and whether cells are free decide what becomes of it. -/
theorem exec_injectedFrameAdmission : exec (.injectedFrameAdmission n) s =
    let u := s.takeInjected n rest
    if s.admits n injPos f.admClass (cellsOf f.bytes.length) = false then .next s
    else if (s.slice n).free < cellsOf f.bytes.length then
      .next ((u.count (C.hbxNobufDrop n) 1 s.now).dropInSlice (s.stampInjected f) 0x12)
    else .next (((u.takeSlice n injPos f.admClass (cellsOf f.bytes.length)).modSlice n fun x =>
      { x with injected := x.injected ++ [s.enterInjected f] }).addUndecided (s.enterInjected f)) := by
  have hexec : exec (.injectedFrameAdmission n) s = execInjectedFrameAdmission n s := rfl
  have hfree : ((s.takeInjected n rest).slice n).free = (s.slice n).free := by
    rw [State.slice_takeInjected]
    rfl
  have hmark : (s.takeInjected n rest).liveMark = s.liveMark := rfl
  rw [hexec, execInjectedFrameAdmission, whenWorking_of_serving h]
  simp only [hwait, hworks, ← State.takeInjected.eq_1, hfree, hmark]
  cases s.admits n injPos f.admClass (cellsOf f.bytes.length) <;> rfl

end Injection

/-- Settles O14: a drop forms its leaf where the frame has left the FIFO, which moves no front; else the slice alone changes. -/
theorem sliceEntry : Obligations.SliceEntry := by
  unfold Obligations.SliceEntry
  refine ⟨fun s p f rest h hfifo hworks hmark => ⟨?enters, ?refused, ?short⟩,
    fun s n f rest h hwait hworks => ⟨?injected, ?dropped, ?waits⟩⟩
  case enters =>
    intro hadm hfree
    obtain ⟨hadmitted, hcells⟩ := (s.takeOldest p f rest).slice_enterSlice f (s.classOf f.slice f.pos f)
    exact ⟨_, headboxAdmission_enters h hfifo hworks hmark hadm hfree, s.port_takeOldest p f rest, s.front_takeOldest p f rest,
      hadmitted, hcells, rfl⟩
  case refused =>
    intro hadm
    refine ⟨_, (exec_headboxAdmission h hfifo hworks hmark).trans (if_pos hadm), ?_⟩
    refine takeOldest_dropped (fun c => ?_) 0x11
    exact (State.count_keeps (fun u => ({ u with ctr := c } : State)) (fun _ _ => rfl) _ _ _ _).trans
      (State.count_keeps (fun u => ({ u with ctr := c } : State)) (fun _ _ => rfl) _ _ _ _)
  case short =>
    intro hadm hfree
    have hpass : s.admits f.slice f.pos (s.classOf f.slice f.pos f) (cellsOf f.bytes.length) ≠ false := by simp [hadm]
    refine ⟨_, (exec_headboxAdmission h hfifo hworks hmark).trans ((if_neg hpass).trans (if_pos hfree)), ?_⟩
    refine takeOldest_dropped (fun c => ?_) 0x12
    exact State.count_keeps (fun u => ({ u with ctr := c } : State)) (fun _ _ => rfl) _ _ _ _
  case injected =>
    intro hadm hfree
    have hpass : s.admits n injPos f.admClass (cellsOf f.bytes.length) ≠ false := by simp [hadm]
    refine ⟨_, s.enterInjected f,
      (exec_injectedFrameAdmission h hwait hworks).trans ((if_neg hpass).trans (if_neg (Nat.not_lt.mpr hfree))), ?_⟩
    refine ⟨?_, ?_, rfl, ?_, rfl⟩
    · simp [State.takeSlice]
    · simp [State.takeSlice]
    · simp [State.addUndecided, State.enterInjected, State.stampInjected]
  case dropped =>
    intro hadm hfree
    have hpass : s.admits n injPos f.admClass (cellsOf f.bytes.length) ≠ false := by simp [hadm]
    refine ⟨_, (exec_injectedFrameAdmission h hwait hworks).trans ((if_neg hpass).trans (if_pos hfree)), ?_⟩
    have hslice := fun u => State.dropInSlice_keeps_waiting u (s.stampInjected f) 0x12 n
    have hcount : ∀ u : State, (u.count (C.hbxNobufDrop n) 1 s.now).slice n = u.slice n := fun u =>
      State.count_keeps (State.slice · n) (fun _ _ => rfl) u _ _ _
    refine ⟨?_, ?_, ?_, ?_⟩
    · rw [(hslice _).1, hcount, s.slice_takeInjected]
    · rw [(hslice _).2, hcount, s.slice_takeInjected]
    · exact (State.formLeaf_keeps State.tm (fun _ _ _ _ _ _ => rfl) _ _ _ _).trans
        (State.count_keeps State.tm (fun _ _ => rfl) _ _ _ _)
    · exact (State.formLeaf_keeps State.ports (fun _ _ _ _ _ _ => rfl) _ _ _ _).trans
        (State.count_keeps State.ports (fun _ _ => rfl) _ _ _ _)
  case waits =>
    exact fun hadm => (exec_injectedFrameAdmission h hwait hworks).trans (if_pos hadm)

end Sys2Proof.Machine
end

section
/-! PROOFS. The coherent commit (R24 to R34, R447 to R453, R702): accepted, armed, in effect at T_c, drained, and abort. -/

namespace Sys2Proof.Machine

/-- An admin command of the PF that can start and goes on runs its body on the opened state (R637 to R641). -/
theorem runAdmin_waits_pf {r : AdminRef} {s t : State} {recOk : Bool} {body : State → AdminRes} (h : PfStarts r s)
    (hb : body (s.adminOpen r) = (t, none)) : runAdmin true recOk r s body = .next t := by
  have hmay : (true && decide (r.fn ≠ 0)) = false := by simp [h.pf]
  have hstage : (s.adminOpen r).mgt.stage ≠ .recovery := by simpa using h.starts.stage
  simp only [runAdmin, whenWorking_of_serving h.starts.serving, h.starts.ready, h.starts.atHand, h.starts.reserved, hmay, hstage, hb]
  simp

/-! ### What the steps of a commit leave alone -/

section Steps

variable {β : Sort _} (obs : State → β)

/-- The rows of a slice change only its tables. -/
theorem State.dropRows_keeps (h : ∀ (s : State) x, obs { s with flow := { s.flow with slices := x } } = obs s) (s : State) (n : Nat)
    (tag : Bool) : obs (s.dropRows n tag) = obs s := h s _

theorem State.copyRows_keeps (h : ∀ (s : State) x, obs { s with flow := { s.flow with slices := x } } = obs s) (s : State) (n : Nat) :
    obs (s.copyRows n) = obs s := h s _

/-- A record taken up for writing changes only the store. -/
theorem State.jrnStart_keeps (h : ∀ (s : State) x, obs { s with nvm := x } = obs s) (s : State) (k : JrnKind) (why : JrnPurpose) :
    obs (s.jrnStart k why) = obs s := h s _

theorem State.reserveEpochs_keeps (h : ∀ (s : State) x, obs { s with nvm := x } = obs s) (s : State) :
    obs s.reserveEpochs = obs s := by
  unfold State.reserveEpochs
  dsimp only
  split
  · rfl
  · exact s.jrnStart_keeps obs h _ _

theorem State.polNotices_keeps (h : ∀ (s : State) x0 x1 x2, obs { s with evr := x0, out := x1, ctr := x2 } = obs s) (s : State) :
    obs s.polNotices = obs s :=
  foldl_keeps obs _ (fun u _ => State.event_keeps obs h u _ _ _) _ s

/-- Staged words put in effect change only the words of the registers. -/
theorem State.applyWords_keeps (h : ∀ (s : State) x, obs { s with regs := { s.regs with cells := x } } = obs s) (s : State) (c : Cls)
    (w : Table Word) : obs (s.applyWords c w) = obs s :=
  foldl_keeps obs _ (fun u _ => h u _) _ s

/-- Making the inactive bank ready changes only banks and rows. -/
theorem State.readyBank_keeps (hrows : ∀ (s : State) x, obs { s with flow := { s.flow with slices := x } } = obs s)
    (hbank : ∀ (s : State) b, obs (s.setBank (!s.coh.bankTag) b) = obs s) (s : State) : obs s.readyBank = obs s := by
  unfold State.readyBank
  split
  · rfl
  · refine (foldl_keeps obs _ (fun u n => ?_) _ _).trans (hbank s _)
    exact (State.copyRows_keeps obs hrows _ _).trans (u.dropRows_keeps obs hrows _ _)

/-- Discarding what is staged changes only the shadows, banks and rows. -/
theorem State.discardStaged_keeps (hrows : ∀ (s : State) x, obs { s with flow := { s.flow with slices := x } } = obs s)
    (hbank : ∀ (s : State) b, obs (s.setBank (!s.coh.bankTag) b) = obs s)
    (hstaged : ∀ (s : State) x0 x1 x2 x3, obs { s with
      regs := { s.regs with shadow := x0, polShadow := x1 }, coh := { s.coh with staged := x2, image := x3 } } = obs s) (s : State) :
    obs s.discardStaged = obs s := by
  refine (hstaged _ _ _ _ _).trans ?_
  split
  · rfl
  · exact (foldl_keeps obs _ (fun u n => u.dropRows_keeps obs hrows _ _) _ _).trans (hbank s _)

end Steps

/-- The bank in effect. -/
def State.activeBank (s : State) : Option Bank := s.bank s.coh.bankTag

/-- Writing the inactive bank does not touch the bank in effect. -/
theorem State.activeBank_setBank (s : State) (b : Option Bank) : (s.setBank (!s.coh.bankTag) b).activeBank = s.activeBank := by
  have hcoh : (s.setBank (!s.coh.bankTag) b).coh = s.coh := s.setBank_keeps State.coh (fun _ _ => rfl) _ b
  rw [State.activeBank, hcoh, State.bank_setBank_not]
  rfl

theorem State.activeBank_discardStaged (s : State) : s.discardStaged.activeBank = s.activeBank :=
  s.discardStaged_keeps State.activeBank (fun _ _ => rfl) State.activeBank_setBank fun _ _ _ _ _ => rfl

theorem State.cells_discardStaged (s : State) : s.discardStaged.regs.cells = s.regs.cells :=
  s.discardStaged_keeps (fun u => u.regs.cells) (fun _ _ => rfl)
    (fun u b => u.setBank_keeps (fun v => v.regs.cells) (fun _ _ => rfl) _ b) fun _ _ _ _ _ => rfl

theorem State.coh_discardStaged (s : State) : s.discardStaged.coh = { s.coh with staged := 0, image := none } :=
  s.discardStaged_keeps (fun u => ({ u.coh with staged := 0, image := none } : Coherent)) (fun _ _ => rfl)
    (fun u b => u.setBank_keeps (fun v => ({ v.coh with staged := 0, image := none } : Coherent)) (fun _ _ => rfl) _ b)
    fun _ _ _ _ _ => rfl

/-! ### CONFIG_COMMIT and CONFIG_ABORT -/

/-- No commit is on its way and another can be assigned (R28, R32, R33). -/
structure CommitFree (s : State) : Prop where
  staged : s.coh.staged ≠ 2
  idle : s.coh.phase = .idle
  drained : s.coh.draining = []
  ream : s.coh.reamPending = false
  epochs : s.coh.assigned < 0xFFFFFFFF

/-- The records of a persistent commit taken up for writing: its image, where one is staged, then its COMMIT record (R700, R702). -/
def State.startJournal (s : State) : State :=
  (match s.coh.image with
    | some i => s.jrnStart (.bankImage i) .commit
    | none => s).jrnStart s.commitRecord .commit

theorem State.startJournal_keeps {β : Sort _} (obs : State → β)
    (hobs : ∀ (s : State) x, obs { s with nvm := x } = obs s) (s : State) :
    obs s.startJournal = obs s := by
  unfold State.startJournal
  split
  · exact (State.jrnStart_keeps obs hobs _ _ _).trans (s.jrnStart_keeps obs hobs _ _)
  · exact s.jrnStart_keeps obs hobs _ _

/-- The COMMIT record is the last that is written. -/
theorem State.startJournal_writes (s : State) : ∃ l x, s.startJournal.nvm.writing = s.nvm.writing ++ l ++ [x] ∧
    x.1.kind = s.commitRecord ∧ x.2 = .commit := by
  unfold State.startJournal
  split
  · exact ⟨[_], _, by simp only [State.jrnStart]; rfl, rfl, rfl⟩
  · exact ⟨[], _, by simp only [State.jrnStart, List.append_nil]; rfl, rfl, rfl⟩

theorem exec_configCommit (r : AdminRef) (flags : Nat) (s : State) : exec (.configCommit r flags) s = execConfigCommit r flags s := rfl

section Commands

variable {s : State} {r : AdminRef} (h : PfStarts r s)
include h

/-- Flags out of range, or a staged bank that is EMPTY, are refused (R447, R449). -/
theorem configCommit_invalid {flags : Nat} (hbad : 2 ≤ flags ∨ s.coh.staged = 2) :
    exec (.configCommit r flags) s = ends s r (s.adminOpen r) stInvalidField [] :=
  (exec_configCommit r flags s).trans <| runAdmin_completes_pf h <| by simp [hbad, failWith]

/-- A second commit is refused before the first has drained (R32). -/
theorem configCommit_pending {flags : Nat} (hflags : flags < 2) (hstaged : s.coh.staged ≠ 2)
    (hbusy : s.coh.phase ≠ .idle ∨ s.coh.draining ≠ []) :
    exec (.configCommit r flags) s = ends s r (s.adminOpen r) stCommitPending [] :=
  (exec_configCommit r flags s).trans <| runAdmin_completes_pf h <| by simp [hflags, hstaged, hbusy, failWith]

/-- A commit that is not persistent arms the units (R29). -/
theorem configCommit_arms (hfree : CommitFree s) : exec (.configCommit r 0) s = .next { s.adminOpen r with
    coh := { s.coh with phase := .arming, persistent := false, token := some (s.token r) } } := by
  obtain ⟨hstaged, hidle, hdrained, hream, hepochs⟩ := hfree
  refine (exec_configCommit r 0 s).trans (runAdmin_waits_pf h ?_)
  simp [hstaged, hidle, hdrained, hream, Nat.not_le.mpr hepochs, State.startArming, State.token]

/-- A persistent commit that finds room goes to the journal before the units arm (R451, R702). -/
theorem configCommit_journals (hfree : CommitFree s) (hrate : s.recentPersist < 200) (hroom : 1024 + s.commitPages ≤ s.freePages) :
    exec (.configCommit r 1) s = .next { (s.adminOpen r).startJournal with
      coh := { s.coh with phase := .journal, persistent := true, token := some (s.token r) } } := by
  obtain ⟨hstaged, hidle, hdrained, hream, hepochs⟩ := hfree
  have hcoh : (s.adminOpen r).coh = s.coh := State.adminOpen_keeps State.coh (fun _ _ _ _ => rfl) s r
  have hfull : ¬(1 = 1 ∧ 200 ≤ (s.adminOpen r).recentPersist) := by
    rw [State.adminOpen_keeps State.recentPersist (fun _ _ _ _ => rfl)]
    omega
  have hpages : ¬(s.adminOpen r).freePages < 1024 + (s.adminOpen r).commitPages := by
    rw [State.adminOpen_keeps State.freePages (fun _ _ _ _ => rfl), State.adminOpen_keeps State.commitPages (fun _ _ _ _ => rfl)]
    omega
  have hkept : (s.adminOpen r).startJournal.coh = s.coh := ((s.adminOpen r).startJournal_keeps State.coh fun _ _ => rfl).trans hcoh
  have htok : (s.adminOpen r).startJournal.tok r = s.token r := (s.adminOpen r).startJournal_keeps (State.tok · r) fun _ _ => rfl
  refine (exec_configCommit r 1 s).trans (runAdmin_waits_pf h ?_)
  rw [← hkept, ← htok]
  refine (if_neg (by simp [hstaged])).trans <| (if_neg (by simp [hidle, hdrained])).trans <| (if_neg (by simp [hream])).trans <|
    (if_neg hfull).trans <| (if_neg (by rw [hcoh]; omega)).trans <| (if_neg (by decide)).trans <| (if_neg hpages).trans rfl

/-- CONFIG_ABORT discards what is staged (R17, R453). -/
theorem exec_configAbort : exec (.configAbort r) s = ends s r (s.adminOpen r).discardStaged stSuccess [] :=
  (show exec (.configAbort r) s = execConfigAbort r s from rfl).trans (runAdmin_completes_pf h rfl)

end Commands

/-! ### COMMIT_UNITS_ARMED and COMMIT_TIME_REACHED -/

/-- What follows the loading of the shadows counts the commit, completes its command and may reserve epochs. -/
theorem State.armTail_keeps {β : Sort _} (obs : State → β)
    (h : ∀ (s : State) x0 x1 x2 x3 x4, obs { s with out := x0, hif := x1, qm := x2, ctr := x3, nvm := x4 } = obs s) (s : State)
    (persist : Bool) (tok : Option AdminTok) (wb : List (Nat × Bytes)) :
    obs (((if persist then s.count1 C.nvmPcommits else s).doneIf tok stSuccess wb).reserveEpochs) = obs s := by
  rw [State.reserveEpochs_keeps obs (fun u x => h u u.out u.hif u.qm u.ctr x),
    State.doneIf_keeps obs (fun u o f q => h u o f q u.ctr u.nvm)]
  split
  · exact s.count1_keeps obs (fun u x => h u u.out u.hif u.qm x u.nvm) _
  · rfl

/-- The state whose inactive bank is ready, with the notices of what was refused, on what neither touches. -/
theorem State.readied_keeps {β : Sort _} (obs : State → β)
    (h : ∀ (s : State) x0 x1 x2 x3, obs { s with evr := x0, out := x1, ctr := x2, flow := x3 } = obs s) (s : State) :
    obs s.readyBank.polNotices = obs s :=
  (State.polNotices_keeps obs (fun u e o c => h u e o c u.flow) _).trans
    (s.readyBank_keeps obs (fun u _ => h u u.evr u.out u.ctr _) fun u b =>
      u.setBank_keeps obs (fun v _ => h v v.evr v.out v.ctr _) _ b)

/-- COMMIT_UNITS_ARMED assigns T_c and the next epoch, and loads the shadows (R26, R29). -/
theorem commitUnitsArmed_arms {s : State} (h : Serving s) (hphase : s.coh.phase = .arming) (hroom : s.coh.assigned < s.coh.hwm) :
    ∃ t, exec .commitUnitsArmed s = .next t ∧ t.coh.phase = .armed ∧
      t.coh.tc = s.now + 2 * usStamp ∧ t.coh.assigned = s.coh.assigned + 1 ∧ t.coh.hwm = s.coh.hwm ∧
      t.coh.epoch = s.coh.epoch ∧ t.coh.bankTag = s.coh.bankTag ∧ t.regs.cells = s.regs.cells ∧ t.regs.shadow = Table.empty ∧
      t.activeBank = s.activeBank ∧ t.slices = s.slices ∧ t.ports = s.ports := by
  have hready : s.readyBank.polNotices.coh = s.coh := s.readied_keeps State.coh fun _ _ _ _ _ => rfl
  have hhwm := congrArg Coherent.hwm hready
  have hepoch := congrArg Coherent.epoch hready
  have hbankTag := congrArg Coherent.bankTag hready
  have hcells : s.readyBank.polNotices.regs.cells = s.regs.cells := s.readied_keeps (fun u => u.regs.cells) fun _ _ _ _ _ => rfl
  refine ⟨_, (whenWorking_of_serving h _).trans <| (if_neg (not_not.mpr hphase)).trans (if_neg (Nat.not_le.mpr hroom)),
    ?_, ?_, ?_, ?_, ?_, ?_, ?_, ?_, ?_, ?_, ?_⟩
  · exact congrArg Coherent.phase (State.armTail_keeps State.coh (fun _ _ _ _ _ _ => rfl) _ _ _ _)
  · exact congrArg Coherent.tc (State.armTail_keeps State.coh (fun _ _ _ _ _ _ => rfl) _ _ _ _)
  · exact (congrArg Coherent.assigned (State.armTail_keeps State.coh (fun _ _ _ _ _ _ => rfl) _ _ _ _)).trans
      (congrArg (fun c : Coherent => c.assigned + 1) hready)
  · exact (congrArg Coherent.hwm (State.armTail_keeps State.coh (fun _ _ _ _ _ _ => rfl) _ _ _ _)).trans hhwm
  · exact (congrArg Coherent.epoch (State.armTail_keeps State.coh (fun _ _ _ _ _ _ => rfl) _ _ _ _)).trans hepoch
  · exact (congrArg Coherent.bankTag (State.armTail_keeps State.coh (fun _ _ _ _ _ _ => rfl) _ _ _ _)).trans hbankTag
  · exact (congrArg RegFile.cells (State.armTail_keeps State.regs (fun _ _ _ _ _ _ => rfl) _ _ _ _)).trans hcells
  · exact congrArg RegFile.shadow (State.armTail_keeps State.regs (fun _ _ _ _ _ _ => rfl) _ _ _ _)
  · exact (State.armTail_keeps State.activeBank (fun _ _ _ _ _ _ => rfl) _ _ _ _).trans <|
      (State.polNotices_keeps State.activeBank (fun _ _ _ _ => rfl) _).trans
        (s.readyBank_keeps State.activeBank (fun _ _ => rfl) State.activeBank_setBank)
  · exact (State.armTail_keeps State.slices (fun _ _ _ _ _ _ => rfl) _ _ _ _).trans
      (s.readied_keeps State.slices fun _ _ _ _ _ => rfl)
  · exact (State.armTail_keeps State.ports (fun _ _ _ _ _ _ => rfl) _ _ _ _).trans
      (s.readied_keeps State.ports fun _ _ _ _ _ => rfl)

/-! ### Epochs and banks at T_c -/

/-- Commits that were all in effect by a time do not change what a later stamp sees. -/
theorem valueBefore_of_le {α : Type} (gens : List RegGen) {t : Stamp} (old : RegGen → Option α) (v : α)
    (h : ∀ g ∈ gens, g.tc ≤ t) : valueBefore gens t old v = v := by
  induction gens generalizing v with
  | nil => rfl
  | cons g gens ih =>
    have hg : ¬t < g.tc := Nat.not_lt.mpr (h g (by simp))
    simp only [valueBefore, List.foldl_cons, hg, if_false]
    exact ih v fun x hx => h x (by simp [hx])

/-- The commit at T_c in effect (R25): the values that it replaced are remembered, and every slice drains its old bank (R31). -/
structure CommitTaken (s t : State) : Prop where
  phase : t.coh.phase = .idle
  epoch : t.coh.epoch = s.coh.assigned
  bankTag : t.coh.bankTag = !s.coh.bankTag
  effTc : t.coh.effTc = s.coh.tc
  draining : t.coh.draining = List.range 8
  hist : ∃ g : RegGen, t.regs.hist = g :: s.regs.hist ∧ g.tc = s.coh.tc ∧ g.epoch = s.coh.epoch
  armed : t.regs.armed = Table.empty

section Taken

variable {s t : State} (ht : CommitTaken s t) (harmed : s.coh.phase = .armed)
include ht harmed

/-- Every stamp from the last T_c on keeps the epoch that it had while the commit was armed (R25). -/
theorem epochAt_of_taken {x : Stamp} (hist : ∀ g ∈ s.regs.hist, g.tc ≤ s.coh.effTc) (hx : s.coh.effTc ≤ x) :
    t.epochAt x = s.epochAt x := by
  obtain ⟨hphase, hepoch, -, heff, -, ⟨g, hgens, hg, hold⟩, -⟩ := ht
  have hpast : valueBefore s.regs.hist x (fun g => some g.epoch) s.coh.epoch = s.coh.epoch :=
    valueBefore_of_le _ _ _ fun g hg => (hist g hg).trans hx
  have hlast : ¬x < s.coh.effTc := Nat.not_lt.mpr hx
  by_cases htc : s.coh.tc ≤ x
  · simp [State.epochAt, hphase, harmed, hepoch, heff, htc, Nat.not_lt.mpr htc]
  · have hbefore : x < s.coh.tc := Nat.lt_of_not_le htc
    have hgen : valueBefore t.regs.hist x (fun g => some g.epoch) t.coh.epoch = s.coh.epoch := by
      rw [hgens]
      simpa [valueBefore, hg, hbefore, hold] using hpast
    simp [State.epochAt, hphase, harmed, heff, htc, hbefore, hlast, hgen]

/-- The same of its bank (R30). -/
theorem bankAt_of_taken {x : Stamp} (hx : s.coh.effTc ≤ x) : t.bankAt x = s.bankAt x := by
  have hlast : ¬x < s.coh.effTc := Nat.not_lt.mpr hx
  by_cases htc : s.coh.tc ≤ x
  · simp [State.bankAt, ht.phase, harmed, ht.bankTag, ht.effTc, htc, Nat.not_lt.mpr htc]
  · simp [State.bankAt, ht.phase, harmed, ht.bankTag, ht.effTc, htc, hlast, Nat.lt_of_not_le htc]

end Taken

/-- COMMIT_TIME_REACHED at T_c (R25, R30, R31). -/
theorem commitTimeReached_takes {s : State} (h : Serving s) (harmed : s.coh.phase = .armed) (htc : s.coh.tc ≤ s.now) :
    ∃ t, exec .commitTimeReached s = .next t ∧ CommitTaken s t ∧ t.slices = s.slices ∧ t.ports = s.ports ∧ t.tm = s.tm ∧
      t.flow = s.flow := by
  have hno : ¬(s.coh.phase ≠ .armed ∨ s.now < s.coh.tc) := by simp [harmed, htc]
  have hcoh : (s.applyWords .staged s.regs.armed).coh = s.coh := s.applyWords_keeps State.coh (fun _ _ => rfl) _ _
  have hhist : (s.applyWords .staged s.regs.armed).regs.hist = s.regs.hist :=
    s.applyWords_keeps (fun u => u.regs.hist) (fun _ _ => rfl) _ _
  refine ⟨_, (whenWorking_of_serving h _).trans (if_neg hno), ⟨rfl, congrArg Coherent.assigned hcoh,
    congrArg (fun c : Coherent => !c.bankTag) hcoh, congrArg Coherent.tc hcoh, rfl, ⟨_, congrArg (_ :: ·) hhist, rfl, rfl⟩, rfl⟩,
    ?_, ?_, ?_, ?_⟩
  · exact s.applyWords_keeps State.slices (fun _ _ => rfl) _ _
  · exact s.applyWords_keeps State.ports (fun _ _ => rfl) _ _
  · exact s.applyWords_keeps State.tm (fun _ _ => rfl) _ _
  · exact s.applyWords_keeps State.flow (fun _ _ => rfl) _ _

/-! ### BANK_DRAIN_COMPLETE -/

/-- The state in which a slice has drained its old bank, with its event (R31, R489). -/
def State.sliceDone (s : State) (n : Nat) : State :=
  ({ s.dropRows n (!s.coh.bankTag) with coh := { s.coh with draining := s.coh.draining.erase n } }).event 0x5003 1
    [.q n, .q s.coh.prevEpoch]

theorem State.coh_sliceDone (s : State) (n : Nat) : (s.sliceDone n).coh = { s.coh with draining := s.coh.draining.erase n } :=
  State.event_keeps State.coh (fun _ _ _ _ => rfl) _ _ _ _

/-- The last slice that drains frees the old bank (R31). -/
def State.freeDrained (s : State) (n : Nat) : State :=
  if (s.sliceDone n).coh.draining.isEmpty then (s.sliceDone n).setBank (!(s.sliceDone n).coh.bankTag) none else s.sliceDone n

theorem State.freeDrained_keeps {β : Sort _} (s : State) (n : Nat) (obs : State → β)
    (hbank : ∀ (s : State) b, obs (s.setBank (!s.coh.bankTag) b) = obs s) : obs (s.freeDrained n) = obs (s.sliceDone n) := by
  unfold State.freeDrained
  split
  · exact hbank _ _
  · rfl

theorem exec_bankDrainComplete {s : State} {n : Nat} (h : Serving s) (hdrained : s.sliceDrained n = true) :
    exec (.bankDrainComplete n) s = .next (s.freeDrained n) :=
  (whenWorking_of_serving h _).trans (if_neg (by simp [hdrained]))

/-- Settles O38: a commit in effect at T_c gives each stamp from the last T_c on what the armed commit gave it, and neither arming nor abort
writes the bank in effect. -/
theorem commitProtocol : Obligations.CommitProtocol := by
  unfold Obligations.CommitProtocol
  refine ⟨fun s r flags h => ⟨configCommit_invalid h, configCommit_pending h, ?free, ?abort⟩,
    fun s h => ⟨?waits, ?armed, ?early, ?effect, fun n => ⟨?undrained, ?drained⟩⟩⟩
  case free =>
    intro hstaged hidle hdrained hream hepochs
    have hfree : CommitFree s := ⟨hstaged, hidle, hdrained, hream, hepochs⟩
    refine ⟨configCommit_arms h hfree, fun hrate hroom => ⟨_, configCommit_journals h hfree hrate hroom, rfl, ?_, ?_⟩⟩
    · have hwrites := (s.adminOpen r).startJournal_writes
      rw [State.adminOpen_keeps State.nvm (fun _ _ _ _ => rfl), State.adminOpen_keeps State.commitRecord (fun _ _ _ _ => rfl)] at hwrites
      exact hwrites
    · exact (s.adminOpen r).startJournal_keeps (fun u => ({ u with coh := _, nvm := _ } : State)) fun _ _ => rfl
  case abort =>
    have hregs : (s.adminOpen r).regs = s.regs := State.adminOpen_keeps State.regs (fun _ _ _ _ => rfl) s r
    have hcoh : (s.adminOpen r).coh = s.coh := State.adminOpen_keeps State.coh (fun _ _ _ _ => rfl) s r
    have hactive : (s.adminOpen r).activeBank = s.activeBank := State.adminOpen_keeps State.activeBank (fun _ _ _ _ => rfl) s r
    refine ⟨_, exec_configAbort h, rfl, rfl, ?_, ?_, ?_, ?_⟩
    · rw [State.cells_discardStaged, hregs]
    · rw [State.coh_discardStaged, hcoh]
    · have hbank := (State.activeBank_discardStaged (s.adminOpen r)).trans hactive
      rw [State.activeBank, State.coh_discardStaged, hcoh] at hbank
      exact hbank
    · exact State.discardStaged_keeps (fun u => ({ u with regs := _, coh := _, flow := _ } : State)) (fun _ _ => rfl)
        (fun u b => u.setBank_keeps (fun v => ({ v with regs := _, coh := _, flow := _ } : State)) (fun _ _ => rfl) _ b)
        (fun _ _ _ _ _ => rfl) _
  case waits => exact fun hphase => (whenWorking_of_serving h _).trans (if_pos hphase)
  case armed =>
    intro hphase hroom
    obtain ⟨t, hexec, hphase', htc, hassigned, hhwm, hepoch, htag, hcells, hshadow, hbank, hslices, hports⟩ :=
      commitUnitsArmed_arms h hphase hroom
    rw [State.activeBank, htag] at hbank
    exact ⟨t, hexec, hphase', htc, hassigned, by omega, hepoch, htag, hcells, hshadow, hbank, hslices, hports⟩
  case early => exact fun hno => (whenWorking_of_serving h _).trans (if_pos hno)
  case effect =>
    intro harmed htc
    obtain ⟨t, hexec, ht, hslices, hports, htm, hflow⟩ := commitTimeReached_takes h harmed htc
    refine ⟨t, hexec, ht.phase, ht.epoch, ht.bankTag, ht.draining, fun hist => ⟨fun x hx =>
      ⟨epochAt_of_taken ht harmed hist hx, bankAt_of_taken ht harmed hx⟩, ?_⟩, ht.armed, hslices, hports, htm, hflow⟩
    intro hle g hg
    obtain ⟨g', hgens, hg', -⟩ := ht.hist
    rw [hgens, List.mem_cons] at hg
    rw [ht.effTc]
    rcases hg with rfl | hg
    · exact hg'.le
    · exact (hist g hg).trans hle
  case undrained => exact fun hno => (whenWorking_of_serving h _).trans (if_pos (by simp [hno]))
  case drained =>
    intro hdrained
    have htag : (s.sliceDone n).coh.bankTag = s.coh.bankTag := by rw [s.coh_sliceDone]
    have hcoh : (s.freeDrained n).coh = (s.sliceDone n).coh := s.freeDrained_keeps n State.coh fun u b =>
      u.setBank_keeps State.coh (fun _ _ => rfl) _ b
    have hactive : (s.freeDrained n).activeBank = s.activeBank := (s.freeDrained_keeps n State.activeBank State.activeBank_setBank).trans
      (State.event_keeps State.activeBank (fun _ _ _ _ => rfl) _ _ _ _)
    refine ⟨s.freeDrained n, exec_bankDrainComplete h hdrained, ?_, ?_, ?_, ?_, ?_⟩
    · rw [hcoh, s.coh_sliceDone]
    · rw [State.activeBank, hcoh, htag] at hactive
      exact hactive
    · intro hlast
      have hempty : (s.sliceDone n).coh.draining.isEmpty = true := by simp [s.coh_sliceDone, hlast]
      rw [State.freeDrained, if_pos hempty, htag]
      exact State.bank_setBank_self _ _ _
    · rw [hcoh, s.coh_sliceDone]
    · exact (s.freeDrained_keeps n State.slices fun u b => u.setBank_keeps State.slices (fun _ _ => rfl) _ b).trans
        (State.event_keeps State.slices (fun _ _ _ _ => rfl) _ _ _ _)

end Sys2Proof.Machine
end

section
/-! PROOFS. Fields of registers, and the counter snapshot (R35 to R44). -/

namespace Sys2Proof.Machine

/-! ### Fields of one register -/

theorem testBit_getBits (v lo width i : Nat) : (getBits v lo width).testBit i = (decide (i < width) && v.testBit (lo + i)) := by
  simp [getBits, Nat.testBit_mod_two_pow, Nat.testBit_div_two_pow, Nat.add_comm]

/-- A value with one field replaced, put together from what lies above the field, the field and what lies below it. -/
theorem putBits_eq (v lo width x : Nat) :
    putBits v lo width x = 2 ^ lo * (2 ^ width * (v / 2 ^ lo / 2 ^ width) + x % 2 ^ width) + v % 2 ^ lo := by
  have hv : v = 2 ^ lo * (v / 2 ^ lo) + v % 2 ^ lo := (Nat.div_add_mod v _).symm
  have hq : v / 2 ^ lo = 2 ^ width * (v / 2 ^ lo / 2 ^ width) + v / 2 ^ lo % 2 ^ width := (Nat.div_add_mod _ _).symm
  unfold putBits getBits
  generalize v / 2 ^ lo / 2 ^ width = above at *
  generalize v / 2 ^ lo % 2 ^ width = field at *
  generalize v / 2 ^ lo = q at *
  generalize v % 2 ^ lo = below at *
  subst hq
  have hsplit : v = 2 ^ lo * (2 ^ width * above) + field * 2 ^ lo + below := by rw [hv]; ring
  rw [Nat.mul_add, Nat.mul_comm (2 ^ lo) (x % 2 ^ width)]
  omega

theorem testBit_putBits (v lo width x i : Nat) : (putBits v lo width x).testBit i =
    if lo ≤ i ∧ i < lo + width then x.testBit (i - lo) else v.testBit i := by
  rw [putBits_eq, Nat.testBit_two_pow_mul_add _ (Nat.mod_lt _ (by positivity))]
  by_cases hlo : i < lo
  · rw [if_pos hlo, if_neg (by omega), Nat.testBit_mod_two_pow]
    simp [hlo]
  · rw [if_neg hlo, Nat.testBit_two_pow_mul_add _ (Nat.mod_lt _ (by positivity))]
    by_cases hfield : i < lo + width
    · rw [if_pos (by omega), if_pos (by omega), Nat.testBit_mod_two_pow]
      simp [show i - lo < width by omega]
    · rw [if_neg (by omega), if_neg (by omega), Nat.testBit_div_two_pow, Nat.testBit_div_two_pow]
      congr 1
      omega

/-- Two fields share no bit of a register. -/
def FieldRef.apart (f g : FieldRef) : Bool := decide (f.addr ≠ g.addr ∨ f.lo + f.width ≤ g.lo ∨ g.lo + g.width ≤ f.lo)

/-- A field lies within its register of 32 bits. -/
def FieldRef.fits (f : FieldRef) : Bool := decide (0 < f.width ∧ f.lo + f.width ≤ 32)

/-- Storing a field leaves every field apart from it alone. -/
theorem State.fld_setFld_apart {s : State} {f g : FieldRef} (hwf : s.regs.cells.wf = true) (hfits : f.fits = true)
    (hapart : f.apart g = true) (v : Nat) : (s.setFld g v).fld f = s.fld f := by
  simp only [FieldRef.fits, FieldRef.apart, decide_eq_true_eq] at hfits hapart
  unfold State.fld State.setFld
  by_cases haddr : f.addr = g.addr
  · rw [haddr, State.reg_setReg_self _ _ _ hwf]
    refine Nat.eq_of_testBit_eq fun i => ?_
    rw [testBit_getBits, testBit_getBits, Nat.testBit_mod_two_pow, testBit_putBits]
    by_cases hi : i < f.width
    · rw [if_neg (by omega)]
      simp [show f.lo + i < 32 by omega]
    · simp [hi]
  · rw [State.reg_setReg_ne s haddr]

/-- Storing a field keeps the register file canonical. -/
theorem State.cells_wf_setFld {s : State} (hwf : s.regs.cells.wf = true) (f : FieldRef) (v : Nat) :
    (s.setFld f v).regs.cells.wf = true :=
  setCell_wf _ _ _ hwf

/-! ### Counters that are fields of a register -/

theorem counterFields_apart : counterFields.Pairwise fun f g => f.apart g = true := by decide

theorem counterFields_fit : ∀ f ∈ counterFields, f.fits = true := by decide

/-- Fields that are apart have keys of their own. -/
theorem FieldRef.key_ne_of_apart {f g : FieldRef} (hf : f.fits = true) (hg : g.fits = true) (hapart : f.apart g = true) :
    f.key ≠ g.key := by
  simp only [FieldRef.fits, FieldRef.apart, decide_eq_true_eq] at hf hg hapart
  unfold FieldRef.key
  omega

theorem FieldRef.apart_comm (f g : FieldRef) : f.apart g = g.apart f := by
  simp only [FieldRef.apart, decide_eq_decide]
  omega

/-- Latching a field leaves every field apart from it as it was. -/
theorem State.fld_latchField_apart {s : State} {f g : FieldRef} (hwf : s.regs.cells.wf = true) (hfits : f.fits = true)
    (hapart : f.apart g = true) (c : Bool) : (s.latchField c g).fld f = s.fld f :=
  State.fld_setFld_apart (s := { s with ctr := { s.ctr with fieldLatched := s.ctr.fieldLatched.set g.key (s.fld g) } })
    hwf hfits hapart _

theorem State.cells_wf_latchField {s : State} (hwf : s.regs.cells.wf = true) (c : Bool) (f : FieldRef) :
    (s.latchField c f).regs.cells.wf = true :=
  setCell_wf _ _ _ hwf

/-- Latching fields under other keys leaves a latched field alone. -/
theorem State.fieldLatched_foldl_ne (l : List FieldRef) (c : Bool) (s : State) {k : Nat} (hk : ∀ g ∈ l, k ≠ g.key) :
    (l.foldl (fun (s : State) f => s.latchField c f) s).ctr.fieldLatched.get? k = s.ctr.fieldLatched.get? k := by
  induction l generalizing s with
  | nil => rfl
  | cons g l ih =>
    rw [List.foldl_cons, ih _ fun x hx => hk x (by simp [hx])]
    simp [State.latchField, Table.get?_set_ne _ (hk g (by simp))]

/-- Fields that are apart from one another are each latched with the value that they held before (R39). -/
theorem State.fieldLatched_foldl {l : List FieldRef} (hapart : l.Pairwise fun f g => f.apart g = true)
    (hfits : ∀ f ∈ l, f.fits = true) (c : Bool) {s : State} (hwf : s.regs.cells.wf = true) {f : FieldRef} (hf : f ∈ l) :
    (l.foldl (fun (s : State) f => s.latchField c f) s).ctr.fieldLatched.get? f.key = some (s.fld f) := by
  induction l generalizing s with
  | nil => cases hf
  | cons g l ih =>
    obtain ⟨hg, hl⟩ := List.pairwise_cons.mp hapart
    have hfit : ∀ f ∈ l, f.fits = true := fun f hf => hfits f (by simp [hf])
    rw [List.foldl_cons]
    rcases List.mem_cons.mp hf with rfl | hmem
    · rw [State.fieldLatched_foldl_ne l c _ fun x hx => FieldRef.key_ne_of_apart (hfits f hf) (hfit x hx) (hg x hx)]
      simp [State.latchField]
    · rw [ih hl hfit (State.cells_wf_latchField hwf c g) hmem,
        State.fld_latchField_apart hwf (hfit f hmem) (FieldRef.apart_comm g f ▸ hg f hmem)]

/-- The field side accumulators of a snapshot start again once every field is latched. -/
theorem State.latchFields_eq (s : State) (c : Bool) : ∃ u : State, u = counterFields.foldl (fun (s : State) f => s.latchField c f) s ∧
    s.latchFields c = { u with ctr := { u.ctr with fieldSide := .empty } } := ⟨_, rfl, rfl⟩

/-- Every counter field is latched with the value that it held (R39). -/
theorem State.fieldLatched_latchFields {s : State} (hwf : s.regs.cells.wf = true) (c : Bool) {f : FieldRef} (hf : f ∈ counterFields) :
    (s.latchFields c).ctr.fieldLatched.get? f.key = some (s.fld f) := by
  obtain ⟨u, hu, hlatch⟩ := s.latchFields_eq c
  rw [hlatch]
  exact hu ▸ State.fieldLatched_foldl counterFields_apart counterFields_fit c hwf hf

/-- Latching the fields leaves the counters with words of their own alone. -/
theorem State.latchFields_keeps {β : Sort _} (obs : State → β)
    (h : ∀ (s : State) x0 x1 x2, obs { s with ctr := { s.ctr with fieldLatched := x0, fieldSide := x1 }, regs := x2 } = obs s) (s : State)
    (c : Bool) : obs (s.latchFields c) = obs s := by
  obtain ⟨u, hu, hlatch⟩ := s.latchFields_eq c
  have hfold : obs u = obs s := hu ▸ foldl_keeps obs _ (fun u _ => h u _ u.ctr.fieldSide _) counterFields s
  rw [hlatch, ← hfold]
  exact h u u.ctr.fieldLatched Table.empty u.regs

/-! ### Counters with words of their own -/

/-- Entries with rising keys added to a table, each under its key. -/
theorem foldl_addSide_getD (l : List (Nat × DWord)) {b : Option Nat} (hl : risingFrom b l = true) (v : Table DWord) (a : Nat) :
    (l.foldl (fun (t : Table DWord) e => t.set e.1 (t.getD e.1 0 + e.2)) v).getD a 0 = v.getD a 0 + (lookupKey a l).getD 0 := by
  induction l generalizing b v with
  | nil => simp [lookupKey]
  | cons e l ih =>
    obtain ⟨k, x⟩ := e
    simp only [risingFrom, Bool.and_eq_true] at hl
    rw [List.foldl_cons, ih hl.2]
    by_cases hk : k = a
    · subst hk
      simp [lookupKey, lookupKey_rising k l le_rfl hl.2]
    · simp [lookupKey, hk, Table.getD_set_ne _ (Ne.symm hk)]

/-- What came after T_s added to what came before it (R39). -/
theorem addSide_getD (v side : Table DWord) (hwf : side.wf = true) (a : Nat) :
    (addSide v side).getD a 0 = v.getD a 0 + side.getD a 0 :=
  foldl_addSide_getD side.entries hwf v a

/-- A counter of what no command carries that is looked at moves no other counter. -/
theorem State.value_settleLine (s : State) {a b : Nat} (h : lineCounter b = false) :
    (s.settleLine a).ctr.value.getD b 0 = s.ctr.value.getD b 0 := by
  unfold State.settleLine
  split
  · next hline =>
    have hne : b ≠ a := by rintro rfl; simp [h] at hline
    exact Table.getD_set_ne _ hne _ _
  · rfl

theorem State.value_settleLines (s : State) {b : Nat} (h : lineCounter b = false) :
    s.settleLines.ctr.value.getD b 0 = s.ctr.value.getD b 0 :=
  foldl_keeps (fun u : State => u.ctr.value.getD b 0) _ (fun u _ => u.value_settleLine h) _ s

/-- Looking at such a counter changes it, what is free and what the host link has counted. -/
theorem State.settleLine_keeps_value {β : Sort _} (obs : State → β)
    (h : ∀ (s : State) x0 x1 x2, obs { s with ctr := { s.ctr with value := x0 }, free := x1, hif := x2 } = obs s) (s : State) (a : Nat) :
    obs (s.settleLine a) = obs s := by
  unfold State.settleLine
  split
  · exact h s _ _ _
  · rfl

theorem State.settleLines_keeps {β : Sort _} (obs : State → β)
    (h : ∀ (s : State) x0 x1 x2, obs { s with ctr := { s.ctr with value := x0 }, free := x1, hif := x2 } = obs s) (s : State) :
    obs s.settleLines = obs s :=
  foldl_keeps obs _ (fun u _ => u.settleLine_keeps_value obs h _) _ s

/-! ### COUNTER_LATCH -/

/-- The counters latched, their fields not yet (R39). -/
def State.latchWords (s : State) : State := { s.settleLines with ctr := s.settleLines.ctr.latch s.settleLines.snap.clearing }

/-- Every counter latched (R36 to R39). -/
def State.latchAll (s : State) : State := s.latchWords.latchFields s.settleLines.snap.clearing

theorem State.snap_latchAll (s : State) : s.latchAll.snap = s.snap :=
  (State.latchFields_keeps State.snap (fun _ _ _ _ => rfl) _ _).trans (s.settleLines_keeps State.snap fun _ _ _ _ => rfl)

theorem State.coh_latchAll (s : State) : s.latchAll.coh = s.coh :=
  (State.latchFields_keeps State.coh (fun _ _ _ _ => rfl) _ _).trans (s.settleLines_keeps State.coh fun _ _ _ _ => rfl)

/-- The latched values are those that the counters had, looked at. -/
theorem State.latched_latchAll (s : State) : s.latchAll.ctr.latched = s.settleLines.ctr.value :=
  State.latchFields_keeps (fun u => u.ctr.latched) (fun _ _ _ _ => rfl) _ _

theorem State.side_latchAll (s : State) : s.latchAll.ctr.side = Table.empty :=
  State.latchFields_keeps (fun u => u.ctr.side) (fun _ _ _ _ => rfl) _ _

/-- The counters go on from their side accumulators, added to what they had unless the snapshot clears (R37, R39). -/
theorem State.value_latchAll (s : State) : s.latchAll.ctr.value =
    if s.snap.clearing then s.ctr.side else addSide s.settleLines.ctr.value s.ctr.side := by
  have hside : s.settleLines.ctr.side = s.ctr.side := s.settleLines_keeps (fun u => u.ctr.side) fun _ _ _ _ => rfl
  have hsnap : s.settleLines.snap = s.snap := s.settleLines_keeps State.snap fun _ _ _ _ => rfl
  rw [← hside, ← hsnap]
  exact State.latchFields_keeps (fun u => u.ctr.value) (fun _ _ _ _ => rfl) _ _

/-- Every counter field is latched with the value that it had. -/
theorem State.fieldLatched_latchAll {s : State} (hwf : s.regs.cells.wf = true) {f : FieldRef} (hf : f ∈ counterFields) :
    s.latchAll.ctr.fieldLatched.get? f.key = some (s.fld f) := by
  have hregs : s.latchWords.regs = s.regs := s.settleLines_keeps State.regs fun _ _ _ _ => rfl
  have hfld : s.latchWords.fld f = s.fld f := s.settleLines_keeps (State.fld · f) fun _ _ _ _ => rfl
  rw [← hfld]
  exact State.fieldLatched_latchFields (hregs ▸ hwf) _ hf

/-- A snapshot that ends completes its command and is idle (R42). -/
theorem State.snapDone_facts (s : State) (n : Nat) : (s.snapDone n).ctr = s.ctr ∧ (s.snapDone n).coh = s.coh ∧
    (s.snapDone n).regs = s.regs ∧ (s.snapDone n).snap.phase = .idle := by
  unfold State.snapDone
  dsimp only
  refine ⟨?_, ?_, ?_, ?_⟩
  · rw [State.doneIf_keeps State.ctr (fun _ _ _ _ => rfl)]
  · rw [State.doneIf_keeps State.coh (fun _ _ _ _ => rfl)]
  · rw [State.doneIf_keeps State.regs (fun _ _ _ _ => rfl)]
  · rw [State.doneIf_keeps State.snap (fun _ _ _ _ => rfl)]

section Latch

variable {s : State} (h : Serving s)
include h

/-- COUNTER_LATCH of a snapshot that is ready (R38, R39, R44). -/
theorem counterLatch_latches (hphase : s.snap.phase = .armed) (hready : s.latchReady = true) :
    ∃ t, exec .counterLatch s = .next t ∧ t.ctr = s.latchAll.ctr ∧ t.coh = s.latchAll.coh ∧
      t.snap.phase = if s.snap.bufLen = 0 then .idle else .writing := by
  have hexec : exec .counterLatch s = if s.latchAll.snap.bufLen = 0 then .next (s.latchAll.snapDone 0)
      else .next { s.latchAll with snap := { s.latchAll.snap with phase := .writing } } :=
    (whenWorking_of_serving h _).trans (if_neg (by simp [hphase, hready]))
  rw [s.snap_latchAll] at hexec
  generalize s.latchAll = u at hexec ⊢
  by_cases hbuf : s.snap.bufLen = 0
  · obtain ⟨hctr, hcoh, -, hphase⟩ := u.snapDone_facts 0
    exact ⟨_, hexec.trans (if_pos hbuf), hctr, hcoh, by rw [if_pos hbuf, hphase]⟩
  · exact ⟨_, hexec.trans (if_neg hbuf), rfl, rfl, by rw [if_neg hbuf]⟩

end Latch

/-! ### Writes to host memory -/

/-- A list only grows at its end. -/
theorem foldl_grows {α σ τ : Type} (g : σ → List τ) (f : σ → α → σ) (h : ∀ s x, g s <+: g (f s x)) (l : List α) (s : σ) :
    g s <+: g (l.foldl f s) := by
  induction l generalizing s with
  | nil => exact List.prefix_rfl
  | cons x l ih => exact (h s x).trans (ih _)

theorem State.out_post (s : State) (fn : Nat) (o : Out) : s.out <+: (s.post fn o).out := by
  unfold State.post
  split_ifs
  · exact List.prefix_rfl
  · exact List.prefix_append _ _
  · exact List.prefix_rfl

theorem State.out_dmaTo (s : State) (fn : Nat) (v : Option Nat) (k : DmaKind) (a : Nat) (d : Bytes) :
    s.out <+: (s.dmaTo fn v k a d).out := by
  unfold State.dmaTo
  exact foldl_grows State.out _ (fun u _ => u.out_post fn _) _ s

theorem State.out_writeBack (s : State) (fn : Nat) (v : Option Nat) (b st : Nat) (l : List (Nat × Bytes)) :
    s.out <+: (s.writeBack fn v b st l).out :=
  (s.out_dmaTo fn v .writeBack (b + 2) (le 1 st)).trans
    (foldl_grows State.out _ (fun u p => u.out_dmaTo fn v .writeBack (b + p.1) p.2) l _)

theorem State.out_msix (s : State) (fn v : Nat) : s.out <+: (s.msix fn v).out := by
  unfold State.msix
  extract_lets f dword
  split
  · exact List.prefix_refl s.out
  · exact s.out_post fn _

theorem State.out_adminHead (s : State) (fn : Nat) : s.out <+: (s.adminHead fn).out :=
  ((s.dropWaitingHead fn).out_dmaTo fn none _ _ _).trans (State.out_msix _ fn 0)

/-- What leaves as an admin command completes leaves after all that left before (R641). -/
theorem State.out_adminDone (s : State) (t : AdminTok) (st : Nat) (l : List (Nat × Bytes)) : s.out <+: (s.adminDone t st l).out := by
  have hhead : ∀ (u : State) fn g, u.out <+: ((u.modFn fn g).adminHead fn).out := fun u fn g => (u.modFn fn g).out_adminHead fn
  unfold State.adminDone
  extract_lets f u
  split
  · exact List.prefix_refl s.out
  refine (s.out_writeBack t.ref.fn none (f.admin.base + t.ref.idx.toNat % 64 * 64) st l).trans ?_
  split
  extract_lets v
  split
  · exact List.prefix_refl u.out
  · exact hhead u _ _

theorem State.out_doneIf (s : State) (t : Option AdminTok) (st : Nat) (l : List (Nat × Bytes)) : s.out <+: (s.doneIf t st l).out := by
  cases t with
  | none => exact List.prefix_refl s.out
  | some t => exact s.out_adminDone t st l

theorem State.out_snapDone (s : State) (n : Nat) : s.out <+: (s.snapDone n).out :=
  State.out_doneIf { s with snap := { s.snap with phase := .idle, token := none } } s.snap.token stSuccess _

/-- A function's requests leave the device: the link carries them and the function may issue them (R607, R620, R741). -/
structure Issues (fn : Nat) (s : State) : Prop where
  linked : s.hif.dlUp = true
  heard : s.hif.silenced = false
  may : s.mayIssue fn = true

/-- The request that carries a part of a write of a function to host memory (R601, R604, R605). -/
def State.dmaPart (s : State) (fn : Nat) (v : Option Nat) (k : DmaKind) (p : Nat × Bytes) : Out :=
  .dma fn k p.1 p.2 (k.relaxed && (s.fn fn).roEnable) (s.fn fn).idoEnable (s.translated fn p.1)
    (if (s.fn fn).tphEnable then v.map (s.fn fn).steering else none)

/-- Where a function's requests leave, a write leaves page by page in order. -/
theorem State.out_dmaTo_issues {s : State} {fn : Nat} (h : Issues fn s) (v : Option Nat) (k : DmaKind) (a : Nat) (d : Bytes) :
    (s.dmaTo fn v k a d).out = s.out ++ (pageParts (d.length / 4096 + 1) a d).map (s.dmaPart fn v k) := by
  have hparts : ∀ (l : List (Nat × Bytes)) (u : State), Issues fn u →
      (l.foldl (fun (u : State) p => u.post fn (u.dmaPart fn v k p)) u).out = u.out ++ l.map (u.dmaPart fn v k) := by
    intro l
    induction l with
    | nil => simp
    | cons p l ih =>
      intro u hu
      have hpost : u.post fn (u.dmaPart fn v k p) = u.transmit (u.dmaPart fn v k p) := by
        simp [State.post, hu.linked, hu.heard, hu.may]
      have htransmit : Issues fn (u.transmit (u.dmaPart fn v k p)) := ⟨hu.linked, hu.heard, hu.may⟩
      rw [List.foldl_cons, hpost, ih _ htransmit, List.map_cons, List.append_cons]
      rfl
  exact hparts _ s h

/-- SNAPSHOT_BUFFER_WRITTEN writes the latched counters of the map, and ends the snapshot (R42, R43). -/
theorem exec_snapshotBufferWritten {s : State} {tok : AdminTok} (h : Serving s) (hphase : s.snap.phase = .writing)
    (htok : s.snap.token = some tok) : exec .snapshotBufferWritten s =
      .next ((s.dma 0 .snapshot tok.ref.buf (s.counterMap.flatMap s.mapPair)).snapDone
        (s.dma 0 .snapshot tok.ref.buf (s.counterMap.flatMap s.mapPair)).counterMap.length) := by
  refine (whenWorking_of_serving h _).trans ((if_neg (not_not.mpr hphase)).trans ?_)
  rw [htok]

theorem exec_snapshotCounters (r : AdminRef) (flags len : Nat) (s : State) :
    exec (.snapshotCounters r flags len) s = execSnapshotCounters r flags len s := rfl

/-- SNAPSHOT_COUNTERS is refused with flags out of range (R35). -/
theorem snapshotCounters_invalid {s : State} {r : AdminRef} {flags len : Nat} (h : PfStarts r s) (hflags : 2 ≤ flags) :
    exec (.snapshotCounters r flags len) s = ends s r (s.adminOpen r) stInvalidField [] :=
  (exec_snapshotCounters r flags len s).trans <| runAdmin_completes_pf h (if_pos (.inl hflags))

/-- Flags and a buffer length that SNAPSHOT_COUNTERS takes (R35, R42). -/
theorem snapshotCounters_taken {s : State} {r : AdminRef} {flags len : Nat} (hflags : flags < 2)
    (hlen : len = 0 ∨ 16 * s.counterMap.length ≤ len) :
    ¬(2 ≤ flags ∨ (len ≠ 0 ∧ len < 16 * (s.adminOpen r).counterMap.length)) := by
  rw [State.adminOpen_keeps State.counterMap (fun _ _ _ _ => rfl)]
  omega

/-- Settles O40: what a snapshot latches is what the counters were once they had been looked at, and what they go on from is what their
side accumulators took meanwhile. -/
theorem counterSnapshot : Obligations.CounterSnapshot := by
  unfold Obligations.CounterSnapshot
  refine ⟨fun s r flags len h => ⟨snapshotCounters_invalid h, fun hflags hlen => ⟨?busy, ?accepted⟩⟩,
    fun s h => ⟨?waits, ?latches, ?unwritten, ?written⟩⟩
  case busy =>
    intro hbusy
    have hsnap : (s.adminOpen r).snap.phase ≠ .idle := by simpa using hbusy
    refine (exec_snapshotCounters r flags len s).trans (runAdmin_completes_pf h ?_)
    exact (if_neg (snapshotCounters_taken hflags hlen)).trans (if_pos hsnap)
  case accepted =>
    intro hidle
    have hsnap : (s.adminOpen r).snap = s.snap := State.adminOpen_keeps State.snap (fun _ _ _ _ => rfl) s r
    have hnow : (s.adminOpen r).now = s.now := State.adminOpen_keeps State.now (fun _ _ _ _ => rfl) s r
    have hfree : ¬(s.adminOpen r).snap.phase ≠ .idle := by simp [hidle]
    rw [← hnow, ← hsnap]
    refine (exec_snapshotCounters r flags len s).trans (runAdmin_waits_pf h ?_)
    exact (if_neg (snapshotCounters_taken hflags hlen)).trans (if_neg hfree)
  case waits => exact fun hno => (whenWorking_of_serving h _).trans (if_pos (by simpa using hno))
  case latches =>
    intro hphase hready
    obtain ⟨t, hexec, hctr, hcoh, hdone⟩ := counterLatch_latches h hphase hready
    refine ⟨t, hexec, ?_, ?_, ?_, ?_, ?_, ?_, hdone, hcoh.trans s.coh_latchAll⟩
    · rw [hctr, s.latched_latchAll]
    · intro a ha
      rw [hctr, s.latched_latchAll, s.value_settleLines ha]
    · intro hwf f hf
      rw [hctr, State.fieldLatched_latchAll hwf hf]
    · rw [hctr, s.side_latchAll]
    · intro hclears
      rw [hctr, s.value_latchAll, if_pos hclears]
    · intro hkeeps hwf a
      rw [hctr, s.value_latchAll, hkeeps, if_neg (by decide), addSide_getD _ _ hwf]
  case unwritten => exact fun hphase => (whenWorking_of_serving h _).trans (if_pos hphase)
  case written =>
    intro tok hphase htok hup hheard hmay d hd
    subst hd
    obtain ⟨hctr, -, hregs, hidle⟩ :=
      (s.dma 0 .snapshot tok.ref.buf (s.counterMap.flatMap s.mapPair)).snapDone_facts
        (s.dma 0 .snapshot tok.ref.buf (s.counterMap.flatMap s.mapPair)).counterMap.length
    obtain ⟨rest, hrest⟩ := (s.dma 0 .snapshot tok.ref.buf (s.counterMap.flatMap s.mapPair)).out_snapDone
      (s.dma 0 .snapshot tok.ref.buf (s.counterMap.flatMap s.mapPair)).counterMap.length
    refine ⟨_, rest, DmaKind.snapshot.relaxed && (s.fn 0).roEnable, (s.fn 0).idoEnable,
      if (s.fn 0).tphEnable then (none : Option Nat).map (s.fn 0).steering else none, fun a => s.translated 0 a,
      exec_snapshotBufferWritten h hphase htok, hidle, ?_, ?_, ?_⟩
    · rw [← hrest]
      exact congrArg (· ++ rest) (State.out_dmaTo_issues ⟨hup, hheard, hmay⟩ none .snapshot tok.ref.buf _)
    · exact hctr.trans (State.dma_keeps State.ctr (fun _ _ _ => rfl) s _ _ _ _)
    · exact hregs.trans (State.dma_keeps State.regs (fun _ _ _ => rfl) s _ _ _ _)

end Sys2Proof.Machine
end

section
/-! PROOFS. The configuration store: records as they are written, compaction, flash devices, NVM_COMPACT and NVM_STATUS (R28, R695 to
R712, R726, R727, R749). -/

namespace Sys2Proof.Machine

/-! ### Devices in service and their failures -/

theorem State.mem_flashUp {s : State} {d : Nat} (h : d ∈ s.flashUp) : d < 2 ∧ s.up .flash 0 d = true := by
  obtain ⟨hmem, hup⟩ := List.mem_filter.mp h
  refine ⟨?_, hup⟩
  split at hmem
  · exact (by decide : ∀ e ∈ [0, 1], e < 2) d hmem
  · exact (by decide : ∀ e ∈ [0], e < 2) d hmem

theorem State.flashUp_both {s : State} (hmirror : s.nvm.mirror = true) (h0 : s.up .flash 0 0 = true) (h1 : s.up .flash 0 1 = true) :
    s.flashUp = [0, 1] := by
  simp [State.flashUp, hmirror, h0, h1]

@[simp] theorem State.flashFailures_setFlashFailures (s : State) (d n k : Nat) (hk : k < 2) :
    (s.setFlashFailures d n).flashFailures k = if k = d then n else s.flashFailures k := by
  simp [State.flashFailures, State.setFlashFailures, List.getD_eq_getElem?_getD, hk]

/-- A failure that is not the third in a row is only counted (R696). -/
theorem State.flashFailed_counted {s : State} {d : Nat} (h : s.flashFailures d < 2) :
    s.flashFailed d = (s.count1 C.nvmProgErr).setFlashFailures d (s.flashFailures d + 1) :=
  if_pos (by omega)

/-! ### The journal ring -/

section Ring

variable {β : Sort _} (obs : State → β)
  (h : ∀ (s : State) m j e p, obs { s with nvm := { s.nvm with jrnMap := m, journal := j, eraseJournal := e, jrnPos := p } } = obs s)

include h

theorem State.reachSector_keeps (s : State) (k : Nat) : obs (s.reachSector k) = obs s := h s _ _ _ s.nvm.jrnPos

theorem State.advanceWriter_keeps (s : State) (n : Nat) : obs (s.advanceWriter n) = obs s := by
  unfold State.advanceWriter
  extract_lets first last u
  exact (h u u.nvm.jrnMap u.nvm.journal u.nvm.eraseJournal _).trans
    (foldl_keeps obs _ (fun v _ => v.reachSector_keeps obs h _) _ s)

theorem State.appendRecord_keeps (s : State) (r : JrnRec) : obs (s.appendRecord r) = obs s := by
  unfold State.appendRecord
  extract_lets page u
  exact (h u u.nvm.jrnMap _ u.nvm.eraseJournal u.nvm.jrnPos).trans (s.advanceWriter_keeps obs h _)

end Ring

/-- A record stands in the ring at the page that the writer had come to. -/
theorem State.mem_journal_appendRecord (s : State) (r : JrnRec) : { r with page := s.nvm.jrnPos } ∈ (s.appendRecord r).nvm.journal := by
  simp [State.appendRecord]

/-! ### What follows a record -/

/-- A rotated key in its slot, before anything is told of it. -/
def State.keyPlaced (s : State) (slot : Nat) (k : KeySlot) : State :=
  { s with ldg := { s.ldg with keys := s.ldg.keys.set slot k, lastRotate := some s.now } }

theorem State.keyStored_keeps {β : Sort _} (obs : State → β)
    (h : ∀ (s : State) x0 x1 x2 x3 x4, obs { s with evr := x0, out := x1, ctr := x2, hif := x3, qm := x4 } = obs s)
    (s : State) (t : AdminTok) (slot id len : Nat) (pub wrapped cert : Bytes) :
    obs (s.keyStored t slot id len pub wrapped cert) = obs (s.keyPlaced slot ⟨id, pub, wrapped, cert⟩) := by
  unfold State.keyStored
  extract_lets _ placed told sent
  have hsent : obs sent = obs told := by
    unfold sent
    split
    · exact State.dma_keeps obs (fun u _ _ => h u u.evr _ u.ctr _ u.qm) told _ _ _ _
    · rfl
  exact (State.adminDone_keeps obs (fun u _ _ _ => h u u.evr _ u.ctr _ _) sent t _ _).trans
    (hsent.trans (State.event_keeps obs (fun u _ _ _ => h u _ _ _ u.hif u.qm) placed _ _ _))

theorem State.recordWritten_keeps {β : Sort _} (obs : State → β)
    (h : ∀ (s : State) x0 x1 x2 x3 x4 x5 x6, obs { s with
      evr := x0, out := x1, ctr := x2, hif := x3, qm := x4, coh := x5, ldg := x6 } = obs s)
    (s : State) (r : JrnRec) (why : JrnPurpose) : obs (s.recordWritten r why) = obs s := by
  unfold State.recordWritten
  split
  · exact h s s.evr s.out s.ctr s.hif s.qm _ s.ldg
  · exact h s s.evr s.out s.ctr s.hif s.qm _ s.ldg
  · exact (State.keyStored_keeps obs (fun u _ _ _ _ _ => h u _ _ _ _ _ u.coh u.ldg) s _ _ _ _ _ _ _).trans
      (h s s.evr s.out s.ctr s.hif s.qm s.coh _)
  · rfl

section Record

variable {s : State} {r : JrnRec} {why : JrnPurpose}

/-- A commit arms once its record is written (R28). -/
theorem State.coh_recordWritten_commit {v b e} (hkind : r.kind = .commit v b e) (hwhy : why = .commit) :
    (s.recordWritten r why).coh = { s.coh with phase := .arming, persistent := true } := by
  obtain ⟨kind⟩ := r
  subst hkind hwhy
  rfl

/-- A reservation of epochs holds once its record is written (R702). -/
theorem State.coh_recordWritten_reserve {n : Nat} (hkind : r.kind = .epochReserve n) :
    (s.recordWritten r why).coh = { s.coh with hwm := max s.coh.hwm n } := by
  obtain ⟨kind⟩ := r
  subst hkind
  rfl

/-- A key stands in its slot once its record is written (R255). -/
theorem State.ldg_recordWritten_key {slot id pub wrapped cert tok a b len} (hkind : r.kind = .ledgerKey slot id pub wrapped cert)
    (hwhy : why = .rotateKey tok a b len) : (s.recordWritten r why).ldg = (s.keyPlaced slot ⟨id, pub, wrapped, cert⟩).ldg := by
  obtain ⟨kind⟩ := r
  subst hkind hwhy
  exact State.keyStored_keeps State.ldg (fun _ _ _ _ _ _ => rfl) s _ _ _ _ _ _ _

end Record

/-! ### JOURNAL_WRITE_COMPLETE -/

/-- Both devices having programmed what they were given, with a record's place in the queue free. -/
def State.bothDone (s : State) (rest : List (JrnRec × JrnPurpose)) : State :=
  let u := (s.setFlashFailures 0 0).setFlashFailures 1 0
  { u with nvm := { u.nvm with writing := rest } }

/-- A record that both devices hold, with its marker. -/
def JrnRec.held (r : JrnRec) : JrnRec := { r with devices := [0, 1], headerOk := [0, 1], markerOk := [0, 1] }

section Journal

variable {s : State} {r : JrnRec} {why : JrnPurpose} {rest : List (JrnRec × JrnPurpose)} (h : Serving s)
  (hwriting : s.nvm.writing = (r, why) :: rest) (hboth : s.flashUp = [0, 1]) (hnew : r.headerOk = [])

include h hwriting hboth hnew

theorem exec_journalWriteComplete_written : exec (.journalWriteComplete true true) s =
    .next (((s.bothDone rest).appendRecord r.held).recordWritten r.held why) := by
  refine (whenWorking_of_serving h _).trans ?_
  have hup : ((s.setFlashFailures 0 0).setFlashFailures 1 0).flashUp = [0, 1] := hboth
  simp [hwriting, hboth, hnew, okOf, State.flashDid, hup, State.bothDone, JrnRec.held]

theorem exec_journalWriteComplete_held (hfew : s.flashFailures 1 < 2) : exec (.journalWriteComplete true false) s =
    .next (let u := ((s.setFlashFailures 0 0).count1 C.nvmProgErr).setFlashFailures 1 (s.flashFailures 1 + 1)
      { u with nvm := { u.nvm with writing := ({ r with headerOk := [0] }, why) :: rest } }) := by
  refine (whenWorking_of_serving h _).trans ?_
  have hfails : (s.setFlashFailures 0 0).flashFailures 1 = s.flashFailures 1 := by simp
  have hfailed := State.flashFailed_counted (hfails.trans_lt hfew)
  rw [hfails] at hfailed
  have hup : (((s.setFlashFailures 0 0).count1 C.nvmProgErr).setFlashFailures 1 (s.flashFailures 1 + 1)).flashUp = [0, 1] :=
    (State.count1_keeps State.flashUp (fun _ _ => rfl) (s.setFlashFailures 0 0) _).trans hboth
  simp [hwriting, hboth, hnew, okOf, State.flashDid, hfailed, hup]

/-- A record that both devices hold stands in the ring with its marker, and what waited for it follows (R28, R701). -/
theorem journalWriteComplete_writes : ∃ t x, exec (.journalWriteComplete true true) s = .next t ∧ t.nvm.writing = rest ∧
    x ∈ t.nvm.journal ∧
    x = { r with page := s.nvm.jrnPos, devices := [0, 1], headerOk := [0, 1], markerOk := [0, 1] } ∧
    (∀ v b e, r.kind = .commit v b e → why = .commit → t.coh.phase = .arming ∧ t.coh.epoch = s.coh.epoch) ∧
    (∀ n, r.kind = .epochReserve n → t.coh = { s.coh with hwm := max s.coh.hwm n }) ∧
    (∀ slot id pub wrapped cert tok a b len, r.kind = .ledgerKey slot id pub wrapped cert → why = .rotateKey tok a b len →
      t.ldg.keys = s.ldg.keys.set slot ⟨id, pub, wrapped, cert⟩ ∧ t.ldg.lastRotate = some s.now) ∧
    t.tb = s.tb ∧ t.regs = s.regs := by
  refine ⟨_, _, exec_journalWriteComplete_written h hwriting hboth hnew, ?_, ?_, rfl, ?_, ?_, ?_, ?_, ?_⟩
  · rw [State.recordWritten_keeps State.nvm (fun _ _ _ _ _ _ _ _ => rfl)]
    exact State.appendRecord_keeps (fun u => u.nvm.writing) (fun _ _ _ _ _ => rfl) (s.bothDone rest) _
  · rw [State.recordWritten_keeps State.nvm (fun _ _ _ _ _ _ _ _ => rfl)]
    exact (s.bothDone rest).mem_journal_appendRecord _
  · intro v b e hkind hwhy
    rw [State.coh_recordWritten_commit (r := r.held) (v := v) (b := b) (e := e) hkind hwhy]
    exact ⟨rfl, State.appendRecord_keeps (fun u => u.coh.epoch) (fun _ _ _ _ _ => rfl) (s.bothDone rest) _⟩
  · intro n hkind
    rw [State.coh_recordWritten_reserve (r := r.held) (n := n) hkind,
      State.appendRecord_keeps State.coh (fun _ _ _ _ _ => rfl) (s.bothDone rest) _]
    rfl
  · intro slot id pub wrapped cert tok a b len hkind hwhy
    rw [State.ldg_recordWritten_key (r := r.held) (slot := slot) (id := id) (pub := pub) (wrapped := wrapped) (cert := cert) hkind hwhy]
    refine ⟨?_, ?_⟩
    · exact State.appendRecord_keeps (fun u => u.ldg.keys.set slot ⟨id, pub, wrapped, cert⟩) (fun _ _ _ _ _ => rfl) (s.bothDone rest) _
    · exact State.appendRecord_keeps (fun u => some u.now) (fun _ _ _ _ _ => rfl) (s.bothDone rest) _
  · rw [State.recordWritten_keeps State.tb (fun _ _ _ _ _ _ _ _ => rfl)]
    exact State.appendRecord_keeps State.tb (fun _ _ _ _ _ => rfl) (s.bothDone rest) _
  · rw [State.recordWritten_keeps State.regs (fun _ _ _ _ _ _ _ _ => rfl)]
    exact State.appendRecord_keeps State.regs (fun _ _ _ _ _ => rfl) (s.bothDone rest) _

/-- A record that one device has failed to take waits, held by the other, and the failure is counted (R696). -/
theorem journalWriteComplete_holds (hfew : s.flashFailures 1 < 2) : ∃ t, exec (.journalWriteComplete true false) s = .next t ∧
    t.nvm.writing = ({ r with headerOk := [0] }, why) :: rest ∧ t.nvm.journal = s.nvm.journal ∧
    t.flashFailures 1 = s.flashFailures 1 + 1 ∧ t.flashFailures 0 = 0 ∧ t.coh = s.coh ∧ t.ldg = s.ldg := by
  refine ⟨_, exec_journalWriteComplete_held h hwriting hboth hnew hfew, rfl, ?_, ?_, ?_, ?_, ?_⟩
  · exact State.count1_keeps (fun u => u.nvm.journal) (fun _ _ => rfl) (s.setFlashFailures 0 0) _
  · exact (State.flashFailures_setFlashFailures _ 1 _ 1 (by decide)).trans (if_pos rfl)
  · refine (State.flashFailures_setFlashFailures _ 1 _ 0 (by decide)).trans ((if_neg (by decide)).trans ?_)
    refine (State.count1_keeps (fun u => u.flashFailures 0) (fun _ _ => rfl) (s.setFlashFailures 0 0) _).trans ?_
    exact (s.flashFailures_setFlashFailures 0 0 0 (by decide)).trans (if_pos rfl)
  · exact State.count1_keeps State.coh (fun _ _ => rfl) (s.setFlashFailures 0 0) _
  · exact State.count1_keeps State.ldg (fun _ _ => rfl) (s.setFlashFailures 0 0) _

end Journal

/-! ### Slots of the devices -/

section Slots

variable {α : Type}

theorem putSlot_get?_ne (x : Option α) {slot k : Nat} (l : List Nat) (t : Table α) (hk : ∀ d ∈ l, k ≠ 2 * d + slot) :
    (putSlot t l slot x).get? k = t.get? k := by
  induction l generalizing t with
  | nil => rfl
  | cons d l ih =>
    obtain ⟨hd, hl⟩ := List.forall_mem_cons.mp hk
    refine (ih _ hl).trans ?_
    cases x with
    | none => exact t.get?_erase_ne hd
    | some v => exact t.get?_set_ne hd v

theorem putSlot_some_get? (v : α) {slot d : Nat} (l : List Nat) (t : Table α) (hd : d ∈ l) :
    (putSlot t l slot (some v)).get? (2 * d + slot) = some v := by
  induction l generalizing t with
  | nil => cases hd
  | cons e l ih =>
    by_cases hl : d ∈ l
    · exact ih _ hl
    · obtain rfl : d = e := by simpa [hl] using hd
      refine (putSlot_get?_ne (some v) l _ fun e he => ?_).trans (t.get?_set_self _ v)
      have hne : d ≠ e := fun heq => hl (heq ▸ he)
      omega

theorem putSlot_none_get? {slot d : Nat} (l : List Nat) (t : Table α) (hwf : t.wf = true) (hd : d ∈ l) :
    (putSlot t l slot none).get? (2 * d + slot) = none := by
  induction l generalizing t with
  | nil => cases hd
  | cons e l ih =>
    by_cases hl : d ∈ l
    · exact ih _ (t.wf_erase _ hwf) hl
    · obtain rfl : d = e := by simpa [hl] using hd
      refine (putSlot_get?_ne none l _ fun e he => ?_).trans (t.get?_erase_self _ hwf)
      have hne : d ≠ e := fun heq => hl (heq ▸ he)
      omega

end Slots

/-! ### Compaction -/

/-- The store, whatever command waits for compaction. -/
def State.store (s : State) : Nvm := { s.nvm with compactToken := none }

/-- The store once compaction has begun: S is `last`, and the inactive base slot is erased. -/
def State.compactBegun (s : State) (last : Nat) : Nvm :=
  { s.store with
    compacting := true, compactSeq := last, compactFailed := false, compactAsked := false
    bases := putSlot s.nvm.bases s.flashUp s.otherBase none
    eraseBase := s.nvm.eraseBase.set s.otherBase (s.nvm.eraseBase.getD s.otherBase 0 + 1) }

theorem State.compactDone_keeps {β : Sort _} (obs : State → β)
    (h : ∀ (s : State) x0 x1 x2 x3, obs { s with nvm := { s.nvm with compactToken := x0 }, out := x1, hif := x2, qm := x3 } = obs s)
    (s : State) (st : Nat) : obs (s.compactDone st) = obs s := by
  unfold State.compactDone
  split
  · exact (State.adminDone_keeps obs (fun u _ _ _ => h u u.nvm.compactToken _ _ _) _ _ _ _).trans (h s none s.out s.hif s.qm)
  · rfl

theorem compactionStart_begins {s : State} (h : Serving s) (hdue : s.compactDue = true) :
    ∃ t last, exec .compactionStart s = .next t ∧ t.store = s.compactBegun last ∧ t.coh = s.coh ∧ t.ldg = s.ldg := by
  have hexec : exec .compactionStart s = execCompactionStart s := rfl
  rw [hexec]
  generalize hres : execCompactionStart s = res
  unfold execCompactionStart at hres
  rw [whenWorking_of_serving h, if_neg (by rw [hdue]; decide)] at hres
  extract_lets last erased at hres
  split at hres
  · subst hres
    exact ⟨_, last, rfl, State.adminDone_keeps State.store (fun _ _ _ _ => rfl) _ _ _ _,
      State.adminDone_keeps State.coh (fun _ _ _ _ => rfl) _ _ _ _, State.adminDone_keeps State.ldg (fun _ _ _ _ => rfl) _ _ _ _⟩
  · subst hres
    exact ⟨_, last, rfl, rfl, rfl, rfl⟩

/-- The superblocks of a device with one more, where the device is in service. -/
def State.blocks (s : State) (d : Nat) (l : List Bytes) (n : Superblock) : List Bytes := if d ∈ s.flashUp then addBlock l n.bytes else l

theorem State.newSuperblock_of_active {s : State} {a : Superblock} (hactive : s.nvm.active = some a) (f : Superblock → Superblock)
    {n : Superblock} (hn : n = { f a with seq := a.seq + 1, epochHwm := s.coh.hwm }) : s.newSuperblock f =
      { s with nvm := { s.nvm with sb0 := s.blocks 0 s.nvm.sb0 n, sb1 := s.blocks 1 s.nvm.sb1 n, active := some n } } := by
  subst hn
  unfold State.newSuperblock
  rw [hactive]
  rfl

/-- The superblock that names the base slot that compaction has filled (R697, R710). -/
def State.naming (s : State) (a : Superblock) (len off : Nat) (hash : Bytes) : Superblock :=
  { a with seq := a.seq + 1, epochHwm := s.coh.hwm, baseSlot := s.otherBase, baseLen := len, replayFrom := s.nvm.compactSeq + 1,
           journalOffset := off, baseHash := hash }

/-- The store once the superblock `n` names the merged image `m` in the base slot that was not in effect. -/
def State.compacted (s : State) (n : Superblock) (m : BaseImage) (used : Nat) : Nvm :=
  { s.store with
    compacting := false, active := some n, sb0 := s.blocks 0 s.nvm.sb0 n, sb1 := s.blocks 1 s.nvm.sb1 n
    bases := putSlot s.nvm.bases s.flashUp s.otherBase (some m), base := some m, usedPages := used }

section Complete

variable {s : State} {len : Nat} {b : BaseImage} (h : Serving s) (hrun : s.nvm.compacting = true)
  (hbase : s.nvm.base = some b)

include h hrun hbase

/-- An image too long, or one that reads back wrong, stops compaction and leaves what is in effect (R710). -/
theorem compactionComplete_stops {ok : Bool} (hbad : FlashRegion.baseA.size < len ∨ ok = false) :
    ∃ t, exec (.compactionComplete len ok) s = .next t ∧ t.store = { s.store with compacting := false, compactFailed := true } := by
  have hexec : exec (.compactionComplete len ok) s = .next ((State.event
      { s with nvm := { s.nvm with compacting := false, compactFailed := true } } 0xB008 3 []).compactDone stInternalError) := by
    refine (whenWorking_of_serving h _).trans ((if_neg (by rw [hrun]; decide)).trans ?_)
    simp only [hbase]
    exact if_pos (by simpa using hbad)
  exact ⟨_, hexec, (State.compactDone_keeps State.store (fun _ _ _ _ _ => rfl) _ _).trans
    (State.event_keeps State.store (fun _ _ _ _ => rfl) _ _ _ _)⟩

/-- An image that reads back whole is named by the next superblock, in the base slot that was not in effect (R710). -/
theorem compactionComplete_names {a : Superblock} (hactive : s.nvm.active = some a) (hlen : len ≤ FlashRegion.baseA.size) :
    ∃ t off m used, exec (.compactionComplete len true) s = .next t ∧ m.macOk = true ∧ m.len = len ∧
      t.store = s.compacted (s.naming a len off m.hash) m used ∧ t.coh = s.coh ∧ t.ldg = s.ldg := by
  have hexec : exec (.compactionComplete len true) s = execCompactionComplete len true s := rfl
  rw [hexec]
  generalize hres : execCompactionComplete len true s = res
  unfold execCompactionComplete at hres
  rw [whenWorking_of_serving h, if_neg (by rw [hrun]; decide)] at hres
  extract_lets _ u _ _ upTo at hres
  split at hres
  next hnone => exact absurd (hbase.symm.trans hnone) nofun
  next b' _ =>
  rw [if_neg (by simpa using hlen)] at hres
  split at hres
  next hash v hv =>
  split at hres
  next imageLen w hw =>
  obtain ⟨f, rfl⟩ : ∃ f, w = { u with free := f } := by
    refine ⟨w.free, ?_⟩
    cases hv
    cases hw
    rfl
  extract_lets _ merged slot put off named _ filled told at hres
  subst hres
  have hnamed : named = { put with nvm := { put.nvm with
      sb0 := s.blocks 0 s.nvm.sb0 (s.naming a len off hash), sb1 := s.blocks 1 s.nvm.sb1 (s.naming a len off hash)
      active := some (s.naming a len off hash) } } :=
    State.newSuperblock_of_active (s := put) hactive _ rfl
  have hfilled : filled.store = s.compacted (s.naming a len off hash) merged (named.pagesFrom (upTo + 1)) :=
    congrArg (fun x : State => ({ x.store with base := some merged, usedPages := named.pagesFrom (upTo + 1) } : Nvm)) hnamed
  have htail : ∀ {β : Type} (obs : State → β), (∀ (u : State) x0 x1 x2 x3 x4 x5, obs { u with
      nvm := { u.nvm with compactToken := x0 }, out := x1, hif := x2, qm := x3, evr := x4, ctr := x5 } = obs u) →
      obs (told.compactDone stSuccess) = obs filled := by
    intro β obs hobs
    rw [State.compactDone_keeps obs (fun u _ _ _ _ => hobs u _ _ _ _ u.evr u.ctr)]
    unfold told
    rw [State.event_keeps obs (fun u _ _ _ => hobs u u.nvm.compactToken _ u.hif u.qm _ _),
      State.count1_keeps obs (fun u _ => hobs u u.nvm.compactToken u.out u.hif u.qm u.evr _)]
  refine ⟨_, off, merged, named.pagesFrom (upTo + 1), rfl, rfl, rfl, ?_, ?_, ?_⟩
  · exact (htail State.store fun _ _ _ _ _ _ _ => rfl).trans hfilled
  · exact (htail State.coh fun _ _ _ _ _ _ _ => rfl).trans (congrArg State.coh hnamed :)
  · exact (htail State.ldg fun _ _ _ _ _ _ _ => rfl).trans (congrArg State.ldg hnamed :)

end Complete

/-! ### A flash device that leaves service -/

theorem State.records_raiseAlert (s : State) (sev : Nat) : (s.raiseAlert sev).evr.records = s.evr.records := by
  unfold State.raiseAlert State.assertAlert
  split
  · split
    · rfl
    · rfl
  · rfl

theorem State.records_eventWith (s : State) (c : Nat) (i : EvInfo) (l : List Snap) :
    (s.eventWith c i l).evr.records = s.evr.records := by
  unfold State.eventWith
  split
  · rfl
  split
  · exact State.count1_keeps (fun u => u.evr.records) (fun _ _ => rfl) _ _
  · exact (State.records_raiseAlert _ _).trans
      (State.count1_keeps (fun u => u.evr.records) (fun _ _ => rfl) _ _)

section Detected

variable {s : State} {u : UnitRef} (hnew : s.recordOpen u = false) (hroom : s.evr.records.length < 64)
  (hnarrow : wideUnit (some u) = false)

include hnew hroom hnarrow

/-- The first uncorrectable error of a unit within a block opens a record and does not escalate (R733 to R736). -/
theorem State.uncorrected_opens (source : Nat) (item : ErrItem) (dma contained : Bool) (x : Nat) :
    (s.uncorrected 2 source (some u) item dma contained x).1 = 2 := by
  unfold State.uncorrected
  extract_lets second cls n code told counted _ v
  have hsecond : second = false := hnew
  have hcls : cls = 2 := if_neg (by rw [hsecond]; decide)
  have hrecords : v.evr.records = s.evr.records :=
    (State.count1_keeps (fun w => w.evr.records) (fun _ _ => rfl) told _).trans (s.records_eventWith _ _ _)
  rw [if_neg (by rw [hnarrow]; simp), if_neg (by rw [hrecords]; omega)]
  exact hcls

theorem State.detect_opens (hsound : s.evr.fatal = false) (source : Nat) (item : ErrItem) (dma contained : Bool) :
    (s.detect 2 source (some u) item dma contained).1 = 2 := by
  unfold State.detect
  rw [if_neg (by rw [hsound]; decide)]
  exact State.uncorrected_opens (s := (s.draw (2 ^ 32)).2) hnew hroom hnarrow _ _ _ _ _

end Detected

theorem State.state_moveUnit (s : State) (k : UnitKind) (sl n : Nat) (next : Service) (reason : Nat) :
    ((s.moveUnit k sl n next reason).unit k sl n).state = next := by
  unfold State.moveUnit
  extract_lets x a b c
  split
  · assumption
  · refine (State.eventWith_keeps (fun w => (w.unit k sl n).state) (fun _ _ _ _ => rfl) c _ _ _).trans ?_
    exact congrArg UnitSt.state (b.unit_setUnit_self k sl n _)

theorem State.state_serviceDone (s : State) (u : UnitRef) (st : Nat) :
    ((s.serviceDone u st).unit u.1 u.2.1 u.2.2).state = (s.unit u.1 u.2.1 u.2.2).state := by
  unfold State.serviceDone
  extract_lets x
  split
  · rfl
  · refine (State.adminDone_keeps (fun w => (w.unit u.1 u.2.1 u.2.2).state) (fun _ _ _ _ => rfl) _ _ _ _).trans ?_
    exact (congrArg UnitSt.state (s.unit_setUnit_self _ _ _ { x with token := none })).trans rfl

theorem State.state_unitFault (s : State) (u : UnitRef) (second : Bool) :
    ((s.unitFault u second).unit u.1 u.2.1 u.2.2).state = .outOfService :=
  (State.state_serviceDone _ u _).trans (State.state_moveUnit _ _ _ _ _ _)

theorem State.flashLeaves_keeps {β : Sort _} (obs : State → β)
    (h : ∀ (s : State) x0 x1 x2 x3 x4 x5 x6 x7, obs { s with
      svc := x0, out := x1, hif := x2, qm := x3, evr := x4, ctr := x5, mgt := x6, free := x7 } = obs s)
    (s : State) (d : Nat) (second : Bool) : obs (s.flashLeaves d second) = obs s :=
  (State.unitFault_keeps obs h _ _ _).trans (State.eventWith_keeps obs (fun u _ _ _ => h u u.svc _ u.hif u.qm _ _ u.mgt u.free) s _ _ _)

/-- The third failure in a row takes a device out of service (R696). -/
theorem State.flashFailed_third {s : State} {d : Nat} (hthird : s.flashFailures d = 2) (hsound : s.evr.fatal = false)
    (hnew : s.recordOpen (.flash, 0, d) = false) (hroom : s.evr.records.length < 64) : s.flashFailed d =
      ((((s.count1 C.nvmProgErr).setFlashFailures d 3).detect 2 0xB (some (.flash, 0, d)) .none false false).2).flashLeaves d false := by
  have hkeeps : ∀ {β : Type} (obs : State → β), (∀ (u : State) x, obs { u with ctr := x } = obs u) →
      (∀ (u : State) x, obs { u with nvm := { u.nvm with flashFails := x } } = obs u) →
      obs ((s.count1 C.nvmProgErr).setFlashFailures d 3) = obs s := fun obs hctr hfails =>
    (hfails _ _).trans (State.count1_keeps obs hctr s _)
  have hcls := State.detect_opens (s := (s.count1 C.nvmProgErr).setFlashFailures d 3) (u := (.flash, 0, d))
    ((hkeeps (fun u => u.recordOpen (.flash, 0, d)) (fun _ _ => rfl) (fun _ _ => rfl)).trans hnew)
    ((hkeeps (fun u => u.evr.records.length) (fun _ _ => rfl) (fun _ _ => rfl)).trans_lt hroom) rfl
    ((hkeeps (fun u => u.evr.fatal) (fun _ _ => rfl) (fun _ _ => rfl)).trans hsound) 0xB .none false false
  unfold State.flashFailed
  rw [hthird]
  simp [hcls]

theorem flashOperationFailed_takes_out {s : State} {d : Nat} (h : Serving s) (hd : d ∈ s.flashUp)
    (hnew : s.recordOpen (.flash, 0, d) = false) (hroom : s.evr.records.length < 64) :
    ∃ t, exec (.flashOperationFailed d) s = .next t ∧ (t.unit .flash 0 d).state = .outOfService ∧ t.coh = s.coh ∧
      t.ldg = s.ldg ∧ t.nvm.journal = s.nvm.journal := by
  have hthird : (s.setFlashFailures d 2).flashFailures d = 2 :=
    (s.flashFailures_setFlashFailures d 2 d (State.mem_flashUp hd).1).trans (if_pos rfl)
  have hfailed := State.flashFailed_third hthird h.sound hnew hroom
  have hkeeps : ∀ {β : Type} (obs : State → β), (∀ (u : State) x0 x1 x2 x3 x4 x5 x6 x7 x8, obs { u with
      svc := x0, out := x1, hif := x2, qm := x3, evr := x4, ctr := x5, mgt := x6, free := x7, tel := x8 } = obs u) →
      (∀ (u : State) x, obs { u with nvm := { u.nvm with flashFails := x } } = obs u) →
      obs ((s.setFlashFailures d 2).flashFailed d) = obs s := by
    intro β obs hobs hfails
    rw [hfailed]
    exact (State.flashLeaves_keeps obs (fun u _ _ _ _ _ _ _ _ => hobs u _ _ _ _ _ _ _ _ u.tel) _ _ _).trans <|
      (State.detect_keeps obs (fun u _ _ _ _ _ _ _ => hobs u u.svc _ _ _ _ _ u.mgt _ _) _ _ _ _ _ _ _).trans <|
      (hfails _ _).trans <| (State.count1_keeps obs (fun u _ => hobs u u.svc u.out u.hif u.qm u.evr _ u.mgt u.free u.tel) _ _).trans
        (hfails s _)
  refine ⟨_, (whenWorking_of_serving h _).trans (if_pos hd), ?_,
    hkeeps State.coh (fun _ _ _ _ _ _ _ _ _ _ => rfl) (fun _ _ => rfl),
    hkeeps State.ldg (fun _ _ _ _ _ _ _ _ _ _ => rfl) (fun _ _ => rfl),
    hkeeps (fun u => u.nvm.journal) (fun _ _ _ _ _ _ _ _ _ _ => rfl) (fun _ _ => rfl)⟩
  rw [hfailed]
  exact State.state_unitFault _ (.flash, 0, d) _

/-! ### FLASH_REFRESH -/

theorem State.value_count1_ne {s : State} (harmed : s.snap.phase ≠ .armed) {a b : Nat} (hab : a ≠ b) (v : DWord) :
    (s.count1 b).ctr.value.getD a v = s.ctr.value.getD a v := by
  unfold State.count1 State.count
  rw [if_neg fun hall => harmed hall.1]
  exact s.ctr.value.getD_set_ne hab _ _

/-- An event counts entries written and entries suppressed, and nothing else. -/
theorem State.value_eventWith {s : State} (harmed : s.snap.phase ≠ .armed) {a : Nat} (hw : a ≠ C.evrWritten)
    (hs : a ≠ C.evrSuppressed) (c : Nat) (i : EvInfo) (l : List Snap) (v : DWord) :
    (s.eventWith c i l).ctr.value.getD a v = s.ctr.value.getD a v := by
  unfold State.eventWith
  split
  · rfl
  split
  · refine State.value_count1_ne ?_ hs v
    exact harmed
  · rw [State.raiseAlert_keeps State.ctr (fun _ _ _ => rfl)]
    refine State.value_count1_ne ?_ hw v
    exact harmed

theorem State.value_count1_self {s : State} (harmed : s.snap.phase ≠ .armed) (a : Nat) :
    (s.count1 a).ctr.value.getD a 0 = s.ctr.value.getD a 0 + 1 := by
  unfold State.count1 State.count
  rw [if_neg fun hall => harmed hall.1]
  exact s.ctr.value.getD_set_self _ _ _

/-- One structure rewritten from the mirror, as it is reported (R712). -/
def State.refreshed (s : State) : State := (s.count1 C.nvmRefresh).event 0xB00C 2 []

theorem State.refreshed_keeps {β : Sort _} (obs : State → β)
    (h : ∀ (s : State) x0 x1 x2, obs { s with evr := x0, out := x1, ctr := x2 } = obs s) (s : State) : obs s.refreshed = obs s :=
  (State.event_keeps obs h _ _ _ _).trans (State.count1_keeps obs (fun u _ => h u u.evr u.out _) s _)

theorem State.value_refreshed {s : State} (harmed : s.snap.phase ≠ .armed) :
    s.refreshed.ctr.value.getD C.nvmRefresh 0 = s.ctr.value.getD C.nvmRefresh 0 + 1 := by
  have hsnap : (s.count1 C.nvmRefresh).snap = s.snap := State.count1_keeps State.snap (fun _ _ => rfl) s _
  exact (State.value_eventWith (by rwa [hsnap]) (by decide) (by decide) _ _ _ _).trans (State.value_count1_self harmed _)

theorem State.value_foldl_refreshed (l : List Nat) {s : State} (harmed : s.snap.phase ≠ .armed) :
    (l.foldl (fun (s : State) _ => s.refreshed) s).ctr.value.getD C.nvmRefresh 0 =
      s.ctr.value.getD C.nvmRefresh 0 + BitVec.ofNat 64 l.length := by
  induction l generalizing s with
  | nil => simp
  | cons x l ih =>
    have hsnap : s.refreshed.snap = s.snap := State.refreshed_keeps State.snap (fun _ _ _ _ => rfl) s
    rw [List.foldl_cons, ih (by rwa [hsnap]), State.value_refreshed harmed, List.length_cons, Nat.add_comm l.length, BitVec.ofNat_add]
    exact add_assoc _ _ _

theorem State.foldl_refreshed_frame (l : List Nat) {s t : State} (ht : l.foldl (fun (s : State) _ => s.refreshed) s = t) :
    t = { s with evr := t.evr, ctr := t.ctr, out := t.out } := by
  have hstep : ∀ u : State, ({ u.refreshed with evr := t.evr, ctr := t.ctr, out := t.out } : State) =
      { u with evr := t.evr, ctr := t.ctr, out := t.out } :=
    State.refreshed_keeps (fun u => ({ u with evr := t.evr, ctr := t.ctr, out := t.out } : State)) (fun _ _ _ _ => rfl)
  have hkeeps := foldl_keeps (fun u => ({ u with evr := t.evr, ctr := t.ctr, out := t.out } : State)) _ (fun u (_ : Nat) => hstep u) l s
  rw [ht] at hkeeps
  exact hkeeps

section Refresh

variable {s : State} (h : Serving s) (hdue : s.nvm.refreshedAt + 86400 * secStamp ≤ s.now)

include h hdue

theorem exec_flashRefresh_alone (l : List Nat) (hfew : s.flashUp.length < 2) : exec (.flashRefresh l) s =
    .next { s with nvm := { s.nvm with refreshedAt := s.now } } :=
  (whenWorking_of_serving h _).trans ((if_neg (Nat.not_lt.mpr hdue)).trans (if_pos hfew))

theorem exec_flashRefresh_mirrored (l : List Nat) (hboth : 2 ≤ s.flashUp.length) : exec (.flashRefresh l) s =
    .next (l.foldl (fun (s : State) _ => s.refreshed) { s with nvm := { s.nvm with refreshedAt := s.now } }) :=
  (whenWorking_of_serving h _).trans ((if_neg (Nat.not_lt.mpr hdue)).trans (if_neg (Nat.not_lt.mpr hboth)))

end Refresh

/-! ### NVM_STATUS -/

@[simp] theorem length_le (n v : Nat) : (le n v).length = n := by simp [le]

theorem exec_nvmCompact (r : AdminRef) (flags : Nat) (s : State) : exec (.nvmCompact r flags) s = execNvmCompact r flags s := rfl

theorem exec_nvmStatus (r : AdminRef) (s : State) : exec (.nvmStatus r) s = execNvmStatus r s := rfl

/-- NVM_STATUS answers the devices' states, the superblock's SEQ and the reserved epochs at their places (R727). -/
theorem nvmStatus_answers {s : State} {r : AdminRef} (h : PfStarts r s) :
    ∃ b, exec (.nvmStatus r) s = ends s r (s.adminOpen r) stSuccess [(16, b)] ∧ b.length = 46 ∧
      b.take 2 = le 1 (s.unit .flash 0 0).state.code ++ le 1 (s.unit .flash 0 1).state.code ∧
      (b.drop 8).take 8 = le 8 s.sbSeq ∧ (b.drop 28).take 4 = le 4 s.coh.hwm := by
  have hunit : ∀ d, (s.adminOpen r).unit .flash 0 d = s.unit .flash 0 d := fun d =>
    State.adminOpen_keeps (fun u => u.unit .flash 0 d) (fun _ _ _ _ => rfl) s r
  have hseq : (s.adminOpen r).sbSeq = s.sbSeq := State.adminOpen_keeps State.sbSeq (fun _ _ _ _ => rfl) s r
  have hcoh : (s.adminOpen r).coh = s.coh := State.adminOpen_keeps State.coh (fun _ _ _ _ => rfl) s r
  refine ⟨_, (exec_nvmStatus r s).trans (runAdmin_completes_pf h rfl), ?_, ?_, ?_, ?_⟩
  · simp
  · rw [hunit, hunit]
    simp [List.take_append]
  · rw [hseq]
    simp [List.drop_append, List.drop_eq_nil_of_le]
  · rw [hcoh]
    simp [List.drop_append, List.drop_eq_nil_of_le]

/-- Settles O49: a record is in the ring before what waited for it follows, and a superblock names only the slot that holds the merged
image. -/
theorem storeWrites : Obligations.StoreWrites := by
  unfold Obligations.StoreWrites
  refine ⟨fun s h => ⟨?journalIdle, ?journal, ?notDue, ?due, ?notCompacting, ?compacting, ?fails, ?refresh, ?resync⟩,
    fun s r h => have hnvm := State.adminOpen_keeps State.nvm (fun _ _ _ _ => rfl) s r
      ⟨?flags, ?busy, ?asked, nvmStatus_answers h⟩⟩
  case journalIdle =>
    intro ok0 ok1 hnone
    refine (whenWorking_of_serving h _).trans ?_
    rw [hnone]
  case journal =>
    intro r why rest hwriting hmirror h0 h1 hnew
    have hboth := State.flashUp_both hmirror h0 h1
    exact ⟨journalWriteComplete_writes h hwriting hboth hnew, journalWriteComplete_holds h hwriting hboth hnew⟩
  case notDue => exact fun hno => (whenWorking_of_serving h _).trans (if_pos (by rw [hno]; rfl))
  case due =>
    intro hdue
    obtain ⟨t, last, hexec, hstore, hcoh, hldg⟩ := compactionStart_begins h hdue
    have hbases : t.nvm.bases = putSlot s.nvm.bases s.flashUp s.otherBase none := congrArg Nvm.bases hstore
    refine ⟨t, hexec, congrArg Nvm.compacting hstore, congrArg Nvm.compactAsked hstore, (congrArg Nvm.active hstore :),
      (congrArg Nvm.base hstore :), (congrArg Nvm.journal hstore :), fun hwf d hd => ?_, fun k hk => ?_,
      (congrArg Nvm.fw hstore :), hcoh, hldg⟩
    · rw [hbases]
      exact putSlot_none_get? _ _ hwf hd
    · rw [hbases]
      exact putSlot_get?_ne none _ _ hk
  case notCompacting => exact fun len ok hno => (whenWorking_of_serving h _).trans (if_pos (by rw [hno]; rfl))
  case compacting =>
    intro len ok b a hrun hbase hactive
    refine ⟨fun hbad => ?_, fun hlen hok => ?_⟩
    · obtain ⟨t, hexec, hstore⟩ := compactionComplete_stops h hrun hbase hbad
      exact ⟨t, hexec, congrArg Nvm.compacting hstore, congrArg Nvm.compactFailed hstore,
        (congrArg Nvm.active hstore).trans hactive, (congrArg Nvm.base hstore).trans hbase, (congrArg Nvm.sb0 hstore :),
        (congrArg Nvm.sb1 hstore :)⟩
    · subst hok
      obtain ⟨t, off, m, used, hexec, hmac, hmlen, hstore, hcoh, hldg⟩ := compactionComplete_names h hrun hbase hactive hlen
      have hbases : t.nvm.bases = putSlot s.nvm.bases s.flashUp s.otherBase (some m) := congrArg Nvm.bases hstore
      refine ⟨t, s.naming a len off m.hash, m, hexec, congrArg Nvm.compacting hstore, (congrArg Nvm.active hstore :), fun hd => ?_,
        fun hd => ?_, rfl, rfl, rfl, rfl, rfl, rfl, (congrArg Nvm.base hstore :), fun d hd => ?_, hmac, hmlen, rfl, hcoh, hldg⟩
      · exact (congrArg Nvm.sb0 hstore).trans (if_pos hd)
      · exact (congrArg Nvm.sb1 hstore).trans (if_pos hd)
      · rw [hbases]
        exact putSlot_some_get? m _ _ hd
  case fails => exact fun d => ⟨fun hout => (whenWorking_of_serving h _).trans (if_neg hout), flashOperationFailed_takes_out h⟩
  case refresh =>
    intro l
    refine ⟨fun hearly => (whenWorking_of_serving h _).trans (if_pos hearly), fun hdue => exec_flashRefresh_alone h hdue l,
      fun hdue hboth => ⟨_, exec_flashRefresh_mirrored h hdue l hboth, ?_, ?_⟩⟩
    · exact State.value_foldl_refreshed (s := { s with nvm := { s.nvm with refreshedAt := s.now } }) l
    · exact State.foldl_refreshed_frame l rfl
  case resync =>
    intro d
    refine ⟨fun hno => (whenWorking_of_serving h _).trans (if_pos hno), fun hskewed =>
      ⟨_, (whenWorking_of_serving h _).trans (if_neg (not_not.mpr hskewed)), State.state_moveUnit _ _ _ _ _ _, ?_⟩⟩
    rw [State.moveUnit_keeps State.nvm (fun _ _ _ _ _ _ _ _ => rfl), State.moveUnit_keeps State.ldg (fun _ _ _ _ _ _ _ _ => rfl),
      State.moveUnit_keeps State.coh (fun _ _ _ _ _ _ _ _ => rfl)]
    refine ⟨rfl, fun hd => ⟨if_pos hd, if_pos hd⟩, fun hd => ⟨if_neg hd, if_neg hd⟩, ?_, fun hd => ?_, fun hd => ?_, rfl⟩
    · intro r hr
      obtain ⟨x, -, rfl⟩ := List.mem_map.mp hr
      rfl
    · exact congrArg Ledger.ckpt0 (if_pos hd)
    · exact congrArg Ledger.ckpt1 (if_neg hd)
  case flags => exact fun flags hflags => (exec_nvmCompact r flags s).trans (runAdmin_completes_pf h (if_pos hflags))
  case busy =>
    intro flags hflags hbusy
    refine (exec_nvmCompact r flags s).trans (runAdmin_completes_pf h ?_)
    exact (if_neg (Nat.not_le.mpr hflags)).trans (if_pos (by rwa [hnvm]))
  case asked =>
    intro flags hflags hidle hnone hbase
    have hfree : ¬((s.adminOpen r).nvm.compacting = true ∨ (s.adminOpen r).nvm.compactToken.isSome = true) := by
      simp [hidle, hnone]
    have hthere : ¬(s.adminOpen r).nvm.base.isNone = true := by
      simpa [hnvm, Option.isSome_iff_ne_none] using hbase
    rw [← hnvm]
    refine (exec_nvmCompact r flags s).trans (runAdmin_waits_pf h ?_)
    exact (if_neg (Nat.not_le.mpr hflags)).trans ((if_neg hfree).trans (if_neg hthere))

end Sys2Proof.Machine
end

section
/-! PROOFS. One step, and one edge of the time base (R70, R124, R143, R744, R792). -/

namespace Sys2Proof.Machine

/-- What the time base and its outputs do of themselves goes on unless the time/merge island caused FATAL (R744). -/
theorem whenTimed_of_live {s : State} (h : Live s) (hisland : s.timeDead = false) (k : Res) : whenTimed s k = k := by
  rw [whenTimed, whenLive_of_live h, if_neg (by simp [hisland])]

/-- With no command waiting a step is one edge. -/
theorem step_of_empty {s : State} (h : s.pending = []) : step s = .next s.edge := by
  simp only [step, h, State.idle]

/-! ### The announced increments (R143) -/

/-- With nothing announced for an instant that has come, the increment in effect stays. -/
theorem State.takePlan_of_early {s : State} (h : ∀ p ∈ s.tb.plan, s.now < p.at_) : s.takePlan = s := by
  have hnone : s.tb.plan.filter (fun p => decide (p.at_ ≤ s.now)) = [] :=
    List.filter_eq_nil_iff.mpr fun p hp => by simpa using h p hp
  simp [State.takePlan, hnone]

/-- Else the newest of those comes into effect, and they are announced no longer. -/
theorem State.takePlan_of_due {s : State} {p : IncrPlan}
    (h : (s.tb.plan.filter fun p => decide (p.at_ ≤ s.now)).getLast? = some p) :
    s.takePlan = { s with tb := { s.tb with
      incr := p.incr, slewNow := p.slew, plan := s.tb.plan.filter fun p => decide (s.now < p.at_) } } := by
  simp [State.takePlan, h]

/-- Taking what is announced changes the increment, its slew and the announcements alone. -/
theorem State.takePlan_frame (s : State) : ∃ i l p, s.takePlan = { s with tb := { s.tb with incr := i, slewNow := l, plan := p } } := by
  unfold State.takePlan
  split <;> exact ⟨_, _, _, rfl⟩

/-! ### The time copies (R143, R144) -/

theorem State.die_modDie_self (s : State) (d : Nat) (f : DieCal → DieCal) : (s.modDie d f).die d = f (s.die d) :=
  Table.getD_set_self _ _ _ _

theorem State.die_modDie_ne (s : State) {d e : Nat} (h : e ≠ d) (f : DieCal → DieCal) : (s.modDie d f).die e = s.die e :=
  Table.getD_set_ne _ h _ _

/-- Changing each of some different dies changes those, each once. -/
theorem State.die_foldl_modDie {l : List Nat} (hl : l.Nodup) (f : DieCal → DieCal) {d : Nat} (hd : d ∈ l) (s : State) :
    (l.foldl (fun (s : State) k => s.modDie k f) s).die d = f (s.die d) := by
  induction l generalizing s with
  | nil => cases hd
  | cons k l ih =>
    obtain ⟨hk, hl⟩ := List.nodup_cons.mp hl
    rcases List.mem_cons.mp hd with rfl | hmem
    · have hother : ∀ (l : List Nat) (u : State), d ∉ l → (l.foldl (fun (s : State) k => s.modDie k f) u).die d = u.die d := by
        intro l
        induction l with
        | nil => exact fun _ _ => rfl
        | cons k l ih =>
          intro u hout
          obtain ⟨hne, hout⟩ := List.ne_and_not_mem_of_not_mem_cons hout
          exact (ih _ hout).trans (State.die_modDie_ne u hne f)
      exact (hother l _ hk).trans (State.die_modDie_self s d f)
    · have hne : d ≠ k := fun he => hk (he ▸ hmem)
      rw [List.foldl_cons, ih hl hmem, State.die_modDie_ne s hne]

/-- Moving the time copies changes the stamping unit alone. -/
theorem State.moveCopies_keeps {β : Sort _} (obs : State → β) (h : ∀ (s : State) x, obs { s with stp := x } = obs s) (s : State)
    (d : Int) : obs (s.moveCopies d) = obs s :=
  foldl_keeps obs _ (fun u _ => h u _) _ s

/-- Every die's time copy moves. -/
theorem State.copy_moveCopies (s : State) (n : Nat) {d : Nat} (hd : d < 4) :
    ((s.moveCopies n).die d).copy = (s.die d).copy + n := by
  rw [State.moveCopies, State.die_foldl_modDie (List.nodup_range) _ (List.mem_range.mpr hd)]
  exact Int.toNat_natCast ((s.die d).copy + n)

/-- An edge as far as it comes before the end of a phase correction: the announced increment is taken, the time grows, four times over on
the safe clock, and the time copies with it (R70, R143, R792). -/
def State.tick (s : State) : State :=
  let k : Nat := if (s.island 13).safe then 4 else 1
  let u := s.takePlan
  ({ u with tb := { u.tb with
    time := u.tb.time + k * u.tb.incr, covered := u.tb.covered + k * (u.tb.slew - u.tb.slewNow) } } : State).moveCopies
      (k * u.tb.incr : Nat)

/-- What that leaves. -/
theorem State.tick_eq (s : State) : s.tick = { s with
    stp := s.tick.stp
    tb := { s.tb with
      time := s.tb.time + (if (s.island 13).safe then 4 else 1) * s.takePlan.tb.incr, incr := s.takePlan.tb.incr
      slewNow := s.takePlan.tb.slewNow, plan := s.takePlan.tb.plan
      covered := s.tb.covered + (if (s.island 13).safe then 4 else 1 : Nat) * (s.tb.slew - s.takePlan.tb.slewNow) } } := by
  change ({ s.tick with stp := s.tick.stp } : State) = _
  refine (State.moveCopies_keeps (fun u => { u with stp := s.tick.stp }) (fun _ _ => rfl) _ _).trans ?_
  generalize s.tick.stp = stamping
  obtain ⟨i, l, p, htake⟩ := s.takePlan_frame
  rw [htake]

theorem State.copy_tick (s : State) {d : Nat} (hd : d < 4) :
    (s.tick.die d).copy = (s.die d).copy + (if (s.island 13).safe then 4 else 1) * s.takePlan.tb.incr := by
  refine (State.copy_moveCopies _ _ hd).trans ?_
  obtain ⟨i, l, p, htake⟩ := s.takePlan_frame
  rw [htake]
  rfl

/-- An edge with no phase correction going on is no more than that. -/
theorem State.edge_of_no_slew {s : State} (hruns : s.tb.running = true) (hlives : s.timeDead = false) (hslew : s.tb.slew = 0) :
    s.edge = s.tick :=
  (if_neg (by simp [hruns, hlives])).trans (if_pos ((congrArg (fun u => u.tb.slew) s.tick_eq).trans hslew))

/-- Settles O1: an edge is `State.tick`, with the increment that `State.takePlan` finds. -/
theorem stepTakesFront : Obligations.StepTakesFront := by
  unfold Obligations.StepTakesFront
  refine ⟨fun c rest s h => by simp only [step, h], fun s hempty hstill => ?stands, fun s hempty hruns hlives hslew => ?moves⟩
  case stands =>
    rw [step_of_empty hempty]
    exact congrArg _ (if_pos (by simpa using hstill))
  case moves =>
    have hstep : step s = .next s.tick := by rw [step_of_empty hempty, State.edge_of_no_slew hruns hlives hslew]
    refine ⟨_, s.takePlan.tb.incr, s.tick, rfl, hstep, fun hearly => ?_, fun p hdue => ?_, ?_, ?_, ?_, fun d hd => s.copy_tick hd, ?_⟩
    · rw [s.tick_eq, State.takePlan_of_early hearly]
      exact ⟨rfl, rfl⟩
    · rw [s.tick_eq, State.takePlan_of_due hdue]
      exact ⟨rfl, fun q hq => by simpa using (List.mem_filter.mp hq).2⟩
    all_goals rw [s.tick_eq]

end Sys2Proof.Machine
end

section
/-! PROOFS. What a stored field reads, and the time outputs and event inputs (R96 to R100, R104 to R111, R123). -/

namespace Sys2Proof.Machine

/-! ### Fields that were stored -/

/-- A field that was stored reads as stored, modulo its width. -/
theorem State.fld_setFld_self {s : State} {f : FieldRef} (hwf : s.regs.cells.wf = true) (hfits : f.fits = true) (v : Nat) :
    (s.setFld f v).fld f = v % 2 ^ f.width := by
  simp only [FieldRef.fits, decide_eq_true_eq] at hfits
  unfold State.fld State.setFld
  rw [State.reg_setReg_self _ _ _ hwf]
  refine Nat.eq_of_testBit_eq fun i => ?_
  rw [testBit_getBits, Nat.testBit_mod_two_pow, testBit_putBits, Nat.testBit_mod_two_pow]
  by_cases hi : i < f.width
  · rw [if_pos (by omega)]
    simp [hi, show f.lo + i < 32 by omega]
  · simp [hi]

/-- A field of another register is left alone, whatever the register file holds. -/
theorem State.fld_setFld_elsewhere (s : State) {f g : FieldRef} (h : f.addr ≠ g.addr) (v : Nat) : (s.setFld g v).fld f = s.fld f :=
  congrArg (getBits · f.lo f.width) (s.reg_setReg_ne h _)

/-! ### PPS outputs (R96, R97) -/

/-- A PPS output driven high for the second boundary `sec`, at the instant `rise`, with the time-of-day message that follows it (R96,
R99). -/
def State.ppsRaised (s : State) (n sec rise : Nat) : State :=
  ({ s with tb := { s.tb with
    ppsRise := s.tb.ppsRise.set n rise
    ppsHigh := if n ∈ s.tb.ppsHigh then s.tb.ppsHigh else n :: s.tb.ppsHigh
    todDue := if s.fld F.tbTodCtrl_txEn = 1 ∧ s.fld F.tbTodCtrl_txSel = n then some (rise + 100 * msStamp, sec)
      else s.tb.todDue } } : State).emit (.ppsOut n true)

theorem State.mem_ppsHigh_ppsRaised (s : State) (n sec rise : Nat) : n ∈ (s.ppsRaised n sec rise).tb.ppsHigh := by
  change n ∈ if n ∈ s.tb.ppsHigh then s.tb.ppsHigh else n :: s.tb.ppsHigh
  split
  · assumption
  · exact List.mem_cons_self

section Outputs

variable {s : State} (h : Live s) (hisland : s.timeDead = false)
include h hisland

/-- PPS_OUT_RISE, its second and the instant of its edge by name. -/
theorem exec_ppsOutRise {n sec rise : Nat} (hsec : (s.now + s.fld (F.tbPpsOutAdv_adv n) * 256) / secStamp = sec)
    (hrise : sec * secStamp - s.fld (F.tbPpsOutAdv_adv n) * 256 = rise) : exec (.ppsOutRise n) s =
      if 2 ≤ n ∨ s.tb.running = false ∨ s.ppsRuns n = false ∨
          (∃ t, s.tb.ppsRise.get? n = some t ∧ rise ≤ t) ∨ rise + s.ppsWidth n ≤ s.now then .next s
      else .next (s.ppsRaised n sec rise) := by
  subst hsec hrise
  refine (whenTimed_of_live h hisland _).trans ?_
  cases s.tb.ppsRise.get? n <;> simp [State.ppsRaised]

/-- PPS_OUT_FALL of an output that has risen. -/
theorem exec_ppsOutFall {n : Nat} {t : Stamp} (hrose : s.tb.ppsRise.get? n = some t) :
    exec (.ppsOutFall n) s = if s.now < t + s.ppsWidth n then .next s else .next (s.ppsLow n) :=
  (whenTimed_of_live h hisland _).trans (by rw [hrose])

end Outputs

/-! ### The time-of-day message (R99, R100) -/

@[simp] theorem length_be (n v : Nat) : (be n v).length = n := by simp [be]

/-- Two bytes of a number spell it modulo 2^16. -/
theorem beNat_be_two (v : Nat) : beNat (be 2 v) = v % 65536 := by
  simp [beNat, be, le, List.range_succ]
  omega

theorem crc16Step_lt {c : Nat} (h : c < 2 ^ 16) : crc16Step c < 2 ^ 16 := by
  unfold crc16Step
  split
  · exact Nat.xor_lt_two_pow (Nat.mod_lt _ (by decide)) (by decide)
  · omega

/-- A CRC takes 16 bits. -/
theorem crc16_lt (b : Bytes) : crc16 b < 2 ^ 16 := by
  have hbits : ∀ (l : List Nat) (c : Nat), c < 2 ^ 16 → l.foldl (fun c _ => crc16Step c) c < 2 ^ 16 := by
    intro l
    induction l with
    | nil => exact fun _ h => h
    | cons _ l ih => exact fun c h => ih _ (crc16Step_lt h)
  unfold crc16
  generalize hstart : 0xFFFF = c
  have hc : c < 2 ^ 16 := by omega
  clear hstart
  induction b generalizing c with
  | nil => exact hc
  | cons x b ih =>
    have hx : x.toNat * 256 < 2 ^ 16 := by have := x.isLt; omega
    rw [List.foldl_cons]
    exact ih _ (hbits (List.range 8) _ (Nat.xor_lt_two_pow hc hx))

theorem State.length_todBody (s : State) (sec : Nat) : (s.todBody sec).length = 30 := by simp [State.todBody]

/-- The message that a second's edge starts. -/
def State.todMessage (s : State) (sec : Nat) : Bytes := s.todBody sec ++ be 2 (crc16 (s.todBody sec))

/-- It has the form of R100. -/
theorem State.todForm_todMessage (s : State) (sec : Nat) : todForm (s.todMessage sec) = true := by
  have hlen : (s.todMessage sec).length = 32 := by simp [State.todMessage, s.length_todBody]
  have hhead : bytesAt (s.todMessage sec) 0 4 = [0xA7, 0x5E, 0x01, 32] := by simp [State.todMessage, State.todBody, bytesAt]
  have hbody : (s.todMessage sec).take 30 = s.todBody sec := List.take_left' (s.length_todBody sec)
  have hcrc : bytesAt (s.todMessage sec) 30 2 = be 2 (crc16 (s.todBody sec)) := by
    rw [bytesAt, State.todMessage, List.drop_left' (s.length_todBody sec), List.take_of_length_le (by simp)]
  have hsum : crc16 (s.todBody sec) % 65536 = crc16 (s.todBody sec) := Nat.mod_eq_of_lt (crc16_lt _)
  simp only [todForm, hlen, hhead, hbody, hcrc, beNat_be_two, hsum, decide_true, Bool.and_self]

/-- It names the second. -/
theorem State.second_todMessage (s : State) (sec : Nat) : ((s.todMessage sec).drop 4).take 6 = be 6 sec := by
  simp [State.todMessage, State.todBody]

/-- TOD_TX_MESSAGE when its message is due. -/
theorem exec_todTxMessage {s : State} (h : Live s) (hisland : s.timeDead = false) {t sec : Nat} (hdue : s.tb.todDue = some (t, sec))
    (hnow : t ≤ s.now) (hon : s.fld F.tbTodCtrl_txEn ≠ 0) : exec .todTxMessage s = .next { s with
      tb := { s.tb with todDue := none, todSeq := (s.tb.todSeq + 1) % 65536 }, out := s.out ++ [.tod (s.todMessage sec)] } := by
  refine (whenTimed_of_live h hisland _).trans ?_
  simp [hdue, Nat.not_lt.mpr hnow, hon, State.todMessage, State.emit]

/-! ### Event inputs (R104 to R107) -/

/-- An event input that is enabled takes this edge of it (R104). -/
structure EvtTaken (n : Nat) (falling : Bool) (s : State) : Prop where
  input : n < 4
  runs : s.tb.running = true
  enabled : (s.fld F.tbEvtCtrl_enable).testBit n = true
  edge : (s.fld F.tbEvtCtrl_edge).testBit n = falling

/-- The time base moves no stored counter. -/
theorem State.regs_bump_tb (s : State) {tb : TimeBase} (htime : tb.time = s.tb.time) (f : FieldRef) (n : Nat) :
    (({ s with tb } : State).bump f n).regs = (s.bump f n).regs := by
  have hnow : ({ s with tb } : State).now = s.now := congrArg (· / 65536) htime
  unfold State.bump State.bumpAt
  rw [hnow]
  split <;> rfl

section Events

variable {s : State} (h : Live s) (hisland : s.timeDead = false)
include h hisland

/-- An edge that its input does not take changes nothing. -/
theorem exec_evtInEdge_ignored {n stamp width : Nat} {falling : Bool} (hout : 4 ≤ n ∨ s.tb.running = false ∨
    (s.fld F.tbEvtCtrl_enable).testBit n = false ∨ (s.fld F.tbEvtCtrl_edge).testBit n ≠ falling) :
    exec (.evtInEdge n stamp width falling) s = .next s :=
  (whenTimed_of_live h hisland _).trans (if_pos (by simpa using hout))

variable {n stamp width : Nat} {falling : Bool} (htaken : EvtTaken n falling s)
include htaken

/-- A short edge, and one near the edge before it, is only counted (R105). -/
theorem exec_evtInEdge_rejected (hbad : width < 10 ∨ ∃ t, s.tb.evtLast.get? n = some t ∧ stamp < t + 100 * nsStamp) :
    exec (.evtInEdge n stamp width falling) s = .next (s.bump (F.tbEvtOvf_ovf n) 1) := by
  obtain ⟨hinput, hruns, henabled, hedge⟩ := htaken
  refine (whenTimed_of_live h hisland _).trans ((if_neg ?_).trans (if_pos ?_))
  · simp [hinput, hruns, henabled, hedge]
  · rcases hbad with hshort | ⟨t, hlast, hnear⟩
    · exact .inr hshort
    · simp [hlast, hnear]

/-- Any other edge is the newest of its input, and is stored while the FIFO has room (R106). -/
theorem exec_evtInEdge_good (hlong : 10 ≤ width) (hfar : ∀ t, s.tb.evtLast.get? n = some t → t + 100 * nsStamp ≤ stamp) :
    exec (.evtInEdge n stamp width falling) s =
      if 64 ≤ (s.tb.evt.getD n []).length then
        .next ((({ s with tb := { s.tb with evtLast := s.tb.evtLast.set n stamp } } : State).bump (F.tbEvtOvf_ovf n) 1).event
          0x2005 2 [.q n])
      else .next { s with tb := { s.tb with
        evtLast := s.tb.evtLast.set n stamp, evt := s.tb.evt.set n (s.tb.evt.getD n [] ++ [stamp]) } } := by
  obtain ⟨hinput, hruns, henabled, hedge⟩ := htaken
  refine (whenTimed_of_live h hisland _).trans ((if_neg ?_).trans (if_neg ?_))
  · simp [hinput, hruns, henabled, hedge]
  · cases hlast : s.tb.evtLast.get? n with
    | none => simp [hlong]
    | some t => simp [hlong, hfar t hlast]

end Events

/-- EVT_POP of an empty FIFO (R107). -/
theorem exec_evtPop_empty {s : State} (h : Serving s) {n : Nat} (hn : n < 4) (hempty : s.tb.evt.getD n [] = []) :
    exec (.evtPop n) s = .next (s.setFld (F.tbEvtStatus_emptyPop n) 1) :=
  (whenWorking_of_serving h _).trans ((if_neg (Nat.not_le.mpr hn)).trans (by rw [hempty]))

/-- The registers of an event input with the stamp of an edge (R107). -/
def State.showEdge (s : State) (n : Nat) (t : Stamp) : State :=
  (((s.setFld (F.tbEvtSecH_secH n) (hi32 (t / secStamp))).setFld (F.tbEvtSecL_secL n) (lo32 (t / secStamp))).setFld
    (F.tbEvtNs_ns n) (t / nsStamp % 1000000000)).setFld (F.tbEvtFrac_frac n) (t % nsStamp)

/-- Showing an edge changes only the register file. -/
theorem State.showEdge_keeps {β : Sort _} (obs : State → β) (h : ∀ (s : State) x, obs { s with regs := x } = obs s) (s : State)
    (n : Nat) (t : Stamp) : obs (s.showEdge n t) = obs s :=
  (h _ _).trans ((h _ _).trans ((h _ _).trans (h _ _)))

/-- EVT_POP of a FIFO that holds an edge. -/
theorem exec_evtPop_oldest {s : State} (h : Serving s) {n : Nat} (hn : n < 4) {e : Stamp} {rest : List Stamp}
    (hfifo : s.tb.evt.getD n [] = e :: rest) :
    exec (.evtPop n) s = .next (({ s with tb := { s.tb with evt := s.tb.evt.set n rest } } : State).showEdge n e) :=
  (whenWorking_of_serving h _).trans ((if_neg (Nat.not_le.mpr hn)).trans (by rw [hfifo]; rfl))

/-- What those registers then read: each of the four is stored once. -/
theorem State.fld_showEdge {s : State} (hwf : s.regs.cells.wf = true) (n : Nat) (t : Stamp) :
    (s.showEdge n t).fld (F.tbEvtSecH_secH n) = hi32 (t / secStamp) % 65536 ∧
    (s.showEdge n t).fld (F.tbEvtSecL_secL n) = lo32 (t / secStamp) ∧
    (s.showEdge n t).fld (F.tbEvtNs_ns n) = t / nsStamp % 1000000000 ∧
    (s.showEdge n t).fld (F.tbEvtFrac_frac n) = t % nsStamp := by
  have hne : ∀ {a b : Nat}, a ≠ b → a + n * 0x20 ≠ b + n * 0x20 := fun hab => mt Nat.add_right_cancel hab
  have hsecL : (F.tbEvtSecH_secH n).addr ≠ (F.tbEvtSecL_secL n).addr := hne (by decide)
  have hnsH : (F.tbEvtSecH_secH n).addr ≠ (F.tbEvtNs_ns n).addr := hne (by decide)
  have hnsL : (F.tbEvtSecL_secL n).addr ≠ (F.tbEvtNs_ns n).addr := hne (by decide)
  have hfracH : (F.tbEvtSecH_secH n).addr ≠ (F.tbEvtFrac_frac n).addr := hne (by decide)
  have hfracL : (F.tbEvtSecL_secL n).addr ≠ (F.tbEvtFrac_frac n).addr := hne (by decide)
  have hfracNs : (F.tbEvtNs_ns n).addr ≠ (F.tbEvtFrac_frac n).addr := hne (by decide)
  have hwf1 := s.cells_wf_setFld hwf (F.tbEvtSecH_secH n) (hi32 (t / secStamp))
  have hwf2 := State.cells_wf_setFld hwf1 (F.tbEvtSecL_secL n) (lo32 (t / secStamp))
  have hwf3 := State.cells_wf_setFld hwf2 (F.tbEvtNs_ns n) (t / nsStamp % 1000000000)
  have hlow : lo32 (t / secStamp) < 2 ^ 32 := Nat.mod_lt _ (by decide)
  have hns : t / nsStamp % 1000000000 < 2 ^ 32 := (Nat.mod_lt _ (by decide)).trans (by decide)
  have hfrac : t % nsStamp < 2 ^ 16 := Nat.mod_lt _ (by decide)
  unfold State.showEdge
  refine ⟨?_, ?_, ?_, ?_⟩
  · rw [State.fld_setFld_elsewhere _ hfracH, State.fld_setFld_elsewhere _ hnsH, State.fld_setFld_elsewhere _ hsecL]
    exact State.fld_setFld_self hwf rfl _
  · rw [State.fld_setFld_elsewhere _ hfracL, State.fld_setFld_elsewhere _ hnsL]
    exact (State.fld_setFld_self hwf1 rfl _).trans (Nat.mod_eq_of_lt hlow)
  · rw [State.fld_setFld_elsewhere _ hfracNs]
    exact (State.fld_setFld_self hwf2 rfl _).trans (Nat.mod_eq_of_lt hns)
  · exact (State.fld_setFld_self hwf3 rfl _).trans (Nat.mod_eq_of_lt hfrac)

/-! ### The latch (R123) -/

/-- The latch with a reading of the time base. -/
def State.latchTime (s : State) (t : Stamp) : State :=
  (((s.setReg Reg.tbTimeSecH (hi32 (t / secStamp) % 65536)).setReg Reg.tbTimeSecL (lo32 (t / secStamp))).setReg Reg.tbTimeNs
    (t / nsStamp % 1000000000)).setReg Reg.tbTimeFrac (t % nsStamp)

/-- Latching changes only the register file. -/
theorem State.latchTime_keeps {β : Sort _} (obs : State → β) (h : ∀ (s : State) x, obs { s with regs := x } = obs s) (s : State)
    (t : Stamp) : obs (s.latchTime t) = obs s :=
  (h _ _).trans ((h _ _).trans ((h _ _).trans (h _ _)))

/-- What its registers then read. -/
theorem State.reg_latchTime {s : State} (hwf : s.regs.cells.wf = true) (t : Stamp) :
    (s.latchTime t).reg Reg.tbTimeSecH = hi32 (t / secStamp) % 65536 ∧ (s.latchTime t).reg Reg.tbTimeSecL = lo32 (t / secStamp) ∧
    (s.latchTime t).reg Reg.tbTimeNs = t / nsStamp % 1000000000 ∧ (s.latchTime t).reg Reg.tbTimeFrac = t % nsStamp := by
  have hwf1 : (s.setReg Reg.tbTimeSecH (hi32 (t / secStamp) % 65536)).regs.cells.wf = true := setCell_wf _ _ _ hwf
  have hwf2 : ((s.setReg Reg.tbTimeSecH (hi32 (t / secStamp) % 65536)).setReg Reg.tbTimeSecL
    (lo32 (t / secStamp))).regs.cells.wf = true := setCell_wf _ _ _ hwf1
  have hwf3 : (((s.setReg Reg.tbTimeSecH (hi32 (t / secStamp) % 65536)).setReg Reg.tbTimeSecL
    (lo32 (t / secStamp))).setReg Reg.tbTimeNs (t / nsStamp % 1000000000)).regs.cells.wf = true := setCell_wf _ _ _ hwf2
  have hhigh : hi32 (t / secStamp) % 65536 < 2 ^ 32 := (Nat.mod_lt _ (by decide)).trans (by decide)
  have hlow : lo32 (t / secStamp) < 2 ^ 32 := Nat.mod_lt _ (by decide)
  have hns : t / nsStamp % 1000000000 < 2 ^ 32 := (Nat.mod_lt _ (by decide)).trans (by decide)
  have hfrac : t % nsStamp < 2 ^ 32 := (Nat.mod_lt _ (by decide)).trans (by decide)
  unfold State.latchTime
  refine ⟨?_, ?_, ?_, ?_⟩
  · rw [State.reg_setReg_ne _ (by decide), State.reg_setReg_ne _ (by decide), State.reg_setReg_ne _ (by decide)]
    exact (State.reg_setReg_self _ _ _ hwf).trans (Nat.mod_eq_of_lt hhigh)
  · rw [State.reg_setReg_ne _ (by decide), State.reg_setReg_ne _ (by decide)]
    exact (State.reg_setReg_self _ _ _ hwf1).trans (Nat.mod_eq_of_lt hlow)
  · rw [State.reg_setReg_ne _ (by decide)]
    exact (State.reg_setReg_self _ _ _ hwf2).trans (Nat.mod_eq_of_lt hns)
  · exact (State.reg_setReg_self _ _ _ hwf3).trans (Nat.mod_eq_of_lt hfrac)

/-! ### PTP messages that the device sends (R72, R109, R111, R176) -/

/-- Sending a message changes only the free values, the number of the next frame and the slices. -/
theorem State.sendPtp_keeps {β : Sort _} (obs : State → β)
    (h : ∀ (s : State) x0 x1 x2, obs { s with free := x0, nextFrame := x1, slices := x2 } = obs s) (s : State) (m : PtpTx) :
    obs (s.sendPtp m) = obs s := h s _ _ _

/-- A frame bound for a port, as though a FORWARD action on pass 1 had named it. -/
def Frame.boundFor (f : Frame) (port : Nat) : Frame := { f with d := { f.d with dest := some (.port port), named := [0] } }

/-- The frame that a message is sent in. -/
def State.ptpFrameOf (s : State) (m : PtpTx) : Frame :=
  let u := (s.drawBytes 96).2
  let b := u.ptpFrame m (s.drawBytes 96).1
  (u.newFrame (sliceOf m.port) injectionPort (.ptp m) u.now b (max b.length 60 + 4)).boundFor m.port

/-- A new frame bound for a port has the next number and its origin. -/
theorem State.boundFor_newFrame (s : State) (slice port : Nat) (origin : Origin) (t : Stamp) (b : Bytes) (wire p : Nat) :
    ((s.newFrame slice port origin t b wire).boundFor p).id = s.nextFrame ∧
    ((s.newFrame slice port origin t b wire).boundFor p).origin = origin ∧
    ((s.newFrame slice port origin t b wire).boundFor p).d.dest = some (.port p) ∧
    ((s.newFrame slice port origin t b wire).boundFor p).d.named = [0] :=
  ⟨rfl, rfl, rfl, rfl⟩

theorem State.ptpFrameOf_facts (s : State) (m : PtpTx) : (s.ptpFrameOf m).id = s.nextFrame ∧
    (s.ptpFrameOf m).origin = .ptp m ∧ (s.ptpFrameOf m).d.dest = some (.port m.port) ∧ (s.ptpFrameOf m).d.named = [0] :=
  State.boundFor_newFrame (s.drawBytes 96).2 ..

/-- It waits as the newest before the slice of its port. -/
theorem State.injWait_sendPtp (s : State) (m : PtpTx) : ((s.sendPtp m).slice (sliceOf m.port)).injWait =
    (s.slice (sliceOf m.port)).injWait ++ [s.ptpFrameOf m] :=
  congrArg SliceSt.injWait (State.slice_modSlice_self (s.drawBytes 96).2 (sliceOf m.port) fun y =>
    { y with injWait := y.injWait ++ [s.ptpFrameOf m] })

/-- A message with the next sequence number of its port (R111). -/
def State.ptpNext (s : State) (port : Nat) (kind : PtpKind) (v : Nat) : State × PtpTx :=
  let s := { s with tb := { s.tb with ptpSeq := s.tb.ptpSeq.modify port 0 (fun n => (n + 1) % 65536) } }
  (s, { port, kind := ptpKindOf kind, oneStep := !s.twoStep port, seq := s.tb.ptpSeq.getD port 0, at_ := 0, corr := 0,
        requester := [], logInterval := some v, dataSet := 0 })

/-- PTP_MESSAGE_INTERVAL of a port that has a link. -/
theorem exec_ptpMessageInterval {s : State} (h : Serving s) {port : Nat} (hconf : s.configured port = true)
    (hlink : (s.port port).link = true) (hruns : s.tb.running = true) (kind : PtpKind) (v : Nat) :
    exec (.ptpMessageInterval port kind v) s = .next ((s.ptpNext port kind v).1.sendPtp (s.ptpNext port kind v).2) :=
  (whenWorking_of_serving h _).trans (if_neg (by simp [hconf, hlink, hruns]))

/-- Settles O43: a rise, a message, an edge, a pop and the latch each by the lemma on its command. -/
theorem timeOutputs : Obligations.TimeOutputs := by
  unfold Obligations.TimeOutputs
  intro s h hisland
  refine ⟨?rise, ?fall, ?noTod, ?tod, ?edge, ?pop, ?latch, ?interval⟩
  case rise =>
    intro n sec rise hsec hrise
    have hexec := exec_ppsOutRise h hisland hsec hrise
    refine ⟨fun hno => hexec.trans (if_pos (by rwa [or_comm (a := ∃ _, _)])), fun hn hruns hon hnow hfirst => ?_⟩
    refine ⟨_, hexec.trans (if_neg ?_), rfl, rfl, s.mem_ppsHigh_ppsRaised n sec rise, fun hen hsel => if_pos ⟨hen, hsel⟩, rfl⟩
    rintro (hbig | hstill | hoff | ⟨t, hlast, hlate⟩ | hover)
    · omega
    · simp [hruns] at hstill
    · simp [hon] at hoff
    · exact absurd hlate (Nat.not_le.mpr (hfirst t hlast))
    · exact absurd hover (Nat.not_le.mpr hnow)
  case fall =>
    intro n t hrose
    have hexec := exec_ppsOutFall h hisland hrose
    exact ⟨fun hearly => hexec.trans (if_pos hearly), fun hdue hhigh =>
      hexec.trans ((if_neg (Nat.not_lt.mpr hdue)).trans (congrArg _ (if_pos hhigh)))⟩
  case noTod =>
    intro hnone
    exact (whenTimed_of_live h hisland _).trans (by rw [hnone])
  case tod =>
    intro t sec hdue
    refine ⟨fun hearly => ?_, fun hnow hon => ⟨s.todMessage sec, s.todForm_todMessage sec, s.second_todMessage sec,
      exec_todTxMessage h hisland hdue hnow hon⟩⟩
    exact (whenTimed_of_live h hisland _).trans (by rw [hdue]; exact if_pos hearly)
  case edge =>
    intro n stamp width falling
    refine ⟨exec_evtInEdge_ignored h hisland, fun hn hruns hon hedge => ?_⟩
    have htaken : EvtTaken n falling s := ⟨hn, hruns, hon, hedge⟩
    refine ⟨exec_evtInEdge_rejected h hisland htaken, fun hlong hfar => ?_⟩
    have hexec := exec_evtInEdge_good h hisland htaken hlong hfar
    refine ⟨fun hroom => hexec.trans (if_neg (Nat.not_le.mpr hroom)), fun hfull => ⟨_, hexec.trans (if_pos hfull), ?_, ?_⟩⟩
    · simp
    · rw [State.event_keeps State.regs (fun _ _ _ _ => rfl)]
      exact s.regs_bump_tb (tb := { s.tb with evtLast := s.tb.evtLast.set n stamp }) rfl _ _
  case pop =>
    intro hsound n hn
    refine ⟨exec_evtPop_empty ⟨h, hsound⟩ hn, fun e rest hwf hfifo => ?_⟩
    have hexec := exec_evtPop_oldest ⟨h, hsound⟩ hn hfifo
    generalize hu : ({ s with tb := { s.tb with evt := s.tb.evt.set n rest } } : State) = u at hexec
    obtain ⟨hsecH, hsecL, hns, hfrac⟩ := State.fld_showEdge (s := u) (hu ▸ hwf) n e
    have htb : (u.showEdge n e).tb = u.tb := State.showEdge_keeps State.tb (fun _ _ => rfl) u n e
    have hframe := State.showEdge_keeps (fun x => { x with tb := (u.showEdge n e).tb, regs := (u.showEdge n e).regs })
      (fun _ _ => rfl) u n e
    subst hu
    generalize State.showEdge _ n e = t at *
    exact ⟨t, hexec, htb, hsecH, hsecL, hns, hfrac, hframe⟩
  case latch =>
    intro hsound hwf
    obtain ⟨hsecH, hsecL, hns, hfrac⟩ := State.reg_latchTime hwf s.now
    have hexec : exec .timeLatch s = .next (s.latchTime s.now) := whenWorking_of_serving ⟨h, hsound⟩ _
    have hframe := State.latchTime_keeps (fun u => { u with regs := (s.latchTime s.now).regs }) (fun _ _ => rfl) s s.now
    generalize s.latchTime s.now = t at *
    exact ⟨t, hexec, hsecH, hsecL, hns, hfrac, hframe⟩
  case interval =>
    intro hsound port kind v
    refine ⟨fun hout => (whenWorking_of_serving ⟨h, hsound⟩ _).trans (if_pos (by simpa using hout)),
      fun hconf hlink hruns => ?_⟩
    obtain ⟨hid, horigin, hdest, hnamed⟩ := (s.ptpNext port kind v).1.ptpFrameOf_facts (s.ptpNext port kind v).2
    have hwaits := (s.ptpNext port kind v).1.injWait_sendPtp (s.ptpNext port kind v).2
    have hkept : ∀ {β : Sort _} (obs : State → β), (∀ (u : State) x0 x1 x2,
        obs { u with free := x0, nextFrame := x1, slices := x2 } = obs u) →
        obs ((s.ptpNext port kind v).1.sendPtp (s.ptpNext port kind v).2) = obs (s.ptpNext port kind v).1 :=
      fun obs h => State.sendPtp_keeps obs h _ _
    have hseq := hkept (fun u => u.tb.ptpSeq) fun _ _ _ _ => rfl
    refine ⟨_, _, exec_ptpMessageInterval ⟨h, hsound⟩ hconf hlink hruns kind v, hwaits, hid, ?_, hdest, hnamed, hseq,
      hkept State.tm fun _ _ _ _ => rfl, hkept State.flow fun _ _ _ _ => rfl, hkept State.out fun _ _ _ _ => rfl⟩
    rw [horigin, hseq]
    rfl

end Sys2Proof.Machine
end

section
/-! PROOFS. What the servo, the selection of a source and its qualification leave alone (R80 to R91, R112). What an operation may
change is blanked out: two states that are then equal agree in all the rest. -/

namespace Sys2Proof.Machine

/-! ### The servo (R86, R87, R90, R91, R97) -/

/-- The time base without what the servo sets. -/
def TimeBase.beyondServo (t : TimeBase) : TimeBase :=
  { t with
    plan := [], freq := 0, slew := 0, phaseLeft := 0, offset := 0, quality := .freeRun, everLocked := false, inRun := 0, outRun := 0
    recent := [], eL := 0, holdoverAt := 0, lockedAt := 0, lockedRuns := [], stepWait := none, ppsHigh := [] }

/-- A state without what the servo sets, the quality of its Reams, the count of draws, and what an event changes. -/
def State.beyondServo (s : State) : State :=
  { s with tb := s.tb.beyondServo, ldg := Ledger.init, free := 0, evr := Recorder.init, ctr := Counters.init, out := [] }

theorem State.event_beyondServo (s : State) (c v : Nat) (l : List Snap) : (s.event c v l).beyondServo = s.beyondServo :=
  State.event_keeps State.beyondServo (fun _ _ _ _ => rfl) s c v l

theorem State.noteLocked_beyondServo (s : State) : s.noteLocked.beyondServo = s.beyondServo := by
  unfold State.noteLocked
  split <;> rfl

theorem State.setIncr_beyondServo (s : State) (f v l : Int) : (s.setIncr f v l).beyondServo = s.beyondServo := rfl

theorem State.setFreq_beyondServo (s : State) (f : Int) : (s.setFreq f).beyondServo = s.beyondServo := by
  unfold State.setFreq
  split
  · rfl
  · exact s.noteLocked_beyondServo

theorem State.slewPhase_beyondServo (s : State) (p : Int) : (s.slewPhase p).beyondServo = s.beyondServo := rfl

theorem State.slewHard_beyondServo (s : State) (p : Int) : (s.slewHard p).beyondServo = s.beyondServo := rfl

theorem State.ppsLow_beyondServo (s : State) (n : Nat) : (s.ppsLow n).beyondServo = s.beyondServo := by
  unfold State.ppsLow
  split <;> rfl

/-- The state of the servo in `q`, before its event and what follows it. -/
def State.enterQuality (s : State) (q : Quality) : State :=
  { s.noteLocked with
    tb := { s.noteLocked.tb with
      quality := q, everLocked := s.noteLocked.tb.everLocked || decide (q = Quality.locked), inRun := 0, outRun := 0, stepWait := none
      eL := if q = Quality.holdover then s.noteLocked.lockError else s.noteLocked.tb.eL
      holdoverAt := if q = Quality.holdover then s.noteLocked.now else s.noteLocked.tb.holdoverAt
      lockedAt := if q = Quality.locked then s.noteLocked.now else s.noteLocked.tb.lockedAt }
    ldg := { s.noteLocked.ldg with cur := s.noteLocked.ldg.cur.map fun (c : ReamSt) => { c with quality := c.quality.lower q } } }

/-- The frequency of HOLDOVER where `q` is that (R86). -/
def State.holdIf (s : State) (q : Quality) : State := if q = .holdover then s.setIncr s.holdFreq 0 0 else s

/-- The outputs of PPS_QUALIFIED low where `q` is not qualified (R97). -/
def State.muteIf (s : State) (q : Quality) : State :=
  if q = .freeRun ∨ q = .acquiring then
    (List.range 2).foldl (fun (s : State) n => if s.fld (F.tbPpsOutCtrl_mode n) = 2 then s.ppsLow n else s) s
  else s

/-- A change of the servo's state, step by step. -/
theorem State.servoTo_eq (s : State) (q : Quality) : s.servoTo q = if s.tb.quality = q then s else
    (((s.enterQuality q).event 0x2001 1 [.q s.tb.quality.code, .q q.code]).holdIf q).muteIf q := rfl

theorem State.muteIf_keeps {β : Sort _} (obs : State → β)
    (h : ∀ (s : State) x0 x1, obs { s with tb := { s.tb with ppsHigh := x0 }, out := x1 } = obs s) (s : State) (q : Quality) :
    obs (s.muteIf q) = obs s := by
  unfold State.muteIf
  split
  · refine foldl_keeps obs _ (fun u n => ?_) _ s
    unfold State.ppsLow
    split_ifs
    exacts [h u _ _, rfl, rfl]
  · rfl

theorem State.servoTo_beyondServo (s : State) (q : Quality) : (s.servoTo q).beyondServo = s.beyondServo := by
  rw [s.servoTo_eq]
  split
  · rfl
  · rw [State.muteIf_keeps State.beyondServo (fun _ _ _ => rfl)]
    unfold State.holdIf
    split <;> exact (State.event_beyondServo _ _ _ _).trans s.noteLocked_beyondServo

/-- The state that the servo goes to. -/
theorem State.quality_servoTo (s : State) (q : Quality) : (s.servoTo q).tb.quality = q := by
  rw [s.servoTo_eq]
  split
  · assumption
  · rw [State.muteIf_keeps (fun u => u.tb.quality) (fun _ _ _ => rfl)]
    unfold State.holdIf
    split <;> exact congrArg TimeBase.quality (State.event_keeps State.tb (fun _ _ _ _ => rfl) _ _ _ _)

/-- Only HOLDOVER has a frequency of its own. -/
theorem State.freq_servoTo (s : State) {q : Quality} (hq : q ≠ .holdover) : (s.servoTo q).tb.freq = s.tb.freq := by
  have hnote : s.noteLocked.tb.freq = s.tb.freq := by
    unfold State.noteLocked
    split <;> rfl
  rw [s.servoTo_eq]
  split
  · rfl
  · rw [State.muteIf_keeps (fun u => u.tb.freq) (fun _ _ _ => rfl), State.holdIf, if_neg hq]
    exact (congrArg TimeBase.freq (State.event_keeps State.tb (fun _ _ _ _ => rfl) _ _ _ _)).trans hnote

/-! ### Offsets (R86, R90, R91) -/

/-- An offset on record. -/
def State.noteOffset (s : State) (off : Int) : State :=
  { s with tb := { s.tb with offset := off, recent := (off.natAbs :: s.tb.recent).take 255 } }

/-- Whether an offset calls for a step or for the slew limit (R90, R91). -/
def State.farOff (s : State) (off : Int) : Bool :=
  decide (s.tb.quality = .acquiring ∧ s.fld F.tbStepThresh_ns * nsStamp < off.natAbs)

/-- The correction that an offset gives rise to, short of a step (R87, R91, R119). -/
def State.corrected (s : State) (off : Int) (own : Bool) : State :=
  if s.farOff off && s.mayStep then s
  else if s.farOff off then
    s.slewHard (if own ∨ s.tb.phaseLeft + s.tb.covered = 0 then -off * 65536 else s.tb.phaseLeft + s.tb.covered)
  else if !own then s
  else
    (({ s with free := s.free + 1 }).setFreq
      (clamp (-(nominal / 2000)) (nominal / 2000) (Config.servoFreq s.tb.freq off s.free))).slewPhase (-off * 65536)

/-- How many offsets in a row, with this one, were near enough to lock, or too far to stay locked (R86). -/
def State.nearRun (s : State) (off : Int) : Nat := if off.natAbs ≤ s.fld F.tbLockCfg_lockThresh * 16384 then s.tb.inRun + 1 else 0
def State.farRun (s : State) (off : Int) : Nat := if s.fld F.tbUnlockThresh_thresh * 16384 < off.natAbs then s.tb.outRun + 1 else 0

/-- The servo in the state `q` once a run has its length. -/
def State.servoAfter (s : State) (need run : Nat) (q : Quality) : State := if need ≤ run then s.servoTo q else s

/-- What an offset makes of the servo's state (R86). -/
def State.judged (s : State) (off : Int) (step : Bool) : State :=
  if s.tb.quality = .acquiring then
    ({ s with tb := { s.tb with inRun := s.nearRun off, stepWait := if step then some ⟨-off⟩ else none } } : State).servoAfter
      (s.fld F.tbLockCfg_lockCount) (s.nearRun off) .locked
  else
    ({ s with tb := { s.tb with outRun := s.farRun off } } : State).servoAfter
      (s.fld F.tbLockCfg_unlockCount) (s.farRun off) .acquiring

/-- An offset measured, step by step. -/
theorem State.measure_eq (s : State) (off : Int) (own : Bool) : s.measure off own =
    if (s.noteOffset off).tb.quality ≠ .acquiring ∧ (s.noteOffset off).tb.quality ≠ .locked then s.noteOffset off
    else ((s.noteOffset off).corrected off own).judged off ((s.noteOffset off).farOff off && (s.noteOffset off).mayStep) := rfl

theorem State.corrected_beyondServo (s : State) (off : Int) (own : Bool) : (s.corrected off own).beyondServo = s.beyondServo := by
  unfold State.corrected
  split
  · rfl
  split
  · rfl
  split
  · rfl
  · exact State.setFreq_beyondServo _ _

theorem State.servoAfter_beyondServo (s : State) (need run : Nat) (q : Quality) :
    (s.servoAfter need run q).beyondServo = s.beyondServo := by
  unfold State.servoAfter
  split
  exacts [s.servoTo_beyondServo q, rfl]

theorem State.freq_servoAfter (s : State) (need run : Nat) {q : Quality} (hq : q ≠ .holdover) :
    (s.servoAfter need run q).tb.freq = s.tb.freq := by
  unfold State.servoAfter
  split
  exacts [s.freq_servoTo hq, rfl]

theorem State.judged_beyondServo (s : State) (off : Int) (step : Bool) : (s.judged off step).beyondServo = s.beyondServo := by
  unfold State.judged
  split <;> exact State.servoAfter_beyondServo _ _ _ _

/-- Measuring an offset leaves alone what the servo does. -/
theorem State.measure_beyondServo (s : State) (off : Int) (own : Bool) : (s.measure off own).beyondServo = s.beyondServo := by
  rw [s.measure_eq]
  split
  · rfl
  · exact (State.judged_beyondServo _ _ _).trans (State.corrected_beyondServo _ _ _)

theorem State.measureFor_beyondServo (s : State) (type : Nat) (off : Nat → Int) :
    (s.measureFor type off).beyondServo = s.beyondServo := by
  unfold State.measureFor
  split
  · split_ifs
    exacts [s.measure_beyondServo _ _, rfl]
  · rfl

/-- An offset of a HOST source leaves the frequency to the host (R119). -/
theorem State.freq_measure_host (s : State) (off : Int) : (s.measure off false).tb.freq = s.tb.freq := by
  have hcorrect : ∀ u : State, (u.corrected off false).tb.freq = u.tb.freq := fun u => by
    unfold State.corrected
    split
    · rfl
    split <;> rfl
  have hjudge : ∀ (u : State) step, (u.judged off step).tb.freq = u.tb.freq := fun u step => by
    unfold State.judged
    split
    exacts [State.freq_servoAfter _ _ _ (by decide), State.freq_servoAfter _ _ _ (by decide)]
  rw [s.measure_eq]
  split
  · rfl
  · exact (hjudge _ _).trans (hcorrect _)

/-! ### The selection (R80, R85, R112) -/

/-- A state without what the selection of a source may change; of its registers all words but that of TB_UTC. -/
def State.beyondSelection (s : State) : State × (Nat → Nat) :=
  ({ s.beyondServo with tb := { s.tb.beyondServo with active := none }, regs := RegFile.init },
    fun a => if a = Reg.tbUtc then 0 else s.reg a)

/-- A state without what the qualification of sources may change. -/
def State.beyondSources (s : State) : State × (Nat → Nat) :=
  ({ s.beyondServo with tb := { s.tb.beyondServo with active := none, srcs := .empty }, regs := RegFile.init },
    fun a => if a = Reg.tbUtc then 0 else s.reg a)

theorem State.beyondSources_of_beyondSelection {s t : State} (h : t.beyondSelection = s.beyondSelection) :
    t.beyondSources = s.beyondSources :=
  (congrArg (fun x : State × (Nat → Nat) => ({ x.1 with tb := { x.1.tb with srcs := .empty } }, x.2)) h :)

/-- The registers of the time base but TB_UTC stay. -/
theorem State.fld_of_beyondSources {s t : State} (h : t.beyondSources = s.beyondSources) {f : FieldRef} (hf : f.addr ≠ Reg.tbUtc) :
    t.fld f = s.fld f := by
  have hreg : (if f.addr = Reg.tbUtc then 0 else t.reg f.addr) = if f.addr = Reg.tbUtc then 0 else s.reg f.addr :=
    congrFun (congrArg Prod.snd h) f.addr
  rw [if_neg hf, if_neg hf] at hreg
  exact congrArg (getBits · f.lo f.width) hreg

/-- What the servo leaves alone the selection does not see changed. -/
theorem State.beyondSelection_of_beyondServo {s t : State} (h : t.beyondServo = s.beyondServo) :
    t.beyondSelection = s.beyondSelection :=
  (congrArg State.beyondSelection h :)

theorem State.setFld_beyondSelection (s : State) {f : FieldRef} (h : f.addr = Reg.tbUtc) (v : Nat) :
    (s.setFld f v).beyondSelection = s.beyondSelection := by
  refine Prod.ext rfl (funext fun a => ?_)
  change (if a = Reg.tbUtc then 0 else (s.setFld f v).reg a) = if a = Reg.tbUtc then 0 else s.reg a
  split
  · rfl
  · next hne => exact s.reg_setReg_ne (h ▸ hne) _

theorem State.parentUtc_beyondSelection (s : State) : s.parentUtc.beyondSelection = s.beyondSelection := by
  unfold State.parentUtc
  split
  · rfl
  · dsimp only
    split
    · exact (State.setFld_beyondSelection _ rfl _).trans
        ((State.setFld_beyondSelection _ rfl _).trans (s.setFld_beyondSelection rfl _))
    · rfl

/-- The servo after the active source has become `n` (R86). -/
def State.sourceServo (s : State) (n : Option Nat) : State :=
  match n, s.tb.quality with
  | none, .acquiring => s.servoTo .freeRun
  | none, .locked => s.servoTo .holdover
  | some _, .freeRun => s.servoTo .acquiring
  | some _, .holdover => s.servoTo .acquiring
  | _, _ => s

theorem State.sourceServo_beyondServo (s : State) (n : Option Nat) : (s.sourceServo n).beyondServo = s.beyondServo := by
  unfold State.sourceServo
  split
  exacts [s.servoTo_beyondServo _, s.servoTo_beyondServo _, s.servoTo_beyondServo _, s.servoTo_beyondServo _, rfl]

/-- A source made the active one, step by step. -/
theorem State.activate_eq (s : State) (n : Option Nat) : s.activate n = if s.tb.active = n then s else
    (({ s with tb := { s.tb with active := n, inRun := 0, outRun := 0, stepWait := none } } : State).parentUtc).sourceServo n := by
  unfold State.activate State.sourceServo
  rfl

theorem State.activate_beyondSelection (s : State) (n : Option Nat) : (s.activate n).beyondSelection = s.beyondSelection := by
  rw [s.activate_eq]
  split
  · rfl
  · exact (State.beyondSelection_of_beyondServo (State.sourceServo_beyondServo _ n)).trans (State.parentUtc_beyondSelection _)

/-- The active source is the one that was made it. -/
theorem State.active_activate (s : State) (n : Option Nat) : (s.activate n).tb.active = n := by
  rw [s.activate_eq]
  split
  · assumption
  · refine (congrArg (fun u => u.tb.active) (State.sourceServo_beyondServo _ n)).trans ?_
    unfold State.parentUtc
    split
    · rfl
    · dsimp only
      split <;> rfl

/-- Of the best source so far and an entry, the one to prefer (R80, R85). -/
def State.better (s : State) (b : Option Nat) (n : Nat) : Option Nat :=
  if !s.candidate n then b
  else match b with
    | none => some n
    | some m => if s.outranks n m then some n else b

theorem State.bestSource_eq (s : State) : s.bestSource = (List.range 16).foldl s.better none := by
  unfold State.bestSource State.better
  rfl

/-- That is the best so far or an entry that takes part. -/
theorem State.better_cases (s : State) (b : Option Nat) (n : Nat) :
    s.better b n = b ∨ s.better b n = some n ∧ s.candidate n = true := by
  unfold State.better
  cases hn : s.candidate n with
  | false => exact .inl rfl
  | true =>
    cases b with
    | none => exact .inr ⟨rfl, rfl⟩
    | some m =>
      by_cases hhigher : s.outranks n m = true
      · exact .inr ⟨if_pos hhigher, rfl⟩
      · exact .inl (if_neg hhigher)

/-- The best source is one that takes part. -/
theorem State.candidate_bestSource {s : State} {n : Nat} (h : s.bestSource = some n) : s.candidate n = true := by
  rw [s.bestSource_eq] at h
  have hfold : ∀ (l : List Nat) (b : Option Nat), (∀ m, b = some m → s.candidate m = true) →
      ∀ m, l.foldl s.better b = some m → s.candidate m = true := by
    intro l
    induction l with
    | nil => exact fun _ hb => hb
    | cons k l ih =>
      intro b hb
      refine ih _ fun m hm => ?_
      rcases s.better_cases b k with hsame | ⟨hnew, hk⟩
      · exact hb m (hsame ▸ hm)
      · exact Option.some.inj (hnew.symm.trans hm) ▸ hk
  exact hfold _ none nofun n h

/-- The selection changes no more than what becoming active changes. -/
theorem State.selectSource_beyondSelection (s : State) : s.selectSource.beyondSelection = s.beyondSelection := by
  unfold State.selectSource
  split
  · split_ifs
    exacts [rfl, s.activate_beyondSelection _]
  · exact s.activate_beyondSelection _

/-- What a candidate is depends neither on the servo nor on the active source. -/
theorem State.candidate_of_beyondSelection {s t : State} (h : t.beyondSelection = s.beyondSelection) (n : Nat) :
    t.candidate n = s.candidate n := by
  have hall := State.beyondSources_of_beyondSelection h
  have hsrc : t.src n = s.src n := (congrArg (fun x : State × (Nat → Nat) => x.1.src n) h :)
  have hon : (F.tbSrcCfg_enable n).addr ≠ Reg.tbUtc := by
    change 0x300_0100 + n * 0x10 ≠ 0x300_0044
    omega
  unfold State.candidate
  rw [hsrc, State.fld_of_beyondSources hall hon, State.fld_of_beyondSources hall (f := F.tbCtrl_forceSrc) (by decide),
    State.fld_of_beyondSources hall (f := F.tbCtrl_forceIdx) (by decide)]

/-- A source selected takes part in selection (R80). -/
theorem State.candidate_selectSource {s : State} {n : Nat} (h : s.selectSource.tb.active = some n) :
    s.selectSource.candidate n = true := by
  rw [State.candidate_of_beyondSelection s.selectSource_beyondSelection]
  unfold State.selectSource at h
  split at h
  · next a ha =>
    split_ifs at h with hstays
    · rw [ha] at h
      exact Option.some.inj h ▸ hstays
    · exact State.candidate_bestSource ((s.active_activate _).symm.trans h)
  · exact State.candidate_bestSource ((s.active_activate _).symm.trans h)

/-! ### Qualification (R80 to R84) -/

/-- An entry of the source table as its rule now says (R80 to R84). -/
def State.qualify (reason : Nat) (s : State) (n : Nat) : State :=
  if s.srcMeets n = (s.src n).qualified then s
  else if s.srcMeets n then
    { s with tb := { s.tb with srcs := s.tb.srcs.set n { s.src n with qualified := true, since := s.now } } }
  else
    ({ s with tb := { s.tb with srcs := s.tb.srcs.set n { s.src n with qualified := false, reason } } } : State).event 0x2003 2 []

theorem State.refreshSources_eq (s : State) (reason : Nat) :
    s.refreshSources reason = ((List.range 16).foldl (State.qualify reason) s).selectSource := rfl

theorem State.qualify_beyondSources (reason : Nat) (s : State) (n : Nat) :
    (s.qualify reason n).beyondSources = s.beyondSources := by
  unfold State.qualify
  split
  · rfl
  split
  · rfl
  · exact State.event_keeps State.beyondSources (fun _ _ _ _ => rfl) _ _ _ _

theorem State.src_qualify_self (reason : Nat) (s : State) (n : Nat) : ((s.qualify reason n).src n).qualified = s.srcMeets n := by
  unfold State.qualify
  split
  · next hsame => exact hsame.symm
  split
  · next hmeets => exact (congrArg SrcSt.qualified (Table.getD_set_self _ _ _ _)).trans hmeets.symm
  · next hmeets =>
    rw [State.event_keeps (fun u : State => u.src n) (fun _ _ _ _ => rfl)]
    exact (congrArg SrcSt.qualified (Table.getD_set_self _ _ _ _)).trans (Bool.eq_false_iff.mpr hmeets).symm

theorem State.src_qualify_ne (reason : Nat) (s : State) {n m : Nat} (h : m ≠ n) : (s.qualify reason n).src m = s.src m := by
  unfold State.qualify
  split
  · rfl
  split
  · exact Table.getD_set_ne _ h _ _
  · rw [State.event_keeps (fun u : State => u.src m) (fun _ _ _ _ => rfl)]
    exact Table.getD_set_ne _ h _ _

/-- What meets the rule of its type depends on what qualification does not change. -/
theorem State.srcMeets_of_beyondSources {s t : State} (h : t.beyondSources = s.beyondSources) (n : Nat) :
    t.srcMeets n = s.srcMeets n := by
  have htype : t.srcType n = s.srcType n := State.fld_of_beyondSources h (f := F.tbSrcCfg_type n) (by
    change 0x300_0100 + n * 0x10 ≠ 0x300_0044
    omega)
  have hpps : ∀ i, t.pps i = s.pps i := fun i => (congrArg (fun x : State × (Nat → Nat) => x.1.pps i) h :)
  have hslave : t.tb.slave = s.tb.slave := (congrArg (fun x : State × (Nat → Nat) => x.1.tb.slave) h :)
  have hhost : t.tb.hostAt = s.tb.hostAt := (congrArg (fun x : State × (Nat → Nat) => x.1.tb.hostAt) h :)
  unfold State.srcMeets
  rw [htype, hpps, hpps, hslave, hhost]

/-- Entries that are qualified one after the other are each as their rules say. -/
theorem State.qualified_foldl (reason : Nat) {l : List Nat} (hl : l.Nodup) {n : Nat} (hn : n ∈ l) (s : State) :
    ((l.foldl (State.qualify reason) s).src n).qualified = s.srcMeets n := by
  have hother : ∀ (l : List Nat) (u : State), n ∉ l → (l.foldl (State.qualify reason) u).src n = u.src n := by
    intro l
    induction l with
    | nil => exact fun _ _ => rfl
    | cons k l ih =>
      intro u hout
      obtain ⟨hne, hout⟩ := List.ne_and_not_mem_of_not_mem_cons hout
      exact (ih _ hout).trans (State.src_qualify_ne reason u hne)
  induction l generalizing s with
  | nil => cases hn
  | cons k l ih =>
    obtain ⟨hk, hl⟩ := List.nodup_cons.mp hl
    rcases List.mem_cons.mp hn with rfl | hmem
    · exact (congrArg SrcSt.qualified (hother l _ hk)).trans (State.src_qualify_self reason s n)
    · exact (ih hl hmem _).trans (State.srcMeets_of_beyondSources (s.qualify_beyondSources reason k) n)

/-- Qualification and selection change no more than that. -/
theorem State.refreshSources_beyondSources (s : State) (reason : Nat) : (s.refreshSources reason).beyondSources = s.beyondSources := by
  rw [s.refreshSources_eq]
  exact (State.beyondSources_of_beyondSelection (State.selectSource_beyondSelection _)).trans
    (foldl_keeps State.beyondSources _ (fun u n => u.qualify_beyondSources reason n) _ s)

/-- After them the sources are as their rules say. -/
theorem State.settled_refreshSources (s : State) (reason : Nat) : Settled (s.refreshSources reason) where
  qualified n hn := by
    rw [State.srcMeets_of_beyondSources (s.refreshSources_beyondSources reason), s.refreshSources_eq]
    refine Eq.trans ?_ (State.qualified_foldl reason List.nodup_range (List.mem_range.mpr hn) s)
    exact (congrArg (fun x : State × (Nat → Nat) => (x.1.src n).qualified) (State.selectSource_beyondSelection _) :)
  active n hn := State.candidate_selectSource hn

/-- What the servo does leaves them so. -/
theorem Settled.of_beyondServo {s t : State} (hs : Settled s) (h : t.beyondServo = s.beyondServo) : Settled t := by
  have hblank : Settled s.beyondServo := ⟨hs.qualified, hs.active⟩
  have hshow : Settled t.beyondServo := h ▸ hblank
  exact ⟨hshow.qualified, hshow.active⟩

/-- Without a slave no register changes where sources are qualified and selected (R112). -/
theorem State.regs_parentUtc {s : State} (hslave : s.tb.slave = none) : s.parentUtc.regs = s.regs := by
  unfold State.parentUtc
  rw [hslave]

theorem State.regs_measureFor (s : State) (type : Nat) (off : Nat → Int) : (s.measureFor type off).regs = s.regs :=
  (congrArg (fun u : State => u.regs) (s.measureFor_beyondServo type off) :)

theorem State.regs_activate {s : State} (hslave : s.tb.slave = none) (n : Option Nat) : (s.activate n).regs = s.regs := by
  have hservo : ∀ u : State, (u.sourceServo n).regs = u.regs := fun u =>
    (congrArg (fun u : State => u.regs) (u.sourceServo_beyondServo n) :)
  rw [s.activate_eq]
  split
  · rfl
  · rw [hservo, State.regs_parentUtc]
    exact hslave

theorem State.regs_refreshSources {s : State} (hslave : s.tb.slave = none) (reason : Nat) : (s.refreshSources reason).regs = s.regs := by
  have hregs : ∀ u n, (State.qualify reason u n).regs = u.regs := fun u n => by
    unfold State.qualify
    split
    · rfl
    split
    exacts [rfl, State.event_keeps State.regs (fun _ _ _ _ => rfl) _ _ _ _]
  have hfold : ((List.range 16).foldl (State.qualify reason) s).regs = s.regs := foldl_keeps State.regs _ hregs _ s
  have hnone : ((List.range 16).foldl (State.qualify reason) s).tb.slave = none :=
    (foldl_keeps (fun u : State => u.tb.slave) (State.qualify reason) (fun u n =>
      (congrArg (fun x : State × (Nat → Nat) => x.1.tb.slave) (u.qualify_beyondSources reason n) :)) _ s).trans hslave
  rw [s.refreshSources_eq, ← hfold]
  unfold State.selectSource
  split
  · split
    exacts [rfl, State.regs_activate hnone _]
  · exact State.regs_activate hnone _

/-! ### Time inputs -/

/-- A state without all that an input of the time base may change but the time: what is left are the time and the rest of the block. -/
def State.beyondInputs (s : State) : State :=
  { s with
    tb := { TimeBase.init with time := s.tb.time }, regs := RegFile.init, ldg := Ledger.init, free := 0, evr := Recorder.init
    ctr := Counters.init, out := [] }

theorem State.beyondInputs_of_beyondSources {s t : State} (h : t.beyondSources = s.beyondSources) : t.beyondInputs = s.beyondInputs :=
  (congrArg (fun x : State × (Nat → Nat) => { x.1 with tb := { TimeBase.init with time := x.1.tb.time } }) h :)

end Sys2Proof.Machine
end

section
/-! PROOFS. Sources of time: PPS inputs and time of day, PTP messages, lost and reverted sources (R80 to R86, R101 to R104, R108 to
R112, R161, R164). -/

namespace Sys2Proof.Machine

/-! ### PPS inputs (R81, R102) -/

@[simp] theorem State.pps_modPps_self (s : State) (i : Nat) (f : PpsSt → PpsSt) : (s.modPps i f).pps i = f (s.pps i) := by
  simp [State.pps, State.modPps]

/-- Qualification and the servo leave the inputs alone. -/
theorem State.pps_of_beyondSources {s t : State} (h : t.beyondSources = s.beyondSources) (i : Nat) : t.pps i = s.pps i :=
  (congrArg (fun x : State × (Nat → Nat) => x.1.pps i) h :)

theorem State.measureFor_beyondSources (s : State) (type : Nat) (off : Nat → Int) :
    (s.measureFor type off).beyondSources = s.beyondSources :=
  State.beyondSources_of_beyondSelection (State.beyondSelection_of_beyondServo (s.measureFor_beyondServo type off))

/-- The time stays, and so does the block outside the time base, its registers, the ledger and the recorder. -/
theorem State.eq_of_beyondInputs {s t : State} (h : t.beyondInputs = s.beyondInputs) : t.tb.time = s.tb.time ∧
    t = { s with tb := t.tb, regs := t.regs, ldg := t.ldg, evr := t.evr, ctr := t.ctr, out := t.out, free := t.free } :=
  ⟨(congrArg (fun u => u.tb.time) h :), (congrArg (fun u : State =>
    { u with tb := t.tb, regs := t.regs, ldg := t.ldg, evr := t.evr, ctr := t.ctr, out := t.out, free := t.free }) h :)⟩

/-- An input whose last edge had no message (R102). -/
def PpsSt.missed (e : PpsSt) : PpsSt :=
  { e with missing := e.missing + 1, namedRun := 0, todOk := e.todOk && decide (e.missing < 3) }

/-- Settling the edge before finds it named, or without its message. -/
theorem State.settleTod_cases (s : State) :
    s.settleTod = s ∨ s.settleTod.beyondSources = (s.modPps 0 PpsSt.missed).beyondSources := by
  unfold State.settleTod
  dsimp only
  split
  · split
    · exact .inr ((State.measureFor_beyondSources _ _ _).trans (State.refreshSources_beyondSources _ _))
    · exact .inr (State.refreshSources_beyondSources _ _)
  · exact .inl rfl

/-- It changes of its input only what messages are about, and of the block what an input may. -/
theorem State.settleTod_facts (s : State) : (s.settleTod.pps 0).run = (s.pps 0).run ∧ (s.settleTod.pps 0).ok = (s.pps 0).ok ∧
    (s.settleTod.pps 0).lastEdge = (s.pps 0).lastEdge ∧ s.settleTod.beyondInputs = s.beyondInputs := by
  rcases s.settleTod_cases with hsame | hmissed
  · rw [hsame]
    exact ⟨rfl, rfl, rfl, rfl⟩
  · rw [State.pps_of_beyondSources hmissed, State.pps_modPps_self]
    exact ⟨rfl, rfl, rfl, (State.beyondInputs_of_beyondSources hmissed).trans rfl⟩

/-- The state in which an edge of an input is taken: PPS_IN0's edge before is settled (R102). -/
def State.settledFor (s : State) (input : Nat) : State := if input = 0 then s.settleTod else s

/-- An input with a new edge (R81, R102). -/
def PpsSt.withEdge (e : PpsSt) (stamp : Stamp) : PpsSt :=
  { e with
    run := if (ppsSpacing e stamp).1 then e.run + 1 else 1
    ok := if (ppsSpacing e stamp).1 then e.ok || decide (3 ≤ if (ppsSpacing e stamp).1 then e.run + 1 else 1) else false
    lastEdge := some stamp, prevSeconds := e.seconds, named := none
    namedRun := if (ppsSpacing e stamp).1 then e.namedRun else 0, todOk := e.todOk && (ppsSpacing e stamp).1 }

/-- An edge taken by its input, the sources qualified and selected anew. -/
def State.takeEdge (s : State) (input : Nat) (stamp : Stamp) : State :=
  (s.modPps input fun e => e.withEdge stamp).refreshSources (ppsSpacing (s.pps input) stamp).2

/-- The offset that an edge of an entry measures: to the nearest second. -/
def State.edgeOffset (s : State) (stamp : Stamp) (a : Nat) : Int :=
  (stamp : Int) - s.srcDelay a - nearestSecond ((stamp : Int) - s.srcDelay a) * secStamp

theorem exec_ppsInEdge {s : State} (h : Live s) (hisland : s.timeDead = false) (input : Nat) (stamp : Stamp) (highNs : Nat) :
    exec (.ppsInEdge input stamp highNs) s = if !s.tb.running ∨ 2 ≤ input ∨ highNs < 100 then .next s else
      .next (((s.settledFor input).takeEdge input stamp).measureFor (input + 2)
        (((s.settledFor input).takeEdge input stamp).edgeOffset stamp)) :=
  whenTimed_of_live h hisland _

/-- Spacings (R81): the first edge, one 1 s ± 10 µs after the last, and any other. -/
theorem ppsSpacing_first {e : PpsSt} (h : e.lastEdge = none) (t : Stamp) : (ppsSpacing e t).1 = true := by
  simp [ppsSpacing, h]

theorem ppsSpacing_good {e : PpsSt} {l t : Nat} (h : e.lastEdge = some l) (hlow : l + secStamp ≤ t + 10 * usStamp)
    (hhigh : t ≤ l + secStamp + 10 * usStamp) : (ppsSpacing e t).1 = true := by
  have hgap : secStamp ≤ t - l + ppsSlack ∧ t - l ≤ secStamp + ppsSlack := by
    unfold ppsSlack secStamp msStamp usStamp nsStamp at *
    omega
  simp only [ppsSpacing, h, if_pos hgap]

theorem ppsSpacing_bad {e : PpsSt} {l t : Nat} (h : e.lastEdge = some l)
    (hfar : t + 10 * usStamp < l + secStamp ∨ l + secStamp + 10 * usStamp < t) : (ppsSpacing e t).1 = false := by
  have hgap : ¬(secStamp ≤ t - l + ppsSlack ∧ t - l ≤ secStamp + ppsSlack) := by
    unfold ppsSlack secStamp msStamp usStamp nsStamp at *
    omega
  simp only [ppsSpacing, h, if_neg hgap]

/-- PPS_IN_EDGE of an edge that counts: its input is with the new edge, as the edges before it had left it. -/
theorem ppsInEdge_taken {s : State} (h : Live s) (hisland : s.timeDead = false) {input highNs : Nat} (stamp : Stamp)
    (hruns : s.tb.running = true) (hinput : input < 2) (hlong : 100 ≤ highNs) :
    ∃ (e : PpsSt) (t : State), exec (.ppsInEdge input stamp highNs) s = .next t ∧
      e.run = (s.pps input).run ∧ e.ok = (s.pps input).ok ∧ e.lastEdge = (s.pps input).lastEdge ∧ t.pps input = e.withEdge stamp ∧
      Settled t ∧ t.beyondInputs = s.beyondInputs := by
  obtain ⟨hrun, hok, hlast, hrest⟩ : ((s.settledFor input).pps input).run = (s.pps input).run ∧
      ((s.settledFor input).pps input).ok = (s.pps input).ok ∧ ((s.settledFor input).pps input).lastEdge = (s.pps input).lastEdge ∧
      (s.settledFor input).beyondInputs = s.beyondInputs := by
    unfold State.settledFor
    split
    · next hzero => exact hzero ▸ s.settleTod_facts
    · exact ⟨rfl, rfl, rfl, rfl⟩
  have hexec := (exec_ppsInEdge h hisland input stamp highNs).trans (if_neg (by simp [hruns, hinput, hlong]))
  generalize s.settledFor input = u at *
  have htake : (u.takeEdge input stamp).beyondSources = (u.modPps input fun e => e.withEdge stamp).beyondSources :=
    State.refreshSources_beyondSources _ _
  have hmeasure := (u.takeEdge input stamp).measureFor_beyondServo (input + 2) ((u.takeEdge input stamp).edgeOffset stamp)
  have hall := (State.measureFor_beyondSources (u.takeEdge input stamp) (input + 2) ((u.takeEdge input stamp).edgeOffset stamp)).trans htake
  refine ⟨u.pps input, _, hexec, hrun, hok, hlast, ?_, (State.settled_refreshSources _ _).of_beyondServo hmeasure, ?_⟩
  · rw [State.pps_of_beyondSources hall, State.pps_modPps_self]
  · exact (State.beyondInputs_of_beyondSources hall).trans hrest

/-- PPS_EDGE_TIMEOUT of an input that has had an edge (R81). -/
theorem exec_ppsEdgeTimeout {s : State} (h : Live s) (hisland : s.timeDead = false) {input : Nat} {l : Stamp}
    (hlast : (s.pps input).lastEdge = some l) : exec (.ppsEdgeTimeout input) s =
      if 2 ≤ input ∨ s.now ≤ l + 11 * secStamp / 10 then .next s
      else .next ((s.modPps input fun e => { e with run := 0, ok := false, namedRun := 0, todOk := false }).refreshSources 1) :=
  (whenTimed_of_live h hisland _).trans (by rw [hlast])

/-! ### Time of day (R101 to R103) -/

/-- How many edges in a row a message names with the second `sec` (R101). -/
def PpsSt.nameRun (e : PpsSt) (sec : Nat) : Nat :=
  if decide (e.prevSeconds = some (sec - 1) ∧ 0 < sec) then e.namedRun + 1 else 1

/-- An input whose last edge a message names (R101, R103). -/
def PpsSt.withName (e : PpsSt) (sec run : Nat) (wrong : Bool) : PpsSt :=
  { e with
    named := some sec, missing := 0, namedRun := if wrong then 0 else run
    todOk := if wrong then false else e.todOk || (decide (3 ≤ run) && e.ok) }

/-- Whether a name of an edge contradicts a time base that holds its time (R103). -/
def State.contradicts (s : State) (sec : Nat) (t : Stamp) : Bool :=
  decide ((s.tb.quality = .locked ∨ s.tb.quality = .holdover) ∧ (sec : Int) ≠ nearestSecond t)

/-- PPS_IN0's last edge, at `t`, named, and the sources as that leaves them. -/
def State.takeName (s : State) (sec run : Nat) (t : Stamp) : State :=
  let u := s.modPps 0 fun e => e.withName sec run (s.contradicts sec t)
  if s.contradicts sec t then (u.event 0x2004 3 []).refreshSources 4
  else (u.refreshSources 0).measureFor 1 fun a => (t : Int) - (u.refreshSources 0).srcDelay a - (sec * secStamp : Nat)

/-- What a name leaves. -/
theorem State.takeName_facts (s : State) (sec run : Nat) (t : Stamp) :
    (s.takeName sec run t).pps 0 = (s.pps 0).withName sec run (s.contradicts sec t) ∧
    Settled (s.takeName sec run t) ∧ (s.takeName sec run t).beyondInputs = s.beyondInputs := by
  suffices h : Settled (s.takeName sec run t) ∧ (s.takeName sec run t).beyondSources =
      (s.modPps 0 fun e => e.withName sec run (s.contradicts sec t)).beyondSources by
    refine ⟨?_, h.1, (State.beyondInputs_of_beyondSources h.2).trans rfl⟩
    rw [State.pps_of_beyondSources h.2, State.pps_modPps_self]
  unfold State.takeName
  dsimp only
  split
  · exact ⟨State.settled_refreshSources _ _, (State.refreshSources_beyondSources _ _).trans
      (State.event_keeps State.beyondSources (fun _ _ _ _ => rfl) _ _ _ _)⟩
  · exact ⟨(State.settled_refreshSources _ _).of_beyondServo (State.measureFor_beyondServo _ _ _),
      (State.measureFor_beyondSources _ _ _).trans (State.refreshSources_beyondSources _ _)⟩

/-- Without a slave a name changes no register. -/
theorem State.regs_takeName {s : State} (hslave : s.tb.slave = none) (sec run : Nat) (t : Stamp) :
    (s.takeName sec run t).regs = s.regs := by
  unfold State.takeName
  dsimp only
  split
  · rw [State.regs_refreshSources, State.event_keeps State.regs (fun _ _ _ _ => rfl)]
    · rfl
    · rw [State.event_keeps State.tb (fun _ _ _ _ => rfl)]
      exact hslave
  · rw [State.regs_measureFor, State.regs_refreshSources]
    exacts [rfl, hslave]

section Tod

variable {s : State} (h : Live s) (hisland : s.timeDead = false) {msg : Bytes} {stop : Stamp}
include h hisland

/-- A message that the device does not listen to. -/
theorem exec_todRxMessage_unheard (hout : s.tb.running = false ∨ s.fld F.tbTodCtrl_rxEn = 0) :
    exec (.todRxMessage msg stop) s = .next s :=
  (whenTimed_of_live h hisland _).trans (if_pos (by simpa using hout))

variable (hruns : s.tb.running = true) (hon : s.fld F.tbTodCtrl_rxEn ≠ 0)
include hruns hon

/-- A message before any edge is an error (R101). -/
theorem exec_todRxMessage_early (hnone : (s.pps 0).lastEdge = none) :
    exec (.todRxMessage msg stop) s = .next (s.bump F.tbTodRxErr_count 1) :=
  (whenTimed_of_live h hisland _).trans ((if_neg (by simp [hruns, hon])).trans (by dsimp only; rw [hnone]))

variable {l : Stamp} (hlast : (s.pps 0).lastEdge = some l)
include hlast

/-- So is one out of form, out of its window, or about an edge that has its name (R101). -/
theorem exec_todRxMessage_bad (hbad : todForm msg = false ∨ stop < l + 10 * msStamp ∨ l + 900 * msStamp < stop ∨
    (s.pps 0).named.isSome = true) : exec (.todRxMessage msg stop) s = .next (s.bump F.tbTodRxErr_count 1) := by
  refine (whenTimed_of_live h hisland _).trans ((if_neg (by simp [hruns, hon])).trans ?_)
  dsimp only
  rw [hlast]
  exact if_pos (by simpa using hbad)

/-- Any other names the edge. -/
theorem exec_todRxMessage_good (hform : todForm msg = true) (hlow : l + 10 * msStamp ≤ stop) (hhigh : stop ≤ l + 900 * msStamp)
    (hfree : (s.pps 0).named = none) : exec (.todRxMessage msg stop) s = .next ((s.bump F.tbTodRxOk_count 1).takeName
      (beNat (bytesAt msg 4 6)) ((s.pps 0).nameRun (beNat (bytesAt msg 4 6))) l) := by
  refine (whenTimed_of_live h hisland _).trans ((if_neg (by simp [hruns, hon])).trans ?_)
  dsimp only
  rw [hlast]
  refine (if_neg (by simp [hform, hfree, hlow, hhigh])).trans ?_
  exact (apply_ite Host.Outcome.next _ _ _).symm

end Tod

/-! ### Lost and reverted sources (R83 to R86) -/

section Sources

variable {s : State} (h : Live s) (hisland : s.timeDead = false)
include h hisland

/-- PTP_SLAVE_LOST of a slave port: it is the slave no more, and the sources are qualified and selected anew (R83). -/
theorem ptpSlaveLost_settles {p : Nat} (hslave : s.tb.slave = some p) (left : Bool) :
    ∃ t, exec (.ptpSlaveLost left) s = .next t ∧ t.tb.slave = none ∧ Settled t ∧ t.beyondInputs = s.beyondInputs := by
  refine ⟨_, (whenTimed_of_live h hisland _).trans (by rw [hslave]), ?_, State.settled_refreshSources _ _, ?_⟩
  · exact (congrArg (fun x : State × (Nat → Nat) => x.1.tb.slave) (State.refreshSources_beyondSources _ _) :)
  · exact (State.beyondInputs_of_beyondSources (State.refreshSources_beyondSources _ _)).trans rfl

/-- HOST_SOURCE_TIMEOUT of a host that has spoken (R84). -/
theorem exec_hostSourceTimeout {a : Stamp} (hspoke : s.tb.hostAt = some a) : exec .hostSourceTimeout s =
    if s.now < a + 2 * secStamp then .next s
    else .next (({ s with tb := { s.tb with hostAt := none } } : State).refreshSources 6) :=
  (whenTimed_of_live h hisland _).trans (by rw [hspoke])

/-- REVERTIVE_SWITCH beside an active source (R85). -/
theorem exec_revertiveSwitch {a : Nat} (hactive : s.tb.active = some a) (n : Nat) : exec (.revertiveSwitch n) s =
    if s.fld F.tbCtrl_revertive = 1 ∧ n < 16 ∧ s.candidate n ∧ s.outranks n a ∧ (s.src n).since + 10 * secStamp ≤ s.now then
      .next (s.activate (some n))
    else .next s :=
  (whenTimed_of_live h hisland _).trans (by rw [hactive])

/-- HOLDOVER_EXPIRED (R86). -/
theorem exec_holdoverExpired : exec .holdoverExpired s =
    if s.tb.quality = .holdover ∧ s.tb.holdoverAt + s.fld F.tbHoldoverLimit_seconds * secStamp ≤ s.now then
      .next (s.servoTo .freeRun)
    else .next s :=
  whenTimed_of_live h hisland _

end Sources

/-! ### PTP messages (R83, R108, R109, R112, R161) -/

/-- A message that is taken: the stamp of its frame is used up (R164), and its port becomes the slave where the message says so and
none is (R83). -/
def State.ptpTake (s : State) (port : Nat) (m : PtpMsg) : State :=
  let u := if isPtpEvent m.kind then { s with tb := { s.tb with ptpRx := s.tb.ptpRx.erase (port, m.rxStamp) } } else s
  if m.slave ∧ u.tb.slave.isNone then (({ u with tb := { u.tb with slave := some port } } : State).refreshSources 0).parentUtc else u

/-- What a message of its kind then does. -/
def State.ptpServe (s : State) (port : Nat) (m : PtpMsg) : State :=
  let q := s.tb.ptp.getD port PtpSt.init
  match m.kind with
  | .announce =>
    (s.modPtp port fun q => { q with
      announced := true, utcOffset := m.utcOffset, leap61 := m.leap61, leap59 := m.leap59 }).parentUtc
  | .sync =>
    let s := s.modPtp port fun q => { q with
      t1 := m.origin + m.correction, t2 := m.rxStamp, syncCorr := m.correction, syncWaiting := m.twoStep }
    if m.twoStep then s else s.syncDone port
  | .followUp =>
    if !q.syncWaiting then s
    else (s.modPtp port fun q => { q with t1 := m.origin + q.syncCorr + m.correction, syncWaiting := false }).syncDone port
  | .delayReq => s.sendPtp (ptpAnswer m port .delayResp false)
  | .delayResp =>
    if !q.delayWaiting then s
    else s.modPtp port fun q => { q with
      meanPath := ((q.t2 - q.t1) + ((m.response : Int) - m.correction - q.t3)) / 2, delayWaiting := false }
  | .pdelayReq => s.sendPtp (ptpAnswer m port .pdelayResp (!s.twoStep port))
  | .pdelayResp =>
    if !q.pdWaiting then s
    else if m.twoStep then s.modPtp port fun q => { q with pdT2 := m.response, pdT4 := m.rxStamp, pdCorr := m.correction }
    else (s.modPtp port fun q => { q with pdWaiting := false }).linkDelay port (((m.rxStamp : Int) - q.pdT1 - m.correction) / 2)
  | .pdelayRespFollowUp =>
    if !q.pdWaiting then s
    else (s.modPtp port fun q => { q with pdWaiting := false }).linkDelay port
      (((q.pdT4 - q.pdT1) - ((m.origin : Int) - q.pdT2) - q.pdCorr - m.correction) / 2)
  | .management => s.sendPtp (ptpAnswer m port .management false)

/-- PTP_MESSAGE of a port with a link, an event message with the stamp of its frame. -/
theorem exec_ptpMessage {s : State} (h : Serving s) {port : Nat} {m : PtpMsg} (hconf : s.configured port = true)
    (hlink : (s.port port).link = true) (hruns : s.tb.running = true)
    (hstamp : isPtpEvent m.kind = true → (port, m.rxStamp) ∈ s.tb.ptpRx) :
    exec (.ptpMessage port m) s = .next ((s.ptpTake port m).ptpServe port m) := by
  refine (whenWorking_of_serving h _).trans ((if_neg ?_).trans ?_)
  · simp [hconf, hlink, hruns]
    exact hstamp
  · change _ = Host.Outcome.next ((State.ptpTake s port m).ptpServe port m)
    unfold State.ptpServe
    generalize hu : State.ptpTake s port m = u
    dsimp only
    unfold State.ptpTake at hu
    dsimp only at hu
    rw [hu]
    cases hkind : m.kind <;> dsimp only <;> split_ifs <;> rfl

/-- Taking a message changes the slave, the stamps that wait, and what qualification does. -/
theorem State.ptpTake_cases (s : State) (port : Nat) (m : PtpMsg) : ∃ slave waiting,
    (s.ptpTake port m).beyondSources = ({ s with tb := { s.tb with slave, ptpRx := waiting } } : State).beyondSources ∧
    (m.slave = true → s.tb.slave = none → slave = some port) := by
  have hstamp : ∃ waiting, (if isPtpEvent m.kind then
      { s with tb := { s.tb with ptpRx := s.tb.ptpRx.erase (port, m.rxStamp) } } else s) =
      ({ s with tb := { s.tb with ptpRx := waiting } } : State) := by
    split
    exacts [⟨_, rfl⟩, ⟨s.tb.ptpRx, rfl⟩]
  obtain ⟨waiting, hstamp⟩ := hstamp
  unfold State.ptpTake
  dsimp only
  rw [hstamp]
  split
  · exact ⟨some port, waiting, (State.beyondSources_of_beyondSelection (State.parentUtc_beyondSelection _)).trans
      (State.refreshSources_beyondSources _ 0), fun _ _ => rfl⟩
  · next hno => exact ⟨s.tb.slave, waiting, rfl, fun hm hnone => absurd ⟨hm, by simp [hnone]⟩ hno⟩

/-- A message that is no event message, from a port while there is a slave, is taken without more ado. -/
theorem State.ptpTake_of_slave {s : State} {p port : Nat} {m : PtpMsg} (hslave : s.tb.slave = some p)
    (hkind : isPtpEvent m.kind = false) : s.ptpTake port m = s := by
  unfold State.ptpTake
  simp [hslave, hkind]

/-- Taking a message leaves alone the exchanges, the slices, the transports, the time and what no input changes. -/
theorem State.ptpTake_keeps {s : State} {port : Nat} (m : PtpMsg) (hconf : s.configured port = true) :
    (s.ptpTake port m).tb.ptp = s.tb.ptp ∧ (∀ n, (s.ptpTake port m).slice n = s.slice n) ∧
    (s.ptpTake port m).twoStep port = s.twoStep port ∧ (s.ptpTake port m).beyondInputs = s.beyondInputs := by
  obtain ⟨slave, waiting, htake, -⟩ := s.ptpTake_cases port m
  have hport : port < 96 := (of_decide_eq_true hconf).1
  have hmsec : (F.portMsecCfg_txEn port).addr ≠ Reg.tbUtc := by
    change 0x100_0100 + port * 0x1_0000 ≠ 0x300_0044
    omega
  have hlist : (s.ptpTake port m).tb.timeSec = s.tb.timeSec := (congrArg (fun x : State × (Nat → Nat) => x.1.tb.timeSec) htake :)
  refine ⟨(congrArg (fun x : State × (Nat → Nat) => x.1.tb.ptp) htake :), fun n =>
    (congrArg (fun x : State × (Nat → Nat) => x.1.slice n) htake :), ?_, (State.beyondInputs_of_beyondSources htake).trans rfl⟩
  unfold State.twoStep
  rw [hlist, State.fld_of_beyondSources htake hmsec]
  rfl

/-- A state without what serving a PTP message may change. -/
def State.beyondPtp (s : State) : State :=
  { s.beyondServo with
    tb := { s.tb.beyondServo with active := none, ptp := .empty }, regs := RegFile.init, stp := Stamping.init, nextFrame := 0
    slices := .empty }

theorem State.beyondPtp_of_beyondSelection {s t : State} (h : t.beyondSelection = s.beyondSelection) : t.beyondPtp = s.beyondPtp :=
  (congrArg (fun x : State × (Nat → Nat) => x.1.beyondPtp) h :)

theorem State.parentUtc_beyondPtp (s : State) : s.parentUtc.beyondPtp = s.beyondPtp :=
  State.beyondPtp_of_beyondSelection s.parentUtc_beyondSelection

theorem State.modPtp_beyondPtp (s : State) (p : Nat) (f : PtpSt → PtpSt) : (s.modPtp p f).beyondPtp = s.beyondPtp := rfl

theorem State.setCable_beyondPtp (s : State) (p : Nat) (c : CableSt) : (s.setCable p c).beyondPtp = s.beyondPtp := rfl

theorem State.linkDelay_beyondPtp (s : State) (p : Nat) (d : Int) : (s.linkDelay p d).beyondPtp = s.beyondPtp :=
  (State.setCable_beyondPtp _ p _).trans (s.modPtp_beyondPtp p _)

theorem State.syncDone_beyondServo (s : State) (p : Nat) : (s.syncDone p).beyondServo = s.beyondServo := by
  unfold State.syncDone
  dsimp only
  split
  exacts [s.measureFor_beyondServo _ _, rfl]

theorem State.syncDone_beyondPtp (s : State) (p : Nat) : (s.syncDone p).beyondPtp = s.beyondPtp :=
  (congrArg State.beyondPtp (s.syncDone_beyondServo p) :)

theorem State.sendPtp_beyondPtp (s : State) (m : PtpTx) : (s.sendPtp m).beyondPtp = s.beyondPtp :=
  State.sendPtp_keeps State.beyondPtp (fun _ _ _ _ => rfl) s m

/-- A message that is served leaves the rest of the time base, and the block but for slices and cables, alone. -/
theorem State.ptpServe_beyondPtp (s : State) (port : Nat) (m : PtpMsg) : (s.ptpServe port m).beyondPtp = s.beyondPtp := by
  unfold State.ptpServe
  dsimp only
  split
  case h_1 => exact (State.parentUtc_beyondPtp _).trans (s.modPtp_beyondPtp _ _)
  case h_2 =>
    split
    exacts [s.modPtp_beyondPtp _ _, (State.syncDone_beyondPtp _ _).trans (s.modPtp_beyondPtp _ _)]
  case h_3 =>
    split
    exacts [rfl, (State.syncDone_beyondPtp _ _).trans (s.modPtp_beyondPtp _ _)]
  case h_5 =>
    split
    exacts [rfl, s.modPtp_beyondPtp _ _]
  case h_7 =>
    split
    · rfl
    · split
      exacts [s.modPtp_beyondPtp _ _, (State.linkDelay_beyondPtp _ _ _).trans (s.modPtp_beyondPtp _ _)]
  case h_8 =>
    split
    exacts [rfl, (State.linkDelay_beyondPtp _ _ _).trans (s.modPtp_beyondPtp _ _)]
  all_goals exact State.sendPtp_beyondPtp _ _

/-! What each kind of message gives its port. -/

section Serve

variable {s : State} {port : Nat} {m : PtpMsg}

@[simp] theorem State.ptp_modPtp_self (s : State) (p : Nat) (f : PtpSt → PtpSt) :
    (s.modPtp p f).tb.ptp.getD p PtpSt.init = f (s.tb.ptp.getD p PtpSt.init) := Table.getD_set_self _ _ _ _

/-- Taking TB_UTC over leaves the exchanges alone. -/
theorem State.ptp_parentUtc (s : State) : s.parentUtc.tb.ptp = s.tb.ptp :=
  (congrArg (fun x : State × (Nat → Nat) => x.1.tb.ptp) s.parentUtc_beyondSelection :)

/-- TB_UTC has the offset that the active PTP source's parent announced (R112). -/
theorem State.fld_parentUtc {p : Nat} (hslave : s.tb.slave = some p) (htype : s.activeType = 4)
    (hsaid : (s.tb.ptp.getD p PtpSt.init).announced = true) (hwf : s.regs.cells.wf = true) :
    s.parentUtc.fld F.tbUtc_offset = twos 16 (s.tb.ptp.getD p PtpSt.init).utcOffset := by
  have hwf1 := State.cells_wf_setFld hwf F.tbUtc_offset (twos 16 (s.tb.ptp.getD p PtpSt.init).utcOffset)
  have hwf2 := State.cells_wf_setFld hwf1 F.tbUtc_leap61 (b2n (s.tb.ptp.getD p PtpSt.init).leap61)
  have hrange : twos 16 (s.tb.ptp.getD p PtpSt.init).utcOffset < 2 ^ 16 := by
    unfold twos
    omega
  unfold State.parentUtc
  rw [hslave]
  dsimp only
  rw [if_pos ⟨htype, hsaid⟩, State.fld_setFld_apart hwf2 rfl rfl, State.fld_setFld_apart hwf1 rfl rfl,
    State.fld_setFld_self hwf rfl]
  exact Nat.mod_eq_of_lt hrange

/-- The same right after an announcement. -/
theorem State.fld_parentUtc_modPtp {p : Nat} {f : PtpSt → PtpSt} (hslave : s.tb.slave = some p) (htype : s.activeType = 4)
    (hsaid : (f (s.tb.ptp.getD p PtpSt.init)).announced = true) (hwf : s.regs.cells.wf = true) :
    (s.modPtp p f).parentUtc.fld F.tbUtc_offset = twos 16 (f (s.tb.ptp.getD p PtpSt.init)).utcOffset := by
  rw [← State.ptp_modPtp_self s p f] at hsaid ⊢
  exact State.fld_parentUtc (s := s.modPtp p f) hslave htype hsaid hwf

theorem State.utcOffset_ptpServe (h : m.kind = .announce) :
    ((s.ptpServe port m).tb.ptp.getD port PtpSt.init).utcOffset = m.utcOffset := by
  unfold State.ptpServe
  simp only [h, State.ptp_parentUtc, State.ptp_modPtp_self]

theorem State.fld_ptpServe_announce (h : m.kind = .announce) (hslave : s.tb.slave = some port) (htype : s.activeType = 4)
    (hwf : s.regs.cells.wf = true) : (s.ptpServe port m).fld F.tbUtc_offset = twos 16 m.utcOffset := by
  unfold State.ptpServe
  simp only [h]
  exact State.fld_parentUtc_modPtp hslave htype rfl hwf

theorem State.times_ptpServe_sync (h : m.kind = .sync) :
    ((s.ptpServe port m).tb.ptp.getD port PtpSt.init).t1 = m.origin + m.correction ∧
    ((s.ptpServe port m).tb.ptp.getD port PtpSt.init).t2 = m.rxStamp := by
  have hsync : ∀ u : State, (u.syncDone port).tb.ptp = u.tb.ptp := fun u =>
    (congrArg (fun x : State => x.tb.ptp) (u.syncDone_beyondServo port) :)
  unfold State.ptpServe
  simp only [h]
  split <;> simp [hsync]

theorem State.meanPath_ptpServe (h : m.kind = .delayResp) (hwaits : (s.tb.ptp.getD port PtpSt.init).delayWaiting = true) :
    ((s.ptpServe port m).tb.ptp.getD port PtpSt.init).meanPath =
      (((s.tb.ptp.getD port PtpSt.init).t2 - (s.tb.ptp.getD port PtpSt.init).t1) +
        ((m.response : Int) - m.correction - (s.tb.ptp.getD port PtpSt.init).t3)) / 2 := by
  unfold State.ptpServe
  simp [h, hwaits]

theorem State.meas_ptpServe (h : m.kind = .pdelayResp) (hwaits : (s.tb.ptp.getD port PtpSt.init).pdWaiting = true)
    (hone : m.twoStep = false) : ((s.ptpServe port m).stp.cables.getD port CableSt.init).meas.head? =
      some (((m.rxStamp : Int) - (s.tb.ptp.getD port PtpSt.init).pdT1 - m.correction) / 2) := by
  unfold State.ptpServe
  simp [h, hwaits, hone, State.linkDelay, State.setCable]

/-- A request puts its answer before the slice of its port. -/
theorem State.injWait_ptpServe {answer : PtpTx} (h : m.kind = .delayReq ∧ answer = ptpAnswer m port .delayResp false ∨
    m.kind = .pdelayReq ∧ answer = ptpAnswer m port .pdelayResp (!s.twoStep port)) :
    ((s.ptpServe port m).slice (sliceOf port)).injWait = (s.slice (sliceOf port)).injWait ++ [s.ptpFrameOf answer] := by
  unfold State.ptpServe
  rcases h with ⟨hkind, rfl⟩ | ⟨hkind, rfl⟩
  · simp only [hkind]
    exact State.injWait_sendPtp _ _
  · simp only [hkind]
    exact State.injWait_sendPtp _ _

end Serve

/-- Settles O41: an input, a message, a loss and a switch each change what their lemma names; the rest is what `beyondInputs`,
`beyondSources` and `beyondPtp` keep. -/
theorem timeSources : Obligations.TimeSources := by
  unfold Obligations.TimeSources
  intro s h hisland
  refine ⟨?edge, ?timeout, ?tod, ?ptp, ?lost, ?silent, ?host, ?revert, ?noHold, ?expired⟩
  case edge =>
    intro input stamp highNs
    refine ⟨fun hout => (exec_ppsInEdge h hisland input stamp highNs).trans (if_pos (by simpa using hout)),
      fun hruns hinput hlong => ?_⟩
    obtain ⟨e, t, hexec, hrun, hok, hlast, hpps, hsettled, hrest⟩ := ppsInEdge_taken h hisland stamp hruns hinput hlong
    obtain ⟨htime, hframe⟩ := State.eq_of_beyondInputs hrest
    rw [← hrun, ← hok, ← hlast]
    refine ⟨t, hexec, ?_, fun hnone => ?_, fun l hl hlow hhigh => ?_, fun l hl hfar => ?_, hsettled, htime, hframe⟩
    · rw [hpps]
      rfl
    · rw [hpps]
      simp [PpsSt.withEdge, ppsSpacing_first hnone]
    · rw [hpps]
      simp [PpsSt.withEdge, ppsSpacing_good hl hlow hhigh]
    · rw [hpps]
      simp [PpsSt.withEdge, ppsSpacing_bad hl hfar]
  case timeout =>
    intro input
    refine ⟨fun hnone => (whenTimed_of_live h hisland _).trans (by rw [hnone]), fun l hlast => ?_⟩
    have hexec := exec_ppsEdgeTimeout h hisland hlast
    refine ⟨fun hno => hexec.trans (if_pos hno), fun hinput hdue => ⟨_, hexec.trans (if_neg ?_), ?_⟩⟩
    · exact not_or.mpr ⟨Nat.not_le.mpr hinput, Nat.not_le.mpr hdue⟩
    · have hall := State.refreshSources_beyondSources
        (s.modPps input fun e => { e with run := 0, ok := false, namedRun := 0, todOk := false }) 1
      rw [State.pps_of_beyondSources hall, State.pps_modPps_self]
      exact ⟨rfl, rfl, State.settled_refreshSources _ _,
        ((State.eq_of_beyondInputs (State.beyondInputs_of_beyondSources hall)).1).trans rfl⟩
  case tod =>
    intro msg stop
    refine ⟨exec_todRxMessage_unheard h hisland, fun hruns hon => ⟨exec_todRxMessage_early h hisland hruns hon, fun l hlast =>
      ⟨exec_todRxMessage_bad h hisland hruns hon hlast, fun hform hlow hhigh hfree => ?_⟩⟩⟩
    have hexec := exec_todRxMessage_good h hisland hruns hon hlast hform hlow hhigh hfree
    have htb : (s.bump F.tbTodRxOk_count 1).tb = s.tb := State.bump_keeps State.tb (fun _ _ _ => rfl) s _ _
    have hrest : (s.bump F.tbTodRxOk_count 1).beyondInputs = s.beyondInputs :=
      State.bump_keeps State.beyondInputs (fun _ _ _ => rfl) s _ _
    generalize s.bump F.tbTodRxOk_count 1 = u at *
    obtain ⟨hpps, hsettled, hkept⟩ := u.takeName_facts (beNat (bytesAt msg 4 6)) ((s.pps 0).nameRun (beNat (bytesAt msg 4 6))) l
    refine ⟨_, hexec, ?_, fun hslave => State.regs_takeName (htb ▸ hslave) _ _ _, hsettled,
      (State.eq_of_beyondInputs (hkept.trans hrest)).1, fun hholds hother => ?_⟩
    · rw [hpps]
      rfl
    · have hwrong : u.contradicts (beNat (bytesAt msg 4 6)) l = true := by
        unfold State.contradicts
        rw [htb]
        exact decide_eq_true ⟨hholds, hother⟩
      rw [hpps, hwrong]
      rfl
  case ptp =>
    intro hsound port m
    refine ⟨fun hout => (whenWorking_of_serving ⟨h, hsound⟩ _).trans (if_pos (by simpa using hout)),
      fun hconf hlink hruns hstamp => ?_⟩
    obtain ⟨hptp, hslice, htwo, hrest⟩ := State.ptpTake_keeps m hconf
    obtain ⟨slave, waiting, htake, hfirst⟩ := s.ptpTake_cases port m
    have hserve := (s.ptpTake port m).ptpServe_beyondPtp port m
    have htime : ((s.ptpTake port m).ptpServe port m).tb.time = s.tb.time :=
      (congrArg (fun u : State => u.tb.time) hserve :).trans (congrArg (fun u : State => u.tb.time) hrest :)
    refine ⟨_, exec_ptpMessage ⟨h, hsound⟩ hconf hlink hruns hstamp, fun hm hnone => ?_, fun hkind => ⟨State.utcOffset_ptpServe hkind, ?_⟩,
      fun hkind => State.times_ptpServe_sync hkind, ?_, ?_, htime, ?_, ?_, ?_, ?_⟩
    · exact ((congrArg (fun u : State => u.tb.slave) hserve :).trans
        (congrArg (fun x : State × (Nat → Nat) => x.1.tb.slave) htake :)).trans (hfirst hm hnone)
    · intro hslave htype hwf
      rw [State.ptpTake_of_slave hslave (by rw [hkind]; rfl)]
      exact State.fld_ptpServe_announce hkind hslave htype hwf
    · rintro q rfl
      rw [← hptp]
      exact ⟨State.meanPath_ptpServe, State.meas_ptpServe⟩
    · intro answer hanswer
      obtain ⟨-, horigin, hdest, -⟩ := (s.ptpTake port m).ptpFrameOf_facts answer
      have hport : answer.port = port := by rcases hanswer with ⟨-, rfl⟩ | ⟨-, rfl⟩ <;> rfl
      rw [← htwo] at hanswer
      exact ⟨_, horigin, hport ▸ hdest, hslice _ ▸ State.injWait_ptpServe hanswer⟩
    · exact (congrArg (fun u : State => u.coh) hserve :).trans (congrArg (fun u : State => u.coh) hrest :)
    · exact (congrArg (fun u : State => u.qm) hserve :).trans (congrArg (fun u : State => u.qm) hrest :)
    · exact (congrArg (fun u : State => u.flow) hserve :).trans (congrArg (fun u : State => u.flow) hrest :)
    · exact (congrArg (fun u : State => u.tm) hserve :).trans (congrArg (fun u : State => u.tm) hrest :)
  case lost =>
    intro left
    refine ⟨fun hnone => (whenTimed_of_live h hisland _).trans (by rw [hnone]), fun hsome => ?_⟩
    obtain ⟨p, hslave⟩ := Option.ne_none_iff_exists'.mp hsome
    obtain ⟨t, hexec, hnone, hsettled, hrest⟩ := ptpSlaveLost_settles h hisland hslave left
    exact ⟨t, hexec, hnone, hsettled, (State.eq_of_beyondInputs hrest).1⟩
  case silent =>
    intro hnone
    exact (whenTimed_of_live h hisland _).trans (by rw [hnone])
  case host =>
    intro a hspoke
    have hexec := exec_hostSourceTimeout h hisland hspoke
    refine ⟨fun hearly => hexec.trans (if_pos hearly), fun hdue =>
      ⟨_, hexec.trans (if_neg (Nat.not_lt.mpr hdue)), ?_, State.settled_refreshSources _ _⟩⟩
    exact (congrArg (fun x : State × (Nat → Nat) => x.1.tb.hostAt) (State.refreshSources_beyondSources _ _) :)
  case revert =>
    intro n a hactive
    have hexec := exec_revertiveSwitch h hisland hactive n
    refine ⟨fun hno => hexec.trans (if_neg ?_), fun hn hon hcand hranks hlong =>
      ⟨_, hexec.trans (if_pos ⟨hon, hn, hcand, hranks, hlong⟩), s.active_activate _, ?_⟩⟩
    · rintro ⟨hon, -, hcand, hranks, hlong⟩
      rcases hno with hoff | hout | hlow | hshort
      · exact hoff hon
      · exact absurd hcand (by simp [hout])
      · exact absurd hranks (by simp [hlow])
      · exact absurd hlong (Nat.not_le.mpr hshort)
    · exact (congrArg (fun x : State × (Nat → Nat) => x.1.tb.time) (s.activate_beyondSelection (some n)) :)
  case noHold => exact fun hq => (exec_holdoverExpired h hisland).trans (if_neg fun hboth => hq hboth.1)
  case expired =>
    intro hq hdue
    exact ⟨_, (exec_holdoverExpired h hisland).trans (if_pos ⟨hq, hdue⟩), s.quality_servoTo _,
      (congrArg (fun x : State => x.tb.time) (s.servoTo_beyondServo .freeRun) :)⟩

end Sys2Proof.Machine
end

section
/-! PROOFS. A step of the time base (R71, R93 to R95, R152, R197, R198): what the Deckle's emission, the move of the waits and the
boundary of the next Ream leave of the time base and of the Reams. -/

namespace Sys2Proof.Machine

/-! ### The outline of the Reams -/

/-- What a step is held to: the time base; number and start of the Ream in progress; number, end and mark of those that ended; the
newest checkpoint, with its reservation. -/
def State.outline (s : State) : TimeBase × Option (Nat × Stamp) × List (Nat × Option Stamp × Bool) × Option Ckpt :=
  (s.tb, s.ldg.cur.map fun c => (c.num, c.start), s.ldg.ended.map fun r => (r.num, r.stop, r.step), s.ldg.newestCkpt)

/-- A change of a Ream that leaves its number, its bounds and its mark. -/
def KeepsBounds (f : ReamSt → ReamSt) : Prop :=
  ∀ c, (f c).num = c.num ∧ (f c).start = c.start ∧ (f c).stop = c.stop ∧ (f c).step = c.step

theorem State.outline_modReam (s : State) (n : Nat) {f : ReamSt → ReamSt} (hf : KeepsBounds f) :
    (s.modReam n f).outline = s.outline := by
  have hcur : ∀ c : ReamSt, ((if c.num = n then f c else c).num, (if c.num = n then f c else c).start) = (c.num, c.start) := fun c => by
    obtain ⟨hnum, hstart, -, -⟩ := hf c
    split
    exacts [by rw [hnum, hstart], rfl]
  have hended : ∀ c : ReamSt, ((if c.num = n then f c else c).num, (if c.num = n then f c else c).stop,
      (if c.num = n then f c else c).step) = (c.num, c.stop, c.step) := fun c => by
    obtain ⟨hnum, -, hstop, hstep⟩ := hf c
    split
    exacts [by rw [hnum, hstop, hstep], rfl]
  simp only [State.outline, State.modReam, Option.map_map, List.map_map, Function.comp_def, hcur, hended]

theorem State.outline_checkRefuse (s : State) : s.checkRefuse.outline = s.outline := by
  have hevent : ∀ (u : State) c v l, (u.event c v l).outline = u.outline := State.event_keeps State.outline fun _ _ _ _ => rfl
  unfold State.checkRefuse
  split_ifs
  exacts [hevent _ _ _ _, rfl, hevent _ _ _ _, rfl]

theorem State.outline_bumpAt (s : State) (f : FieldRef) (n : Nat) (t : Stamp) : (s.bumpAt f n t).outline = s.outline :=
  State.bumpAt_keeps State.outline (fun _ _ _ => rfl) s f n t

theorem State.outline_stageRecord (s : State) (l : Leaf) (n : Nat) (p : Option Nat) : (s.stageRecord l n p).outline = s.outline := by
  have hmissing := s.outline_modReam n (f := fun c => { c with missing := c.missing + 1 }) fun _ => ⟨rfl, rfl, rfl, rfl⟩
  unfold State.stageRecord
  dsimp only
  generalize (if decide (l.disp = 0x17) = true then s.recordFree
    else if s.refuseMode = true then s.freeStaging else s.recordFree) = room
  split
  · rw [State.outline_checkRefuse]
    simp only [State.outline]
  · rw [State.outline_checkRefuse, State.outline_bumpAt, ← hmissing]
    simp only [State.outline]

theorem State.outline_postLeaf (s : State) (l : Leaf) (disp : Nat) : (s.postLeaf l disp).outline = s.outline := by
  have hpost := fun l : Leaf => s.outline_modReam s.ream (f := fun c => { c with posts := c.posts ++ [l] }) fun _ => ⟨rfl, rfl, rfl, rfl⟩
  unfold State.postLeaf
  dsimp only
  split
  · rw [State.outline_stageRecord, State.outline_bumpAt, hpost]
  · rw [State.outline_bumpAt, hpost]

theorem State.outline_lateOutcome (s : State) (f : Frame) (disp : Nat) : (s.lateOutcome f disp).outline = s.outline :=
  s.outline_postLeaf _ _

/-! ### Copies that are dropped or passed on (R272, R331, R679) -/

theorem State.outline_unqueue (s : State) (c : Copy) : (s.unqueue c).outline = s.outline := rfl

theorem State.outline_settleFrame (s : State) (f : Nat) : (s.settleFrame f).outline = s.outline := by
  refine Eq.trans ?_ (State.releaseFrame_keeps State.outline (fun _ _ _ => rfl) s f)
  unfold State.settleFrame State.forget
  split <;> rfl

theorem State.outline_dropCopy (s : State) (c : Copy) (disp : Nat) : (s.dropCopy c disp).outline = s.outline := by
  have hlate : ∀ f : Frame, (if c.mirror then s else s.lateOutcome f disp).outline = s.outline := fun f => by
    split
    exacts [rfl, s.outline_lateOutcome f disp]
  have hsend : ∀ u : State, (if c.portCopy then u.settleSend c.frame none false else u).outline = u.outline := fun u => by
    split <;> rfl
  unfold State.dropCopy
  split
  · rfl
  · exact (State.outline_settleFrame _ _).trans ((hsend _).trans (hlate _))

theorem State.outline_count (s : State) (a n : Nat) (t : Stamp) : (s.count a n t).outline = s.outline :=
  State.count_keeps State.outline (fun _ _ => rfl) s a n t

theorem State.outline_event (s : State) (c v : Nat) (l : List Snap) : (s.event c v l).outline = s.outline :=
  State.event_keeps State.outline (fun _ _ _ _ => rfl) s c v l

theorem State.outline_dropAtPort (s : State) (c : Copy) : (s.dropAtPort c).outline = s.outline :=
  (State.outline_dropCopy _ c 0x40).trans (s.outline_count _ _ _)

theorem State.outline_discardHost (s : State) (c : Copy) : (s.discardHost c).outline = s.outline := by
  unfold State.discardHost
  split
  · refine (State.outline_dropCopy _ _ _).trans ?_
    rw [State.genReport_keeps State.outline fun _ _ _ _ _ _ => rfl, State.outline_event, State.outline_count]
  · exact s.outline_dropCopy c 0x40

theorem State.outline_spillRefused {s : State} {wq c n : Nat} {t : Stamp} {v : Verdict} (h : s.spillRefused wq c n t = some v) :
    v.2.outline = s.outline := by
  unfold State.spillRefused at h
  dsimp only at h
  split_ifs at h
  · cases h
    exact s.outline_count _ _ _
  · cases h
    exact (State.outline_event _ _ _ _).trans (s.outline_count _ _ _)

theorem State.outline_markSpill (s : State) (wq : Nat) : (s.markSpill wq).outline = s.outline := by
  unfold State.markSpill
  split <;> rfl

/-- The refusal by the HBM extension of a copy that its host queue would spill (R512 to R514). -/
def State.spillVerdict (s : State) (m : MergeSt) (c : Copy) : Option Verdict :=
  if decide (m.destKind = 0) && s.wqTakes m.dest && s.spills m.dest then s.spillRefused m.dest c.cls c.n (s.stampOf c) else none

/-- The state with such a refusal counted. -/
def State.verdictCounted (s : State) (m : MergeSt) (c : Copy) : State :=
  match s.spillVerdict m c with
  | some v => v.2
  | none => s

/-- A copy at the end of a queue. -/
def State.queued (s : State) (c : Copy) (q : Nat) (spilled : Bool) : State :=
  { s with tm := { s.tm with
    queues := s.tm.queues.set q (s.queue q ++ [c]), hbmUsed := if spilled then s.tm.hbmUsed + c.n else s.tm.hbmUsed } }

/-- A merged copy put in the queue of its group's destination, or dropped there (R272, R339, R512 to R514, R679). -/
def State.placeCopy (s : State) (m : MergeSt) (c : Copy) (q : Nat) (spilled refused : Bool) : State :=
  let s := s.queued c q spilled
  if m.destKind = 1 then
    if !s.portTakes m.dest then s.dropAtPort c
    else if s.tooLong m.dest c.len then (s.count (C.portTxOversizeDrop m.dest) 1 (s.stampOf c)).dropCopy c 0x40
    else s
  else if !s.wqTakes m.dest then s.discardHost c
  else if refused then s.dropCopy c 0x40
  else (if spilled then s.settleFrame c.frame else s).markSpill m.dest

/-- A copy that its group holds is passed on by leaving the group's queue and being placed. -/
theorem State.passCopy_of_held {s : State} {g id : Nat} {c : Copy} (h : (s.queue (qMerge g)).find? (·.id = id) = some c)
    (seq flags : Nat) : ∃ c' q spilled refused, s.passCopy g id seq flags =
      ((s.verdictCounted (s.merge g) c).unqueue c).placeCopy (s.merge g) c' q spilled refused := by
  unfold State.passCopy
  rw [h]
  exact ⟨_, _, _, _, rfl⟩

theorem State.outline_verdictCounted (s : State) (m : MergeSt) (c : Copy) : (s.verdictCounted m c).outline = s.outline := by
  unfold State.verdictCounted
  split
  · next v hv =>
    unfold State.spillVerdict at hv
    split at hv
    · exact State.outline_spillRefused hv
    · cases hv
  · rfl

theorem State.outline_placeCopy (s : State) (m : MergeSt) (c : Copy) (q : Nat) (spilled refused : Bool) :
    (s.placeCopy m c q spilled refused).outline = s.outline := by
  have hqueued : (s.queued c q spilled).outline = s.outline := rfl
  unfold State.placeCopy
  generalize s.queued c q spilled = u at *
  rw [← hqueued]
  dsimp only
  split
  · split
    · exact u.outline_dropAtPort c
    split
    · exact (State.outline_dropCopy _ _ _).trans (u.outline_count _ _ _)
    · rfl
  split
  · exact u.outline_discardHost c
  split
  · exact u.outline_dropCopy c 0x40
  · refine (State.outline_markSpill _ _).trans ?_
    split
    exacts [u.outline_settleFrame _, rfl]

theorem State.outline_passCopy (s : State) (g id seq flags : Nat) : (s.passCopy g id seq flags).outline = s.outline := by
  cases hheld : (s.queue (qMerge g)).find? (·.id = id) with
  | none =>
    unfold State.passCopy
    rw [hheld]
  | some c =>
    obtain ⟨c', q, spilled, refused, hpass⟩ := State.passCopy_of_held hheld seq flags
    rw [hpass, State.outline_placeCopy, State.outline_unqueue, State.outline_verdictCounted]

/-- The late outcome of a copy's frame, as an emission out of order leaves it (R281). -/
def State.lateEmission (s : State) (g : Nat) (d : Desc) (seq : Nat) : State :=
  let s := (s.count (C.mrgLate g) 1 d.stamp).event 0x7004 1 [.q g, .q d.port, .w seq]
  match (s.queue (qMerge g)).find? (·.id = d.copy) with
  | some c => match s.tm.frames.get? c.frame with
    | some f => s.lateOutcome f.frame 0x43
    | none => s
  | none => s

theorem State.outline_lateEmission (s : State) (g : Nat) (d : Desc) (seq : Nat) : (s.lateEmission g d seq).outline = s.outline := by
  have hevent := ((s.count (C.mrgLate g) 1 d.stamp).outline_event 0x7004 1 [.q g, .q d.port, .w seq]).trans (s.outline_count _ _ _)
  unfold State.lateEmission
  dsimp only
  split
  · split
    exacts [(State.outline_lateOutcome _ _ _).trans hevent, hevent]
  · exact hevent

/-- An emission counted and numbered (R281, R282). -/
def State.numberEmission (s : State) (g : Nat) (d : Desc) (flags : Nat) : State :=
  let u := s.count (C.mrgEmitted g) 1 d.stamp
  let u := if flags.testBit 1 then u.count (C.mrgWindowed g) 1 d.stamp else u
  u.modMerge g fun m => { m with seq := (s.merge g).seq + 1, lastKey := u.lastAfter m d }

/-- A descriptor emitted, step by step. -/
theorem State.emitDesc_eq (s : State) (g : Nat) (d : Desc) (flags : Nat) : s.emitDesc g d flags =
    (if flags.testBit 0 then (s.numberEmission g d flags).lateEmission g d ((s.merge g).seq + 1)
      else s.numberEmission g d flags).passCopy g d.copy ((s.merge g).seq + 1) flags := rfl

theorem State.outline_numberEmission (s : State) (g : Nat) (d : Desc) (flags : Nat) :
    (s.numberEmission g d flags).outline = s.outline := by
  have hmod : ∀ (u : State) f, (u.modMerge g f).outline = u.outline := fun _ _ => rfl
  unfold State.numberEmission
  rw [hmod]
  split
  exacts [(State.outline_count _ _ _ _).trans (s.outline_count _ _ _), s.outline_count _ _ _]

theorem State.outline_emitDesc (s : State) (g : Nat) (d : Desc) (flags : Nat) : (s.emitDesc g d flags).outline = s.outline := by
  rw [s.emitDesc_eq, State.outline_passCopy]
  split
  · rw [State.outline_lateEmission, State.outline_numberEmission]
  · exact s.outline_numberEmission g d flags

/-- Emission leaves the time base and the Reams alone. -/
theorem State.outline_emitAll (s : State) (g flags : Nat) : (s.emitAll g flags).outline = s.outline :=
  foldl_keeps State.outline _ (fun u d => u.outline_emitDesc g d flags) _ _

theorem State.outline_stepDeckle (s : State) (ream : Nat) : (s.stepDeckle ream).outline = s.outline := by
  have hemit : ((List.range 16).foldl (fun (u : State) g => u.emitAll g flagWindowed) s).outline = s.outline :=
    foldl_keeps State.outline _ (fun u g => u.outline_emitAll g flagWindowed) _ s
  unfold State.stepDeckle
  generalize (List.range 16).foldl (fun (u : State) g => u.emitAll g flagWindowed) s = u at *
  exact hemit

end Sys2Proof.Machine
end

section
/-! PROOFS. The boundary of the next Ream leaves the time base and the bounds of the Reams alone (R198). -/

namespace Sys2Proof.Machine

/-! ### The boundary of the next Ream (R198): its operations one by one -/

/-- The outline depends on the time base and the ledger alone. -/
theorem State.outline_of_same {s t : State} (htb : t.tb = s.tb) (hldg : t.ldg = s.ldg) : t.outline = s.outline := by
  unfold State.outline
  rw [htb, hldg]

theorem State.outline_setReg (s : State) (a v : Nat) : (s.setReg a v).outline = s.outline := rfl

theorem State.outline_setFld (s : State) (f : FieldRef) (v : Nat) : (s.setFld f v).outline = s.outline := rfl

theorem State.outline_leaveSets (s : State) : s.leaveSets.outline = s.outline := by
  have hset : ∀ (u : State) a b v w, ((u.setReg a v).setReg b w).outline = u.outline := fun _ _ _ _ _ => rfl
  unfold State.leaveSets
  extract_lets stay u
  have hu : u.outline = s.outline := by
    unfold u
    split
    · rfl
    · exact foldl_keeps State.outline _ (fun v g => foldl_keeps State.outline _ (fun w k => hset _ _ _ _ _) _ v) _ s
  refine Eq.trans ?_ hu
  exact State.outline_of_same rfl rfl

theorem State.outline_pendGates (s : State) (p : Nat) (start : Stamp) (words : Table Word) :
    (s.pendGates p start words).outline = s.outline := State.outline_of_same rfl rfl

theorem State.outline_applyReam (s : State) (start : Stamp) : (s.applyReam start).outline = s.outline := by
  have hwords := State.applyWords_keeps State.outline (fun _ _ => rfl) s .ream (s.regs.reamWait.filter fun a _ => (gatePort a).isNone)
  unfold State.applyReam
  split
  · rfl
  · refine (foldl_keeps State.outline _ (fun u p => u.outline_pendGates p start _) _ _).trans ?_
    dsimp only
    generalize s.applyWords .ream _ = u at *
    exact (State.outline_of_same rfl rfl).trans hwords

theorem State.outline_applyKey (s : State) : s.applyKey.2.outline = s.outline := by
  unfold State.applyKey
  extract_lets want
  split
  · rfl
  split
  · exact (State.outline_event _ _ _ _).trans (State.jrnStart_keeps State.outline (fun _ _ => rfl) _ _ _)
  · exact s.outline_event _ _ _

theorem State.outline_checkStale (s : State) : s.checkStale.outline = s.outline := by
  have hevent : (if s.staleNow ∧ s.stp.stale = false then s.event 0x2011 2 [] else s).outline = s.outline := by
    split
    exacts [s.outline_event _ _ _, rfl]
  unfold State.checkStale
  dsimp only
  generalize (if s.staleNow = true ∧ s.stp.stale = false then s.event 0x2011 2 [] else s) = u at *
  rw [← hevent]
  simp [State.outline, Function.comp_def]

theorem State.outline_calBoundary (s : State) (ream : Nat) (start : Stamp) : (s.calBoundary ream start).outline = s.outline := by
  unfold State.calBoundary
  refine (State.outline_checkStale _).trans ?_
  exact State.outline_of_same rfl rfl

theorem State.outline_cableBoundary (s : State) (p ream : Nat) : (s.cableBoundary p ream).outline = s.outline := by
  have hevent : ∀ (u : State) (x : Bool) l, (if x then u.event 0x2012 1 l else u).outline = u.outline := fun u x l => by
    split
    exacts [u.outline_event _ _ _, rfl]
  unfold State.cableBoundary
  extract_lets c moved mean c' _ t u delay stamping
  have hu : u.outline = s.outline := (hevent t moved _).trans rfl
  split
  exacts [hu, (State.outline_of_same rfl rfl).trans hu]

theorem State.outline_adminDone (s : State) (t : AdminTok) (st : Nat) (l : List (Nat × Bytes)) :
    (s.adminDone t st l).outline = s.outline :=
  State.adminDone_keeps State.outline (fun _ _ _ _ => rfl) s t st l

theorem State.outline_finishDestroys (s : State) : s.finishDestroys.outline = s.outline := by
  unfold State.finishDestroys
  refine (foldl_keeps State.outline _ (fun u w => u.outline_adminDone _ _ _) _ _).trans ?_
  exact State.outline_of_same rfl rfl

/-- Storing the words of a member set, or of several, moves nothing of the outline. -/
theorem State.outline_foldl_setReg (l : List Nat) (a v : State → Nat → Nat) (s : State) :
    (l.foldl (fun (u : State) w => u.setReg (a u w) (v u w)) s).outline = s.outline :=
  foldl_keeps State.outline (fun (u : State) w => u.setReg (a u w) (v u w)) (fun _ _ => rfl) l s

theorem State.outline_modMerge (s : State) (g : Nat) (f : MergeSt → MergeSt) : (s.modMerge g f).outline = s.outline := rfl

theorem State.outline_createMerge (s : State) (a : MergeArgs) (ream : Nat) : (s.createMerge a ream).outline = s.outline := by
  unfold State.createMerge
  refine (State.outline_modMerge _ _ _).trans ?_
  exact State.outline_foldl_setReg _ (fun _ w => Reg.mrgMembers a.group w) (fun _ w => memberWord a.members w) _

theorem State.outline_pruneReserved (s : State) : s.pruneReserved.outline = s.outline := rfl

theorem State.outline_applyMerge (s : State) (w : GroupWait) (ream : Nat) : (s.applyMerge w ream).outline = s.outline := by
  unfold State.applyMerge
  split
  · exact (State.outline_adminDone _ _ _ _).trans ((State.outline_event _ _ _ _).trans (s.outline_createMerge _ ream))
  · refine (State.outline_adminDone _ _ _ _).trans ?_
    exact (State.outline_pruneReserved _).trans (s.outline_modMerge _ _)
  · refine (State.outline_finishDestroys _).trans ?_
    refine Eq.trans ?_ ((State.outline_event _ 0x7003 1 []).trans
      ((State.outline_modMerge _ w.group fun m => { m with alive := false }).trans (s.outline_emitAll w.group flagWindowed)))
    exact State.outline_of_same rfl rfl
  · rfl

theorem State.outline_drainGroup (g n : Nat) (s : State) : (State.drainGroup g n s).outline = s.outline := by
  induction n generalizing s with
  | zero => rfl
  | succ n ih =>
    unfold State.drainGroup
    split
    · rfl
    · extract_lets pop
      split
      · exact (ih _).trans ((State.outline_emitDesc _ _ _ _).trans (s.outline_modMerge _ _))
      · split
        · exact (ih _).trans ((State.outline_emitDesc _ _ _ _).trans ((State.outline_modMerge _ _ _).trans (s.outline_modMerge _ _)))
        · rfl

theorem State.outline_evalGroups (s : State) : s.evalGroups.outline = s.outline :=
  foldl_keeps State.outline _ (fun u g => State.outline_drainGroup g _ u) _ s

theorem State.outline_mergeBoundary (s : State) (ream : Nat) (start : Stamp) : (s.mergeBoundary ream start).outline = s.outline := by
  unfold State.mergeBoundary
  refine (State.outline_evalGroups _).trans ((foldl_keeps State.outline _ (fun u g => ?_) _ _).trans
    ((foldl_keeps State.outline _ (fun u w => u.outline_applyMerge w ream) _ _).trans (State.outline_of_same rfl rfl)))
  dsimp only
  generalize (u.memberPorts (F.mrgMembers_ports g)).filter u.configured = ps
  have hwords := State.outline_foldl_setReg (List.range 3) (fun _ w => Reg.mrgMembers g w) (fun _ w => memberWord ps w) u
  split
  · rfl
  · generalize List.foldl _ u (List.range 3) = v at *
    split
    exacts [hwords, hwords]

/-! ### Release groups at the boundary -/

theorem State.outline_setAlign (s : State) (p a : Nat) : (s.setAlign p a).outline = s.outline := by
  unfold State.setAlign
  split
  · rfl
  extract_lets _ u
  have hu : u.outline = s.outline := rfl
  clear_value u
  split
  · exact (u.outline_event _ _ _).trans hu
  split
  exacts [(u.outline_event _ _ _).trans hu, hu]

theorem State.outline_refreshMember (s : State) (p ream : Nat) : (s.refreshMember p ream).outline = s.outline := by
  unfold State.refreshMember
  extract_lets group release
  clear_value group
  cases group with
  | none => exact State.outline_setAlign _ _ _
  | some g =>
    dsimp -zeta only
    extract_lets joined u
    have hu : u.outline = s.outline := rfl
    split
    · exact (u.outline_setAlign _ _).trans hu
    split
    · exact (u.outline_setAlign _ _).trans hu
    split
    exacts [(u.outline_setAlign _ _).trans hu, hu]

theorem State.outline_keepSlots (s : State) (g : Nat) : (s.keepSlots g).outline = s.outline := rfl

theorem State.outline_applyRelease (s : State) (w : GroupWait) (ream : Nat) : (s.applyRelease w ream).outline = s.outline := by
  unfold State.applyRelease
  refine (State.outline_adminDone _ _ _ _).trans ?_
  split
  · next a _ _ =>
    have hwords := State.outline_foldl_setReg (List.range 3) (fun _ w => Reg.relMembers a.group w) (fun _ w => memberWord a.members w)
      ((s.setReg (Reg.relGroupCfg a.group) (2 * a.latePolicy)).setReg (Reg.relHorizon a.group) a.horizonUs)
    dsimp only
    generalize List.foldl _ _ (List.range 3) = u at *
    exact hwords
  · dsimp only
    split
    exacts [rfl, rfl]
  · rfl

theorem State.outline_releaseBoundary (s : State) (ream : Nat) (start : Stamp) : (s.releaseBoundary ream start).outline = s.outline := by
  unfold State.releaseBoundary
  refine (foldl_keeps State.outline _ (fun u p => u.outline_refreshMember p ream) _ _).trans ?_
  refine (foldl_keeps State.outline _ (fun u g => ?_) _ _).trans ?_
  · exact State.outline_foldl_setReg (List.range 3) (fun _ w => Reg.relMembers g w)
      (fun _ w => memberWord ((u.memberPorts (F.relMembers_ports g)).filter u.configured) w) u
  · exact (foldl_keeps State.outline _ (fun u w => u.outline_applyRelease w ream) _ _).trans (State.outline_of_same rfl rfl)

/-! ### Units that rejoin at the boundary -/

theorem State.outline_setUnit (s : State) (k : UnitKind) (sl n : Nat) (u : UnitSt) : (s.setUnit k sl n u).outline = s.outline := rfl

theorem State.outline_moveUnit (s : State) (k : UnitKind) (sl n : Nat) (x : Service) (r : Nat) :
    (s.moveUnit k sl n x r).outline = s.outline := State.moveUnit_keeps State.outline (fun _ _ _ _ _ _ _ _ => rfl) s k sl n x r

theorem State.outline_serviceDone (s : State) (u : UnitRef) (st : Nat) : (s.serviceDone u st).outline = s.outline :=
  State.serviceDone_keeps State.outline (fun _ _ _ _ _ => rfl) s u st

theorem State.outline_startLink (s : State) (p : Nat) : (s.startLink p).outline = s.outline :=
  State.startLink_keeps State.outline (fun _ _ _ => rfl) s p

theorem State.outline_enterService (s : State) (u : UnitRef) (fence : Nat) : (s.enterService u fence).outline = s.outline := by
  unfold State.enterService
  refine (State.outline_serviceDone _ _ _).trans ?_
  dsimp only
  split
  · exact (State.outline_startLink _ _).trans ((State.outline_setUnit _ _ _ _ _).trans (s.outline_moveUnit _ _ _ _ _))
  · exact (State.outline_setUnit _ _ _ _ _).trans (s.outline_moveUnit _ _ _ _ _)

theorem State.outline_becomeSpare (s : State) (u : UnitRef) : (s.becomeSpare u).outline = s.outline := by
  unfold State.becomeSpare
  exact (State.outline_serviceDone _ _ _).trans ((State.outline_moveUnit _ _ _ _ _ _).trans (s.outline_setUnit _ _ _ _))

theorem State.outline_deckleSides (s : State) : s.deckleSides.outline = s.outline := by
  unfold State.deckleSides
  extract_lets a b _ u
  have hu : u.outline = s.outline := rfl
  clear_value u
  rw [← hu]
  split_ifs
  · rfl
  · rfl
  · refine (foldl_keeps State.outline _ (fun u g => u.outline_emitAll g flagLate) _ _).trans ?_
    exact (State.outline_event _ _ _ _).trans (State.outline_of_same rfl rfl)

theorem State.outline_rejoinUnit (s : State) (u : UnitRef) : (s.rejoinUnit u).outline = s.outline := by
  have hbuilder : ∀ (v : State) (active n : Nat), v.outline = s.outline →
      (if v.up .builderSide 0 active then v
        else { v with ldg := { v.ldg with builderB := decide (n = 1) } }).outline = s.outline := fun v active n hv => by
    split
    exacts [hv, hv]
  obtain ⟨k, sl, n⟩ := u
  unfold State.rejoinUnit
  dsimp only
  split
  · exact (State.outline_deckleSides _).trans (s.outline_enterService _ _)
  · exact hbuilder _ _ n (s.outline_enterService _ _)
  · split
    · refine (State.outline_enterService _ _ _).trans ?_
      split
      exacts [s.outline_becomeSpare _, rfl]
    · split
      exacts [(State.outline_enterService _ _ _).trans (s.outline_setUnit _ _ _ _), s.outline_becomeSpare _]

theorem State.outline_rejoinAll (s : State) : s.rejoinAll.outline = s.outline := by
  refine foldl_keeps State.outline _ (fun u x => ?_) _ s
  split
  exacts [u.outline_rejoinUnit x, rfl]

end Sys2Proof.Machine
end

section
/-! PROOFS. A step of the time base (R71, R93 to R95, R197, R198): the Ream in progress ends at the reading before it, the waits move with
it, and the next Ream begins at the reading after it. -/

namespace Sys2Proof.Machine

/-! ### The next Ream -/

/-- The state with the Ream of a number in progress. -/
def State.inReam (s : State) (n : Nat) (start : Stamp) (keyNew : Bool) : State :=
  { s with ldg := { s.ldg with cur := some (s.newReam n start keyNew false false) } }

/-- The values due at a boundary put in effect, before the Ream takes them over. -/
def State.valuesApplied (s : State) (n : Nat) (start : Stamp) : State :=
  let s := (s.leaveSets.applyReam start).applyKey.2.calBoundary n start
  s.portList.foldl (fun (s : State) p => s.cableBoundary p n) s

/-- A Ream begun, boundary by boundary. -/
theorem State.beginReam_eq (s : State) (n : Nat) (start : Stamp) : s.beginReam n start =
    if s.reservedOut n then s.exhausted
    else ((((s.valuesApplied n start).inReam n start (s.leaveSets.applyReam start).applyKey.1).checkRefuse.mergeBoundary n
      start).releaseBoundary n start).rejoinAll := rfl

theorem State.outline_valuesApplied (s : State) (n : Nat) (start : Stamp) : (s.valuesApplied n start).outline = s.outline := by
  unfold State.valuesApplied
  refine (foldl_keeps State.outline _ (fun u p => u.outline_cableBoundary p n) _ _).trans ?_
  rw [State.outline_calBoundary, State.outline_applyKey, State.outline_applyReam, State.outline_leaveSets]

theorem State.outline_exhausted (s : State) : s.exhausted.outline = s.outline :=
  (State.fatal_keeps State.outline (fun _ _ _ _ _ _ => rfl) _ 0x3010).trans (s.outline_event _ _ _)

/-- The Ream that begins has its number and begins at the boundary; the time base and the Reams before it stay. -/
theorem State.outline_beginReam {s : State} {n : Nat} (hreserved : s.reservedOut n = false) (start : Stamp) :
    (s.beginReam n start).outline = (s.tb, some (n, start), s.outline.2.2) := by
  have hin : ∀ (u : State) k, (u.inReam n start k).outline = (u.outline.1, some (n, start), u.outline.2.2) := fun _ _ => rfl
  rw [s.beginReam_eq, if_neg (by simp [hreserved]), State.outline_rejoinAll, State.outline_releaseBoundary,
    State.outline_mergeBoundary, State.outline_checkRefuse, hin, State.outline_valuesApplied]
  rfl

/-- Begun or refused by the reservation (R210), the Ream moves neither the time base nor the Reams that ended. -/
theorem State.outline_beginReam_rest (s : State) (n : Nat) (start : Stamp) :
    (s.beginReam n start).tb = s.tb ∧ (s.beginReam n start).outline.2.2 = s.outline.2.2 := by
  cases hreserved : s.reservedOut n with
  | false =>
    have hbegun := State.outline_beginReam hreserved start
    exact ⟨congrArg (fun o => o.1) hbegun, congrArg (fun o => o.2.2) hbegun⟩
  | true =>
    rw [s.beginReam_eq, if_pos hreserved]
    exact ⟨congrArg (fun o => o.1) s.outline_exhausted, congrArg (fun o => o.2.2) s.outline_exhausted⟩

/-! ### The step before it -/

/-- The Ream in progress ended by a step, and what the Deckle holds emitted (R93, R94). -/
def State.stepEnd (s : State) : State :=
  if s.ldg.cur.isSome then (s.endReam s.now true).stepDeckle (s.ream + 1) else s.endReam s.now true

/-- Every wait moved with the time (R95). -/
def State.waitsMoved (s : State) (d : Int) : State := ((s.moveTimeSide d).moveDataSide d).moveHostSide d

/-- The time copies moved as the time base is to move, what they read before remembered (R144, R152). -/
def State.copiesSet (s : State) (time : Nat) : State :=
  ({ s with stp := { s.stp with
    peak := (List.range 4).foldl (fun p k => max p (s.copyNow k)) s.stp.peak } }).moveCopies ((time : Int) - s.tb.time)

/-- The time base set to a value (R71): a phase correction ends, no step waits, and the step counts. -/
def State.clockSet (s : State) (time : Nat) : State :=
  let s := { s with tb := { s.tb with time, stepWait := none, stepCount := s.tb.stepCount + 1 } }
  s.setIncr s.tb.freq 0 0

/-- A step before the Ream after it begins. -/
def State.stepSet (s : State) (time : Nat) : State :=
  (((s.stepEnd.waitsMoved (((time / 65536 : Nat) : Int) - s.now)).copiesSet time).clockSet time).event 0x2002 2 []

theorem State.stepTime_eq (s : State) (time : Nat) : s.stepTime time =
    if s.ldg.cur.isSome then (s.stepSet time).beginReam (s.ream + 1) (s.stepSet time).now else s.stepSet time := rfl

theorem State.outline_stepEnd_idle {s : State} (h : s.ldg.cur = none) : s.stepEnd.outline = s.outline := by
  unfold State.stepEnd State.endReam
  rw [h]
  rfl

/-- The Ream in progress becomes one that ended at the reading, marked by the step. -/
theorem State.outline_stepEnd {s : State} {c : ReamSt} (h : s.ldg.cur = some c) : s.stepEnd.outline =
    (s.tb, none, (c.num, some s.now, true) :: s.outline.2.2.1, s.ldg.newestCkpt) := by
  have hend : (s.endReam s.now true).outline = (s.tb, none, (c.num, some s.now, true) :: s.outline.2.2.1, s.ldg.newestCkpt) := by
    unfold State.endReam
    rw [h]
    rfl
  unfold State.stepEnd
  rw [if_pos (by rw [h]; rfl), State.outline_stepDeckle, hend]

/-- What a move of the waits leaves: the frequency, the count of steps and the outline of the Reams. -/
theorem State.waitsMoved_facts (s : State) (d : Int) : (s.waitsMoved d).tb.freq = s.tb.freq ∧
    (s.waitsMoved d).tb.stepCount = s.tb.stepCount ∧ (s.waitsMoved d).outline.2 = s.outline.2 := by
  refine ⟨rfl, rfl, ?_⟩
  unfold State.waitsMoved State.moveHostSide State.moveDataSide State.moveTimeSide State.outline
  simp only [List.map_map, Function.comp_def]

theorem State.outline_copiesSet (s : State) (time : Nat) : (s.copiesSet time).outline = s.outline :=
  (foldl_keeps State.outline
    (fun (u : State) k => u.modDie k fun x => { x with copy := ((x.copy : Int) + ((time : Int) - s.tb.time)).toNat })
    (fun _ _ => rfl) _ _).trans rfl

/-- The clock set: it reads the value, its frequency stands, no phase is left to be slewed, and no step waits. -/
theorem State.clockSet_facts (s : State) (time : Nat) : (s.clockSet time).tb.time = time ∧
    (s.clockSet time).tb.stepCount = s.tb.stepCount + 1 ∧
    ((s.clockSet time).tb.freq = s.tb.freq ∧ (s.clockSet time).tb.slew = 0 ∧ (s.clockSet time).tb.phaseLeft = 0 ∧
      (s.clockSet time).tb.stepWait = none) ∧
    (s.clockSet time).outline.2 = s.outline.2 := ⟨rfl, rfl, ⟨rfl, rfl, rfl, rfl⟩, rfl⟩

theorem State.tb_stepEnd (s : State) : s.stepEnd.tb = s.tb := by
  cases hcur : s.ldg.cur with
  | none => exact congrArg (fun o => o.1) (State.outline_stepEnd_idle hcur)
  | some c => exact congrArg (fun o => o.1) (State.outline_stepEnd hcur)

/-- What a step sets, and that the Reams are as its end left them. -/
theorem State.stepSet_facts (s : State) (time : Nat) : (s.stepSet time).tb.time = time ∧
    (s.stepSet time).tb.stepCount = s.tb.stepCount + 1 ∧
    ((s.stepSet time).tb.freq = s.tb.freq ∧ (s.stepSet time).tb.slew = 0 ∧ (s.stepSet time).tb.phaseLeft = 0 ∧
      (s.stepSet time).tb.stepWait = none) ∧
    (s.stepSet time).outline.2 = s.stepEnd.outline.2 := by
  obtain ⟨hfreq, hcount, houtline⟩ := s.stepEnd.waitsMoved_facts (((time / 65536 : Nat) : Int) - s.now)
  unfold State.stepSet
  generalize s.stepEnd.waitsMoved (((time / 65536 : Nat) : Int) - s.now) = u at *
  have hcopies := u.outline_copiesSet time
  generalize u.copiesSet time = v at *
  have htb : v.tb = u.tb := congrArg (fun o => o.1) hcopies
  obtain ⟨hreads, hcounted, ⟨hfreq', hslew, hphase, hwait⟩, hset⟩ := v.clockSet_facts time
  generalize v.clockSet time = w at *
  have hevent := w.outline_event 0x2002 2 []
  have htb' : (w.event 0x2002 2 []).tb = w.tb := congrArg (fun o => o.1) hevent
  rw [htb', hevent, hset, hcopies, houtline, hreads, hcounted, hfreq', hslew, hphase, hwait, htb, hfreq, hcount, s.tb_stepEnd]
  simp

/-! ### The whole step -/

/-- After a step of an idle ledger no Ream is in progress. -/
theorem State.stepTime_idle {s : State} (h : s.ldg.cur = none) (time : Nat) : s.stepTime time = s.stepSet time := by
  rw [s.stepTime_eq, h]
  rfl

theorem State.stepTime_running {s : State} {c : ReamSt} (h : s.ldg.cur = some c) (time : Nat) :
    s.stepTime time = (s.stepSet time).beginReam (c.num + 1) (s.stepSet time).now := by
  have hream : s.ream = c.num := by
    unfold State.ream
    rw [h]
  rw [s.stepTime_eq, h, hream]
  rfl

/-- A reservation is that of the newest checkpoint. -/
theorem State.reservedOut_of_newestCkpt {s t : State} (h : t.ldg.newestCkpt = s.ldg.newestCkpt) (n : Nat) :
    t.reservedOut n = s.reservedOut n := by
  unfold State.reservedOut State.reservation
  rw [h]

/-- The time base after a step is that which the step sets, and so are the Reams that ended. -/
theorem State.stepTime_rest (s : State) (time : Nat) :
    (s.stepTime time).tb = (s.stepSet time).tb ∧ (s.stepTime time).outline.2.2 = s.stepEnd.outline.2.2 := by
  obtain ⟨-, -, -, hset⟩ := s.stepSet_facts time
  rw [← hset, s.stepTime_eq]
  split
  exacts [State.outline_beginReam_rest _ _ _, ⟨rfl, rfl⟩]

theorem State.stepped_stepTime (s : State) (time : Nat) : Stepped s (s.stepTime time) time := by
  obtain ⟨hreads, hcounted, hsteady, hset⟩ := s.stepSet_facts time
  obtain ⟨htb, hrest⟩ := s.stepTime_rest time
  refine ⟨htb ▸ hreads, htb ▸ hcounted, htb ▸ hsteady, fun c hcur => ?_, fun c hcur hfree => ?_⟩
  · have hended : (s.stepTime time).ldg.ended.map (fun r => (r.num, r.stop, r.step)) = (c.num, some s.now, true) :: s.outline.2.2.1 := by
      rw [State.outline_stepEnd hcur] at hrest
      exact congrArg (fun o => o.1) hrest
    obtain ⟨r, hr, hfields⟩ := List.mem_map.mp (hended ▸ List.mem_cons_self)
    obtain ⟨hnum, hstop, hstep⟩ : r.num = c.num ∧ r.stop = some s.now ∧ r.step = true := by simpa using hfields
    exact ⟨r, hr, hnum, hstop, hstep⟩
  · have hckpt : (s.stepSet time).ldg.newestCkpt = s.ldg.newestCkpt := by
      rw [State.outline_stepEnd hcur] at hset
      exact congrArg (fun o => o.2.2) hset
    have hbegun := State.outline_beginReam ((State.reservedOut_of_newestCkpt hckpt _).trans hfree) (s.stepSet time).now
    rw [← State.stepTime_running hcur] at hbegun
    have hcur' : (s.stepTime time).ldg.cur.map (fun n => (n.num, n.start)) = some (c.num + 1, (s.stepSet time).now) :=
      congrArg (fun o => o.2.1) hbegun
    obtain ⟨n, hn, hfields⟩ := Option.map_eq_some_iff.mp hcur'
    obtain ⟨hnum, hstart⟩ := Prod.mk.inj hfields
    refine ⟨n, hn, hnum, hstart.trans ?_⟩
    unfold State.now
    rw [htb]

end Sys2Proof.Machine
end

section
/-! PROOFS. TIME_STEP_AUTO, TIME_SET, TIME_ADJUST and TIME_STATUS (R89 to R92, R113 to R120, R838). -/

namespace Sys2Proof.Machine

/-! ### An automatic step (R89, R90, R92) -/

theorem exec_timeStepAuto {s : State} (h : Serving s) : exec .timeStepAuto s =
    match s.tb.stepWait with
    | none => .next s
    | some w => if !s.tb.running ∨ !s.mayStep ∨ s.stepHeld then .next s else .next (s.stepTime (s.timePlus w.delta)) :=
  whenWorking_of_serving h _

theorem timeStepAuto_waits {s : State} (h : Serving s) (hwait : s.tb.stepWait = none ∨ s.stepHeld = true) :
    exec .timeStepAuto s = .next s := by
  rw [exec_timeStepAuto h]
  obtain hnone | hheld := hwait
  · rw [hnone]
  · split
    · rfl
    · exact if_pos (.inr (.inr hheld))

theorem timeStepAuto_steps {s : State} (h : Serving s) {w : StepWait} (hwait : s.tb.stepWait = some w) (hrun : s.tb.running = true)
    (hmay : s.mayStep = true) (hfree : s.stepHeld = false) : exec .timeStepAuto s = .next (s.stepTime (s.timePlus w.delta)) := by
  rw [exec_timeStepAuto h, hwait]
  exact if_neg (by simp [hrun, hmay, hfree])

/-! ### TIME_SET (R92, R114, R115, R838) -/

theorem State.timeSet_locked {s : State} (h : s.tb.quality = .locked ∨ s.tb.quality = .holdover) (time : Nat) :
    s.timeSet false time = failWith s stNotPermitted := if_pos h

theorem State.timeSet_held {s : State} (hlocked : s.tb.quality ≠ .locked) (hholdover : s.tb.quality ≠ .holdover)
    (hheld : s.stepHeld = true) (time : Nat) : s.timeSet false time = failWith s stBusy := by
  simp [State.timeSet, hlocked, hholdover, hheld]

theorem State.timeSet_steps {s : State} (hlocked : s.tb.quality ≠ .locked) (hholdover : s.tb.quality ≠ .holdover)
    (hfree : s.stepHeld = false) (time : Nat) : s.timeSet false time = (s.stepTime time, some (stSuccess, [(48, stampLe s.now)])) := by
  simp [State.timeSet, hlocked, hholdover, hfree]

/-- The value that TIME_SET with MODE ABSOLUTE names, in units of 2^-32 ns. -/
def absoluteTime (sec ns frac : Nat) : Nat := (sec % 2 ^ 48 * 1000000000 + ns) * 2 ^ 32 + frac % 65536 * 65536

theorem exec_timeSetAbsolute_eq (r : AdminRef) (sec ns frac : Nat) (s : State) : exec (.timeSetAbsolute r sec ns frac) s =
    runAdmin true false r s fun s => s.timeSet (decide (1000000000 ≤ ns)) (absoluteTime sec ns frac) := rfl

theorem exec_timeSetAbsolute {ns : Nat} (h : ns < 1000000000) (r : AdminRef) (sec frac : Nat) (s : State) :
    exec (.timeSetAbsolute r sec ns frac) s = runAdmin true false r s fun s => s.timeSet false (absoluteTime sec ns frac) := by
  have hgood : decide (1000000000 ≤ ns) = false := by simpa using h
  rw [exec_timeSetAbsolute_eq, hgood]

theorem exec_timeSetRelative (r : AdminRef) (d : Int) (s : State) :
    exec (.timeSetRelative r d) s = runAdmin true false r s fun s => s.timeSet false (s.timePlus d) := rfl

section Opened

/-! What the start of a command leaves of the state that its body looks at. -/

variable (s : State) (r : AdminRef)

theorem State.now_adminOpen : (s.adminOpen r).now = s.now := s.adminOpen_keeps State.now (fun _ _ _ _ => rfl) r

theorem State.stepHeld_adminOpen : (s.adminOpen r).stepHeld = s.stepHeld := s.adminOpen_keeps State.stepHeld (fun _ _ _ _ => rfl) r

theorem State.timePlus_adminOpen (d : Int) : (s.adminOpen r).timePlus d = s.timePlus d :=
  s.adminOpen_keeps (State.timePlus · d) (fun _ _ _ _ => rfl) r

theorem State.fld_adminOpen (f : FieldRef) : (s.adminOpen r).fld f = s.fld f :=
  s.adminOpen_keeps (State.fld · f) (fun _ _ _ _ => rfl) r

theorem State.quality_adminOpen : (s.adminOpen r).tb.quality = s.tb.quality :=
  s.adminOpen_keeps (fun u => u.tb.quality) (fun _ _ _ _ => rfl) r

end Opened

section TimeSet

variable {s : State} {r : AdminRef} (h : PfStarts r s)
include h

theorem timeSetAbsolute_bad {ns : Nat} (hbad : 1000000000 ≤ ns) (sec frac : Nat) :
    exec (.timeSetAbsolute r sec ns frac) s = ends s r (s.adminOpen r) stInvalidField [] := by
  have hrefuses : (s.adminOpen r).timeSet (decide (1000000000 ≤ ns)) (absoluteTime sec ns frac) =
      failWith (s.adminOpen r) stInvalidField := if_pos (by simpa using hbad)
  exact (exec_timeSetAbsolute_eq r sec ns frac s).trans (runAdmin_completes_pf h hrefuses)

/-- A locked time base refuses a step. -/
theorem runAdmin_timeSet_locked (hq : s.tb.quality = .locked ∨ s.tb.quality = .holdover) (time : State → Nat) :
    (runAdmin true false r s fun s => s.timeSet false (time s)) = ends s r (s.adminOpen r) stNotPermitted [] :=
  runAdmin_completes_pf h (State.timeSet_locked (by rwa [State.quality_adminOpen]) _)

/-- A commit or a snapshot armed or draining holds a step off. -/
theorem runAdmin_timeSet_held (hlocked : s.tb.quality ≠ .locked) (hholdover : s.tb.quality ≠ .holdover) (hheld : s.stepHeld = true)
    (time : State → Nat) : (runAdmin true false r s fun s => s.timeSet false (time s)) = ends s r (s.adminOpen r) stBusy [] :=
  runAdmin_completes_pf h (State.timeSet_held (by rwa [State.quality_adminOpen]) (by rwa [State.quality_adminOpen])
    (by rwa [State.stepHeld_adminOpen]) _)

/-- Else the time base steps, and the answer is the reading before it. -/
theorem runAdmin_timeSet_steps (hlocked : s.tb.quality ≠ .locked) (hholdover : s.tb.quality ≠ .holdover) (hfree : s.stepHeld = false)
    (time : State → Nat) : (runAdmin true false r s fun s => s.timeSet false (time s)) =
      ends s r ((s.adminOpen r).stepTime (time (s.adminOpen r))) stSuccess [(48, stampLe s.now)] := by
  refine runAdmin_completes_pf h ?_
  rw [State.timeSet_steps (by rwa [State.quality_adminOpen]) (by rwa [State.quality_adminOpen]) (by rwa [State.stepHeld_adminOpen]),
    State.now_adminOpen]

end TimeSet

/-! ### TIME_ADJUST (R84, R116 to R119, R838) -/

theorem State.noteHint_beyondServo (s : State) (hint : Nat) :
    (s.noteHint hint).beyondServo = ({ s with tb := { s.tb with hint } } : State).beyondServo := by
  unfold State.noteHint
  split
  · next hsame =>
    subst hsame
    rfl
  · exact (State.event_beyondServo _ _ _ _).trans rfl

/-- The host's word: its instant and its hint, and what the sources make of it. -/
theorem State.hostSpoke_beyondSources (s : State) (hint : Nat) : (s.hostSpoke hint).beyondSources =
    ({ s with tb := { s.tb with hostAt := some s.now, hint } } : State).beyondSources := by
  unfold State.hostSpoke
  rw [State.refreshSources_beyondSources]
  exact State.beyondSources_of_beyondSelection (State.beyondSelection_of_beyondServo (State.noteHint_beyondServo _ hint))

theorem State.freq_setFreq (s : State) (f : Int) : (s.setFreq f).tb.freq = f := by
  unfold State.setFreq
  split
  · next hsame => exact hsame.symm
  · rfl

/-- The frequency that TIME_ADJUST names, where its mode names one (R116, R117). -/
def State.hostFreq (s : State) (mode : Nat) (freq : Int) : State := if mode.testBit 0 then s.setFreq (freqOf freq) else s

/-- The phase that TIME_ADJUST names, where its mode names one (R116, R118). -/
def State.hostPhase (s : State) (mode : Nat) (phase : Int) : State := if mode.testBit 1 then s.slewPhase (phase * 65536) else s

theorem State.hostAdjusts_eq (s : State) (mode : Nat) (freq phase offset : Int) : s.hostAdjusts mode freq phase offset =
    if ((s.hostFreq mode freq).hostPhase mode phase).onHostSource then
      ((s.hostFreq mode freq).hostPhase mode phase).measure offset false
    else (s.hostFreq mode freq).hostPhase mode phase := rfl

theorem State.hostFreq_beyondServo (s : State) (mode : Nat) (freq : Int) : (s.hostFreq mode freq).beyondServo = s.beyondServo := by
  unfold State.hostFreq
  split
  exacts [s.setFreq_beyondServo _, rfl]

theorem State.hostPhase_beyondServo (s : State) (mode : Nat) (phase : Int) : (s.hostPhase mode phase).beyondServo = s.beyondServo := by
  unfold State.hostPhase
  split
  exacts [s.slewPhase_beyondServo _, rfl]

theorem State.freq_hostPhase (s : State) (mode : Nat) (phase : Int) : (s.hostPhase mode phase).tb.freq = s.tb.freq := by
  unfold State.hostPhase
  split <;> rfl

/-- The host's corrections are the servo's matter. -/
theorem State.hostAdjusts_beyondServo (s : State) (mode : Nat) (freq phase offset : Int) :
    (s.hostAdjusts mode freq phase offset).beyondServo = s.beyondServo := by
  have hcorrected := (State.hostPhase_beyondServo _ mode phase).trans (s.hostFreq_beyondServo mode freq)
  rw [s.hostAdjusts_eq]
  split
  exacts [(State.measure_beyondServo _ _ _).trans hcorrected, hcorrected]

/-- The frequency is the one that was given. -/
theorem State.freq_hostAdjusts (s : State) {mode : Nat} (hmode : mode.testBit 0 = true) (freq phase offset : Int) :
    (s.hostAdjusts mode freq phase offset).tb.freq = freqOf freq := by
  have hgiven : ((s.hostFreq mode freq).hostPhase mode phase).tb.freq = freqOf freq := by
    rw [State.freq_hostPhase, State.hostFreq, if_pos hmode, State.freq_setFreq]
  rw [s.hostAdjusts_eq]
  split
  exacts [(State.freq_measure_host _ _).trans hgiven, hgiven]

/-- What TIME_ADJUST in FREE_RUN sets, and what it leaves. -/
theorem State.hostAdjusts_hostSpoke (s : State) (hint mode : Nat) (freq phase offset : Int) :
    ((s.hostSpoke hint).hostAdjusts mode freq phase offset).tb.hostAt = some s.now ∧
    ((s.hostSpoke hint).hostAdjusts mode freq phase offset).tb.hint = hint ∧
    ((s.hostSpoke hint).hostAdjusts mode freq phase offset).tb.time = s.tb.time ∧
    ((s.hostSpoke hint).hostAdjusts mode freq phase offset).coh = s.coh ∧
    ((s.hostSpoke hint).hostAdjusts mode freq phase offset).flow = s.flow := by
  have hadjusts := (State.beyondSources_of_beyondSelection (State.beyondSelection_of_beyondServo
    ((s.hostSpoke hint).hostAdjusts_beyondServo mode freq phase offset))).trans (s.hostSpoke_beyondSources hint)
  generalize (s.hostSpoke hint).hostAdjusts mode freq phase offset = u at *
  exact ⟨(congrArg (fun x : State × (Nat → Nat) => x.1.tb.hostAt) hadjusts :),
    (congrArg (fun x : State × (Nat → Nat) => x.1.tb.hint) hadjusts :),
    (congrArg (fun x : State × (Nat → Nat) => x.1.tb.time) hadjusts :),
    (congrArg (fun x : State × (Nat → Nat) => x.1.coh) hadjusts :),
    (congrArg (fun x : State × (Nat → Nat) => x.1.flow) hadjusts :)⟩

/-- Whether a source of TYPE HOST takes part. -/
def State.hostTakesPart (s : State) : Bool :=
  (List.range 16).any fun n => decide (s.fld (F.tbSrcCfg_enable n) = 1 ∧ s.srcType n = 5)

/-- What TIME_ADJUST does once its command has started. -/
def State.timeAdjust (s : State) (mode hint : Nat) (freq phase offset : Int) : AdminRes :=
  if 4 ≤ mode ∨ 2 ≤ hint ∨ maxFreq < freq.natAbs then failWith s stInvalidField
  else if s.tb.quality ≠ .freeRun ∧ s.hostTakesPart = false then failWith s stNotPermitted
  else
    let q := s.tb.quality
    let s := s.hostSpoke hint
    if q = .freeRun ∨ s.onHostSource = true then
      let s := s.hostAdjusts mode freq phase offset
      (s, some (stSuccess, [(48, le 8 s.remaining)]))
    else (s, some (stSuccess, [(48, le 8 0)]))

theorem exec_timeAdjust (r : AdminRef) (mode hint : Nat) (freq phase offset : Int) (s : State) :
    exec (.timeAdjust r mode hint freq phase offset) s = runAdmin true false r s (State.timeAdjust · mode hint freq phase offset) := rfl

theorem State.hostTakesPart_eq_false {s : State} (h : ∀ n < 16, s.fld (F.tbSrcCfg_enable n) ≠ 1 ∨ s.srcType n ≠ 5) :
    s.hostTakesPart = false := by
  unfold State.hostTakesPart
  rw [List.any_eq_false]
  intro n hn
  have hoff := h n (List.mem_range.mp hn)
  simpa [← not_and_or] using hoff

section TimeAdjust

variable {mode hint : Nat} {freq : Int} (s : State) (phase offset : Int)

theorem State.timeAdjust_bad (hbad : 4 ≤ mode ∨ 2 ≤ hint ∨ 500000000 < freq.natAbs) :
    s.timeAdjust mode hint freq phase offset = failWith s stInvalidField := if_pos hbad

variable (hmode : mode < 4) (hhint : hint < 2) (hfreq : freq.natAbs ≤ 500000000)
include hmode hhint hfreq

/-- No source of TYPE HOST takes part, and the servo does not run free. -/
theorem State.timeAdjust_refused (hq : s.tb.quality ≠ .freeRun) (hnone : s.hostTakesPart = false) :
    s.timeAdjust mode hint freq phase offset = failWith s stNotPermitted := by
  have hranges : ¬(4 ≤ mode ∨ 2 ≤ hint ∨ 500000000 < freq.natAbs) := by omega
  exact (if_neg hranges).trans (if_pos ⟨hq, hnone⟩)

theorem State.timeAdjust_freeRun (hq : s.tb.quality = .freeRun) : s.timeAdjust mode hint freq phase offset =
    ((s.hostSpoke hint).hostAdjusts mode freq phase offset,
      some (stSuccess, [(48, le 8 ((s.hostSpoke hint).hostAdjusts mode freq phase offset).remaining)])) := by
  have hranges : ¬(4 ≤ mode ∨ 2 ≤ hint ∨ 500000000 < freq.natAbs) := by omega
  exact (if_neg hranges).trans ((if_neg fun hlocked => hlocked.1 hq).trans (if_pos (.inl hq)))

end TimeAdjust

/-! ### TIME_STATUS (R120) -/

/-- The answer of TIME_STATUS, cut before and after the time. -/
def State.statusHead (s : State) : Bytes :=
  le 1 s.tb.quality.code ++ le 1 (s.tb.active.getD 0xFF) ++ le 1 s.activeType ++ le 1 s.frefIdx

/-- What follows the time. -/
def State.statusTail (s : State) : Bytes :=
  le 4 (s.view Reg.tbFreqOffset) ++ le 4 (s.view Reg.tbPhaseOffset) ++ le 4 s.holdoverS ++ le 4 s.estError ++
    le 2 (s.fld F.tbUtc_offset) ++ le 1 s.leapBits ++ le 1 s.clockClass ++ le 8 s.remaining

theorem length_stampLe (t : Stamp) : (stampLe t).length = 12 := by simp [stampLe]

/-- The answer to TIME_STATUS. -/
def State.statusBytes (s : State) : Bytes := s.statusHead ++ (le 4 s.tb.stepCount ++ (stampLe s.now ++ s.statusTail))

theorem exec_timeStatus (r : AdminRef) (s : State) :
    exec (.timeStatus r) s = runAdmin true false r s fun s => (s, some (stSuccess, [(16, s.statusBytes)])) := by
  have hbody : exec (.timeStatus r) s = runAdmin true false r s fun s => (s, some (stSuccess, [(16,
      s.statusHead ++ le 4 s.tb.stepCount ++ stampLe s.now ++ le 4 (s.view Reg.tbFreqOffset) ++ le 4 (s.view Reg.tbPhaseOffset) ++
      le 4 s.holdoverS ++ le 4 s.estError ++ le 2 (s.fld F.tbUtc_offset) ++ le 1 s.leapBits ++ le 1 s.clockClass ++
      le 8 s.remaining)])) := rfl
  rw [hbody]
  simp only [State.statusBytes, State.statusTail, List.append_assoc]

theorem State.length_statusBytes (s : State) : s.statusBytes.length = 48 := by
  simp [State.statusBytes, State.statusHead, State.statusTail, length_stampLe]

theorem State.take_statusBytes (s : State) : s.statusBytes.take 4 = s.statusHead := List.take_left' (by simp [State.statusHead])

theorem State.stamp_statusBytes (s : State) : (s.statusBytes.drop 8).take 12 = stampLe s.now := by
  have hcut : s.statusBytes = (s.statusHead ++ le 4 s.tb.stepCount) ++ (stampLe s.now ++ s.statusTail) := by
    simp only [State.statusBytes, List.append_assoc]
  rw [hcut, List.drop_left' (by simp [State.statusHead]), List.take_left' (length_stampLe _)]

section TimeSetForms

variable {s : State} {r : AdminRef} (h : PfStarts r s)
include h

/-- TIME_SET in all its forms that are locked out, held off or let through. -/
theorem exec_timeSet_locked (hq : s.tb.quality = .locked ∨ s.tb.quality = .holdover) :
    (∀ sec ns frac, ns < 1000000000 → exec (.timeSetAbsolute r sec ns frac) s = ends s r (s.adminOpen r) stNotPermitted []) ∧
    ∀ d, exec (.timeSetRelative r d) s = ends s r (s.adminOpen r) stNotPermitted [] := by
  refine ⟨fun sec ns frac hns => ?_, fun d => ?_⟩
  · rw [exec_timeSetAbsolute hns]
    exact runAdmin_timeSet_locked h hq _
  · rw [exec_timeSetRelative]
    exact runAdmin_timeSet_locked h hq _

variable (hlocked : s.tb.quality ≠ .locked) (hholdover : s.tb.quality ≠ .holdover)
include hlocked hholdover

theorem exec_timeSet_held (hheld : s.stepHeld = true) :
    (∀ sec ns frac, ns < 1000000000 → exec (.timeSetAbsolute r sec ns frac) s = ends s r (s.adminOpen r) stBusy []) ∧
    ∀ d, exec (.timeSetRelative r d) s = ends s r (s.adminOpen r) stBusy [] := by
  refine ⟨fun sec ns frac hns => ?_, fun d => ?_⟩
  · rw [exec_timeSetAbsolute hns]
    exact runAdmin_timeSet_held h hlocked hholdover hheld _
  · rw [exec_timeSetRelative]
    exact runAdmin_timeSet_held h hlocked hholdover hheld _

theorem exec_timeSet_steps (hfree : s.stepHeld = false) :
    (∀ sec ns frac, ns < 1000000000 → ∃ u, exec (.timeSetAbsolute r sec ns frac) s = ends s r u stSuccess [(48, stampLe s.now)] ∧
      Stepped (s.adminOpen r) u (absoluteTime sec ns frac)) ∧
    ∀ d, ∃ u, exec (.timeSetRelative r d) s = ends s r u stSuccess [(48, stampLe s.now)] ∧
      Stepped (s.adminOpen r) u (s.timePlus d) := by
  refine ⟨fun sec ns frac hns => ⟨_, ?_, State.stepped_stepTime _ _⟩, fun d => ⟨_, ?_, State.stepped_stepTime _ _⟩⟩
  · rw [exec_timeSetAbsolute hns]
    exact runAdmin_timeSet_steps h hlocked hholdover hfree _
  · rw [exec_timeSetRelative, ← s.timePlus_adminOpen r]
    exact runAdmin_timeSet_steps h hlocked hholdover hfree (State.timePlus · d)

end TimeSetForms

section Adjusts

variable {s : State} {r : AdminRef} (h : PfStarts r s) {mode hint : Nat} {freq : Int} (phase offset : Int)
include h

theorem exec_timeAdjust_bad (hbad : 4 ≤ mode ∨ 2 ≤ hint ∨ 500000000 < freq.natAbs) :
    exec (.timeAdjust r mode hint freq phase offset) s = ends s r (s.adminOpen r) stInvalidField [] := by
  rw [exec_timeAdjust]
  exact runAdmin_completes_pf h (State.timeAdjust_bad _ phase offset hbad)

variable (hmode : mode < 4) (hhint : hint < 2) (hfreq : freq.natAbs ≤ 500000000)
include hmode hhint hfreq

theorem exec_timeAdjust_refused (hq : s.tb.quality ≠ .freeRun) (hnone : ∀ n < 16, s.fld (F.tbSrcCfg_enable n) ≠ 1 ∨ s.srcType n ≠ 5) :
    exec (.timeAdjust r mode hint freq phase offset) s = ends s r (s.adminOpen r) stNotPermitted [] := by
  have hhost : (s.adminOpen r).hostTakesPart = false :=
    (s.adminOpen_keeps State.hostTakesPart (fun _ _ _ _ => rfl) r).trans (State.hostTakesPart_eq_false hnone)
  have hq' : (s.adminOpen r).tb.quality ≠ .freeRun := by rwa [State.quality_adminOpen]
  rw [exec_timeAdjust]
  exact runAdmin_completes_pf h (State.timeAdjust_refused _ phase offset hmode hhint hfreq hq' hhost)

theorem exec_timeAdjust_freeRun (hq : s.tb.quality = .freeRun) : ∃ u, exec (.timeAdjust r mode hint freq phase offset) s =
      ends s r u stSuccess [(48, le 8 u.remaining)] ∧
    u.tb.hostAt = some s.now ∧ u.tb.hint = hint ∧ u.tb.time = s.tb.time ∧
    (mode.testBit 0 = true → u.tb.freq = freqOf freq) ∧ u.coh = s.coh ∧ u.flow = s.flow := by
  obtain ⟨hhostAt, hhint', htime, hcoh, hflow⟩ := (s.adminOpen r).hostAdjusts_hostSpoke hint mode freq phase offset
  obtain ⟨-, -, -, -, -, -, hcoh', -, htb, -, -, -, -, -, -, -, hflow', -⟩ := s.adminOpen_frame r
  refine ⟨_, ?_, hhostAt.trans (congrArg some (s.now_adminOpen r)), hhint', htime.trans (congrArg TimeBase.time htb),
    fun hbit => State.freq_hostAdjusts _ hbit freq phase offset, hcoh.trans hcoh', hflow.trans hflow'⟩
  rw [exec_timeAdjust]
  exact runAdmin_completes_pf h (State.timeAdjust_freeRun _ phase offset hmode hhint hfreq ((s.quality_adminOpen r).trans hq))

end Adjusts

theorem exec_timeStatus_answer {s : State} {r : AdminRef} (h : PfStarts r s) :
    ∃ b, exec (.timeStatus r) s = ends s r (s.adminOpen r) stSuccess [(16, b)] ∧ b.length = 48 ∧ b.take 4 = s.statusHead ∧
      (b.drop 8).take 12 = stampLe s.now := by
  have hhead : (s.adminOpen r).statusHead = s.statusHead := s.adminOpen_keeps State.statusHead (fun _ _ _ _ => rfl) r
  refine ⟨(s.adminOpen r).statusBytes, ?_, State.length_statusBytes _, (State.take_statusBytes _).trans hhead,
    (State.stamp_statusBytes _).trans (congrArg stampLe (s.now_adminOpen r))⟩
  rw [exec_timeStatus]
  exact runAdmin_completes_pf h rfl

/-- Settles O42: a step is set against the outline of the time base and its Reams, which all that a boundary does leaves alone. -/
theorem timeCommands : Obligations.TimeCommands := by
  unfold Obligations.TimeCommands
  refine ⟨fun s h => ⟨timeStepAuto_waits h, fun w hwait hrun hmay hfree =>
    ⟨_, timeStepAuto_steps h hwait hrun hmay hfree, s.stepped_stepTime _⟩⟩, fun s r h => ?_⟩
  exact ⟨fun sec ns frac hbad => timeSetAbsolute_bad h hbad sec frac, exec_timeSet_locked h, exec_timeSet_held h, exec_timeSet_steps h,
    fun mode hint freq phase offset => ⟨exec_timeAdjust_bad h phase offset, fun hmode hhint hfreq =>
      ⟨exec_timeAdjust_refused h phase offset hmode hhint hfreq, exec_timeAdjust_freeRun h phase offset hmode hhint hfreq⟩⟩,
    exec_timeStatus_answer h⟩

end Sys2Proof.Machine
end

section
/-! PROOFS. Calender passes, the staleness of calibration and measured cable delays (R146 to R149, R154, R162, R227). -/

namespace Sys2Proof.Machine

/-! ### The start of a pass (R146) -/

theorem exec_calenderPass {s : State} (h : Serving s) (die : Nat) : exec (.calenderPass die) s =
    if 4 ≤ die ∨ !s.tb.running ∨ (s.die die).inPass ∨ !((s.die die).passAt.all fun t => decide (t + 99 * msStamp ≤ s.now)) then .next s
    else .next (s.modDie die fun x => { x with inPass := true, passAt := some s.now }) :=
  whenWorking_of_serving h _

theorem exec_calenderPass_early {s : State} (h : Serving s) {die : Nat}
    (hout : 4 ≤ die ∨ s.tb.running = false ∨ (s.die die).inPass = true ∨
      ∃ x, (s.die die).passAt = some x ∧ s.now < x + 99 * msStamp) : exec (.calenderPass die) s = .next s := by
  rw [exec_calenderPass h, if_pos]
  rcases hout with hdie | hstill | hin | ⟨x, hlast, hearly⟩
  · exact .inl hdie
  · simp [hstill]
  · simp [hin]
  · have hall : (s.die die).passAt.all (fun t => decide (t + 99 * msStamp ≤ s.now)) = false := by
      rw [hlast, Option.all_some]
      exact decide_eq_false (Nat.not_le.mpr hearly)
    simp [hall]

theorem exec_calenderPass_starts {s : State} (h : Serving s) {die : Nat} (hdie : die < 4) (hruns : s.tb.running = true)
    (hin : (s.die die).inPass = false) (hdue : ∀ x, (s.die die).passAt = some x → x + 99 * msStamp ≤ s.now) :
    exec (.calenderPass die) s = .next (s.modDie die fun x => { x with inPass := true, passAt := some s.now }) := by
  rw [exec_calenderPass h, if_neg]
  simpa [hruns, hin, Option.all_eq_true] using ⟨hdie, hdue⟩

/-! ### The check of a result (R148) -/

/-- The first failure at one rate, as rate and reason. -/
def rateFailure (c : CalResult) (r : Nat) : Option (Nat × Nat) :=
  if !c.locks.getD r false then some (r, 1)
  else if 2048 < (c.rx.getD r 0).natAbs then some (r, 2)
  else if 2048 < (c.tx.getD r 0).natAbs then some (r, 3)
  else none

theorem passFailure_eq (c : CalResult) : passFailure c =
    ((List.range 5).findSome? (rateFailure c) <|> if 131072 < c.ofs.natAbs then some (0xFF, 4) else none) := rfl

theorem rateFailure_eq_none_iff (c : CalResult) (r : Nat) : rateFailure c r = none ↔
    c.locks.getD r false = true ∧ (c.rx.getD r 0).natAbs ≤ 2048 ∧ (c.tx.getD r 0).natAbs ≤ 2048 := by
  unfold rateFailure
  split_ifs <;> simp_all

theorem reason_rateFailure {c : CalResult} {r : Nat} {x : Nat × Nat} (h : rateFailure c r = some x) : 1 ≤ x.2 ∧ x.2 ≤ 3 := by
  unfold rateFailure at h
  split_ifs at h <;> cases h <;> simp

/-- A result is accepted just when every rate locked and neither a delta nor the offset exceeds 2 ns. -/
theorem passFailure_eq_none_iff (c : CalResult) : passFailure c = none ↔
    (∀ r < 5, c.locks.getD r false = true ∧ (c.rx.getD r 0).natAbs ≤ 2048 ∧ (c.tx.getD r 0).natAbs ≤ 2048) ∧
      c.ofs.natAbs ≤ 131072 := by
  simp [passFailure_eq, rateFailure_eq_none_iff]

theorem reason_passFailure {c : CalResult} {x : Nat × Nat} (h : passFailure c = some x) : 1 ≤ x.2 ∧ x.2 ≤ 4 := by
  rw [passFailure_eq, Option.orElse_eq_some] at h
  rcases h with hrate | ⟨-, hofs⟩
  · obtain ⟨r, -, hr⟩ := List.exists_of_findSome?_eq_some hrate
    obtain ⟨hlow, hhigh⟩ := reason_rateFailure hr
    exact ⟨hlow, Nat.le_succ_of_le hhigh⟩
  · split_ifs at hofs
    cases hofs
    decide

/-! ### Staleness (R154, R227) -/

theorem State.staleNow_iff (s : State) : s.staleNow = true ↔ ∃ d < 4, (s.die d).everApplied = false ∨
    ∀ x, (s.die d).doneAt = some x → x + s.fld F.stpCtrl_staleMs * msStamp < s.now := by
  simp only [State.staleNow, List.any_eq_true, List.mem_range, Bool.or_eq_true, Bool.not_eq_true']
  refine exists_congr fun d => and_congr_right fun _ => or_congr_right ?_
  cases (s.die d).doneAt <;> simp

/-- The event of calibration that goes stale. -/
def State.noteStale (s : State) : State := if s.staleNow ∧ s.stp.stale = false then s.event 0x2011 2 [] else s

theorem State.checkStale_eq (s : State) : s.checkStale = { s.noteStale with
    stp := { s.noteStale.stp with stale := s.staleNow }
    ldg := { s.noteStale.ldg with
      cur := s.noteStale.ldg.cur.map fun (c : ReamSt) => { c with stale := c.stale || s.staleNow } } } := rfl

theorem State.noteStale_keeps {β : Sort _} (obs : State → β)
    (h : ∀ (s : State) x0 x1 x2, obs { s with evr := x0, out := x1, ctr := x2 } = obs s) (s : State) :
    obs s.noteStale = obs s := by
  unfold State.noteStale
  split
  · exact State.event_keeps obs (fun u x0 x1 x2 => h u x0 x1 x2) s _ _ _
  · rfl

theorem State.checkStale_keeps {β : Sort _} (obs : State → β)
    (h : ∀ (s : State) x0 x1 x2 x3 x4, obs { s with stp := x0, ldg := x1, evr := x2, out := x3, ctr := x4 } = obs s) (s : State) :
    obs s.checkStale = obs s := by
  rw [State.checkStale_eq]
  exact (h s.noteStale _ _ _ _ _).trans (s.noteStale_keeps obs fun u => h u u.stp u.ldg)

theorem State.checkStale_frame (s : State) : s.checkStale = { s with
    stp := s.checkStale.stp, ldg := s.checkStale.ldg, evr := s.checkStale.evr, ctr := s.checkStale.ctr, out := s.checkStale.out } :=
  State.checkStale_keeps (fun u => { u with
    stp := s.checkStale.stp, ldg := s.checkStale.ldg, evr := s.checkStale.evr, ctr := s.checkStale.ctr, out := s.checkStale.out })
    (fun _ _ _ _ _ _ => rfl) s

/-- Of the stamping unit, the check changes the mark alone. -/
theorem State.stp_checkStale (s : State) : s.checkStale.stp = { s.stp with stale := s.staleNow } := by
  have hstp : s.noteStale.stp = s.stp := s.noteStale_keeps State.stp fun _ _ _ _ => rfl
  rw [State.checkStale_eq, hstp]

theorem State.die_checkStale (s : State) (d : Nat) : s.checkStale.die d = s.die d := by
  simp [State.die, State.stp_checkStale]

/-- The Ream in progress takes the mark and keeps one that it has. -/
theorem State.cur_checkStale (s : State) :
    s.checkStale.ldg.cur = s.ldg.cur.map fun (c : ReamSt) => { c with stale := c.stale || s.staleNow } := by
  have hldg : s.noteStale.ldg = s.ldg := s.noteStale_keeps State.ldg fun _ _ _ _ => rfl
  rw [State.checkStale_eq, hldg]

theorem State.evr_checkStale {s : State} (hnow : s.staleNow = true) (hbefore : s.stp.stale = false) :
    s.checkStale.evr = (s.event 0x2011 2 []).evr := by
  rw [State.checkStale_eq, State.noteStale, if_pos ⟨hnow, hbefore⟩]

/-! ### The end of a pass (R148, R149) -/

/-- The values of a result, one for each rate. -/
def resultVals (c : CalResult) : CalVals :=
  { ofs := c.ofs, rx := (List.range 5).map fun r => c.rx.getD r 0, tx := (List.range 5).map fun r => c.tx.getD r 0 }

theorem length_rx_resultVals (c : CalResult) : (resultVals c).rx.length = 5 := by simp [resultVals]

theorem getD_resultVals (c : CalResult) {r : Nat} (hr : r < 5) :
    (resultVals c).rx.getD r 0 = c.rx.getD r 0 ∧ (resultVals c).tx.getD r 0 = c.tx.getD r 0 := by
  simp [resultVals, hr]

/-- A die at the end of its pass with an accepted result, which waits for a Ream boundary. -/
def State.acceptResult (s : State) (die : Nat) (c : CalResult) : State :=
  s.modDie die fun x => { x with
    inPass := false, pilotFail := !((List.range 5).all fun r => c.locks.getD r false), doneAt := some s.now
    results := (s.now, resultVals c) :: x.results }

/-- A die at the end of its pass with a result refused. -/
def State.refuseResult (s : State) (die : Nat) (c : CalResult) : State :=
  s.modDie die fun x => { x with
    inPass := false, rejects := x.rejects + 1, pilotFail := !((List.range 5).all fun r => c.locks.getD r false) }

section PassComplete

variable {s : State} (h : Serving s) {die : Nat} {c : CalResult}
include h

theorem exec_calenderPassComplete_unasked (hout : 4 ≤ die ∨ (s.die die).inPass = false) :
    exec (.calenderPassComplete die c) s = .next s :=
  (whenWorking_of_serving h _).trans (if_pos (by simpa using hout))

variable (hdie : die < 4) (hin : (s.die die).inPass = true)
include hdie hin

theorem exec_calenderPassComplete : exec (.calenderPassComplete die c) s =
    match passFailure c with
    | some (rate, reason) => .next ((s.refuseResult die c).event 0x2010 2 [.q die, .q rate, .q reason])
    | none => .next (s.acceptResult die c).checkStale := by
  refine (whenWorking_of_serving h _).trans (if_neg (?_ : ¬(4 ≤ die ∨ (!(s.die die).inPass) = true)))
  simpa [hin] using hdie

theorem exec_calenderPassComplete_accepted (hgood : passFailure c = none) :
    exec (.calenderPassComplete die c) s = .next (s.acceptResult die c).checkStale := by
  rw [exec_calenderPassComplete h hdie hin, hgood]

theorem exec_calenderPassComplete_refused (hbad : passFailure c ≠ none) : ∃ e k, 1 ≤ k ∧ k ≤ 4 ∧
    exec (.calenderPassComplete die c) s = .next ((s.refuseResult die c).event 0x2010 2 [.q die, .q e, .q k]) := by
  obtain ⟨⟨e, k⟩, hfail⟩ := Option.ne_none_iff_exists'.mp hbad
  obtain ⟨hlow, hhigh⟩ := reason_passFailure hfail
  exact ⟨e, k, hlow, hhigh, by rw [exec_calenderPassComplete h hdie hin, hfail]⟩

end PassComplete

/-! ### Cable delays (R162) -/

section Cable

variable {s : State} (h : Serving s) {port : Nat} {c : CableSt} (hc : s.stp.cables.getD port CableSt.init = c)
include h hc

theorem exec_cableMeasTimeout : exec (.cableMeasTimeout port) s =
    if c.valid ∧ c.lastAt + 10 * secStamp ≤ s.now then
      .next ((s.setCable port { c with valid := false, pending := none }).event 0x2013 1 [])
    else .next s := by
  subst hc
  exact whenWorking_of_serving h _

end Cable

/-- Settles O44: what a pass, its end, the check for staleness and a timeout each do, by the lemma on each; the check leaves every die. -/
theorem calibrationPasses : Obligations.CalibrationPasses := by
  unfold Obligations.CalibrationPasses
  intro s h
  refine ⟨fun die => ⟨exec_calenderPass_early h, fun hdie hruns hin hdue => ?starts⟩,
    fun die c => ⟨exec_calenderPassComplete_unasked h, fun hdie hin => ⟨fun hrates hofs => ?accepted, fun hbad => ?refused⟩⟩, ?stale,
    fun port c hc => ⟨fun hout => ?fresh, fun hvalid hdue => ?lost⟩⟩
  case starts =>
    exact ⟨_, exec_calenderPass_starts h hdie hruns hin hdue, s.die_modDie_self _ _, fun d hd => s.die_modDie_ne hd _, rfl⟩
  case accepted =>
    refine ⟨_, resultVals c, exec_calenderPassComplete_accepted h hdie hin ((passFailure_eq_none_iff c).mpr ⟨hrates, hofs⟩), ?_⟩
    have hframe := (s.acceptResult die c).checkStale_frame
    have hd := (State.die_checkStale (s.acceptResult die c) die).trans (s.die_modDie_self die _)
    generalize (s.acceptResult die c).checkStale = t at hframe hd ⊢
    rw [hd]
    exact ⟨rfl, rfl, length_rx_resultVals c, fun r hr => getD_resultVals c hr, rfl, rfl, rfl, hframe⟩
  case refused =>
    have hfail : passFailure c ≠ none := by
      rw [ne_eq, passFailure_eq_none_iff]
      rintro ⟨hrates, hofs⟩
      rcases hbad with hfar | ⟨r, hr, hrate⟩
      · omega
      · obtain ⟨hlock, hrx, htx⟩ := hrates r hr
        rcases hrate with hlost | hfar | hfar
        · exact Bool.false_ne_true (hlost.symm.trans hlock)
        all_goals omega
    obtain ⟨e, k, hlow, hhigh, hexec⟩ := exec_calenderPassComplete_refused h hdie hin hfail
    have hd : (s.refuseResult die c).die die = _ := s.die_modDie_self die _
    refine ⟨(s.refuseResult die c).stp, k, e, hlow, hhigh, hexec, rfl, hd.trans ?_⟩
    rw [show (s.refuseResult die c).stp.dies.getD die DieCal.init = _ from hd]
  case stale =>
    have hframe := s.checkStale_frame
    have hstp := s.stp_checkStale
    have hcur := s.cur_checkStale
    have hevr := State.evr_checkStale (s := s)
    refine ⟨s.checkStale, whenWorking_of_serving h _, ?_⟩
    generalize s.checkStale = t at *
    have hmark : t.stp.stale = s.staleNow := by rw [hstp]
    rw [hmark]
    exact ⟨hstp, s.staleNow_iff, fun c hc => ⟨{ c with stale := c.stale || s.staleNow }, by rw [hcur, hc]; rfl, rfl⟩, hevr, hframe⟩
  case fresh =>
    rw [exec_cableMeasTimeout h hc, if_neg]
    rintro ⟨hvalid, hdue⟩
    rcases hout with hnone | hearly
    · exact Bool.false_ne_true (hnone.symm.trans hvalid)
    · exact Nat.not_lt.mpr hdue hearly
  case lost =>
    exact (exec_cableMeasTimeout h hc).trans (if_pos ⟨hvalid, hdue⟩)

end Sys2Proof.Machine
end

section
/-! PROOFS. FRAME_RECEIVED and UNDECODABLE_START (R23, R137 to R139, R186, R188, R199, R333 to R335, R352): a frame at a port as far as
the ingress FIFO. -/

namespace Sys2Proof.Machine

/-! ### SA commands leave the rest of their port alone (R345, R346) -/

/-- A change of a port that touches only its SAs and the commands on them. -/
def KeepsButSas (f : PortSt → PortSt) : Prop := ∀ x, ∃ tx rx ops, f x = { x with txSas := tx, rxSas := rx, saOps := ops }

section SaOps

variable {β : Sort _} (obs : State → β) (p : Nat) (hreg : ∀ (u : State) j, j < 14 → obs (u.setReg (Reg.portMsecKey p 0 + 4 * j) 0) = obs u)
  (hport : ∀ (u : State) f, KeepsButSas f → obs (u.modPort p f) = obs u)
include hreg hport

omit hport in
theorem State.clearSaRegs_keeps_others (s : State) : obs (s.clearSaRegs p) = obs s := by
  unfold State.clearSaRegs
  exact List.foldlRecOn (motive := fun u => obs u = obs s) _ _ rfl fun u hu j hj => (hreg u j (List.mem_range.mp hj)).trans hu

theorem State.applySaOp_keeps_others (s : State) (o : SaOp) : obs (s.applySaOp p o) = obs s := by
  have hput : ∀ f : PortSt → PortSt, KeepsButSas f → obs (s.modPort p f) = obs s := hport s
  unfold State.applySaOp
  dsimp only
  split
  · refine (State.clearSaRegs_keeps_others obs p hreg _).trans (hput _ fun x => ?_)
    split
    exacts [⟨_, _, _, rfl⟩, ⟨_, _, _, rfl⟩]
  · refine hput _ fun x => ?_
    split
    exacts [⟨_, _, _, rfl⟩, ⟨_, _, _, rfl⟩]

theorem State.applySaOps_keeps_others (s : State) (due : SaOp → Bool) : obs (s.applySaOps p due) = obs s :=
  (foldl_keeps obs _ (State.applySaOp_keeps_others obs p hreg hport) _ _).trans (hport s _ fun _ => ⟨_, _, _, rfl⟩)

end SaOps

/-- Of its port, SA commands change nothing beside its SAs and themselves. -/
theorem State.port_applySaOps {β : Sort _} (obs : PortSt → β) (h : ∀ x tx rx ops, obs { x with txSas := tx, rxSas := rx, saOps := ops } = obs x)
    (s : State) (p : Nat) (due : SaOp → Bool) : obs ((s.applySaOps p due).port p) = obs (s.port p) := by
  refine State.applySaOps_keeps_others (fun u => obs (u.port p)) p (fun _ _ _ => rfl) (fun u f hf => ?_) s due
  obtain ⟨tx, rx, ops, hx⟩ := hf (u.port p)
  rw [u.port_modPort_self, hx, h]

theorem State.port_applySaOps_ne (s : State) {p q : Nat} (hq : q ≠ p) (due : SaOp → Bool) : (s.applySaOps p due).port q = s.port q :=
  State.applySaOps_keeps_others (fun u => u.port q) p (fun _ _ _ => rfl) (fun u f _ => u.port_modPort_ne hq f) s due

theorem State.fld_applySaOps (s : State) (p : Nat) (due : SaOp → Bool) {f : FieldRef} (hf : ∀ j < 14, f.addr ≠ Reg.portMsecKey p 0 + 4 * j) :
    (s.applySaOps p due).fld f = s.fld f :=
  State.applySaOps_keeps_others (fun u => u.fld f) p
    (fun u j hj => by rw [State.fld, u.reg_setReg_ne (hf j hj), State.fld]) (fun _ _ _ => rfl) s due

/-- An L-class field reads alike where its register and the later writes are the same. -/
theorem State.fldSince_congr {s t : State} (hlives : t.regs.lives = s.regs.lives) {f : FieldRef} (hreg : t.reg f.addr = s.reg f.addr)
    (mark : Nat) : t.fldSince mark f = s.fldSince mark f := by
  unfold State.fldSince State.fld
  rw [hlives, hreg]

theorem State.fldSince_applySaOps (s : State) (p : Nat) (due : SaOp → Bool) {f : FieldRef}
    (hf : ∀ j < 14, f.addr ≠ Reg.portMsecKey p 0 + 4 * j) (mark : Nat) : (s.applySaOps p due).fldSince mark f = s.fldSince mark f :=
  State.applySaOps_keeps_others (fun u => u.fldSince mark f) p
    (fun u j hj => State.fldSince_congr (s := u) (t := u.setReg _ 0) rfl (u.reg_setReg_ne (hf j hj) 0) mark) (fun _ _ _ => rfl) s due

theorem State.speed_applySaOps (s : State) (p : Nat) (due : SaOp → Bool) : (s.applySaOps p due).speed p = s.speed p := by
  have hwidth := s.fld_applySaOps p due (f := F.portMode_width p) fun j _ => by simp only [F.portMode_width, Reg.portMsecKey]; omega
  have hrate := s.fld_applySaOps p due (f := F.portMode_laneRate p) fun j _ => by simp only [F.portMode_laneRate, Reg.portMsecKey]; omega
  rw [State.speed, State.lanesOf, hwidth, hrate, State.speed, State.lanesOf]

/-! ### The checks of the MAC (R334, R335) -/

/-- Whether the MAC finds a received frame bad. -/
def State.macFails (s : State) (p : Nat) (rx : RxFrame) (t : Stamp) : Bool :=
  decide (rx.wire.length < 64) || decide (s.maxFrameAt p t < rx.wire.length) || !rx.fcsOk || rx.linkLost

theorem State.macFails_iff (s : State) (p : Nat) (rx : RxFrame) (t : Stamp) : s.macFails p rx t = true ↔
    rx.wire.length < 64 ∨ s.maxFrameAt p t < rx.wire.length ∨ rx.fcsOk = false ∨ rx.linkLost = true := by
  simp [State.macFails, or_assoc]

theorem State.count_eq (s : State) (a n : Nat) (t : Stamp) : ∃ c, s.count a n t = { s with ctr := c } :=
  ⟨_, (State.count_keeps (fun u => { u with ctr := (s.count a n t).ctr }) (fun _ _ => rfl) s a n t : _ = _)⟩

/-- The counters apart, counting a frame changes nothing (R334). -/
theorem State.countReceived_eq (s : State) (p : Nat) (rx : RxFrame) (t : Stamp) :
    ∃ c, s.countReceived p rx t = (s.macFails p rx t, { s with ctr := c }) := by
  unfold State.countReceived State.macFails
  dsimp only
  split_ifs with hshort hlong hbad
  · obtain ⟨c, hc⟩ := s.count_eq (C.portRxRunt p) 1 t
    exact ⟨c, by simp [hc, hshort]⟩
  · obtain ⟨c, hc⟩ := s.count_eq (C.portRxOversize p) 1 t
    exact ⟨c, by simp [hc, hlong]⟩
  · obtain ⟨c, hc⟩ := s.count_eq (C.portRxFcsErr p) 1 t
    exact ⟨c, by simpa [hc, or_assoc] using .inr (.inr (by simpa using hbad))⟩
  · obtain ⟨c, hc⟩ := s.count_eq (C.portRxFramesOk p) 1 t
    obtain ⟨d, hd⟩ := State.count_eq { s with ctr := c } (C.portRxOctetsOk p) rx.wire.length t
    exact ⟨d, by simp_all⟩

/-! ### The frame and what its coming does (R137, R199, R333) -/

/-- The stamp of a frame that comes. -/
def State.sfdStamp (s : State) (p : Nat) (rx : RxFrame) : Stamp :=
  s.ingressStamp (s.reamTaken rx.steps rx.tLatch) (s.rateOf p) rx.lane rx.tLatch rx.bit

/-- What the port keeps of it, cut at MAX_FRAME. -/
def State.keptWire (s : State) (p : Nat) (rx : RxFrame) : Bytes := rx.wire.take (s.maxFrameAt p (s.sfdStamp p rx))

/-- Its bytes without the FCS. -/
def State.keptBody (s : State) (p : Nat) (rx : RxFrame) : Bytes := (s.keptWire p rx).take ((s.keptWire p rx).length - 4)

/-- The frame as the MAC passes it on. -/
def State.macFrame (s : State) (p : Nat) (rx : RxFrame) : Frame :=
  { s.newFrame (sliceOf p) p .port (s.sfdStamp p rx) (s.keptBody p rx) rx.wire.length with
    ream := s.reamTaken rx.steps (s.sfdStamp p rx) }

/-- The end of the frame on the line. -/
def State.frameEnd (s : State) (p : Nat) (rx : RxFrame) : Stamp :=
  (if rx.steps = 0 then s.sfdStamp p rx else s.now) + bitTime ((rx.wire.length + 1) * 8) (s.speed p)

/-- The state once the frame has its number, its end is noted and counters have been set. -/
def State.frameNoted (s : State) (p : Nat) (rx : RxFrame) (c : Counters) : State :=
  (({ s with
    ctr := c, nextFrame := s.nextFrame + 1
    ldg := { s.ldg with idleNext := s.ldg.idleNext.set p (s.frameEnd p rx + 100 * nsStamp) } } : State).modPort p
      fun x => { x with lastEnd := s.frameEnd p rx }).addRate p rx.wire.length 0

theorem State.port_frameNoted (s : State) (p : Nat) (rx : RxFrame) (c : Counters) :
    (s.frameNoted p rx c).port p = { s.port p with lastEnd := s.frameEnd p rx } := by
  have hrate : ∀ u : State, (u.addRate p rx.wire.length 0).port p = u.port p := fun _ => rfl
  rw [State.frameNoted, hrate, State.port_modPort_self]
  rfl

theorem State.port_frameNoted_ne (s : State) {p q : Nat} (hq : q ≠ p) (rx : RxFrame) (c : Counters) :
    (s.frameNoted p rx c).port q = s.port q := by
  have hrate : ∀ u : State, (u.addRate p rx.wire.length 0).port q = u.port q := fun _ => rfl
  rw [State.frameNoted, hrate, State.port_modPort_ne _ hq]
  rfl

/-- The state in which the frame meets MACsec: the SA commands that were due by its stamp are carried out. -/
def State.frameIn (s : State) (p : Nat) (rx : RxFrame) (c : Counters) : State :=
  (s.frameNoted p rx c).applySaOps p fun o => o.rx && decide (o.at_ ≤ s.sfdStamp p rx)

theorem exec_frameReceived {s : State} {p : Nat} {rx : RxFrame} (h : Arrives p rx s) : ∃ c, exec (.frameReceived p rx) s =
    .next (State.applySaOps
      (match (if s.macFails p rx (s.sfdStamp p rx) then none else pauseOpcode (s.keptBody p rx)) with
      | some op => ((s.frameIn p rx c).honourPause p op (s.keptBody p rx) (s.sfdStamp p rx)).settleAtPort (s.macFrame p rx) 0x04
      | none =>
        if s.macFails p rx (s.sfdStamp p rx) then (s.frameIn p rx c).toFifo (s.macFrame p rx) true (s.keptWire p rx).length
        else match (s.frameIn p rx c).msecRx p (s.keptBody p rx) rx (s.sfdStamp p rx) with
          | (.drop, u) => u.settleAtPort (s.macFrame p rx) 0x16
          | (.pass b, u) => u.toFifo { s.macFrame p rx with bytes := b, leafLen := b.length, digest := sm3 b } false rx.wire.length)
      p fun o => o.rx) := by
  obtain ⟨hserving, hrec, hfirst, hlast, hlatched, hapart⟩ := h
  obtain ⟨c, hc⟩ := s.countReceived_eq p rx (s.sfdStamp p rx)
  refine ⟨c, (whenWorking_of_serving hserving _).trans ((if_neg ?_).trans ?_)⟩
  · simpa [hrec, hfirst, hlast, hlatched, imp_iff_not_or] using hapart
  · simp only [← State.sfdStamp.eq_1, hc]
    rfl

/-! ### A frame that is not passed on (R186, R335) -/

section Bad

variable {β : Sort _} (obs : State → β)
  (h : ∀ (s : State) x0 x1 x2 x3 x4, obs { s with ldg := x0, regs := x1, evr := x2, out := x3, ctr := x4 } = obs s)
include h

theorem State.settleAtPort_keeps (s : State) (f : Frame) (d : Nat) : obs (s.settleAtPort f d) = obs s := by
  have hform : obs (s.formLeaf f d false) = obs s := State.formLeaf_keeps obs h s f d false
  unfold State.settleAtPort State.frontPast
  split
  · exact (State.advanceFront_keeps obs (fun u x => h u x u.regs u.evr u.out u.ctr) _ _ _).trans hform
  · exact hform

theorem State.toFifo_bad_keeps (s : State) (f : Frame) (received : Nat) : obs (s.toFifo f true received) = obs s := by
  unfold State.toFifo
  dsimp only
  split
  · exact (State.settleAtPort_keeps obs h _ _ _).trans
      (State.count_keeps obs (fun u x => h u u.ldg u.regs u.evr u.out x) s _ _ _)
  · exact State.settleAtPort_keeps obs h s f _

end Bad

/-- A frame that the MAC finds bad reaches no FIFO. -/
theorem exec_frameReceived_bad {s : State} {p : Nat} {rx : RxFrame} (h : Arrives p rx s) (hbad : s.macFails p rx (s.sfdStamp p rx) = true) :
    ∃ t, exec (.frameReceived p rx) s = .next t ∧ (t.port p).fifo = (s.port p).fifo ∧ t.nextFrame = s.nextFrame + 1 ∧
      t.slices = s.slices ∧ t.tm = s.tm ∧ t.qm = s.qm := by
  obtain ⟨c, hexec⟩ := exec_frameReceived h
  simp only [hbad, if_true] at hexec
  have hkept : ∀ {β : Type} (obs : State → β), (∀ (u : State) x0 x1 x2 x3 x4 x5,
      obs { u with ldg := x0, regs := x1, evr := x2, out := x3, ctr := x4, ports := x5 } = obs u) →
      obs (((s.frameIn p rx c).toFifo (s.macFrame p rx) true (s.keptWire p rx).length).applySaOps p fun o => o.rx) =
        obs (s.frameNoted p rx c) := fun obs hobs =>
    (State.applySaOps_keeps obs (fun u x y => hobs u u.ldg y u.evr u.out u.ctr x) _ p _).trans
      ((State.toFifo_bad_keeps obs (fun u x0 x1 x2 x3 x4 => hobs u x0 x1 x2 x3 x4 u.ports) _ _ _).trans
        (State.applySaOps_keeps obs (fun u x y => hobs u u.ldg y u.evr u.out u.ctr x) _ p _))
  refine ⟨_, hexec, ?_, hkept State.nextFrame fun _ _ _ _ _ _ _ => rfl, hkept State.slices fun _ _ _ _ _ _ _ => rfl,
    hkept State.tm fun _ _ _ _ _ _ _ => rfl, hkept State.qm fun _ _ _ _ _ _ _ => rfl⟩
  rw [State.port_applySaOps PortSt.fifo (fun _ _ _ _ => rfl),
    State.toFifo_bad_keeps (fun u => (u.port p).fifo) (fun _ _ _ _ _ _ => rfl), State.frameIn,
    State.port_applySaOps PortSt.fifo (fun _ _ _ _ => rfl), State.port_frameNoted]

/-! ### A frame that waits in the FIFO (R188, R333, R341) -/

/-- The state in which a frame waits in the FIFO of its port, undecided, and the stamp of a PTP event message is kept. -/
def State.intoFifo (s : State) (f : Frame) : State :=
  ((s.addUndecided f).notePtp f).modPort f.port fun x => { x with fifo := x.fifo ++ [f] }

theorem State.toFifo_room {s : State} {f : Frame} {p : Nat} (hp : f.port = p)
    (hroom : (s.port p).fifo.foldl (fun a x => a + x.wireLen) 0 < s.fifoBytes p) (received : Nat) :
    s.toFifo f false received = s.intoFifo f := by
  subst hp
  simp [State.toFifo, State.intoFifo, Nat.not_le.mpr hroom]

/-- Without receive MACsec, as it stood when the frame came, its bytes pass as they are (R341). -/
theorem State.msecRx_off {s : State} {p : Nat} {t : Stamp} (hoff : s.fldSince (s.liveMarkAt t) (F.portMsecCfg_rxEn p) = 0) (b : Bytes)
    (rx : RxFrame) : s.msecRx p b rx t = (.pass b, s) := by
  unfold State.msecRx
  exact if_pos (.inl hoff)

theorem State.notePtp_eq (s : State) (f : Frame) : s.notePtp f = { s with
    tb := { s.tb with ptpRx := if ptpEvent f.bytes = true then s.tb.ptpRx ++ [(f.port, f.stamp)] else s.tb.ptpRx } } := by
  unfold State.notePtp
  split <;> rfl

section Good

variable {s : State} {p : Nat} {rx : RxFrame}

/-- The SA commands carried out leave MACsec on receive off and the FIFO's room as it was. -/
theorem State.frameIn_facts (c : Counters) :
    (∀ mark, (s.frameIn p rx c).fldSince mark (F.portMsecCfg_rxEn p) = s.fldSince mark (F.portMsecCfg_rxEn p)) ∧
    (∀ t, (s.frameIn p rx c).liveMarkAt t = s.liveMarkAt t) ∧
    (s.frameIn p rx c).fifoBytes p = s.fifoBytes p ∧ ((s.frameIn p rx c).port p).fifo = (s.port p).fifo := by
  refine ⟨fun mark => ?_, fun t => ?_, ?_, ?_⟩
  · exact State.fldSince_applySaOps _ p _ (fun j _ => by simp only [F.portMsecCfg_rxEn, Reg.portMsecKey]; omega) mark
  · exact State.applySaOps_keeps_others (fun u => u.liveMarkAt t) p (fun _ _ _ => rfl) (fun _ _ _ => rfl) _ _
  · rw [State.fifoBytes, State.frameIn, State.speed_applySaOps]
    rfl
  · rw [State.frameIn, State.port_applySaOps PortSt.fifo (fun _ _ _ _ => rfl), State.port_frameNoted]

variable (h : Arrives p rx s) (hgood : s.macFails p rx (s.sfdStamp p rx) = false)
  (hpause : pauseOpcode (s.keptBody p rx) = none)
  (hoff : s.fldSince (s.liveMarkAt (s.sfdStamp p rx)) (F.portMsecCfg_rxEn p) = 0)
  (hroom : (s.port p).fifo.foldl (fun a f => a + f.wireLen) 0 < s.fifoBytes p)
include h hgood hpause hoff hroom

theorem exec_frameReceived_good : ∃ c, exec (.frameReceived p rx) s =
    .next (((s.frameIn p rx c).intoFifo (s.macFrame p rx)).applySaOps p fun o => o.rx) := by
  obtain ⟨c, hexec⟩ := exec_frameReceived h
  obtain ⟨hmsec, hmark, hbytes, hfifo⟩ := State.frameIn_facts (s := s) (p := p) (rx := rx) c
  have hpass : (s.frameIn p rx c).msecRx p (s.keptBody p rx) rx (s.sfdStamp p rx) = (.pass (s.keptBody p rx), s.frameIn p rx c) :=
    State.msecRx_off (by rw [hmark, hmsec, hoff]) _ rx
  have hroom' : ((s.frameIn p rx c).port p).fifo.foldl (fun a x => a + x.wireLen) 0 < (s.frameIn p rx c).fifoBytes p := by
    rwa [hfifo, hbytes]
  have hqueue : (s.frameIn p rx c).toFifo (s.macFrame p rx) false rx.wire.length = (s.frameIn p rx c).intoFifo (s.macFrame p rx) :=
    State.toFifo_room (p := p) rfl hroom' _
  simp only [hgood, hpause, hpass, Bool.false_eq_true, if_false] at hexec
  exact ⟨c, hqueue ▸ hexec⟩

end Good

/-! ### What the frame leaves behind -/

/-- The end of FRAME_RECEIVED for a frame that waits in the FIFO. -/
def State.frameWaits (s : State) (p : Nat) (rx : RxFrame) (c : Counters) : State :=
  ((s.frameIn p rx c).intoFifo (s.macFrame p rx)).applySaOps p fun o => o.rx

theorem State.port_notePtp (u : State) (f : Frame) (q : Nat) : ((u.addUndecided f).notePtp f).port q = u.port q := by
  unfold State.notePtp
  split <;> rfl

theorem State.port_intoFifo (u : State) {f : Frame} {p : Nat} (hp : f.port = p) :
    (u.intoFifo f).port p = { u.port p with fifo := (u.port p).fifo ++ [f] } := by
  rw [← hp, State.intoFifo, State.port_modPort_self, State.port_notePtp]

theorem State.port_intoFifo_ne (u : State) {f : Frame} {q : Nat} (hq : q ≠ f.port) : (u.intoFifo f).port q = u.port q := by
  rw [State.intoFifo, State.port_modPort_ne _ hq, State.port_notePtp]

theorem State.intoFifo_keeps {β : Sort _} (obs : State → β)
    (h : ∀ (u : State) x0 x1 x2, obs { u with ldg := x0, tb := x1, ports := x2 } = obs u) (u : State) (f : Frame) :
    obs (u.intoFifo f) = obs u := by
  have hnote : obs ((u.addUndecided f).notePtp f) = obs u := by
    unfold State.notePtp
    split
    exacts [h u _ _ u.ports, h u _ u.tb u.ports]
  exact (State.modPort_keeps obs (fun v x => h v v.ldg v.tb x) _ _ _).trans hnote

section Waits

variable (s : State) (p : Nat) (rx : RxFrame) (c : Counters)

theorem State.frameWaits_keeps {β : Sort _} (obs : State → β)
    (h : ∀ (u : State) x0 x1 x2 x3, obs { u with ldg := x0, tb := x1, ports := x2, regs := x3 } = obs u) :
    obs (s.frameWaits p rx c) = obs (s.frameNoted p rx c) := by
  have hsa : ∀ (u : State) due, obs (u.applySaOps p due) = obs u := fun u due =>
    State.applySaOps_keeps obs (fun u x0 x1 => h u u.ldg u.tb x0 x1) u p due
  rw [State.frameWaits, hsa, State.intoFifo_keeps obs (fun u x0 x1 x2 => h u x0 x1 x2 u.regs), State.frameIn, hsa]

theorem State.fifo_frameWaits : ((s.frameWaits p rx c).port p).fifo = (s.port p).fifo ++ [s.macFrame p rx] := by
  obtain ⟨-, -, -, hfifo⟩ := State.frameIn_facts (s := s) (p := p) (rx := rx) c
  have hport : (s.macFrame p rx).port = p := rfl
  rw [State.frameWaits, State.port_applySaOps PortSt.fifo (fun _ _ _ _ => rfl), State.port_intoFifo _ hport, hfifo]

theorem State.lastEnd_frameWaits : ((s.frameWaits p rx c).port p).lastEnd = s.frameEnd p rx := by
  have hport : (s.macFrame p rx).port = p := rfl
  rw [State.frameWaits, State.port_applySaOps PortSt.lastEnd (fun _ _ _ _ => rfl), State.port_intoFifo _ hport]
  dsimp only
  rw [State.frameIn, State.port_applySaOps PortSt.lastEnd (fun _ _ _ _ => rfl), State.port_frameNoted]

theorem State.port_frameWaits_ne {q : Nat} (hq : q ≠ p) : (s.frameWaits p rx c).port q = s.port q := by
  have hport : (s.macFrame p rx).port = p := rfl
  rw [State.frameWaits, State.port_applySaOps_ne _ hq, State.port_intoFifo_ne _ (hport ▸ hq), State.frameIn,
    State.port_applySaOps_ne _ hq, s.port_frameNoted_ne hq]

/-- Without an SA command waiting the registers stay. -/
theorem State.regs_frameWaits (hnone : (s.port p).saOps = []) : (s.frameWaits p rx c).regs = s.regs := by
  have hnone1 : ((s.frameNoted p rx c).port p).saOps = [] := by rw [State.port_frameNoted]; exact hnone
  obtain ⟨hregs, hports⟩ := State.applySaOps_none hnone1 fun o => o.rx && decide (o.at_ ≤ s.sfdStamp p rx)
  have hport : (s.macFrame p rx).port = p := rfl
  have hnone2 : (((s.frameIn p rx c).intoFifo (s.macFrame p rx)).port p).saOps = [] := by
    rw [State.port_intoFifo _ hport]
    exact (congrArg PortSt.saOps (hports p)).trans hnone1
  have hfifo := State.intoFifo_keeps State.regs (fun _ _ _ _ => rfl) (s.frameIn p rx c) (s.macFrame p rx)
  exact (State.applySaOps_none hnone2 _).1.trans (hfifo.trans hregs)

/-- The frame waits undecided, and the stamp of a PTP event message is kept (R108, R201). -/
theorem State.tb_frameWaits : (s.frameWaits p rx c).tb = { s.tb with
    ptpRx := if ptpEvent (s.keptBody p rx) = true then s.tb.ptpRx ++ [(p, s.sfdStamp p rx)] else s.tb.ptpRx } := by
  have htb : (s.frameIn p rx c).tb = s.tb := State.applySaOps_keeps State.tb (fun _ _ _ => rfl) _ p _
  rw [State.frameWaits, State.applySaOps_keeps State.tb (fun _ _ _ => rfl), State.intoFifo, State.notePtp_eq, ← htb]
  rfl

theorem State.undecided_frameWaits :
    (s.frameWaits p rx c).ldg.undecided.get? s.nextFrame = some ((s.macFrame p rx).leaf 0x20 false) := by
  rw [State.frameWaits, State.applySaOps_keeps State.ldg (fun _ _ _ => rfl), State.intoFifo, State.notePtp_eq]
  exact Table.get?_set_self _ _ _

end Waits

/-- A frame that MAX_FRAME leaves whole is kept without its FCS. -/
theorem State.keptBody_whole {s : State} {p : Nat} {rx : RxFrame} (h : rx.wire.length ≤ s.maxFrameAt p (s.sfdStamp p rx)) :
    s.keptBody p rx = rx.wire.take (rx.wire.length - 4) := by
  rw [State.keptBody, State.keptWire, List.take_of_length_le h]

/-! ### UNDECODABLE_START (R138) -/

theorem exec_undecodableStart {s : State} (h : Serving s) (p : Nat) : exec (.undecodableStart p) s =
    if s.receives p then .next (s.count1 (C.portRxPcsErr p)) else .next s :=
  whenWorking_of_serving h _

/-- Settles O10: a frame that the MAC passes on is queued as it stands, once SA commands have left the FIFO's room and MACsec as they
were; a bad one forms its leaf alone. -/
theorem frameReceived : Obligations.FrameReceived := by
  unfold Obligations.FrameReceived
  refine ⟨fun s p rx h => ?good, fun s p rx h hbad => ?bad, fun s p rx h hdeaf => ?deaf,
    fun s p h hrec => ?undecodable, fun s p h hdeaf => ?unheard⟩
  case good =>
    dsimp only
    intro hshort hlong hfcs hlink hpause hoff hroom
    have hgood : s.macFails p rx (s.sfdStamp p rx) = false := by
      rw [← Bool.not_eq_true, s.macFails_iff]
      rintro (hrunt | hover | hbad | hlost)
      · omega
      · exact Nat.not_lt.mpr hlong hover
      · exact Bool.false_ne_true (hbad.symm.trans hfcs)
      · exact Bool.false_ne_true (hlink.symm.trans hlost)
    have hbody : s.keptBody p rx = rx.wire.take (rx.wire.length - 4) := State.keptBody_whole hlong
    obtain ⟨c, hexec⟩ := exec_frameReceived_good h hgood (hbody ▸ hpause) hoff hroom
    have hkept : ∀ {β : Type} (obs : State → β), (∀ (u : State) x0 x1 x2 x3,
        obs { u with ldg := x0, tb := x1, ports := x2, regs := x3 } = obs u) →
        obs (s.frameWaits p rx c) = obs (s.frameNoted p rx c) := fun obs => s.frameWaits_keeps p rx c obs
    rw [← hbody]
    exact ⟨s.frameWaits p rx c, s.macFrame p rx, hexec, hkept State.nextFrame fun _ _ _ _ _ => rfl, s.fifo_frameWaits p rx c, rfl, rfl, rfl,
      rfl, rfl, rfl, rfl, rfl, s.lastEnd_frameWaits p rx c, s.undecided_frameWaits p rx c, s.regs_frameWaits p rx c,
      hkept State.slices fun _ _ _ _ _ => rfl, s.tb_frameWaits p rx c, hkept State.tm fun _ _ _ _ _ => rfl,
      hkept State.qm fun _ _ _ _ _ => rfl, hkept State.coh fun _ _ _ _ _ => rfl, hkept State.out fun _ _ _ _ _ => rfl,
      hkept State.evr fun _ _ _ _ _ => rfl, fun q hq => s.port_frameWaits_ne p rx c hq⟩
  case bad => exact exec_frameReceived_bad h ((s.macFails_iff p rx _).mpr hbad)
  case deaf => exact (whenWorking_of_serving h _).trans (if_pos (by simp [hdeaf]))
  case undecodable => exact (exec_undecodableStart h p).trans (if_pos hrec)
  case unheard => exact (exec_undecodableStart h p).trans (if_neg (by simp [hdeaf]))

end Sys2Proof.Machine
end

section
/-! PROOFS. PORT_TRANSMIT_START (R109, R141, R330, R338, R341, R358, R505, R518): what starts at a frame boundary, and a head copy of a
strict class as it leaves. -/

namespace Sys2Proof.Machine

/-! ### A frame's cells given back leave what its port sends (R357, R505, R516) -/

/-- A change of a port that touches only the pause frames that it sends. -/
def KeepsButXoff (f : PortSt → PortSt) : Prop :=
  ∀ x, ∃ send refresh xoff, f x = { x with toSend := send, refresh := refresh, xoff := xoff }

section Xoff

variable {β : Sort _} (obs : State → β) (hport : ∀ (u : State) p f, KeepsButXoff f → obs (u.modPort p f) = obs u)
include hport

theorem State.checkXoff_keeps_others (s : State) (p pr : Nat) : obs (s.checkXoff p pr) = obs s := by
  have hsend : ∀ (u : State) q, obs (u.sendPause p pr q) = obs u := fun u q => hport u p _ fun _ => ⟨_, _, _, rfl⟩
  have hxoff : ∀ u : State, obs (u.sendXoff p pr) = obs u := fun u => (hport _ p _ fun _ => ⟨_, _, _, rfl⟩).trans (hsend u _)
  unfold State.checkXoff
  dsimp only
  split
  · exact (hport _ p _ fun _ => ⟨_, _, _, rfl⟩).trans (hxoff s)
  split
  · refine (hport _ p _ fun _ => ⟨_, _, _, rfl⟩).trans ?_
    split
    exacts [hsend s _, rfl]
  · rfl

theorem State.settleFrame_keeps_others (hrest : ∀ (u : State) x0 x1, obs { u with tm := x0, ldg := x1 } = obs u) (s : State) (frame : Nat) :
    obs (s.settleFrame frame) = obs s := by
  have htm : ∀ (u : State) x, obs { u with tm := x } = obs u := fun u x => hrest u x u.ldg
  have hcells : ∀ (u : State) x p pr n, obs (State.giveCells { u with tm := x } p pr n) = obs u := fun u x p pr n =>
    (State.checkXoff_keeps_others obs hport _ p pr).trans (htm u _)
  have hrelease : obs (s.releaseFrame frame) = obs s := by
    unfold State.releaseFrame
    split
    · rfl
    dsimp only
    split <;> split <;> simp only [htm, hcells]
  exact (State.forget_keeps obs (fun u x => hrest u u.tm x) _ frame).trans hrelease

end Xoff

theorem State.txCopy_settleFrame (s : State) (p frame : Nat) : ((s.settleFrame frame).port p).txCopy = (s.port p).txCopy := by
  refine State.settleFrame_keeps_others (fun u => (u.port p).txCopy) (fun u q f hf => ?_) (fun _ _ _ => rfl) s frame
  by_cases hq : p = q
  · subst hq
    obtain ⟨send, refresh, xoff, hx⟩ := hf (u.port p)
    rw [u.port_modPort_self, hx]
  · exact congrArg PortSt.txCopy (u.port_modPort_ne hq f)

/-- What a port sends from now on. -/
theorem State.txCopy_endTx (s : State) (p until_ : Nat) (next : Option (Frame × Bool)) :
    ((s.endTx p until_ next).port p).txCopy = next := by
  have hmod : ((s.modPort p fun x => { x with txUntil := until_, txCopy := next }).port p).txCopy = next := by
    rw [State.port_modPort_self]
  unfold State.endTx
  dsimp only
  split
  · exact (State.forget_keeps (fun u => (u.port p).txCopy) (fun _ _ => rfl) _ _).trans hmod
  · exact hmod

theorem State.endTx_keeps {β : Sort _} (obs : State → β) (h : ∀ (u : State) x0 x1, obs { u with ports := x0, ldg := x1 } = obs u)
    (s : State) (p until_ : Nat) (next : Option (Frame × Bool)) : obs (s.endTx p until_ next) = obs s := by
  unfold State.endTx
  dsimp only
  split
  · exact (State.forget_keeps obs (fun u x => h u u.ports x) _ _).trans (h s _ s.ldg)
  · exact h s _ s.ldg

/-! ### A frame on the wire (R109, R338, R341) -/

/-- A field as it stands for what enters its block now. -/
theorem State.fldSince_liveMark (s : State) (f : FieldRef) : s.fldSince s.liveMark f = s.fld f := by
  simp [State.fldSince, State.liveMark]

/-- Without transmit MACsec the bytes go out as they are (R341). -/
theorem State.msecTx_off {s : State} {p mark : Nat} (hoff : s.fldSince mark (F.portMsecCfg_txEn p) = 0) (b : Bytes) (t : Stamp) :
    s.msecTx p b t mark = (some b, s) := by
  unfold State.msecTx
  exact if_pos (.inl hoff)

/-- A frame padded to 60 bytes, with its FCS (R338). -/
def padded (b : Bytes) : Bytes := (b ++ zeros (60 - b.length)) ++ fcs (b ++ zeros (60 - b.length))

/-- The state in which a frame is counted and goes out. -/
def State.onLine (s : State) (p : Nat) (f : TmFrame) (w : Bytes) (egress : Stamp) : State :=
  (((s.count (C.portTxFrames p) 1 f.frame.stamp).count (C.portTxOctets p) w.length f.frame.stamp).addRate p 0 w.length).emit
    (.frame p egress (preamble ++ w))

/-- The state in which a copy has gone out: its port sends it, its SEND entry has its stamp, and it is in no queue. -/
def State.sentCopy (s : State) (p : Nat) (c : Copy) (f : TmFrame) (w : Bytes) (egress : Stamp) : State :=
  let u := s.onLine p f w egress
  let u := u.endTx p (u.now + u.wireTime p w) (some (f.frame, c.mirror))
  ((if c.portCopy then u.settleSend c.frame (some egress) false else u).unqueue c).settleFrame c.frame

section SentCopy

variable (s : State) (p : Nat) (c : Copy) (f : TmFrame) (w : Bytes) (egress : Stamp)

theorem State.onLine_keeps {β : Sort _} (obs : State → β) (h : ∀ (u : State) x0 x1 x2, obs { u with ctr := x0, tel := x1, out := x2 } = obs u) :
    obs (s.onLine p f w egress) = obs s := by
  have hcount : ∀ (u : State) a n t, obs (u.count a n t) = obs u := State.count_keeps obs fun u x => h u x u.tel u.out
  have hline : ∀ (u : State) o, obs ((u.addRate p 0 w.length).emit o) = obs u := fun u o => h u u.ctr _ _
  rw [State.onLine, hline, hcount, hcount]

theorem State.out_onLine : (s.onLine p f w egress).out = s.out ++ [.frame p egress (preamble ++ w)] := by
  have hcount : ((s.count (C.portTxFrames p) 1 f.frame.stamp).count (C.portTxOctets p) w.length f.frame.stamp).out = s.out := by simp
  exact congrArg (· ++ [Out.frame p egress (preamble ++ w)]) hcount

theorem State.sentCopy_keeps {β : Sort _} (obs : State → β)
    (h : ∀ (u : State) x0 x1 x2 x3, obs { u with ports := x0, ldg := x1, qm := x2, tm := x3 } = obs u) :
    obs (s.sentCopy p c f w egress) = obs (s.onLine p f w egress) := by
  have hend : ∀ (u : State) t x, obs (u.endTx p t x) = obs u := fun u =>
    State.endTx_keeps obs (fun v x0 x1 => h v x0 x1 v.qm v.tm) u p
  have hsend : ∀ u : State, obs (u.settleSend c.frame (some egress) false) = obs u := fun u =>
    State.settleSend_keeps obs (fun v x => h v v.ports v.ldg x v.tm) u _ _ _
  unfold State.sentCopy
  dsimp only
  rw [State.settleFrame_keeps obs (fun v x0 x1 x2 => h v x1 x2 v.qm x0), State.unqueue_keeps obs (fun v x => h v v.ports v.ldg v.qm x)]
  split <;> simp only [hsend, hend]

theorem State.txCopy_sentCopy : ((s.sentCopy p c f w egress).port p).txCopy = some (f.frame, c.mirror) := by
  unfold State.sentCopy
  dsimp only
  rw [State.txCopy_settleFrame, State.unqueue_keeps (fun u => (u.port p).txCopy) (fun _ _ => rfl)]
  split
  · rw [State.settleSend_keeps (fun u => (u.port p).txCopy) (fun _ _ => rfl), State.txCopy_endTx]
  · exact State.txCopy_endTx _ _ _ _

end SentCopy

/-! ### What follows the transmission of a PTP message (R109, R111) -/

theorem State.ptpLaunched_keeps {β : Sort _} (obs : State → β)
    (h : ∀ (u : State) x0 x1 x2 x3, obs { u with tb := x0, free := x1, nextFrame := x2, slices := x3 } = obs u) (s : State) (m : PtpTx)
    (egress : Stamp) : obs (s.ptpLaunched m egress) = obs s := by
  have hsend : ∀ m, obs (s.sendPtp m) = obs s := State.sendPtp_keeps obs (fun u => h u u.tb) s
  have hptp : ∀ g, obs (s.modPtp m.port g) = obs s := fun g => h s _ s.free s.nextFrame s.slices
  unfold State.ptpLaunched
  split
  · exact hptp _
  · exact hptp _
  · split
    exacts [rfl, hsend _]
  · split
    exacts [rfl, hsend _]
  all_goals rfl

theorem State.t3_ptpLaunched (s : State) {m : PtpTx} (hkind : m.kind = .delayReq) (egress : Stamp) :
    ((s.ptpLaunched m egress).tb.ptp.getD m.port PtpSt.init).t3 = egress := by
  simp [State.ptpLaunched, hkind]

theorem State.pdT1_ptpLaunched (s : State) {m : PtpTx} (hkind : m.kind = .pdelayReq) (egress : Stamp) :
    ((s.ptpLaunched m egress).tb.ptp.getD m.port PtpSt.init).pdT1 = egress := by
  simp [State.ptpLaunched, hkind]

/-- A two-step Sync is followed by a Follow_Up with its egress stamp. -/
theorem State.injWait_ptpLaunched (s : State) {m : PtpTx} (hkind : m.kind = .sync) (htwo : m.oneStep = false) (egress : Stamp) :
    ∃ y ∈ ((s.ptpLaunched m egress).slice (sliceOf m.port)).injWait, y.origin = .ptp { m with kind := .followUp, at_ := egress } := by
  have hsends : s.ptpLaunched m egress = s.sendPtp { m with kind := .followUp, at_ := egress } := by
    simp [State.ptpLaunched, hkind, htwo]
  have hwait := s.injWait_sendPtp { m with kind := .followUp, at_ := egress }
  obtain ⟨-, horigin, -⟩ := s.ptpFrameOf_facts { m with kind := .followUp, at_ := egress }
  rw [hsends]
  refine ⟨_, ?_, horigin⟩
  rw [hwait]
  exact List.mem_append_right _ (List.mem_singleton.mpr rfl)

/-! ### A head copy launched (R109, R338, R349) -/

/-- The bytes that a copy goes out with: a message of the device takes its stamp, where it carries it (R109). -/
def State.copyBytes (s : State) (c : Copy) (f : TmFrame) (egress : Stamp) : Bytes :=
  match c.ptp f.frame with
  | some m => s.ptpStamped m (c.bytes f.frame) egress
  | none => c.bytes f.frame

/-- What follows the transmission of a copy that may be a message of the device. -/
def State.afterCopy (s : State) (c : Copy) (f : TmFrame) (egress : Stamp) : State :=
  match c.ptp f.frame with
  | some m => s.ptpLaunched m egress
  | none => s

theorem State.launch_plain {s : State} {p : Nat} {c : Copy} {f : TmFrame} (hframe : s.tm.frames.get? c.frame = some f)
    (hqueue : c.queue ≠ qHanded p) (hoff : s.fld (F.portMsecCfg_txEn p) = 0) (egress : Stamp) : s.launch p c egress false =
      (true, (s.sentCopy p c f (padded (s.copyBytes c f egress)) egress).afterCopy c f egress) := by
  have hplain : ∀ b t, s.msecTx p b t s.liveMark = (some b, s) := State.msecTx_off ((s.fldSince_liveMark _).trans hoff)
  unfold State.launch State.copyBytes State.afterCopy
  simp only [hframe, if_neg hqueue, hplain]
  cases c.ptp f.frame <;> rfl

theorem State.afterCopy_keeps {β : Sort _} (obs : State → β)
    (h : ∀ (u : State) x0 x1 x2 x3, obs { u with tb := x0, free := x1, nextFrame := x2, slices := x3 } = obs u) (s : State) (c : Copy)
    (f : TmFrame) (egress : Stamp) : obs (s.afterCopy c f egress) = obs s := by
  unfold State.afterCopy
  split
  exacts [s.ptpLaunched_keeps obs h _ egress, rfl]

/-! ### The start of a frame (R330, R358, R518) -/

/-- Without gates in use a head copy passes the gate check at once (R529). -/
theorem State.gatePass_off {s : State} {x : Copy} (hgates : (s.tmPort x.port).oper.enable = false) (hplans : (s.tmPort x.port).plans = [])
    (egress : Stamp) : s.gatePass x egress = (true, false) := by
  simp [State.gatePass, TmPort.gateOpen, hplans, gatesOpen, GateList.keepsOpen, hgates]

/-- The end of PORT_TRANSMIT_START for a head copy that leaves without MACsec: the shapers and the deficit are as `charge` leaves them. -/
def State.classSent (s : State) (p : Nat) (x : Copy) (f : TmFrame) (egress : Stamp) (charge : TmPort → TmPort) : State :=
  let u := s.dequeued p (s.schedStamp x)
  ((u.sentCopy p x f (padded (s.copyBytes x f egress)) egress).afterCopy x f egress).modTmPort p charge

theorem State.copyBytes_dequeued (s : State) (p : Nat) (t : Stamp) (c : Copy) (f : TmFrame) (egress : Stamp) :
    (s.dequeued p t).copyBytes c f egress = s.copyBytes c f egress := by
  unfold State.copyBytes
  cases c.ptp f.frame <;> rfl

theorem State.startClass_plain {s : State} {p c : Nat} {x : Copy} {rest : List Copy} {f : TmFrame} {egress : Stamp}
    (hhead : s.queue (qPort p c) = x :: rest) (hpass : (s.gatePass x egress).2 = false) (hframe : s.tm.frames.get? x.frame = some f)
    (hqueue : x.queue ≠ qHanded p) (hoff : s.fld (F.portMsecCfg_txEn p) = 0) :
    ∃ charge, s.startClass p c egress false = s.classSent p x f egress charge := by
  have hlaunch := State.launch_plain (s := s.dequeued p (s.schedStamp x)) (p := p) hframe hqueue hoff egress
  rw [State.copyBytes_dequeued] at hlaunch
  unfold State.startClass State.classSent
  simp only [hhead, hpass, Bool.false_eq_true, if_false, hlaunch, if_true]
  exact ⟨_, rfl⟩

/-- Where PORT_TRANSMIT_START can start something: the port takes frames, has no remote fault and is at a frame boundary, and the word is
one that a frame committed now can go out with (R141, R330). -/
structure MayStart (p lane : Nat) (tl : Stamp) (s : State) : Prop where
  serving : Serving s
  configured : s.configured p = true
  takes : s.portTakes p = true
  sound : (s.port p).remoteFault = false
  boundary : (s.port p).txUntil ≤ s.now
  first : p ≤ lane
  last : lane < p + s.lanesOf p
  launchable : s.launchable (dieOf lane) (s.rateOf p) tl = true
  noOps : (s.port p).saOps = []

section Start

variable {s : State} {p lane : Nat} {tl : Stamp}

theorem exec_portTransmitStart_held (h : Serving s) (hheld : s.portTakes p = false ∨ (s.port p).remoteFault = true ∨ s.now < (s.port p).txUntil)
    (symbol : Nat) (ce : Bool) : exec (.portTransmitStart p tl lane symbol ce) s = .next s := by
  refine (whenWorking_of_serving h _).trans (if_pos ?_)
  rcases hheld with hdown | hfault | hbusy
  · simp [hdown]
  · simp [hfault]
  · simp [hbusy]

variable (h : MayStart p lane tl s) (symbol : Nat) (ce : Bool)
include h

theorem exec_portTransmitStart : exec (.portTransmitStart p tl lane symbol ce) s =
    let egress := s.egressStamp (s.rateOf p) lane tl symbol
    match s.pauseDue p with
    | some x => .next (s.startPause p x)
    | none =>
      match s.releaseDue p with
      | some c => .next (s.startRelease p c egress ce)
      | none =>
        match (s.markGates p egress).pickClass p egress with
        | some (c, u) => .next (u.startClass p c egress ce)
        | none => .next (s.markGates p egress) := by
  obtain ⟨hserving, hconf, htakes, hsound, hbound, hfirst, hlast, hlaunch, hnone⟩ := h
  have hsettle : s.settleSa p = s := if_pos hnone
  have hexec : exec (.portTransmitStart p tl lane symbol ce) s = execPortTransmitStart p tl lane symbol ce s := rfl
  rw [hexec, execPortTransmitStart, whenWorking_of_serving hserving, if_neg (by simp [*, Nat.not_lt.mpr hbound])]
  simp only [hsettle] <;> rfl

theorem exec_portTransmitStart_pause {x : Option Nat × Nat} (hdue : s.pauseDue p = some x) :
    exec (.portTransmitStart p tl lane symbol ce) s = .next (s.startPause p x) := by
  simp only [exec_portTransmitStart h, hdue]

theorem exec_portTransmitStart_class {c : Nat} (hdue : s.pauseDue p = none) (hhanded : s.queue (qHanded p) = [])
    (hgates : (s.tmPort p).oper.enable = false)
    (hpick : (List.range 4).find? (fun c => s.eligible p c (s.egressStamp (s.rateOf p) lane tl symbol)) = some c) :
    exec (.portTransmitStart p tl lane symbol ce) s =
      .next (s.startClass p c (s.egressStamp (s.rateOf p) lane tl symbol) ce) := by
  have hrelease : s.releaseDue p = none := by simp [State.releaseDue, hhanded]
  have hmark : s.markGates p (s.egressStamp (s.rateOf p) lane tl symbol) = s := by simp [State.markGates, hgates]
  have hclass : s.pickClass p (s.egressStamp (s.rateOf p) lane tl symbol) = some (c, s) := by simp only [State.pickClass, hpick]
  simp only [exec_portTransmitStart h, hdue, hrelease, hmark, hclass]

end Start

/-! ### What the launch leaves behind -/

section ClassSent

variable (s : State) (p : Nat) (x : Copy) (f : TmFrame) (egress : Stamp) (charge : TmPort → TmPort)

theorem State.classSent_keeps {β : Sort _} (obs : State → β)
    (h : ∀ (u : State) x0 x1 x2 x3 x4 x5 x6,
      obs { u with ports := x0, ldg := x1, qm := x2, tm := x3, ctr := x4, tel := x5, out := x6 } = obs u)
    (hafter : ∀ u : State, obs (u.afterCopy x f egress) = obs u) : obs (s.classSent p x f egress charge) = obs s := by
  have htm : ∀ (u : State) y, obs { u with tm := y } = obs u := fun u y => h u u.ports u.ldg u.qm y u.ctr u.tel u.out
  refine (htm _ _).trans ?_
  rw [hafter, State.sentCopy_keeps _ _ _ _ _ _ obs (fun u x0 x1 x2 x3 => h u x0 x1 x2 x3 u.ctr u.tel u.out),
    State.onLine_keeps _ _ _ _ _ obs (fun u x0 x1 x2 => h u u.ports u.ldg u.qm u.tm x0 x1 x2)]
  exact htm s _

theorem State.classSent_frame : (s.classSent p x f egress charge).regs = s.regs ∧ (s.classSent p x f egress charge).coh = s.coh ∧
    (s.classSent p x f egress charge).eng = s.eng ∧ (s.classSent p x f egress charge).evr = s.evr := by
  have hafter : ∀ {β : Type} (obs : State → β), (∀ (u : State) x0 x1 x2 x3,
      obs { u with tb := x0, free := x1, nextFrame := x2, slices := x3 } = obs u) → ∀ u : State, obs (u.afterCopy x f egress) = obs u :=
    fun obs h u => u.afterCopy_keeps obs h x f egress
  exact ⟨s.classSent_keeps p x f egress charge State.regs (fun _ _ _ _ _ _ _ _ => rfl) (hafter _ fun _ _ _ _ _ => rfl),
    s.classSent_keeps p x f egress charge State.coh (fun _ _ _ _ _ _ _ _ => rfl) (hafter _ fun _ _ _ _ _ => rfl),
    s.classSent_keeps p x f egress charge State.eng (fun _ _ _ _ _ _ _ _ => rfl) (hafter _ fun _ _ _ _ _ => rfl),
    s.classSent_keeps p x f egress charge State.evr (fun _ _ _ _ _ _ _ _ => rfl) (hafter _ fun _ _ _ _ _ => rfl)⟩

theorem State.out_classSent : (s.classSent p x f egress charge).out =
    s.out ++ [.frame p egress (preamble ++ padded (s.copyBytes x f egress))] := by
  unfold State.classSent
  dsimp only
  refine (State.afterCopy_keeps State.out (fun _ _ _ _ _ => rfl) _ x f egress).trans ?_
  rw [State.sentCopy_keeps _ _ _ _ _ _ State.out (fun _ _ _ _ _ => rfl), State.out_onLine]
  rfl

theorem State.txCopy_classSent : ((s.classSent p x f egress charge).port p).txCopy = some (f.frame, x.mirror) :=
  (State.afterCopy_keeps (fun u => (u.port p).txCopy) (fun _ _ _ _ _ => rfl) _ x f egress).trans (State.txCopy_sentCopy _ p x f _ egress)

/-- A copy that is no message of the device leaves slices and time base alone. -/
theorem State.classSent_no_ptp (hnone : x.ptp f.frame = none) :
    (s.classSent p x f egress charge).slices = s.slices ∧ (s.classSent p x f egress charge).tb = s.tb := by
  have hafter : ∀ u : State, u.afterCopy x f egress = u := fun u => by rw [State.afterCopy, hnone]
  exact ⟨s.classSent_keeps p x f egress charge State.slices (fun _ _ _ _ _ _ _ _ => rfl) fun u => congrArg State.slices (hafter u),
    s.classSent_keeps p x f egress charge State.tb (fun _ _ _ _ _ _ _ _ => rfl) fun u => congrArg State.tb (hafter u)⟩

/-- A message of the device is followed by what its transmission entails. -/
theorem State.classSent_ptp {m : PtpTx} (hptp : x.ptp f.frame = some m) :
    ∃ u : State, (s.classSent p x f egress charge).tb = (u.ptpLaunched m egress).tb ∧
      (s.classSent p x f egress charge).slices = (u.ptpLaunched m egress).slices := by
  refine ⟨(s.dequeued p (s.schedStamp x)).sentCopy p x f (padded (s.copyBytes x f egress)) egress, ?_, ?_⟩ <;>
    simp [State.classSent, State.afterCopy, hptp, State.modTmPort]

end ClassSent

/-- Settles O25: what holds the port or is due before a class is read off the order of the start; the head copy of the class that is
picked is launched, and what follows its launch touches neither what has left nor what the port sends. -/
theorem transmitStart : Obligations.TransmitStart := by
  unfold Obligations.TransmitStart
  intro s p lane symbol tl h
  refine ⟨fun hheld => exec_portTransmitStart_held h hheld symbol,
    fun hconf htakes hsound hbound hfirst hlast hlaunch hnone => ?_⟩
  have hmay : MayStart p lane tl s := ⟨h, hconf, htakes, hsound, hbound, hfirst, hlast, hlaunch, hnone⟩
  refine ⟨fun x hdue ce => exec_portTransmitStart_pause hmay symbol ce hdue, ?_⟩
  intro egress c x rest f hegress hdue hhanded hgates hplans hpick hhead hport hqueue hframe hoff b hb
  subst hegress
  have hc : c < 4 := List.mem_range.mp (List.mem_of_find?_eq_some hpick)
  have hp : p < 96 := (of_decide_eq_true hconf).1
  have hapart : x.queue ≠ qHanded p := by simp only [hqueue, qPort, qHanded]; omega
  have hpass := State.gatePass_off (x := x) (hport ▸ hgates) (hport ▸ hplans) (s.egressStamp (s.rateOf p) lane tl symbol)
  obtain ⟨charge, hclass⟩ := State.startClass_plain hhead (congrArg Prod.snd hpass) hframe hapart hoff
  have hexec := exec_portTransmitStart_class hmay symbol false hdue hhanded hgates hpick
  rw [hclass] at hexec
  have hbytes : b = s.copyBytes x f (s.egressStamp (s.rateOf p) lane tl symbol) := hb
  generalize s.egressStamp (s.rateOf p) lane tl symbol = egress at *
  obtain ⟨hregs, hcoh, heng, hevr⟩ := s.classSent_frame p x f egress charge
  refine ⟨_, hexec, hbytes ▸ s.out_classSent p x f egress charge, s.txCopy_classSent p x f egress charge, hregs, hcoh, heng, hevr,
    s.classSent_no_ptp p x f egress charge, fun m hptp => ?_⟩
  obtain ⟨u, htb, hslices⟩ := s.classSent_ptp p x f egress charge hptp
  rw [htb, State.slice, hslices]
  exact ⟨fun hkind => u.t3_ptpLaunched hkind egress, fun hkind => u.pdT1_ptpLaunched hkind egress,
    fun hkind htwo => u.injWait_ptpLaunched hkind htwo egress⟩

end Sys2Proof.Machine
end

section
/-! PROOFS. Faults of the ledger's units (R246 to R250, R733 to R737, R741): what a fault of a unit leaves of its kin and of the ledger, and the
spare that takes a role. -/

namespace Sys2Proof.Machine

/-! ### Units beside the one that changes -/

theorem State.unit_setUnit_ne (s : State) (k : UnitKind) (sl : Nat) {n m : Nat} (h : m ≠ n) (u : UnitSt) :
    (s.setUnit k sl n u).unit k sl m = s.unit k sl m := by
  have hkey : unitKey k sl m ≠ unitKey k sl n := by simpa only [unitKey, Nat.add_left_cancel_iff, ne_eq] using h
  exact s.svc.getD_set_ne hkey _ _

/-- A change of service state leaves every other unit of the block. -/
theorem State.unit_moveUnit_ne (s : State) (k : UnitKind) (sl : Nat) {n m : Nat} (h : m ≠ n) (next : Service) (reason : Nat) :
    (s.moveUnit k sl n next reason).unit k sl m = s.unit k sl m := by
  unfold State.moveUnit
  extract_lets u v w x
  have hv : v.unit k sl m = s.unit k sl m := by
    unfold v
    split
    · rfl
    · rfl
  have hw : w.unit k sl m = s.unit k sl m := by
    refine Eq.trans ?_ hv
    unfold w
    split
    · exact State.settlePortLines_keeps (fun y => y.unit k sl m) (fun _ _ _ _ => rfl) v n
    · rfl
  split
  · rfl
  · exact (State.eventWith_keeps (fun y => y.unit k sl m) (fun _ _ _ _ => rfl) x _ _ _).trans ((w.unit_setUnit_ne k sl h _).trans hw)

/-- A unit whose state changes keeps its role, its fault and what waits for it. -/
theorem State.unit_moveUnit_self {s : State} {k : UnitKind} {sl n : Nat} {next : Service} (h : (s.unit k sl n).state ≠ next) (reason : Nat) :
    ∃ since, (s.moveUnit k sl n next reason).unit k sl n = { s.unit k sl n with
      state := next, reason := if next = .outOfService then reason else 0, since := since } := by
  unfold State.moveUnit
  extract_lets u v w x
  rw [if_neg h]
  exact ⟨_, (State.eventWith_keeps (fun y => y.unit k sl n) (fun _ _ _ _ => rfl) x _ _ _).trans (w.unit_setUnit_self k sl n _)⟩

theorem State.unit_serviceDone_ne (s : State) (k : UnitKind) (sl : Nat) {n m : Nat} (h : m ≠ n) (st : Nat) :
    (s.serviceDone (k, sl, n) st).unit k sl m = s.unit k sl m := by
  unfold State.serviceDone
  extract_lets x
  split
  · rfl
  · exact (State.adminDone_keeps (fun y => y.unit k sl m) (fun _ _ _ _ => rfl) _ _ _ _).trans (s.unit_setUnit_ne k sl h _)

/-- A unit that leaves service leaves every other unit of the block. -/
theorem State.unit_unitFault_ne (s : State) (k : UnitKind) (sl : Nat) {n m : Nat} (h : m ≠ n) (second : Bool) :
    (s.unitFault (k, sl, n) second).unit k sl m = s.unit k sl m :=
  (State.unit_serviceDone_ne _ k sl h _).trans ((State.unit_moveUnit_ne _ k sl h _ _).trans (s.unit_setUnit_ne k sl h _))

/-- A unit that left service by its own fault is no spare that stands by (R747). -/
theorem State.fault_unitFault (s : State) (u : UnitRef) (second : Bool) : ((s.unitFault u second).unit u.1 u.2.1 u.2.2).fault = true := by
  have hdone : ∀ (v : State) st, ((v.serviceDone u st).unit u.1 u.2.1 u.2.2).fault = (v.unit u.1 u.2.1 u.2.2).fault := fun v st => by
    unfold State.serviceDone
    extract_lets x
    split
    · rfl
    · refine (State.adminDone_keeps (fun w => (w.unit u.1 u.2.1 u.2.2).fault) (fun _ _ _ _ => rfl) _ _ _ _).trans ?_
      exact (congrArg UnitSt.fault (v.unit_setUnit_self _ _ _ { x with token := none })).trans rfl
  unfold State.unitFault
  extract_lets x wasOut v w
  have hv : (v.unit u.1 u.2.1 u.2.2).fault = true := congrArg UnitSt.fault (s.unit_setUnit_self _ _ _ _)
  refine (hdone w _).trans ?_
  by_cases hstate : (v.unit u.1 u.2.1 u.2.2).state = .outOfService
  · exact (congrArg (fun y : State => (y.unit u.1 u.2.1 u.2.2).fault) (if_pos hstate)).trans hv
  · obtain ⟨since, hself⟩ := State.unit_moveUnit_self hstate (faultReason second)
    exact (congrArg UnitSt.fault hself).trans hv

/-! ### FATAL and what does not bring it -/

theorem State.fatal_raiseAlert (s : State) (sev : Nat) : (s.raiseAlert sev).evr.fatal = s.evr.fatal := by
  unfold State.raiseAlert State.assertAlert
  split
  · split
    · rfl
    · rfl
  · rfl

theorem State.fatal_eventWith (s : State) (c : Nat) (i : EvInfo) (l : List Snap) : (s.eventWith c i l).evr.fatal = s.evr.fatal := by
  unfold State.eventWith
  split
  · rfl
  split
  · exact State.count1_keeps (fun u => u.evr.fatal) (fun _ _ => rfl) _ _
  · exact (State.fatal_raiseAlert _ _).trans (State.count1_keeps (fun u => u.evr.fatal) (fun _ _ => rfl) _ _)

theorem State.fatal_moveUnit (s : State) (k : UnitKind) (sl n : Nat) (next : Service) (reason : Nat) :
    (s.moveUnit k sl n next reason).evr.fatal = s.evr.fatal := by
  unfold State.moveUnit
  extract_lets u v w x
  have hv : v.evr.fatal = s.evr.fatal := by
    unfold v
    split
    · rfl
    · rfl
  have hw : w.evr.fatal = s.evr.fatal := by
    refine Eq.trans ?_ hv
    unfold w
    split
    · exact State.settlePortLines_keeps (fun y => y.evr.fatal) (fun _ _ _ _ => rfl) v n
    · rfl
  split
  · rfl
  · exact (x.fatal_eventWith _ _ _).trans hw

theorem State.fatal_unitFault (s : State) (u : UnitRef) (second : Bool) : (s.unitFault u second).evr.fatal = s.evr.fatal := by
  unfold State.unitFault
  extract_lets x wasOut v w
  have hdone : (w.serviceDone u (if wasOut = true then stSuccess else stInternalError)).evr.fatal = w.evr.fatal :=
    State.serviceDone_keeps (fun y => y.evr.fatal) (fun _ _ _ _ _ => rfl) w u _
  exact hdone.trans (v.fatal_moveUnit _ _ _ _ _)

/-- FATAL, once declared, and the host island silenced with it (R741). -/
theorem State.fatal_declares {s : State} (h : s.evr.fatal = false) (c : Nat) :
    (s.fatal c).evr.fatal = true ∧ (s.fatal c).hif.silenced = true := by
  unfold State.fatal
  rw [if_neg (by simp [h])]
  exact ⟨State.reportAer_keeps (fun u => u.evr.fatal) (fun _ _ _ => rfl) _ _ _ _ _, State.reportAer_keeps (fun u => u.hif.silenced) (fun _ _ _ => rfl) _ _ _ _ _⟩

theorem State.fatal_openRecord (s : State) (r : ErrRec) : (s.openRecord r).evr.fatal = s.evr.fatal := by
  unfold State.openRecord
  extract_lets records u
  split
  · exact u.fatal_eventWith _ _ _
  · rfl

/-- An uncorrected error leaves the device sound, or is handled as FATAL with the host island silenced (R733 to R736, R741). -/
theorem State.uncorrected_sound_or_fatal {s : State} (h : s.evr.fatal = false) (source : Nat) (u : Option UnitRef) (item : ErrItem)
    (dma contained : Bool) (x : Nat) {c : Nat} {t : State} (ht : s.uncorrected 2 source u item dma contained x = (c, t)) :
    (c = 2 ∧ t.evr.fatal = false) ∨ (c = 3 ∧ t.evr.fatal = true ∧ t.hif.silenced = true) := by
  unfold State.uncorrected at ht
  extract_lets second cls n code told counted tel v at ht
  have hcls : cls = 2 := ite_self 2
  have hsound : v.evr.fatal = false :=
    (State.count1_keeps (fun y => y.evr.fatal) (fun _ _ => rfl) told _).trans ((s.fatal_eventWith _ _ _).trans h)
  split at ht
  · obtain ⟨rfl, rfl⟩ := Prod.mk.inj ht
    exact .inr ⟨rfl, State.fatal_declares hsound _⟩
  split at ht
  · obtain ⟨rfl, rfl⟩ := Prod.mk.inj ht
    exact .inr ⟨rfl, State.fatal_declares hsound _⟩
  · obtain ⟨hc, hopen⟩ := Prod.mk.inj ht
    exact .inl ⟨hc.symm.trans hcls, hopen ▸ (State.fatal_openRecord _ _).trans hsound⟩

theorem State.detect_sound_or_fatal {s : State} (h : s.evr.fatal = false) (source : Nat) (u : Option UnitRef) (item : ErrItem)
    (dma contained : Bool) :
    ((s.detect 2 source u item dma contained).1 = 2 ∧ (s.detect 2 source u item dma contained).2.evr.fatal = false) ∨
      ((s.detect 2 source u item dma contained).1 = 3 ∧ (s.detect 2 source u item dma contained).2.evr.fatal = true ∧
        (s.detect 2 source u item dma contained).2.hif.silenced = true) := by
  unfold State.detect
  rw [if_neg (by rw [h]; decide)]
  exact State.uncorrected_sound_or_fatal (s := (s.draw (2 ^ 32)).2) h _ _ _ _ _ _ rfl

/-- The first error of a unit within a block, while a record is free, leaves the device sound. -/
theorem State.detect_sound {s : State} {u : UnitRef} (hnew : s.recordOpen u = false) (hroom : s.evr.records.length < 64)
    (hnarrow : wideUnit (some u) = false) (h : s.evr.fatal = false) (source : Nat) (item : ErrItem) (dma contained : Bool) :
    (s.detect 2 source (some u) item dma contained).2.evr.fatal = false := by
  have hcls := State.detect_opens hnew hroom hnarrow h source item dma contained
  rcases State.detect_sound_or_fatal h source (some u) item dma contained with ⟨-, hsound⟩ | ⟨hthree, -, -⟩
  · exact hsound
  · rw [hcls] at hthree; cases hthree

/-! ### Spares -/

/-- A spare that stands by takes the role (R246). -/
theorem State.giveToSpare_takes {s : State} {k : UnitKind} {sl : Nat} (hout : (s.unit k sl (kindSpare k)).state = .outOfService)
    (hreason : (s.unit k sl (kindSpare k)).reason = 6) (hfault : (s.unit k sl (kindSpare k)).fault = false) (role : Nat) :
    s.giveToSpare k sl role = (s.setUnit k sl (kindSpare k) { s.unit k sl (kindSpare k) with role := some role }).moveUnit k sl (kindSpare k)
      .inService 0 := if_pos ⟨hout, hreason, hfault⟩

theorem State.giveToSpare_keeps {β : Sort _} (obs : State → β)
    (h : ∀ (s : State) x0 x1 x2 x3 x4 x5 x6, obs { s with svc := x0, evr := x1, out := x2, ctr := x3, mgt := x4, free := x5, hif := x6 } = obs s)
    (s : State) (k : UnitKind) (sl role : Nat) : obs (s.giveToSpare k sl role) = obs s := by
  unfold State.giveToSpare
  extract_lets n x
  split
  · exact (State.moveUnit_keeps obs h _ _ _ _ _ _).trans
      (State.setUnit_keeps obs (fun u y => h u y u.evr u.out u.ctr u.mgt u.free u.hif) s k sl n _)
  · rfl

/-- What a spare that takes a role changes: its state and its role, and neither another unit nor the soundness of the device. -/
theorem State.giveToSpare_relieves {s : State} {k : UnitKind} {sl : Nat} (hout : (s.unit k sl (kindSpare k)).state = .outOfService)
    (hreason : (s.unit k sl (kindSpare k)).reason = 6) (hfault : (s.unit k sl (kindSpare k)).fault = false) (role : Nat) :
    ((s.giveToSpare k sl role).unit k sl (kindSpare k)).state = .inService ∧
    ((s.giveToSpare k sl role).unit k sl (kindSpare k)).role = some role ∧
    (s.giveToSpare k sl role).evr.fatal = s.evr.fatal ∧
    ∀ m, m ≠ kindSpare k → (s.giveToSpare k sl role).unit k sl m = s.unit k sl m := by
  rw [State.giveToSpare_takes hout hreason hfault]
  have hset := s.unit_setUnit_self k sl (kindSpare k) { s.unit k sl (kindSpare k) with role := some role }
  have hne := fun m (hm : m ≠ kindSpare k) => s.unit_setUnit_ne k sl hm { s.unit k sl (kindSpare k) with role := some role }
  have hsound : (s.setUnit k sl (kindSpare k) { s.unit k sl (kindSpare k) with role := some role }).evr.fatal = s.evr.fatal := rfl
  generalize s.setUnit k sl (kindSpare k) { s.unit k sl (kindSpare k) with role := some role } = v at *
  have hstate : (v.unit k sl (kindSpare k)).state ≠ .inService := by
    rw [hset]
    exact fun habs => nomatch hout.symm.trans habs
  obtain ⟨since, hself⟩ := State.unit_moveUnit_self hstate 0
  refine ⟨v.state_moveUnit k sl (kindSpare k) .inService 0, ?_, (v.fatal_moveUnit _ _ _ _ _).trans hsound, fun m hm => ?_⟩
  · rw [hself, hset]
  · exact (v.unit_moveUnit_ne k sl hm _ _).trans (hne m hm)

/-- A unit that has failed neither takes a role nor loses what it is while the spare takes one. -/
theorem State.unit_giveToSpare_of_fault {s : State} {k : UnitKind} {sl n : Nat} (h : (s.unit k sl n).fault = true) (role : Nat) :
    (s.giveToSpare k sl role).unit k sl n = s.unit k sl n := by
  unfold State.giveToSpare
  extract_lets m x
  split
  next hspare =>
    have hne : n ≠ m := fun heq => by
      obtain ⟨-, -, hfault⟩ := hspare
      rw [heq] at h
      exact Bool.noConfusion (h.symm.trans hfault)
    exact (State.unit_moveUnit_ne _ k sl hne _ _).trans (s.unit_setUnit_ne k sl hne _)
  next => rfl

/-! ### A unit that an error takes out of service (R738, R746) -/

/-- A unit out of service by an uncorrected error, as its event `code` tells it. -/
def State.takenOut (s : State) (u : UnitRef) (code : Nat) (l : List Snap) : State :=
  ((s.detect 2 3 (some u) .none false false).2.eventWith code (errInfo 2 0xFF (some u)) l).unitFault u false

section TakenOut

variable (s : State) (u : UnitRef) (code : Nat) (l : List Snap)

theorem State.takenOut_keeps {β : Sort _} (obs : State → β)
    (h : ∀ (s : State) x0 x1 x2 x3 x4 x5 x6 x7 x8, obs { s with
      svc := x0, out := x1, hif := x2, qm := x3, evr := x4, ctr := x5, mgt := x6, free := x7, tel := x8 } = obs s) :
    obs (s.takenOut u code l) = obs s :=
  (State.unitFault_keeps obs (fun v _ _ _ _ _ _ _ _ => h v _ _ _ _ _ _ _ _ v.tel) _ _ _).trans <|
    (State.eventWith_keeps obs (fun v _ _ _ => h v v.svc _ v.hif v.qm _ _ v.mgt v.free v.tel) _ _ _ _).trans
      (State.detect_keeps obs (fun v _ _ _ _ _ _ _ => h v v.svc _ _ _ _ _ v.mgt _ _) s _ _ _ _ _ _)

theorem State.state_takenOut : ((s.takenOut u code l).unit u.1 u.2.1 u.2.2).state = .outOfService := State.state_unitFault _ u false

theorem State.unit_takenOut_ne (k : UnitKind) (sl : Nat) {n m : Nat} (h : m ≠ n) :
    (s.takenOut (k, sl, n) code l).unit k sl m = s.unit k sl m :=
  (State.unit_unitFault_ne _ k sl h false).trans <|
    (State.eventWith_keeps (fun v => v.unit k sl m) (fun _ _ _ _ => rfl) _ _ _ _).trans
      (State.detect_keeps (fun v => v.unit k sl m) (fun _ _ _ _ _ _ _ _ => rfl) s _ _ _ _ _ _)

theorem State.fault_takenOut : ((s.takenOut u code l).unit u.1 u.2.1 u.2.2).fault = true := State.fault_unitFault _ u false

variable {s u}

theorem State.fatal_takenOut (h : s.evr.fatal = false) (hnew : s.recordOpen u = false) (hroom : s.evr.records.length < 64)
    (hnarrow : wideUnit (some u) = false) : (s.takenOut u code l).evr.fatal = false :=
  (State.fatal_unitFault _ u false).trans
    ((State.fatal_eventWith _ _ _ _).trans (State.detect_sound hnew hroom hnarrow h 3 .none false false))

end TakenOut

/-! ### SM3_ENGINE_FAULT -/

/-- A unit that is out of service or under test, or that is none, has no fault. -/
theorem exec_sm3EngineFault_idle {s : State} (h : Serving s) {sl e : Nat} (hidle : 8 ≤ sl ∨ 11 ≤ e ∨
    (s.unit .sm3Engine sl e).state = .outOfService ∨ (s.unit .sm3Engine sl e).state = .testing) :
    exec (.sm3EngineFault sl e) s = .next s := (whenWorking_of_serving h _).trans (if_pos hidle)

section Sm3

variable {s : State} (h : Serving s) {sl e : Nat} (hsl : sl < 8) (he : e < 10) (hup : (s.unit .sm3Engine sl e).state = .inService)
  (hnew : s.recordOpen (.sm3Engine, sl, e) = false) (hroom : s.evr.records.length < 64)

include h hsl he hup hnew hroom

/-- The engine that has left gives its role to the spare of the slice, where one stands by (R246). -/
theorem exec_sm3EngineFault : exec (.sm3EngineFault sl e) s =
    .next ((s.takenOut (.sm3Engine, sl, e) 0x300A [.q sl, .q e]).giveToSpare .sm3Engine sl e) := by
  refine (whenWorking_of_serving h _).trans ((if_neg ?_).trans ?_)
  · rw [hup]
    rintro (hbig | hbig | habs | habs)
    · omega
    · omega
    · cases habs
    · cases habs
  have hcls := State.detect_opens hnew hroom rfl h.sound 3 .none false false
  have hrole : ∀ u : State, u.roleOf .sm3Engine sl e = some e := fun u => if_pos he
  simp [hcls, hnew, State.sm3Leaves, hrole, State.takenOut]

/-- The spare of the slice takes the role of the engine that has left, and the ledger goes on as it was (R246, R247). -/
theorem sm3EngineFault_relieved (hout : (s.unit .sm3Engine sl 10).state = .outOfService)
    (hreason : (s.unit .sm3Engine sl 10).reason = 6) (hfault : (s.unit .sm3Engine sl 10).fault = false) :
    ∃ t, exec (.sm3EngineFault sl e) s = .next t ∧
      (t.unit .sm3Engine sl e).state = .outOfService ∧ (t.unit .sm3Engine sl 10).state = .inService ∧
      (t.unit .sm3Engine sl 10).role = some e ∧ t.ldg = s.ldg ∧ t.evr.fatal = false ∧ t.tb = s.tb ∧ t.flow = s.flow := by
  refine ⟨_, exec_sm3EngineFault h hsl he hup hnew hroom, ?_⟩
  have hspare := s.unit_takenOut_ne 0x300A [.q sl, .q e] .sm3Engine sl (n := e) (m := 10) (by omega)
  have hgone := s.state_takenOut (.sm3Engine, sl, e) 0x300A [.q sl, .q e]
  have hsound := State.fatal_takenOut 0x300A [.q sl, .q e] h.sound hnew hroom rfl
  have hkeeps : ∀ {β : Type} (obs : State → β), (∀ (u : State) x0 x1 x2 x3 x4 x5 x6 x7 x8, obs { u with
      svc := x0, out := x1, hif := x2, qm := x3, evr := x4, ctr := x5, mgt := x6, free := x7, tel := x8 } = obs u) →
      obs ((s.takenOut (.sm3Engine, sl, e) 0x300A [.q sl, .q e]).giveToSpare .sm3Engine sl e) = obs s := fun obs hobs =>
    (State.giveToSpare_keeps obs (fun u _ _ _ _ _ _ _ => hobs u _ _ _ u.qm _ _ _ _ u.tel) _ _ _ _).trans
      (s.takenOut_keeps _ _ _ obs hobs)
  obtain ⟨hstate, hrole, hkept, hother⟩ := State.giveToSpare_relieves (k := .sm3Engine) (sl := sl)
    (s := s.takenOut (.sm3Engine, sl, e) 0x300A [.q sl, .q e]) (hspare ▸ hout) (hspare ▸ hreason) (hspare ▸ hfault) e
  exact ⟨(congrArg UnitSt.state (hother e (Nat.ne_of_lt he))).trans hgone, hstate, hrole, hkeeps State.ldg fun _ _ _ _ _ _ _ _ _ _ => rfl,
    hkept.trans hsound, hkeeps State.tb fun _ _ _ _ _ _ _ _ _ _ => rfl, hkeeps State.flow fun _ _ _ _ _ _ _ _ _ _ => rfl⟩

end Sm3

/-! ### BUILDER_SIDE_FAULT -/

theorem exec_builderSideFault_idle {s : State} (h : Serving s) {x : Nat} (hidle : 2 ≤ x ∨
    (s.unit .builderSide 0 x).state = .outOfService ∨ (s.unit .builderSide 0 x).state = .testing) :
    exec (.builderSideFault x) s = .next s := (whenWorking_of_serving h _).trans (if_pos hidle)

/-- The side that has left gives way to the other, or the device is FATAL (R248, R250). -/
theorem State.builderLeaves_takenOut (s : State) (x : Nat) :
    (s.detect 2 3 (some (.builderSide, 0, x)) .none false false).2.builderLeaves x false =
      if (s.takenOut (.builderSide, 0, x) 0x300B []).up .builderSide 0 (1 - x) then
        { s.takenOut (.builderSide, 0, x) 0x300B [] with
          ldg := { (s.takenOut (.builderSide, 0, x) 0x300B []).ldg with builderB := decide (x = 0) } }
      else (s.takenOut (.builderSide, 0, x) 0x300B []).fatal 0x300B := rfl

/-- The other side is as it was. -/
theorem State.up_takenOut_other (s : State) {x : Nat} (hx : x < 2) :
    (s.takenOut (.builderSide, 0, x) 0x300B []).up .builderSide 0 (1 - x) = s.up .builderSide 0 (1 - x) := by
  unfold State.up
  rw [s.unit_takenOut_ne 0x300B [] .builderSide 0 (by omega)]

section Builder

variable {s : State} (h : Serving s) {x : Nat} (hx : x < 2) (hup : (s.unit .builderSide 0 x).state = .inService)
  (hnew : s.recordOpen (.builderSide, 0, x) = false)

include h hx hup

theorem exec_builderSideFault : exec (.builderSideFault x) s =
    .next (if (s.detect 2 3 (some (.builderSide, 0, x)) .none false false).1 = 3 then
        (s.detect 2 3 (some (.builderSide, 0, x)) .none false false).2
      else (s.detect 2 3 (some (.builderSide, 0, x)) .none false false).2.builderLeaves x (s.recordOpen (.builderSide, 0, x))) := by
  refine (whenWorking_of_serving h _).trans (if_neg ?_)
  rw [hup]
  rintro (hbig | habs | habs)
  · omega
  · cases habs
  · cases habs

include hnew

/-- The other side goes on while it serves (R248). -/
theorem builderSideFault_relieved (hother : s.up .builderSide 0 (1 - x) = true) (hroom : s.evr.records.length < 64) :
    ∃ t, exec (.builderSideFault x) s = .next t ∧ (t.unit .builderSide 0 x).state = .outOfService ∧
      t.ldg = { s.ldg with builderB := decide (x = 0) } ∧ t.evr.fatal = false := by
  have hexec := exec_builderSideFault h hx hup
  rw [if_neg (by rw [State.detect_opens hnew hroom rfl h.sound]; decide), hnew, s.builderLeaves_takenOut,
    if_pos ((s.up_takenOut_other hx).trans hother)] at hexec
  have hgone := s.state_takenOut (.builderSide, 0, x) 0x300B []
  have hldg := s.takenOut_keeps (.builderSide, 0, x) 0x300B [] State.ldg fun _ _ _ _ _ _ _ _ _ _ => rfl
  have hsound := State.fatal_takenOut 0x300B [] h.sound hnew hroom rfl
  generalize s.takenOut (.builderSide, 0, x) 0x300B [] = v at *
  exact ⟨_, hexec, hgone, by rw [hldg], hsound⟩

/-- With no side left the device is FATAL (R250). -/
theorem builderSideFault_fatal (hother : s.up .builderSide 0 (1 - x) = false) :
    ∃ t, exec (.builderSideFault x) s = .next t ∧ t.evr.fatal = true ∧ t.hif.silenced = true := by
  have hexec := exec_builderSideFault h hx hup
  rcases State.detect_sound_or_fatal h.sound 3 (some (.builderSide, 0, x)) .none false false with ⟨htwo, hsound⟩ | ⟨hthree, hfatal⟩
  · rw [if_neg (by rw [htwo]; decide), hnew, s.builderLeaves_takenOut,
      if_neg (by rw [s.up_takenOut_other hx, hother]; decide)] at hexec
    have hstill : (s.takenOut (.builderSide, 0, x) 0x300B []).evr.fatal = false :=
      (State.fatal_unitFault _ _ false).trans ((State.fatal_eventWith _ _ _ _).trans hsound)
    exact ⟨_, hexec, State.fatal_declares hstill _⟩
  · rw [if_pos hthree] at hexec
    exact ⟨_, hexec, hfatal⟩

end Builder

/-- Settles O46: an error opens a record and takes its unit out, which leaves every other unit and the ledger; the spare or the other side
goes on from there. -/
theorem ledgerUnitFaults : Obligations.LedgerUnitFaults := by
  unfold Obligations.LedgerUnitFaults
  intro s h
  exact ⟨fun sl e => exec_sm3EngineFault_idle h,
    fun sl e hsl he hup hnew hroom hout hreason hfault => sm3EngineFault_relieved h hsl he hup hnew hroom hout hreason hfault,
    fun x => exec_builderSideFault_idle h,
    fun x hx hup hnew => ⟨builderSideFault_relieved h hx hup hnew, builderSideFault_fatal h hx hup hnew⟩⟩

end Sys2Proof.Machine
end

section
/-! PROOFS. What the boundary of a Ream leaves besides the outline (R198): coherent state, the store, boot and the run of the ledger, which
neither emission nor groups nor units that rejoin touch. -/

namespace Sys2Proof.Machine

/-! ### What no boundary moves -/

/-- What is fixed of a Ream as it begins: its number, its start, and whether a step, a boot or the genesis of the ledger begins it. -/
def ReamSt.outset (c : ReamSt) : Nat × Stamp × Bool × Bool × Bool := (c.num, c.start, c.step, c.boot, c.genesis)

/-- Whether the ledger runs, with the outset of the Ream in progress, the Ream and the root that it follows, and the newest checkpoint. -/
def State.inProgress (s : State) : Bool × Option (Nat × Stamp × Bool × Bool × Bool) × Nat × Bytes × Option Ckpt :=
  (s.ldg.running, s.ldg.cur.map ReamSt.outset, s.ldg.prevNum, s.ldg.prevRoot, s.ldg.newestCkpt)

/-- What is seen outside the ledger of what the operations of a boundary leave once the values due are in effect: the time base, coherent
state, the store, and management but for ports that have settled. -/
def State.steadyBeyondLedger (s : State) : TimeBase × Coherent × Nvm × Mgmt := (s.tb, s.coh, s.nvm, { s.mgt with settled := [] })

/-- The same with the run of the ledger. -/
def State.steady (s : State) :
    (TimeBase × Coherent × Nvm × Mgmt) × Bool × Option (Nat × Stamp × Bool × Bool × Bool) × Nat × Bytes × Option Ckpt :=
  (s.steadyBeyondLedger, s.inProgress)

theorem State.steady_of_inProgress {s t : State} (h : t.steadyBeyondLedger = s.steadyBeyondLedger)
    (hprogress : t.inProgress = s.inProgress) : t.steady = s.steady := congrArg₂ Prod.mk h hprogress

/-! ### Leaves, records and copies -/

/-- A change of a Ream that leaves what is fixed as it begins. -/
theorem State.inProgress_modReam (s : State) (n : Nat) {f : ReamSt → ReamSt}
    (hf : ∀ c, (f c).outset = c.outset) : (s.modReam n f).inProgress = s.inProgress := by
  have hcur : ∀ c : ReamSt, (if c.num = n then f c else c).outset = c.outset := fun c => by
    split
    exacts [hf c, rfl]
  simp only [State.inProgress, State.modReam, Option.map_map, Function.comp_def, hcur]

theorem State.inProgress_checkRefuse (s : State) : s.checkRefuse.inProgress = s.inProgress := by
  have hevent : ∀ (u : State) c v l, (u.event c v l).inProgress = u.inProgress := State.event_keeps State.inProgress fun _ _ _ _ => rfl
  unfold State.checkRefuse
  split_ifs
  exacts [hevent _ _ _ _, rfl, hevent _ _ _ _, rfl]

theorem State.steady_checkRefuse (s : State) : s.checkRefuse.steady = s.steady :=
  State.steady_of_inProgress (State.checkRefuse_keeps State.steadyBeyondLedger (fun _ _ _ _ _ => rfl) s) s.inProgress_checkRefuse

theorem State.inProgress_bumpAt (s : State) (f : FieldRef) (n : Nat) (t : Stamp) : (s.bumpAt f n t).inProgress = s.inProgress :=
  State.bumpAt_keeps State.inProgress (fun _ _ _ => rfl) s f n t

theorem State.inProgress_stageRecord (s : State) (l : Leaf) (n : Nat) (p : Option Nat) :
    (s.stageRecord l n p).inProgress = s.inProgress := by
  unfold State.stageRecord
  extract_lets missing full room set _ u v
  split
  · exact State.inProgress_checkRefuse _
  · exact (State.inProgress_checkRefuse _).trans ((State.inProgress_bumpAt _ _ _ _).trans (s.inProgress_modReam n fun _ => rfl))

theorem State.inProgress_postLeaf (s : State) (l : Leaf) (disp : Nat) : (s.postLeaf l disp).inProgress = s.inProgress := by
  unfold State.postLeaf
  extract_lets n l' before posted counted
  have hcounted : counted.inProgress = s.inProgress :=
    (posted.inProgress_bumpAt _ _ _).trans (s.inProgress_modReam n fun _ => rfl)
  split
  · exact (State.inProgress_stageRecord _ _ _ _).trans hcounted
  · exact hcounted

theorem State.steady_lateOutcome (s : State) (f : Frame) (disp : Nat) : (s.lateOutcome f disp).steady = s.steady :=
  State.steady_of_inProgress (State.lateOutcome_keeps State.steadyBeyondLedger (fun _ _ _ _ _ _ => rfl) s f disp)
    (s.inProgress_postLeaf _ _)

theorem State.inProgress_settleFrame (s : State) (f : Nat) : (s.settleFrame f).inProgress = s.inProgress := by
  refine Eq.trans ?_ (State.releaseFrame_keeps State.inProgress (fun _ _ _ => rfl) s f)
  unfold State.settleFrame State.forget
  split
  exacts [rfl, rfl]

theorem State.steady_settleFrame (s : State) (f : Nat) : (s.settleFrame f).steady = s.steady :=
  State.steady_of_inProgress (State.settleFrame_keeps State.steadyBeyondLedger (fun _ _ _ _ => rfl) s f) (s.inProgress_settleFrame f)

theorem State.steady_dropCopy (s : State) (c : Copy) (disp : Nat) : (s.dropCopy c disp).steady = s.steady := by
  refine State.steady_of_inProgress (State.dropCopy_keeps State.steadyBeyondLedger (fun _ _ _ _ _ _ _ _ _ => rfl) s c disp) ?_
  unfold State.dropCopy
  split
  · rfl
  · extract_lets late sent
    have hlate : late.inProgress = s.inProgress := by
      unfold late
      split
      exacts [rfl, s.inProgress_postLeaf _ _]
    have hsent : sent.inProgress = late.inProgress := by
      unfold sent
      split
      exacts [rfl, rfl]
    exact (State.inProgress_settleFrame _ _).trans (hsent.trans hlate)

theorem State.steady_count (s : State) (a n : Nat) (t : Stamp) : (s.count a n t).steady = s.steady :=
  State.count_keeps State.steady (fun _ _ => rfl) s a n t

theorem State.steady_event (s : State) (c v : Nat) (l : List Snap) : (s.event c v l).steady = s.steady :=
  State.event_keeps State.steady (fun _ _ _ _ => rfl) s c v l

theorem State.steady_dropAtPort (s : State) (c : Copy) : (s.dropAtPort c).steady = s.steady :=
  (State.steady_dropCopy _ c 0x40).trans (s.steady_count _ _ _)

theorem State.steady_discardHost (s : State) (c : Copy) : (s.discardHost c).steady = s.steady := by
  unfold State.discardHost
  split
  · refine (State.steady_dropCopy _ _ _).trans ?_
    exact (State.genReport_keeps State.steady (fun _ _ _ _ _ _ => rfl) _ _ _ _ _ _ _).trans
      ((State.steady_event _ _ _ _).trans (s.steady_count _ _ _))
  · exact s.steady_dropCopy c 0x40

/-! ### Emission -/

theorem State.steady_verdictCounted (s : State) (m : MergeSt) (c : Copy) : (s.verdictCounted m c).steady = s.steady := by
  unfold State.verdictCounted
  split
  next v hv =>
    unfold State.spillVerdict at hv
    split at hv
    · unfold State.spillRefused at hv
      extract_lets q hbm free h at hv
      split_ifs at hv
      · cases hv
        exact s.steady_count _ _ _
      · cases hv
        exact (State.steady_event _ _ _ _).trans (s.steady_count _ _ _)
    · cases hv
  next => rfl

theorem State.steady_markSpill (s : State) (wq : Nat) : (s.markSpill wq).steady = s.steady := by
  unfold State.markSpill
  split
  exacts [rfl, rfl]

theorem State.steady_placeCopy (s : State) (m : MergeSt) (c : Copy) (q : Nat) (spilled refused : Bool) :
    (s.placeCopy m c q spilled refused).steady = s.steady := by
  unfold State.placeCopy
  extract_lets u
  have hu : u.steady = s.steady := rfl
  clear_value u
  rw [← hu]
  split
  · split
    · exact u.steady_dropAtPort c
    split
    · exact (State.steady_dropCopy _ _ _).trans (u.steady_count _ _ _)
    · rfl
  split
  · exact u.steady_discardHost c
  split
  · exact u.steady_dropCopy c 0x40
  · refine (State.steady_markSpill _ _).trans ?_
    split
    exacts [u.steady_settleFrame _, rfl]

theorem State.steady_passCopy (s : State) (g id seq flags : Nat) : (s.passCopy g id seq flags).steady = s.steady := by
  cases hheld : (s.queue (qMerge g)).find? (·.id = id) with
  | none =>
    unfold State.passCopy
    rw [hheld]
  | some c =>
    obtain ⟨c', q, spilled, refused, hpass⟩ := State.passCopy_of_held hheld seq flags
    rw [hpass]
    refine (State.steady_placeCopy _ _ _ _ _ _).trans ?_
    exact (State.unqueue_keeps State.steady (fun _ _ => rfl) _ c).trans (s.steady_verdictCounted _ c)

theorem State.steady_lateEmission (s : State) (g : Nat) (d : Desc) (seq : Nat) : (s.lateEmission g d seq).steady = s.steady := by
  unfold State.lateEmission
  extract_lets u
  have hu : u.steady = s.steady := (State.steady_event _ _ _ _).trans (s.steady_count _ _ _)
  split
  · split
    exacts [(u.steady_lateOutcome _ _).trans hu, hu]
  · exact hu

theorem State.steady_numberEmission (s : State) (g : Nat) (d : Desc) (flags : Nat) :
    (s.numberEmission g d flags).steady = s.steady := by
  unfold State.numberEmission
  extract_lets u v
  have hu : u.steady = s.steady := s.steady_count _ _ _
  have hv : v.steady = u.steady := by
    unfold v
    split
    exacts [u.steady_count _ _ _, rfl]
  exact hv.trans hu

theorem State.steady_emitDesc (s : State) (g : Nat) (d : Desc) (flags : Nat) : (s.emitDesc g d flags).steady = s.steady := by
  rw [s.emitDesc_eq, State.steady_passCopy]
  split
  · rw [State.steady_lateEmission, State.steady_numberEmission]
  · exact s.steady_numberEmission g d flags

theorem State.steady_modMerge (s : State) (g : Nat) (f : MergeSt → MergeSt) : (s.modMerge g f).steady = s.steady := rfl

theorem State.steady_emitAll (s : State) (g flags : Nat) : (s.emitAll g flags).steady = s.steady :=
  foldl_keeps State.steady _ (fun u d => u.steady_emitDesc g d flags) _ _

theorem State.steady_drainGroup (g n : Nat) (s : State) : (State.drainGroup g n s).steady = s.steady := by
  induction n generalizing s with
  | zero => rfl
  | succ n ih =>
    unfold State.drainGroup
    split
    · rfl
    · extract_lets pop
      split
      · exact (ih _).trans (State.steady_emitDesc _ _ _ _)
      · split
        · exact (ih _).trans (State.steady_emitDesc _ _ _ _)
        · rfl

/-! ### Merge and release groups -/

theorem State.steady_adminDone (s : State) (t : AdminTok) (st : Nat) (l : List (Nat × Bytes)) :
    (s.adminDone t st l).steady = s.steady := State.adminDone_keeps State.steady (fun _ _ _ _ => rfl) s t st l

theorem State.steady_foldl_setReg (l : List Nat) (a v : State → Nat → Nat) (s : State) :
    (l.foldl (fun (u : State) w => u.setReg (a u w) (v u w)) s).steady = s.steady :=
  foldl_keeps State.steady (fun (u : State) w => u.setReg (a u w) (v u w)) (fun _ _ => rfl) l s

theorem State.steady_finishDestroys (s : State) : s.finishDestroys.steady = s.steady :=
  foldl_keeps State.steady _ (fun u _ => u.steady_adminDone _ _ _) _ _

theorem State.steady_createMerge (s : State) (a : MergeArgs) (ream : Nat) : (s.createMerge a ream).steady = s.steady := by
  unfold State.createMerge
  extract_lets u v
  have hv : v.steady = u.steady :=
    State.steady_foldl_setReg (List.range 3) (fun _ w => Reg.mrgMembers a.group w) (fun _ w => memberWord a.members w) u
  clear_value v
  exact (State.steady_modMerge v _ _).trans hv

theorem State.steady_applyMerge (s : State) (w : GroupWait) (ream : Nat) : (s.applyMerge w ream).steady = s.steady := by
  unfold State.applyMerge
  split
  · exact (State.steady_adminDone _ _ _ _).trans ((State.steady_event _ _ _ _).trans (s.steady_createMerge _ ream))
  · exact State.steady_adminDone _ _ _ _
  · refine (State.steady_finishDestroys _).trans ?_
    exact (State.steady_event _ 0x7003 1 []).trans (s.steady_emitAll w.group flagWindowed)
  · rfl

theorem State.steady_mergeBoundary (s : State) (ream : Nat) (start : Stamp) : (s.mergeBoundary ream start).steady = s.steady := by
  unfold State.mergeBoundary State.evalGroups
  refine (foldl_keeps State.steady _ (fun u g => State.steady_drainGroup g _ u) _ _).trans
    ((foldl_keeps State.steady _ (fun u g => ?_) _ _).trans (foldl_keeps State.steady _ (fun u w => u.steady_applyMerge w ream) _ _))
  split
  · rfl
  · extract_lets ps v w
    have hwords : v.steady = u.steady :=
      State.steady_foldl_setReg (List.range 3) (fun _ w => Reg.mrgMembers g w) (fun _ w => memberWord ps w) u
    split
    exacts [hwords, hwords]

theorem State.steady_setAlign (s : State) (p a : Nat) : (s.setAlign p a).steady = s.steady := by
  unfold State.setAlign
  split
  · rfl
  extract_lets _ u
  split
  · exact u.steady_event _ _ _
  split
  exacts [u.steady_event _ _ _, rfl]

theorem State.steady_refreshMember (s : State) (p ream : Nat) : (s.refreshMember p ream).steady = s.steady := by
  unfold State.refreshMember
  extract_lets group release
  clear_value group
  cases group with
  | none => exact State.steady_setAlign _ _ _
  | some g =>
    dsimp -zeta only
    extract_lets joined u
    split
    · exact u.steady_setAlign _ _
    split
    · exact u.steady_setAlign _ _
    split
    exacts [u.steady_setAlign _ _, rfl]

theorem State.steady_applyRelease (s : State) (w : GroupWait) (ream : Nat) : (s.applyRelease w ream).steady = s.steady := by
  unfold State.applyRelease
  refine (State.steady_adminDone _ _ _ _).trans ?_
  split
  · next a _ _ =>
      extract_lets u v
      have hv : v.steady = u.steady :=
        State.steady_foldl_setReg (List.range 3) (fun _ w => Reg.relMembers a.group w) (fun _ w => memberWord a.members w) u
      clear_value v
      exact hv
  · extract_lets u
    unfold u
    split
    exacts [rfl, rfl]
  · rfl

theorem State.steady_releaseBoundary (s : State) (ream : Nat) (start : Stamp) : (s.releaseBoundary ream start).steady = s.steady := by
  unfold State.releaseBoundary
  refine (foldl_keeps State.steady _ (fun u p => u.steady_refreshMember p ream) _ _).trans ?_
  refine (foldl_keeps State.steady _ (fun u g => ?_) _ _).trans ?_
  · exact State.steady_foldl_setReg (List.range 3) (fun _ w => Reg.relMembers g w)
      (fun _ w => memberWord ((u.memberPorts (F.relMembers_ports g)).filter u.configured) w) u
  · exact foldl_keeps State.steady _ (fun u w => u.steady_applyRelease w ream) _ _

/-! ### Units that rejoin -/

theorem State.steady_moveUnit (s : State) (k : UnitKind) (sl n : Nat) (x : Service) (r : Nat) :
    (s.moveUnit k sl n x r).steady = s.steady := by
  unfold State.moveUnit
  extract_lets u v w y
  have hv : v.steady = s.steady := by
    unfold v
    split
    exacts [rfl, rfl]
  have hw : w.steady = v.steady := by
    unfold w
    split
    exacts [State.settlePortLines_keeps State.steady (fun _ _ _ _ => rfl) v n, rfl]
  split
  · rfl
  · exact (State.eventWith_keeps State.steady (fun _ _ _ _ => rfl) y _ _ _).trans (hw.trans hv)

theorem State.steady_serviceDone (s : State) (u : UnitRef) (st : Nat) : (s.serviceDone u st).steady = s.steady :=
  State.serviceDone_keeps State.steady (fun _ _ _ _ _ => rfl) s u st

theorem State.steady_enterService (s : State) (u : UnitRef) (fence : Nat) : (s.enterService u fence).steady = s.steady := by
  unfold State.enterService
  extract_lets v _ w x
  have hw : w.steady = s.steady := s.steady_moveUnit _ _ _ _ _
  have hx : x.steady = w.steady := by
    unfold x
    split
    exacts [State.startLink_keeps State.steady (fun _ _ _ => rfl) w _, rfl]
  exact (x.steady_serviceDone _ _).trans (hx.trans hw)

theorem State.steady_becomeSpare (s : State) (u : UnitRef) : (s.becomeSpare u).steady = s.steady :=
  (State.steady_serviceDone _ _ _).trans (State.steady_moveUnit _ _ _ _ _ _)

theorem State.steady_deckleSides (s : State) : s.deckleSides.steady = s.steady := by
  unfold State.deckleSides
  extract_lets a b _ u v
  split
  · rfl
  split
  · rfl
  · exact (foldl_keeps State.steady _ (fun y g => y.steady_emitAll g flagLate) _ _).trans (State.steady_event _ _ _ _)

theorem State.steady_rejoinUnit (s : State) (u : UnitRef) : (s.rejoinUnit u).steady = s.steady := by
  obtain ⟨k, sl, n⟩ := u
  unfold State.rejoinUnit
  dsimp -zeta only
  split
  · exact (State.steady_deckleSides _).trans (s.steady_enterService _ _)
  · extract_lets v active
    have hv : v.steady = s.steady := s.steady_enterService _ _
    split
    exacts [hv, hv]
  · extract_lets spare v
    split
    · refine (State.steady_enterService _ _ _).trans ?_
      unfold v
      split
      exacts [s.steady_becomeSpare _, rfl]
    · split
      exacts [State.steady_enterService _ _ _, s.steady_becomeSpare _]

theorem State.steady_rejoinAll (s : State) : s.rejoinAll.steady = s.steady := by
  refine foldl_keeps State.steady _ (fun u x => ?_) _ s
  split
  exacts [u.steady_rejoinUnit x, rfl]

/-! ### Values that a boundary puts in effect -/

theorem State.steady_cableBoundary (s : State) (p ream : Nat) : (s.cableBoundary p ream).steady = s.steady := by
  unfold State.cableBoundary
  extract_lets c moved mean c' _ t u delay stamping
  have hu : u.steady = s.steady := by
    unfold u
    split
    exacts [t.steady_event _ _ _, rfl]
  split
  exacts [hu, hu]

theorem State.epoch_applyReam (s : State) (start : Stamp) : (s.applyReam start).coh.epoch = s.coh.epoch := by
  unfold State.applyReam
  split
  · rfl
  · extract_lets words lists old u new keep v w gates
    refine (foldl_keeps (fun u : State => u.coh.epoch) (fun (u : State) p => u.pendGates p start _) (fun _ _ => rfl) _ _).trans ?_
    exact State.applyWords_keeps (fun x => x.coh.epoch) (fun _ _ => rfl) s .ream words

theorem State.steady_leaveSets (s : State) : s.leaveSets.steady = s.steady := by
  have hset : ∀ (u : State) a b v w, ((u.setReg a v).setReg b w).steady = u.steady := fun _ _ _ _ _ => rfl
  unfold State.leaveSets
  extract_lets stay u
  have hu : u.steady = s.steady := by
    unfold u
    split
    · rfl
    · exact foldl_keeps State.steady _ (fun v g => foldl_keeps State.steady _ (fun w k => hset _ _ _ _ _) _ v) _ s
  exact hu

theorem State.coh_applyKey (s : State) : s.applyKey.2.coh = s.coh := by
  unfold State.applyKey
  extract_lets want
  split
  · rfl
  split
  · exact (State.event_keeps State.coh (fun _ _ _ _ => rfl) _ _ _ _).trans (State.jrnStart_keeps State.coh (fun _ _ => rfl) _ _ _)
  · exact State.event_keeps State.coh (fun _ _ _ _ => rfl) s _ _ _

theorem State.steady_checkStale (s : State) : s.checkStale.steady = s.steady := by
  refine State.steady_of_inProgress (State.checkStale_keeps State.steadyBeyondLedger (fun _ _ _ _ _ _ => rfl) s) ?_
  unfold State.checkStale
  extract_lets stale u
  have hu : u.inProgress = s.inProgress := by
    unfold u
    split
    exacts [State.event_keeps State.inProgress (fun _ _ _ _ => rfl) s _ _ _, rfl]
  rw [← hu]
  simp only [State.inProgress, Option.map_map, Function.comp_def]
  rfl

theorem State.steady_calBoundary (s : State) (ream : Nat) (start : Stamp) : (s.calBoundary ream start).steady = s.steady :=
  State.steady_checkStale _

/-- The Ream that begins is marked neither by a step nor by a boot; the rest is as the values due left it. -/
theorem State.steady_beginReam {s : State} {n : Nat} (hfree : s.reservedOut n = false) (start : Stamp) :
    (s.beginReam n start).steady = ((s.valuesApplied n start).steadyBeyondLedger, (s.valuesApplied n start).ldg.running,
      some (n, start, false, false, false), (s.valuesApplied n start).ldg.prevNum, (s.valuesApplied n start).ldg.prevRoot,
      (s.valuesApplied n start).ldg.newestCkpt) := by
  rw [s.beginReam_eq, if_neg (by simp [hfree]), State.steady_rejoinAll, State.steady_releaseBoundary, State.steady_mergeBoundary,
    State.steady_checkRefuse]
  rfl

/-- What a boundary puts in effect beyond the outline is the S/Ream class, not the configuration epoch (R34). -/
theorem State.epoch_valuesApplied (s : State) (n : Nat) (start : Stamp) : (s.valuesApplied n start).coh.epoch = s.coh.epoch := by
  have hsteady : ∀ {u v : State}, u.steady = v.steady → u.coh.epoch = v.coh.epoch := fun heq =>
    congrArg (fun x => x.1.2.1.epoch) heq
  unfold State.valuesApplied
  refine (hsteady (foldl_keeps State.steady _ (fun u p => u.steady_cableBoundary p n) _ _)).trans ?_
  rw [hsteady (State.steady_calBoundary _ n start), State.coh_applyKey, State.epoch_applyReam, hsteady s.steady_leaveSets]

end Sys2Proof.Machine
end

section
/-! PROOFS. The life of a Ream (R185, R197 to R202, R205, R208 to R210, R218 to R220, R227): its boundary, its seal, its signature and its
checkpoint. -/

namespace Sys2Proof.Machine

/-! ### REAM_BOUNDARY (R197, R198) -/

theorem exec_reamBoundary_idle {s : State} (h : Serving s) (hcur : s.ldg.cur = none) : exec .reamBoundary s = .next s := by
  refine (whenWorking_of_serving h _).trans ?_
  rw [hcur]

theorem exec_reamBoundary_early {s : State} (h : Serving s) {c : ReamSt} (hcur : s.ldg.cur = some c)
    (hearly : s.now < nextBoundary s.reamSpan c.start) : exec .reamBoundary s = .next s := by
  refine (whenWorking_of_serving h _).trans ?_
  rw [hcur]
  exact if_pos hearly

/-- A checkpoint that waits to be tried again at a boundary is taken up there (R209). -/
def State.retryCkpt (s : State) : State :=
  if s.ldg.ckptRetry ∧ s.ldg.ckptWaiting.isNone then { s with ldg := { s.ldg with ckptWaiting := s.ldg.lastReam } } else s

theorem exec_reamBoundary_due {s : State} (h : Serving s) {c : ReamSt} (hcur : s.ldg.cur = some c)
    (hdue : nextBoundary s.reamSpan c.start ≤ s.now) : exec .reamBoundary s =
      .next ((s.endReam (nextBoundary s.reamSpan c.start) false).beginReam (c.num + 1) (nextBoundary s.reamSpan c.start)).retryCkpt := by
  refine (whenWorking_of_serving h _).trans ?_
  rw [hcur]
  exact (if_neg (Nat.not_lt.mpr hdue)).trans (apply_ite Host.Outcome.next _ _ _).symm

theorem State.outline_endReam {s : State} {c : ReamSt} (hcur : s.ldg.cur = some c) (stop : Stamp) (step : Bool) :
    (s.endReam stop step).outline = (s.tb, none, (c.num, some stop, step) :: s.outline.2.2.1, s.ldg.newestCkpt) := by
  unfold State.endReam
  rw [hcur]
  rfl

theorem State.coh_endReam (s : State) (stop : Stamp) (step : Bool) : (s.endReam stop step).coh = s.coh := by
  unfold State.endReam
  split
  exacts [rfl, rfl]

/-- The Ream in progress ends at its boundary, where the next number begins. -/
theorem reamBoundary_begins_next {s : State} (h : Serving s) {c : ReamSt} (hcur : s.ldg.cur = some c)
    (hdue : nextBoundary s.reamSpan c.start ≤ s.now) (hfree : s.reservedOut (c.num + 1) = false) :
    ∃ t n, exec .reamBoundary s = .next t ∧
      t.ldg.cur = some n ∧ n.num = c.num + 1 ∧ n.start = nextBoundary s.reamSpan c.start ∧ n.step = false ∧
      (∃ r ∈ t.ldg.ended, r.num = c.num ∧ r.stop = some (nextBoundary s.reamSpan c.start) ∧ r.step = false) ∧
      t.tb.time = s.tb.time ∧ t.coh.epoch = s.coh.epoch := by
  have hend := State.outline_endReam hcur (nextBoundary s.reamSpan c.start) false
  have hcoh := s.coh_endReam (nextBoundary s.reamSpan c.start) false
  have hexec := exec_reamBoundary_due h hcur hdue
  generalize s.endReam (nextBoundary s.reamSpan c.start) false = u at *
  have hfree' : u.reservedOut (c.num + 1) = false :=
    (State.reservedOut_of_newestCkpt (congrArg (fun o => o.2.2.2) hend) _).trans hfree
  have houtline := State.outline_beginReam hfree' (nextBoundary s.reamSpan c.start)
  have hsteady := State.steady_beginReam hfree' (nextBoundary s.reamSpan c.start)
  have hepoch := u.epoch_valuesApplied (c.num + 1) (nextBoundary s.reamSpan c.start)
  generalize u.beginReam (c.num + 1) (nextBoundary s.reamSpan c.start) = v at *
  have hretry : v.retryCkpt.ldg.cur = v.ldg.cur ∧ v.retryCkpt.ldg.ended = v.ldg.ended ∧ v.retryCkpt.tb = v.tb ∧
      v.retryCkpt.coh = v.coh := by
    unfold State.retryCkpt
    split
    exacts [⟨rfl, rfl, rfl, rfl⟩, ⟨rfl, rfl, rfl, rfl⟩]
  obtain ⟨hcur', hended', htb', hcoh'⟩ := hretry
  have hnow : v.ldg.cur.map ReamSt.outset = some (c.num + 1, nextBoundary s.reamSpan c.start, false, false, false) :=
    congrArg (fun x => x.2.2.1) hsteady
  obtain ⟨n, hn, hfields⟩ := Option.map_eq_some_iff.mp hnow
  obtain ⟨hnum, hstart, hstep, -, -⟩ : n.num = c.num + 1 ∧ n.start = nextBoundary s.reamSpan c.start ∧ n.step = false ∧
    n.boot = false ∧ n.genesis = false := by simpa [ReamSt.outset] using hfields
  have hended : v.ldg.ended.map (fun r => (r.num, r.stop, r.step)) =
      (c.num, some (nextBoundary s.reamSpan c.start), false) :: s.outline.2.2.1 :=
    (congrArg (fun o => o.2.2.1) houtline).trans (congrArg (fun o => o.2.2.1) hend)
  obtain ⟨r, hr, hfields⟩ := List.mem_map.mp (hended ▸ List.mem_cons_self)
  obtain ⟨hrnum, hrstop, hrstep⟩ : r.num = c.num ∧ r.stop = some (nextBoundary s.reamSpan c.start) ∧ r.step = false := by
    simpa using hfields
  refine ⟨v.retryCkpt, n, hexec, hcur'.trans hn, hnum, hstart, hstep, ⟨r, hended' ▸ hr, hrnum, hrstop, hrstep⟩, ?_, ?_⟩
  · exact congrArg TimeBase.time (htb'.trans ((congrArg (fun o => o.1) houtline).trans (congrArg (fun o => o.1) hend)))
  · have hv : v.coh.epoch = (u.valuesApplied (c.num + 1) (nextBoundary s.reamSpan c.start)).coh.epoch :=
      congrArg (fun x => x.1.2.1.epoch) hsteady
    rw [hcoh', hv, hepoch, hcoh]

end Sys2Proof.Machine
end

section
/-! PROOFS. The seal of a Ream (R185, R200 to R206, R218 to R220, R227, R235). -/

namespace Sys2Proof.Machine

/-! ### What a seal's pass over the ledger ports leaves -/

/-- What the seal of a Ream works with: its number and ports, the header reserve, the chain of roots, and how many Reams have ended. -/
def State.sealing (s : State) (n : Nat) : Option (Nat × List Nat) × List HdrSt × Bytes × Nat :=
  ((s.openReam n).map fun c => (c.num, c.ports), s.ldg.headers, s.ldg.prevRoot, s.ldg.ended.length)

theorem State.sealing_modReam (s : State) (n m : Nat) {f : ReamSt → ReamSt} (hf : ∀ c, (f c).num = c.num ∧ (f c).ports = c.ports) :
    (s.modReam n f).sealing m = s.sealing m := by
  have hopen : ((s.modReam n f).openReam m).map (fun c => (c.num, c.ports)) = (s.openReam m).map fun c => (c.num, c.ports) := by
    rw [s.openReam_modReam n m f fun c => (hf c).1, Option.map_map]
    congr 1
    funext c
    dsimp only [Function.comp]
    split
    · rw [(hf c).1, (hf c).2]
    · rfl
  unfold State.sealing
  rw [hopen]
  simp [State.modReam]

theorem State.sealing_event (s : State) (c v : Nat) (l : List Snap) (m : Nat) : (s.event c v l).sealing m = s.sealing m :=
  State.event_keeps (State.sealing · m) (fun _ _ _ _ => rfl) s c v l

theorem State.sealing_checkRefuse (s : State) (m : Nat) : s.checkRefuse.sealing m = s.sealing m := by
  unfold State.checkRefuse
  split_ifs
  exacts [State.sealing_event _ _ _ _ m, rfl, State.sealing_event _ _ _ _ m, rfl]

theorem State.sealing_bumpAt (s : State) (f : FieldRef) (n : Nat) (t : Stamp) (m : Nat) : (s.bumpAt f n t).sealing m = s.sealing m :=
  State.bumpAt_keeps (State.sealing · m) (fun _ _ _ => rfl) s f n t

theorem State.sealing_stageRecord (s : State) (l : Leaf) (n m : Nat) (p : Option Nat) : (s.stageRecord l n p).sealing m = s.sealing m := by
  unfold State.stageRecord
  extract_lets missing full room set
  split
  · exact State.sealing_checkRefuse _ m
  · refine (State.sealing_checkRefuse _ m).trans ((State.sealing_bumpAt _ _ _ _ m).trans ?_)
    exact s.sealing_modReam n m fun _ => ⟨rfl, rfl⟩

theorem State.sealing_inFlight (s : State) (r : ReamSt) (l : Leaf) (m : Nat) : (s.inFlight r l).sealing m = s.sealing m := by
  unfold State.inFlight
  extract_lets cls l' u _ v counted
  have hcounted : counted.sealing m = s.sealing m :=
    (State.sealing_bumpAt _ _ _ _ m).trans (s.sealing_modReam r.num m fun _ => ⟨rfl, rfl⟩)
  split
  exacts [(State.sealing_stageRecord _ _ _ m _).trans hcounted, hcounted]

theorem State.sealPort_keeps {β : Sort _} (obs : State → β) (hevent : ∀ (s : State) c v l, obs (s.event c v l) = obs s)
    (hleaf : ∀ (s : State) r l, obs (s.inFlight r l) = obs s) (s : State) (r : ReamSt) (p : Nat) :
    obs (s.sealPort r p).2 = obs s := by
  unfold State.sealPort
  split
  exacts [foldl_keeps obs _ (fun u l => hleaf u r l) _ s, hevent s _ _ _]

/-- What neither an event nor an IN_FLIGHT leaf moves is kept by the pass (R204, R205). -/
theorem State.sealPorts_keeps {β : Sort _} (obs : State → β) (hevent : ∀ (s : State) c v l, obs (s.event c v l) = obs s)
    (hleaf : ∀ (s : State) r l, obs (s.inFlight r l) = obs s) (s : State) (r : ReamSt) : obs (s.sealPorts r).2 = obs s :=
  foldl_keeps (fun a : Bool × State => obs a.2)
    (fun (a : Bool × State) p => let x := a.2.sealPort r p; (a.1 || x.1, x.2))
    (fun a p => State.sealPort_keeps obs hevent hleaf a.2 r p) _ (false, s)

/-! ### Headers released and handed to the signers (R218, R220) -/

section HandOff

variable {β : Sort _} (obs : State → β)

theorem State.releaseUnsigned_keeps
    (h : ∀ (s : State) x0 x1 x2 x3 x4 x5 x6 x7, obs { s with
      ldg := { s.ldg with headers := x0, lastReleased := x1, lastUnsigned := x2, lastReam := x3, ckptWaiting := x4 }
      evr := x5, out := x6, ctr := x7 } = obs s)
    (s : State) (x : HdrSt) : obs (s.releaseUnsigned x) = obs s := by
  unfold State.releaseUnsigned
  extract_lets u v
  have hv : obs v = obs s := by
    unfold v State.noteReleased
    split
    · exact h s _ _ _ _ _ s.evr s.out s.ctr
    · exact h s _ _ _ _ _ s.evr s.out s.ctr
  have hevent : obs (v.event 0x300E 3 []) = obs v :=
    State.event_keeps obs (fun y _ _ _ => h y y.ldg.headers y.ldg.lastReleased y.ldg.lastUnsigned y.ldg.lastReam y.ldg.ckptWaiting _ _ _) v _ _ _
  generalize v.event 0x300E 3 [] = w at *
  exact (h w _ w.ldg.lastReleased w.ldg.lastUnsigned _ _ w.evr w.out w.ctr).trans (hevent.trans hv)

/-- A header without a signer handed to one that has none in hand. -/
def State.handTo (s : State) (n : Nat) : State :=
  if s.unsignedHeaders.any fun h => decide (h.signer = some n) then s
  else match s.unsignedHeaders.find? fun h => !s.signedFor h with
    | some h => s.modHeader h.ream fun h => { h with signer := some n }
    | none => s

theorem State.handOff_of_signers {s : State} (h : s.signersUp ≠ []) : s.handOff = s.signersUp.foldl State.handTo s := if_neg h

theorem State.handTo_cases (s : State) (n : Nat) : s.handTo n = s ∨ ∃ x ∈ s.ldg.headers, x.released = false ∧
    s.handTo n = s.modHeader x.ream fun h => { h with signer := some n } := by
  unfold State.handTo
  split
  · exact .inl rfl
  · split
    next x hx =>
      obtain ⟨hmem, hopen⟩ := List.mem_filter.mp (List.mem_of_find?_eq_some hx)
      exact .inr ⟨x, hmem, by simpa using hopen, rfl⟩
    next => exact .inl rfl

theorem State.handTo_keeps (h : ∀ (s : State) x, obs { s with ldg := { s.ldg with headers := x } } = obs s) (s : State) (n : Nat) :
    obs (s.handTo n) = obs s := by
  obtain heq | ⟨x, -, -, heq⟩ := s.handTo_cases n
  exacts [by rw [heq], heq ▸ h s _]

theorem State.handOff_keeps
    (h : ∀ (s : State) x0 x1 x2 x3 x4 x5 x6 x7, obs { s with
      ldg := { s.ldg with headers := x0, lastReleased := x1, lastUnsigned := x2, lastReam := x3, ckptWaiting := x4 }
      evr := x5, out := x6, ctr := x7 } = obs s)
    (s : State) : obs s.handOff = obs s := by
  by_cases hsigners : s.signersUp = []
  · refine (congrArg obs (if_pos hsigners)).trans ?_
    exact foldl_keeps obs _ (fun u x => State.releaseUnsigned_keeps obs h u x) _ s
  · rw [State.handOff_of_signers hsigners]
    exact foldl_keeps obs _ (fun u n => State.handTo_keeps obs
      (fun v x => h v x v.ldg.lastReleased v.ldg.lastUnsigned v.ldg.lastReam v.ldg.ckptWaiting v.evr v.out v.ctr) u n) _ s

/-- A header put in the reserve, or lost, moves nothing but what the reserve and its signing move (R235). -/
theorem State.addHeader_keeps
    (h : ∀ (s : State) x0 x1 x2 x3 x4 x5 x6 x7 x8 x9, obs { s with
      ldg := { s.ldg with
        headers := x0, lastReleased := x1, lastUnsigned := x2, lastReam := x3, ckptWaiting := x4, stagingHwm := x8 }
      evr := x5, out := x6, ctr := x7, regs := x9 } = obs s)
    (s : State) (x : HdrSt) : obs (s.addHeader x) = obs s := by
  have hevr : ∀ (u : State) x0 x1 x2, obs { u with evr := x0, out := x1, ctr := x2 } = obs u := fun u x0 x1 x2 =>
    h u u.ldg.headers u.ldg.lastReleased u.ldg.lastUnsigned u.ldg.lastReam u.ldg.ckptWaiting x0 x1 x2 u.ldg.stagingHwm u.regs
  unfold State.addHeader
  split
  · have hlost : obs ((s.bump F.ldgHdrLost_count 1).event 0x300D 3 []) = obs s :=
      (State.event_keeps obs hevr _ _ _ _).trans <| State.bump_keeps obs (fun u x0 x1 => h u u.ldg.headers u.ldg.lastReleased
        u.ldg.lastUnsigned u.ldg.lastReam u.ldg.ckptWaiting u.evr u.out x1 u.ldg.stagingHwm x0) s _ _
    generalize (s.bump F.ldgHdrLost_count 1).event 0x300D 3 [] = u at *
    exact (h u u.ldg.headers u.ldg.lastReleased u.ldg.lastUnsigned _ _ u.evr u.out u.ctr u.ldg.stagingHwm u.regs).trans hlost
  · extract_lets u
    refine (State.handOff_keeps obs (fun v x0 x1 x2 x3 x4 x5 x6 x7 => h v x0 x1 x2 x3 x4 x5 x6 x7 v.ldg.stagingHwm v.regs) _).trans ?_
    exact h s _ s.ldg.lastReleased s.ldg.lastUnsigned s.ldg.lastReam s.ldg.ckptWaiting s.evr s.out s.ctr _ s.regs

end HandOff

/-- What a header shows beside its signer. -/
def HdrSt.shown (h : HdrSt) : Nat × Bytes × Bool := (h.ream, h.root, h.released)

theorem State.shown_handTo (s : State) (n : Nat) : (s.handTo n).ldg.headers.map HdrSt.shown = s.ldg.headers.map HdrSt.shown := by
  obtain heq | ⟨x, -, -, heq⟩ := s.handTo_cases n
  · rw [heq]
  · rw [heq]
    simp only [State.modHeader, List.map_map]
    congr 1
    funext y
    dsimp only [Function.comp]
    split
    exacts [rfl, rfl]

/-- While a signer serves, no header is lost or released by the hand-off. -/
theorem State.shown_handOff {s : State} (h : s.signersUp ≠ []) : s.handOff.ldg.headers.map HdrSt.shown = s.ldg.headers.map HdrSt.shown := by
  rw [State.handOff_of_signers h]
  exact foldl_keeps (fun u : State => u.ldg.headers.map HdrSt.shown) _ (fun u n => u.shown_handTo n) _ s

theorem State.headers_addHeader_full {s : State} (hfull : headerSlots ≤ s.ldg.headers.length) (x : HdrSt) :
    (s.addHeader x).ldg.headers = s.ldg.headers := by
  unfold State.addHeader
  rw [if_pos hfull]
  exact (State.event_keeps (fun u => u.ldg.headers) (fun _ _ _ _ => rfl) _ _ _ _).trans
    (State.bump_keeps (fun u => u.ldg.headers) (fun _ _ _ => rfl) s _ _)

theorem State.shown_addHeader {s : State} (hroom : s.ldg.headers.length < headerSlots) (hsigners : s.signersUp ≠ []) (x : HdrSt) :
    (s.addHeader x).ldg.headers.map HdrSt.shown = s.ldg.headers.map HdrSt.shown ++ [x.shown] := by
  unfold State.addHeader
  rw [if_neg (Nat.not_le.mpr hroom)]
  refine (State.shown_handOff (by exact hsigners)).trans ?_
  exact List.map_append

/-! ### REAM_SEAL -/

theorem exec_reamSeal_waits {s : State} (h : Serving s) (hwait : s.ldg.ended = [] ∨
    ∃ r, s.ldg.ended.getLast? = some r ∧ (s.now < r.sealAt ∨ s.reservedOut r.num = true)) : exec .reamSeal s = .next s := by
  refine (whenWorking_of_serving h _).trans ?_
  obtain hnone | ⟨r, hlast, hearly⟩ := hwait
  · rw [hnone]
    rfl
  · rw [hlast]
    exact if_pos hearly

/-- A Ream sealed: its indices fixed, its root chained to the root before it (R185, R202). -/
def State.chained (s : State) (r : ReamSt) (late : Bool) : State :=
  let s := s.fixIndices r
  { s with ldg := { s.ldg with
    ended := s.ldg.ended.dropLast, prevRoot := r.reamRoot s.ldg.prevRoot, prevNum := r.num, sealedNum := r.num
    sealedRoot := r.reamRoot s.ldg.prevRoot, frontLate := late } }

/-- Leaves missing from a sealed Ream told (R238). -/
def State.missingTold (s : State) (r : ReamSt) : State := if 0 < r.missing then s.event 0x3001 2 [.w r.num, .q r.missing] else s

/-- The header of a Ream sealed from a state. -/
def State.headerOf (s : State) (r : ReamSt) (late : Bool) : HdrSt := (s.fixIndices r).makeHeader r late (r.reamRoot s.ldg.prevRoot)

/-- What follows the pass over the ledger ports. -/
def State.afterSeal (s : State) (r : ReamSt) (late : Bool) : State := ((s.chained r late).missingTold r).addHeader (s.headerOf r late)

theorem exec_reamSeal_due {s : State} (h : Serving s) {r x : ReamSt} (hlast : s.ldg.ended.getLast? = some r) (hdue : r.sealAt ≤ s.now)
    (hfree : s.reservedOut r.num = false) (hopen : (s.sealPorts r).2.openReam r.num = some x) : exec .reamSeal s =
      .next ((s.sealPorts r).2.afterSeal x (s.sealPorts r).1) := by
  refine (whenWorking_of_serving h _).trans ?_
  rw [hlast]
  refine (if_neg (by simp [hfree, hdue])).trans ?_
  dsimp only
  rw [hopen]
  rfl

/-- What the end of a seal leaves in the chain of roots. -/
def State.chain (s : State) : Nat × Bytes × Nat × Bytes × Nat := (s.ldg.prevNum, s.ldg.prevRoot, s.ldg.sealedNum, s.ldg.sealedRoot, s.ldg.ended.length)

theorem State.missingTold_keeps {β : Sort _} (obs : State → β)
    (h : ∀ (s : State) x0 x1 x2, obs { s with evr := x0, out := x1, ctr := x2 } = obs s) (s : State) (r : ReamSt) :
    obs (s.missingTold r) = obs s := by
  unfold State.missingTold
  split
  exacts [State.event_keeps obs h s _ _ _, rfl]

theorem State.chain_afterSeal (s : State) (r : ReamSt) (late : Bool) : (s.afterSeal r late).chain =
    (r.num, r.reamRoot s.ldg.prevRoot, r.num, r.reamRoot s.ldg.prevRoot, s.ldg.ended.length - 1) := by
  refine (State.addHeader_keeps State.chain (fun _ _ _ _ _ _ _ _ _ _ _ => rfl) _ _).trans ?_
  refine (State.missingTold_keeps State.chain (fun _ _ _ _ => rfl) _ r).trans ?_
  rw [← List.length_dropLast]
  rfl

theorem State.afterSeal_keeps {β : Sort _} (obs : State → β)
    (h : ∀ (s : State) x0 x1 x2 x3 x4, obs { s with ldg := x0, regs := x1, evr := x2, out := x3, ctr := x4 } = obs s)
    (s : State) (r : ReamSt) (late : Bool) : obs (s.afterSeal r late) = obs s :=
  (State.addHeader_keeps obs (fun u _ _ _ _ _ _ _ _ _ _ => h u _ _ _ _ _) _ _).trans <|
    (State.missingTold_keeps obs (fun u _ _ _ => h u u.ldg u.regs _ _ _) _ r).trans (h s _ s.regs s.evr s.out s.ctr)

theorem State.headers_chained (s : State) (r : ReamSt) (late : Bool) : ((s.chained r late).missingTold r).ldg.headers = s.ldg.headers :=
  State.missingTold_keeps (fun u => u.ldg.headers) (fun _ _ _ _ => rfl) (s.chained r late) r

theorem State.headers_afterSeal_full {s : State} (hfull : headerSlots ≤ s.ldg.headers.length) (r : ReamSt) (late : Bool) :
    (s.afterSeal r late).ldg.headers = s.ldg.headers := by
  have hheaders := s.headers_chained r late
  exact (State.headers_addHeader_full (hheaders ▸ hfull) _).trans hheaders

theorem State.shown_afterSeal {s : State} (hroom : s.ldg.headers.length < headerSlots) (hsigners : s.signersUp ≠ []) (r : ReamSt)
    (late : Bool) : (s.afterSeal r late).ldg.headers.map HdrSt.shown =
      s.ldg.headers.map HdrSt.shown ++ [(r.num, r.reamRoot s.ldg.prevRoot, false)] := by
  have hheaders := s.headers_chained r late
  have hup : ((s.chained r late).missingTold r).signersUp = s.signersUp :=
    State.missingTold_keeps State.signersUp (fun _ _ _ _ => rfl) (s.chained r late) r
  refine (State.shown_addHeader (hheaders ▸ hroom) (hup ▸ hsigners) _).trans ?_
  rw [hheaders]
  rfl

/-- The header of a Ream that has been sealed is the last one of the reserve. -/
theorem State.getLast_afterSeal {s : State} (hroom : s.ldg.headers.length < headerSlots) (hsigners : s.signersUp ≠ []) (r : ReamSt)
    (late : Bool) : ∃ h, (s.afterSeal r late).ldg.headers.getLast? = some h ∧ h.ream = r.num ∧ h.root = r.reamRoot s.ldg.prevRoot ∧
      h.released = false ∧ (s.afterSeal r late).ldg.headers.length = s.ldg.headers.length + 1 := by
  have hshown := State.shown_afterSeal hroom hsigners r late
  have hlast := congrArg List.getLast? hshown
  rw [List.getLast?_map, List.getLast?_concat] at hlast
  obtain ⟨h, hh, hfields⟩ := Option.map_eq_some_iff.mp hlast
  obtain ⟨hream, hroot, hreleased⟩ : h.ream = r.num ∧ h.root = r.reamRoot s.ldg.prevRoot ∧ h.released = false := by
    simpa [HdrSt.shown] using hfields
  exact ⟨h, hh, hream, hroot, hreleased, by simpa using congrArg List.length hshown⟩

theorem State.openReam_last {s : State} {l : List ReamSt} {r : ReamSt} (hended : s.ldg.ended = l ++ [r]) (hother : ∀ x ∈ l, x.num ≠ r.num)
    (hcur : ∀ c, s.ldg.cur = some c → c.num ≠ r.num) : s.openReam r.num = some r := by
  have hfind : s.ldg.ended.find? (fun x => decide (x.num = r.num)) = some r := by
    rw [hended, List.find?_append, List.find?_eq_none.mpr (by simpa using hother)]
    simp
  unfold State.openReam
  split
  · next c hc => rw [if_neg (hcur c hc), hfind]
  · exact hfind

/-- The oldest Ream that has ended is sealed once it is due: its root chains the root before it, and its header enters the reserve in order
(R200, R202, R227, R235). -/
theorem reamSeal_seals {s : State} (h : Serving s) {l : List ReamSt} {r : ReamSt} (hended : s.ldg.ended = l ++ [r])
    (hother : ∀ x ∈ l, x.num ≠ r.num) (hcur : ∀ c, s.ldg.cur = some c → c.num ≠ r.num) (hdue : r.sealAt ≤ s.now)
    (hfree : s.reservedOut r.num = false) : ∃ t root d, exec .reamSeal s = .next t ∧ t.ldg.prevNum = r.num ∧ t.ldg.sealedNum = r.num ∧
      t.ldg.prevRoot = root ∧ t.ldg.sealedRoot = root ∧
      root = sm3 (0x02 :: (be 8 r.num ++ s.ldg.prevRoot ++ be 1 r.ledgerPorts.length ++ d)) ∧ t.ldg.ended.length = l.length ∧
      (s.ldg.headers.length < headerSlots → s.signersUp ≠ [] → ∃ h, t.ldg.headers.getLast? = some h ∧ h.ream = r.num ∧
        h.root = root ∧ h.released = false ∧ t.ldg.headers.length = s.ldg.headers.length + 1) ∧
      (headerSlots ≤ s.ldg.headers.length → t.ldg.headers = s.ldg.headers) ∧ t.tb = s.tb ∧ t.coh = s.coh ∧ t.flow = s.flow := by
  have hpass : ∀ {β : Type} (obs : State → β), (∀ (u : State) x0 x1 x2 x3 x4, obs { u with
      ldg := x0, regs := x1, evr := x2, out := x3, ctr := x4 } = obs u) → obs (s.sealPorts r).2 = obs s := fun obs hobs =>
    State.sealPorts_keeps obs (State.event_keeps obs fun u x0 x1 x2 => hobs u u.ldg u.regs x0 x1 x2) (State.inFlight_keeps obs hobs) s r
  have htb := hpass State.tb fun _ _ _ _ _ _ => rfl
  have hcoh := hpass State.coh fun _ _ _ _ _ _ => rfl
  have hflow := hpass State.flow fun _ _ _ _ _ _ => rfl
  have hup := hpass State.signersUp fun _ _ _ _ _ _ => rfl
  have hsealing := State.sealPorts_keeps (State.sealing · r.num) (fun u c v l => u.sealing_event c v l r.num)
    (fun u r' l => u.sealing_inFlight r' l r.num) s r
  have hexec := fun x => exec_reamSeal_due (x := x) h (by rw [hended]; simp) hdue hfree
  generalize (s.sealPorts r).2 = u at *
  generalize (s.sealPorts r).1 = late at *
  have hopen : (u.openReam r.num).map (fun c => (c.num, c.ports)) = some (r.num, r.ports) :=
    (congrArg (fun x => x.1) hsealing).trans (by simp only [State.sealing, State.openReam_last hended hother hcur, Option.map_some])
  have hheaders : u.ldg.headers = s.ldg.headers := congrArg (fun x => x.2.1) hsealing
  have hroot : u.ldg.prevRoot = s.ldg.prevRoot := congrArg (fun x => x.2.2.1) hsealing
  have hlength : u.ldg.ended.length = l.length + 1 := (congrArg (fun x => x.2.2.2) hsealing).trans (by simp [State.sealing, hended])
  obtain ⟨x, hx, hfields⟩ := Option.map_eq_some_iff.mp hopen
  obtain ⟨hnum, hports⟩ := Prod.mk.inj hfields
  have hchain := u.chain_afterSeal x late
  have hafter := fun {β : Type} (obs : State → β) hobs => State.afterSeal_keeps obs hobs u x late
  refine ⟨u.afterSeal x late, x.reamRoot u.ldg.prevRoot, x.ledgerPorts.flatMap x.portRoot, hexec x hx, ?_, ?_, ?_, ?_, ?_, ?_, ?_, ?_, ?_⟩
  · exact (congrArg (fun c => c.1) hchain).trans hnum
  · exact (congrArg (fun c => c.2.2.1) hchain).trans hnum
  · exact congrArg (fun c => c.2.1) hchain
  · exact congrArg (fun c => c.2.2.2.1) hchain
  · have hledger : x.ledgerPorts = r.ledgerPorts := by simp only [ReamSt.ledgerPorts, hports]
    rw [← hroot, ← hnum, ← hledger]
    rfl
  · exact (congrArg (fun c => c.2.2.2.2) hchain).trans (by rw [hlength, Nat.add_sub_cancel])
  · intro hroom hsigners
    rw [← hheaders, ← hnum]
    exact State.getLast_afterSeal (hheaders ▸ hroom) (hup ▸ hsigners) x late
  · exact fun hfull => (State.headers_afterSeal_full (hheaders ▸ hfull) x late).trans hheaders
  · exact ⟨(hafter State.tb fun _ _ _ _ _ _ => rfl).trans htb, (hafter State.coh fun _ _ _ _ _ _ => rfl).trans hcoh,
      (hafter State.flow fun _ _ _ _ _ _ => rfl).trans hflow⟩

end Sys2Proof.Machine
end

section
/-! PROOFS. Signatures and checkpoints of the ledger (R208 to R211, R218 to R220, R738). -/

namespace Sys2Proof.Machine

/-! ### SIGNATURE_COMPLETE -/

theorem exec_signatureComplete_idle {s : State} (h : Serving s) {n : Nat} (hidle : 3 ≤ n ∨ s.working .signer 0 n = false ∨
    ∀ h ∈ s.ldg.headers, h.released = true ∨ h.signer ≠ some n) (ok : Bool) : exec (.signatureComplete n ok) s = .next s := by
  refine (whenWorking_of_serving h _).trans ?_
  split
  · rfl
  next hbusy =>
    have hnone : s.unsignedHeaders.find? (fun x => decide (x.signer = some n)) = none := by
      obtain hbig | hrest | hall := hidle
      · exact absurd (.inr hbig) hbusy
      · exact absurd (.inl (by simp [hrest])) hbusy
      · refine List.find?_eq_none.mpr fun x hx => ?_
        obtain ⟨hmem, hopen⟩ := List.mem_filter.mp hx
        obtain hreleased | hsigner := hall x hmem
        · simp [hreleased] at hopen
        · simpa using hsigner
    rw [hnone]

/-- A header that its signer has released with the signature `sig` (R218). -/
def State.releaseSigned (s : State) (ream : Nat) (sig : Bytes) : State :=
  s.modHeader ream fun h => { h with released := true, sig, signer := none }

/-- Whether every header of a Ream is released with a signature, and in no signer's hand. -/
def State.SignedAs (s : State) (ream : Nat) (sig : Bytes) : Prop :=
  ∀ x ∈ s.ldg.headers, x.ream = ream → x.released = true ∧ x.signer = none ∧ x.sig = sig

theorem State.signedAs_releaseSigned (s : State) (ream : Nat) (sig : Bytes) : (s.releaseSigned ream sig).SignedAs ream sig := by
  intro x hx hream
  obtain ⟨y, -, rfl⟩ := List.mem_map.mp hx
  split at hream
  next hy => rw [if_pos hy]; exact ⟨rfl, rfl, rfl⟩
  next hy => exact absurd hream hy

theorem State.SignedAs.handTo {s : State} {ream : Nat} {sig : Bytes} (h : s.SignedAs ream sig) (n : Nat) : (s.handTo n).SignedAs ream sig := by
  obtain heq | ⟨x, hx, hopen, heq⟩ := s.handTo_cases n
  · rw [heq]
    exact h
  · have hapart : x.ream ≠ ream := fun hsame => by
      obtain ⟨hreleased, -, -⟩ := h x hx hsame
      rw [hopen] at hreleased
      cases hreleased
    rw [heq]
    intro y hy hream
    obtain ⟨z, hz, rfl⟩ := List.mem_map.mp hy
    split at hream
    next hsame => exact absurd (hsame.symm.trans hream) hapart
    next hother => rw [if_neg hother]; exact h z hz hream

theorem State.SignedAs.handOff {s : State} {ream : Nat} {sig : Bytes} (h : s.SignedAs ream sig) (hsigners : s.signersUp ≠ []) :
    s.handOff.SignedAs ream sig := by
  rw [State.handOff_of_signers hsigners]
  generalize s.signersUp = l at *
  clear hsigners
  induction l generalizing s with
  | nil => exact h
  | cons n l ih => exact ih (h.handTo n)

/-- While a signer serves, the hand-off moves nothing but the headers. -/
theorem State.handOff_keeps_of_signers {β : Sort _} (obs : State → β)
    (h : ∀ (s : State) x, obs { s with ldg := { s.ldg with headers := x } } = obs s) {s : State} (hsigners : s.signersUp ≠ []) :
    obs s.handOff = obs s := by
  rw [State.handOff_of_signers hsigners]
  exact foldl_keeps obs _ (fun u n => State.handTo_keeps obs h u n) _ s

/-- What a signature does once it is made: its header is released, and its Ream can be checkpointed (R208, R218, R263). -/
def State.signed (s : State) (h : HdrSt) (sig : Bytes) : State := ((s.releaseSigned h.ream sig).noteReleased h.ream false).checkpointable h

theorem State.signedAs_signed (s : State) (h : HdrSt) (sig : Bytes) : (s.signed h sig).SignedAs h.ream sig := by
  have hkept : (s.signed h sig).ldg.headers = (s.releaseSigned h.ream sig).ldg.headers := by
    unfold State.signed State.noteReleased
    split
    exacts [rfl, rfl]
  intro x hx
  exact s.signedAs_releaseSigned h.ream sig x (hkept ▸ hx)

/-- The newest header released shows that it was signed (R263). -/
theorem State.lastUnsigned_signed {s : State} {h : HdrSt} (hnewest : s.ldg.lastReleased ≤ h.ream) (sig : Bytes) :
    (s.signed h sig).ldg.lastUnsigned = false := by
  have hnote : (s.releaseSigned h.ream sig).noteReleased h.ream false = { s.releaseSigned h.ream sig with
      ldg := { (s.releaseSigned h.ream sig).ldg with lastReleased := h.ream, lastUnsigned := false } } := if_neg (Nat.not_lt.mpr hnewest)
  exact congrArg (fun u : State => u.ldg.lastUnsigned) hnote

theorem State.ckptWaiting_signed {s : State} {h : HdrSt} (hsecond : h.stop % secStamp = 0) (sig : Bytes) :
    (s.signed h sig).ldg.ckptWaiting = some h.ckpt := if_pos hsecond

theorem State.signed_keeps {β : Sort _} (obs : State → β) (hobs : ∀ (s : State) x, obs { s with ldg := x } = obs s) (s : State) (h : HdrSt)
    (sig : Bytes) : obs (s.signed h sig) = obs s := by
  refine (hobs _ _).trans ?_
  unfold State.noteReleased
  split
  exacts [hobs s _, (hobs _ _).trans (hobs s _)]

section Signature

variable {s : State} (h : Serving s) {n : Nat} {x : HdrSt} (hn : n < 3) (hup : s.up .signer 0 n = true)
  (hfind : s.unsignedHeaders.find? (fun h => decide (h.signer = some n)) = some x)

include h hn hup hfind

theorem exec_signatureComplete (ok : Bool) : exec (.signatureComplete n ok) s =
    if ok then .next (((s.drawBytes 32).2.signed x (sm2Sign (Config.unwrap x.wrapped) x.body (s.drawBytes 32).1)).dropHeaders.handOff)
    else .next (if (s.detect 2 3 (some (.signer, 0, n)) .none false false).1 = 3 then
        (s.detect 2 3 (some (.signer, 0, n)) .none false false).2
      else (s.detect 2 3 (some (.signer, 0, n)) .none false false).2.signerLeaves n (s.recordOpen (.signer, 0, n))) := by
  have hworks : s.working .signer 0 n = true := by
    unfold State.working
    unfold State.up at hup
    simpa using .inl (of_decide_eq_true hup)
  refine (whenWorking_of_serving h _).trans ((if_neg (by simp [hworks]; omega)).trans ?_)
  rw [hfind]
  rfl

/-- A signature releases its header, and what reserves the next Ream numbers is what its Ream's checkpoint holds (R208, R211, R218). -/
theorem signatureComplete_signs : ∃ t, exec (.signatureComplete n true) s = .next t ∧ (s.ldg.lastReleased ≤ x.ream → t.ldg.lastUnsigned = false) ∧
    (∃ k, t.ldg.lastReam = some k ∧ k.ream = x.ream ∧ k.root = x.root ∧ k.reserved = x.ream + 65536) ∧
    (x.stop % secStamp = 0 → t.ldg.ckptWaiting = t.ldg.lastReam) ∧
    (∀ y ∈ t.ldg.headers, y.ream = x.ream → y.released = true ∧ y.signer = none ∧
      ∃ random, y.sig = sm2Sign (Config.unwrap x.wrapped) x.body random) ∧ t.tb = s.tb := by
  have hexec := exec_signatureComplete h hn hup hfind true
  rw [if_pos rfl] at hexec
  have hsigners : s.signersUp ≠ [] := List.ne_nil_of_mem (List.mem_filter.mpr ⟨List.mem_range.mpr hn, hup⟩)
  have hdrawn : (s.drawBytes 32).2.ldg = s.ldg := rfl
  have hup' : (s.drawBytes 32).2.signersUp = s.signersUp := rfl
  have htb : (s.drawBytes 32).2.tb = s.tb := rfl
  generalize (s.drawBytes 32).2 = u at *
  generalize hsig : sm2Sign (Config.unwrap x.wrapped) x.body (s.drawBytes 32).1 = sig at *
  have hup'' : (u.signed x sig).dropHeaders.signersUp ≠ [] :=
    (State.signed_keeps State.signersUp (fun _ _ => rfl) u x sig).trans hup' ▸ hsigners
  have hkeeps : ∀ {β : Type} (obs : State → β), (∀ (v : State) y, obs { v with ldg := { v.ldg with headers := y } } = obs v) →
      obs (u.signed x sig).dropHeaders.handOff = obs (u.signed x sig) := fun obs hobs =>
    (State.handOff_keeps_of_signers obs hobs hup'').trans (hobs _ _)
  have hlast : (u.signed x sig).dropHeaders.handOff.ldg.lastReam = some x.ckpt := hkeeps (fun v => v.ldg.lastReam) fun _ _ => rfl
  refine ⟨_, hexec, fun hnewest => ?_, ⟨x.ckpt, hlast, rfl, rfl, rfl⟩, fun hsecond => ?_, fun y hy hream => ?_, ?_⟩
  · exact (hkeeps (fun v => v.ldg.lastUnsigned) fun _ _ => rfl).trans (State.lastUnsigned_signed (hdrawn ▸ hnewest) sig)
  · refine Eq.trans ?_ hlast.symm
    exact (hkeeps (fun v => v.ldg.ckptWaiting) fun _ _ => rfl).trans (State.ckptWaiting_signed hsecond sig)
  · have hdropped : (u.signed x sig).dropHeaders.SignedAs x.ream sig := fun z hz => u.signedAs_signed x sig z (List.mem_of_mem_filter hz)
    obtain ⟨hreleased, hsigner, hsame⟩ := hdropped.handOff hup'' y hy hream
    exact ⟨hreleased, hsigner, _, hsame.trans hsig.symm⟩
  · exact (hkeeps State.tb fun _ _ => rfl).trans ((State.signed_keeps State.tb (fun _ _ => rfl) u x sig).trans htb)

/-- A signature that fails takes its signer out of service (R219, R738). -/
theorem signatureComplete_fails (hnew : s.recordOpen (.signer, 0, n) = false) (hroom : s.evr.records.length < 64) :
    ∃ t, exec (.signatureComplete n false) s = .next t ∧ (t.unit .signer 0 n).state = .outOfService := by
  have hexec := exec_signatureComplete h hn hup hfind false
  rw [if_neg (by decide), if_neg (by rw [State.detect_opens hnew hroom rfl h.sound]; decide), hnew] at hexec
  refine ⟨_, hexec, ?_⟩
  unfold State.signerLeaves
  extract_lets unit role gone relieved
  have hgone : (gone.unit .signer 0 n).state = .outOfService := s.state_takenOut (.signer, 0, n) 0x300C []
  have hfault : (gone.unit .signer 0 n).fault = true := s.fault_takenOut (.signer, 0, n) 0x300C []
  refine (State.handOff_keeps (fun v => (v.unit .signer 0 n).state) (fun _ _ _ _ _ _ _ _ _ => rfl) relieved).trans (Eq.trans ?_ hgone)
  unfold relieved
  clear_value role
  cases role with
  | none => rfl
  | some r => exact congrArg UnitSt.state (State.unit_giveToSpare_of_fault hfault r)

end Signature

/-! ### CHECKPOINT_WRITE and CHECKPOINT_PROGRAM_COMPLETE -/

theorem exec_checkpointWrite_writing {s : State} (h : Serving s) (hwriting : s.ldg.ckptWriting.isSome = true) :
    exec .checkpointWrite s = .next s := (whenWorking_of_serving h _).trans (if_pos hwriting)

theorem exec_checkpointWrite_none {s : State} (h : Serving s) (hwriting : s.ldg.ckptWriting = none) (hwaiting : s.ldg.ckptWaiting = none)
    (hfar : s.nearReservation = false) : exec .checkpointWrite s = .next s := by
  refine (whenWorking_of_serving h _).trans ((if_neg (by simp [hwriting])).trans ?_)
  simp [hwaiting, hfar]

theorem exec_checkpointWrite_waiting {s : State} (h : Serving s) {k : Ckpt} (hwriting : s.ldg.ckptWriting = none)
    (hwaiting : s.ldg.ckptWaiting = some k) : exec .checkpointWrite s = .next { s with ldg := { s.ldg with
      ckptSeq := s.ldg.ckptSeq + 1, ckptWriting := some { k with seq := s.ldg.ckptSeq + 1 }, ckptWaiting := none } } := by
  refine (whenWorking_of_serving h _).trans ((if_neg (by simp [hwriting])).trans ?_)
  simp [hwaiting]

theorem exec_checkpointProgramComplete_none {s : State} (h : Serving s) (hwriting : s.ldg.ckptWriting = none) (ok0 ok1 : Bool) :
    exec (.checkpointProgramComplete ok0 ok1) s = .next s := by
  refine (whenWorking_of_serving h _).trans ?_
  rw [hwriting]

/-- The state with no checkpoint in a device's hand. -/
def State.ckptEnded (s : State) : State := { s with ldg := { s.ldg with ckptWriting := none } }

/-- What follows the end of a checkpoint's programming: it is tried again at a boundary, and a Ream beyond the reservation in force stops
the device (R209, R210). -/
def State.afterCkpt (s : State) (near held : Bool) : State :=
  let s := if near && !held then { s with ldg := { s.ldg with ckptRetry := true } } else s
  match s.ldg.cur with
  | some c => if s.reservedOut c.num then s.exhausted else s
  | none => s

theorem State.exhausted_keeps {β : Sort _} (obs : State → β)
    (h : ∀ (s : State) x0 x1 x2 x3 x4, obs { s with evr := x0, out := x1, ctr := x2, hif := x3, qm := x4 } = obs s) (s : State) :
    obs s.exhausted = obs s :=
  (State.fatal_keeps obs h _ _).trans (State.event_keeps obs (fun u _ _ _ => h u _ _ _ u.hif u.qm) s _ _ _)

theorem State.afterCkpt_keeps {β : Sort _} (obs : State → β)
    (h : ∀ (s : State) x0 x1 x2 x3 x4 x5, obs { s with
      ldg := { s.ldg with ckptRetry := x0 }, evr := x1, out := x2, ctr := x3, hif := x4, qm := x5 } = obs s)
    (s : State) (near held : Bool) : obs (s.afterCkpt near held) = obs s := by
  unfold State.afterCkpt
  extract_lets _ u
  have hu : obs u = obs s := by
    unfold u
    split
    exacts [h s true s.evr s.out s.ctr s.hif s.qm, rfl]
  split
  · split
    exacts [(State.exhausted_keeps obs (fun v => h v v.ldg.ckptRetry) u).trans hu, hu]
  · exact hu

theorem exec_checkpointProgramComplete {s : State} (h : Serving s) {k : Ckpt} (hwriting : s.ldg.ckptWriting = some k) (ok0 ok1 : Bool) :
    exec (.checkpointProgramComplete ok0 ok1) s =
      .next ((s.ckptEnded.ckptDone k ok0 ok1).2.afterCkpt s.nearReservation (s.ckptEnded.ckptDone k ok0 ok1).1) := by
  have htail : ∀ (u : State) (near held : Bool), (let v := if near && !held then { u with ldg := { u.ldg with ckptRetry := true } } else u
      match v.ldg.cur with
      | some c => .next (if v.reservedOut c.num then v.exhausted else v)
      | none => .next v : Res) = .next (u.afterCkpt near held) := by
    intro u near held
    unfold State.afterCkpt
    extract_lets _ v
    cases v.ldg.cur with
    | none => rfl
    | some c => rfl
  refine (whenWorking_of_serving h _).trans ?_
  rw [hwriting]
  exact htail _ _ _

/-- A checkpoint that both devices hold is in force (R209, R210). -/
theorem State.ckptDone_both {s : State} (hmirror : s.nvm.mirror = true) (h0 : s.up .flash 0 0 = true) (h1 : s.up .flash 0 1 = true) (k : Ckpt) :
    (s.ckptDone k true true).1 = true ∧ (s.ckptDone k true true).2.ldg = { s.ldg with
      ckpt0 := k.bytes :: s.ldg.ckpt0, ckpt1 := k.bytes :: s.ldg.ckpt1, newestCkpt := some k, ckptOk0 := true, ckptOk1 := true
      ckptAt := some s.now, ckptRetry := false } := by
  have hboth := State.flashUp_both hmirror h0 h1
  simp [State.ckptDone, State.flashBoth, hboth, okOf, State.flashDid, State.setFlashFailures, State.putCkpt, State.now]

theorem State.flashDid_keeps {β : Sort _} (obs : State → β)
    (h : ∀ (s : State) x0 x1 x2 x3 x4 x5 x6 x7 x8 x9, obs { s with
      svc := x0, out := x1, hif := x2, qm := x3, evr := x4, ctr := x5, mgt := x6, free := x7, tel := x8
      nvm := { s.nvm with flashFails := x9 } } = obs s)
    (s : State) (d : Nat) (ok : Bool) : obs (s.flashDid d ok) = obs s := by
  have hfails : ∀ (u : State) n, obs (u.setFlashFailures d n) = obs u := fun u n =>
    h u u.svc u.out u.hif u.qm u.evr u.ctr u.mgt u.free u.tel _
  unfold State.flashDid
  split
  · exact hfails s 0
  · unfold State.flashFailed
    extract_lets n u unit
    have hu : obs u = obs s := (hfails _ _).trans
      (State.count1_keeps obs (fun v x => h v v.svc v.out v.hif v.qm v.evr x v.mgt v.free v.tel v.nvm.flashFails) s _)
    split
    · exact hu
    · have hdetect := State.detect_keeps obs (fun v x0 x1 x2 x3 x4 x5 x6 => h v v.svc x2 x5 x6 x1 x3 v.mgt x0 x4 v.nvm.flashFails)
        u 2 0xB (some unit) .none false false
      split
      next cls v hv =>
      have hv' : obs v = obs s := (congrArg (fun y => obs y.2) hv).symm.trans (hdetect.trans hu)
      split
      · exact hv'
      · exact (State.flashLeaves_keeps obs (fun w x0 x1 x2 x3 x4 x5 x6 x7 => h w x0 x1 x2 x3 x4 x5 x6 x7 w.tel w.nvm.flashFails) v d false).trans hv'

/-- The devices that hold what was programmed (R695). -/
def State.holding (s : State) (ok0 ok1 : Bool) : List Nat := s.flashUp.filter (okOf ok0 ok1)

/-- A checkpoint in the devices that took it, a failure told (R210). -/
def State.ckptTried (s : State) (k : Ckpt) (ok0 ok1 : Bool) : State :=
  let u := (s.flashBoth ok0 ok1).2
  let u := if (s.holding ok0 ok1).length < s.flashUp.length then u.event 0x3006 3 [] else u
  (s.holding ok0 ok1).foldl (fun (u : State) d => u.putCkpt d k.bytes) u

theorem State.ckptDone_eq (s : State) (k : Ckpt) (ok0 ok1 : Bool) : s.ckptDone k ok0 ok1 =
    if s.holding ok0 ok1 = [] then (false, s.ckptTried k ok0 ok1)
    else (true, { s.ckptTried k ok0 ok1 with ldg := { (s.ckptTried k ok0 ok1).ldg with
      newestCkpt := some k, ckptOk0 := decide (0 ∈ s.holding ok0 ok1), ckptOk1 := decide (1 ∈ s.holding ok0 ok1)
      ckptAt := some (s.ckptTried k ok0 ok1).now, ckptRetry := false } }) := rfl

theorem State.ckptTried_keeps {β : Sort _} (obs : State → β)
    (h : ∀ (s : State) x0 x1 x2 x3 x4 x5 x6 x7 x8 x9 x10 x11, obs { s with
      svc := x0, out := x1, hif := x2, qm := x3, evr := x4, ctr := x5, mgt := x6, free := x7, tel := x8
      nvm := { s.nvm with flashFails := x9 }, ldg := { s.ldg with ckpt0 := x10, ckpt1 := x11 } } = obs s)
    (s : State) (k : Ckpt) (ok0 ok1 : Bool) : obs (s.ckptTried k ok0 ok1) = obs s := by
  have hdid := State.flashDid_keeps obs fun u x0 x1 x2 x3 x4 x5 x6 x7 x8 x9 => h u x0 x1 x2 x3 x4 x5 x6 x7 x8 x9 u.ldg.ckpt0 u.ldg.ckpt1
  have hevent := State.event_keeps obs fun u x0 x1 x2 =>
    h u u.svc x1 u.hif u.qm x0 x2 u.mgt u.free u.tel u.nvm.flashFails u.ldg.ckpt0 u.ldg.ckpt1
  have hput : ∀ (u : State) d, obs (u.putCkpt d k.bytes) = obs u := fun u d => by
    unfold State.putCkpt
    split
    · exact h u u.svc u.out u.hif u.qm u.evr u.ctr u.mgt u.free u.tel u.nvm.flashFails _ u.ldg.ckpt1
    · exact h u u.svc u.out u.hif u.qm u.evr u.ctr u.mgt u.free u.tel u.nvm.flashFails u.ldg.ckpt0 _
  unfold State.ckptTried
  extract_lets u v
  have hu : obs u = obs s := foldl_keeps obs _ (fun y d => hdid y d _) _ s
  have hv : obs v = obs u := by
    unfold v
    split
    exacts [hevent u _ _ _, rfl]
  exact (foldl_keeps obs _ hput _ v).trans (hv.trans hu)

/-- A checkpoint that no device holds is not in force (R210). -/
theorem State.ckptDone_unheld {s : State} {ok0 ok1 : Bool} (hheld : s.holding ok0 ok1 = []) (k : Ckpt) :
    s.ckptDone k ok0 ok1 = (false, s.ckptTried k ok0 ok1) ∧ (s.ckptTried k ok0 ok1).ldg = s.ldg := by
  refine ⟨(s.ckptDone_eq k ok0 ok1).trans (if_pos hheld), ?_⟩
  unfold State.ckptTried
  rw [hheld]
  extract_lets u v
  have hu : u.ldg = s.ldg := foldl_keeps State.ldg _
    (fun y d => State.flashDid_keeps State.ldg (fun _ _ _ _ _ _ _ _ _ _ _ => rfl) y d _) _ s
  refine Eq.trans ?_ hu
  show v.ldg = u.ldg
  unfold v
  split
  exacts [State.event_keeps State.ldg (fun _ _ _ _ => rfl) u _ _ _, rfl]

/-- A checkpoint that a device holds is in force (R209, R210). -/
theorem State.ckptDone_held {s : State} {ok0 ok1 : Bool} (hheld : s.holding ok0 ok1 ≠ []) (k : Ckpt) :
    (s.ckptDone k ok0 ok1).1 = true ∧ (s.ckptDone k ok0 ok1).2.ldg.newestCkpt = some k := by
  rw [s.ckptDone_eq, if_neg hheld]
  exact ⟨rfl, rfl⟩

section Programmed

variable {s : State} (h : Serving s) {k : Ckpt} (hwriting : s.ldg.ckptWriting = some k)

include h hwriting

theorem checkpointProgramComplete_held (hmirror : s.nvm.mirror = true) (h0 : s.up .flash 0 0 = true) (h1 : s.up .flash 0 1 = true) :
    ∃ t, exec (.checkpointProgramComplete true true) s = .next t ∧ t.ldg.newestCkpt = some k ∧ t.ldg.ckptOk0 = true ∧
      t.ldg.ckptOk1 = true ∧ t.ldg.ckpt0 = k.bytes :: s.ldg.ckpt0 ∧ t.ldg.ckpt1 = k.bytes :: s.ldg.ckpt1 ∧ t.ldg.ckptWriting = none := by
  obtain ⟨-, hldg⟩ := State.ckptDone_both (s := s.ckptEnded) hmirror h0 h1 k
  have hsame : ∀ {β : Type} (obs : Ledger → β), (∀ (l : Ledger) x, obs { l with ckptRetry := x } = obs l) →
      obs ((s.ckptEnded.ckptDone k true true).2.afterCkpt s.nearReservation (s.ckptEnded.ckptDone k true true).1).ldg =
        obs (s.ckptEnded.ckptDone k true true).2.ldg := fun obs hobs =>
    State.afterCkpt_keeps (fun u => obs u.ldg) (fun _ _ _ _ _ _ _ => hobs _ _) _ _ _
  rw [hldg] at hsame
  exact ⟨_, exec_checkpointProgramComplete h hwriting true true, hsame Ledger.newestCkpt fun _ _ => rfl,
    hsame Ledger.ckptOk0 fun _ _ => rfl, hsame Ledger.ckptOk1 fun _ _ => rfl, hsame Ledger.ckpt0 fun _ _ => rfl,
    hsame Ledger.ckpt1 fun _ _ => rfl, hsame Ledger.ckptWriting fun _ _ => rfl⟩

theorem checkpointProgramComplete_unheld : ∃ t, exec (.checkpointProgramComplete false false) s = .next t ∧
    t.ldg.newestCkpt = s.ldg.newestCkpt ∧ t.ldg.ckpt0 = s.ldg.ckpt0 ∧ t.ldg.ckpt1 = s.ldg.ckpt1 ∧ t.ldg.ckptWriting = none := by
  have hheld : s.ckptEnded.holding false false = [] := List.filter_eq_nil_iff.mpr fun d _ => by simp [okOf]
  obtain ⟨hdone, hldg⟩ := State.ckptDone_unheld hheld k
  have hexec := exec_checkpointProgramComplete h hwriting false false
  rw [hdone] at hexec
  have hsame : ∀ {β : Type} (obs : Ledger → β), (∀ (l : Ledger) x, obs { l with ckptRetry := x } = obs l) →
      obs ((s.ckptEnded.ckptTried k false false).afterCkpt s.nearReservation false).ldg = obs s.ckptEnded.ldg := fun obs hobs =>
    (State.afterCkpt_keeps (fun u => obs u.ldg) (fun _ _ _ _ _ _ _ => hobs _ _) _ _ _).trans (congrArg obs hldg)
  exact ⟨_, hexec, hsame Ledger.newestCkpt fun _ _ => rfl, hsame Ledger.ckpt0 fun _ _ => rfl, hsame Ledger.ckpt1 fun _ _ => rfl,
    hsame Ledger.ckptWriting fun _ _ => rfl⟩

end Programmed

/-- Settles O45: each command by the lemma on it; a boundary is read off the outline of the Reams, a seal off the chain of roots, and a
signature or a checkpoint off what its hand-off leaves. -/
theorem reamLife : Obligations.ReamLife := by
  unfold Obligations.ReamLife
  intro s h
  refine ⟨exec_reamBoundary_idle h,
    fun c hcur => ⟨exec_reamBoundary_early h hcur, reamBoundary_begins_next h hcur⟩,
    exec_reamSeal_waits h,
    fun l r hended hother hcur hdue hfree => reamSeal_seals h hended hother hcur hdue hfree,
    fun n hidle => exec_signatureComplete_idle h hidle,
    fun n x hn hup hfind => ⟨signatureComplete_signs h hn hup hfind, signatureComplete_fails h hn hup hfind⟩,
    exec_checkpointWrite_writing h,
    exec_checkpointWrite_none h,
    fun k => exec_checkpointWrite_waiting h,
    fun ok0 ok1 hnone => exec_checkpointProgramComplete_none h hnone ok0 ok1,
    fun k hwriting hmirror h0 h1 => ⟨checkpointProgramComplete_held h hwriting hmirror h0 h1, checkpointProgramComplete_unheld h hwriting⟩⟩

end Sys2Proof.Machine
end

section
/-! PROOFS. LEDGER_CONFIGURE and the key commands (R215 to R217, R240, R251 to R257). -/

namespace Sys2Proof.Machine

/-! ### What the start of a command leaves of the ledger -/

@[simp] theorem State.ringSet_adminOpen (s : State) (r : AdminRef) (set : Nat) : (s.adminOpen r).ringSet set = s.ringSet set :=
  State.adminOpen_keeps (State.ringSet · set) (fun _ _ _ _ => rfl) s r

@[simp] theorem State.ownerOf_adminOpen (s : State) (r : AdminRef) (h : Nat) : (s.adminOpen r).ownerOf h = s.ownerOf h :=
  State.adminOpen_keeps (State.ownerOf · h) (fun _ _ _ _ => rfl) s r

@[simp] theorem State.conn_adminOpen (s : State) (r : AdminRef) (i : Nat) : (s.adminOpen r).conn i = s.conn i :=
  State.adminOpen_keeps (State.conn · i) (fun _ _ _ _ => rfl) s r

@[simp] theorem State.exportedKey_adminOpen (s : State) (r : AdminRef) (slot id : Nat) :
    (s.adminOpen r).exportedKey slot id = s.exportedKey slot id :=
  State.adminOpen_keeps (fun u => u.exportedKey slot id) (fun _ _ _ _ => rfl) s r

/-- The state in which a command that draws a free number has started and drawn it. -/
def State.drawnOpen (s : State) (r : AdminRef) : State := ((s.adminOpen r).draw 2).2

theorem State.drawnOpen_eq (s : State) (r : AdminRef) : s.drawnOpen r = { s.adminOpen r with free := s.free + 1 } :=
  congrArg (fun n => { s.adminOpen r with free := n + 1 }) (State.adminOpen_keeps State.free (fun _ _ _ _ => rfl) s r)

theorem State.drawnOpen_keeps {β : Sort _} (obs : State → β) (h : ∀ (s : State) x0 x1 x2 x3, obs { s with out := x0, hif := x1, qm := x2, free := x3 } = obs s)
    (s : State) (r : AdminRef) : obs (s.drawnOpen r) = obs s :=
  (State.draw_keeps obs (fun u x => h u u.out u.hif u.qm x) _ 2).trans (State.adminOpen_keeps obs (fun u x0 x1 x2 => h u x0 x1 x2 u.free) s r)

@[simp] theorem State.ringSet_modSet_self (s : State) (set : Nat) (f : RingSet → RingSet) : (s.modSet set f).ringSet set = f (s.ringSet set) := by
  simp [State.ringSet, State.modSet]

theorem State.ringSet_modSet_ne (s : State) {set n : Nat} (h : n ≠ set) (f : RingSet → RingSet) :
    (s.modSet set f).ringSet n = s.ringSet n := s.ldg.sets.getD_set_ne h _ _

/-- Records and headers that leave staging move neither ring set (R244). -/
theorem State.settleStaging_keeps {β : Sort _} (obs : State → β)
    (h : ∀ (s : State) x0 x1 x2 x3 x4 x5, obs { s with
      ldg := { s.ldg with records := x0, headers := x1, refusing := x2 }, evr := x3, out := x4, ctr := x5 } = obs s)
    (s : State) (set : Nat) : obs (s.settleStaging set) = obs s := by
  have hleft : obs (s.dropRecords set).dropHeaders = obs s := h s _ _ s.ldg.refusing s.evr s.out s.ctr
  have hrefusing : ∀ (u : State) b, obs { u with ldg := { u.ldg with refusing := b } } = obs u := fun u b =>
    h u u.ldg.records u.ldg.headers b u.evr u.out u.ctr
  have hevent := State.event_keeps obs fun u => h u u.ldg.records u.ldg.headers u.ldg.refusing
  unfold State.settleStaging State.checkRefuse
  split_ifs
  exacts [(hevent _ _ _ _).trans ((hrefusing _ _).trans hleft), hleft, (hevent _ _ _ _).trans ((hrefusing _ _).trans hleft), hleft]

/-! ### LEDGER_ENABLE_SET -/

/-- A ring set enabled as its command says, both rings at their start (R251, R254). -/
def RingSet.enabledBy (x : RingSet) (a : RingSetArgs) : RingSet :=
  { x with
    enabled := true, dest := a.dest, recLog2 := a.recLog2, hdrLog2 := a.hdrLog2, vector := a.vector, recBase := a.recBase
    hdrBase := a.hdrBase, tailBase := a.tailBase, recProd := 0, recCons := 0, hdrProd := 0, hdrCons := 0, sealedReam := 0
    missing := 0, modEntries := 0, modFirst := none }

/-- What ENABLE_SET does once its command has started. -/
def State.enableSet (s : State) (a : RingSetArgs) : State :=
  (((s.modSet a.set fun x => x.enabledBy a).setReg (F.ldgRingRecCons_cons a.set).addr 0).setReg (F.ldgRingHdrCons_cons a.set).addr 0).settleStaging
    a.set

theorem State.enableSet_keeps {β : Sort _} (obs : State → β)
    (h : ∀ (s : State) x0 x1 x2 x3 x4 x5 x6, obs { s with
      ldg := { s.ldg with records := x0, headers := x1, refusing := x2 }, evr := x3, out := x4, ctr := x5, regs := x6 } = obs s)
    (s : State) (a : RingSetArgs) : obs (s.enableSet a) = obs (s.modSet a.set fun x => x.enabledBy a) :=
  (State.settleStaging_keeps obs (fun v x0 x1 x2 x3 x4 x5 => h v x0 x1 x2 x3 x4 x5 v.regs) _ _).trans
    (h (s.modSet a.set fun x => x.enabledBy a) s.ldg.records s.ldg.headers s.ldg.refusing s.evr s.out s.ctr
      ((((s.modSet a.set fun x => x.enabledBy a).setReg (F.ldgRingRecCons_cons a.set).addr 0).setReg (F.ldgRingHdrCons_cons a.set).addr 0).regs))

/-! ### LEDGER_ARCHIVE -/

/-- A ring set whose archive connection, if it has one, is its own no longer. -/
def State.unboundArchive (s : State) (set : Nat) : State :=
  match (s.ringSet set).conn with
  | some old => s.modConn old fun c => { c with archive := none }
  | none => s

/-- A ring set bound to the archive connection `c`, its regions empty (R240, R252). -/
def RingSet.archivedBy (x : RingSet) (a : ArchiveArgs) (c : Conn) (blk : Nat) (now : Stamp) : RingSet :=
  { x with
    conn := some (handleIndex a.conn), nsid := a.nsid, recLba := a.recLba, recLbas := a.recLbas, hdrLba := a.hdrLba, hdrLbas := a.hdrLbas
    lbaBlk := blk, recPos := 0, hdrPos := 0, recWraps := 0, hdrWraps := 0, newestRec := 0, newestHdr := 0
    archUp := decide (c.state = .established), backoff := if c.state = .failed then 10 else 0
    retryAt := now + 10 * msStamp, indexAt := now }

/-- What ARCHIVE does once it has found its connection `c`. -/
def State.bindArchive (s : State) (a : ArchiveArgs) (c : Conn) (blk : Nat) : State :=
  let u := (s.unboundArchive a.set).modConn (handleIndex a.conn) fun c => { c with archive := some a.set }
  u.modSet a.set fun x => x.archivedBy a c blk u.now

theorem State.modConn_keeps {β : Sort _} (obs : State → β) (h : ∀ (s : State) x, obs { s with eng := { s.eng with conns := x } } = obs s)
    (s : State) (i : Nat) (f : Conn → Conn) : obs (s.modConn i f) = obs s := by
  unfold State.modConn
  split
  · exact h s _
  · rfl

theorem State.conn_modConn_self {s : State} {i : Nat} {c : Conn} (h : s.conn i = some c) (f : Conn → Conn) :
    (s.modConn i f).conn i = some (f c) := by
  rw [State.modConn, h]
  exact Table.get?_set_self _ _ _

theorem State.conn_modConn_ne (s : State) {i j : Nat} (h : j ≠ i) (f : Conn → Conn) : (s.modConn i f).conn j = s.conn j := by
  unfold State.modConn
  split
  · exact Table.get?_set_ne _ h _
  · rfl

theorem State.unboundArchive_keeps {β : Sort _} (obs : State → β) (h : ∀ (s : State) x, obs { s with eng := { s.eng with conns := x } } = obs s)
    (s : State) (set : Nat) : obs (s.unboundArchive set) = obs s := by
  unfold State.unboundArchive
  split
  · exact State.modConn_keeps obs h s _ _
  · rfl

theorem State.conn_unboundArchive {s : State} {i : Nat} {c : Conn} (h : s.conn i = some c) (set : Nat) :
    ∃ d, (s.unboundArchive set).conn i = some d ∧ d.state = c.state := by
  unfold State.unboundArchive
  split
  case h_1 old _ =>
    by_cases hi : i = old
    · subst hi
      exact ⟨_, State.conn_modConn_self h _, rfl⟩
    · exact ⟨c, (State.conn_modConn_ne s hi _).trans h, rfl⟩
  case h_2 => exact ⟨c, h, rfl⟩

theorem State.bindArchive_keeps {β : Sort _} (obs : State → β)
    (h : ∀ (s : State) x y, obs { s with eng := { s.eng with conns := x }, ldg := { s.ldg with sets := y } } = obs s)
    (s : State) (a : ArchiveArgs) (c : Conn) (blk : Nat) : obs (s.bindArchive a c blk) = obs s :=
  have hconns : ∀ (s : State) x, obs { s with eng := { s.eng with conns := x } } = obs s := fun s x => h s x s.ldg.sets
  (h _ _ _).trans ((State.modConn_keeps obs hconns _ _ _).trans (State.unboundArchive_keeps obs hconns s _))

theorem State.ringSet_bindArchive (s : State) (a : ArchiveArgs) (c : Conn) (blk : Nat) :
    ∃ now, (s.bindArchive a c blk).ringSet a.set = (s.ringSet a.set).archivedBy a c blk now :=
  ⟨_, (State.ringSet_modSet_self _ _ _).trans (congrArg (RingSet.archivedBy · a c blk _)
    ((State.modConn_keeps (State.ringSet · a.set) (fun _ _ => rfl) _ _ _).trans
      (State.unboundArchive_keeps (State.ringSet · a.set) (fun _ _ => rfl) s a.set)))⟩

theorem State.conn_bindArchive {s : State} {a : ArchiveArgs} {c : Conn} (h : s.conn (handleIndex a.conn) = some c) (blk : Nat) :
    ∃ c', (s.bindArchive a c blk).conn (handleIndex a.conn) = some c' ∧ c'.archive = some a.set ∧ c'.state = c.state := by
  obtain ⟨d, hd, hstate⟩ := State.conn_unboundArchive h a.set
  exact ⟨{ d with archive := some a.set }, State.conn_modConn_self hd fun c => { c with archive := some a.set }, rfl, hstate⟩

/-- ARCHIVE with regions that hold, by the owner of its connection and the connection: what is left to decide (R240, R252). -/
def State.archiveOf (s : State) (a : ArchiveArgs) (blk : Nat) (owner : Option Nat) (conn : Option Conn) : AdminRes :=
  match owner, conn with
  | some _, some c =>
    if c.info.wq ≠ 0xFFFFFFFF then failWith s stNotPermitted
    else if (s.ringSet a.set).enabled ∨ (c.archive.isSome ∧ c.archive ≠ some a.set) then failWith s stBusy
    else (s.bindArchive a c blk, some (stSuccess, []))
  | _, _ => failWith s stNotFound

/-- The same with what the connection's handle names. -/
def State.archiveFound (s : State) (a : ArchiveArgs) (blk : Nat) : AdminRes :=
  s.archiveOf a blk (s.ownerOf a.conn) (s.conn (handleIndex a.conn))

/-- What ARCHIVE does once its command has started. -/
def State.ledgerArchive (s : State) (a : ArchiveArgs) : AdminRes :=
  let blk := if (s.draw 2).1 = 1 then 1 else 8
  if 4 ≤ a.set ∨ a.recLbas % blk ≠ 0 ∨ a.hdrLbas % blk ≠ 0 ∨ a.recLbas < 2 * blk ∨ a.hdrLbas < 4 * blk ∨
      lbasOverlap a.recLba a.recLbas a.hdrLba a.hdrLbas then failWith (s.draw 2).2 stInvalidField
  else (s.draw 2).2.archiveFound a blk

theorem exec_ledgerArchive (r : AdminRef) (a : ArchiveArgs) (s : State) :
    exec (.ledgerArchive r a) s = runAdmin true false r s (State.ledgerArchive · a) := by
  show execLedgerArchive r a s = _
  unfold execLedgerArchive
  refine congrArg (runAdmin true false r s) (funext fun u => ?_)
  unfold State.ledgerArchive State.archiveFound
  cases u.draw 2 with
  | mk big v =>
    dsimp -zeta only
    generalize v.ownerOf a.conn = owner
    generalize v.conn (handleIndex a.conn) = conn
    cases owner <;> cases conn <;> rfl

section ArchiveFound

variable {s : State} {a : ArchiveArgs} {blk : Nat}

theorem State.archiveFound_notFound (h : s.ownerOf a.conn = none ∨ s.conn (handleIndex a.conn) = none) :
    s.archiveFound a blk = failWith s stNotFound := by
  rw [State.archiveFound]
  obtain h | h := h <;> rw [h]
  · rfl
  · cases s.ownerOf a.conn <;> rfl

variable {o : Nat} {c : Conn} (howner : s.ownerOf a.conn = some o) (hconn : s.conn (handleIndex a.conn) = some c)

include howner hconn

theorem State.archiveFound_notPermitted (howned : c.info.wq ≠ 0xFFFFFFFF) : s.archiveFound a blk = failWith s stNotPermitted := by
  rw [State.archiveFound, howner, hconn]
  exact if_pos howned

variable (hown : c.info.wq = 0xFFFFFFFF)

include hown

theorem State.archiveFound_busy (hbusy : (s.ringSet a.set).enabled = true ∨ (c.archive.isSome = true ∧ c.archive ≠ some a.set)) :
    s.archiveFound a blk = failWith s stBusy := by
  rw [State.archiveFound, howner, hconn]
  exact (if_neg (not_not.mpr hown)).trans (if_pos hbusy)

theorem State.archiveFound_binds (hoff : (s.ringSet a.set).enabled = false) (hfree : c.archive = none ∨ c.archive = some a.set) :
    s.archiveFound a blk = (s.bindArchive a c blk, some (stSuccess, [])) := by
  rw [State.archiveFound, howner, hconn]
  refine (if_neg (not_not.mpr hown)).trans (if_neg ?_)
  rw [hoff]
  obtain hfree | hfree := hfree <;> simp [hfree]

end ArchiveFound

/-! ### LEDGER_DISABLE_SET -/

/-- A ring set that DISABLE_SET has stopped: its headers are owed to it no longer (R253, R254). -/
def State.disableSet (s : State) (t : AdminTok) (set : Nat) : State :=
  let s := s.modSet set fun x => { x with enabled := false, disabling := some t }
  State.dropHeaders { s with ldg := { s.ldg with headers := s.ldg.headers.map fun (h : HdrSt) =>
    { h with owed := h.owed.filter fun (d : Nat × Bool) => decide (d.1 ≠ set) } } }

/-- A ring set for which no DISABLE_SET waits any more, with what its archive held back in staging. -/
def State.undisabled (s : State) (set : Nat) : State :=
  let s := s.archReturn set
  { s with ldg := { s.ldg with sets := s.ldg.sets.set set { s.ldg.sets.getD set RingSet.init with disabling := none } } }

theorem State.ringSet_disableSet (s : State) (t : AdminTok) (set : Nat) :
    (s.disableSet t set).ringSet set = { s.ringSet set with enabled := false, disabling := some t } :=
  State.ringSet_modSet_self s set fun x => { x with enabled := false, disabling := some t }

theorem State.ringSet_undisabled (s : State) (set : Nat) : (s.undisabled set).ringSet set = { s.ringSet set with disabling := none } := by
  simp [State.undisabled, State.ringSet, State.archReturn]

/-- A ring set that is off and has no archive waits for nothing (R254). -/
theorem State.archQuiet_unarchived {s : State} {set : Nat} (hoff : (s.ringSet set).enabled = false) (hconn : (s.ringSet set).conn = none) :
    s.archQuiet set = (s.undisabled set).doneIf (s.ringSet set).disabling stSuccess [] := by
  unfold State.ringSet at hoff hconn
  unfold State.archQuiet
  refine (if_neg (by simp [hoff, hconn])).trans ?_
  split
  case h_1 hi => exact absurd (hi.symm.trans hconn) nofun
  case h_2 => rfl

/-- A Write of the archive that may still succeed holds the command back (R254). -/
theorem State.archQuiet_writing {s : State} {set i : Nat} {c : Conn} {o : ArchOp} (hset : (s.ringSet set).conn = some i)
    (hconn : s.conn i = some c) (ho : o ∈ c.archOps) (hgood : o.failed = false) : s.archQuiet set = s := by
  unfold State.ringSet at hset
  have hany : c.archOps.any (fun o => !o.failed) = true := List.any_eq_true.mpr ⟨o, ho, by simp [hgood]⟩
  simp [State.archQuiet, hset, hconn, hany]

theorem State.owed_undisabled (s : State) (t : AdminTok) (set : Nat) :
    ∀ h ∈ ((s.disableSet t set).undisabled set).ldg.headers, ∀ d ∈ h.owed, d.1 ≠ set := by
  intro h hh d hd
  obtain ⟨h1, hh1, rfl⟩ := List.mem_map.mp hh
  obtain ⟨h0, -, rfl⟩ := List.mem_map.mp (List.mem_filter.mp hh1).1
  simpa using (List.mem_filter.mp hd).2

/-! ### Keys -/

/-- A new key's KEY_ID is that of its public key, and its private key is wrapped (R215 to R217). -/
theorem State.newKey_fst (s : State) (slot : Nat) : ∃ secret, (s.newKey slot).1.wrapped = Config.wrap secret ∧
    (s.newKey slot).1.pub = (Config.publicOf secret ++ zeros 64).take 64 ∧ (s.newKey slot).1.keyId = beNat ((sm3 (s.newKey slot).1.pub).take 8) :=
  ⟨_, rfl, rfl, rfl⟩

theorem State.writing_jrnStart (s : State) (k : JrnKind) (why : JrnPurpose) :
    ∃ x, (s.jrnStart k why).nvm.writing = s.nvm.writing ++ [(x, why)] ∧ x.kind = k ∧ x.seq = s.nvm.nextSeq := ⟨_, rfl, rfl, rfl⟩

/-- A new key takes only free numbers. -/
theorem State.newKey_keeps {β : Sort _} (obs : State → β) (h : ∀ (s : State) x, obs { s with free := x } = obs s) (s : State) (slot : Nat) :
    obs (s.newKey slot).2 = obs s := (h _ _).trans (h s _)

section Commands

variable {s : State} {r : AdminRef} (h : PfStarts r s)

include h

section EnableSet

variable {a : RingSetArgs}

theorem exec_ledgerEnableSet_invalid (hbad : (s.adminOpen r).ringArgsOk a = false) :
    exec (.ledgerEnableSet r a) s = ends s r (s.adminOpen r) stInvalidField [] := by
  show execLedgerEnableSet r a s = _
  unfold execLedgerEnableSet
  exact runAdmin_completes_pf h (if_pos (by simp [hbad]))

theorem exec_ledgerEnableSet_busy (hok : (s.adminOpen r).ringArgsOk a = true) (hon : (s.ringSet a.set).enabled = true) :
    exec (.ledgerEnableSet r a) s = ends s r (s.adminOpen r) stBusy [] := by
  show execLedgerEnableSet r a s = _
  unfold execLedgerEnableSet
  exact runAdmin_completes_pf h ((if_neg (by simp [hok])).trans (if_pos (by simpa using hon)))

theorem exec_ledgerEnableSet (hok : (s.adminOpen r).ringArgsOk a = true) (hoff : (s.ringSet a.set).enabled = false) :
    exec (.ledgerEnableSet r a) s = ends s r ((s.adminOpen r).enableSet a) stSuccess [] := by
  show execLedgerEnableSet r a s = _
  unfold execLedgerEnableSet
  exact runAdmin_completes_pf h ((if_neg (by simp [hok])).trans (if_neg (by simp [hoff])))

theorem ledgerEnableSet_enables (hok : (s.adminOpen r).ringArgsOk a = true) (hoff : (s.ringSet a.set).enabled = false) :
    ∃ u x, exec (.ledgerEnableSet r a) s =
        ends s r u stSuccess [] ∧ u.ringSet a.set = x ∧ x.enabled = true ∧ x.dest = a.dest ∧ x.recLog2 = a.recLog2 ∧
      x.hdrLog2 = a.hdrLog2 ∧ x.vector = a.vector ∧ x.recBase = a.recBase ∧ x.hdrBase = a.hdrBase ∧ x.tailBase = a.tailBase ∧
      x.recProd = 0 ∧ x.recCons = 0 ∧ x.hdrProd = 0 ∧ x.hdrCons = 0 ∧ x.conn = (s.ringSet a.set).conn ∧
      (∀ n, n ≠ a.set → u.ringSet n = s.ringSet n) ∧ u.tb = s.tb ∧ u.coh = s.coh ∧ u.flow = s.flow := by
  have hsets := fun n => (s.adminOpen r).enableSet_keeps (State.ringSet · n) (fun _ _ _ _ _ _ _ _ => rfl) a
  refine ⟨_, (s.ringSet a.set).enabledBy a, exec_ledgerEnableSet h hok hoff, ?_, rfl, rfl, rfl, rfl, rfl, rfl, rfl, rfl, rfl, rfl, rfl, rfl, rfl,
    fun n hn => ?_, ?_, ?_, ?_⟩
  · rw [hsets, State.ringSet_modSet_self, State.ringSet_adminOpen]
  · rw [hsets, State.ringSet_modSet_ne _ hn, State.ringSet_adminOpen]
  · exact (State.enableSet_keeps State.tb (fun _ _ _ _ _ _ _ _ => rfl) _ _).trans (State.adminOpen_keeps State.tb (fun _ _ _ _ => rfl) s r)
  · exact (State.enableSet_keeps State.coh (fun _ _ _ _ _ _ _ _ => rfl) _ _).trans (State.adminOpen_keeps State.coh (fun _ _ _ _ => rfl) s r)
  · exact (State.enableSet_keeps State.flow (fun _ _ _ _ _ _ _ _ => rfl) _ _).trans (State.adminOpen_keeps State.flow (fun _ _ _ _ => rfl) s r)

end EnableSet

/-! ### LEDGER_ARCHIVE -/

section Archive

variable {a : ArchiveArgs}

theorem exec_ledgerArchive_invalid (hbad : 4 ≤ a.set ∨ lbasOverlap a.recLba a.recLbas a.hdrLba a.hdrLbas = true ∨ a.recLbas < 2 ∨ a.hdrLbas < 4) :
    exec (.ledgerArchive r a) s = ends s r { s.adminOpen r with free := s.free + 1 } stInvalidField [] := by
  rw [← State.drawnOpen_eq, exec_ledgerArchive]
  refine runAdmin_completes_pf h (if_pos ?_)
  obtain hset | hapart | hrec | hhdr := hbad
  · exact .inl hset
  · exact .inr (.inr (.inr (.inr (.inr hapart))))
  · refine .inr (.inr (.inr (.inl ?_)))
    split <;> omega
  · refine .inr (.inr (.inr (.inr (.inl ?_))))
    split <;> omega

omit h in
/-- The regions of both rings hold for either size of LBA. -/
theorem archiveRegions_ok (hset : a.set < 4) (hapart : lbasOverlap a.recLba a.recLbas a.hdrLba a.hdrLbas = false) (hrec : a.recLbas % 8 = 0)
    (hhdr : a.hdrLbas % 8 = 0) (hrecs : 16 ≤ a.recLbas) (hhdrs : 32 ≤ a.hdrLbas) (big : Nat) :
    ¬(4 ≤ a.set ∨ a.recLbas % (if big = 1 then 1 else 8) ≠ 0 ∨ a.hdrLbas % (if big = 1 then 1 else 8) ≠ 0 ∨
      a.recLbas < 2 * (if big = 1 then 1 else 8) ∨ a.hdrLbas < 4 * (if big = 1 then 1 else 8) ∨
      lbasOverlap a.recLba a.recLbas a.hdrLba a.hdrLbas = true) := by
  rw [hapart]
  split <;> simp <;> omega

section RegionsHold

variable (hregions : ∀ big, ¬(4 ≤ a.set ∨ a.recLbas % (if big = 1 then 1 else 8) ≠ 0 ∨ a.hdrLbas % (if big = 1 then 1 else 8) ≠ 0 ∨
      a.recLbas < 2 * (if big = 1 then 1 else 8) ∨ a.hdrLbas < 4 * (if big = 1 then 1 else 8) ∨
      lbasOverlap a.recLba a.recLbas a.hdrLba a.hdrLbas = true))

include hregions

/-- ARCHIVE with regions that hold goes by its connection, with the size of LBA of its namespace. -/
theorem exec_ledgerArchive_found {u : Nat → State} {st : Nat} (hfound : ∀ blk, (s.drawnOpen r).archiveFound a blk = (u blk, some (st, []))) :
    ∃ blk, exec (.ledgerArchive r a) s = ends s r (u blk) st [] :=
  ⟨_, (exec_ledgerArchive r a s).trans (runAdmin_completes_pf h ((if_neg (hregions _)).trans (hfound _)))⟩

theorem exec_ledgerArchive_notFound (hnone : s.ownerOf a.conn = none ∨ s.conn (handleIndex a.conn) = none) :
    exec (.ledgerArchive r a) s = ends s r { s.adminOpen r with free := s.free + 1 } stNotFound [] := by
  have hnone' : (s.drawnOpen r).ownerOf a.conn = none ∨ (s.drawnOpen r).conn (handleIndex a.conn) = none := by
    rwa [State.drawnOpen_keeps (State.ownerOf · a.conn) fun _ _ _ _ _ => rfl,
      State.drawnOpen_keeps (State.conn · (handleIndex a.conn)) fun _ _ _ _ _ => rfl]
  obtain ⟨_, hexec⟩ := exec_ledgerArchive_found h hregions fun _ => State.archiveFound_notFound hnone'
  rw [hexec, State.drawnOpen_eq]

variable {o : Nat} {c : Conn} (howner : s.ownerOf a.conn = some o) (hconn : s.conn (handleIndex a.conn) = some c)

include howner hconn

theorem exec_ledgerArchive_notPermitted (howned : c.info.wq ≠ 0xFFFFFFFF) :
    exec (.ledgerArchive r a) s = ends s r { s.adminOpen r with free := s.free + 1 } stNotPermitted [] := by
  obtain ⟨_, hexec⟩ := exec_ledgerArchive_found h hregions fun _ => State.archiveFound_notPermitted
    ((State.drawnOpen_keeps (State.ownerOf · a.conn) (fun _ _ _ _ _ => rfl) s r).trans howner)
    ((State.drawnOpen_keeps (State.conn · (handleIndex a.conn)) (fun _ _ _ _ _ => rfl) s r).trans hconn) howned
  rw [hexec, State.drawnOpen_eq]

theorem exec_ledgerArchive_busy (hown : c.info.wq = 0xFFFFFFFF)
    (hbusy : (s.ringSet a.set).enabled = true ∨ (c.archive.isSome = true ∧ c.archive ≠ some a.set)) :
    exec (.ledgerArchive r a) s = ends s r { s.adminOpen r with free := s.free + 1 } stBusy [] := by
  rw [← State.drawnOpen_keeps (State.ringSet · a.set) (fun _ _ _ _ _ => rfl) s r] at hbusy
  obtain ⟨_, hexec⟩ := exec_ledgerArchive_found h hregions fun _ => State.archiveFound_busy
    ((State.drawnOpen_keeps (State.ownerOf · a.conn) (fun _ _ _ _ _ => rfl) s r).trans howner)
    ((State.drawnOpen_keeps (State.conn · (handleIndex a.conn)) (fun _ _ _ _ _ => rfl) s r).trans hconn) hown hbusy
  rw [hexec, State.drawnOpen_eq]

theorem ledgerArchive_binds (hown : c.info.wq = 0xFFFFFFFF) (hoff : (s.ringSet a.set).enabled = false) (hfree : c.archive = none ∨ c.archive = some a.set) :
    ∃ u x c', exec (.ledgerArchive r a) s = ends s r u stSuccess [] ∧ u.ringSet a.set = x ∧
            x.conn = some (handleIndex a.conn) ∧ x.nsid = a.nsid ∧ x.recLba = a.recLba ∧ x.recLbas = a.recLbas ∧ x.hdrLba = a.hdrLba ∧
            x.hdrLbas = a.hdrLbas ∧ x.recPos = 0 ∧ x.hdrPos = 0 ∧ x.recWraps = 0 ∧ x.hdrWraps = 0 ∧ x.enabled = false ∧
            u.conn (handleIndex a.conn) = some c' ∧ c'.archive = some a.set ∧ c'.state = c.state ∧ u.tb = s.tb := by
  have hset := State.drawnOpen_keeps (State.ringSet · a.set) (fun _ _ _ _ _ => rfl) s r
  have hconn' := (State.drawnOpen_keeps (State.conn · (handleIndex a.conn)) (fun _ _ _ _ _ => rfl) s r).trans hconn
  obtain ⟨blk, hexec⟩ := exec_ledgerArchive_found h hregions fun _ => State.archiveFound_binds
    ((State.drawnOpen_keeps (State.ownerOf · a.conn) (fun _ _ _ _ _ => rfl) s r).trans howner) hconn' hown (hset ▸ hoff) hfree
  obtain ⟨now, hx⟩ := (s.drawnOpen r).ringSet_bindArchive a c blk
  obtain ⟨c', hc', harchive, hstate⟩ := State.conn_bindArchive hconn' blk
  refine ⟨_, (s.ringSet a.set).archivedBy a c blk now, c', hexec, hx.trans (congrArg (RingSet.archivedBy · a c blk now) hset),
    rfl, rfl, rfl, rfl, rfl, rfl, rfl, rfl, rfl, rfl, hoff, hc', harchive, hstate, ?_⟩
  exact (State.bindArchive_keeps State.tb (fun _ _ _ => rfl) _ _ _ _).trans (State.drawnOpen_keeps State.tb (fun _ _ _ _ _ => rfl) s r)

end RegionsHold

end Archive

/-! ### LEDGER_DISABLE_SET -/

section DisableSet

variable {set : Nat}

theorem exec_ledgerDisableSet_invalid (hset : 4 ≤ set) : exec (.ledgerDisableSet r set) s = ends s r (s.adminOpen r) stInvalidField [] := by
  show execLedgerDisableSet r set s = _
  unfold execLedgerDisableSet
  exact runAdmin_completes_pf h (if_pos hset)

variable (hset : set < 4)

include hset

theorem exec_ledgerDisableSet_off (hoff : (s.ringSet set).enabled = false) :
    exec (.ledgerDisableSet r set) s = ends s r (s.adminOpen r) stSuccess [] := by
  show execLedgerDisableSet r set s = _
  unfold execLedgerDisableSet
  exact runAdmin_completes_pf h ((if_neg (not_le.mpr hset)).trans (if_pos (by simp [hoff])))

variable (hon : (s.ringSet set).enabled = true)

include hon

theorem exec_ledgerDisableSet : exec (.ledgerDisableSet r set) s = .next (((s.adminOpen r).disableSet (s.token r) set).archQuiet set) := by
  show execLedgerDisableSet r set s = _
  unfold execLedgerDisableSet
  exact runAdmin_waits_pf h ((if_neg (not_le.mpr hset)).trans (if_neg (by simp [hon])))

theorem ledgerDisableSet_unarchived (hconn : (s.ringSet set).conn = none) : ∃ u, exec (.ledgerDisableSet r set) s = ends s r u stSuccess [] ∧
    (u.ringSet set).enabled = false ∧ (u.ringSet set).disabling = none ∧ (∀ h ∈ u.ldg.headers, ∀ d ∈ h.owed, d.1 ≠ set) := by
  have hx := (s.adminOpen r).ringSet_disableSet (s.token r) set
  rw [State.ringSet_adminOpen] at hx
  refine ⟨((s.adminOpen r).disableSet (s.token r) set).undisabled set, ?_, ?_, ?_, State.owed_undisabled _ _ _⟩
  · rw [exec_ledgerDisableSet h hset hon, State.archQuiet_unarchived (by rw [hx]) (by rw [hx]; exact hconn), hx]
    rfl
  all_goals rw [State.ringSet_undisabled, hx]

theorem ledgerDisableSet_writing {i : Nat} {c : Conn} {o : ArchOp} (hi : (s.ringSet set).conn = some i) (hconn : s.conn i = some c)
    (ho : o ∈ c.archOps) (hgood : o.failed = false) : ∃ t, exec (.ledgerDisableSet r set) s = .next t ∧ (t.ringSet set).enabled = false ∧
      (t.ringSet set).disabling = some (s.token r) ∧ t.qm = (s.adminOpen r).qm := by
  have hx := (s.adminOpen r).ringSet_disableSet (s.token r) set
  rw [State.ringSet_adminOpen] at hx
  refine ⟨(s.adminOpen r).disableSet (s.token r) set, ?_, ?_, ?_, rfl⟩
  · rw [exec_ledgerDisableSet h hset hon,
      State.archQuiet_writing (s := (s.adminOpen r).disableSet (s.token r) set) (by rw [hx]; exact hi) ((s.conn_adminOpen r i).trans hconn) ho hgood]
  all_goals rw [hx]

end DisableSet

/-! ### LEDGER_ROTATE_KEY and LEDGER_EXPORT_KEY -/

section Keys

variable {slot len : Nat}

theorem exec_ledgerRotateKey_invalid (hbad : 4 ≤ slot ∨ len < 200) :
    exec (.ledgerRotateKey r slot len) s = ends s r (s.adminOpen r) stInvalidField [] := by
  show execLedgerRotateKey r slot len s = _
  unfold execLedgerRotateKey
  exact runAdmin_completes_pf h (if_pos hbad)

section RotateKey

variable (hok : ¬(4 ≤ slot ∨ len < 200))

include hok

theorem exec_ledgerRotateKey_signing (hsel : slot = s.ldg.keySel) :
    exec (.ledgerRotateKey r slot len) s = ends s r (s.adminOpen r) stNotPermitted [] := by
  show execLedgerRotateKey r slot len s = _
  unfold execLedgerRotateKey
  exact runAdmin_completes_pf h ((if_neg hok).trans (if_pos (.inl (by simpa using hsel))))

variable (hsel : slot ≠ s.ldg.keySel) (hwait : s.regs.reamWait.get? F.ldgCtrl_keySel.addr = none)
  (harmed : s.regs.armed.get? F.ldgCtrl_keySel.addr = none)
  (hstaged : slot ≠ getBits ((s.adminOpen r).stagedView F.ldgCtrl_keySel.addr) F.ldgCtrl_keySel.lo F.ldgCtrl_keySel.width)

include hsel hwait harmed hstaged

omit h hok in
/-- A slot that signs neither now nor soon may take a new key (R255). -/
theorem mayRotate : ¬(slot = (s.adminOpen r).ldg.keySel ∨
    slot = getBits ((s.adminOpen r).stagedView F.ldgCtrl_keySel.addr) F.ldgCtrl_keySel.lo F.ldgCtrl_keySel.width ∨
    ([(s.adminOpen r).regs.armed.get? F.ldgCtrl_keySel.addr, (s.adminOpen r).regs.reamWait.get? F.ldgCtrl_keySel.addr].any fun w => match w with
      | some w => decide (getBits w.toNat F.ldgCtrl_keySel.lo F.ldgCtrl_keySel.width = slot)
      | none => false) = true) := by
  simp [hsel, hwait, harmed, hstaged]

theorem exec_ledgerRotateKey_busy (hrecent : ∃ t, s.ldg.lastRotate = some t ∧ s.now < t + 10 * secStamp) :
    exec (.ledgerRotateKey r slot len) s = ends s r (s.adminOpen r) stBusy [] := by
  obtain ⟨t, ht, hlt⟩ := hrecent
  show execLedgerRotateKey r slot len s = _
  unfold execLedgerRotateKey
  exact runAdmin_completes_pf h ((if_neg hok).trans ((if_neg (mayRotate hsel hwait harmed hstaged)).trans
    (if_pos (by simp [ht, State.now_adminOpen, hlt]))))

theorem exec_ledgerRotateKey (hrecent : ∀ t, s.ldg.lastRotate = some t → t + 10 * secStamp ≤ s.now) :
    let k := ((s.adminOpen r).newKey slot).1
    exec (.ledgerRotateKey r slot len) s = .next (((s.adminOpen r).newKey slot).2.jrnStart
      (.ledgerKey slot k.keyId k.pub k.wrapped k.cert) (.rotateKey (s.token r) slot k.keyId len)) := by
  show execLedgerRotateKey r slot len s = _
  unfold execLedgerRotateKey
  refine runAdmin_waits_pf h ((if_neg hok).trans ((if_neg (mayRotate hsel hwait harmed hstaged)).trans (if_neg ?_)))
  cases ht : s.ldg.lastRotate with
  | none => simp [ht]
  | some t => simpa [ht, State.now_adminOpen] using hrecent t ht

theorem ledgerRotateKey_writes (hrecent : ∀ t, s.ldg.lastRotate = some t → t + 10 * secStamp ≤ s.now) :
    ∃ t x pub wrapped cert, exec (.ledgerRotateKey r slot len) s = .next t ∧
        t.nvm.writing = s.nvm.writing ++ [(x, .rotateKey (s.token r) slot (beNat ((sm3 pub).take 8)) len)] ∧
        x.kind = .ledgerKey slot (beNat ((sm3 pub).take 8)) pub wrapped cert ∧
        (∃ secret, wrapped = Config.wrap secret ∧ pub = (Config.publicOf secret ++ zeros 64).take 64) ∧ pub.length = 64 ∧ x.seq = s.nvm.nextSeq ∧
        t.ldg = s.ldg ∧ t.qm = (s.adminOpen r).qm := by
  obtain ⟨secret, hwrapped, hpub, hid⟩ := (s.adminOpen r).newKey_fst slot
  have hnvm : ((s.adminOpen r).newKey slot).2.nvm = s.nvm :=
    (State.newKey_keeps State.nvm (fun _ _ => rfl) _ _).trans (State.adminOpen_keeps State.nvm (fun _ _ _ _ => rfl) s r)
  have hldg : ((s.adminOpen r).newKey slot).2.ldg = s.ldg :=
    (State.newKey_keeps State.ldg (fun _ _ => rfl) _ _).trans (State.adminOpen_keeps State.ldg (fun _ _ _ _ => rfl) s r)
  have hqm : ((s.adminOpen r).newKey slot).2.qm = (s.adminOpen r).qm := State.newKey_keeps State.qm (fun _ _ => rfl) _ _
  have hexec := exec_ledgerRotateKey h hok hsel hwait harmed hstaged hrecent
  generalize hk : ((s.adminOpen r).newKey slot).1 = k at *
  generalize ((s.adminOpen r).newKey slot).2 = u at *
  obtain ⟨x, hwriting, hkind, hseq⟩ := u.writing_jrnStart (.ledgerKey slot k.keyId k.pub k.wrapped k.cert)
    (.rotateKey (s.token r) slot k.keyId len)
  refine ⟨_, x, k.pub, k.wrapped, k.cert, hexec, ?_, ?_, ⟨secret, hwrapped, hpub⟩, ?_, ?_, hldg, hqm⟩
  · rw [hwriting, hnvm, hid]
  · rw [hkind, hid]
  · simp [hpub, zeros]
  · rw [hseq, hnvm]

end RotateKey

section ExportKey

variable {id : Nat}

theorem exec_ledgerExportKey_invalid (hbad : len < 200 ∨ (4 ≤ slot ∧ slot ≠ 0xFF)) :
    exec (.ledgerExportKey r slot id len) s = ends s r (s.adminOpen r) stInvalidField [] := by
  show execLedgerExportKey r slot id len s = _
  unfold execLedgerExportKey
  exact runAdmin_completes_pf h (if_pos hbad)

variable (hok : ¬(len < 200 ∨ (4 ≤ slot ∧ slot ≠ 0xFF)))

include hok

theorem exec_ledgerExportKey_notFound (hnone : s.exportedKey slot id = none) :
    exec (.ledgerExportKey r slot id len) s = ends s r (s.adminOpen r) stNotFound [] := by
  show execLedgerExportKey r slot id len s = _
  unfold execLedgerExportKey
  refine runAdmin_completes_pf h ((if_neg hok).trans ?_)
  rw [State.exportedKey_adminOpen, hnone]
  rfl

theorem exec_ledgerExportKey {k : KeySlot} (hk : s.exportedKey slot id = some k) :
    exec (.ledgerExportKey r slot id len) s = ends s r ((s.adminOpen r).dma 0 .writeBack r.buf k.cert) stSuccess [] := by
  show execLedgerExportKey r slot id len s = _
  unfold execLedgerExportKey
  refine runAdmin_completes_pf h ((if_neg hok).trans ?_)
  rw [State.exportedKey_adminOpen, hk]

end ExportKey

end Keys

end Commands

/-- Settles O48, command by command: each branch of a command's body is one equation. -/
theorem ledgerCommands : Obligations.LedgerCommands := by
  intro s r h
  refine ⟨fun a => ⟨exec_ledgerEnableSet_invalid h, exec_ledgerEnableSet_busy h, ledgerEnableSet_enables h⟩,
    fun a => ⟨exec_ledgerArchive_invalid h, ?archive⟩,
    fun set => ⟨exec_ledgerDisableSet_invalid h, exec_ledgerDisableSet_off h, fun hset hon =>
      ⟨ledgerDisableSet_unarchived h hset hon, fun _ _ _ hi hc ho hgood => ledgerDisableSet_writing h hset hon hi hc ho hgood⟩⟩,
    fun slot len => ⟨exec_ledgerRotateKey_invalid h, fun hlen hslot => exec_ledgerRotateKey_signing h (by omega),
      fun hlen hslot hsel hwait harmed hstaged => ⟨exec_ledgerRotateKey_busy h (by omega) hsel hwait harmed hstaged,
        ledgerRotateKey_writes h (by omega) hsel hwait harmed hstaged⟩⟩,
    fun slot id len => ⟨exec_ledgerExportKey_invalid h, fun hlen hslot =>
      ⟨exec_ledgerExportKey_notFound h (by omega), fun _ => exec_ledgerExportKey h (by omega)⟩⟩⟩
  intro hset hapart hrec hhdr hrecs hhdrs
  have hregions := archiveRegions_ok hset hapart hrec hhdr hrecs hhdrs
  exact ⟨exec_ledgerArchive_notFound h hregions, fun o c ho hc => ⟨exec_ledgerArchive_notPermitted h hregions ho hc,
    exec_ledgerArchive_busy h hregions ho hc, ledgerArchive_binds h hregions ho hc⟩⟩

end Sys2Proof.Machine
end

section
/-! PROOFS. TM_ADMISSION (R193, R237, R505 to R507, R535, R536): a recorded frame that the ledger refuses, and a frame for one port. -/

namespace Sys2Proof.Machine

/-! ### A key set in a table -/

theorem insertKey_insertKey_self {α : Type} (k : Nat) (v w : α) (l : List (Nat × α)) : insertKey k w (insertKey k v l) = insertKey k w l := by
  induction l with
  | nil => simp [insertKey]
  | cons e r ih =>
    obtain ⟨a, x⟩ := e
    by_cases hlt : k < a
    · simp [insertKey, hlt]
    · by_cases heq : k = a
      · simp [insertKey, heq]
      · simp [insertKey, hlt, heq, ih]

/-- The last value set at a key is the one that counts. -/
theorem Table.set_set_self {α : Type} (t : Table α) (k : Nat) (v w : α) : (t.set k v).set k w = t.set k w :=
  congrArg Table.mk (insertKey_insertKey_self k v w t.entries)

theorem flatMap_insertKey {α β : Type} (f : α → List β) (k : Nat) (v : α) (l : List (Nat × α)) (h : l.flatMap (fun e => f e.2) = []) :
    (insertKey k v l).flatMap (fun e => f e.2) = f v := by
  induction l with
  | nil => simp [insertKey]
  | cons e r ih =>
    obtain ⟨a, x⟩ := e
    obtain ⟨hx, hr⟩ := List.append_eq_nil_iff.mp h
    unfold insertKey
    split_ifs
    · simp [hx, show r.flatMap (fun e => f e.2) = [] from hr]
    · simp [show r.flatMap (fun e => f e.2) = [] from hr]
    · simp [hx, ih hr]

/-- Of a table whose values bring nothing, one key set brings what its value does. -/
theorem Table.flatMap_values_set {α β : Type} (f : α → List β) (t : Table α) (k : Nat) (v : α) (h : t.values.flatMap f = []) :
    (t.set k v).values.flatMap f = f v := by
  simp only [Table.values, List.flatMap_map] at h ⊢
  exact flatMap_insertKey f k v t.entries h

theorem mem_values_of_lookupKey {α : Type} {k : Nat} {v : α} {l : List (Nat × α)} (h : lookupKey k l = some v) : v ∈ l.map (·.2) := by
  induction l with
  | nil => cases h
  | cons e r ih =>
    obtain ⟨a, x⟩ := e
    unfold lookupKey at h
    split at h
    · cases h
      exact List.mem_cons_self
    · exact List.mem_cons_of_mem _ (ih h)

/-- A value that a table reads is the default or among its values. -/
theorem Table.getD_eq_or_mem {α : Type} (t : Table α) (k : Nat) (d : α) : t.getD k d = d ∨ t.getD k d ∈ t.values := by
  cases h : t.get? k with
  | none => exact .inl (by simp [Table.getD, h])
  | some v => exact .inr (by rw [Table.getD, h]; exact mem_values_of_lookupKey h)

/-! ### The copies of a frame -/

/-- A frame without copies has none in any queue. -/
theorem State.filter_queue_eq_nil {s : State} {frame : Nat} (h : s.copiesOf frame = []) (q : Nat) : (s.queue q).filter (·.frame = frame) = [] := by
  obtain hq | hq := s.tm.queues.getD_eq_or_mem q []
  · simp [State.queue, hq]
  · exact List.flatMap_eq_nil_iff.mp h _ hq

/-- The copy that joins a queue is its frame's only one where the frame had none. -/
theorem State.copiesOf_joined {s t : State} {q : Nat} {c : Copy} (h : s.copiesOf c.frame = [])
    (ht : t.tm.queues = s.tm.queues.set q (s.queue q ++ [c])) : t.copiesOf c.frame = [c] := by
  have hset := Table.flatMap_values_set (fun l : List Copy => l.filter (·.frame = c.frame)) s.tm.queues q (s.queue q ++ [c]) h
  have hcopies : t.copiesOf c.frame = (s.queue q ++ [c]).filter (·.frame = c.frame) := by
    rw [State.copiesOf, ht]
    exact hset
  rw [hcopies, List.filter_append, State.filter_queue_eq_nil h]
  simp

/-- The state in which a frame's one copy has joined its queue. -/
structure Joined (s t : State) (q : Nat) (c : Copy) : Prop where
  queues : t.tm.queues = s.tm.queues.set q (s.queue q ++ [c])
  input : t.tm.input = s.tm.input

namespace Joined

variable {s t u : State} {q : Nat} {c : Copy}

theorem of_tm (h : Joined s t q c) (htm : u.tm = t.tm) : Joined s u q c := ⟨htm ▸ h.queues, htm ▸ h.input⟩

theorem queue_self (h : Joined s t q c) : t.queue q = s.queue q ++ [c] := by
  rw [State.queue, h.queues, Table.getD_set_self]

theorem queue_ne (h : Joined s t q c) {n : Nat} (hn : n ≠ q) : t.queue n = s.queue n := by
  rw [State.queue, h.queues, Table.getD_set_ne _ hn]
  rfl

theorem copiesOf (h : Joined s t q c) (hnone : s.copiesOf c.frame = []) : t.copiesOf c.frame = [c] :=
  State.copiesOf_joined hnone h.queues

end Joined

/-! ### A copy put at the end of its queue (R505) -/

/-- Cells taken leave the links of the ports and the units as they are. -/
theorem State.portTakes_takeCells (s : State) (p pr n q : Nat) : (s.takeCells p pr n).portTakes q = s.portTakes q := by
  refine State.checkXoff_keeps_others (State.portTakes · q) (fun u r f hf => ?_) _ _ _
  show (((u.modPort r f).port q).link && u.up .port 0 q) = _
  obtain rfl | hne := eq_or_ne q r
  · obtain ⟨_, _, _, hport⟩ := hf (u.port q)
    rw [State.port_modPort_self, hport]
    rfl
  · rw [State.port_modPort_ne u hne]
    rfl

theorem State.queues_takeCells (s : State) (p pr n : Nat) :
    (s.takeCells p pr n).tm.queues = s.tm.queues ∧ (s.takeCells p pr n).tm.input = s.tm.input :=
  ⟨State.checkXoff_keeps (fun u => u.tm.queues) (fun _ _ => rfl) _ _ _, State.checkXoff_keeps (fun u => u.tm.input) (fun _ _ => rfl) _ _ _⟩

/-- A copy as it joins its queue. -/
def State.joiningCopy (s : State) (x : PipeFrame) (c : Copy) : Copy := { c with id := s.tm.nextCopy, frame := x.frame.id, mark := s.liveMark }

theorem State.joined_putCopy (s : State) (x : PipeFrame) (c : Copy) : Joined s (s.putCopy x c) c.queue (s.joiningCopy x c) := by
  unfold State.putCopy
  extract_lets f held pr need onDie c' tm u
  split
  · exact ⟨(State.queues_takeCells u _ _ _).1, (State.queues_takeCells u _ _ _).2⟩
  · exact ⟨rfl, rfl⟩

/-- A copy put in its queue changes cells, queues and pause alone. -/
theorem State.putCopy_keeps {β : Sort _} (obs : State → β) (h : ∀ (s : State) x0 x1, obs { s with tm := x0, ports := x1 } = obs s)
    (s : State) (x : PipeFrame) (c : Copy) : obs (s.putCopy x c) = obs s := by
  unfold State.putCopy
  extract_lets f held pr need onDie c' tm u
  have hu : obs u = obs s := h s _ s.ports
  split
  · exact (State.takeCells_keeps obs h u _ _ _).trans hu
  · exact hu

theorem State.portTakes_putCopy (s : State) (x : PipeFrame) (c : Copy) (p : Nat) : (s.putCopy x c).portTakes p = s.portTakes p := by
  unfold State.putCopy
  extract_lets f held pr need onDie c' tm u
  split
  · exact State.portTakes_takeCells u _ _ _ _
  · rfl

/-! ### The end of an admission -/

theorem State.markCut_keeps {β : Sort _} (obs : State → β) (h : ∀ (s : State) x0 x1, obs { s with tm := x0, ctr := x1 } = obs s)
    (s : State) (f : Frame) (was : Bool) : obs (s.markCut f was) = obs s := by
  have hctr : ∀ (u : State) x, obs { u with ctr := x } = obs u := fun u x => h u u.tm x
  unfold State.markCut
  split
  · split
    · exact (State.count_keeps obs hctr _ _ _ _).trans (h s _ s.ctr)
    · rfl
  · rfl

/-- A copy that goes cut-through stays where it is: it was alone in its queue (R535). -/
theorem Joined.markCut {s t : State} {q : Nat} {c : Copy} {f : Frame} {was : Bool} (h : Joined s t q c) (hq : c.queue = q)
    (hframe : c.frame = f.id) (hnone : s.copiesOf f.id = []) (hempty : was = true → s.queue q = []) :
    ∃ b, Joined s (t.markCut f was) q { c with cut := b } := by
  have hcopies : t.copiesOf f.id = [c] := hframe ▸ h.copiesOf (hframe ▸ hnone)
  cases was with
  | false => exact ⟨c.cut, h⟩
  | true =>
    unfold State.markCut
    rw [hcopies]
    dsimp only
    split
    · refine ⟨true, ?_, ?_⟩
      · rw [State.count_keeps State.tm fun _ _ => rfl]
        dsimp only
        rw [hq, h.queues, Table.set_set_self, hempty rfl]
        rfl
      · rw [State.count_keeps State.tm fun _ _ => rfl]
        exact h.input
    · exact ⟨c.cut, h⟩

/-- A copy for a port that takes it is not lost (R331). -/
theorem State.discardLost_of_portTakes {s : State} {frame : Nat} {c : Copy} (hcopies : s.copiesOf frame = [c]) (hport : c.queue < 2000)
    (htakes : s.portTakes c.port = true) : s.discardLost frame = s := by
  simp [State.discardLost, hcopies, hport, htakes]

/-- The steps of an admission that follow the copies and the leaf (R193, R331, R535). -/
def State.endAdmission (s : State) (f : Frame) (disp left : Nat) (cut : Bool) : State :=
  ((((s.freeSlice f).settled f disp left).markCut f cut).discardLost f.id).forget f.id

theorem State.leavesOf_forget (s : State) (frame n : Nat) : (s.forget frame).leavesOf n = s.leavesOf n := by
  unfold State.forget
  split <;> rfl

/-- The end of an admission keeps a copy that its port takes, and every leaf. -/
theorem Joined.endAdmission {s t : State} {q disp left : Nat} {c : Copy} {f : Frame} {cut : Bool} (h : Joined s t q c) (hq : c.queue = q)
    (hport : q < 2000) (hframe : c.frame = f.id) (hnone : s.copiesOf f.id = []) (hempty : cut = true → s.queue q = [])
    (htakes : t.portTakes c.port = true) : ∃ b, Joined s (t.endAdmission f disp left cut) q { c with cut := b } ∧
      ∀ n, (t.endAdmission f disp left cut).leavesOf n = t.leavesOf n := by
  have hsettled : Joined s ((t.freeSlice f).settled f disp left) q c := h.of_tm rfl
  obtain ⟨b, hcut⟩ := hsettled.markCut (was := cut) hq hframe hnone hempty
  have hkeeps : ∀ {β : Type} (obs : State → β), (∀ (u : State) x0 x1 x2 x3, obs { u with slices := x0, qm := x1, tm := x2, ctr := x3 } = obs u) →
      obs (((t.freeSlice f).settled f disp left).markCut f cut) = obs t := fun obs hobs =>
    (State.markCut_keeps obs (fun u x y => hobs u u.slices u.qm x y) _ f cut).trans (hobs t _ _ t.tm t.ctr)
  have htakes : (((t.freeSlice f).settled f disp left).markCut f cut).portTakes c.port = true :=
    (hkeeps (State.portTakes · c.port) fun _ _ _ _ _ => rfl).trans htakes
  have hcopies := hcut.copiesOf (hframe ▸ hnone)
  rw [hframe] at hcopies
  have hlost := State.discardLost_of_portTakes hcopies (hq ▸ hport) htakes
  refine ⟨b, hcut.of_tm ?_, fun n => ?_⟩ <;> rw [State.endAdmission, hlost]
  · exact State.forget_keeps State.tm (fun _ _ => rfl) _ _
  · exact (State.leavesOf_forget _ _ n).trans (hkeeps (State.leavesOf · n) fun _ _ _ _ _ => rfl)

/-- The leaf of a frame whose Ream takes it goes to its place there, whether the frame stays in the device or not (R185, R189). -/
theorem State.leavesOf_formLeaf_keep (s : State) (f : Frame) (d : Nat) (k : Bool) (r : ReamSt) (hr : s.openReam f.ream = some r)
    (htakes : s.takesLeaf r = true) :
    (s.formLeaf f d k).leavesOf f.ream = some (insertLeaf (f.leaf d (r.mask.testBit f.d.ledgerClass)) r.frames) := by
  cases k with
  | false => exact s.leavesOf_formLeaf f d r hr htakes
  | true =>
    have hopen : (s.undecidedDone f).openReam f.ream = some r := hr
    have htakes : (s.undecidedDone f).takesLeaf r = true := htakes
    have hsealed : (s.undecidedDone f).sealedBefore f = s.undecidedDone f := by simp [State.sealedBefore, hopen, htakes]
    have hfilter : ((s.undecidedDone f).openReam f.ream).filter (s.undecidedDone f).takesLeaf = some r := by simp [hopen, htakes]
    have hleaf := (s.undecidedDone f).leavesOf_insert f.ream (f.leaf d (r.mask.testBit f.d.ledgerClass))
    have hopened : (s.undecidedDone f).leavesOf f.ream = some r.frames := by rw [State.leavesOf, hopen]; rfl
    rw [hopened] at hleaf
    rw [State.formLeaf.eq_1 s f d true, ← State.undecidedDone.eq_1, hsealed]
    simp only [hfilter]
    split
    · exact (State.leavesOf_stageRecord _ _ _ _ _).trans hleaf
    · exact hleaf

/-! ### The command -/

/-- The state in which the next frame has left the input of the traffic manager. -/
def State.takeInput (s : State) (rest : List PipeFrame) : State := { s with tm := { s.tm with input := rest } }

section Admission

variable {s : State} {x : PipeFrame} {rest : List PipeFrame} (h : Serving s) (hinput : s.tm.input = x :: rest)

include h hinput

theorem exec_tmAdmission_refused (hrefusing : s.ldg.refusing = true) (hrec : s.isRecorded x.frame.ream x.frame.d.ledgerClass = true) :
    exec .tmAdmission s = .next (((s.takeInput rest).bumpAt F.ldgRefused_count 1 x.frame.stamp).dropInSlice x.frame 0x17) := by
  have hexec : exec .tmAdmission s = execTmAdmission s := rfl
  rw [hexec, execTmAdmission, whenWorking_of_serving h, hinput]
  exact if_pos (Bool.and_eq_true_iff.mpr ⟨hrefusing, hrec⟩)

/-- A recorded frame while the ledger refuses is dropped as LEDGER_FULL (R237). -/
theorem tmAdmission_refused (hrefusing : s.ldg.refusing = true) (hrec : s.isRecorded x.frame.ream x.frame.d.ledgerClass = true) :
    ∃ t, exec .tmAdmission s = .next t ∧ t.tm = { s.tm with input := rest } ∧
        ∀ r, s.openReam x.frame.ream = some r → s.takesLeaf r = true → ∃ r', t.openReam x.frame.ream = some r' ∧
          r'.frames = insertLeaf (x.frame.leaf 0x17 (r.mask.testBit x.frame.d.ledgerClass)) r.frames := by
  refine ⟨_, exec_tmAdmission_refused h hinput hrefusing hrec, ?_, fun r hr htakes => ?_⟩
  · exact (State.formLeaf_keeps State.tm (fun _ _ _ _ _ _ => rfl) _ _ _ _).trans (State.bumpAt_keeps State.tm (fun _ _ _ => rfl) _ _ _ _)
  · refine Option.map_eq_some_iff.mp (State.leavesOf_formLeaf_keep _ x.frame 0x17 _ r ?_ ?_)
    · exact (State.bumpAt_keeps (State.openReam · x.frame.ream) (fun _ _ _ => rfl) _ _ _ _).trans hr
    · exact (State.bumpAt_keeps (State.takesLeaf · r) (fun _ _ _ => rfl) _ _ _ _).trans htakes

/-- The copy of a frame for an egress port, before it joins its queue. -/
def PipeFrame.portCopy (x : PipeFrame) (p : Nat) : Copy :=
  { Copy.plain (qPort p x.frame.d.queueClass) p x.frame.d.queueClass (cellsOf x.frame.bytes.length) x.frame.bytes.length with portCopy := true }

omit h hinput in
/-- A new frame within the port's frame size and R507 takes its cells and joins its class queue (R339, R505, R507, R841). -/
theorem State.toPort_admits {p : Nat} (disp : Nat) (hconf : s.configured p = true) (hfit : s.tooLong p x.frame.bytes.length = false)
    (hnew : s.tm.frames.get? x.frame.id = none)
    (hadmits : s.tmAdmits (qPort p x.frame.d.queueClass) x.frame.d.queueClass (cellsOf x.frame.bytes.length) true = true)
    (hcells : cellsOf x.frame.bytes.length ≤ s.freeCells) :
    s.toPort x p x.frame.d.queueClass x.frame.bytes.length false disp = (disp, s.putCopy x (x.portCopy p)) := by
  unfold State.toPort State.tryCopy
  simp [hconf, hfit, hnew, hadmits, Nat.not_lt.mpr hcells, Copy.plain, PipeFrame.portCopy]

section ToPort

variable {p : Nat} (hrefusing : s.ldg.refusing = false) (hnamed : x.frame.d.named = [0]) (hdest : x.frame.d.dest = some (.port p))
  (hrel : x.frame.d.rel = none) (hdecrypt : x.frame.d.decrypt = none) (hencrypt : x.frame.d.encrypt = none)
  (hconf : s.configured p = true) (hnew : s.tm.frames.get? x.frame.id = none) (hfit : s.tooLong p x.frame.bytes.length = false)
  (hadmits : s.tmAdmits (qPort p x.frame.d.queueClass) x.frame.d.queueClass (cellsOf x.frame.bytes.length) true = true)
  (hcells : cellsOf x.frame.bytes.length ≤ s.freeCells)

include hrefusing hnamed hdest hrel hdecrypt hencrypt hconf hnew hfit hadmits hcells

theorem exec_tmAdmission_port : exec .tmAdmission s = .next ((((s.takeInput rest).putCopy x (x.portCopy p)).formLeaf x.frame 0x01 true).endAdmission
    x.frame 0x01 1 ((s.takeInput rest).cutsThrough x)) := by
  have hport : (s.takeInput rest).toPort x p x.frame.d.queueClass x.frame.bytes.length false 0x01 =
      (0x01, (s.takeInput rest).putCopy x (x.portCopy p)) := State.toPort_admits 0x01 hconf hfit hnew hadmits hcells
  have hprimary : (s.takeInput rest).toNamed x 0 = ((0x01, (s.takeInput rest).putCopy x (x.portCopy p)), 1) := by
    simp [State.toNamed, hdest, State.toPrimary, hrel, State.toPorts, hport]
  have hcrypto : x.frame.crypto = none := by simp [Frame.crypto, hdecrypt, hencrypt]
  have hexec : exec .tmAdmission s = execTmAdmission s := rfl
  rw [hexec, execTmAdmission, whenWorking_of_serving h, hinput]
  simp only [← State.takeInput.eq_1, hrefusing, Bool.false_and, Bool.false_eq_true, if_false, hcrypto, hnamed, List.foldl_cons, List.foldl_nil,
    hprimary]
  rfl

variable (htakes : s.portTakes p = true) (hclass : x.frame.d.queueClass < 16) (hnone : s.copiesOf x.frame.id = [])

include htakes hclass hnone

/-- A frame for one port waits at the end of its class queue, with its leaf in the Ream that takes it (R185, R505, R507). -/
theorem tmAdmission_port :
    ∃ t c, exec .tmAdmission s = .next t ∧ t.tm.input = rest ∧
        t.queue (qPort p x.frame.d.queueClass) = s.queue (qPort p x.frame.d.queueClass) ++ [c] ∧ c.frame = x.frame.id ∧
        c.port = p ∧ c.cls = x.frame.d.queueClass ∧ c.len = x.frame.bytes.length ∧ c.mirror = false ∧
        (∀ q, q ≠ qPort p x.frame.d.queueClass → t.queue q = s.queue q) ∧
        ∀ r, s.openReam x.frame.ream = some r → s.takesLeaf r = true → ∃ r', t.openReam x.frame.ream = some r' ∧
          r'.frames = insertLeaf (x.frame.leaf 0x01 (r.mask.testBit x.frame.d.ledgerClass)) r.frames := by
  have hexec := exec_tmAdmission_port h hinput hrefusing hnamed hdest hrel hdecrypt hencrypt hconf hnew hfit hadmits hcells
  obtain ⟨v, hv⟩ : ∃ v, s.takeInput rest = v := ⟨_, rfl⟩
  have hvqueue : ∀ q, v.queue q = s.queue q := fun q => by rw [← hv]; rfl
  rw [hv] at hexec
  have hq : qPort p x.frame.d.queueClass < 2000 := by
    obtain ⟨hp, -⟩ := of_decide_eq_true hconf
    unfold qPort
    omega
  have hempty : v.cutsThrough x = true → v.queue (qPort p x.frame.d.queueClass) = [] := by
    intro hcut
    simp only [State.cutsThrough, hnamed, hdest, Bool.and_eq_true, List.isEmpty_iff] at hcut
    exact hcut.1.1.2
  have hformed : Joined v ((v.putCopy x (x.portCopy p)).formLeaf x.frame 0x01 true) (qPort p x.frame.d.queueClass)
      (v.joiningCopy x (x.portCopy p)) :=
    (v.joined_putCopy x (x.portCopy p)).of_tm (State.formLeaf_keeps State.tm (fun _ _ _ _ _ _ => rfl) _ _ _ _)
  have htakes' : ((v.putCopy x (x.portCopy p)).formLeaf x.frame 0x01 true).portTakes p = true := by
    rw [State.formLeaf_keeps (State.portTakes · p) fun _ _ _ _ _ _ => rfl, State.portTakes_putCopy, ← hv]
    exact htakes
  obtain ⟨b, hjoined, hleaves⟩ := hformed.endAdmission (f := x.frame) (disp := 0x01) (left := 1) rfl hq rfl (hv ▸ hnone) hempty htakes'
  refine ⟨_, { v.joiningCopy x (x.portCopy p) with cut := b }, hexec, ?_, ?_, rfl, rfl, rfl, rfl, rfl,
    fun q hq => (hjoined.queue_ne hq).trans (hvqueue q), fun r hr hleaf => ?_⟩
  · rw [hjoined.input, ← hv]
    rfl
  · rw [hjoined.queue_self, hvqueue]
  · refine Option.map_eq_some_iff.mp ((hleaves _).trans (State.leavesOf_formLeaf_keep _ x.frame 0x01 true r ?_ ?_))
    · rw [State.putCopy_keeps (State.openReam · x.frame.ream) (fun _ _ _ => rfl), ← hv]
      exact hr
    · rw [State.putCopy_keeps (State.takesLeaf · r) (fun _ _ _ => rfl), ← hv]
      exact hleaf

end ToPort

end Admission

/-- Settles O23, by what the ledger does with a recorded frame and by the one copy that an admitted frame puts in its queue. -/
theorem admissionToPort : Obligations.AdmissionToPort := by
  intro s x rest h hinput
  exact ⟨tmAdmission_refused h hinput, fun hrefusing p hnamed hdest hrel hdecrypt hencrypt hclass hconf htakes hnew hnone hfit hadmits hcells =>
    tmAdmission_port h hinput hrefusing hnamed hdest hrel hdecrypt hencrypt hconf hnew hfit hadmits hcells htakes hclass hnone⟩

end Sys2Proof.Machine
end

section
/-! PROOFS. Record and header rings in host memory, and their consumer indices and moderation (R225, R230 to R233, R266). -/

namespace Sys2Proof.Machine

/-! ### What leaves the block only grows -/

theorem State.out_count1 (s : State) (a : Nat) : (s.count1 a).out = s.out := State.count1_keeps State.out (fun _ _ => rfl) s a

theorem State.out_raiseAlert (s : State) (sev : Nat) : s.out <+: (s.raiseAlert sev).out := by
  unfold State.raiseAlert State.assertAlert
  split_ifs
  · exact List.prefix_append _ _
  · exact List.prefix_rfl
  · exact List.prefix_rfl

theorem State.out_event (s : State) (code sev : Nat) (l : List Snap) : s.out <+: (s.event code sev l).out := by
  unfold State.event State.eventWith
  split
  · exact List.prefix_rfl
  split
  · rw [State.out_count1]
  · refine List.IsPrefix.trans ?_ (State.out_raiseAlert _ _)
    rw [State.out_count1]

theorem State.out_checkRefuse (s : State) : s.out <+: s.checkRefuse.out := by
  unfold State.checkRefuse
  split_ifs
  · exact State.out_event { s with ldg := { s.ldg with refusing := false } } _ _ _
  · exact List.prefix_rfl
  · exact State.out_event { s with ldg := { s.ldg with refusing := true } } _ _ _
  · exact List.prefix_rfl

/-! ### The end of a write to a ring set's rings -/

/-- What follows the entries that a ring set has been given: the tail block, moderation, staging and the share of the link. -/
def State.ringServed (s : State) (set n bytes : Nat) : State :=
  (((s.writeTail set).moderate set n).settleStaging set).ledgerServed bytes

theorem State.writeTail_keeps {β : Sort _} (obs : State → β) (h : ∀ (s : State) x0 x1, obs { s with out := x0, hif := x1 } = obs s)
    (s : State) (set : Nat) : obs (s.writeTail set) = obs s := by
  unfold State.writeTail
  exact State.dmaTo_keeps obs h _ _ _ _ _ _

theorem State.ringServed_keeps {β : Sort _} (obs : State → β)
    (h : ∀ (s : State) x0 x1 x2 x3 x4, obs { s with out := x0, hif := x1, ldg := x2, evr := x3, ctr := x4 } = obs s)
    (s : State) (set n bytes : Nat) : obs (s.ringServed set n bytes) = obs s := by
  have hserved : ∀ u : State, obs (u.ledgerServed bytes) = obs u := fun u => h u u.out _ u.ldg u.evr u.ctr
  have hmoderate : ∀ u : State, obs (u.moderate set n) = obs u := fun u => h u u.out u.hif _ u.evr u.ctr
  rw [State.ringServed, hserved, State.settleStaging_keeps obs fun u _ _ _ x3 x4 x5 => h u x4 u.hif _ x3 x5, hmoderate,
    State.writeTail_keeps obs fun u x0 x1 => h u x0 x1 u.ldg u.evr u.ctr]

/-- Of its ring set, moderation changes only what it counts. -/
theorem State.ringSet_moderate (s : State) (set n : Nat) : ∃ a b, (s.moderate set n).ringSet set = { s.ringSet set with modEntries := a, modFirst := b } :=
  ⟨_, _, s.ringSet_modSet_self set fun r => { r with modEntries := r.modEntries + n, modFirst := some (r.modFirst.getD s.now) }⟩

theorem State.ringSet_ringServed (s : State) (set n bytes : Nat) : ∃ a b,
    (s.ringServed set n bytes).ringSet set = { s.ringSet set with modEntries := a, modFirst := b } := by
  have hserved : ∀ u : State, (u.ledgerServed bytes).ringSet set = u.ringSet set := fun _ => rfl
  obtain ⟨a, b, hmoderate⟩ := (s.writeTail set).ringSet_moderate set n
  refine ⟨a, b, ?_⟩
  rw [State.ringServed, hserved, State.settleStaging_keeps (State.ringSet · set) fun _ _ _ _ _ _ _ => rfl, hmoderate,
    State.writeTail_keeps (State.ringSet · set) fun _ _ _ => rfl]

theorem State.out_settleStaging (s : State) (set : Nat) : s.out <+: (s.settleStaging set).out :=
  State.out_checkRefuse (s.dropRecords set).dropHeaders

theorem State.out_ringServed (s : State) (set n bytes : Nat) : s.out <+: (s.ringServed set n bytes).out := by
  have hserved : ∀ u : State, (u.ledgerServed bytes).out = u.out := fun _ => rfl
  have hmoderate : ∀ u : State, (u.moderate set n).out = u.out := fun _ => rfl
  have htail : s.out <+: (s.writeTail set).out := by
    unfold State.writeTail
    exact s.out_dmaTo _ _ _ _ _
  have hsettle := ((s.writeTail set).moderate set n).out_settleStaging set
  rw [hmoderate] at hsettle
  rw [State.ringServed, hserved]
  exact htail.trans hsettle

/-- The end of the refusal changes no record. -/
theorem State.records_checkRefuse (s : State) : s.checkRefuse.ldg.records = s.ldg.records := by
  have hevent : ∀ (v : State) c e l, (v.event c e l).ldg.records = v.ldg.records := fun v c e l =>
    State.event_keeps (fun v => v.ldg.records) (fun _ _ _ _ => rfl) v c e l
  unfold State.checkRefuse
  split_ifs
  exacts [hevent _ _ _ _, rfl, hevent _ _ _ _, rfl]

/-- The records that every destination has taken leave staging (R233, R244). -/
theorem State.records_settleStaging (s : State) (set : Nat) :
    ∀ y ∈ (s.settleStaging set).ldg.records, y.set = set → y.taken (s.ringSet set).dest = false := by
  rw [State.settleStaging, State.records_checkRefuse]
  intro y hy hset
  simpa [hset] using (List.mem_filter.mp hy).2

theorem State.records_ringServed (s : State) (set n bytes : Nat) :
    ∀ y ∈ (s.ringServed set n bytes).ldg.records, y.set = set → y.taken (s.ringSet set).dest = false := by
  have hserved : ∀ u : State, (u.ledgerServed bytes).ldg = u.ldg := fun _ => rfl
  obtain ⟨a, b, hmoderate⟩ := (s.writeTail set).ringSet_moderate set n
  have hrecords := ((s.writeTail set).moderate set n).records_settleStaging set
  rw [hmoderate, State.writeTail_keeps (State.ringSet · set) fun _ _ _ => rfl] at hrecords
  rwa [State.ringServed, hserved]

/-! ### Records and headers put in their rings -/

theorem State.issues_of_hostTakes {s : State} (h : s.hostTakes = true) : Issues 0 s := by
  simp only [State.hostTakes, Bool.and_eq_true, Bool.not_eq_true'] at h
  obtain ⟨⟨hlinked, hheard⟩, hmay⟩ := h
  exact ⟨hlinked, hheard, hmay⟩

/-- The entry that a ring takes first leaves before all that follows it (R601, R604, R605). -/
theorem State.ledger_leaves {s u t : State} {v : Option Nat} {addr : Nat} {d : Bytes} (h : Issues 0 s)
    (hfirst : u.out = (s.dmaTo 0 v .ledger addr d).out) (hrest : u.out <+: t.out) :
    ∃ rest ro ido tag, ∃ tr : Nat → Bool, t.out =
      s.out ++ (pageParts (d.length / 4096 + 1) addr d).map (fun d => .dma 0 .ledger d.1 d.2 ro ido (tr d.1) tag) ++ rest := by
  obtain ⟨rest, hrest⟩ := hrest
  refine ⟨rest, (s.fn 0).roEnable, (s.fn 0).idoEnable, if (s.fn 0).tphEnable then v.map (s.fn 0).steering else none, s.translated 0, ?_⟩
  rw [← hrest, hfirst, State.out_dmaTo_issues h]
  rfl

theorem BitVec.add_ofNat_succ (b : Word) (n : Nat) : b + 1 + BitVec.ofNat 32 n = b + BitVec.ofNat 32 (n + 1) := by
  rw [BitVec.ofNat_add, BitVec.add_assoc, BitVec.add_comm (BitVec.ofNat 32 n)]
  rfl

/-- The ring set of a record that has been put in its ring, with the record marked (R224, R230). -/
def State.noteRecord (s : State) (set : Nat) (x : RecSt × Nat) : State :=
  let s := s.modSet set fun r => { r with recProd := r.recProd + 1 }
  { s with ldg := { s.ldg with records := s.ldg.records.map fun (y : RecSt) =>
      if y = x.1 then { y with hostDone := true, index := some x.2 } else y } }

theorem State.putRecord_eq (s : State) (set : Nat) (x : RecSt × Nat) : s.putRecord set x =
    (s.dmaTo 0 (some (s.ringSet set).vector) .ledger ((s.ringSet set).recBase + (s.ringSet set).recProd.toNat % 2 ^ (s.ringSet set).recLog2 * 64)
      (recordBytes x.1.ream x.2 x.1.leaf)).noteRecord set x := by
  unfold State.putRecord State.noteRecord
  rfl

theorem State.ringSet_noteRecord (s : State) (set : Nat) (x : RecSt × Nat) :
    (s.noteRecord set x).ringSet set = { s.ringSet set with recProd := (s.ringSet set).recProd + 1 } :=
  s.ringSet_modSet_self set fun r => { r with recProd := r.recProd + 1 }

theorem State.putRecord_keeps {β : Sort _} (obs : State → β) (h : ∀ (s : State) x0 x1 x2, obs { s with out := x0, hif := x1, ldg := x2 } = obs s)
    (s : State) (set : Nat) (x : RecSt × Nat) : obs (s.putRecord set x) = obs s := by
  have hnote : ∀ u : State, obs (u.noteRecord set x) = obs u := fun u => h u u.out u.hif _
  rw [State.putRecord_eq, hnote]
  exact State.dmaTo_keeps obs (fun u x y => h u x y u.ldg) _ _ _ _ _ _

theorem State.out_putRecord (s : State) (set : Nat) (x : RecSt × Nat) : (s.putRecord set x).out =
    (s.dmaTo 0 (some (s.ringSet set).vector) .ledger ((s.ringSet set).recBase + (s.ringSet set).recProd.toNat % 2 ^ (s.ringSet set).recLog2 * 64)
      (recordBytes x.1.ream x.2 x.1.leaf)).out := by
  have hnote : ∀ u : State, (u.noteRecord set x).out = u.out := fun _ => rfl
  rw [State.putRecord_eq, hnote]

/-- A record put in its ring moves the producer index (R230). -/
theorem State.ringSet_putRecord (s : State) (set : Nat) (x : RecSt × Nat) :
    (s.putRecord set x).ringSet set = { s.ringSet set with recProd := (s.ringSet set).recProd + 1 } := by
  rw [State.putRecord_eq, State.ringSet_noteRecord, State.dmaTo_keeps (State.ringSet · set) fun _ _ _ => rfl]

theorem State.ringSet_putRecords (set : Nat) (l : List (RecSt × Nat)) (s : State) :
    (l.foldl (fun (s : State) x => s.putRecord set x) s).ringSet set =
      { s.ringSet set with recProd := (s.ringSet set).recProd + BitVec.ofNat 32 l.length } := by
  induction l generalizing s with
  | nil => simp
  | cons x l ih => rw [List.foldl_cons, ih, State.ringSet_putRecord, List.length_cons, BitVec.add_ofNat_succ]

theorem State.out_putRecords (set : Nat) (l : List (RecSt × Nat)) (s : State) :
    s.out <+: (l.foldl (fun (s : State) x => s.putRecord set x) s).out :=
  foldl_grows State.out _ (fun u y => (u.out_putRecord set y).symm ▸ u.out_dmaTo 0 _ .ledger _ _) l s

/-- The ring set of a header that has been put in its ring, with the header marked (R226, R231). -/
def State.noteHeader (s : State) (set : Nat) (x : HdrSt) : State :=
  (s.modSet set fun r => { r with hdrProd := r.hdrProd + 1, sealedReam := x.ream }).headerTaken x.ream set false

theorem State.putHeader_eq (s : State) (set : Nat) (x : HdrSt) : s.putHeader set x =
    (s.dmaTo 0 (some (s.ringSet set).vector) .ledger ((s.ringSet set).hdrBase + (s.ringSet set).hdrProd.toNat % 2 ^ (s.ringSet set).hdrLog2 * 12288)
      x.slot).noteHeader set x := by
  unfold State.putHeader State.noteHeader
  rfl

theorem State.ringSet_noteHeader (s : State) (set : Nat) (x : HdrSt) :
    (s.noteHeader set x).ringSet set = { s.ringSet set with hdrProd := (s.ringSet set).hdrProd + 1, sealedReam := x.ream } :=
  s.ringSet_modSet_self set fun r => { r with hdrProd := r.hdrProd + 1, sealedReam := x.ream }

theorem State.putHeader_keeps {β : Sort _} (obs : State → β) (h : ∀ (s : State) x0 x1 x2, obs { s with out := x0, hif := x1, ldg := x2 } = obs s)
    (s : State) (set : Nat) (x : HdrSt) : obs (s.putHeader set x) = obs s := by
  have hnote : ∀ u : State, obs (u.noteHeader set x) = obs u := fun u => h u u.out u.hif _
  rw [State.putHeader_eq, hnote]
  exact State.dmaTo_keeps obs (fun u x y => h u x y u.ldg) _ _ _ _ _ _

theorem State.out_putHeader (s : State) (set : Nat) (x : HdrSt) : (s.putHeader set x).out =
    (s.dmaTo 0 (some (s.ringSet set).vector) .ledger ((s.ringSet set).hdrBase + (s.ringSet set).hdrProd.toNat % 2 ^ (s.ringSet set).hdrLog2 * 12288)
      x.slot).out := by
  have hnote : ∀ u : State, (u.noteHeader set x).out = u.out := fun _ => rfl
  rw [State.putHeader_eq, hnote]

/-- A header put in its ring moves the producer index, and the newest sealed Ream of the tail block (R231). -/
theorem State.ringSet_putHeader (s : State) (set : Nat) (x : HdrSt) : (s.putHeader set x).ringSet set =
    { s.ringSet set with hdrProd := (s.ringSet set).hdrProd + 1, sealedReam := x.ream } := by
  rw [State.putHeader_eq, State.ringSet_noteHeader, State.dmaTo_keeps (State.ringSet · set) fun _ _ _ => rfl]

theorem State.ringSet_putHeaders (set : Nat) (l : List HdrSt) (s : State) :
    (l.foldl (fun (s : State) x => s.putHeader set x) s).ringSet set =
      { s.ringSet set with
        hdrProd := (s.ringSet set).hdrProd + BitVec.ofNat 32 l.length
        sealedReam := (l.getLast?.map (·.ream)).getD (s.ringSet set).sealedReam } := by
  induction l generalizing s with
  | nil => simp
  | cons x l ih =>
    rw [List.foldl_cons, ih, State.ringSet_putHeader, List.length_cons, BitVec.add_ofNat_succ, List.getLast?_cons]
    cases l.getLast? <;> rfl

theorem State.out_putHeaders (set : Nat) (l : List HdrSt) (s : State) :
    s.out <+: (l.foldl (fun (s : State) x => s.putHeader set x) s).out :=
  foldl_grows State.out _ (fun u y => (u.out_putHeader set y).symm ▸ u.out_dmaTo 0 _ .ledger _ _) l s

/-! ### RECORD_RING_WRITE and HEADER_RING_WRITE -/

section Rings

variable {s : State} {set : Nat} (h : Serving s)

include h

section Idle

variable (hidle : (s.ringSet set).enabled = false ∨ (s.ringSet set).dest = 1 ∨ s.hostTakes = false ∨ s.ledgerTurn = false)

include hidle

theorem exec_recordRingWrite_idle : exec (.recordRingWrite set) s = .next s :=
  (whenWorking_of_serving h _).trans (if_pos (by simpa using hidle))

theorem exec_headerRingWrite_idle : exec (.headerRingWrite set) s = .next s :=
  (whenWorking_of_serving h _).trans (if_pos (by simpa using hidle))

end Idle

theorem exec_recordRingWrite_none
    (hnone : (s.writable set fun x => !x.hostDone).take (ringRoom (s.ringSet set).recProd (s.ringSet set).recCons (s.ringSet set).recLog2) = []) :
    exec (.recordRingWrite set) s = .next s := by
  refine (whenWorking_of_serving h _).trans ?_
  dsimp only
  rw [if_pos hnone, ite_self]

theorem exec_headerRingWrite_none
    (hnone : (s.headersFor set false).take (ringRoom (s.ringSet set).hdrProd (s.ringSet set).hdrCons (s.ringSet set).hdrLog2) = []) :
    exec (.headerRingWrite set) s = .next s := by
  refine (whenWorking_of_serving h _).trans ?_
  dsimp only
  rw [if_pos hnone, ite_self]

variable (hon : (s.ringSet set).enabled = true) (hdest : (s.ringSet set).dest ≠ 1) (htakes : s.hostTakes = true) (hturn : s.ledgerTurn = true)

include hon hdest htakes hturn

omit h in
theorem ringBusy : ¬((!(s.ringSet set).enabled) = true ∨ (s.ringSet set).dest = 1 ∨ (!s.hostTakes) = true ∨ (!s.ledgerTurn) = true) := by
  simp [hon, hdest, htakes, hturn]

theorem exec_recordRingWrite {x : RecSt × Nat} {l : List (RecSt × Nat)}
    (hl : (s.writable set fun x => !x.hostDone).take (ringRoom (s.ringSet set).recProd (s.ringSet set).recCons (s.ringSet set).recLog2) = x :: l) :
    exec (.recordRingWrite set) s =
      .next ((l.foldl (fun (s : State) x => s.putRecord set x) (s.putRecord set x)).ringServed set (l.length + 1) (64 * (l.length + 1))) := by
  refine (whenWorking_of_serving h _).trans ((if_neg (ringBusy hon hdest htakes hturn)).trans ?_)
  dsimp only
  rw [hl]
  exact if_neg (List.cons_ne_nil x l)

theorem exec_headerRingWrite {x : HdrSt} {l : List HdrSt}
    (hl : (s.headersFor set false).take (ringRoom (s.ringSet set).hdrProd (s.ringSet set).hdrCons (s.ringSet set).hdrLog2) = x :: l) :
    exec (.headerRingWrite set) s =
      .next ((l.foldl (fun (s : State) x => s.putHeader set x) (s.putHeader set x)).ringServed set (l.length + 1) (12288 * (l.length + 1))) := by
  refine (whenWorking_of_serving h _).trans ((if_neg (ringBusy hon hdest htakes hturn)).trans ?_)
  dsimp only
  rw [hl]
  exact if_neg (List.cons_ne_nil x l)

theorem recordRingWrite_writes {x : RecSt × Nat} {l : List (RecSt × Nat)}
    (hl : (s.writable set fun x => !x.hostDone).take (ringRoom (s.ringSet set).recProd (s.ringSet set).recCons (s.ringSet set).recLog2) = x :: l) :
    ∃ t rest ro ido tag, ∃ tr : Nat → Bool, exec (.recordRingWrite set) s = .next t ∧
      (t.ringSet set).recProd = (s.ringSet set).recProd + BitVec.ofNat 32 (x :: l).length ∧ (t.ringSet set).hdrProd = (s.ringSet set).hdrProd ∧
      t.out = s.out ++ (pageParts ((recordBytes x.1.ream x.2 x.1.leaf).length / 4096 + 1)
          ((s.ringSet set).recBase + (s.ringSet set).recProd.toNat % 2 ^ (s.ringSet set).recLog2 * 64) (recordBytes x.1.ream x.2 x.1.leaf)).map
        (fun d => .dma 0 .ledger d.1 d.2 ro ido (tr d.1) tag) ++ rest ∧
      ((s.ringSet set).dest = 0 → ∀ y ∈ t.ldg.records, y.set = set → y.hostDone = false) ∧ t.tb = s.tb ∧ t.flow = s.flow ∧ t.coh = s.coh := by
  have hexec := exec_recordRingWrite h hon hdest htakes hturn hl
  have hput := State.ringSet_putRecords set (x :: l) s
  rw [List.foldl_cons] at hput
  obtain ⟨u, hu⟩ : ∃ u, u = l.foldl (fun (s : State) x => s.putRecord set x) (s.putRecord set x) := ⟨_, rfl⟩
  rw [← hu] at hexec hput
  obtain ⟨a, b, hset⟩ := u.ringSet_ringServed set (l.length + 1) (64 * (l.length + 1))
  have hrecords := u.records_ringServed set (l.length + 1) (64 * (l.length + 1))
  have hkeeps : ∀ {β : Type} (obs : State → β), (∀ (v : State) x0 x1 x2 x3 x4, obs { v with out := x0, hif := x1, ldg := x2, evr := x3, ctr := x4 } = obs v) →
      obs (u.ringServed set (l.length + 1) (64 * (l.length + 1))) = obs s := by
    intro β obs hobs
    have hputs := fun v y => State.putRecord_keeps obs (fun v x0 x1 x2 => hobs v x0 x1 x2 v.evr v.ctr) v set y
    rw [State.ringServed_keeps obs hobs, hu]
    exact (foldl_keeps obs _ hputs l _).trans (hputs s x)
  have hgrow : (s.putRecord set x).out <+: (u.ringServed set (l.length + 1) (64 * (l.length + 1))).out :=
    (hu ▸ State.out_putRecords set l _).trans (u.out_ringServed set _ _)
  obtain ⟨rest, ro, ido, tag, tr, hout⟩ := State.ledger_leaves (State.issues_of_hostTakes htakes) (s.out_putRecord set x) hgrow
  refine ⟨_, rest, ro, ido, tag, tr, hexec, ?_, ?_, hout, fun hhost y hy hyset => ?_, hkeeps State.tb fun _ _ _ _ _ _ => rfl,
    hkeeps State.flow fun _ _ _ _ _ _ => rfl, hkeeps State.coh fun _ _ _ _ _ _ => rfl⟩
  · rw [hset, hput]
  · rw [hset, hput]
  · have htaken := hrecords y hy hyset
    rw [hput] at htaken
    simpa [RecSt.taken, hhost] using htaken

theorem headerRingWrite_writes {x : HdrSt} {l : List HdrSt}
    (hl : (s.headersFor set false).take (ringRoom (s.ringSet set).hdrProd (s.ringSet set).hdrCons (s.ringSet set).hdrLog2) = x :: l) :
    ∃ t rest ro ido tag, ∃ tr : Nat → Bool, exec (.headerRingWrite set) s = .next t ∧
      (t.ringSet set).hdrProd = (s.ringSet set).hdrProd + BitVec.ofNat 32 (x :: l).length ∧ (t.ringSet set).recProd = (s.ringSet set).recProd ∧
      (∀ h, (x :: l).getLast? = some h → (t.ringSet set).sealedReam = h.ream) ∧
      t.out = s.out ++ (pageParts (x.slot.length / 4096 + 1)
          ((s.ringSet set).hdrBase + (s.ringSet set).hdrProd.toNat % 2 ^ (s.ringSet set).hdrLog2 * 12288) x.slot).map
        (fun d => .dma 0 .ledger d.1 d.2 ro ido (tr d.1) tag) ++ rest ∧
      t.tb = s.tb ∧ t.flow = s.flow ∧ t.coh = s.coh := by
  have hexec := exec_headerRingWrite h hon hdest htakes hturn hl
  have hput := State.ringSet_putHeaders set (x :: l) s
  rw [List.foldl_cons] at hput
  obtain ⟨u, hu⟩ : ∃ u, u = l.foldl (fun (s : State) x => s.putHeader set x) (s.putHeader set x) := ⟨_, rfl⟩
  rw [← hu] at hexec hput
  obtain ⟨a, b, hset⟩ := u.ringSet_ringServed set (l.length + 1) (12288 * (l.length + 1))
  have hkeeps : ∀ {β : Type} (obs : State → β), (∀ (v : State) x0 x1 x2 x3 x4, obs { v with out := x0, hif := x1, ldg := x2, evr := x3, ctr := x4 } = obs v) →
      obs (u.ringServed set (l.length + 1) (12288 * (l.length + 1))) = obs s := by
    intro β obs hobs
    have hputs := fun v y => State.putHeader_keeps obs (fun v x0 x1 x2 => hobs v x0 x1 x2 v.evr v.ctr) v set y
    rw [State.ringServed_keeps obs hobs, hu]
    exact (foldl_keeps obs _ hputs l _).trans (hputs s x)
  have hgrow : (s.putHeader set x).out <+: (u.ringServed set (l.length + 1) (12288 * (l.length + 1))).out :=
    (hu ▸ State.out_putHeaders set l _).trans (u.out_ringServed set _ _)
  obtain ⟨rest, ro, ido, tag, tr, hout⟩ := State.ledger_leaves (State.issues_of_hostTakes htakes) (s.out_putHeader set x) hgrow
  refine ⟨_, rest, ro, ido, tag, tr, hexec, ?_, ?_, fun y hy => ?_, hout, hkeeps State.tb fun _ _ _ _ _ _ => rfl,
    hkeeps State.flow fun _ _ _ _ _ _ => rfl, hkeeps State.coh fun _ _ _ _ _ _ => rfl⟩
  · rw [hset, hput]
  · rw [hset, hput]
  · rw [hset, hput, hy]
    rfl

end Rings

/-! ### Consumer indices (R233) -/

section Consumer

variable {s : State} {set : Nat} (h : Serving s)

include h

theorem exec_ledgerConsumerWrite_linkDown (hdown : s.hif.dlUp = false) (header : Bool) (cons : Word) :
    exec (.ledgerConsumerWrite set header cons) s = .next s :=
  (whenWorking_of_serving h _).trans (if_pos (by simp [hdown]))

variable (hup : s.hif.dlUp = true)

include hup

theorem exec_ledgerConsumerWrite_unsupported (hdec : s.fnDecodes 0 = false) (header : Bool) (cons : Word) :
    exec (.ledgerConsumerWrite set header cons) s = .next ((s.touch 4).unsupportedReq 0) := by
  have htouch : (s.touch 4).fnDecodes 0 = s.fnDecodes 0 := rfl
  exact (whenWorking_of_serving h _).trans ((if_neg (by simp [hup])).trans (if_pos (by simp [htouch, hdec])))

variable (hdec : s.fnDecodes 0 = true) (hset : set < 4)

include hdec hset

/-- A consumer index that the PF takes is checked against its ring. -/
theorem exec_ledgerConsumerWrite (header : Bool) (cons : Word) : exec (.ledgerConsumerWrite set header cons) s =
    let r := s.ringSet set
    let f := if header then F.ldgRingHdrCons_cons set else F.ldgRingRecCons_cons set
    if (if header then r.hdrProd - r.hdrCons else r.recProd - r.recCons) < cons - (if header then r.hdrCons else r.recCons) then
      .next ((s.touch 4).noticeAddr f.addr)
    else .next (((s.touch 4).modSet set fun r => if header then { r with hdrCons := cons } else { r with recCons := cons }).setReg f.addr cons.toNat) := by
  refine (whenWorking_of_serving h _).trans ((viaBar0_of_decodes hup hdec 4 _).trans ?_)
  have hserving : Serving (s.touch 4) := ⟨⟨h.live.assured, h.live.released, h.live.mission, h.live.cool⟩, h.sound⟩
  refine (whenWorking_of_serving hserving _).trans ((if_neg (not_le.mpr hset)).trans ?_)
  cases header <;> rfl

end Consumer

/-! ### Moderation (R266) -/

section Moderation

variable {s : State} {set : Nat} (h : Serving s) (hset : set < 4)

include h hset

theorem exec_ledgerRingModeration_none (hnone : (s.ringSet set).modEntries = 0) : exec (.ledgerRingModeration set) s = .next s :=
  (whenWorking_of_serving h _).trans ((if_neg (not_le.mpr hset)).trans (if_pos (.inl hnone)))

theorem exec_ledgerRingModeration_early (hcount : (s.ringSet set).modEntries < s.fld (F.ldgRingMod_count set))
    (htimer : ∀ a, (s.ringSet set).modFirst = some a → s.now < a + s.fld (F.ldgRingMod_timerUs set) * usStamp) :
    exec (.ledgerRingModeration set) s = .next s := by
  refine (whenWorking_of_serving h _).trans ((if_neg (not_le.mpr hset)).trans (if_pos (.inr ?_)))
  cases hfirst : (s.ringSet set).modFirst with
  | none => simp [hcount]
  | some a => simp [hcount, htimer a hfirst]

/-- A ring set whose moderation has come to its count or timer (R266). -/
def State.raised (s : State) (set : Nat) : State := s.modSet set fun r => { r with modEntries := 0, modFirst := none }

theorem exec_ledgerRingModeration (hsome : (s.ringSet set).modEntries ≠ 0) (hdue : s.fld (F.ldgRingMod_count set) ≤ (s.ringSet set).modEntries ∨
      ∃ a, (s.ringSet set).modFirst = some a ∧ a + s.fld (F.ldgRingMod_timerUs set) * usStamp ≤ s.now) :
    exec (.ledgerRingModeration set) s = .next ((s.raised set).msix 0 (s.ringSet set).vector) := by
  refine (whenWorking_of_serving h _).trans ((if_neg (not_le.mpr hset)).trans (if_neg ?_))
  obtain hcount | ⟨a, hfirst, htimer⟩ := hdue
  · simp [hsome, hcount]
  · simp [hsome, hfirst, htimer]

theorem ledgerRingModeration_raises (hsome : (s.ringSet set).modEntries ≠ 0) (hdue : s.fld (F.ldgRingMod_count set) ≤ (s.ringSet set).modEntries ∨
      ∃ a, (s.ringSet set).modFirst = some a ∧ a + s.fld (F.ldgRingMod_timerUs set) * usStamp ≤ s.now) :
    ∃ t, exec (.ledgerRingModeration set) s = .next t ∧ t.ringSet set = { s.ringSet set with modEntries := 0, modFirst := none } ∧
      ((s.fn 0).msixEnable = true → (s.fn 0).maskAll = false → (s.ringSet set).vector ∈ (s.fn 0).vecUnmasked → s.hostTakes = true →
        s.mayIssue 0 = true → t.out = s.out ++ [.msix 0 (s.ringSet set).vector
          (((s.fn 0).vecTable.getD (4 * (s.ringSet set).vector) 0).toNat + 2 ^ 32 * ((s.fn 0).vecTable.getD (4 * (s.ringSet set).vector + 1) 0).toNat)
          ((s.fn 0).vecTable.getD (4 * (s.ringSet set).vector + 2) 0).toNat (s.fn 0).idoEnable]) ∧
      ((s.fn 0).maskAll = true → t.out = s.out ∧ (s.ringSet set).vector ∈ (t.fn 0).vecPending) := by
  have hfn : (s.raised set).fn 0 = s.fn 0 := rfl
  refine ⟨_, exec_ledgerRingModeration h hset hsome hdue, ?_, fun hen hmask hvec htakes _ => ?_, fun hmask => ?_⟩
  · exact (State.msix_keeps (State.ringSet · set) (fun _ _ _ _ => rfl) _ _ _).trans (State.ringSet_modSet_self s set _)
  · obtain ⟨hlinked, hheard, hmay⟩ := State.issues_of_hostTakes htakes
    have hpost : ∀ o, (s.raised set).post 0 o = (s.raised set).transmit o := fun o =>
      (if_neg (by simp [State.raised, State.modSet, hlinked, hheard])).trans (if_pos hmay)
    have hraise : (s.raised set).msix 0 (s.ringSet set).vector = _ := if_neg (by simp [hfn, hen, hmask, hvec])
    rw [hraise, hpost]
    rfl
  · have hpend : (s.raised set).msix 0 (s.ringSet set).vector = _ := if_pos (by simp [hfn, hmask])
    rw [hpend]
    refine ⟨rfl, ?_⟩
    rw [State.fn_modFn_self]
    dsimp only
    split
    · assumption
    · exact List.mem_cons_self

end Moderation

end Sys2Proof.Machine
end

section
/-! PROOFS. The archive connection of a ring set: its Writes, its index blocks and its reconnection (R240 to R245, R563, R569, R570). -/

namespace Sys2Proof.Machine

/-! ### What a connection sends -/

/-- A segment waits to enter the slice of its connection's port, and changes of its connection only the window that it offers (R563). -/
theorem State.segment_eq (s : State) (i : Nat) (c : Conn) (flags seq : Nat) (payload : Bytes) : ∃ f a, f.origin = .storage i ∧
    s.segment i c flags seq payload = State.modConn
      { (State.modSlice { s with free := s.free + 2 } (sliceOf c.info.port) fun y => { y with injWait := y.injWait ++ [f] }) with
        nextFrame := s.nextFrame + 1 } i fun c => { c with adv := a } := by
  unfold State.segment
  exact ⟨_, _, rfl, rfl⟩

/-- The archive Writes that a connection has issued. -/
def State.archOpsOf (s : State) (i : Nat) : Option (List ArchOp) := (s.conn i).map (·.archOps)

theorem State.archOpsOf_modConn {f : Conn → Conn} (hf : ∀ c, (f c).archOps = c.archOps) (s : State) (j i : Nat) :
    (s.modConn j f).archOpsOf i = s.archOpsOf i := by
  unfold State.archOpsOf
  by_cases hi : i = j
  · subst hi
    cases hc : s.conn i with
    | none => simp [State.modConn, hc]
    | some c => simp [State.conn_modConn_self hc, hf]
  · rw [State.conn_modConn_ne s hi]

section Sent

variable {β : Sort _} (obs : State → β) (h : ∀ (s : State) x0 x1 x2 x3, obs { s with free := x0, slices := x1, nextFrame := x2, eng := x3 } = obs s)

include h

theorem State.modConn_keeps_sent (s : State) (i : Nat) (f : Conn → Conn) : obs (s.modConn i f) = obs s :=
  State.modConn_keeps obs (fun u _ => h u u.free u.slices u.nextFrame _) s i f

theorem State.segment_keeps (s : State) (i : Nat) (c : Conn) (flags seq : Nat) (payload : Bytes) :
    obs (s.segment i c flags seq payload) = obs s := by
  obtain ⟨f, a, -, hseg⟩ := s.segment_eq i c flags seq payload
  rw [hseg, State.modConn_keeps_sent obs h]
  exact h s _ _ _ s.eng

theorem State.sendSeg_keeps (s : State) (i : Nat) (syn fin : Bool) (payload : Bytes) : obs (s.sendSeg i syn fin payload) = obs s := by
  unfold State.sendSeg
  split
  · rfl
  · exact (State.modConn_keeps_sent obs h _ _ _).trans (State.segment_keeps obs h _ _ _ _ _ _)

theorem State.pump_keeps (n i : Nat) (s : State) : obs (State.pump n i s) = obs s := by
  induction n generalizing s with
  | zero => rfl
  | succ n ih =>
    unfold State.pump
    split
    · rfl
    · dsimp only
      split
      · rfl
      · exact (ih _).trans ((State.sendSeg_keeps obs h _ _ _ _ _).trans (State.modConn_keeps_sent obs h _ _ _))

theorem State.sendBytes_keeps (s : State) (i : Nat) (b : Bytes) : obs (s.sendBytes i b) = obs s :=
  (State.pump_keeps obs h _ _ _).trans (State.modConn_keeps_sent obs h _ _ _)

end Sent

theorem State.archOpsOf_segment (s : State) (j : Nat) (c : Conn) (flags seq : Nat) (payload : Bytes) (i : Nat) :
    (s.segment j c flags seq payload).archOpsOf i = s.archOpsOf i := by
  obtain ⟨f, a, -, hseg⟩ := s.segment_eq j c flags seq payload
  rw [hseg]
  exact State.archOpsOf_modConn (f := fun c => { c with adv := a }) (fun _ => rfl) _ j i

theorem State.archOpsOf_sendSeg (s : State) (j : Nat) (syn fin : Bool) (payload : Bytes) (i : Nat) :
    (s.sendSeg j syn fin payload).archOpsOf i = s.archOpsOf i := by
  unfold State.sendSeg
  split
  · rfl
  · exact (State.archOpsOf_modConn (by exact fun _ => rfl) _ _ _).trans (State.archOpsOf_segment _ _ _ _ _ _ _)

theorem State.archOpsOf_pump (n j i : Nat) (s : State) : (State.pump n j s).archOpsOf i = s.archOpsOf i := by
  induction n generalizing s with
  | zero => rfl
  | succ n ih =>
    unfold State.pump
    split
    · rfl
    · dsimp only
      split
      · rfl
      · exact (ih _).trans ((State.archOpsOf_sendSeg _ _ _ _ _ _).trans (State.archOpsOf_modConn (by exact fun _ => rfl) _ _ _))

/-- The bytes of a Write that are sent leave the Writes of the connection as they are. -/
theorem State.archOpsOf_sendBytes (s : State) (j : Nat) (b : Bytes) (i : Nat) : (s.sendBytes j b).archOpsOf i = s.archOpsOf i :=
  (State.archOpsOf_pump _ _ _ _).trans (State.archOpsOf_modConn (by exact fun _ => rfl) _ _ _)

/-! ### A Write issued -/

theorem State.archWrite_keeps {β : Sort _} (obs : State → β)
    (h : ∀ (s : State) x0 x1 x2 x3 x4, obs { s with free := x0, slices := x1, nextFrame := x2, eng := x3, ctr := x4 } = obs s)
    (s : State) (set i : Nat) (header index : Bool) (lba ream count : Nat) (data : Bytes) :
    obs (s.archWrite set i header index lba ream count data).2 = obs s := by
  have hsent : ∀ (u : State) x0 x1 x2 x3, obs { u with free := x0, slices := x1, nextFrame := x2, eng := x3 } = obs u :=
    fun u x0 x1 x2 x3 => h u x0 x1 x2 x3 u.ctr
  have hctr : ∀ (u : State) x, obs { u with ctr := x } = obs u := fun u x => h u u.free u.slices u.nextFrame u.eng x
  unfold State.archWrite
  split
  · rfl
  · exact (State.count1_keeps obs hctr _ _).trans ((State.sendBytes_keeps obs hsent _ _ _).trans
      ((State.modConn_keeps_sent obs hsent _ _ _).trans (hsent s _ s.slices s.nextFrame s.eng)))

/-- What an archive Write is for, and where it goes. -/
def ArchOp.purpose (o : ArchOp) : Bool × Bool × Nat × Nat := (o.header, o.index, o.lba, o.ream)

/-- A Write issued is the newest of its connection (R569). -/
theorem State.archOpsOf_archWrite {s : State} {i : Nat} {l : List ArchOp} (h : s.archOpsOf i = some l) (set : Nat) (header index : Bool)
    (lba ream count : Nat) (data : Bytes) : ∃ o : ArchOp, (s.archWrite set i header index lba ream count data).2.archOpsOf i = some (l ++ [o]) ∧
      o.purpose = (header, index, lba, ream) := by
  obtain ⟨c, hc, rfl⟩ := Option.map_eq_some_iff.mp h
  have hpicked : (s.pickFree 65536 c.cids).2.conn i = some c := hc
  unfold State.archWrite
  rw [hc]
  dsimp only
  refine ⟨{ cid := (s.pickFree 65536 c.cids).1, header, index, lba, ream, count, data, failed := false }, ?_, rfl⟩
  rw [State.count1_keeps (State.archOpsOf · i) fun _ _ => rfl, State.archOpsOf_sendBytes, State.archOpsOf,
    State.conn_modConn_self hpicked]
  rfl

/-! ### What the archive takes of a ring set (R240 to R245) -/

/-- The newest Reams that a ring set's archive has taken of records and of headers (R243). -/
def State.newest (s : State) (set : Nat) : Nat × Nat := ((s.ringSet set).newestRec, (s.ringSet set).newestHdr)

theorem State.newest_modSet {f : RingSet → RingSet} (hf : ∀ r, (f r).newestRec = r.newestRec ∧ (f r).newestHdr = r.newestHdr)
    (s : State) (set : Nat) : (s.modSet set f).newest set = s.newest set := by
  obtain ⟨hrec, hhdr⟩ := hf (s.ringSet set)
  rw [State.newest, State.ringSet_modSet_self, hrec, hhdr]
  rfl

theorem State.newest_archWrite (s : State) (set i : Nat) (header index : Bool) (lba ream count : Nat) (data : Bytes) :
    (s.archWrite set i header index lba ream count data).2.newest set = s.newest set :=
  State.archWrite_keeps (State.newest · set) (fun _ _ _ _ _ _ => rfl) _ _ _ _ _ _ _ _ _

theorem State.newest_archHeader (s : State) (set i : Nat) : (s.archHeader set i).newest set = s.newest set := by
  have hmod : ∀ (u : State) ream f, (u.modHeader ream f).newest set = u.newest set := fun _ _ _ => rfl
  unfold State.archHeader
  split
  · rfl
  · rcases logNext (s.ringSet set).hdrPos (s.ringSet set).hdrWraps (s.ringSet set).hdrSlots with ⟨pos, wraps⟩
    dsimp only
    rw [hmod, State.newest_modSet (by exact fun _ => ⟨rfl, rfl⟩), State.newest_archWrite]

theorem State.newest_archRecords (s : State) (set i : Nat) : (s.archRecords set i).newest set = s.newest set := by
  have hmark : ∀ (u : State) x, State.newest { u with ldg := { u.ldg with records := x } } set = u.newest set := fun _ _ => rfl
  unfold State.archRecords
  split
  · rfl
  · rcases logNext (s.ringSet set).recPos (s.ringSet set).recWraps (s.ringSet set).recBlocks with ⟨pos, wraps⟩
    dsimp only
    rw [hmark, State.newest_modSet (by exact fun _ => ⟨rfl, rfl⟩), State.newest_archWrite]

theorem State.newest_archFill (n set i : Nat) (s : State) : (State.archFill n set i s).newest set = s.newest set := by
  induction n generalizing s with
  | zero => rfl
  | succ n ih =>
    have hrecords : ∀ (u : State) (p : Prop) [Decidable p], (if p then u else u.archRecords set i).newest set = u.newest set := by
      intro u p _
      split
      · rfl
      · exact u.newest_archRecords set i
    unfold State.archFill
    split
    · rfl
    · split
      · rfl
      · dsimp only
        split
        · exact s.newest_archHeader set i
        · exact (ih _).trans ((hrecords _ _).trans (s.newest_archHeader set i))

theorem State.newest_archIssue (s : State) (set : Nat) : (s.archIssue set).newest set = s.newest set := by
  unfold State.archIssue
  dsimp only
  split
  · split
    · exact State.newest_archFill 16 set _ s
    · rfl
  · rfl

theorem State.newest_archQuiet (s : State) (set : Nat) : (s.archQuiet set).newest set = s.newest set := by
  have hquiet : ∀ u : State,
      (State.doneIf { u with ldg := { u.ldg with sets := u.ldg.sets.set set { s.ringSet set with disabling := none } } }
        (s.ringSet set).disabling stSuccess []).newest set = s.newest set := by
    intro u
    rw [State.doneIf_keeps (State.newest · set) fun _ _ _ _ => rfl]
    simp [State.newest, State.ringSet]
  unfold State.archQuiet
  extract_lets r ops
  split
  · rfl
  · exact hquiet _

/-- Nothing more is issued where nothing waits that the archive can take. -/
theorem State.archFill_idle {s : State} {set : Nat} (hblock : s.nextBlock set = []) (hhdrs : ∀ h ∈ s.headersFor set true, set ∈ h.archBusy) (n i : Nat) :
    State.archFill n set i s = s := by
  have hfind : (s.headersFor set true).find? (fun h => decide (set ∉ h.archBusy)) = none :=
    List.find?_eq_none.mpr fun h hh => by simpa using hhdrs h hh
  have hheader : s.archHeader set i = s := by rw [State.archHeader, hfind]
  have hrecords : s.archRecords set i = s := by rw [State.archRecords, hblock]
  induction n with
  | zero => rfl
  | succ n ih =>
    unfold State.archFill
    rw [hheader]
    cases hc : s.conn i with
    | none => rfl
    | some c => simp [hc, hrecords, ih]

theorem State.archIssue_idle {s : State} {set : Nat} (hblock : s.nextBlock set = []) (hhdrs : ∀ h ∈ s.headersFor set true, set ∈ h.archBusy) :
    s.archIssue set = s := by
  unfold State.archIssue
  dsimp only
  split
  · split
    · exact State.archFill_idle hblock hhdrs 16 _
    · rfl
  · rfl

/-! ### ARCHIVE_WRITE_COMPLETE -/

section Archive

variable {s : State} {set : Nat} (h : Serving s)

include h

theorem exec_archive_none (hnone : (s.ringSet set).conn = none) : exec (.archiveIndexWrite set) s = .next s ∧
    exec (.archiveReconnect set) s = .next s ∧ ∀ lba ok, exec (.archiveWriteComplete set lba ok) s = .next s := by
  refine ⟨(whenWorking_of_serving h _).trans ?_, (whenWorking_of_serving h _).trans ?_, fun lba ok => (whenWorking_of_serving h _).trans ?_⟩
  all_goals
    dsimp only
    rw [hnone]

variable {i : Nat} {c : Conn} (hset : (s.ringSet set).conn = some i) (hconn : s.conn i = some c)

include hset hconn

section WriteComplete

variable {lba : Nat} {o : ArchOp} (ho : c.archOps.find? (fun o => decide (o.lba = lba) && !o.failed && !o.index) = some o)

include ho

theorem exec_archiveWriteComplete_taken : exec (.archiveWriteComplete set lba true) s =
    .next ((((((s.modConn i fun c => { c with archOps := c.archOps.filter fun (x : ArchOp) => decide (x.cid ≠ o.cid) }).archTaken set
      o).settleStaging set).archIssue set).archQuiet set)) := by
  refine (whenWorking_of_serving h _).trans ?_
  rw [hset]
  dsimp only
  rw [hconn]
  dsimp only
  rw [ho]
  exact if_pos rfl

theorem exec_archiveWriteComplete_failed : exec (.archiveWriteComplete set lba false) s =
    .next (((s.modConn i fun c => { c with archOps := c.archOps.map fun (x : ArchOp) =>
      if x.cid = o.cid then { x with failed := true } else x }).archFailed set).archQuiet set) := by
  refine (whenWorking_of_serving h _).trans ?_
  rw [hset]
  dsimp only
  rw [hconn]
  dsimp only
  rw [ho]
  exact if_neg Bool.false_ne_true

/-- What the archive has taken moves its newest Ream on (R243, R569). -/
theorem archiveWriteComplete_takes : ∃ t, exec (.archiveWriteComplete set lba true) s = .next t ∧
    (o.header = false → (t.ringSet set).newestRec = max (s.ringSet set).newestRec o.ream) ∧
    (o.header = true → (t.ringSet set).newestHdr = max (s.ringSet set).newestHdr o.ream) := by
  have hexec := exec_archiveWriteComplete_taken h hset hconn ho
  obtain ⟨u, hu⟩ : ∃ u, u = s.modConn i fun c => { c with archOps := c.archOps.filter fun (x : ArchOp) => decide (x.cid ≠ o.cid) } := ⟨_, rfl⟩
  have huset : u.ringSet set = s.ringSet set := by
    rw [hu]
    exact State.modConn_keeps (State.ringSet · set) (fun _ _ => rfl) s i _
  rw [← hu] at hexec
  have hnewest : (((((u.archTaken set o).settleStaging set).archIssue set).archQuiet set)).newest set = (u.archTaken set o).newest set := by
    rw [State.newest_archQuiet, State.newest_archIssue, State.settleStaging_keeps (State.newest · set) fun _ _ _ _ _ _ _ => rfl]
  refine ⟨_, hexec, fun hrec => (congrArg Prod.fst hnewest).trans ?_, fun hhdr => (congrArg Prod.snd hnewest).trans ?_⟩
  · have htaken : (u.archTaken set o).newest set = (u.modSet set fun r => { r with newestRec := max r.newestRec o.ream }).newest set := by
      rw [State.archTaken, hrec]
      rfl
    rw [htaken, State.newest, State.ringSet_modSet_self, huset]
  · have htaken : (u.archTaken set o).newest set = (u.modSet set fun r => { r with newestHdr := max r.newestHdr o.ream }).newest set := by
      rw [State.archTaken, hhdr]
      rfl
    rw [htaken, State.newest, State.ringSet_modSet_self, huset]

/-- A Write that failed stays for the connection's restoration (R245, R266). -/
theorem archiveWriteComplete_stays (hon : (s.ringSet set).enabled = true) : ∃ t c', exec (.archiveWriteComplete set lba false) s = .next t ∧
    t.ringSet set = { s.ringSet set with archErr := true } ∧ t.conn i = some c' ∧ (∃ x ∈ c'.archOps, x.cid = o.cid ∧ x.failed = true) ∧
    t.ldg.records = s.ldg.records := by
  obtain ⟨f, hf⟩ : ∃ f : Conn → Conn, f = fun c => { c with archOps := c.archOps.map fun (x : ArchOp) =>
    if x.cid = o.cid then { x with failed := true } else x } := ⟨_, rfl⟩
  have hexec := exec_archiveWriteComplete_failed h hset hconn ho
  rw [← hf] at hexec
  have hevent : ∀ {β : Type} (obs : State → β), (∀ (v : State) x0 x1 x2, obs { v with evr := x0, out := x1, ctr := x2 } = obs v) →
      obs ((s.modConn i f).archFailed set) = obs ((s.modConn i f).modSet set fun r => { r with archErr := true }) :=
    fun obs hobs => State.event_keeps obs hobs _ _ _ _
  have hx : ((s.modConn i f).archFailed set).ringSet set = { s.ringSet set with archErr := true } := by
    rw [hevent (State.ringSet · set) fun _ _ _ _ => rfl, State.ringSet_modSet_self,
      State.modConn_keeps (State.ringSet · set) fun _ _ => rfl]
  have hquiet : ((s.modConn i f).archFailed set).archQuiet set = (s.modConn i f).archFailed set := by
    have hon' : (((s.modConn i f).archFailed set).ringSet set).enabled = true := by rw [hx]; exact hon
    exact if_pos (Bool.or_eq_true_iff.mpr (.inl hon'))
  refine ⟨_, f c, hexec, ?_, ?_, ?_, ?_⟩
  · rw [hquiet, hx]
  · rw [hquiet, hevent (State.conn · i) fun _ _ _ _ => rfl]
    exact State.conn_modConn_self hconn f
  · refine ⟨{ o with failed := true }, ?_, rfl, rfl⟩
    rw [hf]
    exact List.mem_map.mpr ⟨o, List.mem_of_find?_eq_some ho, by simp⟩
  · rw [hquiet, hevent (fun v => v.ldg.records) fun _ _ _ _ => rfl]
    exact State.modConn_keeps (fun v => v.ldg.records) (fun _ _ => rfl) s i f

end WriteComplete

/-! ### ARCHIVE_INDEX_WRITE (R243) -/

section Index

variable (hon : (s.ringSet set).enabled = true) (hup : (s.ringSet set).archUp = true) (hdest : (s.ringSet set).dest ≠ 0)
  (hblock : s.nextBlock set = []) (hhdrs : ∀ h ∈ s.headersFor set true, set ∈ h.archBusy)

include hon hup hdest hblock hhdrs

/-- Both index blocks issued. -/
def State.indexWritten (s : State) (set i : Nat) : State :=
  let r := s.ringSet set
  let now := s.now
  let s := (s.archWrite set i false true r.recLba r.newestRec 0 (indexBlock r.recNext r.recWraps r.newestRec)).2
  let s := (s.archWrite set i true true r.hdrLba r.newestHdr 0 (indexBlock r.hdrNext r.hdrWraps r.newestHdr)).2
  s.modSet set fun r => { r with indexAt := now + secStamp }

theorem exec_archiveIndexWrite : exec (.archiveIndexWrite set) s =
    if s.now < (s.ringSet set).indexAt ∨ c.archRoom < 2 then .next s else .next (s.indexWritten set i) := by
  refine (whenWorking_of_serving h _).trans ?_
  dsimp only
  rw [hset]
  refine (if_neg (by simp [hon, hup, hdest])).trans ?_
  rw [State.archIssue_idle hblock hhdrs, hconn]
  rfl

theorem archiveIndexWrite_writes (hdue : (s.ringSet set).indexAt ≤ s.now) (hroom : 2 ≤ c.archRoom) :
    ∃ t c', exec (.archiveIndexWrite set) s = .next t ∧ t.ringSet set = { s.ringSet set with indexAt := s.now + secStamp } ∧
      t.conn i = some c' ∧ c'.archOps.map (fun o => (o.header, o.index, o.lba, o.ream)) =
        c.archOps.map (fun o => (o.header, o.index, o.lba, o.ream)) ++
          [(false, true, (s.ringSet set).recLba, (s.ringSet set).newestRec), (true, true, (s.ringSet set).hdrLba, (s.ringSet set).newestHdr)] := by
  have hexec := exec_archiveIndexWrite h hset hconn hon hup hdest hblock hhdrs
  rw [if_neg (not_or.mpr ⟨Nat.not_lt.mpr hdue, Nat.not_lt.mpr hroom⟩)] at hexec
  have hops : s.archOpsOf i = some c.archOps := by rw [State.archOpsOf, hconn]; rfl
  obtain ⟨u, hu⟩ : ∃ u, u = (s.archWrite set i false true (s.ringSet set).recLba (s.ringSet set).newestRec 0
    (indexBlock (s.ringSet set).recNext (s.ringSet set).recWraps (s.ringSet set).newestRec)).2 := ⟨_, rfl⟩
  obtain ⟨v, hv⟩ : ∃ v, v = (u.archWrite set i true true (s.ringSet set).hdrLba (s.ringSet set).newestHdr 0
    (indexBlock (s.ringSet set).hdrNext (s.ringSet set).hdrWraps (s.ringSet set).newestHdr)).2 := ⟨_, rfl⟩
  have hwritten : s.indexWritten set i = v.modSet set fun r => { r with indexAt := s.now + secStamp } := by
    rw [State.indexWritten, hv, hu]
  obtain ⟨o, huops, ho⟩ := State.archOpsOf_archWrite hops set false true (s.ringSet set).recLba (s.ringSet set).newestRec 0
    (indexBlock (s.ringSet set).recNext (s.ringSet set).recWraps (s.ringSet set).newestRec)
  rw [← hu] at huops
  obtain ⟨o', hvops, ho'⟩ := State.archOpsOf_archWrite huops set true true (s.ringSet set).hdrLba (s.ringSet set).newestHdr 0
    (indexBlock (s.ringSet set).hdrNext (s.ringSet set).hdrWraps (s.ringSet set).newestHdr)
  rw [← hv] at hvops
  obtain ⟨c', hc', harch⟩ := Option.map_eq_some_iff.mp hvops
  have hvset : v.ringSet set = s.ringSet set := by
    rw [hv, State.archWrite_keeps (State.ringSet · set) fun _ _ _ _ _ _ => rfl, hu,
      State.archWrite_keeps (State.ringSet · set) fun _ _ _ _ _ _ => rfl]
  refine ⟨_, c', hexec, ?_, ?_, ?_⟩
  · rw [hwritten, State.ringSet_modSet_self, hvset]
  · rw [hwritten]
    exact hc'
  · have hpurpose : ∀ l : List ArchOp, l.map (fun o => (o.header, o.index, o.lba, o.ream)) = l.map ArchOp.purpose := fun _ => rfl
    rw [hpurpose, hpurpose, harch]
    simp [ho, ho']

end Index

/-! ### ARCHIVE_RECONNECT (R563, R570) -/

theorem exec_archiveReconnect_early (hearly : c.state ≠ .failed ∨ s.now < (s.ringSet set).retryAt) :
    exec (.archiveReconnect set) s = .next s := by
  refine (whenWorking_of_serving h _).trans ?_
  dsimp only
  rw [hset]
  dsimp only
  rw [hconn]
  exact if_pos hearly

/-- A connection that begins again, with a sequence number and a window scale of its own (R563, R570). -/
def Conn.restarted (c : Conn) (iss scale : Nat) (now : Stamp) : Conn :=
  { c with
    state := .connecting, reason := 0, step := 0, since := now, sndNxt := iss, sndUna := iss, sndWnd := 0, rcvNxt := 0
    unacked := [], sndBuf := [], rto := secStamp, retx := 0, rtt := none, scale, adv := 0, reno := NewReno.start c.info.mss }

theorem exec_archiveReconnect (hfailed : c.state = .failed) (hdue : (s.ringSet set).retryAt ≤ s.now) : ∃ iss scale,
    exec (.archiveReconnect set) s =
      .next ((State.modConn { s with free := s.free + 2 } i fun c => c.restarted iss scale s.now).sendSeg i true false []) := by
  refine ⟨(s.draw (2 ^ 32)).1, ((s.draw (2 ^ 32)).2.draw 15).1, (whenWorking_of_serving h _).trans ?_⟩
  dsimp only
  rw [hset]
  dsimp only
  rw [hconn]
  exact if_neg (by simp [hfailed, Nat.not_lt.mpr hdue])

end Archive

/-- A segment with its sequence numbers, as a connection keeps it until it is acknowledged. -/
def Conn.sending (c : Conn) (syn fin : Bool) (payload : Bytes) (t : Stamp) : Conn :=
  { c with
    sndNxt := (c.sndNxt + payload.length + b2n syn + b2n fin) % 2 ^ 32
    rtoAt := if c.unacked = [] then t + c.rto else c.rtoAt
    unacked := c.unacked ++ [⟨c.sndNxt, syn, fin, payload, some t⟩] }

theorem State.sendSeg_eq {s : State} {i : Nat} {c : Conn} (hconn : s.conn i = some c) (syn fin : Bool) (payload : Bytes) : ∃ flags,
    s.sendSeg i syn fin payload =
      (s.segment i c flags c.sndNxt payload).modConn i fun x => x.sending syn fin payload (s.segment i c flags c.sndNxt payload).now := by
  unfold State.sendSeg
  rw [hconn]
  exact ⟨(if syn then 2 else 0) + b2n fin + (if c.step = 0 ∧ syn then 0 else 16) + (if payload = [] then 0 else 8), rfl⟩

/-- A segment changes the slice of its connection's port and the connection itself (R563). -/
theorem State.sendSeg_sends {s : State} {i : Nat} {c : Conn} (hconn : s.conn i = some c) (syn fin : Bool) (payload : Bytes) : ∃ a now f,
    (s.sendSeg i syn fin payload).conn i = some (Conn.sending { c with adv := a } syn fin payload now) ∧
      ((s.sendSeg i syn fin payload).slice (sliceOf c.info.port)).injWait = (s.slice (sliceOf c.info.port)).injWait ++ [f] ∧
      f.origin = .storage i := by
  obtain ⟨flags, hsend⟩ := State.sendSeg_eq hconn syn fin payload
  obtain ⟨f, a, horigin, hseg⟩ := s.segment_eq i c flags c.sndNxt payload
  rw [hsend]
  generalize s.segment i c flags c.sndNxt payload = u at *
  have hu : u.conn i = some { c with adv := a } := by
    rw [hseg]
    refine State.conn_modConn_self (c := c) ?_ fun c => { c with adv := a }
    exact hconn
  refine ⟨a, u.now, f, State.conn_modConn_self hu fun c => c.sending syn fin payload u.now, ?_, horigin⟩
  rw [State.modConn_keeps (State.slice · (sliceOf c.info.port)) fun _ _ => rfl, hseg,
    State.modConn_keeps (State.slice · (sliceOf c.info.port)) fun _ _ => rfl]
  exact congrArg SliceSt.injWait (State.slice_modSlice_self { s with free := s.free + 2 } (sliceOf c.info.port) fun y => { y with injWait := y.injWait ++ [f] })

section Reconnect

variable {s : State} {set : Nat} (h : Serving s) {i : Nat} {c : Conn} (hset : (s.ringSet set).conn = some i) (hconn : s.conn i = some c)

include h hset hconn

theorem archiveReconnect_begins (hfailed : c.state = .failed) (hdue : (s.ringSet set).retryAt ≤ s.now) :
    ∃ t c' f, exec (.archiveReconnect set) s = .next t ∧ t.conn i = some c' ∧
        c'.state = .connecting ∧ c'.step = 0 ∧ c'.since = s.now ∧ c'.archOps = c.archOps ∧ c'.reno = NewReno.start c.info.mss ∧
        c'.unacked.map (fun g => (g.syn, g.fin)) = [(true, false)] ∧
        (t.slice (sliceOf c.info.port)).injWait = (s.slice (sliceOf c.info.port)).injWait ++ [f] ∧ f.origin = .storage i ∧
        t.ldg = s.ldg := by
  obtain ⟨iss, scale, hexec⟩ := exec_archiveReconnect h hset hconn hfailed hdue
  obtain ⟨u, hu⟩ : ∃ u, u = State.modConn { s with free := s.free + 2 } i fun c => c.restarted iss scale s.now := ⟨_, rfl⟩
  have huconn : u.conn i = some (c.restarted iss scale s.now) := by
    rw [hu]
    exact State.conn_modConn_self (s := { s with free := s.free + 2 }) hconn fun c => c.restarted iss scale s.now
  have huslice : ∀ n, u.slice n = s.slice n := fun n => by
    rw [hu]
    exact State.modConn_keeps (State.slice · n) (fun _ _ => rfl) _ _ _
  have huldg : u.ldg = s.ldg := by
    rw [hu]
    exact State.modConn_keeps State.ldg (fun _ _ => rfl) _ _ _
  obtain ⟨a, now, f, hsent, hwait, horigin⟩ := State.sendSeg_sends huconn true false []
  rw [← hu] at hexec
  refine ⟨_, _, f, hexec, hsent, rfl, rfl, rfl, rfl, rfl, rfl, ?_, horigin, ?_⟩
  · rw [← huslice]
    exact hwait
  · exact (State.sendSeg_keeps State.ldg (fun _ _ _ _ _ => rfl) _ _ _ _ _).trans huldg

end Reconnect

/-- Settles O47, clause by clause: the rings, their consumer indices and their moderation, then the archive. -/
theorem ringsAndArchive : Obligations.RingsAndArchive := by
  intro s h parts hparts
  obtain rfl : parts = fun addr d => pageParts (d.length / 4096 + 1) addr d := by
    funext addr d
    exact hparts addr d
  intro set r hr
  subst hr
  refine ⟨fun hidle => ⟨exec_recordRingWrite_idle h hidle, exec_headerRingWrite_idle h hidle⟩,
    fun l hl => ⟨fun hnone => exec_recordRingWrite_none h (hl.trans hnone), fun x l' hon hdest htakes hturn _ hcons => ?records⟩,
    fun l hl => ⟨fun hnone => exec_headerRingWrite_none h (hl.trans hnone), fun x l' hon hdest htakes hturn _ hcons => ?headers⟩,
    exec_ledgerConsumerWrite_linkDown h, exec_ledgerConsumerWrite_unsupported h,
    fun cons hset hup hdec => ?consumer,
    fun hset => ⟨exec_ledgerRingModeration_none h hset, exec_ledgerRingModeration_early h hset, ledgerRingModeration_raises h hset⟩,
    exec_archive_none h, fun i c hi hc => ⟨fun lba o ho => ⟨archiveWriteComplete_takes h hi hc ho, archiveWriteComplete_stays h hi hc ho⟩,
      fun hon hup hdest hblock hhdrs => ⟨fun hearly => ?early, archiveIndexWrite_writes h hi hc hon hup hdest hblock hhdrs⟩,
      exec_archiveReconnect_early h hi hc, archiveReconnect_begins h hi hc⟩⟩
  case records =>
    subst hcons
    exact recordRingWrite_writes h hon hdest htakes hturn hl
  case headers =>
    subst hcons
    exact headerRingWrite_writes h hon hdest htakes hturn hl
  case consumer =>
    have hexec := exec_ledgerConsumerWrite h hup hdec hset
    exact ⟨fun hpast => (hexec false cons).trans (if_pos hpast), fun hwithin => (hexec false cons).trans (if_neg (BitVec.not_lt.mpr hwithin)),
      fun hpast => (hexec true cons).trans (if_pos hpast), fun hwithin => (hexec true cons).trans (if_neg (BitVec.not_lt.mpr hwithin))⟩
  case early =>
    rw [exec_archiveIndexWrite h hi hc hon hup hdest hblock hhdrs, if_pos (.inl hearly)]

end Sys2Proof.Machine
end

section
/-! PROOFS. Resets, and the end of boot (R684, R687, R690, R774, R793 to R795, R815 to R817). -/

namespace Sys2Proof.Machine

/-! ### What a reset cuts short (R793) -/

/-- The state in which the outputs of a reset device have fallen, and what it was programming is as far as it had come. -/
def State.cutOff (s : State) : State :=
  let s := [0, 1].foldl (fun (s : State) n => (s.ppsLow n).synceLow n) s
  let s := if s.evr.alert then s.emit (.alert false) else s
  (s.cutRecord).cutCkpt

/-- What such a state becomes by a reset. -/
def State.afterReset (s : State) : State :=
  { State.reset with
    pending := s.pending, out := s.out, free := s.free, nextFrame := s.nextFrame
    stp := { Stamping.init with factoryRx := s.stp.factoryRx, factoryTx := s.stp.factoryTx }
    ldg := { Ledger.init with ckpt0 := s.ldg.ckpt0, ckpt1 := s.ldg.ckpt1 }
    nvm := s.nvm.kept
    mgt := { Mgmt.init with
      serial := s.mgt.serial, ownerHash := s.mgt.ownerHash, fusedMin := s.mgt.fusedMin, fwHash := s.mgt.fwHash
      raiseMinRun := if s.mgt.stage = BootStage.service then s.mgt.raiseMinRun else 0 }
    evr := { Recorder.init with
      region := s.evr.region, nextSeq := max 1 s.evr.reservedEnd, reservedEnd := s.evr.reservedEnd } }

theorem State.restart_eq (s : State) : s.restart = s.cutOff.afterReset := rfl

section CutOff

variable {β : Sort _} (obs : State → β)

theorem State.outputsLow_keeps (h : ∀ (s : State) x y z, obs { s with tb := { s.tb with ppsHigh := x, synce := y }, out := z } = obs s)
    (s : State) : obs ([0, 1].foldl (fun (s : State) n => (s.ppsLow n).synceLow n) s) = obs s := by
  have hpps : ∀ (u : State) n, obs (u.ppsLow n) = obs u := by
    intro u n
    unfold State.ppsLow
    split
    · exact h u _ u.tb.synce _
    · rfl
  have hsynce : ∀ (u : State) n, obs (u.synceLow n) = obs u := by
    intro u n
    unfold State.synceLow
    split
    · exact h u u.tb.ppsHigh _ _
    · rfl
  exact foldl_keeps obs _ (fun u n => (hsynce _ n).trans (hpps u n)) _ s

theorem State.cutRecord_keeps (h : ∀ (s : State) m j e p x, obs { s with
      nvm := { s.nvm with jrnMap := m, journal := j, eraseJournal := e, jrnPos := p }, free := x } = obs s) (s : State) : obs s.cutRecord = obs s := by
  unfold State.cutRecord
  split
  · rfl
  · have hdraw := State.draw_keeps obs (fun u x => h u u.nvm.jrnMap u.nvm.journal u.nvm.eraseJournal u.nvm.jrnPos x) s 4
    rcases hd : s.draw 4 with ⟨x, u⟩
    rw [hd] at hdraw
    dsimp only
    split
    · exact hdraw
    · exact (State.appendRecord_keeps obs (fun v m j e p => h v m j e p v.free) u _).trans hdraw

theorem State.cutCkpt_keeps (h : ∀ (s : State) x y z, obs { s with ldg := { s.ldg with ckpt0 := x, ckpt1 := y }, free := z } = obs s) (s : State) :
    obs s.cutCkpt = obs s := by
  have hput : ∀ (u : State) d k, obs (u.putCkpt d k) = obs u := by
    intro u d k
    unfold State.putCkpt
    split
    · exact h u _ u.ldg.ckpt1 u.free
    · exact h u u.ldg.ckpt0 _ u.free
  have hdraw := State.draw_keeps obs fun u x => h u u.ldg.ckpt0 u.ldg.ckpt1 x
  unfold State.cutCkpt
  split
  · rfl
  · have hu := hdraw s 257
    rcases hx : s.draw 257 with ⟨x, u⟩
    rw [hx] at hu
    have hv := (hdraw u 257).trans hu
    dsimp only
    rcases hy : u.draw 257 with ⟨y, v⟩
    rw [hy] at hv
    dsimp only
    split <;> split
    · exact hv
    · exact (hput _ _ _).trans hv
    · exact (hput _ _ _).trans hv
    · exact (hput _ _ _).trans ((hput _ _ _).trans hv)

/-- The state in which the outputs of a reset device have fallen, before what it was programming is cut short. -/
def State.quieted (s : State) : State :=
  let s := [0, 1].foldl (fun (s : State) n => (s.ppsLow n).synceLow n) s
  if s.evr.alert then s.emit (.alert false) else s

theorem State.quieted_keeps (h : ∀ (s : State) x y z, obs { s with tb := { s.tb with ppsHigh := x, synce := y }, out := z } = obs s)
    (s : State) : obs s.quieted = obs s := by
  unfold State.quieted
  extract_lets u
  have hu : obs u = obs s := State.outputsLow_keeps obs h s
  clear_value u
  split
  · exact (State.emit_keeps obs (fun v z => h v v.tb.ppsHigh v.tb.synce z) u _).trans hu
  · exact hu

theorem State.cutOff_keeps (hout : ∀ (s : State) x y z, obs { s with tb := { s.tb with ppsHigh := x, synce := y }, out := z } = obs s)
    (hrec : ∀ (s : State) m j e p x, obs { s with
      nvm := { s.nvm with jrnMap := m, journal := j, eraseJournal := e, jrnPos := p }, free := x } = obs s)
    (hckpt : ∀ (s : State) x y z, obs { s with ldg := { s.ldg with ckpt0 := x, ckpt1 := y }, free := z } = obs s) (s : State) :
    obs s.cutOff = obs s :=
  (State.cutCkpt_keeps obs hckpt _).trans ((State.cutRecord_keeps obs hrec _).trans (State.quieted_keeps obs hout s))

end CutOff

/-- No record is cut short where none is being written. -/
theorem State.journal_cutOff {s : State} (h : s.nvm.writing = []) : s.cutOff.nvm.journal = s.nvm.journal := by
  have hnvm : s.quieted.nvm = s.nvm := State.quieted_keeps State.nvm (fun _ _ _ _ => rfl) s
  have hcut : s.quieted.cutRecord = s.quieted := by rw [State.cutRecord, hnvm, h]
  calc s.cutOff.nvm.journal = s.quieted.cutRecord.nvm.journal := State.cutCkpt_keeps (fun u => u.nvm.journal) (fun _ _ _ _ => rfl) _
    _ = s.nvm.journal := by rw [hcut, hnvm]

/-- No checkpoint is cut short where none is being written. -/
theorem State.ckpt0_cutOff {s : State} (h : s.ldg.ckptWriting = none) : s.cutOff.ldg.ckpt0 = s.ldg.ckpt0 := by
  have hldg : s.quieted.cutRecord.ldg = s.ldg := (State.cutRecord_keeps State.ldg (fun _ _ _ _ _ _ => rfl) _).trans
    (State.quieted_keeps State.ldg (fun _ _ _ _ => rfl) s)
  have hcut : s.quieted.cutRecord.cutCkpt = s.quieted.cutRecord := by rw [State.cutCkpt, hldg, h]
  calc s.cutOff.ldg.ckpt0 = s.quieted.cutRecord.cutCkpt.ldg.ckpt0 := rfl
    _ = s.ldg.ckpt0 := by rw [hcut, hldg]

/-! ### POWER_ON_RESET (R793, R794) -/

/-- What a power-on reset leaves, before the sticky bit of the thermal trip is put back. -/
def State.poweredOn (s : State) (ok fatal : Bool) (minMv : Nat) : State :=
  { s.afterReset with
    pwr := { PowerSt.init with pwrOk := ok, minMv }
    rst := { ResetSt.init with cause := if ok then 0 else 1, fromFatal := fatal } }

theorem exec_powerOnReset (s : State) (ok : Bool) : exec (.powerOnReset ok) s =
    .next ((s.cutOff.poweredOn ok s.evr.fatal s.pwr.minMv).setFld F.pwrTherm_tripSticky (s.fld F.pwrTherm_tripSticky)) := rfl

theorem State.tripSticky_setFld (s u : State) (h : u.regs.cells.wf = true) :
    (u.setFld F.pwrTherm_tripSticky (s.fld F.pwrTherm_tripSticky)).fld F.pwrTherm_tripSticky = s.fld F.pwrTherm_tripSticky := by
  rw [State.fld_setFld_self h (by rfl)]
  exact Nat.mod_mod _ _

/-- What a reset keeps of the state is what it was when it came (R793). -/
structure Kept (s u : State) : Prop where
  pending : u.pending = s.pending
  region : u.evr.region = s.evr.region
  sb0 : u.nvm.sb0 = s.nvm.sb0
  sb1 : u.nvm.sb1 = s.nvm.sb1
  fusedMin : u.mgt.fusedMin = s.mgt.fusedMin
  fw : u.nvm.fw = s.nvm.fw
  bases : u.nvm.bases = s.nvm.bases

theorem State.kept_cutOff (s : State) : Kept s s.cutOff where
  pending := State.cutOff_keeps State.pending (fun _ _ _ _ => rfl) (fun _ _ _ _ _ _ => rfl) (fun _ _ _ _ => rfl) s
  region := State.cutOff_keeps (fun u => u.evr.region) (fun _ _ _ _ => rfl) (fun _ _ _ _ _ _ => rfl) (fun _ _ _ _ => rfl) s
  sb0 := State.cutOff_keeps (fun u => u.nvm.sb0) (fun _ _ _ _ => rfl) (fun _ _ _ _ _ _ => rfl) (fun _ _ _ _ => rfl) s
  sb1 := State.cutOff_keeps (fun u => u.nvm.sb1) (fun _ _ _ _ => rfl) (fun _ _ _ _ _ _ => rfl) (fun _ _ _ _ => rfl) s
  fusedMin := State.cutOff_keeps (fun u => u.mgt.fusedMin) (fun _ _ _ _ => rfl) (fun _ _ _ _ _ _ => rfl) (fun _ _ _ _ => rfl) s
  fw := State.cutOff_keeps (fun u => u.nvm.fw) (fun _ _ _ _ => rfl) (fun _ _ _ _ _ _ => rfl) (fun _ _ _ _ => rfl) s
  bases := State.cutOff_keeps (fun u => u.nvm.bases) (fun _ _ _ _ => rfl) (fun _ _ _ _ _ _ => rfl) (fun _ _ _ _ => rfl) s

theorem powerOnReset_resets (s : State) (ok : Bool) : ∃ t, exec (.powerOnReset ok) s = .next t ∧
    t.rst = ⟨true, if ok then 0 else 1, s.evr.fatal, 0, none⟩ ∧
    t.assured = true ∧ t.pending = s.pending ∧ t.coh = State.reset.coh ∧ t.tb = State.reset.tb ∧ t.hif = State.reset.hif ∧
    t.tm = State.reset.tm ∧ t.qm = State.reset.qm ∧ t.ports = State.reset.ports ∧ t.clk = State.reset.clk ∧ t.svc = State.reset.svc ∧
    t.evr.region = s.evr.region ∧ t.evr.fatal = false ∧ t.nvm.sb0 = s.nvm.sb0 ∧ t.nvm.sb1 = s.nvm.sb1 ∧
    t.mgt.fusedMin = s.mgt.fusedMin ∧
    (s.nvm.writing = [] → t.nvm.journal = s.nvm.journal) ∧ t.nvm.fw = s.nvm.fw ∧ t.nvm.bases = s.nvm.bases ∧ t.ldg.keys = Table.empty ∧
    (s.ldg.ckptWriting = none → t.ldg.ckpt0 = s.ldg.ckpt0) ∧
    t.fld F.pwrTherm_tripSticky = s.fld F.pwrTherm_tripSticky := by
  have hkept := s.kept_cutOff
  have hjournal := State.journal_cutOff (s := s)
  have hckpt := State.ckpt0_cutOff (s := s)
  rw [exec_powerOnReset]
  generalize s.cutOff = u at *
  have hsticky := State.tripSticky_setFld s (u.poweredOn ok s.evr.fatal s.pwr.minMv) rfl
  exact ⟨_, rfl, rfl, rfl, hkept.pending, rfl, rfl, rfl, rfl, rfl, rfl, rfl, rfl, hkept.region, rfl, hkept.sb0, hkept.sb1, hkept.fusedMin,
    hjournal, hkept.fw, hkept.bases, rfl, hckpt, hsticky⟩

/-! ### PWRON_RESET_RELEASE (R774, R815, R817) -/

section Release

variable {s : State} (w : Word) (h : s.assured = true)

include h

theorem exec_pwronResetRelease_none (hfree : s.rst.held = false) : exec (.pwronResetRelease w) s = .next s := by
  show execPwronResetRelease w s = _
  simp [execPwronResetRelease, h, hfree]

/-- The straps sampled as PWRON_RST_N is released (R774, R817). -/
def State.strapped (s : State) (w : Word) : State :=
  { s with
    rst := { s.rst with held := false }
    mgt := { s.mgt with released := true, straps := BitVec.ofNat 32 (w.toNat % 128), bootSel := w.toNat % 128 / 8 % 4 }
    nvm := { s.nvm with mirror := (w.toNat % 128).testBit 5 }
    pwr := { s.pwr with pwrOk := true } }

theorem exec_pwronResetRelease (hheld : s.rst.held = true) : exec (.pwronResetRelease w) s =
    .next (if (w.toNat % 128).testBit 5 then s.strapped w
      else (s.strapped w).setUnit .flash 0 1 { UnitSt.init with state := .outOfService }) := by
  refine (if_neg ?_).trans ((if_neg ?_).trans rfl)
  · simp [h]
  · simp [hheld]

theorem pwronResetRelease_straps (hheld : s.rst.held = true) : ∃ t, exec (.pwronResetRelease w) s = .next t ∧ t.rst = { s.rst with held := false } ∧
    t.mgt.released = true ∧ t.mgt.bootSel = w.toNat / 8 % 4 ∧ t.nvm.mirror = w.toNat.testBit 5 ∧
    (w.toNat.testBit 5 = false → (t.unit .flash 0 1).state = .outOfService) ∧ t.regs = s.regs ∧ t.coh = s.coh := by
  have hbit : (w.toNat % 128).testBit 5 = w.toNat.testBit 5 := Nat.testBit_mod_two_pow w.toNat 7 5
  have hboot : w.toNat % 128 / 8 % 4 = w.toNat / 8 % 4 := by omega
  have hexec := exec_pwronResetRelease w h hheld
  rw [hbit] at hexec
  refine ⟨_, hexec, ?_⟩
  cases hmirror : w.toNat.testBit 5 with
  | true => exact ⟨rfl, rfl, hboot, hbit.trans hmirror, nofun, rfl, rfl⟩
  | false => exact ⟨rfl, rfl, hboot, hbit.trans hmirror, fun _ => congrArg UnitSt.state (State.unit_setUnit_self _ _ _ _ _), rfl, rfl⟩

end Release

/-! ### Clock start and warm resets (R774, R776, R795) -/

section Warm

variable {s : State} (h : Live s)

include h

theorem exec_oscWaitElapsed_none (hnone : s.mgt.released = false ∨ s.mgt.oscRunning = true) : exec .oscWaitElapsed s = .next s :=
  (whenLive_of_live h _).trans (if_pos (by simpa using hnone))

theorem exec_oscWaitElapsed (hreleased : s.mgt.released = true) (hstopped : s.mgt.oscRunning = false) : exec .oscWaitElapsed s = .next { s with
    mgt := { s.mgt with oscRunning := true }, clk := { s.clk with xtalRunning := true } } :=
  (whenLive_of_live h _).trans (if_neg (by simp [hreleased, hstopped]))

section Request

variable {w : Word}

theorem exec_warmResetRequest_none (hbit : w.toNat.testBit 16 = false) : exec (.warmResetRequest w) s = .next s :=
  (whenLive_of_live h _).trans (if_pos (by simp [hbit]))

variable (hbit : w.toNat.testBit 16 = true)

include hbit

theorem exec_warmResetRequest_unkeyed (hkey : w.toNat % 65536 ≠ 0x5741) : exec (.warmResetRequest w) s = .next (s.noticeAddr Reg.rstCtrl) :=
  (whenLive_of_live h _).trans ((if_neg (by simp [hbit])).trans (if_pos hkey))

variable (hkey : w.toNat % 65536 = 0x5741)

include hkey

theorem exec_warmResetRequest (hnone : s.rst.warmAt = none) : exec (.warmResetRequest w) s =
    .next { s with rst := { s.rst with warmAt := some (s.now + 10 * usStamp) } } :=
  (whenLive_of_live h _).trans ((if_neg (by simp [hbit])).trans ((if_neg (not_not.mpr hkey)).trans (if_neg (by simp [hnone]))))

theorem exec_warmResetRequest_waiting (hsome : s.rst.warmAt ≠ none) : exec (.warmResetRequest w) s = .next s :=
  (whenLive_of_live h _).trans ((if_neg (by simp [hbit])).trans ((if_neg (not_not.mpr hkey)).trans
    (if_pos (by simpa [Option.isSome_iff_ne_none] using hsome))))

end Request

theorem exec_warmReset_none (hnone : s.rst.warmAt = none) : exec .warmReset s = .next s := by
  refine (whenLive_of_live h _).trans ?_
  rw [hnone]

/-- What a warm reset of `s` leaves of the state that it found, before the sticky bits are put back. -/
def State.warmed (s u : State) : State :=
  { u.afterReset with
    mgt := { u.afterReset.mgt with released := true, oscRunning := true, bootSel := s.mgt.bootSel, straps := s.mgt.straps }
    nvm := { u.afterReset.nvm with mirror := s.nvm.mirror }
    pwr := { s.pwr with avsAt := 0, hotAt := 0 }
    clk := { u.afterReset.clk with xtalRunning := s.clk.xtalRunning, onRing := s.clk.onRing }
    rst := { held := false, cause := 2, fromFatal := s.evr.fatal, warmCount := s.rst.warmCount + 1, warmAt := none } }

variable {t0 : Stamp} (hwarm : s.rst.warmAt = some t0)

include hwarm

theorem exec_warmReset_early (hrunning : s.tb.running = true) (hearly : s.now < t0) : exec .warmReset s = .next s := by
  refine (whenLive_of_live h _).trans ?_
  rw [hwarm]
  exact if_pos ⟨hrunning, hearly⟩

theorem exec_warmReset (hdue : s.tb.running = false ∨ t0 ≤ s.now) : exec .warmReset s =
    .next (if s.nvm.mirror then (s.warmed s.cutOff).setReg Reg.pwrTherm (s.reg Reg.pwrTherm)
      else ((s.warmed s.cutOff).setReg Reg.pwrTherm (s.reg Reg.pwrTherm)).setUnit .flash 0 1 { UnitSt.init with state := .outOfService }) := by
  refine (whenLive_of_live h _).trans ?_
  rw [hwarm]
  refine (if_neg ?_).trans rfl
  rintro ⟨hrunning, hearly⟩
  obtain hstopped | hdue := hdue
  · rw [hstopped] at hrunning
    cases hrunning
  · exact Nat.not_lt.mpr hdue hearly

theorem warmReset_restarts (hdue : s.tb.running = false ∨ t0 ≤ s.now) : ∃ t, exec .warmReset s = .next t ∧
    t.rst = ⟨false, 2, s.evr.fatal, s.rst.warmCount + 1, none⟩ ∧ t.pwr = { s.pwr with avsAt := 0, hotAt := 0 } ∧ t.mgt.bootSel = s.mgt.bootSel ∧
    t.mgt.oscRunning = true ∧ t.mgt.stage = .rom ∧ t.evr.fatal = false ∧ t.evr.region = s.evr.region ∧ t.tb = State.reset.tb ∧
    t.coh = State.reset.coh ∧ t.hif = State.reset.hif ∧ t.reg Reg.pwrTherm = s.reg Reg.pwrTherm ∧ t.pending = s.pending := by
  have hkept := s.kept_cutOff
  rw [exec_warmReset h hwarm hdue]
  generalize s.cutOff = u at *
  have hreg : ((s.warmed u).setReg Reg.pwrTherm (s.reg Reg.pwrTherm)).reg Reg.pwrTherm = s.reg Reg.pwrTherm := by
    rw [State.reg_setReg_self _ _ _ (by rfl)]
    exact Nat.mod_eq_of_lt (BitVec.isLt _)
  refine ⟨_, rfl, ?_⟩
  split
  · exact ⟨rfl, rfl, rfl, rfl, rfl, rfl, hkept.region, rfl, rfl, rfl, hreg, hkept.pending⟩
  · exact ⟨rfl, rfl, rfl, rfl, rfl, rfl, hkept.region, rfl, rfl, rfl, hreg, hkept.pending⟩

end Warm

/-! ### BOOT_SERVICE_REACHED (R687, R690) -/

section Service

variable {s : State} (h : Serving s)

include h

theorem exec_bootServiceReached_none (hnone : s.mgt.stage ≠ .units ∨ s.bootPorts.all s.portSettled = false) :
    exec .bootServiceReached s = .next s :=
  (whenWorking_of_serving h _).trans (if_pos (by simpa using hnone))

/-- SERVICE reached, with a boot time that the device has measured (R687, R690). -/
def State.inService (s : State) (ms : Nat) : State :=
  { s with
    free := s.free + 1
    mgt := { s.mgt with
      stage := .service, bootMs := min 0xFFFF ms, raiseMinRun := s.mgt.raiseMinRun + 1
      fusedMin := if s.mgt.fwRaiseMin ∧ 3 ≤ s.mgt.raiseMinRun + 1 then max s.mgt.fusedMin s.mgt.fwSvn else s.mgt.fusedMin } }

theorem exec_bootServiceReached (hstage : s.mgt.stage = .units) (hsettled : s.bootPorts.all s.portSettled = true) : ∃ ms,
    exec .bootServiceReached s = .next ((s.inService ms).event 0xB001 1 [.r Reg.mgtBootMs]) :=
  ⟨(s.draw 65536).1 + (s.now - s.mgt.bootAt) / msStamp, (whenWorking_of_serving h _).trans (if_neg (by simp [hstage, hsettled]))⟩

theorem bootServiceReached_serves (hstage : s.mgt.stage = .units) (hsettled : s.bootPorts.all s.portSettled = true) :
    ∃ t, exec .bootServiceReached s = .next t ∧ t.mgt.stage = .service ∧
      t.mgt.bootMs ≤ 0xFFFF ∧ t.mgt.raiseMinRun = s.mgt.raiseMinRun + 1 ∧
      t.mgt.fusedMin = (if s.mgt.fwRaiseMin = true ∧ 3 ≤ t.mgt.raiseMinRun then max s.mgt.fusedMin s.mgt.fwSvn else s.mgt.fusedMin) ∧
      t = { s with mgt := t.mgt, evr := t.evr, ctr := t.ctr, out := t.out, free := t.free } := by
  obtain ⟨ms, hexec⟩ := exec_bootServiceReached h hstage hsettled
  have hmgt : ((s.inService ms).event 0xB001 1 [.r Reg.mgtBootMs]).mgt = (s.inService ms).mgt := by simp
  refine ⟨_, hexec, ?_, ?_, ?_, ?_, ?_⟩
  · rw [hmgt]
    rfl
  · rw [hmgt]
    exact min_le_left _ _
  · rw [hmgt]
    rfl
  · rw [hmgt]
    rfl
  · exact State.event_keeps (fun u => ({ u with
      mgt := ((s.inService ms).event 0xB001 1 [.r Reg.mgtBootMs]).mgt, evr := ((s.inService ms).event 0xB001 1 [.r Reg.mgtBootMs]).evr
      ctr := ((s.inService ms).event 0xB001 1 [.r Reg.mgtBootMs]).ctr, out := ((s.inService ms).event 0xB001 1 [.r Reg.mgtBootMs]).out
      free := ((s.inService ms).event 0xB001 1 [.r Reg.mgtBootMs]).free } : State)) (fun _ _ _ _ => rfl) (s.inService ms) 0xB001 1 _

end Service

end Sys2Proof.Machine
end

section
/-! PROOFS. FIRMWARE_START (R684, R686, R688, R689, R695, R698). -/

namespace Sys2Proof.Machine

/-! ### The slots as they are read at boot -/

/-- A slot of a table as it is read at boot: what is known of it stands, and it holds nothing where it can't be read. -/
def Table.reread {α : Type} (t : Table α) (k : Nat) (o : Option α) : Table α :=
  match o with
  | some x => t.set k (t.getD k x)
  | none => t.erase k

theorem slotRead_eq {α : Type} (t : Table α) (a b : SlotRead α) :
    slotRead t a b = (((t.reread 0 a.flash0).reread 1 b.flash0).reread 2 a.flash1).reread 3 b.flash1 := rfl

section Reread

variable {α : Type} (t : Table α) {j k : Nat} (o : Option α)

theorem Table.get?_reread_ne (h : j ≠ k) : (t.reread k o).get? j = t.get? j := by
  cases o with
  | some x => exact t.get?_set_ne h _
  | none => exact t.get?_erase_ne h

theorem Table.wf_reread (h : t.wf = true) : (t.reread k o).wf = true := by
  cases o with
  | some x => exact t.wf_set _ _ h
  | none => exact t.wf_erase _ h

theorem Table.get?_reread_none (h : t.wf = true) : (t.reread k none).get? k = none := t.get?_erase_self k h

theorem Table.get?_reread_some {x : α} (h : t.get? k = none) : (t.reread k (some x)).get? k = some x := by
  simp [Table.reread, Table.getD, h]

end Reread

section SlotRead

variable {α : Type} (t : Table α) (a b : SlotRead α)

theorem get?_slotRead_zero : (slotRead t a b).get? 0 = (t.reread 0 a.flash0).get? 0 := by
  simp [slotRead_eq, Table.get?_reread_ne]

theorem get?_slotRead_one : (slotRead t a b).get? 1 = ((t.reread 0 a.flash0).reread 1 b.flash0).get? 1 := by
  simp [slotRead_eq, Table.get?_reread_ne]

theorem get?_slotRead_two : (slotRead t a b).get? 2 = (((t.reread 0 a.flash0).reread 1 b.flash0).reread 2 a.flash1).get? 2 := by
  simp [slotRead_eq, Table.get?_reread_ne]

/-- A device with nothing known of it holds what is read of it. -/
theorem get?_slotRead_empty : (slotRead (Table.empty : Table α) a b).get? 0 = a.flash0 ∧ (slotRead (Table.empty : Table α) a b).get? 1 = b.flash0 ∧
    (slotRead (Table.empty : Table α) a b).get? 2 = a.flash1 ∧ (slotRead (Table.empty : Table α) a b).get? 3 = b.flash1 := by
  have hread : ∀ (t : Table α) (k : Nat) (o : Option α), t.wf = true → t.get? k = none → (t.reread k o).get? k = o := by
    intro t k o hwf hnone
    cases o with
    | some x => exact t.get?_reread_some hnone
    | none => exact t.get?_reread_none hwf
  have h0 : (Table.empty : Table α).wf = true := rfl
  have h1 := Table.wf_reread _ (k := 0) a.flash0 h0
  have h2 := Table.wf_reread _ (k := 1) b.flash0 h1
  have h3 := Table.wf_reread _ (k := 2) a.flash1 h2
  refine ⟨?_, ?_, ?_, ?_⟩
  · rw [get?_slotRead_zero, hread _ _ _ h0 rfl]
  · rw [get?_slotRead_one, hread _ _ _ h1]
    simp (disch := decide) only [Table.get?_reread_ne]
    rfl
  · rw [get?_slotRead_two, hread _ _ _ h2]
    simp (disch := decide) only [Table.get?_reread_ne]
    rfl
  · rw [slotRead_eq, hread _ _ _ h3]
    simp (disch := decide) only [Table.get?_reread_ne]
    rfl

end SlotRead

/-! ### What the boot ROM reads -/

/-- The state in which the boot ROM has read both regions of superblocks and every slot (R695, R698, R749). -/
def State.romRead (s : State) (a b : SlotRead FirmwareInfo) (x y : SlotRead BaseImage) : State :=
  let s := { s with nvm := { s.nvm with fw := slotRead s.nvm.fw a b, bases := slotRead s.nvm.bases x y } }
  let s := ((s.scanBlocks).checkSkew).newNonce
  { s with evr := { s.evr with flashOk := decide (s.flashUp ≠ []) } }

section RomRead

variable {β : Sort _} (obs : State → β)

theorem State.scanBlocks_keeps (h : ∀ (s : State) x0 x1 x2 x3, obs { s with nvm := { s.nvm with sb0 := x0, sb1 := x1, found := x2, active := x3 } } = obs s)
    (s : State) : obs s.scanBlocks = obs s := by
  unfold State.scanBlocks
  split
  · exact h s _ _ _ _
  · exact h s s.nvm.sb0 s.nvm.sb1 _ _

theorem State.checkSkew_keeps (h : ∀ (s : State) x y, obs { s with nvm := { s.nvm with bootSkewed := x }, svc := y } = obs s) (s : State) :
    obs s.checkSkew = obs s := by
  unfold State.checkSkew
  dsimp only
  split
  · split
    · rfl
    · exact h s _ _
  · rfl

theorem State.romRead_keeps (h : ∀ (s : State) x0 x1 x2 x3 x4 x5 x6 x7 x8 x9, obs { s with
      nvm := { s.nvm with fw := x0, bases := x1, sb0 := x2, sb1 := x3, found := x4, active := x5, bootSkewed := x6 }
      svc := x7, free := x8, evr := x9 } = obs s)
    (s : State) (a b : SlotRead FirmwareInfo) (x y : SlotRead BaseImage) : obs (s.romRead a b x y) = obs s := by
  unfold State.romRead
  extract_lets _ u v
  have hu : obs u = obs s := h s _ _ s.nvm.sb0 s.nvm.sb1 s.nvm.found s.nvm.active s.nvm.bootSkewed s.svc s.free s.evr
  have hv : obs v = obs u.scanBlocks.checkSkew := h u.scanBlocks.checkSkew u.scanBlocks.checkSkew.nvm.fw u.scanBlocks.checkSkew.nvm.bases
    u.scanBlocks.checkSkew.nvm.sb0 u.scanBlocks.checkSkew.nvm.sb1 u.scanBlocks.checkSkew.nvm.found u.scanBlocks.checkSkew.nvm.active
    u.scanBlocks.checkSkew.nvm.bootSkewed u.scanBlocks.checkSkew.svc _ _
  have hskew := State.checkSkew_keeps obs (fun w x y => h w w.nvm.fw w.nvm.bases w.nvm.sb0 w.nvm.sb1 w.nvm.found w.nvm.active x y w.free w.evr)
    u.scanBlocks
  have hscan := State.scanBlocks_keeps obs (fun w x0 x1 x2 x3 => h w w.nvm.fw w.nvm.bases x0 x1 x2 x3 w.nvm.bootSkewed w.svc w.free w.evr) u
  exact (h v v.nvm.fw v.nvm.bases v.nvm.sb0 v.nvm.sb1 v.nvm.found v.nvm.active v.nvm.bootSkewed v.svc v.free _).trans
    (hv.trans (hskew.trans (hscan.trans hu)))

end RomRead

section Read

variable (s : State) (a b : SlotRead FirmwareInfo) (x y : SlotRead BaseImage)

theorem State.fw_romRead : (s.romRead a b x y).nvm.fw = slotRead s.nvm.fw a b := by
  unfold State.romRead
  extract_lets _ u v
  have hskew := State.checkSkew_keeps (fun w => w.nvm.fw) (fun _ _ _ => rfl) u.scanBlocks
  exact hskew.trans (State.scanBlocks_keeps (fun w => w.nvm.fw) (fun _ _ _ _ _ => rfl) u)

/-- A blank store holds the superblock of the factory (R698). -/
theorem State.active_romRead (h0 : s.nvm.sb0 = []) (h1 : s.nvm.sb1 = []) : (s.romRead a b x y).nvm.active = some factoryBlock := by
  unfold State.romRead
  extract_lets _ u v
  have hskew := State.checkSkew_keeps (fun w => w.nvm.active) (fun _ _ _ => rfl) u.scanBlocks
  refine Eq.trans hskew ?_
  rw [State.scanBlocks, if_pos ⟨h0, h1⟩]

@[simp] theorem State.mirror_romRead : (s.romRead a b x y).nvm.mirror = s.nvm.mirror :=
  State.romRead_keeps (fun w => w.nvm.mirror) (fun _ _ _ _ _ _ _ _ _ _ _ => rfl) s a b x y

@[simp] theorem State.mgt_romRead : (s.romRead a b x y).mgt = s.mgt :=
  State.romRead_keeps State.mgt (fun _ _ _ _ _ _ _ _ _ _ _ => rfl) s a b x y

@[simp] theorem State.clk_romRead : (s.romRead a b x y).clk = s.clk :=
  State.romRead_keeps State.clk (fun _ _ _ _ _ _ _ _ _ _ _ => rfl) s a b x y

theorem State.fwValid_romRead : (s.romRead a b x y).fwValid = s.fwValid :=
  State.romRead_keeps State.fwValid (fun _ _ _ _ _ _ _ _ _ _ _ => rfl) s a b x y

end Read

/-! ### What starts -/

/-- The slot that the active superblock names, of a store without one the first (R689). -/
def State.namedSlot (s : State) : Nat :=
  match s.nvm.active with
  | some b => b.fwSlot
  | none => 0

/-- The image that the boot ROM finds in a slot (R688, R695). -/
def State.slotFirmware (s : State) (n : Nat) : Option FirmwareInfo := s.readSlot s.nvm.fw s.fwValid n

/-- Firmware that runs from a slot. -/
def State.withFirmware (s : State) (slot : Nat) (f : FirmwareInfo) : State :=
  { s with mgt := { s.mgt with
    fwRuns := true, fwSlot := slot, fwVersion := f.version, fwSvn := f.svn, fwRaiseMin := f.raiseMin, fwHash := f.hash
    raiseMinRun := if f.hash = s.mgt.fwHash then s.mgt.raiseMinRun else 0 } }

/-- The rows of the clock table that the base holds. -/
def State.bootRows (s : State) : List ClockRow :=
  match s.chooseBase with
  | some (_, b) => b.clocks
  | none => []

/-- What firmware does first: RECOVERY where the straps ask for it, else the clock table (R686, R780). -/
def State.bootOn (s : State) : State :=
  if s.mgt.bootSel = 1 ∨ s.mgt.bootSel = 3 then s.enterRecovery.applyClocks []
  else ({ s with mgt := { s.mgt with stage := .clocks } }).applyClocks s.bootRows

/-- Firmware started from a slot, with an event where the superblock names the other one (R689). -/
def State.startFrom (s : State) (slot : Nat) (f : FirmwareInfo) : Res :=
  let s := (if slot = s.namedSlot then s else s.event 0xB002 3 []).withFirmware slot f
  if s.mgt.bootSel = 1 ∨ s.mgt.bootSel = 3 then .next (s.enterRecovery.applyClocks [])
  else .next (({ s with mgt := { s.mgt with stage := .clocks } }).applyClocks s.bootRows)

theorem State.startFrom_eq (s : State) (slot : Nat) (f : FirmwareInfo) :
    s.startFrom slot f = .next ((if slot = s.namedSlot then s else s.event 0xB002 3 []).withFirmware slot f).bootOn :=
  (apply_ite Host.Outcome.next _ _ _).symm

/-- The first image that is valid started; without one the device is in RECOVERY (R689). -/
def State.startFirst (s : State) (first second : Option (Nat × FirmwareInfo)) : Res :=
  match first, second with
  | none, none => .next ({ s with mgt := { s.mgt with updateOpen := true } }).enterRecovery
  | first, second =>
    match (first.orElse fun _ => second) with
    | none => .next s
    | some (slot, f) => s.startFrom slot f

section Exec

variable {s : State} (h : Serving s) (a b : SlotRead FirmwareInfo) (x y : SlotRead BaseImage)

include h

theorem exec_firmwareStart_none (hnone : s.mgt.oscRunning = false ∨ s.mgt.stage ≠ .rom) : exec (.firmwareStart a b x y) s = .next s :=
  (whenWorking_of_serving h _).trans (if_pos (by simpa using hnone))

variable (hosc : s.mgt.oscRunning = true) (hrom : s.mgt.stage = .rom) {u : State} (hu : u = s.romRead a b x y)

include hosc hrom hu

theorem exec_firmwareStart : exec (.firmwareStart a b x y) s = u.startFirst ((u.slotFirmware u.namedSlot).map fun f => (u.namedSlot, f))
    ((u.slotFirmware (1 - u.namedSlot)).map fun f => (1 - u.namedSlot, f)) := by
  subst hu
  exact (whenWorking_of_serving h _).trans (if_neg (by simp [hosc, hrom]))

/-- Firmware starts from the slot that the superblock names, where it is valid (R689). -/
theorem exec_firmwareStart_named {f : FirmwareInfo} (hf : u.slotFirmware u.namedSlot = some f) :
    exec (.firmwareStart a b x y) s = .next (u.withFirmware u.namedSlot f).bootOn := by
  rw [exec_firmwareStart h a b x y hosc hrom hu, hf]
  refine (State.startFrom_eq u u.namedSlot f).trans ?_
  rw [if_pos rfl]

/-- It starts from the other slot where that one is not (R689). -/
theorem exec_firmwareStart_other {f : FirmwareInfo} (hnone : u.slotFirmware u.namedSlot = none)
    (hf : u.slotFirmware (1 - u.namedSlot) = some f) (hne : 1 - u.namedSlot ≠ u.namedSlot) :
    exec (.firmwareStart a b x y) s = .next ((u.event 0xB002 3 []).withFirmware (1 - u.namedSlot) f).bootOn := by
  rw [exec_firmwareStart h a b x y hosc hrom hu, hnone, hf]
  refine (State.startFrom_eq u (1 - u.namedSlot) f).trans ?_
  rw [if_neg hne]

/-- Without a valid image the device is in RECOVERY, and waits for one (R689). -/
theorem exec_firmwareStart_recovery (hnone : ∀ n, u.slotFirmware n = none) :
    exec (.firmwareStart a b x y) s = .next ({ u with mgt := { u.mgt with updateOpen := true } }).enterRecovery := by
  rw [exec_firmwareStart h a b x y hosc hrom hu, hnone, hnone]
  rfl

end Exec

/-! ### What firmware leaves as it was -/

theorem State.applyFallback_keeps {β : Sort _} (obs : State → β)
    (h : ∀ (s : State) x0 x1 x2 x3 x4, obs { s with hif := x0, qm := x1, evr := x2, out := x3, ctr := x4 } = obs s) (s : State) :
    obs s.applyFallback = obs s :=
  (State.event_keeps obs (fun u x2 x3 x4 => h u u.hif u.qm x2 x3 x4) _ 0xA004 3 []).trans (h s _ _ s.evr s.out s.ctr)

theorem State.enterRecovery_keeps {β : Sort _} (obs : State → β)
    (h : ∀ (s : State) x0 x1 x2 x3 x4, obs { s with hif := x0, qm := x1, evr := x2, out := x3, ctr := x4 } = obs s) (s : State) :
    obs s.enterRecovery = obs { s with mgt := { s.mgt with stage := .recovery } } :=
  (State.assertAlert_keeps obs (fun u x2 x3 => h u u.hif u.qm x2 x3 u.ctr) _).trans
    ((State.event_keeps obs (fun u x2 x3 x4 => h u u.hif u.qm x2 x3 x4) _ 0xB005 3 []).trans (State.applyFallback_keeps obs h _))

theorem State.mgt_enterRecovery (s : State) : s.enterRecovery.mgt = { s.mgt with stage := .recovery } :=
  State.enterRecovery_keeps State.mgt (fun _ _ _ _ _ _ => rfl) s

theorem State.clk_enterRecovery (s : State) : s.enterRecovery.clk = s.clk :=
  State.enterRecovery_keeps State.clk (fun _ _ _ _ _ _ => rfl) s

theorem State.mgt_applyClocks (s : State) (rows : List ClockRow) : (s.applyClocks rows).mgt = s.mgt := by
  unfold State.applyClocks
  extract_lets _ u v
  have hu : u.mgt = s.mgt := by
    refine foldl_keeps State.mgt _ (fun w i => ?_) _ s
    dsimp only
    rcases clockOf rows i with ⟨mhz, div, gate⟩
    rfl
  change v.mgt = s.mgt
  refine Eq.trans ?_ hu
  unfold v
  split
  · rfl
  · exact State.event_keeps State.mgt (fun _ _ _ _ => rfl) u _ _ _

theorem State.tableApplied_applyClocks (s : State) (rows : List ClockRow) : (s.applyClocks rows).clk.tableApplied = true := rfl

theorem State.tableApplied_bootOn (s : State) : s.bootOn.clk.tableApplied = true := by
  unfold State.bootOn
  split
  · exact State.tableApplied_applyClocks _ _
  · exact State.tableApplied_applyClocks _ _

theorem State.mgt_bootOn (s : State) :
    s.bootOn.mgt = { s.mgt with stage := if s.mgt.bootSel = 1 ∨ s.mgt.bootSel = 3 then .recovery else .clocks } := by
  unfold State.bootOn
  split
  case isTrue hrecovery =>
    rw [State.mgt_applyClocks, State.mgt_enterRecovery]
  case isFalse hrecovery =>
    rw [State.mgt_applyClocks]

/-! ### Which image is found -/

section Found

variable {s u : State} {a b : SlotRead FirmwareInfo} {x y : SlotRead BaseImage} (hu : u = s.romRead a b x y) {f : FirmwareInfo}

include hu

theorem State.slotFirmware_romRead (n : Nat) : u.slotFirmware n =
    ((if s.nvm.mirror then [n, 2 + n] else [n]).filterMap (slotRead s.nvm.fw a b).get?).find? s.fwValid := by
  subst hu
  rw [State.slotFirmware, State.readSlot, State.fw_romRead, State.mirror_romRead, State.fwValid_romRead]

/-- A valid image of FLASH0 is the one of its slot (R695). -/
theorem State.slotFirmware_flash0 {n : Nat} (hread : (slotRead s.nvm.fw a b).get? n = some f) (hvalid : s.fwValid f = true) :
    u.slotFirmware n = some f := by
  rw [State.slotFirmware_romRead hu]
  split
  · rw [List.filterMap_cons_some hread, List.find?_cons_of_pos hvalid]
  · rw [List.filterMap_cons_some hread, List.find?_cons_of_pos hvalid]

/-- An image that FLASH1 alone holds is the one of its slot (R695). -/
theorem State.slotFirmware_flash1 {n : Nat} (hmirror : s.nvm.mirror = true) (hnone : (slotRead s.nvm.fw a b).get? n = none)
    (hread : (slotRead s.nvm.fw a b).get? (2 + n) = some f) (hvalid : s.fwValid f = true) : u.slotFirmware n = some f := by
  rw [State.slotFirmware_romRead hu, if_pos hmirror, List.filterMap_cons_none hnone, List.filterMap_cons_some hread,
    List.find?_cons_of_pos hvalid]

/-- A slot that neither device holds has no image. -/
theorem State.slotFirmware_none {n : Nat} (h0 : (slotRead s.nvm.fw a b).get? n = none) (h1 : (slotRead s.nvm.fw a b).get? (2 + n) = none) :
    u.slotFirmware n = none := by
  rw [State.slotFirmware_romRead hu]
  split
  · rw [List.filterMap_cons_none h0, List.filterMap_cons_none h1]
    rfl
  · rw [List.filterMap_cons_none h0]
    rfl

theorem State.namedSlot_blank (h0 : s.nvm.sb0 = []) (h1 : s.nvm.sb1 = []) : u.namedSlot = 0 := by
  rw [State.namedSlot, hu, State.active_romRead s a b x y h0 h1]
  rfl

end Found

/-! ### The four starts of the obligation -/

section Starts

variable {s : State} (h : Serving s) (a b : SlotRead FirmwareInfo) (x y : SlotRead BaseImage) (hosc : s.mgt.oscRunning = true)
  (hrom : s.mgt.stage = .rom) {f : FirmwareInfo}

include h hosc hrom

/-- What stands in the management unit where the image of the named slot starts. -/
theorem firmwareStart_named (h0 : s.nvm.sb0 = []) (h1 : s.nvm.sb1 = []) (hf : (s.romRead a b x y).slotFirmware 0 = some f) :
    ∃ t, exec (.firmwareStart a b x y) s = .next t ∧ t.clk.tableApplied = true ∧
      t.mgt = { (s.withFirmware 0 f).mgt with stage := if s.mgt.bootSel = 1 ∨ s.mgt.bootSel = 3 then .recovery else .clocks } := by
  obtain ⟨u, hu⟩ : ∃ u, u = s.romRead a b x y := ⟨_, rfl⟩
  have hmgt : u.mgt = s.mgt := by rw [hu, State.mgt_romRead]
  have hnamed := State.namedSlot_blank hu h0 h1
  rw [← hu, ← hnamed] at hf
  refine ⟨_, exec_firmwareStart_named h a b x y hosc hrom hu hf, State.tableApplied_bootOn _, ?_⟩
  rw [State.mgt_bootOn, State.withFirmware, State.withFirmware, hmgt, hnamed]

theorem firmwareStart_first (h0 : s.nvm.sb0 = []) (h1 : s.nvm.sb1 = []) (hempty : s.nvm.fw.get? 0 = none) (hf : a.flash0 = some f)
    (hvalid : s.fwValid f = true) : ∃ t, exec (.firmwareStart a b x y) s = .next t ∧ t.mgt.fwRuns = true ∧ t.mgt.fwSlot = 0 ∧
      t.mgt.fwSvn = f.svn ∧ t.clk.tableApplied = true ∧ (s.mgt.bootSel = 0 → t.mgt.stage = .clocks) ∧
      ((s.mgt.bootSel = 1 ∨ s.mgt.bootSel = 3) → t.mgt.stage = .recovery) := by
  have hread : (slotRead s.nvm.fw a b).get? 0 = some f := by rw [get?_slotRead_zero, hf, Table.get?_reread_some _ hempty]
  obtain ⟨t, hexec, htable, hmgt⟩ := firmwareStart_named h a b x y hosc hrom h0 h1 (State.slotFirmware_flash0 rfl hread hvalid)
  refine ⟨t, hexec, ?_, ?_, ?_, htable, ?_, ?_⟩
  · rw [hmgt]
    rfl
  · rw [hmgt]
    rfl
  · rw [hmgt]
    rfl
  · intro hsel
    rw [hmgt]
    exact if_neg (by simp [hsel])
  · intro hsel
    rw [hmgt]
    exact if_pos hsel

theorem firmwareStart_mirror (h0 : s.nvm.sb0 = []) (h1 : s.nvm.sb1 = []) (hempty : s.nvm.fw = Table.empty) (hmirror : s.nvm.mirror = true)
    (hnone : a.flash0 = none) (hf : a.flash1 = some f) (hvalid : s.fwValid f = true) : ∃ t, exec (.firmwareStart a b x y) s = .next t ∧
      t.mgt.fwRuns = true ∧ t.mgt.fwSlot = 0 ∧ t.mgt.fwHash = f.hash := by
  obtain ⟨hread0, -, hread2, -⟩ := get?_slotRead_empty a b
  rw [← hempty] at hread0 hread2
  obtain ⟨t, hexec, -, hmgt⟩ := firmwareStart_named h a b x y hosc hrom h0 h1
    (State.slotFirmware_flash1 rfl hmirror (hread0.trans hnone) (hread2.trans hf) hvalid)
  refine ⟨t, hexec, ?_, ?_, ?_⟩
  all_goals
    rw [hmgt]
    rfl

theorem firmwareStart_second (h0 : s.nvm.sb0 = []) (h1 : s.nvm.sb1 = []) (hempty : s.nvm.fw = Table.empty) (ha : a = ⟨none, none⟩)
    (hf : b.flash0 = some f) (hvalid : s.fwValid f = true) : ∃ t, exec (.firmwareStart a b x y) s = .next t ∧
      t.mgt.fwRuns = true ∧ t.mgt.fwSlot = 1 ∧ t.mgt.fwHash = f.hash := by
  obtain ⟨hread0, hread1, hread2, -⟩ := get?_slotRead_empty a b
  rw [← hempty] at hread0 hread1 hread2
  obtain ⟨u, hu⟩ : ∃ u, u = s.romRead a b x y := ⟨_, rfl⟩
  have hnamed := State.namedSlot_blank hu h0 h1
  have hnone : u.slotFirmware u.namedSlot = none := by
    rw [hnamed]
    exact State.slotFirmware_none hu (hread0.trans (by rw [ha])) (hread2.trans (by rw [ha]))
  have hother : u.slotFirmware (1 - u.namedSlot) = some f := by
    rw [hnamed]
    exact State.slotFirmware_flash0 hu (hread1.trans hf) hvalid
  refine ⟨_, exec_firmwareStart_other h a b x y hosc hrom hu hnone hother (by rw [hnamed]; decide), ?_, ?_, ?_⟩
  · rw [State.mgt_bootOn]
    rfl
  · rw [State.mgt_bootOn, hnamed]
    rfl
  · rw [State.mgt_bootOn]
    rfl

theorem firmwareStart_recovers (hempty : s.nvm.fw = Table.empty) (ha : a = ⟨none, none⟩) (hb : b = ⟨none, none⟩) :
    ∃ t, exec (.firmwareStart a b x y) s = .next t ∧ t.mgt.stage = .recovery ∧ t.mgt.updateOpen = true ∧
      t.mgt.fwRuns = s.mgt.fwRuns ∧ t.clk.tableApplied = s.clk.tableApplied := by
  obtain ⟨u, hu⟩ : ∃ u, u = s.romRead a b x y := ⟨_, rfl⟩
  have hmgt : u.mgt = s.mgt := by rw [hu, State.mgt_romRead]
  have hclk : u.clk = s.clk := by rw [hu, State.clk_romRead]
  have hread : ∀ n, (slotRead s.nvm.fw a b).get? n = none := by
    intro n
    rw [hempty, ha, hb]
    rfl
  refine ⟨_, exec_firmwareStart_recovery h a b x y hosc hrom hu fun n => State.slotFirmware_none hu (hread n) (hread (2 + n)), ?_, ?_, ?_, ?_⟩
  · rw [State.mgt_enterRecovery]
  · rw [State.mgt_enterRecovery]
  · rw [State.mgt_enterRecovery, ← hmgt]
  · rw [State.clk_enterRecovery, ← hclk]

end Starts

end Sys2Proof.Machine
end

section
/-! PROOFS. The time base and the ledger as boot starts them (R73, R207, R212 to R214, R223, R840). -/

namespace Sys2Proof.Machine

/-! ### The first Ream -/

/-- The time of a checkpoint's Ream, two seconds on; without one the epoch (R73, R213). -/
def bootTime (k : Option Ckpt) : Stamp := k.elim 0 fun c => c.stop + 2 * secStamp

/-- What the steps from the checkpoint on leave as the store set it: the stage of boot, the base, and coherent state. -/
def State.storeView (s : State) : BootStage × Nat × Option BaseImage × Coherent :=
  (s.mgt.stage, s.mgt.baseSlot, s.nvm.base, s.coh)

/-- A state whose time base and ledger boot has started behind a checkpoint, or without one (R73, R213, R214). -/
structure LedgerStarted (k : Option Ckpt) (s t : State) : Prop where
  clock : t.tb.running = true
  time : t.tb.time = bootTime k * 65536
  running : t.ldg.running = true
  view : t.storeView = s.storeView
  newest : t.ldg.newestCkpt = s.ldg.newestCkpt
  prevNum : t.ldg.prevNum = k.elim 0 Ckpt.ream
  prevRoot : t.ldg.prevRoot = k.elim (zeros 32) Ckpt.root
  first : t.ldg.cur.map ReamSt.outset = some (k.elim 1 fun c => c.reserved + 1, bootTime k, false, k.isSome, k.isNone)

/-- The first Ream begins behind the checkpoint, and marks the boot or the genesis (R207, R213, R214). -/
theorem State.steady_firstReam (s : State) (k : Option Ckpt) (keyNew : Bool) (start : Stamp) :
    (s.firstReam k keyNew start).steady = (s.steadyBeyondLedger, true,
      some (k.elim 1 fun c => c.reserved + 1, start, false, k.isSome, k.isNone), k.elim 0 Ckpt.ream, k.elim (zeros 32) Ckpt.root,
      s.ldg.newestCkpt) := by
  unfold State.firstReam
  extract_lets n link root u v w
  have hu : u.steady = s.steady := by
    unfold u
    split
    exacts [s.steady_event _ _ _, rfl]
  have hv : v.steady = s.steady := (foldl_keeps State.steady _ (fun y p => y.steady_cableBoundary p n) _ u).trans hu
  have hbeyond : v.steadyBeyondLedger = s.steadyBeyondLedger := congrArg Prod.fst hv
  have hnewest : v.ldg.newestCkpt = s.ldg.newestCkpt := congrArg (fun x => x.2.2.2.2.2) hv
  clear_value v
  refine (State.steady_releaseBoundary _ _ _).trans ((State.steady_mergeBoundary _ _ _).trans ((State.steady_checkRefuse _).trans ?_))
  rw [← hbeyond, ← hnewest]
  cases k with
  | none => rfl
  | some c => rfl

theorem State.bootKey_keeps {β : Sort _} (obs : State → β)
    (h : ∀ (s : State) x0 x1 x2 x3 x4 x5 x6 x7 x8, obs { s with
      free := x0, evr := x1, out := x2, ctr := x3, ldg := { s.ldg with keys := x4, keySel := x5 }
      nvm := { s.nvm with writing := x6, nextSeq := x7, usedPages := x8 } } = obs s)
    (s : State) (keyOk : Bool) : obs (s.bootKey keyOk).2 = obs s := by
  have hldg : ∀ (u : State) x y, obs { u with ldg := { u.ldg with keys := x, keySel := y } } = obs u := fun u x y =>
    h u u.free u.evr u.out u.ctr x y u.nvm.writing u.nvm.nextSeq u.nvm.usedPages
  have hevent := State.event_keeps obs fun u x y z => h u u.free x y z u.ldg.keys u.ldg.keySel u.nvm.writing u.nvm.nextSeq u.nvm.usedPages
  have hnew := State.newKey_keeps obs fun u x => h u x u.evr u.out u.ctr u.ldg.keys u.ldg.keySel u.nvm.writing u.nvm.nextSeq u.nvm.usedPages
  have hjrn : ∀ (u : State) k w, obs (u.jrnStart k w) = obs u := fun u _ _ => h u u.free u.evr u.out u.ctr u.ldg.keys u.ldg.keySel _ _ _
  unfold State.bootKey
  extract_lets slot _ u had
  have hu : obs u = obs s := hldg s s.ldg.keys slot
  clear_value u
  split
  · exact hu
  · have hv := (hnew u slot).trans hu
    rcases hnewKey : u.newKey slot with ⟨k, v⟩
    rw [hnewKey] at hv
    dsimp only
    have hw := (hevent _ 0x3007 1 [.q slot, .w k.keyId]).trans ((hjrn _ (.ledgerKey slot k.keyId k.pub k.wrapped k.cert) .keySelect).trans
      ((hldg v (v.ldg.keys.set slot k) v.ldg.keySel).trans hv))
    split
    · exact (hevent _ _ _ _).trans hw
    · exact hw

/-- The time base and the ledger started behind a checkpoint, or without one. -/
def State.ledgerFrom (s : State) (k : Option Ckpt) (keyOk : Bool) : State :=
  ((s.startTime (bootTime k)).bootKey keyOk).2.firstReam k ((s.startTime (bootTime k)).bootKey keyOk).1 (bootTime k)

theorem State.ledgerStarted (s : State) (k : Option Ckpt) (keyOk : Bool) : LedgerStarted k s (s.ledgerFrom k keyOk) := by
  unfold State.ledgerFrom
  obtain ⟨u, hu⟩ : ∃ u, u = s.startTime (bootTime k) := ⟨_, rfl⟩
  have htb : u.tb.running = true ∧ u.tb.time = bootTime k * 65536 := by
    rw [hu]
    exact ⟨rfl, rfl⟩
  have hkept : u.storeView = s.storeView ∧ u.ldg.newestCkpt = s.ldg.newestCkpt := by
    rw [hu]
    exact ⟨rfl, rfl⟩
  rw [← hu]
  clear hu
  have hkey : ((u.bootKey keyOk).2.tb, (u.bootKey keyOk).2.storeView, (u.bootKey keyOk).2.ldg.newestCkpt) =
      (u.tb, u.storeView, u.ldg.newestCkpt) :=
    State.bootKey_keeps (fun w => (w.tb, w.storeView, w.ldg.newestCkpt)) (fun _ _ _ _ _ _ _ _ _ _ => rfl) u keyOk
  generalize (u.bootKey keyOk).1 = keyNew
  generalize (u.bootKey keyOk).2 = v at *
  obtain ⟨hvtb, hvview, hvnewest⟩ : v.tb = u.tb ∧ v.storeView = u.storeView ∧ v.ldg.newestCkpt = u.ldg.newestCkpt := by simpa using hkey
  have hsteady := v.steady_firstReam k keyNew (bootTime k)
  generalize v.firstReam k keyNew (bootTime k) = t at *
  have htbt : t.tb = v.tb := congrArg (fun x => x.1.1) hsteady
  have hview : t.storeView = v.storeView :=
    congrArg (fun x => (x.1.2.2.2.stage, x.1.2.2.2.baseSlot, x.1.2.2.1.base, x.1.2.1)) hsteady
  exact {
    clock := by rw [htbt, hvtb, htb.1]
    time := by rw [htbt, hvtb, htb.2]
    running := congrArg (fun x => x.2.1) hsteady
    view := hview.trans (hvview.trans hkept.1)
    newest := (congrArg (fun x => x.2.2.2.2.2) hsteady).trans (hvnewest.trans hkept.2)
    prevNum := congrArg (fun x => x.2.2.2.1) hsteady
    prevRoot := congrArg (fun x => x.2.2.2.2.1) hsteady
    first := congrArg (fun x => x.2.2.1) hsteady }

/-! ### Where the ledger starts from -/

section Start

variable {s : State} {rd : List Nat} (o0 o1 ok : Bool)

theorem State.startLedger_none (h : s.bootCkpt rd = none) : s.startLedger rd o0 o1 ok = (true, s.ledgerFrom none ok) := by
  unfold State.startLedger
  rw [h]
  rfl

theorem State.startLedger_held {k : Ckpt} {u : State} (h : s.bootCkpt rd = some k) (hheld : s.bootCheckpoint k o0 o1 = (true, u)) :
    s.startLedger rd o0 o1 ok = (true, u.ledgerFrom (some k) ok) := by
  unfold State.startLedger
  rw [h]
  exact congrArg (fun p : Bool × State => if !p.1 then (false, p.2) else (true, p.2.ledgerFrom (some k) ok)) hheld

theorem State.startLedger_unheld {k : Ckpt} {u : State} (h : s.bootCkpt rd = some k) (hheld : s.bootCheckpoint k o0 o1 = (false, u)) :
    s.startLedger rd o0 o1 ok = (false, u) := by
  unfold State.startLedger
  rw [h]
  exact congrArg (fun p : Bool × State => if !p.1 then (false, p.2) else (true, p.2.ledgerFrom (some k) ok)) hheld

end Start

/-! ### The boot checkpoint (R840) -/

/-- The state that has taken over a checkpoint. -/
def State.resumed (s : State) (k : Ckpt) : State := { s with ldg := { s.ldg with ckptSeq := k.seq + 1, newestCkpt := some k } }

/-- The boot checkpoint: the one that boot found, with the next number and 65,536 more Reams reserved. -/
def Ckpt.following (k : Ckpt) : Ckpt := { k with seq := k.seq + 1, reserved := k.reserved + 65536 }

theorem State.bootCheckpoint_eq (s : State) (k : Ckpt) (o0 o1 : Bool) : s.bootCheckpoint k o0 o1 =
    if ((s.resumed k).ckptDone k.following o0 o1).1 then (true, ((s.resumed k).ckptDone k.following o0 o1).2)
    else (false, ((s.resumed k).ckptDone k.following o0 o1).2.exhausted) := rfl

/-- A boot checkpoint that a device holds reserves the Reams to come. -/
theorem State.bootCheckpoint_held {s : State} {o0 o1 : Bool} (hheld : s.holding o0 o1 ≠ []) (k : Ckpt) :
    ∃ u, s.bootCheckpoint k o0 o1 = (true, u) ∧ u.ldg.newestCkpt = some k.following := by
  obtain ⟨hdone, hnewest⟩ := State.ckptDone_held (s := s.resumed k) hheld k.following
  exact ⟨_, (s.bootCheckpoint_eq k o0 o1).trans (if_pos hdone), hnewest⟩

theorem State.fatal_exhausted (s : State) : s.exhausted.evr.fatal = true := by
  unfold State.exhausted
  generalize s.event 0x3010 3 [.w (s.reservation.getD 0)] = u
  cases hfatal : u.evr.fatal with
  | false => exact (State.fatal_declares hfatal _).1
  | true => rw [State.fatal, if_pos hfatal, hfatal]

/-- Without a device that holds it the device is FATAL, and the time base stays as it was. -/
theorem State.bootCheckpoint_unheld {s : State} {o0 o1 : Bool} (hheld : s.holding o0 o1 = []) (k : Ckpt) :
    ∃ u, s.bootCheckpoint k o0 o1 = (false, u) ∧ u.evr.fatal = true ∧ u.tb = s.tb := by
  obtain ⟨hdone, -⟩ := State.ckptDone_unheld (s := s.resumed k) hheld k.following
  have heq := s.bootCheckpoint_eq k o0 o1
  rw [hdone] at heq
  refine ⟨_, heq, State.fatal_exhausted _, ?_⟩
  exact (State.exhausted_keeps State.tb (fun _ _ _ _ _ _ => rfl) _).trans
    (State.ckptTried_keeps State.tb (fun _ _ _ _ _ _ _ _ _ _ _ _ _ => rfl) (s.resumed k) k.following o0 o1)

end Sys2Proof.Machine
end

section
/-! PROOFS. STORE_REPLAY (R13, R443, R691 to R693, R703 to R707, R717). -/

namespace Sys2Proof.Machine

/-! ### The journal ring as it is read (R703 to R706) -/

theorem State.scanRing_keeps {β : Sort _} (obs : State → β)
    (h : ∀ (s : State) x0 x1 x2 x3 x4 x5 x6, obs { s with
      nvm := { s.nvm with nextSeq := x0, journal := x1, jrnPos := x2, lastReplayed := x3 }
      ldg := { s.ldg with keys := x4 }, coh := { s.coh with assigned := x5, hwm := x6 } } = obs s)
    (s : State) (sb : Superblock) (rd : List Nat) : obs (s.scanRing sb rd).2 = obs s := by
  unfold State.scanRing
  dsimp -zeta only
  extract_lets run good
  split
  exacts [h s _ _ _ _ _ _ _, h s _ _ _ _ _ _ _]

/-- Epochs go on behind the high-water mark, which the superblock's does not pass (R28, R700). -/
theorem State.epochs_scanRing (s : State) (sb : Superblock) (rd : List Nat) :
    (s.scanRing sb rd).2.coh.assigned = (s.scanRing sb rd).2.coh.hwm ∧ sb.epochHwm ≤ (s.scanRing sb rd).2.coh.hwm := by
  unfold State.scanRing
  dsimp -zeta only
  extract_lets run good
  split
  exacts [⟨rfl, le_max_left _ _⟩, ⟨rfl, le_max_left _ _⟩]

/-- Coherent state as a replay leaves it: no epoch is given out twice, and the one in effect is not beyond those given out. -/
structure EpochsReplayed (sb : Superblock) (c : Coherent) : Prop where
  assigned : c.assigned = c.hwm
  prevEpoch : c.prevEpoch = c.epoch
  epoch_le : c.epoch ≤ c.hwm
  hwm_le : sb.epochHwm ≤ c.hwm

/-- The checkpoints that both devices hold. -/
def State.ckpts (s : State) : List Bytes × List Bytes := (s.ldg.ckpt0, s.ldg.ckpt1)

theorem State.bootCkpt_of_ckpts {s t : State} (h : t.ckpts = s.ckpts) (rd : List Nat) : t.bootCkpt rd = s.bootCkpt rd := by
  have h0 : t.ldg.ckpt0 = s.ldg.ckpt0 := congrArg Prod.fst h
  have h1 : t.ldg.ckpt1 = s.ldg.ckpt1 := congrArg Prod.snd h
  unfold State.bootCkpt
  rw [h0, h1]

/-- Records ignored change counters and the recorder alone (R705). -/
theorem State.ignoreRecords_keeps {β : Sort _} (obs : State → β)
    (h : ∀ (s : State) x0 x1 x2, obs { s with evr := x0, out := x1, ctr := x2 } = obs s) (l : List JrnRec) (s : State) :
    obs (l.foldl (fun (u : State) r => u.ignoreRecord r) s) = obs s :=
  foldl_keeps obs _ (fun u _ => (State.event_keeps obs h _ _ _ _).trans (State.count1_keeps obs (fun v x => h v v.evr v.out x) u _)) l s

theorem State.replay_epochs (s : State) (sb : Superblock) (b : BaseImage) (rd : List Nat) :
    EpochsReplayed sb (s.replay sb b rd).2.coh ∧ (s.replay sb b rd).2.ckpts = s.ckpts := by
  have hscan : (s.scanRing sb rd).2.ckpts = s.ckpts := State.scanRing_keeps State.ckpts (fun _ _ _ _ _ _ _ _ => rfl) s sb rd
  have hepochs := s.epochs_scanRing sb rd
  unfold State.replay
  rcases hring : s.scanRing sb rd with ⟨run, u⟩
  rw [hring] at hscan hepochs
  dsimp -zeta only at *
  extract_lets v addr old keySel m hwm
  have hv : v.coh = u.coh ∧ v.ckpts = u.ckpts :=
    ⟨State.ignoreRecords_keeps State.coh (fun _ _ _ _ => rfl) _ u, State.ignoreRecords_keeps State.ckpts (fun _ _ _ _ => rfl) _ u⟩
  clear_value v m
  exact ⟨{
    assigned := rfl
    prevEpoch := rfl
    epoch_le := le_max_right _ _
    hwm_le := hepochs.2.trans (by rw [← hv.1]; exact le_max_left _ _) }, hv.2.trans hscan⟩

/-! ### The units configured -/

/-- What the configuration of the units leaves of boot and of the store: the stage, the base, the epochs, and the checkpoints. -/
def State.bootView (s : State) : (BootStage × Nat × Option BaseImage) × (Nat × Nat × Nat × Nat) × List Bytes × List Bytes :=
  ((s.mgt.stage, s.mgt.baseSlot, s.nvm.base), (s.coh.epoch, s.coh.prevEpoch, s.coh.assigned, s.coh.hwm), s.ckpts)

theorem State.bootView_loadReg (s : State) (e : Nat × Word) : (s.loadReg e).bootView = s.bootView := by
  unfold State.loadReg
  split
  · rfl
  · extract_lets _ u
    have hu : u.bootView = s.bootView := rfl
    clear_value u
    split
    · exact hu
    · split
      · exact hu
      · exact hu

theorem State.bootView_loadRegs (s : State) (l : List (Nat × Word)) : (s.loadRegs l).bootView = s.bootView :=
  (foldl_keeps State.bootView _ (fun u e => u.bootView_loadReg e) _ _).trans
    (foldl_keeps State.bootView _ (fun u e => u.bootView_loadReg e) _ s)

theorem State.bootView_loadBank (s : State) (slot : Nat) (i : BankImage) : (s.loadBank slot i).2.bootView = s.bootView := by
  have hbad : ∀ u : State, ((u.draw (2 ^ 32)).2.event 0xB003 3 [.q slot, .q (u.draw (2 ^ 32)).1]).bootView = u.bootView := fun u =>
    State.event_keeps State.bootView (fun _ _ _ _ => rfl) _ _ _ _
  unfold State.loadBank
  extract_lets bad
  split
  · exact hbad s
  · split
    · exact hbad s
    · extract_lets u
      have hu : u.bootView = s.bootView := rfl
      clear_value u
      split
      next t ht => exact (State.loadRows_keeps State.bootView (fun _ _ => rfl) _ ht).trans hu
      next => exact (hbad _).trans hu

theorem State.bootView_loadGroups (s : State) : s.loadGroups.bootView = s.bootView := by
  refine foldl_keeps State.bootView _ (fun u g => ?_) _ s
  extract_lets m r _ v
  have hv : v.bootView = u.bootView := by
    unfold v
    split
    exacts [rfl, rfl]
  clear_value v
  split
  exacts [hv, hv]

theorem State.bootView_bindMailboxes (s : State) (l : List MbxBind) : (s.bindMailboxes l).bootView = s.bootView := by
  refine foldl_keeps State.bootView _ (fun u b => ?_) _ s
  split
  exacts [rfl, rfl]

theorem State.bootView_frefs (s : State) : s.carryFrefs.assignFrefs.refreshSynce.bootView = s.bootView := by
  refine (State.refreshSynce_keeps State.bootView (fun _ _ _ => rfl) _).trans ?_
  refine foldl_keeps State.bootView _ (fun u n => ?_) _ s
  split
  exacts [rfl, rfl]

theorem State.bootView_configureFrom (s : State) (slot : Nat) (b : BaseImage) : (s.configureFrom slot b).bootView = s.bootView := by
  have hbank := ((s.loadRegs b.regs).bootView_loadBank slot b.bank).trans (s.bootView_loadRegs b.regs)
  unfold State.configureFrom
  rcases hload : (s.loadRegs b.regs).loadBank slot b.bank with ⟨held, u⟩
  rw [hload] at hbank
  dsimp -zeta only at *
  extract_lets own v w x
  have hv : v.bootView = u.bootView := by
    refine (State.bootView_bindMailboxes _ _).trans ((State.bootView_loadGroups _).trans ?_)
    split
    exacts [u.bootView_loadRegs own, rfl]
  have hw : w.bootView = v.bootView := by
    refine foldl_keeps State.bootView _ (fun _ _ => ?_) _ v
    rfl
  have hx : x.bootView = w.bootView := by
    refine foldl_keeps State.bootView _ (fun _ _ => ?_) _ w
    rfl
  clear_value v w x
  exact (State.bootView_frefs _).trans (hx.trans (hw.trans (hv.trans hbank)))

/-! ### Ports and traffic -/

theorem State.steady_startTraffic (s : State) : s.startTraffic.steady = s.steady :=
  (foldl_keeps State.steady (fun (u : State) n => u.modSlice n fun x => { x with polFrom := u.copyNow (n / 2) }) (fun _ _ => rfl) _ _).trans
    (foldl_keeps State.steady (fun (u : State) p => u.modTmPort p fun q => { q with oper := u.gateRegs p, from_ := u.now }) (fun _ _ => rfl) _ s)

theorem State.steady_modeRefused (s : State) (n : Nat) : (s.modeRefused n).steady = s.steady := by
  unfold State.modeRefused
  extract_lets x u v
  have hv : v.steady = s.steady := u.steady_moveUnit _ _ _ _ _
  exact (State.steady_serviceDone _ _ _).trans ((State.steady_event _ _ _ _).trans hv)

theorem State.steady_startPorts (s : State) : s.startPorts.steady = s.steady := by
  refine foldl_keeps State.steady _ (fun u p => ?_) _ s
  split
  · exact (State.startLink_keeps State.steady (fun _ _ _ => rfl) _ p).trans (u.steady_moveUnit _ _ _ _ _)
  · exact u.steady_modeRefused p

theorem State.base_reserveEpochs (s : State) : s.reserveEpochs.nvm.base = s.nvm.base := by
  unfold State.reserveEpochs
  extract_lets k
  split
  exacts [rfl, rfl]

/-- The units started, once time base and ledger run. -/
def State.unitsStarted (s : State) : State := (({ s with mgt := { s.mgt with stage := .units } }).startTraffic.startPorts).reserveEpochs

theorem State.unitsStarted_keeps (s : State) : s.unitsStarted.tb = s.tb ∧ s.unitsStarted.ldg.running = s.ldg.running ∧
    s.unitsStarted.storeView = (.units, s.mgt.baseSlot, s.nvm.base, s.coh) := by
  unfold State.unitsStarted
  obtain ⟨u, hu⟩ : ∃ u, u = ({ s with mgt := { s.mgt with stage := .units } } : State).startTraffic.startPorts := ⟨_, rfl⟩
  have hsteady : u.steady = ({ s with mgt := { s.mgt with stage := .units } } : State).steady := by
    rw [hu]
    exact (State.steady_startPorts _).trans (State.steady_startTraffic _)
  rw [← hu]
  clear hu
  have hbase := u.base_reserveEpochs
  have hkept : ∀ {β : Type} (obs : State → β), (∀ (v : State) x, obs { v with nvm := x } = obs v) → obs u.reserveEpochs = obs u :=
    fun obs hobs => State.reserveEpochs_keeps obs hobs u
  refine ⟨?_, ?_, ?_⟩
  · exact (hkept State.tb fun _ _ => rfl).trans (congrArg (fun x => x.1.1) hsteady)
  · exact (hkept (fun v => v.ldg.running) fun _ _ => rfl).trans (congrArg (fun x => x.2.1) hsteady)
  · have hmgt := hkept State.mgt fun _ _ => rfl
    have hcoh := hkept State.coh fun _ _ => rfl
    have hview : u.storeView = (.units, s.mgt.baseSlot, s.nvm.base, s.coh) :=
      congrArg (fun x => (x.1.2.2.2.stage, x.1.2.2.2.baseSlot, x.1.2.2.1.base, x.1.2.1)) hsteady
    rw [← hview, State.storeView, State.storeView, hmgt, hbase, hcoh]

/-! ### STORE_REPLAY -/

/-- The devices that a replay can read (R703). -/
def State.readableOf (s : State) (r0 r1 : Bool) : List Nat :=
  (if r0 = true then [0] else []) ++ (if r1 = true ∧ s.nvm.mirror = true then [1] else [])

/-- The ring read from the active superblock on, where there is one. -/
def State.scannedRing (s : State) (rd : List Nat) : State :=
  match s.nvm.active with
  | some b => (s.scanRing b rd).2
  | none => s

/-- The base slot that the active superblock names told as not valid (R692). -/
def State.baseRefused (s : State) : State :=
  (s.draw (2 ^ 32)).2.event 0xB003 3 [.q (match s.nvm.active with
    | some b => b.baseSlot
    | none => 0), .q (s.draw (2 ^ 32)).1]

/-- The state that has no valid base to boot from. -/
def State.withoutBase (s : State) : State := { s.baseRefused with mgt := { s.mgt with stage := .store } }

/-- The base and its records taken over, with the superblock that they stand under (R692, R703 to R707). -/
def State.withBase (s : State) (sb : Superblock) (b : BaseImage) : State :=
  { s with
    nvm := { s.nvm with active := some { sb with seq := s.sbSeq }, base := some b }
    mgt := { s.mgt with stage := .store, baseSlot := sb.baseSlot, baseOwner := b.ownerOk } }

/-- The units configured from a base, of the superblock that names it (R692, R693). -/
def State.configuredFrom (s : State) (sb : Superblock) (b : BaseImage) (rd : List Nat) : State :=
  ((s.replay sb b rd).2.withBase sb b).configureFrom sb.baseSlot (s.replay sb b rd).1

/-- The same, once the named one is told where it is another. -/
def State.storeLoaded (s : State) (sb : Superblock) (b : BaseImage) (rd : List Nat) : State :=
  (if s.nvm.active = some sb then s else s.baseRefused).configuredFrom sb b rd

theorem State.baseRefused_keeps {β : Sort _} (obs : State → β)
    (h : ∀ (s : State) x0 x1 x2 x3, obs { s with evr := x0, out := x1, ctr := x2, free := x3 } = obs s) (s : State) :
    obs s.baseRefused = obs s :=
  (State.event_keeps obs (fun u x y z => h u x y z u.free) _ _ _ _).trans (h s s.evr s.out s.ctr _)

theorem State.scannedRing_keeps {β : Sort _} (obs : State → β)
    (h : ∀ (s : State) x0 x1 x2 x3 x4 x5 x6, obs { s with
      nvm := { s.nvm with nextSeq := x0, journal := x1, jrnPos := x2, lastReplayed := x3 }
      ldg := { s.ldg with keys := x4 }, coh := { s.coh with assigned := x5, hwm := x6 } } = obs s)
    (s : State) (rd : List Nat) : obs (s.scannedRing rd) = obs s := by
  unfold State.scannedRing
  split
  · exact State.scanRing_keeps obs h s _ rd
  · rfl

/-- What a replay of the store takes over: the base, its slot, and the epochs. -/
theorem State.bootView_storeLoaded (s : State) (sb : Superblock) (b : BaseImage) (rd : List Nat) : ∃ c, EpochsReplayed sb c ∧
    (s.storeLoaded sb b rd).bootView = ((.store, sb.baseSlot, some b), (c.epoch, c.prevEpoch, c.assigned, c.hwm), s.ckpts) := by
  unfold State.storeLoaded
  have hckpts : (if s.nvm.active = some sb then s else s.baseRefused).ckpts = s.ckpts := by
    split
    exacts [rfl, State.baseRefused_keeps State.ckpts (fun _ _ _ _ _ => rfl) s]
  generalize (if s.nvm.active = some sb then s else s.baseRefused) = u at *
  obtain ⟨hepochs, hreplayed⟩ := u.replay_epochs sb b rd
  refine ⟨_, hepochs, (State.bootView_configureFrom _ _ _).trans ?_⟩
  rw [← hckpts, ← hreplayed]
  rfl

section Exec

variable {s : State} (h : Serving s) {r0 r1 : Bool} (o0 o1 ok : Bool)

include h

theorem exec_storeReplay_none (hnone : s.mgt.fwRuns = false ∨ s.tb.running = true) : exec (.storeReplay r0 r1 o0 o1 ok) s = .next s :=
  (whenWorking_of_serving h _).trans (if_pos (by simpa using hnone))

variable (hruns : s.mgt.fwRuns = true) (hstill : s.tb.running = false)

include hruns hstill

theorem exec_storeReplay_recovery (hstage : s.mgt.stage = .recovery) : exec (.storeReplay r0 r1 o0 o1 ok) s =
    .next ((s.scannedRing (s.readableOf r0 r1)).startLedger (s.readableOf r0 r1) o0 o1 ok).2 :=
  (whenWorking_of_serving h _).trans ((if_neg (by simp [hruns, hstill])).trans (if_pos hstage))

theorem exec_storeReplay_noBase (hstage : s.mgt.stage ≠ .recovery) (hbase : s.chooseBase = none) :
    exec (.storeReplay r0 r1 o0 o1 ok) s =
      .next ((s.withoutBase.scannedRing (s.readableOf r0 r1)).startLedger (s.readableOf r0 r1) o0 o1 ok).2 := by
  refine (whenWorking_of_serving h _).trans ((if_neg (by simp [hruns, hstill])).trans ((if_neg hstage).trans ?_))
  rw [hbase]
  rfl

theorem exec_storeReplay_base (hstage : s.mgt.stage ≠ .recovery) {sb : Superblock} {b : BaseImage} (hbase : s.chooseBase = some (sb, b))
    {u : State} (hledger : (s.storeLoaded sb b (s.readableOf r0 r1)).startLedger (s.readableOf r0 r1) o0 o1 ok = (true, u)) :
    exec (.storeReplay r0 r1 o0 o1 ok) s = .next u.unitsStarted := by
  refine (whenWorking_of_serving h _).trans ((if_neg (by simp [hruns, hstill])).trans ((if_neg hstage).trans ?_))
  rw [hbase]
  exact congrArg (fun p : Bool × State => (if !p.1 then .next p.2 else .next p.2.unitsStarted : Res)) hledger

end Exec

end Sys2Proof.Machine
end

section
/-! PROOFS. What boots from the store, and resets and boot as a whole (R212 to R214, R687 to R693, R793, R840). -/

namespace Sys2Proof.Machine

/-! ### What a started ledger shows -/

section Started

variable {k : Option Ckpt} {s t : State} (h : LedgerStarted k s t)

include h

theorem LedgerStarted.stage : t.mgt.stage = s.mgt.stage := congrArg (fun v => v.1) h.view

theorem LedgerStarted.baseSlot : t.mgt.baseSlot = s.mgt.baseSlot := congrArg (fun v => v.2.1) h.view

theorem LedgerStarted.base : t.nvm.base = s.nvm.base := congrArg (fun v => v.2.2.1) h.view

theorem LedgerStarted.coh : t.coh = s.coh := congrArg (fun v => v.2.2.2) h.view

theorem LedgerStarted.cur : ∃ c, t.ldg.cur = some c ∧ c.num = (k.elim 1 fun c => c.reserved + 1) ∧ c.start = bootTime k ∧
    c.boot = k.isSome ∧ c.genesis = k.isNone := by
  obtain ⟨c, hcur, hfields⟩ := Option.map_eq_some_iff.mp h.first
  obtain ⟨hnum, hstart, -, hboot, hgenesis⟩ : c.num = (k.elim 1 fun c => c.reserved + 1) ∧ c.start = bootTime k ∧ c.step = false ∧
    c.boot = k.isSome ∧ c.genesis = k.isNone := by simpa [ReamSt.outset] using hfields
  exact ⟨c, hcur, hnum, hstart, hboot, hgenesis⟩

end Started

theorem bootTime_none : bootTime none = 0 := rfl

section Genesis

variable {s t : State} (h : LedgerStarted none s t)

include h

theorem LedgerStarted.time_genesis : t.tb.time = 0 := by
  rw [h.time, bootTime_none]

/-- Without a checkpoint the first Ream is the genesis of the ledger. -/
theorem LedgerStarted.cur_genesis : ∃ c, t.ldg.cur = some c ∧ c.num = 1 ∧ c.genesis = true ∧ c.start = 0 := by
  obtain ⟨c, hcur, hnum, hstart, -, hgenesis⟩ := h.cur
  exact ⟨c, hcur, hnum, hgenesis, hstart⟩

end Genesis

/-! ### STORE_REPLAY without a checkpoint -/

section Replay

variable {s : State} (h : Serving s) {r0 r1 : Bool} (o0 o1 ok : Bool) (hruns : s.mgt.fwRuns = true) (hstill : s.tb.running = false)

include h hruns hstill

/-- In RECOVERY time base and ledger alone start. -/
theorem storeReplay_recovery (hstage : s.mgt.stage = .recovery) (hckpt : s.bootCkpt (s.readableOf r0 r1) = none) :
    ∃ t w, exec (.storeReplay r0 r1 o0 o1 ok) s = .next t ∧ LedgerStarted none w t ∧ w.mgt = s.mgt := by
  have hckpt' := (State.bootCkpt_of_ckpts (State.scannedRing_keeps State.ckpts (fun _ _ _ _ _ _ _ _ => rfl) s (s.readableOf r0 r1)) _).trans hckpt
  have hexec := exec_storeReplay_recovery (r0 := r0) (r1 := r1) h o0 o1 ok hruns hstill hstage
  rw [State.startLedger_none o0 o1 ok hckpt'] at hexec
  exact ⟨_, _, hexec, State.ledgerStarted _ none ok, State.scannedRing_keeps State.mgt (fun _ _ _ _ _ _ _ _ => rfl) s _⟩

/-- So they do where no base is valid. -/
theorem storeReplay_noBase (hstage : s.mgt.stage ≠ .recovery) (hbase : s.chooseBase = none)
    (hckpt : s.bootCkpt (s.readableOf r0 r1) = none) : ∃ t w, exec (.storeReplay r0 r1 o0 o1 ok) s = .next t ∧ LedgerStarted none w t ∧
      w.mgt.stage = .store ∧ w.nvm.base = s.nvm.base := by
  have hrefused : s.withoutBase.ckpts = s.ckpts := State.baseRefused_keeps State.ckpts (fun _ _ _ _ _ => rfl) s
  have hbase' : s.withoutBase.nvm.base = s.nvm.base := State.baseRefused_keeps (fun u => u.nvm.base) (fun _ _ _ _ _ => rfl) s
  have hscan := State.scannedRing_keeps State.ckpts (fun _ _ _ _ _ _ _ _ => rfl) s.withoutBase (s.readableOf r0 r1)
  have hexec := exec_storeReplay_noBase (r0 := r0) (r1 := r1) h o0 o1 ok hruns hstill hstage hbase
  rw [State.startLedger_none o0 o1 ok ((State.bootCkpt_of_ckpts (hscan.trans hrefused) _).trans hckpt)] at hexec
  refine ⟨_, _, hexec, State.ledgerStarted _ none ok, ?_, ?_⟩
  · exact State.scannedRing_keeps (fun u => u.mgt.stage) (fun _ _ _ _ _ _ _ _ => rfl) s.withoutBase _
  · exact (State.scannedRing_keeps (fun u => u.nvm.base) (fun _ _ _ _ _ _ _ _ => rfl) s.withoutBase _).trans hbase'

/-- From a valid base the units start too, with no epoch given out twice. -/
theorem storeReplay_base (hstage : s.mgt.stage ≠ .recovery) {sb : Superblock} {b : BaseImage} (hbase : s.chooseBase = some (sb, b))
    (hckpt : s.bootCkpt (s.readableOf r0 r1) = none) : ∃ t, exec (.storeReplay r0 r1 o0 o1 ok) s = .next t ∧
      (t.tb.running = true ∧ t.tb.time = 0 ∧ t.ldg.running = true) ∧
      t.mgt.stage = .units ∧ t.nvm.base = some b ∧ t.mgt.baseSlot = sb.baseSlot ∧ EpochsReplayed sb t.coh := by
  obtain ⟨c, hepochs, hview⟩ := s.bootView_storeLoaded sb b (s.readableOf r0 r1)
  have hckpts : (s.storeLoaded sb b (s.readableOf r0 r1)).ckpts = s.ckpts := congrArg (fun v => v.2.2) hview
  have hledger := State.startLedger_none o0 o1 ok ((State.bootCkpt_of_ckpts hckpts _).trans hckpt)
  have hexec := exec_storeReplay_base (r0 := r0) (r1 := r1) h o0 o1 ok hruns hstill hstage hbase hledger
  have hstarted := State.ledgerStarted (s.storeLoaded sb b (s.readableOf r0 r1)) none ok
  generalize s.storeLoaded sb b (s.readableOf r0 r1) = w at *
  generalize w.ledgerFrom none ok = u at *
  obtain ⟨htb, hrunning, hunits⟩ := u.unitsStarted_keeps
  have hcoh : u.unitsStarted.coh = w.coh := (congrArg (fun v => v.2.2.2) hunits).trans hstarted.coh
  have hreplayed : EpochsReplayed sb w.coh := by
    have hnumbers : (w.coh.epoch, w.coh.prevEpoch, w.coh.assigned, w.coh.hwm) = (c.epoch, c.prevEpoch, c.assigned, c.hwm) :=
      congrArg (fun v => v.2.1) hview
    obtain ⟨hepoch, hprev, hassigned, hhwm⟩ : w.coh.epoch = c.epoch ∧ w.coh.prevEpoch = c.prevEpoch ∧ w.coh.assigned = c.assigned ∧
      w.coh.hwm = c.hwm := by simpa using hnumbers
    obtain ⟨h1, h2, h3, h4⟩ := hepochs
    exact ⟨by omega, by omega, by omega, by omega⟩
  refine ⟨_, hexec, ⟨?_, ?_, ?_⟩, congrArg (fun v => v.1) hunits, ?_, ?_, ?_⟩
  · rw [htb, hstarted.clock]
  · rw [htb, hstarted.time_genesis]
  · rw [hrunning, hstarted.running]
  · exact (congrArg (fun v => v.2.2.1) hunits).trans (hstarted.base.trans (congrArg (fun v => v.1.2.2) hview))
  · exact (congrArg (fun v => v.2.1) hunits).trans (hstarted.baseSlot.trans (congrArg (fun v => v.1.2.1) hview))
  · rw [hcoh]
    exact hreplayed

/-- Without a checkpoint the time base starts at the epoch, and the ledger with its genesis (R73, R214). -/
theorem storeReplay_genesis (hckpt : s.bootCkpt (s.readableOf r0 r1) = none) : ∃ t, exec (.storeReplay r0 r1 o0 o1 ok) s = .next t ∧
    t.tb.running = true ∧ t.tb.time = 0 ∧ t.ldg.running = true ∧ (s.mgt.stage = .recovery → t.mgt.stage = .recovery) ∧
    (s.mgt.stage ≠ .recovery → s.chooseBase = none → t.mgt.stage = .store ∧ t.nvm.base = s.nvm.base) ∧
    (∀ sb b, s.mgt.stage ≠ .recovery → s.chooseBase = some (sb, b) → t.mgt.stage = .units ∧ t.nvm.base = some b ∧
      t.mgt.baseSlot = sb.baseSlot ∧ t.coh.assigned = t.coh.hwm ∧ t.coh.prevEpoch = t.coh.epoch ∧ t.coh.epoch ≤ t.coh.hwm ∧
      sb.epochHwm ≤ t.coh.hwm) ∧
    ((s.mgt.stage = .recovery ∨ s.chooseBase = none) → s.mrg = Deckle.init → s.rel = Release.init →
      ∃ c, t.ldg.cur = some c ∧ c.num = 1 ∧ c.genesis = true ∧ c.start = 0) := by
  by_cases hstage : s.mgt.stage = .recovery
  · obtain ⟨t, w, hexec, hstarted, hmgt⟩ := storeReplay_recovery h o0 o1 ok hruns hstill hstage hckpt
    refine ⟨t, hexec, hstarted.clock, hstarted.time_genesis, hstarted.running, fun _ => ?_, fun hne => absurd hstage hne,
      fun _ _ hne => absurd hstage hne, fun _ _ _ => hstarted.cur_genesis⟩
    rw [hstarted.stage, hmgt, hstage]
  · cases hbase : s.chooseBase with
    | none =>
      obtain ⟨t, w, hexec, hstarted, hstore, hkept⟩ := storeReplay_noBase h o0 o1 ok hruns hstill hstage hbase hckpt
      refine ⟨t, hexec, hstarted.clock, hstarted.time_genesis, hstarted.running, fun hrecovery => absurd hrecovery hstage, fun _ _ => ?_,
        fun _ _ _ hsome => (nomatch hsome), fun _ _ _ => hstarted.cur_genesis⟩
      exact ⟨hstarted.stage.trans hstore, hstarted.base.trans hkept⟩
    | some found =>
      obtain ⟨sb, b⟩ := found
      obtain ⟨t, hexec, ⟨hclock, htime, hledger⟩, hunits, hbase', hslot, hepochs⟩ :=
        storeReplay_base h o0 o1 ok hruns hstill hstage hbase hckpt
      refine ⟨t, hexec, hclock, htime, hledger, fun hrecovery => absurd hrecovery hstage, fun _ hnone => (nomatch hnone), ?_, ?_⟩
      · rintro sb' b' - hsame
        cases hsame
        exact ⟨hunits, hbase', hslot, hepochs.assigned, hepochs.prevEpoch, hepochs.epoch_le, hepochs.hwm_le⟩
      · rintro (hrecovery | hnone)
        · exact absurd hrecovery hstage
        · exact nomatch hnone

/-! ### STORE_REPLAY behind a checkpoint -/

section Checkpoint

variable (hstage : s.mgt.stage = .recovery) {k : Ckpt} (hckpt : s.bootCkpt (s.readableOf r0 r1) = some k)

include hstage hckpt

theorem storeReplay_unheld (hfail : o0 = false) (hmirror : s.nvm.mirror = false) :
    ∃ t, exec (.storeReplay r0 r1 o0 o1 ok) s = .next t ∧ t.evr.fatal = true ∧ t.tb.running = false := by
  have hexec := exec_storeReplay_recovery (r0 := r0) (r1 := r1) h o0 o1 ok hruns hstill hstage
  have hckpt' := (State.bootCkpt_of_ckpts (State.scannedRing_keeps State.ckpts (fun _ _ _ _ _ _ _ _ => rfl) s (s.readableOf r0 r1)) _).trans hckpt
  have hkept : ((s.scannedRing (s.readableOf r0 r1)).tb, (s.scannedRing (s.readableOf r0 r1)).nvm.mirror) = (s.tb, s.nvm.mirror) :=
    State.scannedRing_keeps (fun u => (u.tb, u.nvm.mirror)) (fun _ _ _ _ _ _ _ _ => rfl) s _
  generalize s.scannedRing (s.readableOf r0 r1) = w at *
  obtain ⟨htb, hmirror'⟩ : w.tb = s.tb ∧ w.nvm.mirror = s.nvm.mirror := by simpa using hkept
  have hheld : w.holding o0 o1 = [] := by
    have hall : ∀ d ∈ w.flashUp, okOf o0 o1 d = false := by
      intro d hd
      obtain ⟨hmem, -⟩ := List.mem_filter.mp hd
      rw [hmirror', hmirror] at hmem
      rw [List.mem_singleton.mp hmem]
      exact hfail
    exact List.filter_eq_nil_iff.mpr fun d hd => by simp [hall d hd]
  obtain ⟨u, hboot, hfatal, hsame⟩ := State.bootCheckpoint_unheld hheld k
  rw [State.startLedger_unheld o0 o1 ok hckpt' hboot] at hexec
  exact ⟨u, hexec, hfatal, by rw [hsame, htb, hstill]⟩

/-- Time and Ream number go on behind the checkpoint, once a device holds the boot checkpoint (R73, R213, R840). -/
theorem storeReplay_resumes (hup : s.up .flash 0 0 = true) (hdone : o0 = true) :
    ∃ t, exec (.storeReplay r0 r1 o0 o1 ok) s = .next t ∧ t.tb.running = true ∧
      t.tb.time = (k.stop + 2 * secStamp) * 65536 ∧ t.ldg.prevNum = k.ream ∧ t.ldg.prevRoot = k.root ∧
      (∃ n, t.ldg.newestCkpt = some n ∧ n.reserved = k.reserved + 65536 ∧ n.seq = k.seq + 1) ∧
      (s.mrg = Deckle.init → s.rel = Release.init → ∃ c, t.ldg.cur = some c ∧ c.num = k.reserved + 1 ∧ c.boot = true ∧
        c.genesis = false) := by
  have hexec := exec_storeReplay_recovery (r0 := r0) (r1 := r1) h o0 o1 ok hruns hstill hstage
  have hckpt' := (State.bootCkpt_of_ckpts (State.scannedRing_keeps State.ckpts (fun _ _ _ _ _ _ _ _ => rfl) s (s.readableOf r0 r1)) _).trans hckpt
  have hup' : (s.scannedRing (s.readableOf r0 r1)).up .flash 0 0 = true :=
    (State.scannedRing_keeps (fun u => u.up .flash 0 0) (fun _ _ _ _ _ _ _ _ => rfl) s _).trans hup
  generalize s.scannedRing (s.readableOf r0 r1) = w at *
  have hheld : w.holding o0 o1 ≠ [] := by
    have hflash : 0 ∈ w.flashUp := List.mem_filter.mpr ⟨by split <;> simp, hup'⟩
    exact List.ne_nil_of_mem (List.mem_filter.mpr ⟨hflash, hdone⟩)
  obtain ⟨u, hboot, hnewest⟩ := State.bootCheckpoint_held hheld k
  rw [State.startLedger_held o0 o1 ok hckpt' hboot] at hexec
  have hstarted := u.ledgerStarted (some k) ok
  obtain ⟨c, hcur, hnum, -, hboot', hgenesis⟩ := hstarted.cur
  exact ⟨_, hexec, hstarted.clock, hstarted.time, hstarted.prevNum, hstarted.prevRoot,
    ⟨k.following, hstarted.newest.trans hnewest, rfl, rfl⟩, fun _ _ => ⟨c, hcur, hnum, hboot', hgenesis⟩⟩

end Checkpoint

end Replay

/-- Settles O58: each reset and each step of boot by the lemma on it; what a replay configures is read off what the started ledger keeps of
the store. -/
theorem resetAndBoot : Obligations.ResetAndBoot := by
  unfold Obligations.ResetAndBoot
  refine ⟨powerOnReset_resets, ?_, ?_, ?_⟩
  · exact fun s w h => ⟨exec_pwronResetRelease_none w h, pwronResetRelease_straps w h⟩
  · intro s h
    refine ⟨exec_oscWaitElapsed_none h, exec_oscWaitElapsed h, fun w => ⟨exec_warmResetRequest_none h, exec_warmResetRequest_unkeyed h,
      exec_warmResetRequest h, exec_warmResetRequest_waiting h⟩, exec_warmReset_none h, fun t0 hwarm => ⟨exec_warmReset_early h hwarm, warmReset_restarts h hwarm⟩⟩
  · intro s h
    refine ⟨fun a b x y => ⟨exec_firmwareStart_none h a b x y, fun hosc hrom => ⟨?_, ?_, ?_, firmwareStart_recovers h a b x y hosc hrom⟩⟩, ?_,
      exec_bootServiceReached_none h, bootServiceReached_serves h⟩
    · exact fun f h0 h1 hempty hf hvalid => firmwareStart_first h a b x y hosc hrom h0 h1 hempty hf hvalid
    · exact fun f h0 h1 hempty hmirror hnone hf hvalid => firmwareStart_mirror h a b x y hosc hrom h0 h1 hempty hmirror hnone hf hvalid
    · exact fun f h0 h1 hempty ha hf hvalid => firmwareStart_second h a b x y hosc hrom h0 h1 hempty ha hf hvalid
    · refine fun r0 r1 o0 o1 ok => ⟨exec_storeReplay_none h o0 o1 ok, fun hruns hstill => ⟨?_, ?_⟩⟩
      · rintro rd rfl hckpt
        exact storeReplay_genesis h o0 o1 ok hruns hstill hckpt
      · rintro rd k rfl hstage hckpt hup
        exact ⟨storeReplay_resumes h o0 o1 ok hruns hstill hstage hckpt hup, storeReplay_unheld h o0 o1 ok hruns hstill hstage hckpt⟩

end Sys2Proof.Machine
end

section
/-! PROOFS. RELEASE_HANDOFF (R298, R299, R331): a copy in holding before its hand-off time, at it, and on a port that takes none. -/

namespace Sys2Proof.Machine

/-! ### A copy taken out of its queue -/

/-- The queue that a copy leaves keeps the other copies (R505). -/
theorem State.queue_unqueue_self (s : State) (c : Copy) (hwf : s.tm.queues.wf = true) :
    (s.unqueue c).queue c.queue = (s.queue c.queue).filter (·.id ≠ c.id) := by
  unfold State.unqueue State.queue
  dsimp only
  split
  · next hempty => simpa [Table.getD, Table.get?_erase_self _ _ hwf] using hempty
  · exact Table.getD_set_self _ _ _ _

/-- Every other queue stays as it is. -/
theorem State.queue_unqueue_ne (s : State) (c : Copy) {q : Nat} (hq : q ≠ c.queue) : (s.unqueue c).queue q = s.queue q := by
  unfold State.unqueue State.queue
  dsimp only
  split
  · simp only [Table.getD, Table.get?_erase_ne _ hq]
  · exact Table.getD_set_ne _ hq _ _

/-! ### A copy handed off to its port -/

/-- Handing a copy off changes the traffic manager alone. -/
theorem State.toLaunch_tm (s : State) (c : Copy) (onTime : Bool) : s.toLaunch c onTime = { s with tm := (s.toLaunch c onTime).tm } := rfl

/-- A copy that is handed off on time stands behind those handed to its port before it. -/
theorem State.queue_toLaunch_handed (s : State) (c : Copy) (hq : c.queue ≠ qHanded c.port) :
    (s.toLaunch c true).queue (qHanded c.port) = s.queue (qHanded c.port) ++
      [{ c with queue := qHanded c.port, aligned := true, late := false, handed := s.liveMark }] := by
  have hbefore := s.queue_unqueue_ne c (Ne.symm hq)
  simp only [State.toLaunch, if_neg hq, Bool.or_true, Bool.not_true, hbefore]
  exact Table.getD_set_self _ _ _ _

/-- Handing a copy off takes it out of the queue that held it. -/
theorem State.queue_toLaunch_left (s : State) (c : Copy) (onTime : Bool) (hq : c.queue ≠ qHanded c.port) (hwf : s.tm.queues.wf = true) :
    (s.toLaunch c onTime).queue c.queue = (s.queue c.queue).filter (·.id ≠ c.id) :=
  (Table.getD_set_ne _ hq _ _).trans (s.queue_unqueue_self c hwf)

/-! ### The command -/

/-- The copy that a port holds first is one of its own. -/
theorem State.port_of_firstHeld {s : State} {p : Nat} {c : Copy} (h : s.firstHeld p = some c) : c.port = p := by
  suffices hall : ∀ b ∈ s.firstHeld p, b.port = p from hall c h
  refine List.foldlRecOn (motive := fun o : Option Copy => ∀ b ∈ o, b.port = p) _ _ nofun ?_
  intro first hfirst x hx
  have hport : ∀ b ∈ some x, b.port = p := by simpa using (List.mem_filter.mp hx).2
  cases first with
  | none => exact hport
  | some b =>
    dsimp only
    split
    · exact hport
    · exact hfirst

/-- A copy on an aligned member of its group, which is the group as it was at admission, takes part in the slots (R299). -/
theorem State.onSlots_of_aligned {s : State} {c : Copy} (halive : (s.relGroup (s.groupOf c)).alive = true)
    (hgen : (s.relGroup (s.groupOf c)).gen = c.relGen) (hmember : s.rel.member.get? c.port = some (s.groupOf c))
    (halign : s.rel.align.getD c.port 0 = 1) : s.onSlots c = true :=
  (if_pos ⟨halive, hgen⟩).trans (decide_eq_true ⟨hmember, halign⟩)

section Handoff

variable {s : State} {p : Nat} {c : Copy} (h : Serving s) (hfirst : s.firstHeld p = some c)
include h hfirst

/-- The first held copy waits for its hand-off time (R298). -/
theorem exec_releaseHandoff_early (hearly : s.now < s.handoffAt c) : exec (.releaseHandoff p) s = .next s := by
  refine (whenWorking_of_serving h _).trans ?_
  rw [hfirst]
  exact if_pos hearly

variable (hdue : s.handoffAt c ≤ s.now)
include hdue

/-- A copy that is due is discarded with a port that takes none (R331). -/
theorem exec_releaseHandoff_cut (hcut : s.portTakes p = false) : exec (.releaseHandoff p) s = .next (s.dropAtPort c) := by
  refine (whenWorking_of_serving h _).trans ?_
  rw [hfirst]
  exact (if_neg (Nat.not_lt.mpr hdue)).trans (if_pos (by rw [hcut]; rfl))

/-- A copy that is due and not late, in no paused class, with its slot free, goes to its port on time (R298, R299). -/
theorem exec_releaseHandoff_onTime (htakes : s.portTakes p = true) (hlate : c.late = false) (hpaused : s.classPaused p c.cls = false)
    (hfree : ∀ x ∈ s.slotsOf p, ¬(x.relTime = c.relTime ∧ x.id < c.id)) (hslots : s.onSlots c = true) :
    exec (.releaseHandoff p) s = .next (s.toLaunch c true) := by
  have htaken : ((s.slotsOf p).any fun x => decide (x.relTime = c.relTime ∧ x.id < c.id)) = false :=
    List.any_eq_false.mpr fun x hx => by simpa using hfree x hx
  refine (whenWorking_of_serving h _).trans ?_
  rw [hfirst]
  refine (if_neg (Nat.not_lt.mpr hdue)).trans ((if_neg (by simp [htakes])).trans (if_neg ?_))
  rw [hlate, hpaused, htaken, hslots]
  decide

end Handoff

/-- Settles O24: the copy is the port's own, so it stands among the handed-off copies of that port once it is launched. -/
theorem handOffAtItsTime : Obligations.HandOffAtItsTime := by
  unfold Obligations.HandOffAtItsTime
  intro s p c h hfirst
  refine ⟨exec_releaseHandoff_early h hfirst, exec_releaseHandoff_cut h hfirst, ?_⟩
  intro hdue htakes hlate hpaused hfree halive hgen hmember halign hqueue hwf
  obtain rfl := State.port_of_firstHeld hfirst
  have hslots := State.onSlots_of_aligned halive hgen hmember halign
  have hapart : c.queue ≠ qHanded c.port := by simp only [hqueue, qRelease, qHanded]; omega
  refine ⟨_, exec_releaseHandoff_onTime h hfirst hdue htakes hlate hpaused hfree hslots, s.toLaunch_tm c true, ?handed, ?left⟩
  case handed => rw [s.queue_toLaunch_handed c hapart, ← hlate]
  case left => rw [← hqueue, s.queue_toLaunch_left c true hapart hwf]

end Sys2Proof.Machine
end

section
/-! PROOFS. Merge and release group commands (R304 to R310): refused at once, waiting for their Ream boundary, or staged. -/

namespace Sys2Proof.Machine

/-! ### Words staged one after another -/

@[simp] theorem State.shadow_stageWord_self (s : State) (a v : Nat) : (s.stageWord a v).regs.shadow.get? a = some (BitVec.ofNat 32 v) :=
  Table.get?_set_self _ _ _

theorem State.shadow_stageWord_ne (s : State) {a k : Nat} (h : k ≠ a) (v : Nat) :
    (s.stageWord a v).regs.shadow.get? k = s.regs.shadow.get? k :=
  Table.get?_set_ne _ h _

/-- The words that a group's STAGE command writes: two registers of its own, then the words of its member set (R306). -/
def State.stageGroup (s : State) (a v a' v' : Nat) (member : Nat → Nat) (ps : List Nat) : State :=
  (List.range 3).foldl (fun u w => u.stageWord (member w) (memberWord ps w)) ((s.stageWord a v).stageWord a' v')

/-- Staging a group writes staged values only. -/
theorem State.stageGroup_regs (s : State) (a v a' v' : Nat) (member : Nat → Nat) (ps : List Nat) : s.stageGroup a v a' v' member ps =
    { s with regs := { s.regs with shadow := (s.stageGroup a v a' v' member ps).regs.shadow } } := by
  refine List.foldlRecOn (motive := fun u : State => u = { s with regs := { s.regs with shadow := u.regs.shadow } }) _ _ rfl ?_
  intro u hu w _
  rw [hu]
  rfl

/-- A register apart from the member set keeps what was staged in it before the members were. -/
theorem State.shadow_stageGroup {s : State} {a v a' v' k : Nat} {member : Nat → Nat} (ps : List Nat) (hk : ∀ w < 3, k ≠ member w) :
    (s.stageGroup a v a' v' member ps).regs.shadow.get? k = ((s.stageWord a v).stageWord a' v').regs.shadow.get? k := by
  refine List.foldlRecOn (motive := fun u : State => u.regs.shadow.get? k = _) _ _ rfl fun u hu w hw => ?_
  exact (u.shadow_stageWord_ne (hk w (List.mem_range.mp hw)) _).trans hu

theorem State.shadow_stageGroup_first (s : State) {a a' : Nat} (v v' : Nat) {member : Nat → Nat} (ps : List Nat) (hne : a ≠ a')
    (ha : ∀ w < 3, a ≠ member w) : (s.stageGroup a v a' v' member ps).regs.shadow.get? a = some (BitVec.ofNat 32 v) :=
  (State.shadow_stageGroup ps ha).trans ((State.shadow_stageWord_ne _ hne _).trans (s.shadow_stageWord_self a v))

theorem State.shadow_stageGroup_second (s : State) (a v : Nat) {a' : Nat} (v' : Nat) {member : Nat → Nat} (ps : List Nat)
    (ha : ∀ w < 3, a' ≠ member w) : (s.stageGroup a v a' v' member ps).regs.shadow.get? a' = some (BitVec.ofNat 32 v') :=
  (State.shadow_stageGroup ps ha).trans (State.shadow_stageWord_self _ a' v')

/-! The registers of one group lie apart. -/

theorem Reg.mrgWindow_ne_mrgMaxHeld (g : Nat) : Reg.mrgWindow g ≠ Reg.mrgMaxHeld g := by
  simp only [Reg.mrgWindow, Reg.mrgMaxHeld]; omega

theorem Reg.mrgWindow_ne_mrgMembers (g w : Nat) : Reg.mrgWindow g ≠ Reg.mrgMembers g w := by
  simp only [Reg.mrgWindow, Reg.mrgMembers]; omega

/-- The member words end before the limit on held descriptors. -/
theorem Reg.mrgMaxHeld_ne_mrgMembers (g : Nat) {w : Nat} (hw : w < 3) : Reg.mrgMaxHeld g ≠ Reg.mrgMembers g w := by
  simp only [Reg.mrgMaxHeld, Reg.mrgMembers]; omega

theorem Reg.relHorizon_ne_relMembers (g w : Nat) : Reg.relHorizon g ≠ Reg.relMembers g w := by
  simp only [Reg.relHorizon, Reg.relMembers]; omega

/-! ### What the start of a command leaves of the groups -/

@[simp] theorem State.merge_adminOpen (s : State) (r : AdminRef) (g : Nat) : (s.adminOpen r).merge g = s.merge g :=
  s.adminOpen_keeps (State.merge · g) (fun _ _ _ _ => rfl) r

@[simp] theorem State.relGroup_adminOpen (s : State) (r : AdminRef) (g : Nat) : (s.adminOpen r).relGroup g = s.relGroup g :=
  s.adminOpen_keeps (State.relGroup · g) (fun _ _ _ _ => rfl) r

@[simp] theorem State.mergeFieldsOk_adminOpen (s : State) (r : AdminRef) (a : MergeArgs) :
    (s.adminOpen r).mergeFieldsOk a = s.mergeFieldsOk a :=
  s.adminOpen_keeps (State.mergeFieldsOk · a) (fun _ _ _ _ => rfl) r

@[simp] theorem State.releaseFieldsOk_adminOpen (s : State) (r : AdminRef) (a : ReleaseArgs) :
    (s.adminOpen r).releaseFieldsOk a = s.releaseFieldsOk a :=
  s.adminOpen_keeps (State.releaseFieldsOk · a) (fun _ _ _ _ => rfl) r

/-- The operation that a group command leaves to its Ream boundary, at least 2 µs away (R305). -/
def State.groupWait (s : State) (r : AdminRef) (op : GroupOp) (g : Nat) (m : Option MergeArgs) (l : Option ReleaseArgs) : GroupWait :=
  { token := s.token r, op, merge := m, release := l, group := g, at_ := s.now + 2 * usStamp, applied := false, applyReam := 0 }

@[simp] theorem State.waitFor_adminOpen (s : State) (r : AdminRef) (op : GroupOp) (g : Nat) (m : Option MergeArgs)
    (l : Option ReleaseArgs) : (s.adminOpen r).waitFor r op g m l = s.groupWait r op g m l := by
  simp only [State.waitFor, State.now_adminOpen]
  rfl

/-! ### Merge groups (R304 to R308) -/

/-- The meanings of the merge group commands. -/
theorem exec_mergeCreate (r : AdminRef) (a : MergeArgs) (s : State) : exec (.mergeCreate r a) s = execMergeCreate r a s := rfl

theorem exec_mergeDestroy (r : AdminRef) (g : Nat) (s : State) : exec (.mergeDestroy r g) s = execMergeDestroy r g s := rfl

theorem exec_mergeRedirect (r : AdminRef) (g kind dest : Nat) (s : State) :
    exec (.mergeRedirect r g kind dest) s = execMergeRedirect r g kind dest s := rfl

theorem exec_mergeStage (r : AdminRef) (a : MergeArgs) (s : State) : exec (.mergeStage r a) s = execMergeStage r a s := rfl

/-- A merge group command that has started and waits: the group itself is as it was. -/
def State.mergeWaits (s : State) (r : AdminRef) (w : GroupWait) : State :=
  { s.adminOpen r with mrg := { s.mrg with waits := s.mrg.waits ++ [w] } }

section Merge

variable {s : State} {r : AdminRef} (h : PfStarts r s)
include h

section Create

variable {a : MergeArgs} (hgroup : a.group < 16) (hfields : s.mergeFieldsOk a = true) (hdest : destOk a.destKind a.dest = true)
include hgroup hfields hdest

theorem exec_mergeCreate_exists (hlive : groupLive s.mrg.waits a.group (s.merge a.group).alive = true) :
    exec (.mergeCreate r a) s = ends s r (s.adminOpen r) stExists [] :=
  (exec_mergeCreate ..).trans <| runAdmin_completes_pf h <| by simp [hgroup, hfields, hdest, hlive, failWith]

theorem exec_mergeCreate_waits (hlive : groupLive s.mrg.waits a.group (s.merge a.group).alive = false) :
    exec (.mergeCreate r a) s = .next (s.mergeWaits r (s.groupWait r .create a.group (some a) none)) :=
  (exec_mergeCreate ..).trans <| runAdmin_waits_pf h <| by simp [hgroup, hfields, hdest, hlive, State.mergeWaits]

end Create

section NotThere

variable {g : Nat} (hgroup : g < 16) (hlive : groupLive s.mrg.waits g (s.merge g).alive = false)
include hgroup hlive

theorem exec_mergeDestroy_notFound : exec (.mergeDestroy r g) s = ends s r (s.adminOpen r) stNotFound [] :=
  (exec_mergeDestroy ..).trans <| runAdmin_completes_pf h <| by simp [hgroup, hlive, failWith]

theorem exec_mergeRedirect_notFound {kind dest : Nat} (hdest : destOk kind dest = true) :
    exec (.mergeRedirect r g kind dest) s = ends s r (s.adminOpen r) stNotFound [] :=
  (exec_mergeRedirect ..).trans <| runAdmin_completes_pf h <| by simp [hgroup, hdest, hlive, failWith]

end NotThere

section There

variable {g : Nat} (hgroup : g < 16) (hlive : groupLive s.mrg.waits g (s.merge g).alive = true)
include hgroup hlive

theorem exec_mergeDestroy_waits :
    exec (.mergeDestroy r g) s = .next (s.mergeWaits r (s.groupWait r .destroy g none none)) :=
  (exec_mergeDestroy ..).trans <| runAdmin_waits_pf h <| by simp [hgroup, hlive, State.mergeWaits]

theorem exec_mergeRedirect_waits {kind dest : Nat} (hdest : destOk kind dest = true) :
    exec (.mergeRedirect r g kind dest) s = .next (s.mergeWaits r (s.groupWait r .redirect g
      (some { group := g, destKind := kind, dest, windowNs := 0, maxHeld := 0, members := [] }) none)) :=
  (exec_mergeRedirect ..).trans <| runAdmin_waits_pf h <| by simp [hgroup, hdest, hlive, State.mergeWaits]

end There

/-- STAGE of a merge group that is there (R306, R308). -/
theorem exec_mergeStage_stages {a : MergeArgs} (hgroup : a.group < 16) (hfields : s.mergeFieldsOk a = true)
    (hlive : groupLive s.mrg.waits a.group (s.merge a.group).alive = true) : exec (.mergeStage r a) s =
      ends s r ((s.adminOpen r).stageGroup (Reg.mrgWindow a.group) a.windowNs (Reg.mrgMaxHeld a.group) a.maxHeld (Reg.mrgMembers a.group)
        a.members) stSuccess [(48, le 8 0)] :=
  (exec_mergeStage ..).trans <| runAdmin_completes_pf h <| by simp [hgroup, hfields, hlive, State.stageGroup]

end Merge

/-! ### Release groups (R306, R309, R310) -/

/-- The meanings of the release group commands. -/
theorem exec_releaseCreate (r : AdminRef) (a : ReleaseArgs) (s : State) : exec (.releaseCreate r a) s = execReleaseCreate r a s := rfl

theorem exec_releaseDestroy (r : AdminRef) (g : Nat) (s : State) : exec (.releaseDestroy r g) s = execReleaseDestroy r g s := rfl

theorem exec_releaseStage (r : AdminRef) (a : ReleaseArgs) (s : State) : exec (.releaseStage r a) s = execReleaseStage r a s := rfl

/-- A release group command that has started and waits: the group itself is as it was. -/
def State.releaseWaits (s : State) (r : AdminRef) (w : GroupWait) : State :=
  { s.adminOpen r with rel := { s.rel with waits := s.rel.waits ++ [w] } }

theorem State.group_lt_of_releaseFieldsOk {s : State} {a : ReleaseArgs} (hfields : s.releaseFieldsOk a = true) : a.group < 16 := by
  simp only [State.releaseFieldsOk, Bool.and_eq_true, decide_eq_true_eq] at hfields
  obtain ⟨⟨⟨hgroup, -⟩, -⟩, -⟩ := hfields
  exact hgroup

section Release

variable {s : State} {r : AdminRef} {a : ReleaseArgs} (h : PfStarts r s) (hfields : s.releaseFieldsOk a = true)
include h hfields

section NotThere

variable (hlive : groupLive s.rel.waits a.group (s.relGroup a.group).alive = false)
include hlive

theorem exec_releaseDestroy_notFound : exec (.releaseDestroy r a.group) s = ends s r (s.adminOpen r) stNotFound [] :=
  (exec_releaseDestroy ..).trans <| runAdmin_completes_pf h <| by
    simp [State.group_lt_of_releaseFieldsOk hfields, hlive, failWith]

theorem exec_releaseStage_notFound : exec (.releaseStage r a) s = ends s r (s.adminOpen r) stNotFound [] :=
  (exec_releaseStage ..).trans <| runAdmin_completes_pf h <| by simp [hfields, hlive, failWith]

theorem exec_releaseCreate_waits (hspeed : a.speed ≤ 7) (hfec : a.fec ≤ 2) :
    exec (.releaseCreate r a) s = .next (s.releaseWaits r (s.groupWait r .create a.group none (some a))) :=
  (exec_releaseCreate ..).trans <| runAdmin_waits_pf h <| by simp [hfields, hspeed, hfec, hlive, State.releaseWaits]

end NotThere

section There

variable (hlive : groupLive s.rel.waits a.group (s.relGroup a.group).alive = true)
include hlive

theorem exec_releaseCreate_exists (hspeed : a.speed ≤ 7) (hfec : a.fec ≤ 2) :
    exec (.releaseCreate r a) s = ends s r (s.adminOpen r) stExists [] :=
  (exec_releaseCreate ..).trans <| runAdmin_completes_pf h <| by simp [hfields, hspeed, hfec, hlive, failWith]

theorem exec_releaseDestroy_waits :
    exec (.releaseDestroy r a.group) s = .next (s.releaseWaits r (s.groupWait r .destroy a.group none none)) :=
  (exec_releaseDestroy ..).trans <| runAdmin_waits_pf h <| by
    simp [State.group_lt_of_releaseFieldsOk hfields, hlive, State.releaseWaits]

/-- STAGE of a release group that is there (R306, R309). -/
theorem exec_releaseStage_stages : exec (.releaseStage r a) s = ends s r ((s.adminOpen r).stageGroup (Reg.relGroupCfg a.group)
      (2 * a.latePolicy) (Reg.relHorizon a.group) a.horizonUs (Reg.relMembers a.group) a.members) stSuccess [(48, le 8 0)] :=
  (exec_releaseStage ..).trans <| runAdmin_completes_pf h <| by simp [hfields, hlive, State.stageGroup]

end There

end Release

/-! ### All group commands -/

/-- Staging a group on an opened state writes staged values only. -/
theorem State.stageGroup_adminOpen (s : State) (r : AdminRef) (a v a' v' : Nat) (member : Nat → Nat) (ps : List Nat) :
    (s.adminOpen r).stageGroup a v a' v' member ps = { s.adminOpen r with
      regs := { s.regs with shadow := ((s.adminOpen r).stageGroup a v a' v' member ps).regs.shadow } } := by
  have hregs : (s.adminOpen r).regs = s.regs := by simp
  rw [← hregs]
  exact State.stageGroup_regs _ _ _ _ _ _ _

/-- Settles O28: a command that waits leaves one operation behind; one that stages leaves the words of its group, whose registers lie
apart. -/
theorem groupCommands : Obligations.GroupCommands := by
  unfold Obligations.GroupCommands
  intro s r h
  refine ⟨fun a hgroup => ⟨?create, ?mergeNotThere, ?mergeThere⟩, fun a hfields => ⟨?releaseNotThere, ?releaseThere⟩⟩
  case create =>
    exact fun hfields hdest => ⟨exec_mergeCreate_exists h hgroup hfields hdest, exec_mergeCreate_waits h hgroup hfields hdest⟩
  case mergeNotThere =>
    exact fun hlive => ⟨exec_mergeDestroy_notFound h hgroup hlive, exec_mergeRedirect_notFound h hgroup hlive⟩
  case mergeThere =>
    refine fun hlive => ⟨⟨_, exec_mergeDestroy_waits h hgroup hlive, rfl, rfl, rfl, rfl⟩,
      fun hdest => ⟨_, _, exec_mergeRedirect_waits h hgroup hlive hdest, rfl, rfl, rfl, rfl, rfl, rfl⟩,
      fun hfields => ⟨_, exec_mergeStage_stages h hgroup hfields hlive, State.stageGroup_adminOpen .., ?window, ?maxHeld⟩⟩
    case window =>
      exact State.shadow_stageGroup_first _ _ _ _ (Reg.mrgWindow_ne_mrgMaxHeld _) fun w _ => Reg.mrgWindow_ne_mrgMembers _ w
    case maxHeld => exact State.shadow_stageGroup_second _ _ _ _ _ fun _ hw => Reg.mrgMaxHeld_ne_mrgMembers _ hw
  case releaseNotThere =>
    exact fun hlive => ⟨exec_releaseDestroy_notFound h hfields hlive, exec_releaseStage_notFound h hfields hlive,
      fun hspeed hfec => ⟨_, exec_releaseCreate_waits h hfields hlive hspeed hfec, rfl, rfl, rfl, rfl⟩⟩
  case releaseThere =>
    exact fun hlive => ⟨exec_releaseCreate_exists h hfields hlive,
      ⟨_, exec_releaseDestroy_waits h hfields hlive, rfl, rfl, rfl, rfl⟩,
      _, exec_releaseStage_stages h hfields hlive, State.stageGroup_adminOpen ..,
      State.shadow_stageGroup_second _ _ _ _ _ fun w _ => Reg.relHorizon_ne_relMembers _ w⟩

end Sys2Proof.Machine
end

section
/-! PROOFS. What leaves every service state alone: the loss of a port's link, the emission of descriptors, the Deckle as its sides change, and
headers and items that move on. -/

namespace Sys2Proof.Machine

/-! ### Ports that drain or go off (R320, R331) -/

@[simp] theorem State.svc_flushPort (s : State) (p : Nat) (keepTx : Bool) : (s.flushPort p keepTx).svc = s.svc :=
  State.flushPort_keeps_link State.svc (fun _ _ _ _ _ _ _ _ _ => rfl) (fun _ _ _ _ => rfl) s p keepTx

theorem State.svc_takeLinkDown (s : State) (p locks signal cdr : Nat) (fault : Bool) :
    (s.takeLinkDown p locks signal cdr fault).svc = s.svc := by
  unfold State.takeLinkDown
  rw [State.refreshSynce_keeps State.svc (fun _ _ _ => rfl),
    State.settleSa_keeps_link State.svc (fun _ _ _ _ _ _ _ _ _ => rfl) (fun _ _ _ _ => rfl),
    State.startFlush_keeps_link State.svc (fun _ _ _ _ _ _ _ _ _ => rfl) (fun _ _ _ _ => rfl), State.svc_flushPort,
    State.event_keeps State.svc (fun _ _ _ _ => rfl), State.count1_keeps State.svc (fun _ _ => rfl),
    State.setLanes_keeps State.svc (fun _ _ _ => rfl)]
  rfl

@[simp] theorem State.svc_portOff (s : State) (p : Nat) : (s.portOff p).svc = s.svc := by
  unfold State.portOff
  extract_lets u
  have hu : u.svc = s.svc := by
    unfold u
    split
    exacts [s.svc_takeLinkDown _ _ _ _ _, rfl]
  exact (State.setLanes_keeps State.svc (fun _ _ _ => rfl) u _ _ _ _ _).trans hu

/-! ### Emission (R281, R282) -/

theorem State.svc_dropAtPort (s : State) (c : Copy) : (s.dropAtPort c).svc = s.svc := by simp [State.dropAtPort]

theorem State.svc_discardHost (s : State) (c : Copy) : (s.discardHost c).svc = s.svc := by
  unfold State.discardHost
  split
  · simp [State.discardStale]
  · simp

theorem State.svc_verdictCounted (s : State) (m : MergeSt) (c : Copy) : (s.verdictCounted m c).svc = s.svc := by
  unfold State.verdictCounted
  split
  next v hv =>
    unfold State.spillVerdict at hv
    split at hv
    · unfold State.spillRefused at hv
      extract_lets q hbm free h at hv
      split_ifs at hv
      · cases hv
        exact State.count_keeps State.svc (fun _ _ => rfl) s _ _ _
      · cases hv
        simp
    · cases hv
  next => rfl

theorem State.svc_placeCopy (s : State) (m : MergeSt) (c : Copy) (q : Nat) (spilled refused : Bool) :
    (s.placeCopy m c q spilled refused).svc = s.svc := by
  have hmark : ∀ u : State, (u.markSpill m.dest).svc = u.svc := fun u => by
    unfold State.markSpill
    split
    exacts [rfl, rfl]
  unfold State.placeCopy
  extract_lets u
  have hu : u.svc = s.svc := rfl
  clear_value u
  rw [← hu]
  split
  · split
    · exact u.svc_dropAtPort c
    split
    · simp
    · rfl
  split
  · exact u.svc_discardHost c
  split
  · simp
  · rw [hmark]
    split
    · simp
    · rfl

theorem State.svc_passCopy (s : State) (g id seq flags : Nat) : (s.passCopy g id seq flags).svc = s.svc := by
  cases hheld : (s.queue (qMerge g)).find? (·.id = id) with
  | none =>
    unfold State.passCopy
    rw [hheld]
  | some c =>
    obtain ⟨c', q, spilled, refused, hpass⟩ := State.passCopy_of_held hheld seq flags
    rw [hpass, State.svc_placeCopy, State.unqueue_keeps State.svc fun _ _ => rfl, State.svc_verdictCounted]

theorem State.svc_emitDesc (s : State) (g : Nat) (d : Desc) (flags : Nat) : (s.emitDesc g d flags).svc = s.svc := by
  have hnumber : (s.numberEmission g d flags).svc = s.svc := by
    unfold State.numberEmission
    extract_lets u v
    have hv : v.svc = u.svc := by
      unfold v
      split
      exacts [State.count_keeps State.svc (fun _ _ => rfl) u _ _ _, rfl]
    exact hv.trans (State.count_keeps State.svc (fun _ _ => rfl) s _ _ _)
  have hlate : ∀ (u : State) seq, (u.lateEmission g d seq).svc = u.svc := fun u seq => by
    unfold State.lateEmission
    dsimp only
    split
    · split
      · simp
      · simp
    · simp
  rw [s.emitDesc_eq, State.svc_passCopy]
  split
  exacts [(hlate _ _).trans hnumber, hnumber]

/-- The Deckle takes note of its sides, and empties itself once it has none (R287, R289), without moving them. -/
@[simp] theorem State.svc_deckleSides (s : State) : s.deckleSides.svc = s.svc := by
  have hemit : ∀ (u : State) g, (u.emitAll g flagLate).svc = u.svc := fun u g =>
    foldl_keeps State.svc _ (fun v d => v.svc_emitDesc g d flagLate) _ _
  unfold State.deckleSides
  extract_lets a b _ u v
  split
  · rfl
  split
  · rfl
  · refine (foldl_keeps State.svc _ (fun y g => hemit y g) _ _).trans ?_
    exact State.event_keeps State.svc (fun _ _ _ _ => rfl) _ _ _ _

/-! ### Headers and items handed on -/

@[simp] theorem State.svc_handOff (s : State) : s.handOff.svc = s.svc :=
  State.handOff_keeps State.svc (fun _ _ _ _ _ _ _ _ _ => rfl) s

@[simp] theorem State.svc_moveItems (s : State) : s.moveItems.svc = s.svc := by
  unfold State.moveItems
  refine foldl_keeps State.svc _ (fun _ _ => ?_) _ s
  rfl

/-- Storage engines have no items to move. -/
theorem State.svc_ifMoveItems (s : State) (b : Bool) : (if b then s else s.moveItems).svc = s.svc := by
  split
  exacts [rfl, s.svc_moveItems]

theorem State.unit_of_svc {s t : State} (h : t.svc = s.svc) (k : UnitKind) (sl n : Nat) : t.unit k sl n = s.unit k sl n := by
  rw [State.unit, h, State.unit]

end Sys2Proof.Machine
end

section
/-! PROOFS. Service states unit by unit (R384 to R387, R571 to R573, R746 to R753): what a unit is once it drains, has left service, is under
test, or rejoins, whatever its role, its side or its port does with it. -/

namespace Sys2Proof.Machine

/-! ### Units that commands name (R750, R752) -/

/-- Only lanes and SM3 engines are numbered within a slice. -/
theorem unitOf_slice {a : UnitArgs} {k : UnitKind} {sl n : Nat} (h : unitOf a = some (k, sl, n)) (hk : perSlice k = false) : sl = 0 := by
  unfold unitOf at h
  split at h
  · cases h
  · obtain ⟨⟨-, hslice⟩, heq⟩ := Option.ite_none_right_eq_some.mp h
    cases heq
    simpa [hk] using hslice

theorem State.unitOf_of_serviceUnit {s : State} {a : UnitArgs} {u : UnitRef} (h : s.serviceUnit a = some u) : unitOf a = some u := by
  unfold State.serviceUnit at h
  split at h
  next hof => exact hof.trans (Option.ite_none_right_eq_some.mp h).2
  next hof => exact hof.trans (Option.ite_none_left_eq_some.mp h).2
  next => exact h

/-! ### Changes of service state -/

/-- A unit that goes out of service for a reason reads that reason; one that is out of service has to read it before. -/
theorem State.reason_moveUnit_out {s : State} {k : UnitKind} {sl n reason : Nat}
    (h : (s.unit k sl n).state = .outOfService → (s.unit k sl n).reason = reason) :
    ((s.moveUnit k sl n .outOfService reason).unit k sl n).reason = reason := by
  by_cases hout : (s.unit k sl n).state = .outOfService
  · exact (congrArg (fun t : State => (t.unit k sl n).reason) (if_pos hout)).trans (h hout)
  · obtain ⟨since, hself⟩ := State.unit_moveUnit_self hout reason
    simp [hself]

/-- The command that waits for a unit ends without changing the unit otherwise (R751). -/
theorem State.unit_serviceDone (s : State) (k : UnitKind) (sl n st : Nat) :
    (s.serviceDone (k, sl, n) st).unit k sl n = { s.unit k sl n with token := none } := by
  unfold State.serviceDone
  extract_lets x
  split
  next htoken =>
    have hx : x = { x with token := none } := by rw [← htoken]
    exact hx
  next => exact (State.adminDone_keeps (fun w => w.unit k sl n) (fun _ _ _ _ => rfl) _ _ _ _).trans (s.unit_setUnit_self k sl n _)

theorem State.state_enterService (s : State) (k : UnitKind) (sl n fence : Nat) :
    ((s.enterService (k, sl, n) fence).unit k sl n).state = .inService := by
  unfold State.enterService
  extract_lets u _ v w
  have hv : (v.unit k sl n).state = .inService := (congrArg UnitSt.state (u.unit_setUnit_self k sl n _)).trans (s.state_moveUnit k sl n _ _)
  have hw : w.unit k sl n = v.unit k sl n := by
    unfold w
    split
    exacts [State.startLink_keeps (fun y => y.unit k sl n) (fun _ _ _ => rfl) v n, rfl]
  rw [State.unit_serviceDone, hw]
  exact hv

/-! ### Units that begin to drain -/

theorem State.svc_removeRole (s : State) (n lane : Nat) : (s.removeRole n lane).2.svc = s.svc := by
  unfold State.removeRole
  extract_lets u v
  have hv : v.svc = s.svc := State.event_keeps State.svc (fun _ _ _ _ => rfl) u _ _ _
  split
  exacts [hv, (State.detect_keeps State.svc (fun _ _ _ _ _ _ _ _ => rfl) v _ _ _ _ _ _).trans hv]

theorem State.spareLane_out {s : State} {n l : Nat} (h : s.spareLane n = some l) : (s.unit .parseLane n l).state = .outOfService := by
  unfold State.spareLane at h
  have hfound := List.find?_some h
  exact (of_decide_eq_true hfound).1

theorem State.spareEngine_out {s : State} {k : UnitKind} {e : Nat} (h : s.spareEngine k = some e) :
    (s.unit k 0 e).state = .outOfService := by
  unfold State.spareEngine at h
  have hfound := List.find?_some h
  exact (of_decide_eq_true hfound).1

/-- The spare that takes a lane's role is another lane than one that is not out of service (R385, R747). -/
theorem State.unit_vacateLane {s : State} {sl n : Nat} (h : (s.unit .parseLane sl n).state ≠ .outOfService) (lane : Nat) (fence : Bool) :
    (s.vacateLane sl lane fence).2.unit .parseLane sl n = s.unit .parseLane sl n := by
  unfold State.vacateLane
  extract_lets role
  split
  next l hspare =>
    have hne : n ≠ l := fun heq => h (heq ▸ State.spareLane_out hspare)
    exact (State.unit_moveUnit_ne _ _ _ hne _ _).trans (State.unit_setUnit_ne _ _ _ hne _)
  next => exact State.unit_of_svc (s.svc_removeRole sl lane) _ _ _

/-- The kind of an engine. -/
abbrev engineKind (storage : Bool) : UnitKind := if storage then .stoEngine else .cryEngine

/-- So is the spare that takes an engine's roles (R573, R747). -/
theorem State.unit_leaveRoles {s : State} {storage : Bool} {n : Nat} (h : (s.unit (engineKind storage) 0 n).state ≠ .outOfService)
    (engine : Nat) : (s.leaveRoles storage engine).unit (engineKind storage) 0 n = s.unit (engineKind storage) 0 n := by
  unfold State.leaveRoles
  extract_lets k count t holds spare t' role u _ v w x
  have hspare : ∀ e, spare = some e → s.spareEngine k = some e := fun e he => by
    unfold spare at he
    split at he
    exacts [he, nomatch he]
  clear_value spare
  have hu : u.unit k 0 n = s.unit k 0 n := by
    unfold u
    split
    next e _ =>
      have hne : n ≠ e := fun heq => h (heq ▸ State.spareEngine_out (hspare e rfl))
      exact State.unit_moveUnit_ne _ _ _ hne _ _
    next => rfl
  have hw : w.svc = v.svc := v.svc_ifMoveItems storage
  have hx : x.svc = w.svc := State.event_keeps State.svc (fun _ _ _ _ => rfl) w _ _ _
  refine (State.unit_of_svc (s := u) ?_ k 0 n).trans hu
  split
  · exact (State.event_keeps State.svc (fun _ _ _ _ => rfl) x _ _ _).trans (hx.trans hw)
  · exact hx.trans hw

theorem State.unit_handEngine {s : State} {storage : Bool} {n : Nat} (h : (s.unit (engineKind storage) 0 n).state ≠ .outOfService) :
    (s.handEngine storage n).unit (engineKind storage) 0 n = s.unit (engineKind storage) 0 n := by
  unfold State.handEngine
  split
  exacts [State.unit_leaveRoles h n, rfl]

/-- What a unit does as it begins to drain leaves the unit itself. -/
theorem State.unit_beginDrain {s : State} {k : UnitKind} {sl n : Nat} (hslice : perSlice k = false → sl = 0)
    (h : (s.unit k sl n).state ≠ .outOfService) : (s.beginDrain (k, sl, n)).unit k sl n = s.unit k sl n := by
  cases k with
  | port => exact State.unit_of_svc (s.svc_flushPort n true) _ _ _
  | parseLane =>
    dsimp only [State.beginDrain]
    split
    exacts [State.unit_vacateLane h n true, rfl]
  | cryEngine =>
    obtain rfl := hslice rfl
    exact State.unit_handEngine (storage := false) h
  | stoEngine =>
    obtain rfl := hslice rfl
    exact State.unit_handEngine (storage := true) h
  | slice | signer | sm3Engine | builderSide | deckleSide | flash => rfl

/-! ### Units that have drained -/

/-- A unit that did not become a spare takes no role and gives none (R747). -/
theorem State.unit_giveToSpare_of_reason {s : State} {k : UnitKind} {sl n : Nat} (h : (s.unit k sl n).reason ≠ 6) (role : Nat) :
    (s.giveToSpare k sl role).unit k sl n = s.unit k sl n := by
  unfold State.giveToSpare
  extract_lets m x
  split
  next hspare =>
    obtain ⟨-, hreason, -⟩ := hspare
    have hne : n ≠ m := fun heq => h (heq ▸ hreason)
    exact (State.unit_moveUnit_ne _ k sl hne _ _).trans (s.unit_setUnit_ne k sl hne _)
  next => rfl

/-- The role of a unit that has left, given to the spare where there is one. -/
theorem State.unit_ifGiveToSpare {s : State} {k : UnitKind} {sl n : Nat} (h : (s.unit k sl n).reason ≠ 6) (role : Option Nat) :
    (match role with | some r => s.giveToSpare k sl r | none => s).unit k sl n = s.unit k sl n := by
  cases role with
  | none => rfl
  | some r => exact State.unit_giveToSpare_of_reason h r

/-- What follows as a unit leaves service leaves the unit, which is no spare. -/
theorem State.unit_afterDrain {s : State} {k : UnitKind} {sl n : Nat} (hslice : perSlice k = false → sl = 0)
    (h : (s.unit k sl n).reason ≠ 6) (role : Option Nat) : (s.afterDrain (k, sl, n) role).unit k sl n = s.unit k sl n := by
  have hevent : ∀ c i l, (s.eventWith c i l).unit k sl n = s.unit k sl n := fun c i l =>
    State.eventWith_keeps (fun u => u.unit k sl n) (fun _ _ _ _ => rfl) s c i l
  have hreason : ∀ c i l, ((s.eventWith c i l).unit k sl n).reason ≠ 6 := fun c i l => by rwa [hevent]
  cases k with
  | port => exact State.unit_of_svc (s.svc_portOff n) _ _ _
  | sm3Engine => exact (State.unit_ifGiveToSpare (hreason _ _ _) role).trans (hevent _ _ _)
  | signer =>
    obtain rfl := hslice rfl
    exact (State.unit_of_svc (State.svc_handOff _) _ _ _).trans ((State.unit_ifGiveToSpare (hreason _ _ _) role).trans (hevent _ _ _))
  | deckleSide => exact (State.unit_of_svc (State.svc_deckleSides _) _ _ _).trans (hevent _ _ _)
  | parseLane | flash => exact hevent _ _ _
  | builderSide => exact hevent _ _ _
  | slice | cryEngine | stoEngine => rfl

/-- A unit as it leaves service drained, its role and its fence gone. -/
def State.leftDrained (s : State) (k : UnitKind) (sl n : Nat) : State :=
  (s.setUnit k sl n { s.unit k sl n with role := none, fence := 0 }).moveUnit k sl n .outOfService 1

/-- The state in which a unit has drained, and TAKE_OUT is complete (R746, R751). -/
def State.drainEnded (s : State) (k : UnitKind) (sl n : Nat) : State :=
  ((s.leftDrained k sl n).afterDrain (k, sl, n) (s.roleOf k sl n)).serviceDone (k, sl, n) stSuccess

theorem State.checkDrained_ends {s : State} {k : UnitKind} {sl n : Nat} (h : (s.unit k sl n).state = .draining)
    (hidle : s.holdsWork (k, sl, n) = false) (hrole : s.roleGone (k, sl, n) = true) :
    s.checkDrained (k, sl, n) = s.drainEnded k sl n := if_neg (by simp [h, hidle, hrole])

theorem State.checkDrained_working {s : State} {k : UnitKind} {sl n : Nat}
    (h : s.holdsWork (k, sl, n) = true ∨ s.roleGone (k, sl, n) = false) : s.checkDrained (k, sl, n) = s :=
  if_pos (by rcases h with h | h <;> simp [h])

section Drained

variable {s : State} {k : UnitKind} {sl n : Nat} (h : (s.unit k sl n).state = .draining)
include h

theorem State.unit_leftDrained : ∃ since, (s.leftDrained k sl n).unit k sl n =
    { s.unit k sl n with state := .outOfService, reason := 1, role := none, fence := 0, since := since } := by
  have hset := s.unit_setUnit_self k sl n { s.unit k sl n with role := none, fence := 0 }
  have hstate : ((s.setUnit k sl n { s.unit k sl n with role := none, fence := 0 }).unit k sl n).state ≠ .outOfService := by
    rw [hset, h]
    exact nofun
  obtain ⟨since, hself⟩ := State.unit_moveUnit_self hstate 1
  exact ⟨since, hself.trans (by rw [hset]; rfl)⟩

variable (hslice : perSlice k = false → sl = 0)
include hslice

theorem State.unit_drainEnded :
    ((s.drainEnded k sl n).unit k sl n).state = .outOfService ∧ ((s.drainEnded k sl n).unit k sl n).reason = 1 := by
  obtain ⟨since, hleft⟩ := State.unit_leftDrained h
  have hunit : (s.drainEnded k sl n).unit k sl n = { (s.leftDrained k sl n).unit k sl n with token := none } := by
    rw [State.drainEnded, State.unit_serviceDone, State.unit_afterDrain hslice (by rw [hleft]; exact nofun)]
  rw [hunit, hleft]
  exact ⟨rfl, rfl⟩

theorem State.state_checkDrained :
    ((s.checkDrained (k, sl, n)).unit k sl n).state = .draining ∨ ((s.checkDrained (k, sl, n)).unit k sl n).state = .outOfService := by
  cases hidle : s.holdsWork (k, sl, n) with
  | true => exact .inl (by rw [State.checkDrained_working (.inl hidle), h])
  | false =>
    cases hrole : s.roleGone (k, sl, n) with
    | false => exact .inl (by rw [State.checkDrained_working (.inr hrole), h])
    | true => exact .inr (by rw [State.checkDrained_ends h hidle hrole]; exact (State.unit_drainEnded h hslice).1)

end Drained

/-! ### Units under test -/

/-- A unit that has passed its test: it rejoins from the Ream in progress on. -/
def State.toRejoin (s : State) (k : UnitKind) (sl n : Nat) : State :=
  (s.setUnit k sl n { s.unit k sl n with fault := false, fence := s.ream }).moveUnit k sl n .rejoining 0

theorem State.testPassed_eq (s : State) (k : UnitKind) (sl n : Nat) :
    s.testPassed (k, sl, n) = if k = .parseLane then (s.toRejoin k sl n).rejoinLane sl n else s.toRejoin k sl n := rfl

theorem State.unit_toRejoin {s : State} {k : UnitKind} {sl n : Nat} (h : (s.unit k sl n).state = .testing) : ∃ since,
    (s.toRejoin k sl n).unit k sl n =
      { s.unit k sl n with state := .rejoining, reason := 0, fault := false, fence := s.ream, since := since } := by
  have hset := s.unit_setUnit_self k sl n { s.unit k sl n with fault := false, fence := s.ream }
  have hstate : ((s.setUnit k sl n { s.unit k sl n with fault := false, fence := s.ream }).unit k sl n).state ≠ .rejoining := by
    rw [hset, h]
    exact nofun
  obtain ⟨since, hself⟩ := State.unit_moveUnit_self hstate 0
  exact ⟨since, hself.trans (by rw [hset]; rfl)⟩

theorem State.unit_toRejoin_ne (s : State) (k : UnitKind) (sl : Nat) {n m : Nat} (h : m ≠ n) :
    (s.toRejoin k sl n).unit k sl m = s.unit k sl m := (State.unit_moveUnit_ne _ k sl h _ _).trans (s.unit_setUnit_ne k sl h _)

/-- No unit gains or loses a role by its test. -/
theorem State.role_toRejoin {s : State} {k : UnitKind} {sl n : Nat} (h : (s.unit k sl n).state = .testing) (m : Nat) :
    ((s.toRejoin k sl n).unit k sl m).role = (s.unit k sl m).role := by
  by_cases hm : m = n
  · subst hm
    obtain ⟨since, hself⟩ := State.unit_toRejoin h
    rw [hself]
  · rw [s.unit_toRejoin_ne k sl hm]

theorem State.toRejoin_keeps (s : State) (k : UnitKind) (sl n : Nat) :
    (s.toRejoin k sl n).slices = s.slices ∧ (s.toRejoin k sl n).coh = s.coh :=
  ⟨State.moveUnit_keeps State.slices (fun _ _ _ _ _ _ _ _ => rfl) _ _ _ _ _ _,
    State.moveUnit_keeps State.coh (fun _ _ _ _ _ _ _ _ => rfl) _ _ _ _ _ _⟩

theorem State.unit_testFailed {s : State} {k : UnitKind} {sl n : Nat} (h : (s.unit k sl n).state = .testing) :
    ((s.testFailed (k, sl, n)).unit k sl n).state = .outOfService ∧ ((s.testFailed (k, sl, n)).unit k sl n).reason = 4 := by
  have hunit : (s.testFailed (k, sl, n)).unit k sl n =
      { (s.moveUnit k sl n .outOfService 4).unit k sl n with token := none } :=
    (State.unit_serviceDone _ k sl n _).trans (congrArg (fun x : UnitSt => { x with token := none })
      (State.eventWith_keeps (fun u => u.unit k sl n) (fun _ _ _ _ => rfl) _ _ _ _))
  have hreason := State.reason_moveUnit_out (s := s) (k := k) (sl := sl) (n := n) (reason := 4) fun hout => nomatch h.symm.trans hout
  rw [hunit]
  exact ⟨s.state_moveUnit k sl n _ _, hreason⟩

/-! ### Lanes that rejoin (R386, R387) -/

section Lane

variable {s : State} {n lane : Nat} (h : (s.unit .parseLane n lane).state = .rejoining) (hnew : (s.slice n).rejoin.has lane = false)
include h hnew

/-- While a commit is armed or drains, no fence is placed for a role. -/
theorem State.rejoinLane_waits (hactive : (s.slice n).active < 4) (hcommit : s.coh.phase = .armed ∨ s.coh.draining ≠ []) :
    s.rejoinLane n lane = s := by
  unfold State.rejoinLane
  extract_lets x
  rw [if_neg (by simp [h, x, hnew])]
  split
  · rw [if_neg (Nat.not_le.mpr hactive), if_pos hcommit]
  · exact if_pos hcommit

/-- Beside four active lanes, none of which is a spare in another's place, a lane becomes the spare. -/
theorem State.rejoinLane_spare (hactive : 4 ≤ (s.slice n).active) (hroles : ∀ l ∈ (s.slice n).lanes, (s.unit .parseLane n l).role = none) :
    s.rejoinLane n lane = (s.moveUnit .parseLane n lane .outOfService 6).serviceDone (.parseLane, n, lane) stSuccess := by
  have hnone : (s.slice n).lanes.find? (fun l => (s.unit .parseLane n l).role.isSome) = none :=
    List.find?_eq_none.mpr fun l hl => by simp [hroles l hl]
  unfold State.rejoinLane
  extract_lets x
  rw [if_neg (by simp [h, x, hnew]), hnone]
  exact if_pos hactive

end Lane

/-! ### Units at their fence -/

/-- An SM3 engine or a signer that has a role of its own takes it at its Ream boundary (R249). -/
theorem State.state_rejoinUnit_own (s : State) {k : UnitKind} {n : Nat} (sl : Nat) (hk : k = .sm3Engine ∨ k = .signer)
    (hn : n < kindSpare k) : ((s.rejoinUnit (k, sl, n)).unit k sl n).state = .inService := by
  rcases hk with rfl | rfl
  all_goals
    unfold State.rejoinUnit
    dsimp -zeta only
    extract_lets spare u
    rw [if_pos (show n < spare from hn)]
    exact State.state_enterService _ _ _ _ _

theorem State.state_rejoinUnit_builder (s : State) (sl n : Nat) :
    ((s.rejoinUnit (.builderSide, sl, n)).unit .builderSide sl n).state = .inService := by
  unfold State.rejoinUnit
  dsimp -zeta only
  extract_lets u active
  have hentered : (u.unit .builderSide sl n).state = .inService := State.state_enterService s _ _ _ _
  clear_value u
  split
  exacts [hentered, hentered]

theorem State.state_rejoinUnit_deckle (s : State) (sl n : Nat) :
    ((s.rejoinUnit (.deckleSide, sl, n)).unit .deckleSide sl n).state = .inService := by
  change ((s.enterService (.deckleSide, sl, n) s.ream).deckleSides.unit .deckleSide sl n).state = _
  rw [State.unit_of_svc (State.svc_deckleSides _), State.state_enterService]

/-- An engine takes its own role, whoever holds it (R573). -/
theorem State.state_rejoinEngine (s : State) (storage : Bool) {n : Nat} (hn : n < if storage then 16 else 32) :
    ((s.rejoinEngine storage n).unit (engineKind storage) 0 n).state = .inService := by
  have hrole : s.roleFor storage n = some n := if_pos hn
  unfold State.rejoinEngine
  rw [hrole]
  exact State.state_enterService _ _ _ _ _

/-- A port whose mode does not fit stays out of service, or leaves it, and shows why (R321). -/
theorem State.modeRefused_stays_out (s : State) (n : Nat) : ((s.modeRefused n).unit .port 0 n).state = .outOfService ∧
    ((s.modeRefused n).unit .port 0 n).reason = 5 ∧ ((s.modeRefused n).port n).modeErr = true := by
  unfold State.modeRefused
  extract_lets x u v
  have hu : (u.unit .port 0 n).reason = 5 := congrArg UnitSt.reason (s.unit_setUnit_self .port 0 n _)
  have hunit : ((v.event 0x1009 3 []).serviceDone (.port, 0, n) stInvalidField).unit .port 0 n =
      { (u.moveUnit .port 0 n .outOfService 5).unit .port 0 n with token := none } :=
    (State.unit_serviceDone _ _ _ _ _).trans (congrArg (fun x : UnitSt => { x with token := none })
      (State.event_keeps (fun w => w.unit .port 0 n) (fun _ _ _ _ => rfl) v _ _ _))
  have hport : ((v.event 0x1009 3 []).serviceDone (.port, 0, n) stInvalidField).port n = v.port n :=
    (State.serviceDone_keeps (State.port · n) (fun _ _ _ _ _ => rfl) _ _ _).trans
      (State.event_keeps (State.port · n) (fun _ _ _ _ => rfl) v _ _ _)
  refine ⟨?_, ?_, ?_⟩
  · rw [hunit]
    exact u.state_moveUnit _ _ _ _ _
  · rw [hunit]
    exact State.reason_moveUnit_out fun _ => hu
  · rw [hport]
    exact congrArg PortSt.modeErr (State.port_modPort_self _ n _)

end Sys2Proof.Machine
end

section
/-! PROOFS. SERVICE_STATE and what follows it: drains, self-tests and fences (R319 to R321, R386, R746 to R753). -/

namespace Sys2Proof.Machine

/-! ### The command that waits for a unit -/

/-- Raising a vector leaves the commands that are outstanding. -/
theorem State.opened_msix (s : State) (fn v : Nat) : ((s.msix fn v).fn fn).admin.opened = (s.fn fn).admin.opened := by
  unfold State.msix
  extract_lets f dword
  split
  · rw [State.fn_modFn_self]
  · exact State.post_keeps (fun u => (u.fn fn).admin.opened) (fun _ _ _ => rfl) s _ _

theorem State.opened_adminHead (s : State) (fn : Nat) : ((s.adminHead fn).fn fn).admin.opened = (s.fn fn).admin.opened := by
  have hfn : (s.adminHb fn).fn fn = s.fn fn := by rw [State.fn, State.adminHb_keeps State.qm fun _ _ _ => rfl, State.fn]
  unfold State.adminHead
  rw [State.opened_msix, hfn]

/-- An admin command that completes on the queue it was taken from is outstanding no more (R641). -/
theorem State.opened_adminDone {s : State} {t : AdminTok} (hgen : (s.fn t.ref.fn).gen = t.gen)
    (hsetup : (s.fn t.ref.fn).admin.setup = t.setup) (st : Nat) (wb : List (Nat × Bytes)) :
    ((s.adminDone t st wb).fn t.ref.fn).admin.opened = (s.fn t.ref.fn).admin.opened.erase t.ref.idx := by
  have hwritten : ∀ b, ((s.writeBack t.ref.fn none b st wb).fn t.ref.fn).admin.opened = (s.fn t.ref.fn).admin.opened := fun b =>
    State.writeBack_keeps (fun u => (u.fn t.ref.fn).admin.opened) (fun _ _ _ => rfl) s _ _ _ _ _
  unfold State.adminDone
  extract_lets f u
  split
  next hgone =>
    rcases hgone with hother | hother | hopened
    · exact absurd hgen hother
    · exact absurd hsetup hother
    · exact (List.erase_of_not_mem hopened).symm
  next =>
    split
    extract_lets v
    have hv : (v.fn t.ref.fn).admin.opened = (s.fn t.ref.fn).admin.opened.erase t.ref.idx := by
      simp only [v, State.fn_modFn_self]
      rw [show (u.fn t.ref.fn).admin.opened = _ from hwritten _]
    split
    exacts [hv, (v.opened_adminHead t.ref.fn).trans hv]

theorem State.serviceDone_of_token {s : State} {k : UnitKind} {sl n : Nat} {t : AdminTok} (h : (s.unit k sl n).token = some t) (st : Nat) :
    s.serviceDone (k, sl, n) st =
      (s.setUnit k sl n { s.unit k sl n with token := none }).adminDone t st (s.unit k sl n).wb := by
  unfold State.serviceDone
  extract_lets x
  split
  next hnone => exact nomatch hnone.symm.trans h
  next t' ht =>
    cases ht.symm.trans h
    rfl

/-- An SM3 engine that has drained ends the TAKE_OUT that waited for it (R751). -/
theorem State.opened_drainEnded_sm3 {s : State} {sl n : Nat} {t : AdminTok} (h : (s.unit .sm3Engine sl n).state = .draining)
    (htoken : (s.unit .sm3Engine sl n).token = some t) (hgen : (s.fn t.ref.fn).gen = t.gen)
    (hsetup : (s.fn t.ref.fn).admin.setup = t.setup) :
    ((s.drainEnded .sm3Engine sl n).fn t.ref.fn).admin.opened = (s.fn t.ref.fn).admin.opened.erase t.ref.idx := by
  obtain ⟨since, hleft⟩ := State.unit_leftDrained h
  have hunit := State.unit_afterDrain (s := s.leftDrained .sm3Engine sl n) (k := .sm3Engine) (sl := sl) (n := n) nofun
    (by rw [hleft]; exact nofun) (s.roleOf .sm3Engine sl n)
  have hqm : ((s.leftDrained .sm3Engine sl n).afterDrain (.sm3Engine, sl, n) (s.roleOf .sm3Engine sl n)).qm = s.qm := by
    have hevent : ∀ c i l, ((s.leftDrained .sm3Engine sl n).eventWith c i l).qm = s.qm := fun c i l =>
      (State.eventWith_keeps State.qm (fun _ _ _ _ => rfl) _ c i l).trans (State.moveUnit_keeps State.qm (fun _ _ _ _ _ _ _ _ => rfl) _ _ _ _ _ _)
    dsimp only [State.afterDrain]
    split
    exacts [(State.giveToSpare_keeps State.qm (fun _ _ _ _ _ _ _ _ => rfl) _ _ _ _).trans (hevent _ _ _), hevent _ _ _]
  unfold State.drainEnded
  generalize (s.leftDrained .sm3Engine sl n).afterDrain (.sm3Engine, sl, n) (s.roleOf .sm3Engine sl n) = v at *
  have hfn : ∀ x, (v.setUnit .sm3Engine sl n x).fn t.ref.fn = s.fn t.ref.fn := fun x => by simp only [State.fn, State.setUnit, hqm]
  rw [State.serviceDone_of_token (by rw [hunit, hleft]; exact htoken),
    State.opened_adminDone (by rw [hfn, hgen]) (by rw [hfn, hsetup]), hfn]

/-! ### SERVICE_STATE (R750 to R753) -/

@[simp] theorem State.unit_adminOpen (s : State) (r : AdminRef) (k : UnitKind) (sl n : Nat) : (s.adminOpen r).unit k sl n = s.unit k sl n :=
  s.adminOpen_keeps (fun u => u.unit k sl n) (fun _ _ _ _ => rfl) r

@[simp] theorem State.serviceUnit_adminOpen (s : State) (r : AdminRef) (a : UnitArgs) : (s.adminOpen r).serviceUnit a = s.serviceUnit a :=
  s.adminOpen_keeps (fun u => u.serviceUnit a) (fun _ _ _ _ => rfl) r

@[simp] theorem State.lastOfPair_adminOpen (s : State) (r : AdminRef) (u : UnitRef) : (s.adminOpen r).lastOfPair u = s.lastOfPair u :=
  s.adminOpen_keeps (fun v => v.lastOfPair u) (fun _ _ _ _ => rfl) r

@[simp] theorem State.serviceWb_adminOpen (s : State) (r : AdminRef) (k : UnitKind) (sl n : Nat) :
    (s.adminOpen r).serviceWb (k, sl, n) = (s.unit k sl n).wb := congrArg UnitSt.wb (s.unit_adminOpen r k sl n)

@[simp] theorem State.up_adminOpen (s : State) (r : AdminRef) (k : UnitKind) (sl n : Nat) : (s.adminOpen r).up k sl n = s.up k sl n :=
  s.adminOpen_keeps (fun u => u.up k sl n) (fun _ _ _ _ => rfl) r

@[simp] theorem State.portList_adminOpen (s : State) (r : AdminRef) : (s.adminOpen r).portList = s.portList :=
  s.adminOpen_keeps State.portList (fun _ _ _ _ => rfl) r

/-- The meanings of the SERVICE_STATE commands. -/
theorem exec_serviceStateQuery (r : AdminRef) (a : UnitArgs) (s : State) :
    exec (.serviceStateQuery r a) s = execServiceStateQuery r a s := rfl

theorem exec_serviceStateTakeOut (r : AdminRef) (a : UnitArgs) (s : State) :
    exec (.serviceStateTakeOut r a) s = execServiceStateTakeOut r a s := rfl

theorem exec_serviceStateReturn (r : AdminRef) (a : UnitArgs) (s : State) :
    exec (.serviceStateReturn r a) s = execServiceStateReturn r a s := rfl

section Run

variable {s : State} {r : AdminRef} {a : UnitArgs} (h : PfStarts r s)
include h

theorem runService_unknown (hnone : s.serviceUnit a = none) (denied : State → UnitRef → Bool) (body : State → UnitRef → AdminRes) :
    runService r a s denied body = ends s r (s.adminOpen r) stInvalidField [] :=
  runAdmin_completes_pf h <| by simp [hnone, failWith]

variable {k : UnitKind} {sl n : Nat} (hunit : s.serviceUnit a = some (k, sl, n)) {denied : State → UnitRef → Bool}
  {body : State → UnitRef → AdminRes}
include hunit

theorem runService_denied (hdenied : denied (s.adminOpen r) (k, sl, n) = true) :
    runService r a s denied body = ends s r (s.adminOpen r) stNotPermitted (s.unit k sl n).wb :=
  runAdmin_completes_pf h <| by simp [hunit, hdenied]

variable (hpermitted : denied (s.adminOpen r) (k, sl, n) = false)
include hpermitted

theorem runService_busy
    (hmoving : (s.unit k sl n).state = .draining ∨ (s.unit k sl n).state = .testing ∨ (s.unit k sl n).state = .rejoining) :
    runService r a s denied body = ends s r (s.adminOpen r) stBusy (s.unit k sl n).wb :=
  runAdmin_completes_pf h <| by simp [hunit, hpermitted, hmoving]

variable (hrest : (s.unit k sl n).state = .inService ∨ (s.unit k sl n).state = .outOfService)
include hrest

theorem runService_completes {t : State} {st : Nat} {wb : List (Nat × Bytes)}
    (hbody : body (s.adminOpen r) (k, sl, n) = (t, some (st, wb))) : runService r a s denied body = ends s r t st wb :=
  runAdmin_completes_pf h <| by rcases hrest with hstate | hstate <;> simp [hunit, hpermitted, hstate, hbody]

theorem runService_waits {t : State} (hbody : body (s.adminOpen r) (k, sl, n) = (t, none)) : runService r a s denied body = .next t :=
  runAdmin_waits_pf h <| by rcases hrest with hstate | hstate <;> simp [hunit, hpermitted, hstate, hbody]

end Run

/-- A unit with a command that waits for it. -/
def State.claimed (s : State) (r : AdminRef) (k : UnitKind) (sl n : Nat) : State :=
  s.setUnit k sl n { s.unit k sl n with token := some (s.tok r), fence := 0 }

/-- A unit that a command takes out or returns changes its state, and the command waits for it. -/
theorem State.unit_claimed_moveUnit {s : State} {r : AdminRef} {k : UnitKind} {sl n : Nat} {next : Service}
    (h : (s.unit k sl n).state ≠ next) : (((s.claimed r k sl n).moveUnit k sl n next 0).unit k sl n).state = next ∧
      (((s.claimed r k sl n).moveUnit k sl n next 0).unit k sl n).token = some (s.tok r) := by
  have hset : (s.claimed r k sl n).unit k sl n = _ := s.unit_setUnit_self k sl n _
  have hstate : ((s.claimed r k sl n).unit k sl n).state ≠ next := by rwa [hset]
  obtain ⟨since, hself⟩ := State.unit_moveUnit_self hstate 0
  rw [hself, hset]
  exact ⟨rfl, rfl⟩

/-! ### TAKE_OUT (R746, R752, R753) -/

/-- A unit that is out of service is not the last of its pair that serves. -/
theorem State.lastOfPair_of_out {s : State} {a : UnitArgs} {k : UnitKind} {sl n : Nat} (hunit : s.serviceUnit a = some (k, sl, n))
    (hout : (s.unit k sl n).state = .outOfService) : s.lastOfPair (k, sl, n) = false := by
  have hslice := unitOf_slice (State.unitOf_of_serviceUnit hunit)
  have hup : sl = 0 → s.up k 0 n = false := fun hsl => by
    rw [State.up, ← hsl, hout]
    rfl
  cases k with
  | builderSide | deckleSide | flash => simp [State.lastOfPair, hup (hslice rfl)]
  | port | slice | cryEngine | stoEngine | signer | parseLane | sm3Engine => rfl

section TakeOut

variable {s : State} {r : AdminRef} {a : UnitArgs} (h : PfStarts r s) {k : UnitKind} {sl n : Nat}
  (hunit : s.serviceUnit a = some (k, sl, n))
include h hunit

theorem exec_takeOut_out (hout : (s.unit k sl n).state = .outOfService) :
    exec (.serviceStateTakeOut r a) s = ends s r (s.adminOpen r) stSuccess (s.unit k sl n).wb :=
  (exec_serviceStateTakeOut ..).trans <| runService_completes h hunit
    (by rw [State.lastOfPair_adminOpen, State.lastOfPair_of_out hunit hout]) (.inr hout) <| by simp [hout]

variable (hup : (s.unit k sl n).state = .inService)
include hup

/-- A slice stays while one of its ports serves. -/
theorem exec_takeOut_ports (hk : k = .slice) (hports : ∃ p ∈ s.portList, sliceOf p = n ∧ (s.unit .port 0 p).state ≠ .outOfService) :
    exec (.serviceStateTakeOut r a) s = ends s r (s.adminOpen r) stBusy (s.unit k sl n).wb := by
  refine (exec_serviceStateTakeOut ..).trans (runService_completes h hunit (by rw [State.lastOfPair_adminOpen, hk]; rfl) (.inl hup) ?_)
  subst hk
  simpa [hup] using hports

variable (hpair : s.lastOfPair (k, sl, n) = false)
  (hports : k = .slice → ∀ p ∈ s.portList, sliceOf p = n → (s.unit .port 0 p).state = .outOfService)
include hpair hports

/-- A unit in service drains, and leaves service at once where it holds no work. -/
theorem exec_takeOut_drains : exec (.serviceStateTakeOut r a) s =
    .next (((((s.adminOpen r).claimed r k sl n).moveUnit k sl n .draining 0).beginDrain (k, sl, n)).checkDrained (k, sl, n)) := by
  refine (exec_serviceStateTakeOut ..).trans (runService_waits h hunit (by rw [State.lastOfPair_adminOpen, hpair]) (.inl hup) ?_)
  have hfree : ¬(k = .slice ∧
      ((s.adminOpen r).portList.any fun p => decide (sliceOf p = n ∧ ((s.adminOpen r).unit .port 0 p).state ≠ .outOfService)) = true) := by
    rw [State.portList_adminOpen]
    rintro ⟨hk, hany⟩
    obtain ⟨p, hp, hserves⟩ := List.any_eq_true.mp hany
    obtain ⟨hslice, hstate⟩ := of_decide_eq_true hserves
    rw [State.unit_adminOpen] at hstate
    exact hstate (hports hk p hp hslice)
  exact (if_neg (by simp [hup])).trans (if_neg hfree)

theorem takeOut_drains : ∃ t, exec (.serviceStateTakeOut r a) s = .next t ∧
    ((t.unit k sl n).state = .draining ∨ (t.unit k sl n).state = .outOfService) ∧
    (k = .sm3Engine → (t.unit k sl n).state = .outOfService ∧ (t.unit k sl n).reason = 1 ∧
      (t.fn 0).admin.opened = ((s.adminOpen r).fn 0).admin.opened.erase r.idx) := by
  have hslice := unitOf_slice (State.unitOf_of_serviceUnit hunit)
  obtain ⟨hstate, htoken⟩ := State.unit_claimed_moveUnit (s := s.adminOpen r) (r := r) (k := k) (sl := sl) (n := n) (next := .draining)
    (by rw [State.unit_adminOpen, hup]; exact nofun)
  have hfn : ∀ fn, (((s.adminOpen r).claimed r k sl n).moveUnit k sl n .draining 0).fn fn = (s.adminOpen r).fn fn := fun fn =>
    State.moveUnit_keeps (fun u => u.fn fn) (fun _ _ _ _ _ _ _ _ => rfl) _ _ _ _ _ _
  refine ⟨_, exec_takeOut_drains h hunit hup hpair hports, ?_, ?_⟩
  all_goals generalize ((s.adminOpen r).claimed r k sl n).moveUnit k sl n .draining 0 = v at *
  · refine State.state_checkDrained ?_ hslice
    rw [State.unit_beginDrain hslice (by rw [hstate]; exact nofun), hstate]
  · rintro rfl
    have hdrained : (v.beginDrain (.sm3Engine, sl, n)).checkDrained (.sm3Engine, sl, n) = v.drainEnded .sm3Engine sl n :=
      State.checkDrained_ends hstate rfl rfl
    obtain ⟨hout, hreason⟩ := State.unit_drainEnded hstate hslice
    have hopened := State.opened_drainEnded_sm3 hstate htoken (by rw [hfn]; rfl) (by rw [hfn]; rfl)
    rw [hfn] at hopened
    rw [hdrained, ← h.pf]
    exact ⟨hout, hreason, hopened⟩

end TakeOut

/-! ### RETURN (R319 to R321, R746, R752) -/

section Return

variable {s : State} {r : AdminRef} {a : UnitArgs} (h : PfStarts r s) {k : UnitKind} {sl n : Nat}
  (hunit : s.serviceUnit a = some (k, sl, n))
include h hunit

theorem exec_return_up (hk : k ≠ .flash) (hup : (s.unit k sl n).state = .inService) :
    exec (.serviceStateReturn r a) s = ends s r (s.adminOpen r) stSuccess (s.unit k sl n).wb :=
  (exec_serviceStateReturn ..).trans <| runService_completes h hunit (decide_eq_false hk) (.inl hup) <| by simp [hup]

theorem return_tests (hk : k ≠ .flash) (hport : k ≠ .port) (hout : (s.unit k sl n).state = .outOfService) :
    ∃ t, exec (.serviceStateReturn r a) s = .next t ∧ (t.unit k sl n).state = .testing ∧ (t.unit k sl n).token = some (s.token r) := by
  refine ⟨_, (exec_serviceStateReturn ..).trans (runService_waits h hunit (decide_eq_false hk) (.inr hout)
    (t := ((s.adminOpen r).claimed r k sl n).moveUnit k sl n .testing 0) ?_),
    State.unit_claimed_moveUnit (by rw [State.unit_adminOpen, hout]; exact nofun)⟩
  simp [hout, hport, State.claimed]

end Return

/-- Whether a port's mode fits turns on the registers alone (R319, R321). -/
theorem State.modeFits_claimed (s : State) (r : AdminRef) (n : Nat) : ((s.adminOpen r).claimed r .port 0 n).modeFits n = s.modeFits n :=
  s.adminOpen_keeps (fun u => u.modeFits n) (fun _ _ _ _ => rfl) r

/-- A port under test, with what an earlier test left cleared (R320). -/
def State.portTested (s : State) (n : Nat) : State :=
  (s.moveUnit .port 0 n .testing 0).modPort n fun p => { p with prbsErr := false }

theorem State.fld_portTested (s : State) (n : Nat) (f : FieldRef) : (s.portTested n).fld f = s.fld f :=
  State.moveUnit_keeps (fun u => u.fld f) (fun _ _ _ _ _ _ _ _ => rfl) s .port 0 n .testing 0

section ReturnPort

variable {s : State} {r : AdminRef} {a : UnitArgs} (h : PfStarts r s) {n : Nat} (hunit : s.serviceUnit a = some (.port, 0, n))
  (hout : (s.unit .port 0 n).state = .outOfService)
include h hunit hout

theorem exec_return_sliceDown (hslice : s.up .slice 0 (sliceOf n) = false) :
    exec (.serviceStateReturn r a) s = ends s r (s.adminOpen r) stBusy (s.unit .port 0 n).wb :=
  (exec_serviceStateReturn ..).trans <| runService_completes h hunit rfl (.inr hout) <| by simp [hout, hslice]

variable (hslice : s.up .slice 0 (sliceOf n) = true)
include hslice

theorem exec_return_modeRefused (hmode : s.modeFits n = false) :
    exec (.serviceStateReturn r a) s = .next (((s.adminOpen r).claimed r .port 0 n).modeRefused n) := by
  have hfits := (s.modeFits_claimed r n).trans hmode
  refine (exec_serviceStateReturn ..).trans (runService_waits h hunit rfl (.inr hout) ?_)
  exact (if_neg (by simp [hout])).trans ((if_neg (by simp [hslice])).trans (if_pos ⟨rfl, congrArg Bool.not hfits⟩))

/-- A port without a test goes on to REJOINING (R320). -/
theorem exec_return_port (hmode : s.modeFits n = true) : exec (.serviceStateReturn r a) s =
    .next (if s.fld (F.portCtrl_test n) = 0 then (((s.adminOpen r).claimed r .port 0 n).portTested n).moveUnit .port 0 n .rejoining 0
      else ((s.adminOpen r).claimed r .port 0 n).portTested n) := by
  have hfits := (s.modeFits_claimed r n).trans hmode
  have htest : (((s.adminOpen r).claimed r .port 0 n).portTested n).fld (F.portCtrl_test n) = s.fld (F.portCtrl_test n) :=
    (State.fld_portTested _ n _).trans (s.adminOpen_keeps (fun u => u.fld (F.portCtrl_test n)) (fun _ _ _ _ => rfl) r)
  refine (exec_serviceStateReturn ..).trans (runService_waits h hunit rfl (.inr hout) ?_)
  rw [← htest]
  exact (if_neg (by simp [hout])).trans ((if_neg (by simp [hslice])).trans (if_neg fun ⟨_, hunfit⟩ =>
    nomatch (congrArg Bool.not hfits).symm.trans hunfit))

theorem return_port (hmode : s.modeFits n = true) : ∃ t, exec (.serviceStateReturn r a) s = .next t ∧
    (t.unit .port 0 n).token = some (s.token r) ∧ (s.fld (F.portCtrl_test n) = 0 → (t.unit .port 0 n).state = .rejoining) ∧
    (s.fld (F.portCtrl_test n) ≠ 0 → (t.unit .port 0 n).state = .testing) := by
  refine ⟨_, exec_return_port h hunit hout hslice hmode, ?_⟩
  have htested : (((s.adminOpen r).claimed r .port 0 n).portTested n).unit .port 0 n =
    (((s.adminOpen r).claimed r .port 0 n).moveUnit .port 0 n .testing 0).unit .port 0 n := rfl
  obtain ⟨hstate, htoken⟩ := State.unit_claimed_moveUnit (s := s.adminOpen r) (r := r) (k := .port) (sl := 0) (n := n) (next := .testing)
    (by rw [State.unit_adminOpen, hout]; exact nofun)
  rw [← htested] at hstate htoken
  generalize ((s.adminOpen r).claimed r .port 0 n).portTested n = v at *
  split
  next hnone =>
    obtain ⟨since, hself⟩ := State.unit_moveUnit_self (s := v) (next := .rejoining) (by rw [hstate]; exact nofun) 0
    rw [hself]
    exact ⟨htoken, fun _ => rfl, fun hsome => absurd hnone hsome⟩
  next hsome => exact ⟨htoken, fun hnone => absurd hnone hsome, fun _ => hstate⟩

end ReturnPort

/-! ### UNIT_DRAIN_COMPLETE (R746, R751) -/

section Drain

variable {s : State} (h : Serving s) {a : UnitArgs}
include h

theorem exec_unitDrainComplete_none (hnone : unitOf a = none) : exec (.unitDrainComplete a) s = .next s :=
  (whenWorking_of_serving h _).trans (by rw [hnone])

variable {k : UnitKind} {sl n : Nat} (hunit : unitOf a = some (k, sl, n))
include hunit

theorem exec_unitDrainComplete_idle (hidle : (s.unit k sl n).state ≠ .draining) : exec (.unitDrainComplete a) s = .next s :=
  (whenWorking_of_serving h _).trans <| by
    rw [hunit]
    exact if_pos hidle

theorem exec_unitDrainComplete (hstate : (s.unit k sl n).state = .draining) (hrole : s.roleGone (k, sl, n) = true) :
    exec (.unitDrainComplete a) s = .next (s.checkDrained (k, sl, n)) :=
  (whenWorking_of_serving h _).trans <| by
    rw [hunit]
    simp [hstate, hrole]

end Drain

/-! ### SELF_TEST_COMPLETE (R503, R746, R748) -/

/-- The outcome of a port's pattern test, as the port shows it (R320). -/
def State.testNoted (s : State) (k : UnitKind) (n : Nat) (pass : Bool) : State :=
  if k = .port ∧ s.fld (F.portCtrl_test n) = 2 then s.modPort n fun p => { p with prbsErr := !pass } else s

theorem State.testNoted_keeps {β : Sort _} (obs : State → β) (h : ∀ (s : State) x, obs { s with ports := x } = obs s) (s : State)
    (k : UnitKind) (n : Nat) (pass : Bool) : obs (s.testNoted k n pass) = obs s := by
  unfold State.testNoted
  split
  exacts [h s _, rfl]

@[simp] theorem State.unit_testNoted (s : State) (k : UnitKind) (n : Nat) (pass : Bool) (j : UnitKind) (sl m : Nat) :
    (s.testNoted k n pass).unit j sl m = s.unit j sl m := State.testNoted_keeps (fun u => u.unit j sl m) (fun _ _ => rfl) s k n pass

section Test

variable {s : State} (h : Serving s) {a : UnitArgs}
include h

theorem exec_selfTestComplete_none (hnone : unitOf a = none) (pass : Bool) : exec (.selfTestComplete a pass) s = .next s :=
  (whenWorking_of_serving h _).trans (by rw [hnone])

variable {k : UnitKind} {sl n : Nat} (hunit : unitOf a = some (k, sl, n))
include hunit

theorem exec_selfTestComplete_idle (hidle : (s.unit k sl n).state ≠ .testing) (pass : Bool) :
    exec (.selfTestComplete a pass) s = .next s :=
  (whenWorking_of_serving h _).trans <| by
    rw [hunit]
    exact if_pos hidle

variable (hstate : (s.unit k sl n).state = .testing)
include hstate

theorem exec_selfTestComplete (hregions : k = .slice → s.badRegion n = none) (pass : Bool) : exec (.selfTestComplete a pass) s =
    .next (if pass then (s.testNoted k n pass).testPassed (k, sl, n) else (s.testNoted k n pass).testFailed (k, sl, n)) := by
  have hnone : (if k = .slice then (s.testNoted k n pass).badRegion n else none) = none := by
    rw [State.testNoted_keeps (fun u => u.badRegion n) fun _ _ => rfl]
    split
    next hk => exact hregions hk
    next => rfl
  refine (whenWorking_of_serving h _).trans ?_
  rw [hunit]
  refine (if_neg (by simp [hstate])).trans ?_
  extract_lets v
  split
  next region hsome => exact nomatch hnone.symm.trans hsome
  next => rfl

/-- Ternary regions that overlap or go beyond the rows fail the slice's test (R503). -/
theorem exec_selfTestComplete_badRegion {region : Nat} (hk : k = .slice) (hregion : s.badRegion n = some region) (pass : Bool) :
    exec (.selfTestComplete a pass) s = .next ((s.event 0x6005 3 [.q n, .q region]).testFailed (k, sl, n)) := by
  refine (whenWorking_of_serving h _).trans ?_
  rw [hunit]
  subst hk
  simp [hstate, hregion]

theorem selfTestComplete_fails (pass : Bool) (hfails : pass = false ∨ (k = .slice ∧ s.badRegion n ≠ none)) :
    ∃ t, exec (.selfTestComplete a pass) s = .next t ∧ (t.unit k sl n).state = .outOfService ∧ (t.unit k sl n).reason = 4 := by
  by_cases hbad : k = .slice ∧ s.badRegion n ≠ none
  · obtain ⟨hk, hsome⟩ := hbad
    obtain ⟨region, hregion⟩ := Option.ne_none_iff_exists'.mp hsome
    refine ⟨_, exec_selfTestComplete_badRegion h hunit hstate hk hregion pass, State.unit_testFailed ?_⟩
    exact (State.event_keeps (fun u => (u.unit k sl n).state) (fun _ _ _ _ => rfl) s _ _ _).trans hstate
  · obtain rfl := hfails.resolve_right hbad
    refine ⟨_, exec_selfTestComplete h hunit hstate (fun hk => of_not_not fun hsome => hbad ⟨hk, hsome⟩) false, State.unit_testFailed ?_⟩
    rw [State.unit_testNoted, hstate]

theorem selfTestComplete_passes (hk : k ≠ .parseLane) (hregions : k = .slice → s.badRegion n = none) :
    ∃ t, exec (.selfTestComplete a true) s = .next t ∧ (t.unit k sl n).state = .rejoining ∧ (t.unit k sl n).fence = s.ream := by
  have hpassed : (s.testNoted k n true).testPassed (k, sl, n) = (s.testNoted k n true).toRejoin k sl n := if_neg hk
  have hream : (s.testNoted k n true).ream = s.ream := State.testNoted_keeps State.ream (fun _ _ => rfl) s k n true
  obtain ⟨since, hself⟩ := State.unit_toRejoin (s := s.testNoted k n true) (k := k) (sl := sl) (n := n) (by rw [State.unit_testNoted, hstate])
  refine ⟨_, exec_selfTestComplete h hunit hstate hregions true, ?_⟩
  rw [if_pos rfl, hpassed, hself]
  exact ⟨rfl, hream⟩

end Test

section TestLane

variable {s : State} (h : Serving s) {a : UnitArgs} {sl n : Nat} (hunit : unitOf a = some (.parseLane, sl, n))
  (hstate : (s.unit .parseLane sl n).state = .testing) (hnew : (s.slice sl).rejoin.has n = false)
include h hunit hstate

theorem exec_selfTestComplete_lane :
    exec (.selfTestComplete a true) s = .next ((s.toRejoin .parseLane sl n).rejoinLane sl n) :=
  exec_selfTestComplete h hunit hstate nofun true

include hnew

theorem selfTestComplete_laneWaits (hactive : (s.slice sl).active < 4) (hcommit : s.coh.phase = .armed ∨ s.coh.draining ≠ []) :
    ∃ t, exec (.selfTestComplete a true) s = .next t ∧ (t.unit .parseLane sl n).state = .rejoining ∧
      (t.unit .parseLane sl n).fence = s.ream := by
  obtain ⟨since, hself⟩ := State.unit_toRejoin hstate
  obtain ⟨hslices, hcoh⟩ := s.toRejoin_keeps .parseLane sl n
  have hslice : (s.toRejoin .parseLane sl n).slice sl = s.slice sl := by rw [State.slice, hslices, State.slice]
  have hwaits := State.rejoinLane_waits (s := s.toRejoin .parseLane sl n) (by rw [hself]) (hslice ▸ hnew) (hslice ▸ hactive) (hcoh ▸ hcommit)
  refine ⟨_, exec_selfTestComplete_lane h hunit hstate, ?_⟩
  rw [hwaits, hself]
  exact ⟨rfl, rfl⟩

theorem selfTestComplete_laneSpare (hactive : 4 ≤ (s.slice sl).active)
    (hroles : ∀ l ∈ (s.slice sl).lanes, (s.unit .parseLane sl l).role = none) :
    ∃ t, exec (.selfTestComplete a true) s = .next t ∧ (t.unit .parseLane sl n).state = .outOfService ∧
      (t.unit .parseLane sl n).reason = 6 := by
  obtain ⟨since, hself⟩ := State.unit_toRejoin hstate
  obtain ⟨hslices, -⟩ := s.toRejoin_keeps .parseLane sl n
  have hslice : (s.toRejoin .parseLane sl n).slice sl = s.slice sl := by rw [State.slice, hslices, State.slice]
  have hspare := State.rejoinLane_spare (s := s.toRejoin .parseLane sl n) (lane := n) (by rw [hself]) (hslice ▸ hnew) (hslice ▸ hactive)
    fun l hl => (State.role_toRejoin hstate l).trans (hroles l (hslice ▸ hl))
  have hreason := State.reason_moveUnit_out (s := s.toRejoin .parseLane sl n) (k := .parseLane) (sl := sl) (n := n) (reason := 6)
    fun hout => by rw [hself] at hout; cases hout
  refine ⟨_, exec_selfTestComplete_lane h hunit hstate, ?_⟩
  rw [hspare, State.unit_serviceDone]
  exact ⟨State.state_moveUnit _ _ _ _ _ _, hreason⟩

end TestLane

/-! ### UNIT_FENCE_REACHED (R288, R320, R321, R746 to R753) -/

/-- The kinds whose units rejoin at a Ream boundary (R748). -/
def OfReam (k : UnitKind) : Prop :=
  k = .sm3Engine ∨ k = .signer ∨ k = .builderSide ∨ k = .deckleSide ∨ k = .cryEngine ∨ k = .stoEngine

/-- A unit of such a kind as it rejoins. -/
def State.rejoined (s : State) (k : UnitKind) (sl n : Nat) : State :=
  match k with
  | .cryEngine => s.rejoinEngine false n
  | .stoEngine => s.rejoinEngine true n
  | _ => s.rejoinUnit (k, sl, n)

theorem State.state_rejoined (s : State) {k : UnitKind} {sl n : Nat} (hk : OfReam k) (hslice : perSlice k = false → sl = 0)
    (hn : n < kindSpare k) : ((s.rejoined k sl n).unit k sl n).state = .inService := by
  rcases hk with rfl | rfl | rfl | rfl | rfl | rfl
  · exact s.state_rejoinUnit_own sl (.inl rfl) hn
  · exact s.state_rejoinUnit_own sl (.inr rfl) hn
  · exact s.state_rejoinUnit_builder sl n
  · exact s.state_rejoinUnit_deckle sl n
  · obtain rfl := hslice rfl
    exact s.state_rejoinEngine false hn
  · obtain rfl := hslice rfl
    exact s.state_rejoinEngine true hn

section Fence

variable {s : State} (h : Serving s) {a : UnitArgs}
include h

theorem exec_unitFenceReached_none (hnone : unitOf a = none) : exec (.unitFenceReached a) s = .next s :=
  (whenWorking_of_serving h _).trans (by rw [hnone])

theorem exec_unitFenceReached_idle {k : UnitKind} {sl n : Nat} (hunit : unitOf a = some (k, sl, n))
    (hidle : (s.unit k sl n).state ≠ .rejoining) : exec (.unitFenceReached a) s = .next s :=
  (whenWorking_of_serving h _).trans <| by
    rw [hunit]
    exact if_pos hidle

variable {sl n : Nat}

theorem exec_unitFenceReached_port (hunit : unitOf a = some (.port, sl, n)) (hstate : (s.unit .port sl n).state = .rejoining) :
    exec (.unitFenceReached a) s =
      if s.modeFits n then .next ((s.modPort n fun p => { p with modeErr := false }).enterService (.port, sl, n) 0)
      else .next (s.modeRefused n) :=
  (whenWorking_of_serving h _).trans <| by
    rw [hunit]
    exact if_neg (by simp [hstate])

theorem exec_unitFenceReached_slice (hunit : unitOf a = some (.slice, sl, n)) (hstate : (s.unit .slice sl n).state = .rejoining) :
    exec (.unitFenceReached a) s =
      if s.coh.phase = .armed ∨ s.coh.draining ≠ [] then .next s else .next (s.enterService (.slice, sl, n) 0) :=
  (whenWorking_of_serving h _).trans <| by
    rw [hunit]
    exact if_neg (by simp [hstate])

theorem exec_unitFenceReached_flash (hunit : unitOf a = some (.flash, sl, n)) (hstate : (s.unit .flash sl n).state = .rejoining) :
    exec (.unitFenceReached a) s = .next s :=
  (whenWorking_of_serving h _).trans <| by
    rw [hunit]
    exact if_neg (by simp [hstate])

theorem exec_unitFenceReached_ream {k : UnitKind} (hk : OfReam k) (hunit : unitOf a = some (k, sl, n))
    (hstate : (s.unit k sl n).state = .rejoining) : exec (.unitFenceReached a) s =
      if s.ream = (s.unit k sl n).fence then .next s else .next (s.rejoined k sl n) :=
  (whenWorking_of_serving h _).trans <| by
    rw [hunit]
    refine (if_neg (by simp [hstate])).trans ?_
    rcases hk with rfl | rfl | rfl | rfl | rfl | rfl <;> rfl

end Fence

/-! ### All of them -/

/-- Settles O56: what a command answers is read off the unit's state, and what a unit becomes is what the change of its state makes of it,
since nothing that follows from the change touches the unit. -/
theorem serviceStates : Obligations.ServiceStates := by
  unfold Obligations.ServiceStates
  refine ⟨fun s r a h => ⟨fun hnone => ?unknown, ?commands⟩, fun s a h => ⟨fun hnone => ?none, fun k sl n hunit => ?units⟩⟩
  case unknown => exact ⟨(exec_serviceStateQuery ..).trans (runService_unknown h hnone _ _),
      (exec_serviceStateTakeOut ..).trans (runService_unknown h hnone _ _),
      (exec_serviceStateReturn ..).trans (runService_unknown h hnone _ _)⟩
  case commands =>
    rintro k sl n x hunit rfl
    have hslice := unitOf_slice (State.unitOf_of_serviceUnit hunit)
    have hpermitted : ∀ hpair : s.lastOfPair (k, sl, n) = false, (s.adminOpen r).lastOfPair (k, sl, n) = false := fun hpair => by
      rw [State.lastOfPair_adminOpen, hpair]
    refine ⟨_, rfl, fun hmoving => ⟨?queryBusy, ?returnBusy, ?takeOutBusy⟩, ?query, ?lastOfPair, ?takeOutOut, ?takeOutPorts, ?takeOut,
      ?returnFlash, ?returnUp, ?returned, ?returnPort, ?returnSliceDown⟩
    case queryBusy => exact (exec_serviceStateQuery ..).trans <| runService_busy h hunit rfl hmoving
    case returnBusy => exact fun hk => (exec_serviceStateReturn ..).trans <| runService_busy h hunit (decide_eq_false hk) hmoving
    case takeOutBusy => exact fun hpair => (exec_serviceStateTakeOut ..).trans <| runService_busy h hunit (hpermitted hpair) hmoving
    case query =>
      exact fun hrest => (exec_serviceStateQuery ..).trans <| runService_completes h hunit rfl hrest <|
        congrArg (fun wb => (s.adminOpen r, some (stSuccess, wb))) (s.serviceWb_adminOpen r k sl n)
    case lastOfPair => exact fun hpair => (exec_serviceStateTakeOut ..).trans <| runService_denied h hunit (by rw [State.lastOfPair_adminOpen, hpair])
    case takeOutOut => exact exec_takeOut_out h hunit
    case takeOutPorts => exact exec_takeOut_ports h hunit
    case takeOut => exact takeOut_drains h hunit
    case returnFlash => exact fun hk => (exec_serviceStateReturn ..).trans <| runService_denied h hunit (decide_eq_true hk)
    case returnUp => exact exec_return_up h hunit
    case returned => exact return_tests h hunit
    case returnPort =>
      rintro rfl hout hup
      obtain rfl := hslice rfl
      exact ⟨return_port h hunit hout hup,
        fun hmode => ⟨_, exec_return_modeRefused h hunit hout hup hmode, State.modeRefused_stays_out _ n⟩⟩
    case returnSliceDown =>
      rintro rfl hout hdown
      obtain rfl := hslice rfl
      exact exec_return_sliceDown h hunit hout hdown
  case none =>
    exact ⟨exec_unitDrainComplete_none h hnone, exec_selfTestComplete_none h hnone, exec_unitFenceReached_none h hnone⟩
  case units =>
    have hslice := unitOf_slice hunit
    refine ⟨exec_unitDrainComplete_idle h hunit, ?drained, ?working, exec_selfTestComplete_idle h hunit,
      fun hstate => ⟨?passes, ?fails, ?slice, ?laneWaits, ?laneSpare, ?badRegion⟩, exec_unitFenceReached_idle h hunit,
      fun hstate => ⟨?port, ?portRefused, ?flash, ?sliceWaits, ?sliceEnters, ?reamWaits, ?reamEnters⟩⟩
    case drained =>
      exact fun hstate hidle hrole => ⟨_, exec_unitDrainComplete h hunit hstate hrole,
        by rw [State.checkDrained_ends hstate hidle hrole]; exact State.unit_drainEnded hstate hslice⟩
    case working =>
      exact fun hstate hwork hrole => (exec_unitDrainComplete h hunit hstate hrole).trans
        (congrArg Host.Outcome.next (State.checkDrained_working (.inl hwork)))
    case passes => exact fun hlane hk => selfTestComplete_passes h hunit hstate hlane fun heq => absurd heq hk
    case fails => exact selfTestComplete_fails h hunit hstate false (.inl rfl)
    case slice =>
      exact fun hk hregions => selfTestComplete_passes h hunit hstate (by rw [hk]; exact nofun) fun _ => hregions
    case laneWaits =>
      rintro rfl
      exact selfTestComplete_laneWaits h hunit hstate
    case laneSpare =>
      rintro rfl
      exact selfTestComplete_laneSpare h hunit hstate
    case badRegion => exact fun hk hbad => selfTestComplete_fails h hunit hstate true (.inr ⟨hk, hbad⟩)
    case port =>
      rintro rfl hmode
      exact ⟨_, (exec_unitFenceReached_port h hunit hstate).trans (if_pos hmode), State.state_enterService _ _ _ _ _⟩
    case portRefused =>
      rintro rfl hmode
      obtain rfl := hslice rfl
      exact ⟨_, (exec_unitFenceReached_port h hunit hstate).trans (if_neg (by simp [hmode])), State.modeRefused_stays_out s n⟩
    case flash =>
      rintro rfl
      exact exec_unitFenceReached_flash h hunit hstate
    case sliceWaits =>
      rintro rfl hcommit
      exact (exec_unitFenceReached_slice h hunit hstate).trans (if_pos hcommit)
    case sliceEnters =>
      rintro rfl hphase hdrained
      exact ⟨_, (exec_unitFenceReached_slice h hunit hstate).trans (if_neg (by simp [hphase, hdrained])),
        State.state_enterService _ _ _ _ _⟩
    case reamWaits => exact fun hk hfence => (exec_unitFenceReached_ream h hk hunit hstate).trans (if_pos hfence)
    case reamEnters =>
      exact fun hk hfence hn => ⟨_, (exec_unitFenceReached_ream h hk hunit hstate).trans (if_neg hfence), s.state_rejoined hk hslice hn⟩

end Sys2Proof.Machine
end
